-- ==== Sys2Proof/Word.lean ====
section
/-!
DEFINITION. The widths every other file is written in: the 32-bit register word of R3, the byte, and the
little-endian byte strings of R6 (byte 0 first).
-/

namespace Sys2Proof

/-- A host register word (R3: every register is 32 bits wide). -/
abbrev Word := BitVec 32

/-- A byte of a record, a frame or the BAR2 window. -/
abbrev Byte := BitVec 8

namespace Bytes

/-- The `n` low bytes of `v`, byte 0 first (R6). -/
def ofNat : (n : Nat) → (v : Nat) → List Byte
  | 0, _ => []
  | n + 1, v => BitVec.ofNat 8 v :: ofNat n (v / 256)

/-- The little-endian number a byte string spells (R6). -/
def toNat : List Byte → Nat
  | [] => 0
  | b :: bs => b.toNat + 256 * toNat bs

/-- Bytes `off` to `off + n - 1` of a byte string. -/
def slice (bs : List Byte) (off n : Nat) : List Byte := (bs.drop off).take n

/-- The `n`-byte little-endian number at byte `off`. -/
def at' (bs : List Byte) (off n : Nat) : Nat := toNat (slice bs off n)

/-- `bs` cut or zero-padded to exactly `n` bytes. -/
def padTo (bs : List Byte) (n : Nat) : List Byte := (bs.take n) ++ List.replicate (n - bs.length) 0#8

end Bytes

/-- The unsigned value of bits `hi`:`lo` of `w`. -/
def bitsOf (w hi lo : Nat) : Nat := (w >>> lo) % 2 ^ (hi - lo + 1)

/-- Bit `b` of `w`. -/
def bitOf (w b : Nat) : Bool := w.testBit b

/-- The two's complement reading of an `n`-bit number. -/
def signedOf (n v : Nat) : Int := if v % 2 ^ n < 2 ^ (n - 1) then (v % 2 ^ n : Nat) else (v % 2 ^ n : Nat) - (2 ^ n : Nat)

/-- The `n`-bit two's complement encoding of an integer. -/
def encodeSigned (n : Nat) (i : Int) : Nat := (i % (2 ^ n : Nat)).toNat

/-- A number held at the top of its width once it would pass it (the saturating counters). -/
def saturate (n v : Nat) : Nat := min v (2 ^ n - 1)

/-- `⌈a / b⌉`. -/
def ceilDiv (a b : Nat) : Nat := (a + b - 1) / b

end Sys2Proof
end

