-- ==== Sys2Proof/Records.lean ====
section
/-!
DEFINITION. The records the chapters of the spec lay out (clauses, authority records, orders, logbook records, frames),
as plain data. Commands carry some of them and the state holds them. Byte layouts are in Machine/Operands.lean.
-/

namespace Sys2Proof.Machine

/-! ## Logbook (R431) and events (R341) -/

/-- A logbook record (R431). `lseq` is assigned as the record enters the write buffer. -/
structure LogRec where
  block : Nat
  kind : Nat
  lseq : Nat
  hours : Nat
  pcyc : Nat
  evno : Nat
  sec : Nat
  ms : Nat
  rtcTime : Bool
  active : Bool
  arg : Nat
  rep : Nat
  payload : List Byte
  deriving DecidableEq, Repr

/-- A repeat entry (R435): the event counted, when its first counted copy came, how many copies, the time of the last. -/
structure LogRepeat where
  block : Nat
  evno : Nat
  arg : Nat
  first : Nat
  count : Nat
  lastSec : Nat
  lastMs : Nat
  deriving DecidableEq, Repr

/-! ## Clauses (R48, R50, R62) -/

/-- A clause record (R48) without its index, which is the key it is held under. NEXT is the order of the owner's chain.
`isCell` is the KIND bit of SPACE and `space` its low bits: a segment ID, or the cell ID of the south-west cell. -/
structure Clause where
  gen : Nat
  t0 : Nat
  t1 : Nat
  mi : Nat
  pclass : Nat
  isCell : Bool
  space : Nat
  lo : Nat
  hi : Nat
  joinNext : Bool
  dir : Bool
  current : Bool
  hold : Bool
  held : Bool
  follow : Bool
  deriving DecidableEq, Repr

/-- A free record whose index has never been taken. -/
def Clause.free : Clause := ⟨0, 0, 0, 0, 0, false, 0, 0, 0, false, false, false, false, false, false⟩

/-- A follow-table entry (R62): the two handles and SEP_MM. -/
structure FollowPair where
  leader : Nat
  follower : Nat
  sepMm : Nat
  deriving DecidableEq, Repr

/-- The command descriptor of a CLS primitive (R50), without OP; `space` is the SPACE word. `bad`: a bit that R50 says is 0 is 1. -/
structure ClsDesc where
  force : Bool
  link : Bool
  dir : Bool
  dry : Bool
  mi : Nat
  ref : Nat
  t0 : Nat
  t1 : Nat
  space : Nat
  lo : Nat
  hi : Nat
  bad : Bool
  deriving DecidableEq, Repr

/-- The ports at which CLS takes primitives (R50): the host port, whose descriptor stands in `CLS_CMD0`–`CLS_CMD7`, and the
core and dispatcher queues, which bring theirs. -/
inductive ClsPort where
  | host
  | core (d : ClsDesc)
  | dispatcher (d : ClsDesc)
  deriving DecidableEq, Repr

/-- An inflated footprint (R64): centre and radius, mm. -/
structure Footprint where
  e : Int
  n : Int
  r : Nat
  deriving DecidableEq, Repr

/-! ## Authority (R82, R87) -/

/-- An authority record (R87). -/
structure AuthRec where
  mi : Nat
  qclass : Nat
  cell : Bool
  revoked : Bool
  rep : Bool
  zero : Nat
  limiter : Nat
  limE : Int
  limN : Int
  vceil : Nat
  validUntil : Nat
  posEpoch : Nat
  limR : Nat
  tokSeq : Nat
  deriving DecidableEq, Repr

/-- A sealed token block (R82); `revbm` lists the machines whose bit is set. -/
structure TokenBlock where
  tense : Nat
  cause : Nat
  seq : Nat
  btime : Nat
  lifeMs : Nat
  cover : Nat
  revbm : List Nat
  deriving DecidableEq, Repr

/-! ## Air frames (R213) -/

/-- A frame: the MAC header fields of R213 and the payload. `dst = none` is DSTP = 0; `tref` holds all 16 bits of bytes 8–9. -/
structure AirFrame where
  ftype : Nat
  pairId : Nat
  src : Nat
  dst : Option Nat
  fseq : Nat
  ttl : Nat
  bi : Nat
  tref : Nat
  relayed : Bool
  late : Bool
  more : Bool
  payload : List Byte
  deriving DecidableEq, Repr

/-- The MAC header (R213), in the byte order of R6. -/
def AirFrame.header (f : AirFrame) : List Byte :=
  Bytes.ofNat 1 (f.ftype % 16 + 16 * f.relayed.toNat + 32 * f.dst.isSome.toNat + 64 * f.late.toNat + 128 * f.more.toNat)
    ++ Bytes.ofNat 1 (f.ttl % 8 + 8 * f.bi) ++ Bytes.ofNat 2 f.pairId ++ Bytes.ofNat 2 f.src ++ Bytes.ofNat 2 f.fseq ++ Bytes.ofNat 2 f.tref
    ++ (match f.dst with
      | some d => Bytes.ofNat 2 d
      | none => [])

/-- The PSDU of a frame up to the end of its payload. -/
def AirFrame.body (f : AirFrame) : List Byte := f.header ++ f.payload

/-- The frame that header and payload spell. -/
def AirFrame.ofBody (b : List Byte) : AirFrame :=
  let fctl := Bytes.at' b 0 1
  let hops := Bytes.at' b 1 1
  let dstp := bitOf fctl 5
  { ftype := fctl % 16, pairId := Bytes.at' b 2 2, src := Bytes.at' b 4 2, dst := if dstp then some (Bytes.at' b 10 2) else none,
    fseq := Bytes.at' b 6 2, ttl := hops % 8, bi := hops / 8, tref := Bytes.at' b 8 2, relayed := bitOf fctl 4, late := bitOf fctl 6,
    more := bitOf fctl 7, payload := b.drop (if dstp then 12 else 10) }

/-- A frame as a modem receives it: the bytes of its PSDU after whitening is undone, CMAC and CRC among them, and the SNR, 0.25 dB. -/
structure AirRx where
  modem : Nat
  psdu : List Byte
  snr : Nat
  deriving DecidableEq, Repr

/-- What a modem sends. N-PHY (R207): the bytes on air, preamble first, the bits of each byte from the lowest. W-PHY (R208): MCS and PSDU length of
the SIGNAL symbol with its parity bit, the state the scrambler starts from, and the PSDU. -/
inductive AirSignal where
  | narrow (bytes : List Byte)
  | wide (mcs len : Nat) (parity : Bool) (seed : Nat) (psdu : List Byte)
  deriving DecidableEq, Repr

/-- A standing grant (R227): interval and offset (RPT: `k` 1), half, first tick, ticks, and for RPT the BI index. -/
structure Grant where
  k : Nat
  ofs : Nat
  half : Nat
  bi : Nat
  start : Nat
  len : Nat
  deriving DecidableEq, Repr

/-- No grant. -/
def Grant.none : Grant := ⟨0, 0, 0, 0, 0, 0⟩

/-- The joining states `AIR_MACH_STAT0.STATE` shows (R247). -/
inductive JoinState where
  | notJoined | awake | asleep | lost
  deriving DecidableEq, Repr

/-- The encoding of `AIR_MACH_STAT0.STATE`. -/
def JoinState.toNat : JoinState → Nat
  | .notJoined => 0
  | .awake => 1
  | .asleep => 2
  | .lost => 3

/-- What AIR keeps for a machine beyond its registry entry (R226–R239; the AIRMACH mirror message carries it). -/
structure AirMach where
  state : JoinState
  caps : Nat
  wch : Nat
  ctrl : Nat
  mcsUl : Nat
  obs : Grant
  rpt : Grant
  /-- Bursts that must still carry a changed grant (R228). -/
  resend : Nat
  snrs : List Nat
  dlSnr : Nat
  crcFails : Nat
  goodRun : Nat
  missed : Nat
  ontime : Nat
  guard : Nat
  heldFrames : List (List Byte)
  sleepSent : Bool
  wakeHeld : Bool
  polled : Bool
  upPend : Nat
  lastHeard : Nat
  lostAt : Nat
  /-- Bytes of the machine's bundles; a free value until the first OBS frame gives it (R229). -/
  bundleLen : Nat
  lenKnown : Bool
  missEvent : Option Nat
  /-- The machine has acknowledged SLEEP. -/
  sleepAcked : Bool
  /-- A MOVE sent: the new wide channel and the clause time from which it applies. -/
  move : Option (Nat × Nat)
  /-- The RPT grant is the host's (R246). -/
  rptSet : Bool
  deriving DecidableEq, Repr

/-- A machine that has never joined. -/
def AirMach.none : AirMach :=
  ⟨.notJoined, 0, 0, 0, 0, Grant.none, Grant.none, 0, [], 0, 0, 0, 0, 0, 0, [], false, false, false, 0, 0, 0, 0, false, Option.none, false, Option.none, false⟩

/-! ## Solving (R112, R117, R128, R137) -/

/-- The reference an epoch was matched with (R117, R128, R140): REFSRC, predicted, REF_AGE. -/
structure RefUse where
  src : Nat
  pred : Bool
  age : Nat
  deriving DecidableEq, Repr

/-- A signal's observation at an epoch (R113, R116): the signal, code × 64 + SVID; C/N0 in 0.25 dB-Hz; pseudorange and carrier phase in mm,
corrected to the epoch; their rate in mm/s, where the format carries one; lock time, which is exact in units of 100 ms or only a least
time; HALF and SLIP. -/
structure Obs where
  key : Nat
  cn0 : Nat
  code : Rat
  carrier : Rat
  rate : Option Rat
  lock : Nat
  exact : Bool
  half : Bool
  slip : Bool
  deriving DecidableEq, Repr

/-- A satellite of a reference set (R159, R162): system × 64 + SVID, elevation in 0.01 degrees, whether it enters the set as usable, issue
and content of the ephemeris used. -/
structure RefSat where
  sat : Nat
  elev : Int
  usable : Bool
  eph : Option (Nat × Nat)
  deriving DecidableEq, Repr

/-- A reference epoch SLV keeps (R117): clause time, usable, antenna (1 ANT_A, 2 ANT_B, 0 a stream's), position of the phase centre (ECEF,
0.1 mm), satellites and observations; and the ANT_A-to-ANT_B double-difference integers GRX holds fixed, by signal (R139). -/
structure RefEpoch where
  epoch : Nat
  usable : Bool
  ant : Nat
  pos : List Int
  sats : List RefSat
  obs : List Obs
  ints : List (Nat × Int)
  deriving DecidableEq, Repr

/-- A bundle in the intake or in a lane (R112): its header, its observations, whether it came by R143, the reference it was matched with and
what that reference observed, whether its epoch restarts after a lane fault, without a search (R134), and whether its machine was
deregistered while it was in a lane (R145). -/
structure Bundle where
  mi : Nat
  epoch : Nat
  restart : Bool
  static : Bool
  bseq : Nat
  link : Bool
  obs : List Obs
  matched : Option RefUse
  ref : Option RefEpoch
  noSearch : Bool
  void : Bool
  deriving DecidableEq, Repr

/-- The lane time of an epoch, µs: in all, and of its search (R122, R133). -/
structure LaneTime where
  solveUs : Nat
  searchUs : Nat
  deriving DecidableEq, Repr

/-- Where SLV meets an error (R134, R147): a lane's residue mismatch, its scratch memory, a correctable one, the cache, the state of a
machine in DRAM. The number beside it is the lane's, or the machine's MI; the others have none. -/
inductive SlvError where
  | residue
  | scratch
  | corrected
  | cache
  | stored
  deriving DecidableEq, Repr

/-- A solution record (R128). -/
structure SolRec where
  mi : Nat
  qclass : Nat
  fix : Nat
  pred : Bool
  static : Bool
  nsat : Nat
  epoch : Nat
  nfix : Nat
  ratio : Nat
  e : Int
  n : Int
  u : Int
  ve : Int
  vn : Int
  vu : Int
  heading : Nat
  h3 : Nat
  v3 : Nat
  refAge : Nat
  refSrc : Nat
  lane : Nat
  qreason : Nat
  bseq : Nat
  solveUs : Nat
  hdop : Nat
  resRms : Nat
  nstate : Nat
  deriving DecidableEq, Repr

/-- A Gaussian estimate: mean and covariance. -/
structure Est where
  x : List Rat
  p : List (List Rat)
  deriving DecidableEq, Repr

/-- The states of a filter beyond position and velocity, in the order of R120: whether there is a troposphere state, the satellites with an
ionosphere state, the signals with an ambiguity. -/
structure Layout where
  tropo : Bool
  ions : List Nat
  ambs : List Nat
  deriving DecidableEq, Repr

/-- What a filter keeps of a signal of its last solved epoch (R121): lock of machine and reference, carrier and rate of the machine. -/
structure SigMem where
  key : Nat
  lock : Nat
  refLock : Nat
  carrier : Rat
  rate : Option Rat
  deriving DecidableEq, Repr

/-- SLV's filter for a machine (R119–R124): whether it has started; its states and their float estimate; the pivot of each code, as its
signal; the ambiguities held fixed, with their integers; FIX, RATIO, consecutive epochs on an accepted full fix, whether Q0 was reached
since it started; the epoch of the last search, the last epoch solved; a RESET_FILTER and a REFIX that wait for the next epoch; REFSRC of
the reference it is on, 0xFF for none yet; signals of the last solved epoch; the course last shown. -/
structure SlvFilter where
  started : Bool
  lay : Layout
  est : Est
  pivots : List Nat
  fixed : List (Nat × Int)
  fix : Nat
  ratio : Nat
  hold : Nat
  everQ0 : Bool
  lastSearch : Option Nat
  lastEpoch : Option Nat
  reset : Bool
  refix : Bool
  src : Nat
  sigs : List SigMem
  heading : Nat
  deriving DecidableEq, Repr

/-- A filter not started. -/
def SlvFilter.fresh : SlvFilter :=
  { started := false, lay := ⟨false, [], []⟩, est := ⟨[], []⟩, pivots := [], fixed := [], fix := 0, ratio := 0, hold := 0, everQ0 := false,
    lastSearch := none, lastEpoch := none, reset := false, refix := false, src := 0xFF, sigs := [], heading := 0 }

/-- SLV's rate state for a machine (R137, R138): intervals requested and granted, a larger interval computed and since when,
outcomes since the last one copied to the host, how often it lost a fix, the square of the horizontal speed (mm/s) and the position E, N of its last
solution. -/
structure SlvRate where
  req : Nat
  granted : Nat
  larger : Option (Nat × Nat)
  decim : Nat
  fixLost : Nat
  speed2 : Option Nat
  pos : Option (Int × Int)
  deriving DecidableEq, Repr

/-- A machine without a request. -/
def SlvRate.none : SlvRate := ⟨0, 0, Option.none, 0, 0, Option.none, Option.none⟩

/-! ## The pair (R302, R307, R308) -/

/-- The roles of R302. -/
inductive Role where
  | none | active | sync | ready | failed
  deriving DecidableEq, Repr

/-- The encoding of R302. -/
def Role.toNat : Role → Nat
  | .none => 0
  | .active => 1
  | .sync => 2
  | .ready => 3
  | .failed => 4

/-- The role a heartbeat's field shows; values not used show none. -/
def roleOf (n : Nat) : Role := if n = 1 then .active else if n = 2 then .sync else if n = 3 then .ready else if n = 4 then .failed else .none

/-- A heartbeat (R308). `swapTest`: its SWAP_REQ asks for the token path test first, which R308 gives no bit (log 51). -/
structure Heartbeat where
  slot : Nat
  role : Role
  release : Bool
  swapReq : Bool
  swapTest : Bool
  swapAck : Bool
  swapNak : Bool
  fault : Bool
  pfw : Bool
  eject : Bool
  readyFlag : Bool
  health : Nat
  pairTag : Nat
  pairId : Nat
  seq : Nat
  missRun : Nat
  ctrlUp : Nat
  mseqTx : Nat
  mseqAck : Nat
  stamp : Nat
  cause : Nat
  deriving DecidableEq, Repr

/-- A HELLO (R307). -/
structure Hello where
  slot : Nat
  serial : Nat
  pairTag : Nat
  pairId : Nat
  originX : Nat
  originY : Nat
  originZ : Nat
  siteEpoch : Nat
  deriving DecidableEq, Repr

/-- The fleet state AUTSTATE carries (R309): latch, causes, latched sources, COMMA sources and their times, re-arm state,
and per machine the revocation (0 none, 1 solecism, 2 host) and WAIT. -/
structure AutFleet where
  fsLatch : Bool
  fcause : Nat
  ccause : Nat
  fsAir : Bool
  fsStart : Bool
  disc : Bool
  commaPin : Bool
  commaAge : Bool
  commaRearm : Bool
  commaTest : Bool
  rearmAt : Nat
  ageOkSince : Option Nat
  rearmKey : Option Nat
  revs : List (Nat × Nat × Bool)
  deriving DecidableEq, Repr

/-! ## Metering (R396, R399, R406) -/

/-- A group's accumulators, in 2^-32 mJ modulo 2^96, and its signed energy since the last whole second. -/
structure DmuGroup where
  imp : Nat
  exp : Nat
  second : Int
  deriving DecidableEq, Repr

/-- A group that has measured nothing. -/
def DmuGroup.zero : DmuGroup := ⟨0, 0, 0⟩

/-- A charging session (R406): order handle, machine, the bay's accumulators at its start, hours and TAI seconds then, and whether the
current has exceeded IDLE_MA. -/
structure DmuSession where
  order : Nat
  mi : Nat
  imp : Nat
  exp : Nat
  hours : Nat
  sec : Nat
  exceeded : Bool
  deriving DecidableEq, Repr

/-- A pulse output (R399, R400): spill count in 2^-32 mJ, PENDING, the local time until which it is busy with a pulse, whether it stands
at PENDING 65,535. -/
structure DmuPulse where
  spill : Int
  pending : Nat
  busy : Nat
  held : Bool
  deriving DecidableEq, Repr

/-- An output that starts from 0. -/
def DmuPulse.zero : DmuPulse := ⟨0, 0, 0, false⟩

/-- What METER messages and saves carry (R309, R401): accumulators, pulse outputs, open sessions. -/
structure DmuMeters where
  groups : List (Nat × DmuGroup)
  pulses : List (Nat × DmuPulse)
  sessions : List (Nat × Option DmuSession)
  deriving DecidableEq, Repr

/-! ## Work orders (R268) -/

/-- A work order (R268) and what DSP keeps beside its record. `aff` is the AFF word; BODY_LEN is the length of the body copied at
submission. `seq` orders the delay list and the READY orders by arrival; `readyTick` is the tick (10 ms of clause time) since which it
is READY; `offeredAt` the local time of the last ORDER; `late` it has been counted as a late release; `noMach` it has found no machine
once; `spilled` its delay-list entry is in the spill area. -/
structure Order where
  gen : Nat
  state : Nat
  prio : Nat
  hard : Bool
  clauseReq : Bool
  dir : Bool
  charge : Bool
  bay : Nat
  aff : Nat
  cmask : Nat
  notBefore : Nat
  deadline : Nat
  body : List Byte
  bodyOff : Nat
  space : Nat
  lo : Nat
  hi : Nat
  dur : Nat
  clause : Nat
  assigned : Option Nat
  tries : Nat
  why : Nat
  tOffer : Nat
  excl : Option Nat
  seq : Nat
  readyTick : Nat
  offeredAt : Nat
  late : Bool
  noMach : Bool
  spilled : Bool
  deriving DecidableEq, Repr

/-- An index never taken. -/
def Order.free : Order :=
  ⟨0, 0, 0, false, false, false, false, 0, 0, 0, 0, 0, [], 0, 0, 0, 0, 0, 0, Option.none, 0, 0, 0, Option.none, 0, 0, 0, false, false, false⟩


/-- The content of a mirror message (R309), one constructor per MTYPE. -/
inductive MirrorBody where
  | clause (idx : Nat) (c : Clause) (freeNext : Nat) (freeTail : List Nat) (mi : Nat) (chain : List Nat)
  | follow (entry : Nat) (f : Option FollowPair)
  | token (b : TokenBlock)
  | autState (f : AutFleet)
  | record (r : AuthRec) (written : Nat)
  | airMach (mi : Nat) (m : AirMach) (jctr : Nat) (reg serLo serHi parent : Nat) (quar : Option Nat)
  | airChan (fseq : Nat) (dlMcs : List (Nat × Nat)) (sctr : List (Nat × Nat)) (duty : List (Nat × List (Nat × Nat)))
  | refPos (pos : List Int)
  | regWrite (addr : Nat) (bank : Nat) (value : Nat)
  | soft (bytes : List Byte)
  | gap (slot : Nat) (pair : Option Nat) (acc out : Int)
  | filter (mi : Nat) (f : SlvFilter)
  | solution (r : SolRec)
  | rate (mi : Nat) (r : SlvRate)
  | meter (m : DmuMeters) (last : Nat)
  | order (idx : Nat) (o : Order) (freeNext : Nat) (freeTail : List Nat)
  | dspList (mi cfg done : Nat)
  | snapEnd
  | handover
  deriving DecidableEq, Repr

/-- A mirror message (R310): its header and content. -/
structure MirrorMsg where
  snap : Bool
  mseq : Nat
  keyf : Nat
  body : MirrorBody
  deriving DecidableEq, Repr

/-- The output pins whose level a rule sets. -/
inductive Pin where
  | pfwN | failN | roleOutN | ppsOut | freqOut | gate0 | gate1
  | timedOut (n : Nat) | mclk (n : Nat) | pulseOut (n : Nat) | biasA | biasB | rhTx (n : Nat) | ethTx (n : Nat)
  deriving DecidableEq, Repr

/-! ## Network time (R196–R199) -/

/-- The PTP messages the rules name. -/
inductive PtpKind where
  | sync | delayReq | pdelayReq | pdelayResp | followUp | delayResp | pdelayRespFollowUp | announce | signaling | management
  deriving DecidableEq, Repr

/-- The messageType of IEEE 1588-2019. PRESUMED (log 40). -/
def PtpKind.code : PtpKind → Nat
  | .sync => 0
  | .delayReq => 1
  | .pdelayReq => 2
  | .pdelayResp => 3
  | .followUp => 8
  | .delayResp => 9
  | .pdelayRespFollowUp => 10
  | .announce => 11
  | .signaling => 12
  | .management => 13

/-- The message of a messageType. -/
def PtpKind.ofCode (n : Nat) : Option PtpKind :=
  [.sync, .delayReq, .pdelayReq, .pdelayResp, .followUp, .delayResp, .pdelayRespFollowUp, .announce, .signaling, .management].find? fun k =>
    k.code == n

/-- An event message is stamped (R199): Sync, Delay_Req, Pdelay_Req and Pdelay_Resp. -/
def PtpKind.event (k : PtpKind) : Bool := k.code < 4

/-- What an Announce carries (R197): clockClass, clockAccuracy, traceability, timeSource, currentUtcOffset and whether it is valid,
leap flags (61, 59), priorities. -/
structure PtpAnnounce where
  clockClass : Nat
  accuracy : Nat
  traceable : Bool
  timeSource : Nat
  utcOffset : Nat
  utcValid : Bool
  leap61 : Bool
  leap59 : Bool
  prio1 : Nat
  prio2 : Nat
  deriving DecidableEq, Repr

/-- A PTP message the module sends: kind, whether a follow-up comes after it, domain, port identity of its sender (80 bits), sequenceId,
logMessageInterval, correctionField (ns), the device time it carries, the port identity it answers, and an Announce's content. -/
structure PtpMsg where
  kind : PtpKind
  twoStep : Bool
  domain : Nat
  src : Nat
  seq : Nat
  logInt : Int
  corr : Int
  time : Nat
  req : Nat
  announce : Option PtpAnnounce
  deriving DecidableEq, Repr

/-- A foreign master a port has heard (R197): its port identity, when it was last heard, whether twice within four announce intervals, and
its data set: priority1, class, accuracy, variance, priority2, grandmaster identity, steps removed. -/
structure PtpForeign where
  id : Nat
  last : Nat
  qualified : Bool
  data : List Nat
  deriving DecidableEq, Repr

/-- A GRX time solution as TIM receives it (R163): its epoch (clause time), device time less GNSS time + 19 s before the cable delay (ns), the
drift (ns/s), satellites, residual (mm), whether it is usable, and whether it rests on the reference antenna. -/
structure TimeSol where
  epoch : Nat
  offset : Int
  drift : Int
  nsat : Nat
  residMm : Nat
  usable : Bool
  fromRef : Bool
  deriving DecidableEq, Repr

/-! ## The reference receiver (R155–R169) -/

/-- A satellite in view for assignment (R155): signal, antenna, SVID, elevation in 0.01 degrees. -/
structure SatView where
  sig : Nat
  ant : Nat
  svid : Nat
  elev : Int
  deriving DecidableEq, Repr

/-- What an antenna's epoch gives (R160, R163, R166): CLK_OFF; offset and drift of the clock, ns and ns/s, with the residual, mm; the position of
the epoch's code measurements (ECEF, 0.1 mm). -/
structure AntMeas where
  clkOff : Int
  offset : Int
  drift : Int
  residMm : Nat
  codePos : List Int
  deriving DecidableEq, Repr

/-- What a channel measures at an epoch (R113, R157, R158): CN0, PR, CPD and DOP in the units of a signal block; whether its half-cycle
ambiguity is unresolved; the phase lock indicator, and the very-early/very-late asymmetry as a part of the prompt, in thousandths. -/
structure ChanMeas where
  ch : Nat
  cn0 : Nat
  pr : Nat
  cpd : Int
  dop : Int
  half : Bool
  pli : Int
  asym : Nat
  deriving DecidableEq, Repr

/-- A reference epoch's measurements (R159): both antennas and the channels. -/
structure RefMeas where
  a : AntMeas
  b : AntMeas
  chans : List ChanMeas
  deriving DecidableEq, Repr

/-- An ephemeris as broadcast (R162): its issue, a number that stands for its content, the clause times of its fit interval (ms) and the
signals the health it broadcasts reports healthy. -/
structure NavEph where
  issue : Nat
  content : Nat
  fitFrom : Nat
  fitTo : Nat
  healthy : List Nat
  deriving DecidableEq, Repr

/-- A navigation record (R161) and what its content gives: an ephemeris; almanac entries, system × 64 + SVID with a number that stands for the
content; the broadcast time of the end of reception, as clause time (R166); the UTC offset and leap second GPS and Galileo agree on
(R163). -/
structure NavRec where
  svid : Nat
  sig : Nat
  ant : Nat
  kind : Nat
  passed : Bool
  fec : Nat
  nbits : Nat
  bits : List Byte
  eph : Option NavEph
  alm : List (Nat × Nat)
  time : Option Nat
  utc : Option (Nat × Option (Nat × Bool))
  deriving DecidableEq, Repr

/-- A peak of a spectrum estimate (R164): centre offset from the path centre (10 kHz), width to −3 dB (kHz), dB above the median. -/
structure SpecPeak where
  offset : Int
  kHz : Nat
  db : Nat
  deriving DecidableEq, Repr

/-! ## Key messages (R415) -/

/-- An enrolment message as it arrives: the partner's public keys and signature, its life-cycle state and whether it holds a PAIR_ROOT;
the wrapped PAIR_ROOT and BGEN; or the partner's refusal. -/
inductive EnrolMsg where
  | keys (pub epub sig : List Byte) (lc : Nat) (holds : Bool)
  | root (wrapped : List Byte)
  | refusal (reason : Nat)
  deriving DecidableEq, Repr

/-- An enrolment message with the verdict of its CMAC. -/
structure EnrolRx where
  msg : EnrolMsg
  cmacOk : Bool
  deriving DecidableEq, Repr

/-- The bytes of a heartbeat as the link carries them, and the SWAP_TEST line beside them (R308, R320). -/
structure HeartbeatRx where
  msg : List Byte
  test : Bool
  deriving DecidableEq, Repr

/-- A PTP message that reaches a port (R196). -/
structure PtpRx where
  port : Nat
  msg : List Byte
  deriving DecidableEq, Repr

/-! ## Option store (R371) -/

/-- The fields of an option record that verifies (R371). -/
structure OptRec where
  serial : Nat
  mac0 : Nat
  mac1 : Nat
  simLevel : Bool
  budgetMw : Nat
  deriving DecidableEq, Repr

/-! ## Host accesses (R3, R330, R333) -/

/-- A write the host issues: an access to BAR0, bytes written to the BAR2 window, or MSI-X Enable in configuration
space. -/
inductive HostWrite where
  | bar0 (addr : Nat) (width : Nat) (value : Nat)
  | bar2 (offset : Nat) (bytes : List Byte)
  | msixEnable (on : Bool)
  deriving DecidableEq, Repr

end Sys2Proof.Machine
end

