-- ==== Sys2Proof/Syntax.lean ====
section
/-!
DEFINITION. The commands of the block: one constructor per row of the opcode table: those with operands first, each group in the order of the table (the runtime numbers only so many constructors that carry data). What an
operand stands for is said where the command has its meaning. Beside what a row names (a register value, a link, a machine) an operand
carries what only the world outside the model knows: a frame received, a measurement, whether a check on air passed.
-/

namespace Sys2Proof

open Machine

/-- A command (R4 and the rules named at each). -/
inductive Instr where
  /-- REGISTER_WRITE (R4). -/
  | registerWrite (w : HostWrite)
  /-- READ_CLEAR (R4). -/
  | readClear (addr : Nat) (width : Nat)
  /-- CTRL_EN_SET (R36). -/
  | ctrlEnSet (blk : Nat) (value : Word)
  /-- PARSE_CHECK (R38). -/
  | parseCheck (stopped : List Nat)
  /-- CTRL_EN_CLEAR (R10). -/
  | ctrlEnClear (blk : Nat) (value : Word)
  /-- LOAD_HOST (R25). -/
  | loadHost (slot : Bool)
  /-- LOAD_FLASH (R25). -/
  | loadFlash (slot : Bool)
  /-- APPLY_FULL (R27). -/
  | applyFull (slot : Bool)
  /-- APPLY_SECTIONS (R27). -/
  | applySections (slot : Bool)
  /-- STORE (R29). -/
  | store (slot : Bool)
  /-- STORE_COMPLETE (R29). -/
  | storeComplete (ok : Bool)
  /-- DISCARD (R41). -/
  | discard (slot : Bool)
  /-- SET_BOOT (R29). -/
  | setBoot (slot : Bool)
  /-- RESERVE (R54). -/
  | reserve (p : ClsPort)
  /-- CLS_RELEASE (R54). -/
  | clsRelease (p : ClsPort)
  /-- EXTEND (R54). -/
  | extend (p : ClsPort)
  /-- SHRINK (R54). -/
  | shrink (p : ClsPort)
  /-- CLS_SWAP (R54). -/
  | clsSwap (p : ClsPort)
  /-- QUERY_SPACE (R54). -/
  | querySpace (p : ClsPort)
  /-- QUERY_HANDLE (R54). -/
  | queryHandle (p : ClsPort)
  /-- SWEEP (R54). -/
  | sweep (p : ClsPort)
  /-- WARDEN_RENEWAL (R101). -/
  | wardenRenewal (strobeOk : Bool) (reported : Nat)
  /-- STOP_INPUT_ASSERT (R95). -/
  | stopInputAssert (b : Bool)
  /-- HOST_FULL_STOP (R95). -/
  | hostFullStop (on : Bool)
  /-- HOST_COMMA (R98). -/
  | hostComma (on : Bool)
  /-- HOST_REVOKE (R105). -/
  | hostRevoke (mi : Nat)
  /-- REINSTATE (R105). -/
  | reinstate (mi : Nat)
  /-- COVER_WRITE (R86). -/
  | coverWrite (value : Word)
  /-- REPEAT_RECORD (R88). -/
  | repeatRecord (mi : Nat)
  /-- OBS_FRAME_RX (R230). -/
  | obsFrameRx (rx : AirRx)
  /-- EPOCH_MATCH (R117). -/
  | epochMatch (mi : Nat)
  /-- LANE_START (R132). -/
  | laneStart (lane : Nat)
  /-- SOLVE_COMPLETE (R127). -/
  | solveComplete (lane : Nat) (t : LaneTime)
  /-- LANE_FAULT (R134). -/
  | laneFault (n : Nat) (e : SlvError)
  /-- LANE_SLEEP (R135). -/
  | laneSleep (lane : Nat)
  /-- AUX_RTCM_RX (R142): the message at bytes `at'` to `at' + len` of the ring's oldest entry, the last of it or not. -/
  | auxRtcmRx (n : Nat) (at' : Nat) (len : Nat) (last : Bool)
  /-- AUX_STREAM_STALE (R142). -/
  | auxStreamStale (n : Nat)
  /-- LINK_IN_RX (R143): a message of the ring's oldest entry, as for AUX_RTCM_RX. -/
  | linkInRx (at' : Nat) (len : Nat) (last : Bool)
  /-- RESET_FILTER (R145). -/
  | resetFilter (mi : Nat)
  /-- REFIX (R145). -/
  | refix (mi : Nat)
  /-- REFERENCE_EPOCH (R159). -/
  | referenceEpoch (m : RefMeas)
  /-- ANT_SHORT (R152). -/
  | antShort (a : Nat)
  /-- ANT_OPEN (R152). -/
  | antOpen (a : Nat)
  /-- BIAS_RETRY (R152). -/
  | biasRetry (a : Nat) (short : Bool)
  /-- BIAS_RESTORED (R152). -/
  | biasRestored (a : Nat)
  /-- CHANNEL_ASSIGN (R155). -/
  | channelAssign (views : List SatView)
  /-- PHASE_LOCK_LOSS (R157). -/
  | phaseLockLoss (ch : Nat) (lost : Bool)
  /-- NAV_RECORD (R161). -/
  | navRecord (r : NavRec)
  /-- SPECTRUM_ESTIMATE (R164). -/
  | spectrumEstimate (ant : Nat) (path : Nat) (peaks : List SpecPeak)
  /-- JAM_LEVEL_CHANGE (R165). -/
  | jamLevelChange (ant : Nat) (path : Nat) (db : Nat) (most : Nat) (atLimit : Bool)
  /-- SPOOF_ALARM_WRITE (R167). -/
  | spoofAlarmWrite (value : Word)
  /-- SELF_SURVEY (R168). -/
  | selfSurvey (durationMin : Nat)
  /-- SURVEY_END (R168): the vector measured, and the minutes its carrier phase was fixed. -/
  | surveyEnd (vec : List Int) (fixedMin : Nat)
  /-- POS_HI_WRITE (R177). -/
  | posHiWrite (value : Word)
  /-- NOTCH_SET_WRITE (R176). -/
  | notchSetWrite (value : Word)
  /-- RTCM_MSM_OUTPUT (R172), for the set of an epoch. -/
  | rtcmMsmOutput (epoch : Nat)
  /-- TIME_SOLUTION_RX (R183), for the solution of an epoch. -/
  | timeSolutionRx (epoch : Nat)
  /-- TIM_SET (R192). -/
  | timSet (errUs : Nat)
  /-- TIMED_OUTPUT_ARM (R194). -/
  | timedOutputArm (value : Word)
  /-- TIMED_OUTPUT_EDGE (R194). -/
  | timedOutputEdge (n : Nat)
  /-- CAPTURE_EDGE (R195). -/
  | captureEdge (j : Nat) (rising : Bool)
  /-- PTP_MESSAGE_RX (R196). -/
  | ptpMessageRx (rx : PtpRx)
  /-- PTP_SYNC_TX (R197). -/
  | ptpSyncTx (port : Nat)
  /-- PTP_ANNOUNCE_TX (R197). -/
  | ptpAnnounceTx (port : Nat)
  /-- PTP_TRANSPARENT_FORWARD (R198): common header and body of the message, and when, in ns, it passed the two ports. -/
  | ptpTransparentForward (port : Nat) (header : List Byte) (body : List Byte) (rxAt : Nat) (txAt : Nat)
  /-- DOWNLINK_BURST (R212). -/
  | downlinkBurst (w : Nat)
  /-- JOIN_REQ_RX (R226). -/
  | joinReqRx (rx : AirRx)
  /-- RPT_RX (R233). -/
  | rptRx (rx : AirRx)
  /-- DATA_UP_RX (R234). -/
  | dataUpRx (rx : AirRx)
  /-- POLL_RX (R237). -/
  | pollRx (rx : AirRx)
  /-- STOP_REQ_RX (R220). -/
  | stopReqRx (rx : AirRx)
  /-- PARTNER_BEACON_RX (R224). -/
  | partnerBeaconRx (rx : AirRx)
  /-- MACHINE_LOST (R233). -/
  | machineLost (mi : Nat)
  /-- LOST_GRANTS_WITHDRAW (R233). -/
  | lostGrantsWithdraw (mi : Nat)
  /-- POLL_MISSED (R237). -/
  | pollMissed (mi : Nat)
  /-- LBT_BACKOFF_EXPIRY (R221). -/
  | lbtBackoffExpiry (modem : Nat) (busy : Bool)
  /-- PRIO_WAIT_EXPIRY (R222). -/
  | prioWaitExpiry (modem : Nat)
  /-- MACH_SLEEP (R236). -/
  | machSleep (guard : Nat)
  /-- MACH_GUARD (R246). -/
  | machGuard (guard : Nat)
  /-- OBS_GRANT_APPLY (R246). -/
  | obsGrantApply (value : Word)
  /-- RPT_GRANT_APPLY (R246). -/
  | rptGrantApply (value : Word)
  /-- IQ_BLOCK_RX (R253): the block without its last word, and that, the CRC. -/
  | iqBlockRx (link : Nat) (block : List Byte) (crc : Nat)
  /-- LINK_ALIGNED (R260). -/
  | linkAligned (link : Nat)
  /-- HEAD_STATUS_RX (R256): the words of the block (R252), and when, in ns, the CTRL left and its answer came. -/
  | headStatusRx (link : Nat) (header : Nat) (stamp : Nat) (payload : List Byte) (crc : Nat) (txAt : Nat) (rxAt : Nat)
  /-- HEAD_CAPS_RX (R256): the words of the block (R252). -/
  | headCapsRx (link : Nat) (header : Nat) (stamp : Nat) (payload : List Byte) (crc : Nat)
  /-- HEAD_ALARM_RX (R256). -/
  | headAlarmRx (link : Nat) (block : List Byte)
  /-- LINK_STATE_TIMEOUT (R260). -/
  | linkStateTimeout (link : Nat)
  /-- LINK_DOWN (R261). -/
  | linkDown (link : Nat) (cause : Nat) (codeErrors : Nat)
  /-- LINK_RETRY (R260). -/
  | linkRetry (link : Nat)
  /-- PERIODIC_ECHO (R260). -/
  | periodicEcho (link : Nat)
  /-- AGC_ADJUST (R263): whether a modem of the stream is receiving, and whether the gain stands at an end of the head's range. -/
  | agcAdjust (link : Nat) (stream : Nat) (busy : Bool) (atLow : Bool) (atHigh : Bool)
  /-- BRING_UP (R265). -/
  | bringUp (link : Nat)
  /-- LINK_DOWN_CMD (R261). -/
  | linkDownCmd (link : Nat)
  /-- ECHO (R255). -/
  | echo (link : Nat)
  /-- DSP_INTAKE_ENTRY (R270). -/
  | dspIntakeEntry (q : Nat) (image : List Byte)
  /-- MACHINE_ELIGIBLE (R273). -/
  | machineEligible (mi : Nat)
  /-- ORDER_ACCEPT (R275). -/
  | orderAccept (mi : Nat) (handle : Nat)
  /-- ORDER_REFUSE (R276). -/
  | orderRefuse (mi : Nat) (handle : Nat)
  /-- ORDER_DONE (R276). -/
  | orderDone (mi : Nat) (handle : Nat)
  /-- ORDER_WITHDRAWN (R275). -/
  | orderWithdrawn (mi : Nat)
  /-- ACK_TIMEOUT (R276). -/
  | ackTimeout (idx : Nat)
  /-- DEADLINE_EXPIRY (R276). -/
  | deadlineExpiry (idx : Nat)
  /-- SPILL_HOLD_EXPIRY (R278). -/
  | spillHoldExpiry (store : Nat)
  /-- THREAD_READY (R280). -/
  | threadReady (t : Nat)
  /-- THREAD_WAIT (R280). -/
  | threadWait (kind : Nat) (arg : Nat)
  /-- SLOT_TRIGGER (R292). -/
  | slotTrigger (slot : Nat) (x : Int) (aid : Int)
  /-- PERIODIC_FIRE (R292). -/
  | periodicFire (slot : Nat)
  /-- GAP_ASSIGN_CMD (R298). -/
  | gapAssignCmd (pair : Nat)
  /-- AHNOB_LINK_UP (R307). -/
  | ahnobLinkUp (hello : Hello)
  /-- HELLO_RX (R307). -/
  | helloRx (hello : Hello)
  /-- HEARTBEAT_RX (R308). -/
  | heartbeatRx (rx : HeartbeatRx) (crcOk : Bool)
  /-- MIRROR_MESSAGE_RX (R310). -/
  | mirrorMessageRx (m : MirrorMsg) (ok : Bool)
  /-- AHN_SWAP (R320). -/
  | ahnSwap (notest : Bool)
  /-- TOKEN_TEST_END (R322). -/
  | tokenTestEnd (pass : Bool)
  /-- EVT_RAISE (R343). -/
  | evtRaise (event : Nat)
  /-- PENDING_CLEAR (R340). -/
  | pendingClear (n : Nat) (mask : Word)
  /-- VECTOR_MODERATION_EXPIRY (R342). -/
  | vectorModerationExpiry (v : Nat)
  /-- DOORBELL_WRITE (R335). -/
  | doorbellWrite (r : Nat) (value : Word)
  /-- RING_ENABLE (R334). -/
  | ringEnable (value : Word)
  /-- HOST_LINK_UP (R331). -/
  | hostLinkUp (speed : Nat) (width : Nat)
  /-- ETH_FRAME_RX (R345). -/
  | ethFrameRx (port : Nat) (frame : List Byte) (fcsOk : Bool)
  /-- ETH_TX_RING_ENTRY (R346). -/
  | ethTxRingEntry (port : Nat)
  /-- FORWARD_ENTRY (R346). -/
  | forwardEntry (fwd : Nat)
  /-- RULE_ENABLE (R358). -/
  | ruleEnable (value : Word)
  /-- FORWARD_ENABLE (R358). -/
  | forwardEnable (value : Word)
  /-- QUEUE_POINTER_MISMATCH (R349). -/
  | queuePointerMismatch (q : Nat)
  /-- LEAVE_REQUEST (R361). -/
  | leaveRequest (requester : Nat) (index : Nat)
  /-- HOST_LEAVE_WRITE (R386). -/
  | hostLeaveWrite (value : Word)
  /-- BUDGET_WRITE (R363). -/
  | budgetWrite (value : Word)
  /-- MAINTENANCE_TEST_END (R364). -/
  | maintenanceTestEnd (pass : Bool)
  /-- WHOLE_TEST_END (R366). -/
  | wholeTestEnd (failed : List (Nat × Nat))
  /-- POWER_ON (R369). -/
  | powerOn (lost : Bool)
  /-- RESET_PIN (R369). -/
  | resetPin (low : Bool)
  /-- POWER_SAMPLE (R396). -/
  | powerSample (g : Nat) (insts : List (List (Nat × Int))) (dtNs : Nat) (good : Nat)
  /-- INPUT_FAULT (R393). -/
  | inputFault (n : Nat)
  /-- INPUT_CLEAR (R393). -/
  | inputClear (n : Nat)
  /-- AC_UNLOCK (R395). -/
  | acUnlock (g : Nat)
  /-- PULSE_EMIT (R400). -/
  | pulseEmit (n : Nat)
  /-- METER_SAVE (R401). -/
  | meterSave (ok : Bool)
  /-- SESSION_END (R406). -/
  | sessionEnd (bay : Nat)
  /-- BAY_FREE_CMD (R408). -/
  | bayFreeCmd (bay : Nat)
  /-- BAY_BUSY_CMD (R408). -/
  | bayBusyCmd (bay : Nat)
  /-- BAY_END_CMD (R408). -/
  | bayEndCmd (bay : Nat)
  /-- PO_CFG_WRITE (R407). -/
  | poCfgWrite (value : Word)
  /-- ROOT_GENERATE (R412). -/
  | rootGenerate (healthy : Bool)
  /-- CREATE_PAIR (R414). -/
  | createPair (healthy : Bool)
  /-- ENROL_EXCHANGE_RX (R415). -/
  | enrolExchangeRx (rx : EnrolRx)
  /-- LIFE_CYCLE_KEY1 (R421). -/
  | lifeCycleKey1 (target : Nat)
  /-- LIFE_CYCLE_KEY2 (R421). -/
  | lifeCycleKey2 (target : Nat)
  /-- UPDATE_COPY (R424). -/
  | updateCopy (complete : Bool)
  /-- LOG_BUFFER_WRITE (R434). -/
  | logBufferWrite (badPages : Nat) (badUnits : Nat)
  /-- QUARANTINE_EXPIRY (R445). -/
  | quarantineExpiry (mi : Nat)
  /-- STOP_INPUT_RELEASE (R96). -/
  | stopInputRelease (b : Bool)
  /-- ROLE_IN_N_CHANGE (R305). -/
  | roleInNChange (low : Bool)
  /-- ETH_LINK_CHANGE (R359). -/
  | ethLinkChange (port : Nat) (up : Bool)
  /-- SFP_CHANGE (R359). -/
  | sfpChange (port : Nat) (present : Bool) (los : Bool) (txFault : Bool)
  /-- PCIE_ERROR (R359). -/
  | pcieError (dmaCompletion : Bool)
  /-- FLOOD_RELAY_RX (R242). -/
  | floodRelayRx (rx : AirRx)
  /-- ACQUISITION_COMPLETE (R156). -/
  | acquisitionComplete (ch : Nat)
  /-- ANNOUNCE_RECEIPT_TIMEOUT (R197). -/
  | announceReceiptTimeout (port : Nat)
  /-- PDELAY_REQ_TX (R198). -/
  | pdelayReqTx (port : Nat)
  /-- WARDEN_SELF_TEST_END (R375). -/
  | wardenSelfTestEnd (pass : Bool)
  /-- REFERENCE_SET_TIMEOUT (R117). -/
  | referenceSetTimeout (epoch : Nat)
  /-- FOLLOW_ENTRY_END (R62). -/
  | followEntryEnd (entry : Nat)
  /-- LOG_READ_COMPLETE (R439). -/
  | logReadComplete (overtaken : Option Nat)
  /-- PARTNER_KEY_MESSAGE_RX (R416). -/
  | partnerKeyMessageRx (bgen : Nat) (ok : Bool)
  /-- BUS_MASTER_ENABLE_CHANGE (R336). -/
  | busMasterEnableChange (on : Bool)
  /-- MSIX_VECTOR_UNMASK (R342). -/
  | msixVectorUnmask (v : Nat)
  /-- LOAD_COMPLETE (R25). -/
  | loadComplete
  /-- APPLY_COMPLETE (R27). -/
  | applyComplete
  /-- SIM_STARTUP_LOAD (R30). -/
  | simStartupLoad
  /-- AUTOMATIC_SWEEP (R77). -/
  | automaticSweep
  /-- SOLUTION_CHECK (R67). -/
  | solutionCheck
  /-- CLS_MEM_FAULT (R76): an ECC error in the Clause Table or the index that cannot be corrected. -/
  | clsMemFault

  /-- CLAUSE_TIME_NOW_READ (R78). -/
  | clauseTimeNowRead
  /-- TOKEN_BLOCK_SEAL (R82). -/
  | tokenBlockSeal
  /-- BEACON_SLOT_OPEN (R217). -/
  | beaconSlotOpen
  /-- LOCKSTEP_MISMATCH (R101). -/
  | lockstepMismatch
  /-- KICK_TIMEOUT (R101). -/
  | kickTimeout
  /-- KICK (R101). -/
  | kick
  /-- STOP_FRAME_REPEAT (R219). -/
  | stopFrameRepeat
  /-- STOP_DISCREPANCY (R96). -/
  | stopDiscrepancy
  /-- STOP_INPUTS_RELEASED (R96). -/
  | stopInputsReleased
  /-- DISC_CLEAR (R96). -/
  | discClear
  /-- COMMA_PIN_ASSERT (R98). -/
  | commaPinAssert
  /-- COMMA_PIN_RELEASE (R98). -/
  | commaPinRelease
  /-- COMMA_RESUME (R98). -/
  | commaResume
  /-- REARM_FIRST_KEY (R97). -/
  | rearmFirstKey
  /-- REARM_SECOND_KEY (R97). -/
  | rearmSecondKey
  /-- REARM_TIMEOUT (R97). -/
  | rearmTimeout
  /-- REARM_HOLD_END (R98). -/
  | rearmHoldEnd
  /-- REFERENCE_AGE_EXCEEDED (R98). -/
  | referenceAgeExceeded
  /-- REFERENCE_AGE_RECOVERED (R98). -/
  | referenceAgeRecovered
  /-- SEQ_SNAPSHOT_READ (R109). -/
  | seqSnapshotRead
  /-- PLAN_RECOMPUTE (R135). -/
  | planRecompute
  /-- RATE_RECOMPUTE (R137). -/
  | rateRecompute
  /-- LANE_LEAVE_RETRY (R136). -/
  | laneLeaveRetry
  /-- PREDICTION_LIMIT (R140). -/
  | predictionLimit
  /-- EPHEMERIS_SAVE (R156). -/
  | ephemerisSave
  /-- SPOOF_ALARM_CLEAR (R167). -/
  | spoofAlarmClear
  /-- COMMIT_KNOWN (R168). -/
  | commitKnown
  /-- CLEAR_POSITIONS (R177). -/
  | clearPositions
  /-- QUIET_CAL (R165). -/
  | quietCal
  /-- SURVEY_ABORT (R177). -/
  | surveyAbort
  /-- HELD_POSITION_READ (R177). -/
  | heldPositionRead
  /-- RTCM_STATION_OUTPUT (R172). -/
  | rtcmStationOutput
  /-- TIME_SOLUTION_TIMEOUT (R186). -/
  | timeSolutionTimeout
  /-- TIME_INVALID (R184). -/
  | timeInvalid
  /-- STEP_APPLY (R189). -/
  | stepApply
  /-- PPS_EDGE (R190). -/
  | ppsEdge
  /-- LEAP_SECOND (R191). -/
  | leapSecond
  /-- OCXO_READY (R190). -/
  | ocxoReady
  /-- TIME_SNAPSHOT_READ (R181). -/
  | timeSnapshotRead
  /-- CAPTURE_STAMP_READ (R203). -/
  | captureStampRead
  /-- RTC_UPDATE (R382). -/
  | rtcUpdate
  /-- SUPERFRAME_START (R235). -/
  | superframeStart
  /-- DUTY_WINDOW_TICK (R223). -/
  | dutyWindowTick
  /-- MACH_WAKE (R237). -/
  | machWake
  /-- MACH_DETACH (R247). -/
  | machDetach
  /-- TIME_BLOCK_TX (R254). -/
  | timeBlockTx
  /-- SUBMIT (R270). -/
  | submit
  /-- CANCEL (R270). -/
  | cancel
  /-- RETIRE (R270). -/
  | retire
  /-- QUERY (R270). -/
  | query
  /-- ASSIGN (R270). -/
  | assign
  /-- REQUEUE (R270). -/
  | requeue
  /-- DISPATCH_TICK (R271). -/
  | dispatchTick
  /-- DSP_RESERVE_RESULT (R274). -/
  | dspReserveResult
  /-- CORE_TICK (R281). -/
  | coreTick
  /-- THREAD_CREATE (R284). -/
  | threadCreate
  /-- THREAD_DESTROY (R284). -/
  | threadDestroy
  /-- THREAD_SUSPEND (R284). -/
  | threadSuspend
  /-- THREAD_RESUME (R284). -/
  | threadResume
  /-- SLOT_UPDATE (R289). -/
  | slotUpdate
  /-- FIRE (R292). -/
  | fire
  /-- SLOT_RESTART (R299). -/
  | slotRestart
  /-- GAP_FREE_CMD (R298). -/
  | gapFreeCmd
  /-- SAT_CLEAR_WRITE (R298). -/
  | satClearWrite
  /-- AHNOB_LINK_DOWN (R307). -/
  | ahnobLinkDown
  /-- HEARTBEAT_TX (R308). -/
  | heartbeatTx
  /-- HEARTBEAT_LOSS (R308). -/
  | heartbeatLoss
  /-- SNAPSHOT_REQUEST_RX (R314). -/
  | snapshotRequestRx
  /-- MIRROR_LAG_LIMIT (R314). -/
  | mirrorLagLimit
  /-- ROLE_CLAIM (R313). -/
  | roleClaim
  /-- CLAIM_SAMPLE (R304). -/
  | claimSample
  /-- DECISION_MOMENT (R316). -/
  | decisionMoment
  /-- AHN_RELEASE (R315). -/
  | ahnRelease
  /-- RESYNC (R326). -/
  | resync
  /-- TOKEN_PATH_TEST (R322). -/
  | tokenPathTest
  /-- PLANNED_SWAP_ACCEPT (R320). -/
  | plannedSwapAccept
  /-- PERST (R331). -/
  | perst
  /-- HOST_LINK_DOWN (R331). -/
  | hostLinkDown
  /-- QUEUE_DROP (R350). -/
  | queueDrop
  /-- QUEUE_RESET (R352). -/
  | queueReset
  /-- QUEUE_RESUME (R352). -/
  | queueResume
  /-- MAINTENANCE_TEST_START (R364). -/
  | maintenanceTestStart
  /-- WHOLE (R366). -/
  | whole
  /-- TEST_ABORT (R386). -/
  | testAbort
  /-- POWER_FAIL_WARNING (R367). -/
  | powerFailWarning
  /-- POWER_RETURN (R368). -/
  | powerReturn
  /-- BROWN_OUT (R369). -/
  | brownOut
  /-- HOST_RESET_KEY1 (R387). -/
  | hostResetKey1
  /-- HOST_RESET_KEY2 (R387). -/
  | hostResetKey2
  /-- DEBUG_RESET (R369). -/
  | debugReset
  /-- OPTION_LOAD (R372). -/
  | optionLoad
  /-- DOMAIN_RELEASE (R375). -/
  | domainRelease
  /-- OPTION_WRITE (R374). -/
  | optionWrite
  /-- CLEAR_STRIKES (R373). -/
  | clearStrikes
  /-- INSERTION (R378). -/
  | insertion
  /-- EJECT (R379). -/
  | eject
  /-- EJECT_CANCEL (R380). -/
  | ejectCancel
  /-- REMOVAL_READY (R379). -/
  | removalReady
  /-- SURPRISE_REMOVAL (R381). -/
  | surpriseRemoval
  /-- THERMAL_TRIP (R464). -/
  | thermalTrip
  /-- HOURS_TICK (R382). -/
  | hoursTick
  /-- BAY_FREE_EVAL (R405). -/
  | bayFreeEval
  /-- ACCUMULATOR_READ (R409). -/
  | accumulatorRead
  /-- ENROL_PAIR (R415). -/
  | enrolPair
  /-- ACCEPT_PAIR (R415). -/
  | acceptPair
  /-- ENROL_WINDOW_EXPIRY (R415). -/
  | enrolWindowExpiry
  /-- RENEW_BEACON (R416). -/
  | renewBeacon
  /-- EXPORT_MACHINE (R418). -/
  | exportMachine
  /-- EXPORT_SENDER (R418). -/
  | exportSender
  /-- ENROL_IMG (R419). -/
  | enrolImg
  /-- REVOKE_IMG (R419). -/
  | revokeImg
  /-- READ_DEVPUB (R415). -/
  | readDevpub
  /-- FORGET_PAIR (R414). -/
  | forgetPair
  /-- BEGIN (R423). -/
  | begin
  /-- BLOCK (R423). -/
  | block
  /-- FINISH (R423). -/
  | finish
  /-- UPD_ABORT (R428). -/
  | updAbort
  /-- CONFIRM (R425). -/
  | confirm
  /-- REVERT (R425). -/
  | revert
  /-- AUTO_CONFIRM (R425). -/
  | autoConfirm
  /-- TRIAL_EXPIRY (R425). -/
  | trialExpiry
  /-- READ_CIRC (R439). -/
  | readCirc
  /-- READ_PERM (R439). -/
  | readPerm
  /-- FLUSH (R442). -/
  | flush
  /-- REPEAT_CLOSE (R435). -/
  | repeatClose
  /-- HOLDOVER_QUALITY_STEP (R186). -/
  | holdoverQualityStep
  /-- PLANNED_SWAP_RELEASE (R320). -/
  | plannedSwapRelease
  /-- TEMP_HIGH (R390). -/
  | tempHigh
  /-- OPTION_WRITE_COMPLETE (R374). -/
  | optionWriteComplete
  /-- FORCED_WHOLE_TEST_BEGIN (R366). -/
  | forcedWholeTestBegin
  /-- THERMAL_RECOVERY (R464). -/
  | thermalRecovery
  deriving DecidableEq, Repr

end Sys2Proof
end

