-- ==== Sys2Proof/Config.lean ====
section
/-!
DEFINITION. What an implementation fixes and the values the spec leaves open. Every constant here is opaque: nothing in
Lean can evaluate it, so every statement holds whatever it is. A free value is drawn by applying the constant to the
counter `State.freeCtr`, which the draw advances.
-/

namespace Sys2Proof.Config

/-- An open value that is a number, for the draw; the log names each. -/
opaque freeNat : Nat → Nat

/-- An open byte string: its byte at a position, for the draw. -/
opaque freeByte : Nat → Nat → Byte

/-- A draw of the TRNG (R412): its bits as a number. -/
opaque trng : Nat → Nat

/-- The ROM public key of FW_SIGN (R413). -/
opaque fwSignKey : List Byte

/-- The rounding of a quotient to whole units where the spec states none. -/
opaque roundQuot : Int → Nat → Int

/-- A projection on a line in whole mm: the quotient of a scalar product by the root of the line's squared length, whose rounding the
spec does not state (R296). -/
opaque alongMm : (dot sq : Int) → Int

/-- The crossing queue paired with an intake queue of DSP (R270), from the QUEUES section and the intake's number: the spec does not say
how they are paired. -/
opaque replyQueue : (queues : List Byte) → (intake : Nat) → Nat

/-- A byte a host buffer holds when the module reads it by DMA (R336): bus address and the draw. -/
opaque hostByte : Nat → Nat → Byte

/-- The root of a mean square in whole units, whose rounding the spec does not state (R409 RMS). -/
opaque rms : (sum den : Nat) → Nat

/-- How a filter starts (R120): the estimate of position and velocity E, N, U, and the variances of all but the ambiguities: 0 to 5 these, 6
the troposphere state, 7 an ionosphere state. -/
opaque seed : Nat → Rat
opaque seedVar : Nat → Rat

/-- The densities of a filter's random walks per second (R120): 0 velocity, 1 troposphere, 2 ionosphere. -/
opaque walk : Nat → Rat

/-- A sample the channelizer makes of a modem's signal (R257): I and Q, for the draw and the sample's place. -/
opaque txSample : Nat → Nat → Int × Int

/-- What the broadcast ephemerides give, whose algorithms the systems' own interface documents define: the direction of a satellite from a
reference position (ECEF, 0.1 mm) as a unit vector in the site frame, for an ephemeris content at a clause time; and the range from a point
of the site frame less the range from the reference position, mm. -/
opaque sight : (content epoch : Nat) → (ref : List Int) → List Rat
opaque rangeDiff : (content epoch : Nat) → (ref : List Int) → (pos : List Rat) → Rat

/-- The elevation of a satellite at a reference position, 0.01 degrees, by an ephemeris content at a clause time. -/
opaque elevation : (content epoch : Nat) → (ref : List Int) → Int

/-- The standard atmosphere of R120: the troposphere delay at a height (mm) in an elevation (0.01 degrees), and the slant factor of the zenith
state. -/
opaque tropoDelay : (height : Rat) → (elev : Int) → Rat
opaque tropoSlant : (elev : Int) → Rat

/-- HDOP, in units of 0.01, of the directions used (R128). -/
opaque hdop : List (List Rat) → Nat

/-- The course of a velocity E, N in 1/65,536 turn (R7, R128), whose rounding the spec does not state. -/
opaque course : (ve vn : Rat) → Nat

/-- The reference observation SLV predicts for an epoch (R140) from a signal's code and carrier in the usable sets of the last 2 s, with the
satellite's ephemeris content: code and carrier. -/
opaque predictObs : (content : Nat) → (hist : List (Nat × Rat × Rat)) → (epoch : Nat) → Rat × Rat

/-- How the phase slot's coefficients follow TAU_S (R183): what coefficient `i` of the image becomes with a time constant, which the spec does not
state. -/
opaque phaseCoef : (tauS i : Nat) → (coef : Int) → Int

/-- The correction of the held DAC value for the ageing learned (R186), from the ageing bound and TAU_S. -/
opaque ageingDac : (ageing tauS : Nat) → Int

/-- offsetScaledLogVariance of the module's clock (R197), which the spec does not state. -/
opaque ptpVariance : Nat

/-- How far, in m, the orbit of an ephemeris content lies from that of an almanac content, or of none, whose case the spec leaves open (R162). -/
opaque orbitGapM : (eph : Nat) → (almanac : Option Nat) → Nat

end Sys2Proof.Config
end

