-- ==== Sys2Proof/Machine/Numeric.lean ====
section
/-!
DEFINITION. Exact arithmetic for estimates: rational vectors and matrices as lists, measurement and conditioning of a Gaussian estimate, the
integer least squares of R122, and the bounds of R125.
-/

namespace Sys2Proof.Machine

/-! ## Sorting -/

/-- An element placed before the first one it does not come after. -/
def insertBy {α : Type} (le : α → α → Bool) (x : α) : List α → List α
  | [] => [x]
  | y :: ys => if le x y then x :: y :: ys else y :: insertBy le x ys

/-- A list in order, elements that tie keeping their order. -/
def sortBy {α : Type} (le : α → α → Bool) (l : List α) : List α := l.foldr (insertBy le) []

/-! ## Matrices and estimates -/

/-- An entry of a matrix. -/
def ent (m : List (List Rat)) (i j : Nat) : Rat := (m.getD i []).getD j 0

/-- A scalar product, and a matrix by a vector. -/
def dot (a b : List Rat) : Rat := ((a.zip b).map fun p => p.1 * p.2).sum
def mulVec (m : List (List Rat)) (v : List Rat) : List Rat := m.map fun r => dot r v

/-- The vector of length `n` with 1 at `i`. -/
def unitVec (n i : Nat) : List Rat := (List.range n).map fun j => if j = i then 1 else 0

/-- The transpose of a matrix with `n` columns. -/
def transpose (n : Nat) (m : List (List Rat)) : List (List Rat) := (List.range n).map fun j => m.map fun r => r.getD j 0

/-- The estimate of `T x`. -/
def Est.linear (e : Est) (t : List (List Rat)) : Est :=
  let n := e.x.length
  let q := t.map fun r => mulVec (transpose n e.p) r
  ⟨mulVec t e.x, q.map fun r => mulVec t r⟩

/-- The variance of a state. -/
def Est.var (e : Est) (i : Nat) : Rat := ent e.p i i

/-- The estimate with one more state, independent of the others. -/
def Est.push (e : Est) (x v : Rat) : Est :=
  let n := e.x.length
  ⟨e.x ++ [x], (e.p.map fun r => r ++ [0]) ++ [(List.replicate n 0) ++ [v]]⟩

/-- The estimate of the states `is`. -/
def Est.keep (e : Est) (is : List Nat) : Est := ⟨is.map fun i => e.x.getD i 0, is.map fun i => is.map fun j => ent e.p i j⟩

/-- White noise added to two states. -/
def Est.noise (e : Est) (i j : Nat) (q : Rat) : Est :=
  let n := e.x.length
  ⟨e.x, (List.range n).map fun a => (List.range n).map fun b =>
    ent e.p a b + (if (a = i ∧ b = j) ∨ (a = j ∧ b = i) then q else 0)⟩

/-- The estimate after a measurement `h·x = y` of variance `r`; one that a zero variance makes no news changes nothing. -/
def Est.meas (e : Est) (h : List Rat) (y r : Rat) : Est :=
  let g := mulVec e.p h
  let s := dot h g + r
  if s ≤ 0 then e
  else
    let d := (y - dot h e.x) / s
    ⟨e.x.zipWith (fun a b => a + b * d) g, e.p.zipWith (fun row a => row.zipWith (fun c b => c - a * b / s) g) g⟩

/-- The estimate given that state `i` is `z`. -/
def Est.fix (e : Est) (i : Nat) (z : Int) : Est := e.meas (unitVec e.x.length i) z 0

/-- The estimate given integers for several states. -/
def Est.fixAll (e : Est) (l : List (Nat × Int)) : Est := l.foldl (fun e p => e.fix p.1 p.2) e

/-- The nearest integer. -/
def nearest (q : Rat) : Int := (q + 1 / 2).floor

/-- The squared norm of integers `z` against the first states of an estimate: the quadratic form of the inverse covariance. -/
def Est.norm (e : Est) : (i : Nat) → List Int → Rat
  | _, [] => 0
  | i, z :: rest =>
    let v := e.var i
    let d := (z : Rat) - e.x.getD i 0
    (if v ≤ 0 then 0 else d * d / v) + (e.fix i z).norm (i + 1) rest

/-- The integers whose squared distance from `c` is at most `b`, nearest bound below first. -/
def intsWithin (c b : Rat) : List Int :=
  let w : Int := (b.ceil.toNat.sqrt + 1 : Nat)
  let lo := c.floor - w
  ((List.range (2 * w.toNat + 3)).map fun (k : Nat) => lo + (k : Int)).filter fun (z : Int) => decide (((z : Rat) - c) * ((z : Rat) - c) ≤ b)

/-- All integer vectors for the states `i`, `i + 1`, … (`n` of them) whose squared norm is at most `budget`. -/
def Est.within (e : Est) (i : Nat) : (n : Nat) → (budget : Rat) → List (List Int)
  | 0, _ => [[]]
  | n + 1, budget =>
    let v := e.var i
    let c := e.x.getD i 0
    let zs : List Int := if v ≤ 0 then [nearest c] else intsWithin c (budget * v)
    zs.flatMap fun (z : Int) =>
      let cost := if v ≤ 0 then 0 else ((z : Rat) - c) * ((z : Rat) - c) / v
      ((e.fix i z).within (i + 1) n (budget - cost)).map fun rest => z :: rest

/-- The integers of successive rounding of states `i`, `i + 1`, …; with `alt` counting down to one, that one is rounded the other way. -/
def Est.rounded (e : Est) (i : Nat) : (n : Nat) → (alt : Option Nat) → List Int
  | 0, _ => []
  | n + 1, alt =>
    let x := e.x.getD i 0
    let z := nearest x
    let z := if alt = some 0 then (if (z : Rat) ≤ x then z + 1 else z - 1) else z
    z :: (e.fix i z).rounded (i + 1) n (alt.bind fun k => if k = 0 then none else some (k - 1))

/-- The best and second-best integer vectors of the integer least-squares problem over the first `n` states, with their squared norms (R122).
Successive rounding, and the best of its variants with one integer rounded the other way, bound what is compared. -/
def Est.best2 (e : Est) (n : Nat) : Option ((List Int × Rat) × (List Int × Rat)) :=
  let variants := (List.range n).map fun k => e.norm 0 (e.rounded 0 n (some k))
  let least := variants.foldl min (variants.headD 0)
  let all := (e.within 0 n (max (e.norm 0 (e.rounded 0 n none)) least)).map fun v => (v, e.norm 0 v)
  match n, sortBy (fun a b => decide (a.2 ≤ b.2)) all with
  | 0, _ => none
  | _, a :: b :: _ => some (a, b)
  | _, _ => none

/-- The least whole number whose square is at least `q`. -/
def ceilSqrt (q : Rat) : Nat :=
  let c := q.ceil.toNat
  let r := c.sqrt
  if q ≤ ((r * r : Nat) : Rat) then r else r + 1

/-- The least whole number at least three times the root of the larger eigenvalue of the covariance of states 0 and 1 (R125): `h` is one
where `h²/9` exceeds the mean of the variances, and by no less than the root of their spread. -/
def semiMajor (e : Est) : Nat :=
  let a := e.var 0
  let c := e.var 1
  let b := ent e.p 0 1
  let mean := (a + c) / 2
  let spread := (a - c) * (a - c) / 4 + b * b
  let enough (h : Nat) : Bool :=
    let m := ((h * h : Nat) : Rat) / 9 - mean
    decide (0 ≤ m) && decide (spread ≤ m * m)
  let top := ceilSqrt (9 * (a + c)) + 1
  let low := ((List.range (Nat.log2 top + 1)).reverse.foldl (fun acc k => if enough (acc + 2 ^ k - 1) then acc else acc + 2 ^ k) 0)
  low

/-- Three times the root of a variance, rounded up. -/
def threeSigma (v : Rat) : Nat := ceilSqrt (9 * v)

/-- A rational power of ten in quarter decibels, `10 ^ (k / 40)`, to 12 decimal places, rounded down. -/
def tenth (k : Nat) : Rat :=
  let goal := 10 ^ (k % 40) * 10 ^ (12 * 40)
  let r := (List.range 44).reverse.foldl (fun acc b => if (acc + 2 ^ b) ^ 40 ≤ goal then acc + 2 ^ b else acc) 0
  (10 ^ (k / 40) : Nat) * ((r : Nat) : Rat) / ((10 ^ 12 : Nat) : Rat)

/-- The sine of an angle in 0.01 degrees, by its series to 12 terms, with π to 15 decimal places; to the nearest of 9 decimal places. -/
def sine (cdeg : Int) : Rat :=
  let x : Rat := ((cdeg : Rat) * 3141592653589793) / (18000 * (10 ^ 15 : Nat))
  let terms := (List.range 12).foldl (fun (acc : Rat × Rat) k =>
    (acc.1 + acc.2, -(acc.2 * x * x) / (((2 * k + 2) * (2 * k + 3) : Nat) : Rat))) (0, x)
  (nearest (terms.1 * (10 ^ 9 : Nat)) : Rat) / ((10 ^ 9 : Nat) : Rat)

end Sys2Proof.Machine
end

