-- ==== Sys2Proof/Machine/Signals.lean ====
section
/-!
DEFINITION. GNSS signals (R113–R116, R150, R151): the tables of the signal codes and RF paths, and the satellite blocks of a bundle.
-/

namespace Sys2Proof.Machine

/-! ## Tables (R113, R114, R150, R151) -/

/-- A known signal code. -/
def sigKnown (sig : Nat) : Bool := decide (1 ≤ sig) && decide (sig ≤ 16)

/-- The system of a signal code: 0 GPS, 1 Galileo, 2 BeiDou, 3 QZSS. -/
def sigSys (sig : Nat) : Nat := (sig - 1) / 4

/-- The satellites of a system. -/
def sysMax (sys : Nat) : Nat := [32, 36, 63, 10].getD sys 0

/-- The satellites of a signal code's system. -/
def svidMax (sig : Nat) : Nat := if sigKnown sig then sysMax (sigSys sig) else 0

/-- Centre frequency, kHz, of signal codes 1 to 16 (R114). -/
def sigKHz (sig : Nat) : Nat :=
  [0, 1575420, 1575420, 1227600, 1176450, 1575420, 1176450, 1207140, 1278750, 1561098, 1575420, 1176450, 1268520, 1575420, 1575420,
    1227600, 1176450].getD sig 0

/-- Pre-correlation bandwidth, kHz, of signal codes 1 to 16 (R150). -/
def sigBw (sig : Nat) : Nat :=
  [0, 4092, 14322, 2046, 20460, 14322, 20460, 20460, 10230, 4092, 14322, 20460, 20460, 4092, 14322, 2046, 20460].getD sig 0

/-- RF path of signal codes 1 to 16: 0 1.575, 1 1.2, 2 1.176 GHz group (R150). -/
def sigPath (sig : Nat) : Nat := [0, 0, 0, 1, 2, 0, 2, 2, 1, 0, 0, 2, 1, 0, 0, 1, 2].getD sig 0

/-- The KINDs of navigation record (R161) a signal code carries (R150): none on Galileo E6. -/
def sigKinds (sig : Nat) : List Nat :=
  [[], [1], [3], [2], [2], [4], [5], [4], [], [6, 7], [8], [9], [6, 7], [1], [3], [2], [2]].getD sig []

/-- A format has forward error correction (R150, R161): CNAV, CNAV-2, I/NAV, F/NAV and B-CNAV are decoded by Viterbi, LDPC or BCH, LNAV is
not. D1 and D2, whose words BCH(15,11) checks, may be shown either way: none. -/
def kindFec (kind : Nat) : Option Bool := if kind = 1 then some false else if kind = 6 ∨ kind = 7 then none else some true

/-- Centre, kHz, of a path (R151). -/
def pathKHz (p : Nat) : Nat := [1568259, 1255000, 1191795].getD p 0

/-- A path's usable band (R151): its lowest and highest frequency, kHz. -/
def pathBand (p : Nat) : Nat × Nat := [(1529259, 1607259), (1216000, 1294000), (1152795, 1230795)].getD p (0, 0)

/-- A frequency offset from a path's centre, in 10 kHz, lies within its usable band. -/
def inBand (p : Nat) (offset : Int) : Bool :=
  let f := (pathKHz p : Int) + 10 * offset
  decide (((pathBand p).1 : Int) ≤ f) && decide (f ≤ (pathBand p).2)

/-- Wavelength, mm. The speed of light is the physical constant. -/
def sigLambda (sig : Nat) : Rat := 299792458 / (sigKHz sig : Nat)

/-- The key of a signal of a satellite: code × 64 + SVID; its code; and the satellite's own key, system × 64 + SVID. -/
def sigKey (sig svid : Nat) : Nat := sig * 64 + svid
def keySig (key : Nat) : Nat := key / 64
def keySat (key : Nat) : Nat := sigSys (key / 64) * 64 + key % 64

/-! ## Signal blocks (R113, R116) -/

/-- An observation from the fields of a signal block: pseudorange PR × 20 mm and carrier phase CPD / 256 cycles beyond it, both moved back
from the measurement instant to the epoch by the Doppler, which is positive while the range falls (DEDUCED, log 77). -/
def obsOf (sig svid cn0 pr : Nat) (cpd dop clkOff : Int) (lock : Nat) (half slip : Bool) : Obs :=
  let rate : Rat := -(sigLambda sig * dop / 4)
  let code : Rat := 20 * (pr : Nat) - rate * clkOff / (10 ^ 9 : Nat)
  ⟨sigKey sig svid, cn0, code, code + sigLambda sig * cpd / 256, some rate, lock, true, half, slip⟩

/-- The 14 bytes of a signal block. -/
def sigBytes (sig cn0 pr : Nat) (cpd dop : Int) (lock : Nat) (half slip : Bool) : List Byte :=
  Bytes.ofNat 1 sig ++ Bytes.ofNat 1 cn0 ++ Bytes.ofNat 4 pr ++ Bytes.ofNat 4 (encodeSigned 32 cpd) ++ Bytes.ofNat 2 (encodeSigned 16 dop)
    ++ Bytes.ofNat 2 (min lock 4095 + (if half then 4096 else 0) + (if slip then 8192 else 0))

/-- The observation a signal block of satellite `svid` gives. -/
def obsRead (svid : Nat) (clkOff : Int) (b : List Byte) : Obs :=
  let w := Bytes.at' b 12 2
  obsOf (Bytes.at' b 0 1) svid (Bytes.at' b 1 1) (Bytes.at' b 2 4) (signedOf 32 (Bytes.at' b 6 4)) (signedOf 16 (Bytes.at' b 10 2)) clkOff
    (bitsOf w 11 0) (bitOf w 12) (bitOf w 13)

/-- The signals of one satellite block, but for those R115 drops: an unknown code or another system's, and every one where SVID is out of
range. -/
def blockObs (clkOff : Int) (b : List Byte) : List Obs :=
  let sys := bitsOf (Bytes.at' b 0 1) 1 0
  let svid := Bytes.at' b 1 1
  if svid = 0 ∨ sysMax sys < svid then []
  else ((List.range (bitsOf (Bytes.at' b 0 1) 3 2)).map fun i => Bytes.slice b (2 + 14 * i) 14).filterMap fun g =>
    let sig := Bytes.at' g 0 1
    if sigKnown sig && sigSys sig == sys then some (obsRead svid clkOff g) else none

/-- The satellite blocks of a bundle, where the bytes end exactly with the last one. -/
def satBlocks : (n : Nat) → List Byte → Option (List (List Byte))
  | 0, rest => if rest.isEmpty then some [] else none
  | n + 1, bs =>
    let c := bitsOf (Bytes.at' bs 0 1) 3 2
    if bs.length < 2 + 14 * c ∨ c = 0 then none else (satBlocks n (bs.drop (2 + 14 * c))).map fun l => bs.take (2 + 14 * c) :: l

/-- The signal blocks of satellite blocks. -/
def blockCount (l : List (List Byte)) : Nat := (l.map fun b => bitsOf (Bytes.at' b 0 1) 3 2).sum

/-- The observations of a bundle: a code given again for the same satellite is dropped. -/
def bundleObs (clkOff : Int) (l : List (List Byte)) : List Obs :=
  (l.flatMap (blockObs clkOff)).foldl (fun acc o => if acc.any fun p => p.key == o.key then acc else acc ++ [o]) []

end Sys2Proof.Machine
end

