-- ==== Sys2Proof/Machine/Rtcm.lean ====
section
/-!
DEFINITION. RTCM 10403.3 as far as R142, R143 and R172 use it: bit fields, frames, message headers and multiple-signal messages. The coding is
the standard's, not the spec's: PRESUMED (log 43).
-/

namespace Sys2Proof.Machine

/-- A number's `n` bytes, the highest first. -/
def beBytes (n v : Nat) : List Byte := (Bytes.ofNat n v).reverse

/-! ## Bits and frames -/

/-- Bit fields, most significant first, as one number and its width. -/
def bitFields (l : List (Nat × Nat)) : Nat × Nat := l.foldl (fun acc f => (acc.1 * 2 ^ f.1 + f.2 % 2 ^ f.1, acc.2 + f.1)) (0, 0)

/-- Bit fields as bytes, the last byte padded with 0 at its end. -/
def bitBytes (l : List (Nat × Nat)) : List Byte :=
  let v := bitFields l
  let n := ceilDiv v.2 8
  beBytes n (v.1 * 2 ^ (8 * n - v.2))

/-- Bits `off` to `off + n - 1` of a message, the first bit the highest of byte 0. -/
def bitRead (msg : List Byte) (off n : Nat) : Nat :=
  let v := Bytes.toNat msg.reverse
  v / 2 ^ (8 * msg.length - off - n) % 2 ^ n

/-- One bit of CRC-24Q: polynomial 0x1864CFB. -/
def crc24Bit (c : Nat) : Nat := if c.testBit 23 then ((c * 2) ^^^ 0x1864CFB) % 2 ^ 24 else c * 2

/-- CRC-24Q over a byte. -/
def crc24Byte (c : Nat) (b : Byte) : Nat :=
  crc24Bit (crc24Bit (crc24Bit (crc24Bit (crc24Bit (crc24Bit (crc24Bit (crc24Bit (c ^^^ (b.toNat * 65536)))))))))

/-- A frame around a message. -/
def rtcmFrame (msg : List Byte) : List Byte :=
  let body := [0xD3#8] ++ beBytes 2 (msg.length % 1024) ++ msg
  body ++ beBytes 3 (body.foldl crc24Byte 0)

/-- The message of a frame, where preamble, length and CRC hold. -/
def rtcmOpen (frame : List Byte) : Option (List Byte) :=
  let n := bitRead frame 14 10
  let msg := Bytes.slice frame 3 n
  if frame.length = n + 6 ∧ rtcmFrame msg = frame then some msg else none

/-! ## Multiple-signal messages -/

/-- The system of an MSM number that SLV decodes and GRX sends, and whether it is an MSM7. -/
def msmSystem (number : Nat) : Option (Nat × Bool) :=
  match number with
  | 1074 => some (0, false) | 1077 => some (0, true)
  | 1094 => some (1, false) | 1097 => some (1, true)
  | 1124 => some (2, false) | 1127 => some (2, true)
  | 1114 => some (3, false) | 1117 => some (3, true)
  | _ => none

/-- The place of a signal code in the signal mask of its system, 1 to 32: 1C, 1L, 2L and 5Q of GPS and QZSS; 1C, 5Q, 7Q, 6C of Galileo; 2I, 1P,
5P, 6I of BeiDou. -/
def msmPlace (sig : Nat) : Nat := [0, 2, 31, 16, 23, 2, 23, 15, 8, 2, 31, 23, 8, 2, 31, 16, 23].getD sig 0

/-- GPS time of a clause time: ms since the start of its week, 14 s earlier for BeiDou. -/
def msmEpoch (sys clauseMs siteEpoch : Nat) : Nat :=
  let gps := clauseMs + 1000 * siteEpoch - 1000 * (315964800 + 19) - (if sys = 2 then 14000 else 0)
  gps % 604800000

/-- The clause time nearest to `near` that an MSM epoch time stands for. -/
def msmClause (sys tow near siteEpoch : Nat) : Nat :=
  let week := 604800000
  let now := msmEpoch sys near siteEpoch
  let ahead := (tow + week - now) % week
  if 2 * ahead < week then near + ahead else near - (week - ahead)

/-- The lock time indicator of an MSM4 for a lock time in ms. -/
def lockCode4 (ms : Nat) : Nat := if ms < 32 then 0 else min 15 (Nat.log2 ms - 4)

/-- The least lock time an MSM4 indicator stands for. -/
def lockTime4 (i : Nat) : Nat := if i = 0 then 0 else 2 ^ (i + 4)

/-- The lock time indicator of an MSM7: 64 steps of 1 ms, then 32 steps of each doubled length. -/
def lockCode7 (ms : Nat) : Nat :=
  if ms < 64 then ms
  else
    let k := Nat.log2 ms - 5
    min 704 (32 * k + ms / 2 ^ k)

/-- The least lock time an MSM7 indicator stands for. -/
def lockTime7 (i : Nat) : Nat :=
  if i < 64 then i
  else
    let k := i / 32 - 1
    (i - 32 * k) * 2 ^ k

/-- A range in ms of light time. -/
def lightMs (mm : Rat) : Rat := mm / 299792458
def lightMm (ms : Rat) : Rat := ms * 299792458

/-- Whole units of a quantity. -/
def units (q : Rat) (perMs : Nat) : Int := nearest (q * (2 ^ perMs : Nat))

/-- The satellites and the signals of a message's observations, ascending; the cells they span, satellite by satellite. -/
def msmSats (obs : List Obs) : List Nat := ((List.range 64).drop 1).filter fun v => obs.any fun o => o.key % 64 == v
def msmSigs (obs : List Obs) : List Nat :=
  ((List.range 33).filterMap fun p => ((List.range 17).drop 1).find? fun g => msmPlace g == p && obs.any fun o => keySig o.key == g)
def msmCells (obs : List Obs) : List (Option Obs) :=
  (msmSats obs).flatMap fun v => (msmSigs obs).map fun g => obs.find? fun o => o.key == sigKey g v

/-- The rough range of a satellite: light time rounded to 2⁻¹⁰ ms, and its rough rate, m/s. -/
def roughRange (obs : List Obs) (v : Nat) : Rat :=
  match obs.find? fun o => o.key % 64 == v with
  | some o => (units (lightMs o.code) 10 : Rat) / 1024
  | none => 0
def roughRate (obs : List Obs) (v : Nat) : Int :=
  match obs.find? fun o => o.key % 64 == v with
  | some o => nearest (o.rate.getD 0 / 1000)
  | none => 0

/-- An MSM4 or MSM7 of a system: header, satellite data and signal data. -/
def msmBytes (number station tow iods : Nat) (more seven : Bool) (obs : List Obs) : List Byte :=
  let sats := msmSats obs
  let sigs := msmSigs obs
  let cells := msmCells obs
  let have' := cells.filterMap id
  let rough (o : Obs) : Rat := roughRange obs (o.key % 64)
  let fineCode (o : Obs) (bits : Nat) : Int := units (lightMs o.code - rough o) bits
  let finePhase (o : Obs) (bits : Nat) : Int := units (lightMs o.carrier - rough o) bits
  let fineRate (o : Obs) : Int := nearest ((o.rate.getD 0 / 1000 - roughRate obs (o.key % 64)) * 10000)
  let lockMs (o : Obs) : Nat := if o.exact then 100 * o.lock else o.lock
  let mask (n : Nat) (p : Nat → Bool) : List (Nat × Nat) := ((List.range (n + 1)).drop 1).map fun i => (1, if p i then 1 else 0)
  let head := [(12, number), (12, station), (30, tow), (1, if more then 1 else 0), (3, iods), (7, 0), (2, 0), (2, 0),
    (1, 0), (3, 0)] ++ mask 64 (fun v => sats.contains v) ++ mask 32 (fun p => sigs.any fun g => msmPlace g == p)
    ++ cells.map fun c => (1, if c.isSome then 1 else 0)
  let whole := sats.map fun v => (8, (roughRange obs v).floor.toNat)
  let part := sats.map fun v => (10, (units (roughRange obs v) 10).toNat % 1024)
  let sat := if seven then whole ++ (sats.map fun _ => (4, 0)) ++ part ++ sats.map fun v => (14, encodeSigned 14 (roughRate obs v))
    else whole ++ part
  let sgn := if seven then
      (have'.map fun o => (20, encodeSigned 20 (fineCode o 29))) ++ (have'.map fun o => (24, encodeSigned 24 (finePhase o 31)))
        ++ (have'.map fun o => (10, lockCode7 (lockMs o))) ++ (have'.map fun o => (1, if o.half then 1 else 0))
        ++ (have'.map fun o => (10, 4 * o.cn0)) ++ have'.map fun o => (15, encodeSigned 15 (fineRate o))
    else
      (have'.map fun o => (15, encodeSigned 15 (fineCode o 24))) ++ (have'.map fun o => (22, encodeSigned 22 (finePhase o 29)))
        ++ (have'.map fun o => (4, lockCode4 (lockMs o))) ++ (have'.map fun o => (1, if o.half then 1 else 0))
        ++ have'.map fun o => (6, (o.cn0 + 2) / 4)
  bitBytes (head ++ sat ++ sgn)

/-- What an MSM carries: system, station, epoch time, whether another of the epoch follows, observations. -/
structure MsmRead where
  sys : Nat
  station : Nat
  tow : Nat
  more : Bool
  obs : List Obs
  deriving DecidableEq, Repr

/-- The content of an MSM4 or MSM7; none of another message. -/
def msmRead (msg : List Byte) : Option MsmRead :=
  match msmSystem (bitRead msg 0 12) with
  | none => none
  | some (sys, seven) =>
    let sats := ((List.range 65).drop 1).filter fun i => bitRead msg (72 + i) 1 = 1
    let sigs := ((List.range 33).drop 1).filterMap fun p =>
      if bitRead msg (136 + p) 1 = 1 then some ((((List.range 4).map fun i => 4 * sys + 1 + i).find? fun g => msmPlace g == p).getD 0) else none
    let ns := sats.length
    let cells := ((List.range ns).flatMap fun i => (List.range sigs.length).map fun j => (i, j)).filter fun c =>
      bitRead msg (169 + c.1 * sigs.length + c.2) 1 = 1
    let nc := cells.length
    let sat0 := 169 + ns * sigs.length
    let sig0 := sat0 + ns * (if seven then 36 else 18)
    let fld (base skip n i : Nat) : Nat := bitRead msg (base + skip + n * i) n
    let obs := ((List.range nc).zip cells).filterMap fun c =>
      let k := c.1
      let i := c.2.1
      let sig := sigs.getD c.2.2 0
      let svid := sats.getD i 0
      if sig = 0 ∨ svidMax sig < svid then none
      else
        let rough : Rat := (fld sat0 0 8 i : Nat) + ((fld sat0 (if seven then 12 * ns else 8 * ns) 10 i : Nat) : Rat) / 1024
        if seven then
          let fine (skip n bits : Nat) : Rat := (signedOf n (fld sig0 (skip * nc) n k) : Rat) / ((2 ^ bits : Nat) : Rat)
          let rate : Rat := 1000 * ((signedOf 14 (fld sat0 (22 * ns) 14 i) : Rat) + (signedOf 15 (fld sig0 (65 * nc) 15 k) : Rat) / 10000)
          some ⟨sigKey sig svid, fld sig0 (55 * nc) 10 k / 4, lightMm (rough + fine 0 20 29), lightMm (rough + fine 20 24 31), some rate,
            lockTime7 (fld sig0 (44 * nc) 10 k), false, fld sig0 (54 * nc) 1 k = 1, false⟩
        else
          let fine (skip n bits : Nat) : Rat := (signedOf n (fld sig0 (skip * nc) n k) : Rat) / ((2 ^ bits : Nat) : Rat)
          some ⟨sigKey sig svid, 4 * fld sig0 (42 * nc) 6 k, lightMm (rough + fine 0 15 24), lightMm (rough + fine 15 22 29), none,
            lockTime4 (fld sig0 (37 * nc) 4 k), false, fld sig0 (41 * nc) 1 k = 1, false⟩
    some ⟨sys, bitRead msg 12 12, bitRead msg 24 30, bitRead msg 54 1 = 1, obs⟩

/-- The station and position (ECEF, 0.1 mm) a 1005 or 1006 gives. -/
def stationRead (msg : List Byte) : Option (Nat × List Int) :=
  let number := bitRead msg 0 12
  if number = 1005 ∨ number = 1006 then
    some (bitRead msg 12 12, [signedOf 38 (bitRead msg 34 38), signedOf 38 (bitRead msg 74 38), signedOf 38 (bitRead msg 114 38)])
  else none

end Sys2Proof.Machine
end

