-- ==== Sys2Proof/Machine/SiteFrame.lean ====
section
/-!
DEFINITION. The site frame of R7: local east, north and up at the site origin, of ECEF positions in 0.1 mm. The spec names no ellipsoid; up is
the normal of WGS 84 (PRESUMED, log 78).
-/

namespace Sys2Proof.Machine

/-- A quantity rounded to 15 decimal places, and the root of one to 12, rounded down. -/
def round15 (q : Rat) : Rat := (nearest (q * (10 ^ 15 : Nat)) : Rat) / ((10 ^ 15 : Nat) : Rat)
def root12 (q : Rat) : Rat := (((q * (10 ^ 24 : Nat)).floor.toNat.sqrt : Nat) : Rat) / ((10 ^ 12 : Nat) : Rat)

/-- WGS 84: the semi-major axis in 0.1 mm, and the square of the eccentricity. -/
def wgsA : Rat := 63781370000
def wgsE2 : Rat := 669437999014 / (10 ^ 14 : Nat)

/-- Cosine and sine of the angle whose tangent is `t`. -/
def cosSin (t : Rat) : Rat × Rat :=
  let c := round15 (1 / root12 (1 + t * t))
  (c, round15 (t * c))

/-- The tangent of the geodetic latitude of a point at distance `p` from the axis and height `z` above the equator, by iteration. -/
def latTan (p z : Rat) : Rat :=
  (List.range 5).foldl (fun t _ =>
    let cs := cosSin t
    let n := wgsA / root12 (1 - wgsE2 * cs.2 * cs.2)
    round15 ((z + wgsE2 * n * cs.2) / p)) (round15 (z / (p * (1 - wgsE2))))

/-- East, north and up of `pos` in the frame of `origin`, mm. -/
def siteEnu (origin pos : List Int) : List Rat :=
  let o (i : Nat) : Rat := origin.getD i 0
  let d (i : Nat) : Rat := (pos.getD i 0 : Rat) - o i
  let p := root12 (o 0 * o 0 + o 1 * o 1)
  let cl := round15 (o 0 / p)
  let sl := round15 (o 1 / p)
  let cs := cosSin (latTan p (o 2))
  let r := cl * d 0 + sl * d 1
  [(cl * d 1 - sl * d 0) / 10, (cs.1 * d 2 - cs.2 * r) / 10, (cs.1 * r + cs.2 * d 2) / 10]

/-- The square of the horizontal distance of `pos` from `origin`, mm². -/
def horizontal2 (origin pos : List Int) : Rat :=
  let v := siteEnu origin pos
  v.getD 0 0 * v.getD 0 0 + v.getD 1 0 * v.getD 1 0

/-- Farther than 10 km horizontally from the site origin (R168, R178). -/
def beyond10km (origin pos : List Int) : Bool := decide (((10 ^ 14 : Nat) : Rat) < horizontal2 origin pos)

end Sys2Proof.Machine
end

