-- ==== Sys2Proof/Machine/Filter.lean ====
section
/-!
DEFINITION. The arithmetic of a solve lane (R116–R126): differences, pivots, the filter's states and update, cycle slips, the integer search,
validation and the error bounds. What the spec does not fix (how a filter starts, its random walks, satellite orbits, the atmosphere) are
constants of Config.
-/

namespace Sys2Proof.Machine

/-! ## Differences (R116, R118–R120) -/

/-- A between-receiver single difference of a signal: carrier and code in mm with their variances, the satellite, and whether it serves for code
only. -/
structure Sd where
  key : Nat
  sat : RefSat
  car : Rat
  cod : Rat
  carVar : Rat
  codVar : Rat
  half : Bool
  deriving DecidableEq, Repr

/-- The weight factor of R120 for an elevation and a C/N0: `(1 + 1/sin²e) × max(1, 10^((45 − C/N0)/10))`. -/
def weight (elev : Int) (cn0 : Nat) : Rat :=
  let s := sine elev
  (1 + 1 / (s * s)) * (if 180 ≤ cn0 then 1 else tenth (180 - cn0))

/-- The single difference of a signal a machine and the reference both observe. -/
def sdOf (v : RefSat) (m r : Obs) : Sd :=
  let w := weight v.elev m.cn0 + weight v.elev r.cn0
  ⟨m.key, v, m.carrier - r.carrier, m.code - r.code, 4 * w, 90000 * w, m.half || r.half⟩

/-- The signals a satellite has in both (R118). -/
def common (obs : List Obs) (ref : RefEpoch) (v : RefSat) : List Sd :=
  obs.filterMap fun m => if keySat m.key = v.sat then (ref.obs.find? fun r => r.key == m.key).map (sdOf v m) else none

/-- The satellites that may enter the solution (R118), highest first. One on the horizon has no finite weight. -/
def solutionSats (obs : List Obs) (ref : RefEpoch) (mask : Nat) : List RefSat :=
  sortBy (fun a b => decide (b.elev ≤ a.elev))
    (ref.sats.filter fun v => v.usable && v.eph.isSome && decide (100 * (mask : Int) ≤ v.elev) && decide (0 < v.elev) && !(common obs ref v).isEmpty)

/-- The single differences of satellites. -/
def sdsOf (obs : List Obs) (ref : RefEpoch) (sats : List RefSat) : List Sd := sats.flatMap (common obs ref)

/-- At least five satellites on one code, at least two of them in one system (R118). -/
def geometryOk (sds : List Sd) : Bool :=
  ((List.range 17).drop 1).any fun g =>
    let on := sds.filter fun d => keySig d.key == g
    decide (5 ≤ on.length) && (List.range 4).any fun sys => decide (2 ≤ (on.filter fun d => d.sat.sat / 64 == sys).length)

/-! ## Cycle slips (R121) -/

/-- LOCK did not grow by the elapsed counts of 100 ms within one count; a least lock time only must not shrink. -/
def lockSlip (was : Nat) (o : Obs) (elapsed : Nat) : Bool :=
  if o.exact then
    let due := min 4095 (was + elapsed)
    decide (o.lock + 1 < due) || decide (due + 1 < o.lock)
  else decide (o.lock < was)

/-- The phase differs from the one the Doppler of the previous epoch predicts by more than 1 cycle. -/
def phaseSlip (g : SigMem) (m : Obs) (dtMs : Nat) : Bool :=
  match g.rate with
  | some v =>
    let d := m.carrier - (g.carrier + v * dtMs / 1000)
    let l := sigLambda (keySig m.key)
    decide (l < d) || decide (d < -l)
  | none => false

/-- A signal has slipped since the filter's last solved epoch, at the machine or at the reference; `same`: the reference antenna is the one of
that epoch. -/
def slipped (f : SlvFilter) (b : Bundle) (ref : RefEpoch) (same : Bool) (m : Obs) : Bool :=
  let r := ref.obs.find? fun r => r.key == m.key
  b.restart || m.slip || (r.map Obs.slip).getD false ||
    match f.sigs.find? (fun g => g.key == m.key), f.lastEpoch with
    | some g, some t =>
      let dt := b.epoch - t
      lockSlip g.lock m (dt / 100) || phaseSlip g m dt || (same && (r.map fun o => lockSlip g.refLock o (dt / 100)).getD false)
    | _, _ => false

/-! ## Pivots and states (R119, R120) -/

/-- The pivot of a code among its single differences, which come highest first: the old one while it is there, has a carrier, has not slipped and
stands at least 5 degrees above the mask; otherwise the highest with a carrier, or the highest. -/
def pivotOf (old : List Nat) (slips : List Nat) (mask : Nat) (on : List Sd) : Option Nat :=
  match on.find? (fun d => old.contains d.key && !d.half && !slips.contains d.key && decide (100 * ((mask : Int) + 5) ≤ d.sat.elev)) with
  | some d => some d.key
  | none => ((on.find? fun d => !d.half).orElse fun _ => on.head?).map Sd.key

/-- The pivots of an epoch. -/
def pivotsOf (old slips : List Nat) (mask : Nat) (sds : List Sd) : List Nat :=
  ((List.range 17).drop 1).filterMap fun g => pivotOf old slips mask (sds.filter fun d => keySig d.key == g)

/-- The single difference of a key. -/
def sdAt (sds : List Sd) (k : Nat) : Option Sd := sds.find? fun d => d.key == k

/-- The pivot of a signal's code. -/
def pivotFor (pivots : List Nat) (k : Nat) : Option Nat := pivots.find? fun p => keySig p == keySig k

/-- The states of an epoch beyond position and velocity. A signal whose pivot has no carrier has no ambiguity. -/
def layoutOf (tropo iono : Bool) (pivots : List Nat) (sds : List Sd) : Layout :=
  ⟨tropo, if iono then (sds.map fun d => d.sat.sat).eraseDups else [],
    (sds.filter fun d => !d.half && !pivots.contains d.key
      && ((pivotFor pivots d.key).bind (sdAt sds)).any fun p => !p.half).map Sd.key⟩

/-- States in use. -/
def Layout.size (l : Layout) : Nat := 6 + (if l.tropo then 1 else 0) + l.ions.length + l.ambs.length

/-- The places of states. -/
def Layout.ionAt (l : Layout) (sat : Nat) : Nat := 6 + (if l.tropo then 1 else 0) + l.ions.idxOf sat
def Layout.ambAt (l : Layout) (k : Nat) : Nat := 6 + (if l.tropo then 1 else 0) + l.ions.length + l.ambs.idxOf k

/-- The satellites whose states fit into 96: the lowest leave first. -/
def fitSats (tropo iono : Bool) (old slips : List Nat) (mask : Nat) (obs : List Obs) (ref : RefEpoch) (sats : List RefSat) : List RefSat :=
  let size (n : Nat) : Nat :=
    let sds := sdsOf obs ref (sats.take n)
    (layoutOf tropo iono (pivotsOf old slips mask sds) sds).size
  sats.take (((List.range (sats.length + 1)).reverse.find? fun n => decide (size n ≤ 96)).getD 0)

/-- A difference is at least `km` horizontally (R120), or 100 m in height for the troposphere. -/
def farKm (d : List Rat) (km : Nat) : Bool :=
  decide (((km * 1000000 : Nat) : Rat) * ((km * 1000000 : Nat) : Rat) ≤ d.getD 0 0 * d.getD 0 0 + d.getD 1 0 * d.getD 1 0)
def farUp (d : List Rat) : Bool := decide (100000 ≤ d.getD 2 0) || decide (d.getD 2 0 ≤ -100000)

/-! ## The update (R120) -/

/-- The estimate of a filter that starts. -/
def seedEst : Est :=
  (List.range 6).foldl (fun e i => e.push (Config.seed i) (Config.seedVar i)) ⟨[], []⟩

/-- The velocity random walk over `dt` s, and the walks of the atmosphere. -/
def timeUpdate (lay : Layout) (dt : Rat) (e : Est) : Est :=
  let n := e.x.length
  let step := (List.range n).map fun i => if i < 3 then (unitVec n i).zipWith (fun a b => a + dt * b) (unitVec n (i + 3)) else unitVec n i
  let q := Config.walk 0
  let e := (List.range 3).foldl (fun e i =>
    ((e.noise i i (q * dt * dt * dt / 3)).noise i (i + 3) (q * dt * dt / 2)).noise (i + 3) (i + 3) (q * dt)) (e.linear step)
  let e := if lay.tropo then e.noise 6 6 (Config.walk 1 * dt) else e
  lay.ions.foldl (fun e v => e.noise (lay.ionAt v) (lay.ionAt v) (Config.walk 2 * dt)) e

/-- A state of the new layout in terms of the old: a row of coefficients, or a fresh mean and variance. -/
inductive Carry where
  | row (r : List Rat)
  | fresh (x v : Rat)
  deriving DecidableEq, Repr

/-- The old ambiguity of a signal as a row: 0 for the old pivot; none where it had none or has slipped. -/
def ambRow (f : SlvFilter) (slips : List Nat) (k : Nat) : Option (List Rat) :=
  let n := f.est.x.length
  if slips.contains k then none
  else if f.pivots.contains k then some (List.replicate n 0)
  else if f.lay.ambs.contains k then some (unitVec n (f.lay.ambAt k)) else none

/-- The double-difference ambiguity of `k` against pivot `p`: carried by an integer transformation (R119), or started from code less carrier with
a standard deviation of 10 m (R121). -/
def ambCarry (f : SlvFilter) (slips : List Nat) (sds : List Sd) (k p : Nat) : Carry :=
  match ambRow f slips k, ambRow f slips p with
  | some a, some b => .row (a.zipWith (fun x y => x - y) b)
  | _, _ =>
    let l := sigLambda (keySig k)
    let gap (j : Nat) : Rat := ((sdAt sds j).map fun d => d.car - d.cod).getD 0
    .fresh ((gap k - gap p) / l) (100000000 / (l * l))

/-- The integer of an ambiguity against a pivot, where both were held. -/
def intCarry (f : SlvFilter) (slips : List Nat) (k p : Nat) : Option Int :=
  let z (j : Nat) : Option Int :=
    if slips.contains j then none else if f.pivots.contains j then some 0 else (f.fixed.find? fun e => e.1 == j).map Prod.snd
  match z k, z p with
  | some a, some b => some (a - b)
  | _, _ => none

/-- The estimate in a new layout. -/
def Est.relay (e : Est) (cs : List Carry) : Est :=
  let n := e.x.length
  let rows := cs.map fun c => match c with
    | .row r => r
    | .fresh _ _ => List.replicate n 0
  let e := e.linear rows
  ((List.range cs.length).zip cs).foldl (fun e c => match c.2 with
    | .row _ => e
    | .fresh x v => { e with x := e.x.set c.1 x }.noise c.1 c.1 v) e

/-- The states of a new layout from the old. -/
def carries (f : SlvFilter) (slips pivots : List Nat) (sds : List Sd) (lay : Layout) : List Carry :=
  let n := f.est.x.length
  ((List.range 6).map fun i => Carry.row (unitVec n i))
    ++ (if lay.tropo then [if f.lay.tropo then Carry.row (unitVec n 6) else .fresh 0 (Config.seedVar 6)] else [])
    ++ (lay.ions.map fun v => if f.lay.ions.contains v then Carry.row (unitVec n (f.lay.ionAt v)) else .fresh 0 (Config.seedVar 7))
    ++ lay.ambs.map fun k => ambCarry f slips sds k ((pivotFor pivots k).getD 0)

/-- A linearised double difference: its signal, coefficients of the states, value and the variance of its own single difference. -/
structure DdEq where
  key : Nat
  h : List Rat
  y : Rat
  v : Rat
  deriving DecidableEq, Repr

/-- The double difference of `d` against pivot `p` at the predicted position `at'` of a machine, whose reference stands at `ref` (site frame). -/
def ddEq (lay : Layout) (epoch : Nat) (re : RefEpoch) (ref at' : List Rat) (carrier : Bool) (p d : Sd) : DdEq :=
  let content (x : Sd) : Nat := (x.sat.eph.map Prod.snd).getD 0
  let dir (x : Sd) : List Rat := Config.sight (content x) epoch re.pos
  let delay (x : Sd) : Rat := Config.tropoDelay (at'.getD 2 0) x.sat.elev - Config.tropoDelay (ref.getD 2 0) x.sat.elev
  let model (x : Sd) : Rat := Config.rangeDiff (content x) epoch re.pos at' + delay x
  let hp := (List.range 3).map fun i => (dir p).getD i 0 - (dir d).getD i 0
  let slant := if lay.tropo then Config.tropoSlant d.sat.elev - Config.tropoSlant p.sat.elev else 0
  let ratio : Rat := 1575420 / (sigKHz (keySig d.key) : Nat)
  let gamma := if carrier then -(ratio * ratio) else ratio * ratio
  let h := (List.range lay.size).map fun i =>
    if i < 3 then hp.getD i 0
    else if lay.tropo && i == 6 then slant
    else if lay.ions.contains d.sat.sat && i == lay.ionAt d.sat.sat then gamma
    else if lay.ions.contains p.sat.sat && i == lay.ionAt p.sat.sat then -gamma
    else if carrier && lay.ambs.contains d.key && i == lay.ambAt d.key then sigLambda (keySig d.key)
    else 0
  let obs := if carrier then d.car - p.car else d.cod - p.cod
  ⟨d.key, h, obs - (model d - model p) + dot hp (at'.take 3), if carrier then d.carVar else d.codVar⟩

/-- The double differences of a code enter the estimate; the pivot's own error is common to them. -/
def Est.group (e : Est) (eqs : List DdEq) (pivotVar : Rat) : Est :=
  let n := e.x.length
  (eqs.foldl (fun e q => e.meas (q.h ++ [-1]) q.y q.v) (e.push 0 pivotVar)).keep (List.range n)

/-- STATIC: a zero-velocity constraint. -/
def Est.still (e : Est) : Est := [3, 4, 5].foldl (fun e i => e.fix i 0) e

/-! ## An epoch's float solution (R119–R121, R139) -/

/-- Register values the arithmetic uses. -/
structure LaneCfg where
  mask : Nat
  tropoKm : Nat
  ionoKm : Nat
  ratioX10 : Nat
  minFix : Nat
  elevFix : Nat
  resMm : Nat
  floor : Nat
  searchUs : Nat
  deriving DecidableEq, Repr

/-- An epoch's float solution: the filter, the carrier equations, the satellites, whether an ambiguity was carried from an earlier epoch, and
whether a fixed ambiguity slipped. -/
structure FloatSol where
  f : SlvFilter
  eqs : List DdEq
  sats : List RefSat
  carried : Bool
  lost : Bool
  deriving DecidableEq, Repr

/-- The move of a filter from one GRX antenna to the other (R139): the ANT_A-to-ANT_B integers are added, or taken away on the way back. An
ambiguity for which GRX holds none is lost. -/
def SlvFilter.switch (f : SlvFilter) (src : Nat) (ints : List (Nat × Int)) : SlvFilter × List Nat :=
  if f.src = src ∨ 1 < f.src ∨ 1 < src then ({ f with src }, [])
  else
    let z (k : Nat) : Option Int := (ints.find? fun e => e.1 == k).map Prod.snd
    let sign : Int := if src = 1 then 1 else -1
    let d (k : Nat) : Option Int := match z k, (pivotFor f.pivots k).bind z with
      | some a, some b => some (sign * (a - b))
      | _, _ => none
    let x := ((List.range f.est.x.length).zip f.est.x).map fun e =>
      match f.lay.ambs.find? fun k => f.lay.ambAt k == e.1 with
      | some k => e.2 + ((d k).getD 0 : Int)
      | none => e.2
    ({ f with src, est := { f.est with x }, fixed := f.fixed.map fun e => (e.1, e.2 + (d e.1).getD 0) }, f.lay.ambs.filter fun k => (d k).isNone)

/-- The float solution of a bundle on the reference it was matched with; none where R118 is not met. `ref` is the reference's place in the
site frame. -/
def SlvFilter.float (f : SlvFilter) (c : LaneCfg) (b : Bundle) (src : Nat) (re : RefEpoch) (ref : List Rat) : Option FloatSol :=
  let all := solutionSats b.obs re c.mask
  if !geometryOk (sdsOf b.obs re all) then none
  else
    let f0 := if f.est.x.isEmpty then { f with est := seedEst } else f
    let same := f0.src == src
    let (f0, gone) := f0.switch src re.ints
    let slips := gone ++ (b.obs.filter (slipped f0 b re same)).map Obs.key
    let dt : Rat := match f0.lastEpoch with
      | some t => ((b.epoch - t : Nat) : Rat) / 1000
      | none => 0
    let e := timeUpdate f0.lay dt f0.est
    let off := (List.range 3).map fun i => e.x.getD i 0 - ref.getD i 0
    let tropo := farKm off c.tropoKm || farUp off
    let iono := farKm off c.ionoKm
    let sats := fitSats tropo iono f0.pivots slips c.mask b.obs re all
    let sds := sdsOf b.obs re sats
    let pivots := pivotsOf f0.pivots slips c.mask sds
    let lay := layoutOf tropo iono pivots sds
    let cs := carries f0 slips pivots sds lay
    let at' := (e.x.take 3)
    let e := e.relay cs
    let group (carrier : Bool) (p : Nat) : List DdEq :=
      match sdAt sds p with
      | some q => (sds.filter fun d => keySig d.key == keySig p && d.key != p && (!carrier || lay.ambs.contains d.key)).map
          (ddEq lay b.epoch re ref at' carrier q)
      | none => []
    let var (carrier : Bool) (p : Nat) : Rat := ((sdAt sds p).map fun q => if carrier then q.carVar else q.codVar).getD 0
    let e := pivots.foldl (fun e p => (e.group (group false p) (var false p)).group (group true p) (var true p)) e
    let e := if b.static then e.still else e
    let sigs := b.obs.filterMap fun m => (sdAt sds m.key).map fun _ =>
      (⟨m.key, m.lock, ((re.obs.find? fun r => r.key == m.key).map Obs.lock).getD 0, m.carrier, m.rate⟩ : SigMem)
    let fixed := lay.ambs.filterMap fun k => (intCarry f0 slips k ((pivotFor pivots k).getD 0)).map fun z => (k, z)
    some ⟨{ f0 with lay, est := e, pivots, fixed, sigs }, pivots.flatMap (group true), sats,
      lay.ambs.any fun k => match ambCarry f0 slips sds k ((pivotFor pivots k).getD 0) with
        | .row _ => true
        | .fresh _ _ => false,
      f0.fixed.any fun e => slips.contains e.1⟩

/-! ## Validation and search (R122–R124) -/

/-- A filter's estimate conditioned on integers. -/
def SlvFilter.onFixed (f : SlvFilter) (l : List (Nat × Int)) : Est := f.est.fixAll (l.map fun e => (f.lay.ambAt e.1, e.2))

/-- The carrier residuals of an estimate, mm. -/
def residuals (eqs : List DdEq) (e : Est) : List Rat := eqs.map fun q => q.y - dot q.h e.x

/-- The sum of their squares. -/
def sumSq (l : List Rat) : Rat := (l.map fun r => r * r).sum

/-- The residual test of R123: root mean square at most RES_MM, none beyond 4 × RES_MM. -/
def residualsPass (resMm : Nat) (l : List Rat) : Bool :=
  decide (sumSq l ≤ (l.length : Rat) * (resMm : Rat) * (resMm : Rat))
    && l.all fun r => decide (r * r ≤ 16 * (resMm : Rat) * (resMm : Rat))

/-- The float H3 (R125). -/
def SlvFilter.floatH3 (f : SlvFilter) (floor : Nat) : Nat := max floor (semiMajor f.est)

/-- A set is accepted (R123): ratio, number, residuals, and a horizontal position within the float H3 of the float one. At most 89 are held. -/
def SlvFilter.accepts (f : SlvFilter) (c : LaneCfg) (eqs : List DdEq) (set' : List (Nat × Int)) (best second : Rat) : Bool :=
  let e := f.onFixed set'
  let de := e.x.getD 0 0 - f.est.x.getD 0 0
  let dn := e.x.getD 1 0 - f.est.x.getD 1 0
  let h := f.floatH3 c.floor
  decide ((c.ratioX10 : Rat) * best ≤ 10 * second) && decide (c.minFix ≤ set'.length) && decide (set'.length ≤ 89)
    && residualsPass c.resMm (residuals eqs e) && decide (de * de + dn * dn ≤ ((h * h : Nat) : Rat))

/-- RATIO of a search: second-best to best, in units of 0.01; its rounding is not stated. A perfect best saturates it. -/
def ratioOf (best second : Rat) : Nat :=
  if best ≤ 0 then 65535
  else
    let q := 100 * second / best
    (if q.den = 1 then q.num else Config.roundQuot q.num q.den).toNat

/-- The signal of the largest float variance. -/
def SlvFilter.worst (f : SlvFilter) (ks : List Nat) : Option Nat :=
  (sortBy (fun a b => decide (f.est.var (f.lay.ambAt b) ≤ f.est.var (f.lay.ambAt a))) ks).head?

/-- The search over the open ambiguities `ks`, and again without the one of the largest float variance, until a set passes or fewer than
MIN_FIX would be held; with the ratio of the last candidates. -/
def SlvFilter.search (f : SlvFilter) (c : LaneCfg) (eqs : List DdEq) : (fuel : Nat) → (ks : List Nat) → (ratio : Nat) → Option (List (Nat × Int)) × Nat
  | 0, _, ratio => (none, ratio)
  | fuel + 1, ks, ratio =>
    if ks.isEmpty ∨ f.fixed.length + ks.length < c.minFix then (none, ratio)
    else
      match ((f.onFixed f.fixed).keep (ks.map f.lay.ambAt)).best2 ks.length with
      | none => (none, ratio)
      | some (a, b) =>
        let set' := f.fixed ++ ks.zip a.1
        let r := ratioOf a.2 b.2
        if f.accepts c eqs set' a.2 b.2 then (some set', r)
        else f.search c eqs fuel (match f.worst ks with
          | some k => ks.erase k
          | none => []) r

/-- A search runs on an epoch (R122). -/
def SlvFilter.searchDue (f : SlvFilter) (b : Bundle) (floor : Nat) : Bool :=
  (f.lay.ambs.any fun k => !f.fixed.any fun e => e.1 == k) && decide (f.floatH3 floor ≤ 600) && !b.noSearch && (match f.lastSearch with
    | some t => decide (t + 500 ≤ b.epoch)
    | none => true)

/-- The set holds every ambiguity of the satellites at or above ELEV_FIX: FIXED, otherwise PARTIAL (R123). -/
def fullSet (ambs : List Nat) (sats : List RefSat) (elevFix : Nat) (set' : List (Nat × Int)) : Bool :=
  ambs.all fun k => (set'.any fun e => e.1 == k) || !(sats.any fun v => v.sat == keySat k && decide (100 * (elevFix : Int) ≤ v.elev))

/-- Every fixed ambiguity returns to float (R124, R145). -/
def SlvFilter.floated (f : SlvFilter) : SlvFilter := { f with fix := min f.fix 1, fixed := [], hold := 0 }

/-- The filter after fixing: the residual test of the held fix, ambiguities slipped, the search; and whether the fix was dropped. -/
def FloatSol.fixing (r : FloatSol) (c : LaneCfg) (b : Bundle) (searchUs : Nat) : SlvFilter × Bool :=
  let f := r.f
  let f := if f.fixed.isEmpty then f.floated else if r.lost then { f with fix := min f.fix 2, hold := 0 } else f
  let dropped := decide (2 ≤ f.fix) && !residualsPass c.resMm (residuals r.eqs (f.onFixed f.fixed))
  let f := if dropped then f.floated else f
  let due := f.searchDue b c.floor
  let f := if due then { f with lastSearch := some b.epoch } else f
  let open' := f.lay.ambs.filter fun k => !f.fixed.any fun e => e.1 == k
  let f := if due && decide (searchUs ≤ c.searchUs) then
      match f.search c r.eqs (open'.length + 1) open' f.ratio with
      | (some set', ratio) => { f with ratio, fixed := set', fix := if fullSet f.lay.ambs r.sats c.elevFix set' then 3 else 2 }
      | (none, ratio) => { f with ratio }
    else f
  let fix := if 2 ≤ f.fix then f.fix else if r.carried then 1 else 0
  ({ f with fix, hold := if fix = 3 then f.hold + 1 else 0, lastEpoch := some b.epoch }, dropped)

/-- The output of an epoch: the float solution, or that conditioned on the fix. -/
def SlvFilter.output (f : SlvFilter) : Est := if 2 ≤ f.fix then f.onFixed f.fixed else f.est

/-- The whole number of a quantity, whose rounding the spec does not state. -/
def wholeOf (q : Rat) : Int := if q.den = 1 then q.num else Config.roundQuot q.num q.den

end Sys2Proof.Machine
end

