-- ==== Sys2Proof/Machine/Hash.lean ====
section
/-!
DEFINITION. The SHA-2 functions the spec names: SHA-384 (R21, R24, R371, R412, R415, R418, R419, R422) and the SHA-256 inside HMAC
(R413). The spec names them only; what they compute is FIPS 180-4's: PRESUMED (log 12). Their constants are computed here from the
definition FIPS 180-4 gives them, the first bits of the fractional parts of square and cube roots of primes.
-/

namespace Sys2Proof.Machine

/-! ## Constants -/

/-- The greatest `r` below `start + 2 ^ n` whose `k`-th power is at most `x`, where `start` has that property: bit by bit. -/
def rootFrom (k x : Nat) : (n start : Nat) → Nat
  | 0, r => r
  | n + 1, r => rootFrom k x n (if Nat.ble (Nat.pow (Nat.add r (Nat.pow 2 n)) k) x then Nat.add r (Nat.pow 2 n) else r)

/-- The first `bits` bits of the fractional part of the `k`-th root of `p`, a number below 2^15. -/
def rootFraction (k bits p : Nat) : Nat := Nat.mod (rootFrom k (Nat.mul p (Nat.pow 2 (Nat.mul k bits))) (bits + 5) 0) (Nat.pow 2 bits)

/-- The primes below 410: eighty of them. No divisor above 20 has to be tried. -/
def smallPrimes : List Nat :=
  (List.range 410).filter fun n => Nat.ble 2 n && (List.range 21).all fun d => Nat.ble d 1 || Nat.beq d n || !(Nat.beq (Nat.mod n d) 0)

/-! ## Both functions at once -/

/-- What differs between SHA-256 and SHA-512: word width, rounds, and the rotations of the four sums; the last number of a small sum is a
shift. -/
structure Sha2 where
  bits : Nat
  rounds : Nat
  sumA : List Nat
  sumE : List Nat
  newest : List Nat
  oldest : List Nat
  deriving DecidableEq, Repr

/-- SHA-256, and SHA-512, whose rounds SHA-384 uses. -/
def Sha2.s256 : Sha2 := ⟨32, 64, [2, 13, 22], [6, 11, 25], [17, 19, 10], [7, 18, 3]⟩
def Sha2.s512 : Sha2 := ⟨64, 80, [28, 34, 39], [14, 18, 41], [19, 61, 6], [1, 8, 7]⟩

/-- The low `bits` bits of a sum. -/
def Sha2.cut (h : Sha2) (x : Nat) : Nat := Nat.mod x (Nat.pow 2 h.bits)

/-- A word rotated right. -/
def Sha2.turn (h : Sha2) (x n : Nat) : Nat := Nat.lor (Nat.shiftRight x n) (h.cut (Nat.shiftLeft x (Nat.sub h.bits n)))

/-- The sum of three rotations. -/
def Sha2.sum3 (h : Sha2) (r : List Nat) (x : Nat) : Nat := (r.map (h.turn x)).foldl Nat.xor 0

/-- The sum of two rotations and a shift. -/
def Sha2.sum2 (h : Sha2) (r : List Nat) (x : Nat) : Nat :=
  Nat.xor (Nat.xor (h.turn x (r.getD 0 0)) (h.turn x (r.getD 1 0))) (Nat.shiftRight x (r.getD 2 0))

/-- The round constants. -/
def Sha2.consts (h : Sha2) : List Nat := (smallPrimes.take h.rounds).map (rootFraction 3 h.bits)

/-- The eight working words as two histories of four, newest first: the words a to d, and e to h. -/
abbrev Sha2Words : Type := List Nat × List Nat

/-- A round: both histories move on by a word. -/
def Sha2.round (h : Sha2) (v : Sha2Words) (constant word : Nat) : Sha2Words :=
  let a (i : Nat) : Nat := v.1.getD i 0
  let e (i : Nat) : Nat := v.2.getD i 0
  let choice := Nat.xor (Nat.land (e 0) (e 1)) (Nat.land (h.cut (Nat.sub (Nat.pow 2 h.bits) (e 0 + 1))) (e 2))
  let most := Nat.lor (Nat.land (a 0) (Nat.lor (a 1) (a 2))) (Nat.land (a 1) (a 2))
  let gain := e 3 + h.sum3 h.sumE (e 0) + choice + constant + word
  (h.cut (gain + h.sum3 h.sumA (a 0) + most) :: v.1.take 3, h.cut (a 3 + gain) :: v.2.take 3)

/-- The message schedule, newest word first, longer by `n` words. -/
def Sha2.schedule (h : Sha2) : (n : Nat) → List Nat → List Nat
  | 0, w => w
  | n + 1, w =>
    h.schedule n (h.cut (h.sum2 h.newest (w.getD 1 0) + w.getD 6 0 + h.sum2 h.oldest (w.getD 14 0) + w.getD 15 0) :: w)

end Sys2Proof.Machine

namespace Sys2Proof

/-- The big-endian number a byte string spells, as published standards write it (R6). -/
def Bytes.beNat (bs : List Byte) : Nat := bs.foldl (fun n b => n * 256 + b.toNat) 0

/-- The `n` low bytes of a number, most significant first. -/
def Bytes.be (n v : Nat) : List Byte := (Bytes.ofNat n v).reverse

end Sys2Proof

namespace Sys2Proof.Machine

/-- Bytes in a block: sixteen words. -/
def Sha2.blockLen (h : Sha2) : Nat := 2 * h.bits

/-- The chaining value after one block. -/
def Sha2.block (h : Sha2) (v : Sha2Words) (bs : List Byte) : Sha2Words :=
  let first := (List.range 16).map fun i => Bytes.beNat (Bytes.slice bs (h.bits / 8 * i) (h.bits / 8))
  let words := (h.schedule (h.rounds - 16) first.reverse).reverse
  let r := (h.consts.zip words).foldl (fun v kw => h.round v kw.1 kw.2) v
  (List.zipWith (fun x y => h.cut (x + y)) v.1 r.1, List.zipWith (fun x y => h.cut (x + y)) v.2 r.2)

/-- The chaining value after `n` blocks. -/
def Sha2.run (h : Sha2) : (n : Nat) → Sha2Words → List Byte → Sha2Words
  | 0, v, _ => v
  | n + 1, v, bs => h.run n (h.block v (bs.take h.blockLen)) (bs.drop h.blockLen)

/-- The hash from an initial value: the message, a one bit, zeros up to a whole block, and the length in bits in the last two words. -/
def Sha2.hash (h : Sha2) (init : List Nat) (bs : List Byte) : List Byte :=
  let tail := h.bits / 4
  let room := (bs.length + tail) / h.blockLen + 1
  let padded := Bytes.padTo (bs ++ [0x80#8]) (room * h.blockLen - tail) ++ Bytes.be tail (8 * bs.length)
  let v := h.run room (init.take 4, init.drop 4) padded
  (v.1 ++ v.2).flatMap (Bytes.be (h.bits / 8))

/-- SHA-384: SHA-512 from the roots of the ninth to sixteenth prime, cut to 48 bytes. -/
def sha384 (bs : List Byte) : List Byte :=
  (Sha2.s512.hash (((smallPrimes.drop 8).take 8).map (rootFraction 2 64)) bs).take 48

/-- SHA-256, from the roots of the first eight primes. -/
def sha256 (bs : List Byte) : List Byte := Sha2.s256.hash ((smallPrimes.take 8).map (rootFraction 2 32)) bs

end Sys2Proof.Machine
end

