-- ==== Sys2Proof/Machine/Crypto.lean ====
section
/-!
DEFINITION. The cryptography the spec names: HMAC-SHA-256 and the KDF of R413, AES-256 with CMAC (R214, R215, R231, R306, R413) and key
wrap (R415, R418), ECDSA and ECDH on P-384 (R24, R413–R419, R422). The spec names the standards only; what they compute is PRESUMED
(log 12). Points are uncompressed byte strings in the standard's order, signatures r and s little-endian by R6 (log 73).
-/

namespace Sys2Proof.Machine

/-- The exclusive or of two byte strings, as long as the shorter. -/
def xorBytes (a b : List Byte) : List Byte := List.zipWith (fun x y => x ^^^ y) a b

/-! ## HMAC and the KDF (R413) -/

/-- HMAC-SHA-256 under a key of at most 64 bytes. -/
def hmac256 (key msg : List Byte) : List Byte :=
  let pad (b : Byte) : List Byte := (Bytes.padTo key 64).map fun k => k ^^^ b
  sha256 (pad 0x5C#8 ++ sha256 (pad 0x36#8 ++ msg))

/-- The ASCII bytes of a label. -/
def asciiBytes (label : List Char) : List Byte := label.map fun c => BitVec.ofNat 8 c.toNat

/-- One block of the KDF: counter 1, label, a zero byte, the 8-byte context and the length 256, big-endian (R413). -/
def kdf (key : List Byte) (label : List Char) (context : Nat) : List Byte :=
  hmac256 key (Bytes.be 4 1 ++ asciiBytes label ++ [0#8] ++ Bytes.be 8 context ++ Bytes.be 4 256)

/-! ## AES-256 -/

/-- A byte doubled in the field of AES. -/
def gfDouble (x : Nat) : Nat := if Nat.ble 128 x then Nat.xor (Nat.mod (Nat.mul 2 x) 256) 0x1B else Nat.mul 2 x

/-- A product in the field of AES, over the low `n` bits of `y`. -/
def gfMul : (n x y : Nat) → Nat
  | 0, _, _ => 0
  | n + 1, x, y => Nat.xor (if Nat.beq (Nat.mod y 2) 1 then x else 0) (gfMul n (gfDouble x) (Nat.div y 2))

/-- The powers of the generator 3: the field's 255 elements other than 0, in that order. -/
def gfPowers : (n x : Nat) → List Nat
  | 0, _ => []
  | n + 1, x => x :: gfPowers n (Nat.xor x (gfDouble x))

/-- A byte rotated left. -/
def rotByte (x n : Nat) : Nat := Nat.mod (Nat.lor (Nat.shiftLeft x n) (Nat.shiftRight x (8 - n))) 256

/-- The affine map of the byte substitution. -/
def subAffine (x : Nat) : Nat := Nat.xor 0x63 ([0, 1, 2, 3, 4].foldl (fun r n => Nat.xor r (rotByte x n)) 0)

/-- The substitution of every byte, the byte of `x` at bits 8x + 7 to 8x of one number: the affine map of the inverse, 0 for 0; the
inverse of the power i of the generator is its power 255 − i. -/
def subTable : Nat :=
  let p := gfPowers 255 1
  (List.zip p (1 :: p.tail.reverse)).foldl (fun t q => Nat.lor t (Nat.shiftLeft (subAffine q.2) (Nat.mul 8 q.1))) (subAffine 0)

/-- Byte `i` of such a number. -/
def tableAt (t i : Nat) : Nat := Nat.mod (Nat.shiftRight t (Nat.mul 8 i)) 256

/-- The inverse substitution in the same form. -/
def unsubTable : Nat :=
  (List.range 256).foldl (fun t x => Nat.lor t (Nat.shiftLeft x (Nat.mul 8 (tableAt subTable x)))) 0

/-- The substitution of every byte of a list, and its inverse. -/
def subBytes (v : List Nat) : List Nat := v.map (tableAt subTable)
def unsubBytes (v : List Nat) : List Nat := v.map (tableAt unsubTable)

/-- `n` more words of the key schedule of AES-256, newest first; word `i` comes next. -/
def aesExpand : (n i : Nat) → List (List Nat) → List (List Nat)
  | 0, _, w => w
  | n + 1, i, w =>
    let last := w.getD 0 []
    let t :=
      if i % 8 = 0 then
        List.zipWith Nat.xor (subBytes (last.drop 1 ++ last.take 1)) [(List.range (i / 8 - 1)).foldl (fun x _ => gfDouble x) 1, 0, 0, 0]
      else if i % 8 = 4 then subBytes last
      else last
    aesExpand n (i + 1) (List.zipWith Nat.xor (w.getD 7 []) t :: w)

/-- The fifteen round keys of a key of 32 bytes, 16 numbers each. -/
def aesKeys (key : List Byte) : List (List Nat) :=
  let k := (Bytes.padTo key 32).map BitVec.toNat
  let words := (aesExpand 52 8 ((List.range 8).map fun i => (k.drop (4 * i)).take 4).reverse).reverse
  (List.range 15).map fun r => ((words.drop (4 * r)).take 4).flatten

/-- Byte `r + 4c` of the state takes the place of row `r`, column `c + turn · r`. -/
def aesRows (turn : Nat) (v : List Nat) : List Nat := (List.range 16).map fun i => v.getD ((i + 4 * (turn * (i % 4))) % 16) 0

/-- A column of the state times the circulant of four factors. -/
def aesColumns (m : List Nat) (v : List Nat) : List Nat :=
  (List.range 16).map fun i =>
    (List.range 4).foldl (fun x j => Nat.xor x (gfMul 4 (v.getD (i / 4 * 4 + j) 0) (m.getD ((j + 4 - i % 4) % 4) 0))) 0

/-- The rounds of encryption after the first key; the last leaves the columns. -/
def aesRounds : List (List Nat) → List Nat → List Nat
  | [], v => v
  | [k], v => List.zipWith Nat.xor (aesRows 1 (subBytes v)) k
  | k :: ks, v => aesRounds ks (List.zipWith Nat.xor (aesColumns [2, 3, 1, 1] (aesRows 1 (subBytes v))) k)

/-- A block of 16 bytes enciphered under round keys. -/
def aesBlock (keys : List (List Nat)) (bs : List Byte) : List Byte :=
  match keys with
  | k :: ks => (aesRounds ks (List.zipWith Nat.xor (bs.map BitVec.toNat) k)).map (BitVec.ofNat 8)
  | [] => bs

/-- The rounds of decryption after the last key, the keys backwards. -/
def aesUnrounds : List (List Nat) → List Nat → List Nat
  | [], v => v
  | [k], v => List.zipWith Nat.xor (unsubBytes (aesRows 3 v)) k
  | k :: ks, v =>
    aesUnrounds ks (aesColumns [14, 11, 13, 9] (List.zipWith Nat.xor (unsubBytes (aesRows 3 v)) k))

/-- A block deciphered. -/
def aesUnblock (keys : List (List Nat)) (bs : List Byte) : List Byte :=
  match keys.reverse with
  | k :: ks => (aesUnrounds ks (List.zipWith Nat.xor (bs.map BitVec.toNat) k)).map (BitVec.ofNat 8)
  | [] => bs

/-! ## CMAC -/

/-- A block doubled in the field of CMAC. -/
def cmacDouble (x : Nat) : Nat := Nat.xor (x * 2 % 2 ^ 128) (if 2 ^ 127 ≤ x then 0x87 else 0)

/-- The chained blocks of a message, but for the last. -/
def cmacChain (keys : List (List Nat)) : (n : Nat) → (mac msg : List Byte) → List Byte
  | 0, mac, _ => mac
  | n + 1, mac, msg => cmacChain keys n (aesBlock keys (xorBytes mac (msg.take 16))) (msg.drop 16)

/-- AES-CMAC: 16 bytes. -/
def aesCmac (key msg : List Byte) : List Byte :=
  let keys := aesKeys key
  let sub := cmacDouble (Bytes.beNat (aesBlock keys (List.replicate 16 0#8)))
  let whole := !msg.isEmpty && msg.length % 16 == 0
  let blocks := if whole then msg.length / 16 - 1 else msg.length / 16
  let rest := msg.drop (16 * blocks)
  let last := if whole then xorBytes rest (Bytes.be 16 sub)
    else xorBytes (Bytes.padTo (rest ++ [0x80#8]) 16) (Bytes.be 16 (cmacDouble sub))
  aesBlock keys (xorBytes (cmacChain keys blocks (List.replicate 16 0#8) msg) last)

/-- AES-CMAC cut to its first 64 bits (R215). -/
def cmac64 (key msg : List Byte) : List Byte := (aesCmac key msg).take 8

/-! ## Key wrap (NIST SP 800-38F, KW) -/

/-- The 64-bit pieces of a byte string. -/
def semiblocks (bs : List Byte) : List (List Byte) := (List.range (bs.length / 8)).map fun i => Bytes.slice bs (8 * i) 8

/-- One step of wrapping: the register A and the pieces in turn; step `t` from 1. -/
def wrapStep (keys : List (List Nat)) (v : List Byte × List (List Byte)) (t : Nat) : List Byte × List (List Byte) :=
  match v.2 with
  | r :: rs =>
    let b := aesBlock keys (v.1 ++ r)
    (xorBytes (b.take 8) (Bytes.be 8 t), rs ++ [b.drop 8])
  | [] => v

/-- One step of unwrapping: the last piece first. -/
def unwrapStep (keys : List (List Nat)) (v : List Byte × List (List Byte)) (t : Nat) : List Byte × List (List Byte) :=
  match v.2.getLast? with
  | some r =>
    let b := aesUnblock keys (xorBytes v.1 (Bytes.be 8 t) ++ r)
    (b.take 8, b.drop 8 :: v.2.dropLast)
  | none => v

/-- KW of a byte string of whole 8-byte pieces. -/
def keyWrap (key bs : List Byte) : List Byte :=
  let r := semiblocks bs
  let v := ((List.range (6 * r.length)).map (· + 1)).foldl (wrapStep (aesKeys key)) (List.replicate 8 0xA6#8, r)
  v.1 ++ v.2.flatten

/-- The string a wrapped one holds; none where its check fails. -/
def keyUnwrap (key bs : List Byte) : Option (List Byte) :=
  let r := semiblocks (bs.drop 8)
  let v := ((List.range (6 * r.length)).map (· + 1)).reverse.foldl (unwrapStep (aesKeys key)) (bs.take 8, r)
  if v.1 = List.replicate 8 0xA6#8 then some v.2.flatten else none

/-! ## P-384 -/

/-- The field's prime, the order of the base point, and the curve's coefficient b (FIPS 186-5's curve P-384). -/
abbrev p384 : Nat := 2 ^ 384 - 2 ^ 128 - 2 ^ 96 + 2 ^ 32 - 1
abbrev n384 : Nat := 0xffffffffffffffffffffffffffffffffffffffffffffffffc7634d81f4372ddf581a0db248b0a77aecec196accc52973
abbrev b384 : Nat := 0xb3312fa7e23ee7e4988e056be3f82d19181d9c6efe8141120314088f5013875ac656398d8a2ed19d2a85c8edd3ec2aef

/-- A point: none is the point at infinity. -/
abbrev EcPoint : Type := Option (Nat × Nat)

/-- The base point. -/
def g384 : EcPoint :=
  some (0xaa87ca22be8b05378eb1c71ef320ad746e1d3b628ba79b9859f741e082542a385502f25dbf55296c3a545e3872760ab7,
    0x3617de4a96262c6f5d9e98bf9292dc29f8f41dbd289a147ce9da3113b5f0b8c00a60b1ce1d7e819d7a431d7c90ea0e5f)

/-- A power modulo `m`, over the low `n` bits of the exponent. -/
def powMod (m : Nat) : (n x e : Nat) → Nat
  | 0, _, _ => 1
  | n + 1, x, e => (if e % 2 = 1 then x else 1) * powMod m n (x * x % m) (e / 2) % m

/-- The inverse modulo a prime below 2^384. -/
def invMod (m x : Nat) : Nat := powMod m 384 (x % m) (m - 2)

/-- A difference in the field. -/
def subMod (x y : Nat) : Nat := (x + p384 - y % p384) % p384

/-- A point of the curve y² = x³ − 3x + b by X, Y, Z, with x = X / Z² and y = Y / Z³, so that sums need no inverse; Z = 0 is the point
at infinity. -/
abbrev EcTriple : Type := Nat × Nat × Nat

/-- The triple of a point, and the point of a triple. -/
def ecLift : EcPoint → EcTriple
  | some (x, y) => (x, y, 1)
  | none => (1, 1, 0)
def ecLand (p : EcTriple) : EcPoint :=
  if p.2.2 = 0 then none
  else
    let w := invMod p384 p.2.2
    some (p.1 * (w * w % p384) % p384, p.2.1 * (w * w % p384 * w % p384) % p384)

/-- Twice a point. -/
def ecTwice : EcTriple → EcTriple
  | (x, y, z) =>
    if z = 0 ∨ y = 0 then (1, 1, 0)
    else
      let a := y * y % p384
      let b := 4 * x * a % p384
      let m := 3 * subMod x (z * z) * (x + z * z) % p384
      let u := subMod (m * m) (2 * b)
      (u, subMod (m * subMod b u) (8 * a * a), 2 * y * z % p384)

/-- The sum of two points. -/
def ecAdd : EcTriple → EcTriple → EcTriple
  | (x1, y1, z1), (x2, y2, z2) =>
    if z1 = 0 then (x2, y2, z2)
    else if z2 = 0 then (x1, y1, z1)
    else
      let a := x1 * (z2 * z2 % p384) % p384
      let h := subMod (x2 * (z1 * z1 % p384)) a
      let b := y1 * (z2 * z2 % p384 * z2 % p384) % p384
      let m := subMod (y2 * (z1 * z1 % p384 * z1 % p384)) b
      if h = 0 then (if m = 0 then ecTwice (x1, y1, z1) else (1, 1, 0))
      else
        let c := a * (h * h % p384) % p384
        let k := h * h % p384 * h % p384
        let u := subMod (m * m) (k + 2 * c)
        (u, subMod (m * subMod c u) (b * k), h * z1 % p384 * z2 % p384)

/-- A multiple of a point, over the low `n` bits of the factor. -/
def ecMul : (n k : Nat) → EcTriple → EcTriple
  | 0, _, _ => (1, 1, 0)
  | n + 1, k, p => if k % 2 = 1 then ecAdd p (ecMul n (k / 2) (ecTwice p)) else ecMul n (k / 2) (ecTwice p)

/-- A multiple of a point. -/
def ecTimes (k : Nat) (p : EcPoint) : EcPoint := ecLand (ecMul 384 k (ecLift p))

/-- The 97 bytes of an uncompressed point. -/
def ecBytes (p : EcPoint) : List Byte :=
  match p with
  | some (x, y) => [0x04#8] ++ Bytes.be 48 x ++ Bytes.be 48 y
  | none => List.replicate 97 0#8

/-- The point that 97 bytes spell, if they are an uncompressed point of the curve (R418). -/
def ecPoint (bs : List Byte) : EcPoint :=
  let x := Bytes.beNat (Bytes.slice bs 1 48)
  let y := Bytes.beNat (Bytes.slice bs 49 48)
  if bs.length = 97 ∧ bs.take 1 = [0x04#8] ∧ x < p384 ∧ y < p384 ∧ y * y % p384 = subMod (x * x % p384 * x + b384) (3 * x) then some (x, y)
  else none

/-- The public key of a private one. -/
def ecPublic (d : Nat) : List Byte := ecBytes (ecTimes d g384)

/-- The shared secret of ECDH: the x-coordinate of a multiple of the other's point, 48 bytes. -/
def ecdhSecret (d : Nat) (peer : List Byte) : List Byte := ((ecBytes (ecTimes d (ecPoint peer))).drop 1).take 48

/-- The number a message's hash is in ECDSA. -/
def ecdsaHash (msg : List Byte) : Nat := Bytes.beNat (sha384 msg)

/-- ECDSA's verdict on a signature r, s over SHA-384 of a message (R24, R415, R418, R419, R422). -/
def ecdsaVerify (key msg sig : List Byte) : Bool :=
  let r := Bytes.at' sig 0 48
  let s := Bytes.at' sig 48 48
  let w := invMod n384 s
  (ecPoint key).isSome && decide (1 ≤ r) && decide (r < n384) && decide (1 ≤ s) && decide (s < n384)
    && (match ecLand (ecAdd (ecMul 384 (ecdsaHash msg * w % n384) (ecLift g384)) (ecMul 384 (r * w % n384) (ecLift (ecPoint key)))) with
      | some (x, _) => x % n384 == r
      | none => false)

/-- A signature with private key `d` and the per-message number `k`. -/
def ecdsaSign (d k : Nat) (msg : List Byte) : List Byte :=
  let r := match ecTimes k g384 with
    | some (x, _) => x % n384
    | none => 0
  Bytes.ofNat 48 r ++ Bytes.ofNat 48 (invMod n384 k * (ecdsaHash msg + r * d) % n384)

/-- A private key from extra random bits, as FIPS 186-5 makes one (R413). -/
def ecScalar (c : Nat) : Nat := c % (n384 - 1) + 1

end Sys2Proof.Machine
end

