-- ==== Sys2Proof/Machine/Events.lean ====
section
/-!
DEFINITION. The events of the module: one number per event (`Ev.<BLOCK>_<NAME>`, names and numbers of the event
tables of every chapter), the block that raises each, and which of them write a logbook record.
-/

namespace Sys2Proof.Machine

/-! ## Block IDs (R40) -/

abbrev Blk.GLB : Nat := 0x01
abbrev Blk.SIM : Nat := 0x02
abbrev Blk.PWR : Nat := 0x03
abbrev Blk.RST : Nat := 0x04
abbrev Blk.HPG : Nat := 0x05
abbrev Blk.EVT : Nat := 0x06
abbrev Blk.XQ : Nat := 0x07
abbrev Blk.CLS : Nat := 0x10
abbrev Blk.AUT : Nat := 0x14
abbrev Blk.SLV : Nat := 0x18
abbrev Blk.GRX : Nat := 0x20
abbrev Blk.TIM : Nat := 0x28
abbrev Blk.PTP : Nat := 0x29
abbrev Blk.AIR : Nat := 0x30
abbrev Blk.RHL : Nat := 0x34
abbrev Blk.DSP : Nat := 0x38
abbrev Blk.LPE : Nat := 0x3C
abbrev Blk.AHN : Nat := 0x40
abbrev Blk.DMU : Nat := 0x44
abbrev Blk.KEY : Nat := 0x48
abbrev Blk.UPD : Nat := 0x4A
abbrev Blk.LOG : Nat := 0x4C
abbrev Blk.ETH : Nat := 0x50
abbrev Blk.HST : Nat := 0x51

/-! ## Event numbers -/

abbrev Ev.RST_STARTED : Nat := 0

abbrev Ev.PWR_PFW : Nat := 1

abbrev Ev.PWR_PFW_CLEAR : Nat := 2

abbrev Ev.PWR_LEAVE_REFUSED : Nat := 3

abbrev Ev.PWR_BUDGET_OVER : Nat := 4

abbrev Ev.PWR_TEST_PASSED : Nat := 5

abbrev Ev.PWR_TEST_FAILED : Nat := 6

abbrev Ev.PWR_TEST_DEFERRED : Nat := 7

abbrev Ev.RST_OPTION_FAIL : Nat := 8

abbrev Ev.RST_FACTORY_SAFE : Nat := 9

abbrev Ev.RST_BACKUP_LOST : Nat := 10

abbrev Ev.HPG_EJECT : Nat := 11

abbrev Ev.HPG_EJECT_CANCEL : Nat := 12

abbrev Ev.HPG_REMOVAL_READY : Nat := 13

abbrev Ev.HPG_SURPRISE_REMOVAL : Nat := 14

abbrev Ev.PWR_TEMP_HIGH : Nat := 15

abbrev Ev.SIM_LOAD_DONE : Nat := 16

abbrev Ev.SIM_LOAD_FAIL : Nat := 17

abbrev Ev.SIM_APPLIED : Nat := 18

abbrev Ev.SIM_APPLY_REFUSED : Nat := 19

abbrev Ev.SIM_PARSE_REFUSED : Nat := 20

abbrev Ev.SIM_DISABLE_REFUSED : Nat := 21

abbrev Ev.SIM_BOOT_FALLBACK : Nat := 22

abbrev Ev.SIM_NO_IMAGE : Nat := 23

abbrev Ev.SIM_STORE_DONE : Nat := 24

abbrev Ev.SIM_STORE_FAIL : Nat := 25

abbrev Ev.SIM_CMD_BUSY : Nat := 26

abbrev Ev.XQ_RESET : Nat := 32

abbrev Ev.XQ_HELD : Nat := 33

abbrev Ev.CLS_SOLECISM : Nat := 48

abbrev Ev.CLS_TABLE_FULL : Nat := 49

abbrev Ev.CLS_NEAR_FULL : Nat := 50

abbrev Ev.CLS_PREEMPTED : Nat := 51

abbrev Ev.CLS_HOLD_SET : Nat := 52

abbrev Ev.CLS_HOLD_MISSING : Nat := 53

abbrev Ev.CLS_SWEEP_DONE : Nat := 54

abbrev Ev.CLS_MEM_FAULT : Nat := 55

abbrev Ev.CLS_FOLLOW_SET : Nat := 56

abbrev Ev.CLS_MACH_LIMIT : Nat := 57

abbrev Ev.AUT_FULL_STOP : Nat := 64

abbrev Ev.AUT_REARMED : Nat := 65

abbrev Ev.AUT_REARM_REFUSED : Nat := 66

abbrev Ev.AUT_COMMA_ON : Nat := 67

abbrev Ev.AUT_COMMA_OFF : Nat := 68

abbrev Ev.AUT_REVOKED : Nat := 69

abbrev Ev.AUT_REINSTATED : Nat := 70

abbrev Ev.AUT_STOP_DISC : Nat := 71

abbrev Ev.AUT_AIR_STOP_RX : Nat := 72

abbrev Ev.AUT_WARDEN_WITHHELD : Nat := 73

abbrev Ev.AUT_WARDEN_FAULT : Nat := 74

abbrev Ev.AUT_BEACON_SKIPPED : Nat := 75

abbrev Ev.AUT_RECORD_LATE : Nat := 76

abbrev Ev.AUT_COVER_REFUSED : Nat := 77

abbrev Ev.SLV_FIRST_FIX : Nat := 80

abbrev Ev.SLV_FIX_LOST : Nat := 81

abbrev Ev.SLV_REF_ANTENNA : Nat := 82

abbrev Ev.SLV_REF_PREDICT : Nat := 83

abbrev Ev.SLV_REF_NONE : Nat := 84

abbrev Ev.SLV_REF_BACK : Nat := 85

abbrev Ev.SLV_AUX_FALLBACK : Nat := 86

abbrev Ev.SLV_AUX_STALE : Nat := 87

abbrev Ev.SLV_LANE_FAULT : Nat := 88

abbrev Ev.SLV_LEAVE_REFUSED : Nat := 89

abbrev Ev.SLV_SHED : Nat := 90

abbrev Ev.SLV_LATE_START : Nat := 91

abbrev Ev.SLV_INTAKE_HIGH : Nat := 92

abbrev Ev.SLV_BUNDLE_INVALID : Nat := 93

abbrev Ev.SLV_FILTER_RESET : Nat := 94

abbrev Ev.GRX_SET_USABLE : Nat := 96

abbrev Ev.GRX_SET_UNUSABLE : Nat := 97

abbrev Ev.GRX_ANT_SHORT : Nat := 98

abbrev Ev.GRX_ANT_OPEN : Nat := 99

abbrev Ev.GRX_BIAS_RESTORED : Nat := 100

abbrev Ev.GRX_NOTCH_CHANGE : Nat := 101

abbrev Ev.GRX_JAM_LEVEL : Nat := 102

abbrev Ev.GRX_SPOOF_ALARM : Nat := 103

abbrev Ev.GRX_SPOOF_CLEAR : Nat := 104

abbrev Ev.GRX_BASELINE_ALARM : Nat := 105

abbrev Ev.GRX_REF_ANTENNA : Nat := 106

abbrev Ev.GRX_SURVEY_END : Nat := 107

abbrev Ev.GRX_EPH_REJECT : Nat := 108

abbrev Ev.GRX_CHANNEL_OUT : Nat := 109

abbrev Ev.GRX_RTCM_DROP : Nat := 110

abbrev Ev.TIM_TIME_VALID : Nat := 112

abbrev Ev.TIM_TIME_INVALID : Nat := 113

abbrev Ev.TIM_QUAL_CHANGE : Nat := 114

abbrev Ev.TIM_HOLDOVER : Nat := 115

abbrev Ev.TIM_GNSS_VERIFIED : Nat := 116

abbrev Ev.TIM_STEPPED : Nat := 117

abbrev Ev.TIM_STEP_DEFERRED : Nat := 118

abbrev Ev.TIM_LOOP_SAT : Nat := 119

abbrev Ev.TIM_UTC_CHANGE : Nat := 120

abbrev Ev.TIM_OCXO_READY : Nat := 121

abbrev Ev.TIM_TO_LATE : Nat := 122

abbrev Ev.TIM_TC_OVERFLOW : Nat := 123

abbrev Ev.PTP_PORT_STATE : Nat := 124

abbrev Ev.PTP_BETTER_MASTER : Nat := 125

abbrev Ev.PTP_STAMP_LOST : Nat := 126

abbrev Ev.AIR_JOIN_OK : Nat := 128

abbrev Ev.AIR_JOIN_REFUSED : Nat := 129

abbrev Ev.AIR_MACH_LOST : Nat := 130

abbrev Ev.AIR_RATE_CHANGE : Nat := 131

abbrev Ev.AIR_CH_MOVE : Nat := 132

abbrev Ev.AIR_SLEEP : Nat := 133

abbrev Ev.AIR_WAKE : Nat := 134

abbrev Ev.AIR_POLL_MISSED : Nat := 135

abbrev Ev.AIR_POLL_LATE : Nat := 136

abbrev Ev.AIR_GUARD_MIN : Nat := 137

abbrev Ev.AIR_STOP_SENT : Nat := 138

abbrev Ev.AIR_STOP_REQ_INVALID : Nat := 139

abbrev Ev.AIR_BEACON_LATE : Nat := 140

abbrev Ev.AIR_RECORD_OVERFLOW : Nat := 141

abbrev Ev.AIR_UL_OVERLOAD : Nat := 142

abbrev Ev.AIR_DUTY_DEFER : Nat := 143

abbrev Ev.AIR_CMAC_FAIL : Nat := 144

abbrev Ev.AIR_SAME_PAIR_BEACON : Nat := 145

abbrev Ev.AIR_ACTIVE_BEACON_MISSED : Nat := 146

abbrev Ev.AIR_PRIO_DROPPED : Nat := 147

abbrev Ev.RHL_LINK_UP : Nat := 160

abbrev Ev.RHL_LINK_DOWN : Nat := 161

abbrev Ev.RHL_HEAD_ALARM : Nat := 162

abbrev Ev.RHL_HEAD_UNFIT : Nat := 163

abbrev Ev.RHL_TX_LATE : Nat := 164

abbrev Ev.RHL_AGC_LIMIT : Nat := 165

abbrev Ev.RHL_DELAY_STEP : Nat := 166

abbrev Ev.DSP_TABLE_FULL : Nat := 168

abbrev Ev.DSP_NEAR_FULL : Nat := 169

abbrev Ev.DSP_SPILL_START : Nat := 170

abbrev Ev.DSP_SPILL_END : Nat := 171

abbrev Ev.DSP_RETURNED : Nat := 172

abbrev Ev.DSP_EXPIRED : Nat := 173

abbrev Ev.DSP_ACK_TIMEOUT : Nat := 174

abbrev Ev.DSP_CLAUSE_WAIT : Nat := 175

abbrev Ev.DSP_LATE_RELEASE : Nat := 176

abbrev Ev.DSP_TRACE_DROP : Nat := 177

abbrev Ev.DSP_CHARGE_OPEN : Nat := 178

abbrev Ev.DSP_CHARGE_END : Nat := 179

abbrev Ev.DSP_CORE_SPILL : Nat := 180

abbrev Ev.DSP_THREAD_WAIT : Nat := 181

abbrev Ev.DSP_SPILL_HELD : Nat := 182

abbrev Ev.LPE_SLOT_SAT : Nat := 184

abbrev Ev.LPE_UPDATE_DROPPED : Nat := 185

abbrev Ev.LPE_GAP_ASSIGNED : Nat := 186

abbrev Ev.LPE_GAP_NONE : Nat := 187

abbrev Ev.LPE_GAP_RELEASED : Nat := 188

abbrev Ev.LPE_LOAD_HIGH : Nat := 189

abbrev Ev.LPE_GAP_FORCED : Nat := 190

abbrev Ev.AHN_LINK_UP : Nat := 192

abbrev Ev.AHN_LINK_DOWN : Nat := 193

abbrev Ev.AHN_HB_LOST : Nat := 194

abbrev Ev.AHN_HB_RESTORED : Nat := 195

abbrev Ev.AHN_BECAME_ACTIVE : Nat := 196

abbrev Ev.AHN_BECAME_STANDBY : Nat := 197

abbrev Ev.AHN_STANDBY_READY : Nat := 198

abbrev Ev.AHN_STANDBY_NOT_READY : Nat := 199

abbrev Ev.AHN_SWAP_DONE : Nat := 200

abbrev Ev.AHN_SWAP_REFUSED : Nat := 201

abbrev Ev.AHN_TOKEN_TEST : Nat := 202

abbrev Ev.AHN_YIELDED : Nat := 203

abbrev Ev.AHN_INTERLOCK : Nat := 204

abbrev Ev.AHN_PARTNER_FAULT : Nat := 205

abbrev Ev.AHN_PARTNER_MISMATCH : Nat := 206

abbrev Ev.DMU_INPUT_FAULT : Nat := 208

abbrev Ev.DMU_INPUT_CLEAR : Nat := 209

abbrev Ev.DMU_ENERGY_GAP : Nat := 210

abbrev Ev.DMU_PULSE_HOLD : Nat := 211

abbrev Ev.DMU_BAY_STATE : Nat := 212

abbrev Ev.DMU_SAVE_FAIL : Nat := 213

abbrev Ev.DMU_AC_UNLOCK : Nat := 214

abbrev Ev.KEY_ROOT_GENERATED : Nat := 216

abbrev Ev.KEY_TRNG_FAIL : Nat := 217

abbrev Ev.KEY_PAIR_ENROL : Nat := 218

abbrev Ev.KEY_BEACON_RENEWED : Nat := 219

abbrev Ev.KEY_LIFE_CYCLE : Nat := 220

abbrev Ev.UPD_STAGE : Nat := 221

abbrev Ev.UPD_COPIED : Nat := 222

abbrev Ev.UPD_END : Nat := 223

abbrev Ev.LOG_PERM_FULL : Nat := 224

abbrev Ev.LOG_UNCLEAN : Nat := 225

abbrev Ev.LOG_NAND_FAULT : Nat := 226

abbrev Ev.LOG_RECORDS_LOST : Nat := 227

abbrev Ev.ETH_LINK : Nat := 232

abbrev Ev.ETH_SFP_CHANGE : Nat := 233

abbrev Ev.ETH_RX_DROP : Nat := 234

abbrev Ev.HST_RING_REFUSED : Nat := 235

abbrev Ev.HST_HOST_LINK_DOWN : Nat := 236

abbrev Ev.HST_HOST_LINK_UP : Nat := 237

abbrev Ev.HST_PCIE_ERROR : Nat := 238

abbrev Ev.EVT_RECORD_LOST : Nat := 239

/-- The block that raises an event: the first row whose last number is not below it (R42, R80, R111, R149, R179,
R206, R249, R267, R286, R301, R329, R359, R390, R411, R430, R444). 240–255 are raised by software through EVT (R343). -/
def Ev.blockRows : List (Nat × Nat) := [(0, Blk.RST), (7, Blk.PWR), (10, Blk.RST), (14, Blk.HPG), (15, Blk.PWR), (26, Blk.SIM), (33, Blk.XQ), (57, Blk.CLS), (77, Blk.AUT), (94, Blk.SLV), (110, Blk.GRX), (123, Blk.TIM), (126, Blk.PTP), (147, Blk.AIR), (166, Blk.RHL), (182, Blk.DSP), (190, Blk.LPE), (206, Blk.AHN), (214, Blk.DMU), (220, Blk.KEY), (223, Blk.UPD), (227, Blk.LOG), (234, Blk.ETH), (238, Blk.HST), (239, Blk.EVT), (255, Blk.EVT)]

/-- The block ID of the raiser of event `n`. -/
def Ev.block (n : Nat) : Nat := ((Ev.blockRows.find? (fun r => decide (n ≤ r.1))).map Prod.snd).getD Blk.EVT

/-- The events whose chapter says they write a logbook record. Event 202 does so only when the test fails (R329) and is
added by its raiser. -/
def Ev.logged : List Nat := [1, 4, 6, 7, 8, 9, 10, 11, 12, 13, 14, 16, 17, 18, 19, 20, 21, 22, 23, 24, 25, 26, 32, 33, 48, 49, 51, 52, 53, 55, 64, 65, 66, 67, 68, 69, 70, 71, 72, 74, 81, 82, 83, 84, 85, 86, 87, 88, 89, 90, 94, 97, 98, 99, 103, 104, 105, 106, 107, 109, 113, 115, 116, 117, 118, 119, 120, 125, 128, 129, 130, 133, 135, 139, 141, 145, 147, 161, 162, 163, 168, 172, 173, 174, 175, 177, 182, 184, 185, 187, 190, 193, 194, 196, 197, 199, 200, 201, 203, 204, 205, 206, 208, 210, 213, 214, 216, 217, 218, 219, 220, 221, 222, 223, 224, 225, 226, 227, 233, 236, 237, 238]

end Sys2Proof.Machine
end

