-- ==== Sys2Proof/Machine/Regs.lean ====
section
/-!
DEFINITION. The register map of R40 and of the register sections of every chapter: one address per register
(`R.<NAME>`, the first of a numbered run), one `Fld` per field (`F.<REGISTER>_<FIELD>`), the reset words, and for each
register the fields a host access acts on, with their access code (R4) and stated range. Names are the spec's own.
A register whose _IDX register selects an entry carries that index field as its bank (see `RegDesc.bank`).
-/

namespace Sys2Proof.Machine

/-- A register field: the register's BAR0 offset and the bits it occupies (R5). -/
structure Fld where
  addr : Nat
  hi : Nat
  lo : Nat
  deriving DecidableEq, Repr

/-- The access codes of R4 a register of this module uses (RSV bits belong to no field). -/
inductive Access where
  | ro | rw | rwl | w1c | wo | rc
  deriving DecidableEq, Repr

/-- The range a chapter states for a field. -/
inductive Range where
  /-- Every value the field can hold. -/
  | any
  | within (lo hi : Nat)
  | signed (width : Nat) (lo hi : Int)
  | oneOf (vs : List Nat)
  /-- From another field's value up to `hi`. -/
  | fromFld (f : Fld) (hi : Nat)
  /-- From `lo` up to another field's value. -/
  | toFld (lo : Nat) (f : Fld)
  /-- From one field's value to another's. -/
  | between (f g : Fld)
  /-- Below another field's value; 0 is always allowed. -/
  | lessThan (f : Fld)
  /-- In range whatever it holds while `f` is 0; otherwise `lo` to `hi`. -/
  | whenSet (f : Fld) (lo hi : Nat)
  /-- 0 while `f` is 0, or as `r` says: a field of an entry that is not in use (log 74). -/
  | orZero (f : Fld) (r : Range)
  /-- `TIM_TO_WIDTH` (R203): 0 before it is set (log 74), else at least 10 ns, and below the period of a periodic output. -/
  | toWidth
  /-- `AIR_MOD_WIDE.DL_MCS` (R247): not 1 on a 10 MHz channel. -/
  | dlMcs
  deriving DecidableEq, Repr

/-- A field as a host access sees it. -/
structure FieldDesc where
  fld : Fld
  access : Access
  range : Range
  deriving DecidableEq, Repr

/-- A register, or a run of `count` registers 4 bytes apart. `bank` is the index field that selects the entry an
access acts on, where the register shows one entry of a table. `fields` leaves out RO fields, which no access changes.
`shown` marks the bits of a field that a read returns: reserved and WO bits read 0 (R4). -/
structure RegDesc where
  addr : Nat
  count : Nat
  bank : Option Fld
  fields : List FieldDesc
  shown : Nat
  deriving DecidableEq, Repr

/-! ## Register addresses -/

abbrev R.GLB_CTRL : Nat := 0x00000000
abbrev R.GLB_PARSE : Nat := 0x00000004
abbrev R.GLB_ID : Nat := 0x00000008
abbrev R.GLB_FW : Nat := 0x0000000C
abbrev R.GLB_SERIAL_LO : Nat := 0x00000010
abbrev R.GLB_SERIAL_HI : Nat := 0x00000014
abbrev R.GLB_SCRATCH : Nat := 0x00000018
abbrev R.SIM_CTRL : Nat := 0x00010000
abbrev R.SIM_PARSE : Nat := 0x00010004
abbrev R.SIM_STATUS : Nat := 0x00010008
abbrev R.SIM_CMD : Nat := 0x0001000C
abbrev R.SIM_SRC : Nat := 0x00010010
abbrev R.SIM_LEN : Nat := 0x00010014
abbrev R.SIM_APPLIED : Nat := 0x00010018
abbrev R.SIM_STAGED : Nat := 0x0001001C
abbrev R.SIM_TAG : Nat := 0x00010020
abbrev R.SIM_LASTREF : Nat := 0x00010024
abbrev R.SIM_REFCNT : Nat := 0x00010028
abbrev R.SIM_DIGEST : Nat := 0x00010040
abbrev R.PWR_CTRL : Nat := 0x00020000
abbrev R.PWR_PARSE : Nat := 0x00020004
abbrev R.PWR_STATUS : Nat := 0x00020008
abbrev R.PWR_BUDGET : Nat := 0x0002000C
abbrev R.PWR_COMMIT : Nat := 0x00020010
abbrev R.PWR_MEAS : Nat := 0x00020014
abbrev R.PWR_HOST_LEAVE : Nat := 0x00020018
abbrev R.PWR_TEST : Nat := 0x0002001C
abbrev R.PWR_TEST_STAT : Nat := 0x00020020
abbrev R.PWR_CNT : Nat := 0x00020030
abbrev R.RST_CTRL : Nat := 0x00024000
abbrev R.RST_PARSE : Nat := 0x00024004
abbrev R.RST_STATUS : Nat := 0x00024008
abbrev R.RST_CMD : Nat := 0x0002400C
abbrev R.RST_RESETS : Nat := 0x00024010
abbrev R.RST_PCYCLES : Nat := 0x00024014
abbrev R.RST_HOURS : Nat := 0x00024018
abbrev R.RST_RTC_LO : Nat := 0x0002401C
abbrev R.RST_RTC_HI : Nat := 0x00024020
abbrev R.RST_OPT_SRC : Nat := 0x00024024
abbrev R.RST_OPT_CMD : Nat := 0x00024028
abbrev R.HPG_CTRL : Nat := 0x00028000
abbrev R.HPG_PARSE : Nat := 0x00028004
abbrev R.HPG_STATUS : Nat := 0x00028008
abbrev R.HPG_CFG : Nat := 0x0002800C
abbrev R.EVT_CTRL : Nat := 0x00030000
abbrev R.EVT_PARSE : Nat := 0x00030004
abbrev R.EVT_PEND : Nat := 0x00030010
abbrev R.EVT_ROUTE_IDX : Nat := 0x00030030
abbrev R.EVT_ROUTE : Nat := 0x00030034
abbrev R.EVT_RING : Nat := 0x00030038
abbrev R.EVT_RAISE_ARG : Nat := 0x0003003C
abbrev R.EVT_RAISE : Nat := 0x00030040
abbrev R.EVT_VEC_IDX : Nat := 0x00030044
abbrev R.EVT_VEC_MOD : Nat := 0x00030048
abbrev R.EVT_CNT : Nat := 0x0003004C
abbrev R.XQ_CTRL : Nat := 0x00040000
abbrev R.XQ_PARSE : Nat := 0x00040004
abbrev R.XQ_STATUS : Nat := 0x00040008
abbrev R.XQ_Q_IDX : Nat := 0x0004000C
abbrev R.XQ_Q_CFG : Nat := 0x00040010
abbrev R.XQ_Q_GEOM : Nat := 0x00040014
abbrev R.XQ_Q_COUNT : Nat := 0x00040018
abbrev R.XQ_Q_STAT : Nat := 0x0004001C
abbrev R.XQ_Q_CMD : Nat := 0x00040020
abbrev R.XQ_RST : Nat := 0x00040040
abbrev R.CLS_CTRL : Nat := 0x00100000
abbrev R.CLS_PARSE : Nat := 0x00100004
abbrev R.CLS_STATUS : Nat := 0x00100008
abbrev R.CLS_COUNT : Nat := 0x0010000C
abbrev R.CLS_NOW_LO : Nat := 0x00100010
abbrev R.CLS_NOW_HI : Nat := 0x00100014
abbrev R.CLS_LIMITS : Nat := 0x00100018
abbrev R.CLS_HORIZON : Nat := 0x0010001C
abbrev R.CLS_RETAIN : Nat := 0x00100020
abbrev R.CLS_NOTICE : Nat := 0x00100024
abbrev R.CLS_SWEEP : Nat := 0x00100028
abbrev R.CLS_INFL : Nat := 0x0010002C
abbrev R.CLS_CMD : Nat := 0x00100040
abbrev R.CLS_GO : Nat := 0x00100060
abbrev R.CLS_RES : Nat := 0x00100070
abbrev R.CLS_POL_IDX : Nat := 0x001000B0
abbrev R.CLS_POL_DATA : Nat := 0x001000B4
abbrev R.CLS_MACH_IDX : Nat := 0x001000B8
abbrev R.CLS_MACH_DATA : Nat := 0x001000BC
abbrev R.CLS_CHECKS : Nat := 0x001000C0
abbrev R.CLS_SOLCNT : Nat := 0x001000C4
abbrev R.CLS_LASTSOL : Nat := 0x001000C8
abbrev R.CLS_ECC : Nat := 0x001000CC
abbrev R.CLS_BANKLOAD : Nat := 0x001000D0
abbrev R.CLS_MAPINFO : Nat := 0x001000E0
abbrev R.AUT_CTRL : Nat := 0x00140000
abbrev R.AUT_PARSE : Nat := 0x00140004
abbrev R.AUT_STATUS : Nat := 0x00140008
abbrev R.AUT_SOURCES : Nat := 0x0014000C
abbrev R.AUT_BEACON : Nat := 0x00140010
abbrev R.AUT_SEQ_LO : Nat := 0x00140014
abbrev R.AUT_SEQ_HI : Nat := 0x00140018
abbrev R.AUT_LIFE : Nat := 0x0014001C
abbrev R.AUT_REC : Nat := 0x00140020
abbrev R.AUT_QCEIL01 : Nat := 0x00140024
abbrev R.AUT_QCEIL2 : Nat := 0x00140028
abbrev R.AUT_CELL : Nat := 0x0014002C
abbrev R.AUT_AGE : Nat := 0x00140030
abbrev R.AUT_FSTOP : Nat := 0x00140034
abbrev R.AUT_REARM : Nat := 0x00140038
abbrev R.AUT_COMMA : Nat := 0x0014003C
abbrev R.AUT_REVOKE : Nat := 0x00140040
abbrev R.AUT_REVSTAT : Nat := 0x00140044
abbrev R.AUT_WARDEN : Nat := 0x00140048
abbrev R.AUT_KICK : Nat := 0x0014004C
abbrev R.AUT_DISC : Nat := 0x00140050
abbrev R.AUT_RECCNT : Nat := 0x00140054
abbrev R.AUT_MACH_IDX : Nat := 0x00140058
abbrev R.AUT_MACH_CFG : Nat := 0x0014005C
abbrev R.AUT_MACH_STAT : Nat := 0x00140060
abbrev R.AUT_RECLATE : Nat := 0x00140064
abbrev R.AUT_REVBM : Nat := 0x00140100
abbrev R.SLV_CTRL : Nat := 0x00180000
abbrev R.SLV_PARSE : Nat := 0x00180004
abbrev R.SLV_STATUS : Nat := 0x00180008
abbrev R.SLV_RATE : Nat := 0x0018000C
abbrev R.SLV_REFAGE : Nat := 0x00180010
abbrev R.SLV_LANES : Nat := 0x00180014
abbrev R.SLV_AWAKE : Nat := 0x00180018
abbrev R.SLV_LANEOUT : Nat := 0x0018001C
abbrev R.SLV_QBOUND0 : Nat := 0x00180020
abbrev R.SLV_QBOUND1 : Nat := 0x00180024
abbrev R.SLV_FIX : Nat := 0x00180028
abbrev R.SLV_SEARCH : Nat := 0x0018002C
abbrev R.SLV_PRED : Nat := 0x00180030
abbrev R.SLV_MODEL : Nat := 0x00180034
abbrev R.SLV_RCLASS_IDX : Nat := 0x00180038
abbrev R.SLV_RCLASS_DATA : Nat := 0x0018003C
abbrev R.SLV_MACH_IDX : Nat := 0x00180040
abbrev R.SLV_MACH_CFG : Nat := 0x00180044
abbrev R.SLV_MACH_STAT : Nat := 0x00180048
abbrev R.SLV_CMD : Nat := 0x0018004C
abbrev R.SLV_INTAKE : Nat := 0x00180050
abbrev R.SLV_CNT : Nat := 0x00180054
abbrev R.SLV_AUX_IDX : Nat := 0x00180070
abbrev R.SLV_AUX_CFG : Nat := 0x00180074
abbrev R.SLV_AUX_STAT : Nat := 0x00180078
abbrev R.SLV_OUT : Nat := 0x0018007C
abbrev R.SLV_ECC : Nat := 0x00180080
abbrev R.SLV_ROLE0 : Nat := 0x00180088
abbrev R.SLV_ROLE1 : Nat := 0x0018008C
abbrev R.SLV_WAKE : Nat := 0x00180090
abbrev R.GRX_CTRL : Nat := 0x00200000
abbrev R.GRX_PARSE : Nat := 0x00200004
abbrev R.GRX_STATUS : Nat := 0x00200008
abbrev R.GRX_ANT : Nat := 0x0020000C
abbrev R.GRX_CFG : Nat := 0x00200010
abbrev R.GRX_TRK : Nat := 0x00200014
abbrev R.GRX_CH_IDX : Nat := 0x00200018
abbrev R.GRX_CH_CFG : Nat := 0x0020001C
abbrev R.GRX_CH_STAT : Nat := 0x00200020
abbrev R.GRX_NOTCH_IDX : Nat := 0x00200024
abbrev R.GRX_NOTCH : Nat := 0x00200028
abbrev R.GRX_NOTCH_SET : Nat := 0x0020002C
abbrev R.GRX_JAM : Nat := 0x00200030
abbrev R.GRX_SPOOF : Nat := 0x00200034
abbrev R.GRX_POS_SEL : Nat := 0x00200038
abbrev R.GRX_POS_LO : Nat := 0x0020003C
abbrev R.GRX_POS_HI : Nat := 0x00200040
abbrev R.GRX_HELD_LO : Nat := 0x00200044
abbrev R.GRX_HELD_HI : Nat := 0x00200048
abbrev R.GRX_SURVEY : Nat := 0x0020004C
abbrev R.GRX_BASE : Nat := 0x00200050
abbrev R.GRX_RTCM : Nat := 0x00200054
abbrev R.GRX_RTCM_MSM : Nat := 0x00200058
abbrev R.GRX_OUT : Nat := 0x0020005C
abbrev R.GRX_CNT : Nat := 0x00200060
abbrev R.GRX_TRACKED : Nat := 0x00200070
abbrev R.TIM_CTRL : Nat := 0x00280000
abbrev R.TIM_PARSE : Nat := 0x00280004
abbrev R.TIM_STATUS : Nat := 0x00280008
abbrev R.TIM_QUAL : Nat := 0x0028000C
abbrev R.TIM_SEC_LO : Nat := 0x00280010
abbrev R.TIM_SEC_HI : Nat := 0x00280014
abbrev R.TIM_NS : Nat := 0x00280018
abbrev R.TIM_STAMP : Nat := 0x0028001C
abbrev R.TIM_ERR : Nat := 0x00280020
abbrev R.TIM_OFFSET : Nat := 0x00280024
abbrev R.TIM_FREQ : Nat := 0x00280028
abbrev R.TIM_DISC : Nat := 0x0028002C
abbrev R.TIM_STEP : Nat := 0x00280030
abbrev R.TIM_UTC : Nat := 0x00280034
abbrev R.TIM_LEAP : Nat := 0x00280038
abbrev R.TIM_SET_SEC : Nat := 0x0028003C
abbrev R.TIM_SET_NS : Nat := 0x00280040
abbrev R.TIM_SET_CMD : Nat := 0x00280044
abbrev R.TIM_OUT : Nat := 0x00280048
abbrev R.TIM_CAL : Nat := 0x0028004C
abbrev R.TIM_LOOPS : Nat := 0x00280050
abbrev R.TIM_TO_IDX : Nat := 0x00280060
abbrev R.TIM_TO_CFG : Nat := 0x00280064
abbrev R.TIM_TO_SEC : Nat := 0x00280068
abbrev R.TIM_TO_NS : Nat := 0x0028006C
abbrev R.TIM_TO_PERIOD : Nat := 0x00280070
abbrev R.TIM_TO_WIDTH : Nat := 0x00280074
abbrev R.TIM_TC_CFG : Nat := 0x00280080
abbrev R.TIM_TC_IDX : Nat := 0x00280084
abbrev R.TIM_TC_SEC : Nat := 0x00280088
abbrev R.TIM_TC_NS : Nat := 0x0028008C
abbrev R.PTP_CTRL : Nat := 0x00284000
abbrev R.PTP_PARSE : Nat := 0x00284004
abbrev R.PTP_CLOCK : Nat := 0x00284008
abbrev R.PTP_RING : Nat := 0x0028400C
abbrev R.PTP_PORT_IDX : Nat := 0x00284010
abbrev R.PTP_PORT_CFG : Nat := 0x00284014
abbrev R.PTP_PORT_LAT : Nat := 0x00284018
abbrev R.PTP_PORT_ASYM : Nat := 0x0028401C
abbrev R.PTP_PORT_STAT : Nat := 0x00284020
abbrev R.PTP_CNT : Nat := 0x00284030
abbrev R.AIR_CTRL : Nat := 0x00300000
abbrev R.AIR_PARSE : Nat := 0x00300004
abbrev R.AIR_STATUS : Nat := 0x00300008
abbrev R.AIR_CFG : Nat := 0x0030000C
abbrev R.AIR_LBT : Nat := 0x00300010
abbrev R.AIR_FLOOD : Nat := 0x00300014
abbrev R.AIR_GUARD : Nat := 0x00300018
abbrev R.AIR_WIDE : Nat := 0x0030001C
abbrev R.AIR_MOD_IDX : Nat := 0x00300020
abbrev R.AIR_MOD_CFG : Nat := 0x00300024
abbrev R.AIR_MOD_FREQ : Nat := 0x00300028
abbrev R.AIR_MOD_WIDE : Nat := 0x0030002C
abbrev R.AIR_MOD_DUTY : Nat := 0x00300030
abbrev R.AIR_MOD_STAT : Nat := 0x00300034
abbrev R.AIR_MACH_IDX : Nat := 0x00300040
abbrev R.AIR_MACH_REG : Nat := 0x00300044
abbrev R.AIR_MACH_SER_LO : Nat := 0x00300048
abbrev R.AIR_MACH_SER_HI : Nat := 0x0030004C
abbrev R.AIR_MACH_PARENT : Nat := 0x00300050
abbrev R.AIR_MACH_CMD : Nat := 0x00300054
abbrev R.AIR_MACH_GRANT0 : Nat := 0x00300058
abbrev R.AIR_MACH_GRANT1 : Nat := 0x0030005C
abbrev R.AIR_MACH_STAT0 : Nat := 0x00300060
abbrev R.AIR_MACH_STAT1 : Nat := 0x00300064
abbrev R.AIR_MACH_GRANT2 : Nat := 0x00300068
abbrev R.AIR_SND_IDX : Nat := 0x00300070
abbrev R.AIR_SND_CFG : Nat := 0x00300074
abbrev R.AIR_SND_CTR : Nat := 0x00300078
abbrev R.AIR_MON : Nat := 0x0030007C
abbrev R.AIR_CNT : Nat := 0x00300080
abbrev R.RHL_CTRL : Nat := 0x00340000
abbrev R.RHL_PARSE : Nat := 0x00340004
abbrev R.RHL_STATUS : Nat := 0x00340008
abbrev R.RHL_LINK_IDX : Nat := 0x0034000C
abbrev R.RHL_LINK_CFG : Nat := 0x00340010
abbrev R.RHL_LINK_STAT : Nat := 0x00340014
abbrev R.RHL_DELAY : Nat := 0x00340018
abbrev R.RHL_HEAD_ID : Nat := 0x0034001C
abbrev R.RHL_CAPS : Nat := 0x00340020
abbrev R.RHL_TXEN : Nat := 0x00340024
abbrev R.RHL_CMD : Nat := 0x00340028
abbrev R.RHL_STR_CFG : Nat := 0x0034002C
abbrev R.RHL_STR_FREQ : Nat := 0x00340030
abbrev R.RHL_STR_GAIN : Nat := 0x00340034
abbrev R.RHL_CNT : Nat := 0x00340040
abbrev R.DSP_CTRL : Nat := 0x00380000
abbrev R.DSP_PARSE : Nat := 0x00380004
abbrev R.DSP_STATUS : Nat := 0x00380008
abbrev R.DSP_STATUS2 : Nat := 0x0038000C
abbrev R.DSP_CFG : Nat := 0x00380010
abbrev R.DSP_HOLD : Nat := 0x00380014
abbrev R.DSP_TRACE : Nat := 0x00380018
abbrev R.DSP_CMD : Nat := 0x00380040
abbrev R.DSP_GO : Nat := 0x00380080
abbrev R.DSP_RES0 : Nat := 0x00380084
abbrev R.DSP_RES1 : Nat := 0x00380088
abbrev R.DSP_MACH_IDX : Nat := 0x00380090
abbrev R.DSP_MACH_CFG : Nat := 0x00380094
abbrev R.DSP_CHG : Nat := 0x00380098
abbrev R.DSP_CNT : Nat := 0x003800B0
abbrev R.DSP_CORE_CFG : Nat := 0x00380100
abbrev R.DSP_CORE_STAT : Nat := 0x00380104
abbrev R.DSP_THR_IDX : Nat := 0x00380110
abbrev R.DSP_THR_CFG : Nat := 0x00380114
abbrev R.DSP_THR_CMD : Nat := 0x00380118
abbrev R.LPE_CTRL : Nat := 0x003C0000
abbrev R.LPE_PARSE : Nat := 0x003C0004
abbrev R.LPE_STATUS : Nat := 0x003C0008
abbrev R.LPE_LOAD : Nat := 0x003C000C
abbrev R.LPE_RATE : Nat := 0x003C0010
abbrev R.LPE_SLOT_IDX : Nat := 0x003C0014
abbrev R.LPE_SLOT_CFG : Nat := 0x003C0018
abbrev R.LPE_SLOT_IN : Nat := 0x003C001C
abbrev R.LPE_SLOT_AID : Nat := 0x003C0020
abbrev R.LPE_SLOT_SP : Nat := 0x003C0024
abbrev R.LPE_SLOT_OUT : Nat := 0x003C0028
abbrev R.LPE_SLOT_ACC : Nat := 0x003C002C
abbrev R.LPE_SLOT_STAT : Nat := 0x003C0030
abbrev R.LPE_SLOT_PAIR : Nat := 0x003C0034
abbrev R.LPE_SLOT_CMD : Nat := 0x003C0038
abbrev R.LPE_CNT : Nat := 0x003C0040
abbrev R.LPE_SAT : Nat := 0x003C0100
abbrev R.AHN_CTRL : Nat := 0x00400000
abbrev R.AHN_PARSE : Nat := 0x00400004
abbrev R.AHN_STATUS : Nat := 0x00400008
abbrev R.AHN_CFG : Nat := 0x0040000C
abbrev R.AHN_CMD : Nat := 0x00400010
abbrev R.AHN_SWAP : Nat := 0x00400014
abbrev R.AHN_MIRROR : Nat := 0x00400018
abbrev R.AHN_MSEQ_TX : Nat := 0x0040001C
abbrev R.AHN_MSEQ_ACK : Nat := 0x00400020
abbrev R.AHN_PARTNER : Nat := 0x00400024
abbrev R.AHN_SW : Nat := 0x00400028
abbrev R.AHN_CNT : Nat := 0x00400040
abbrev R.DMU_CTRL : Nat := 0x00440000
abbrev R.DMU_PARSE : Nat := 0x00440004
abbrev R.DMU_STATUS : Nat := 0x00440008
abbrev R.DMU_IN_FAULT : Nat := 0x0044000C
abbrev R.DMU_IN_IDX : Nat := 0x00440010
abbrev R.DMU_IN_RMS : Nat := 0x00440014
abbrev R.DMU_GRP_IDX : Nat := 0x00440018
abbrev R.DMU_GRP_P : Nat := 0x0044001C
abbrev R.DMU_GRP_STAT : Nat := 0x00440020
abbrev R.DMU_ACC_LO : Nat := 0x00440024
abbrev R.DMU_ACC_HI : Nat := 0x00440028
abbrev R.DMU_PO_IDX : Nat := 0x00440030
abbrev R.DMU_PO_CFG : Nat := 0x00440034
abbrev R.DMU_PO_WEIGHT : Nat := 0x00440038
abbrev R.DMU_PO_STAT : Nat := 0x0044003C
abbrev R.DMU_BAY : Nat := 0x00440040
abbrev R.DMU_BAY_CMD : Nat := 0x00440044
abbrev R.DMU_OUT : Nat := 0x00440048
abbrev R.DMU_SAVE : Nat := 0x0044004C
abbrev R.DMU_CNT : Nat := 0x00440050
abbrev R.KEY_CTRL : Nat := 0x00480000
abbrev R.KEY_PARSE : Nat := 0x00480004
abbrev R.KEY_STATUS : Nat := 0x00480008
abbrev R.KEY_CMD : Nat := 0x0048000C
abbrev R.KEY_ARG_LO : Nat := 0x00480010
abbrev R.KEY_ARG_HI : Nat := 0x00480014
abbrev R.KEY_SRC : Nat := 0x00480018
abbrev R.KEY_DST : Nat := 0x0048001C
abbrev R.KEY_LC : Nat := 0x00480020
abbrev R.KEY_PEER : Nat := 0x00480040
abbrev R.UPD_CTRL : Nat := 0x004A0000
abbrev R.UPD_PARSE : Nat := 0x004A0004
abbrev R.UPD_STATUS : Nat := 0x004A0008
abbrev R.UPD_CMD : Nat := 0x004A000C
abbrev R.UPD_SRC : Nat := 0x004A0010
abbrev R.UPD_OFF : Nat := 0x004A0014
abbrev R.UPD_LEN : Nat := 0x004A0018
abbrev R.UPD_CRC : Nat := 0x004A001C
abbrev R.UPD_TOTAL : Nat := 0x004A0020
abbrev R.UPD_VER_RUN : Nat := 0x004A0024
abbrev R.UPD_VER_PREV : Nat := 0x004A0028
abbrev R.UPD_VER_STAGED : Nat := 0x004A002C
abbrev R.UPD_ROLLBACK : Nat := 0x004A0030
abbrev R.UPD_TRIAL : Nat := 0x004A0034
abbrev R.LOG_CTRL : Nat := 0x004C0000
abbrev R.LOG_PARSE : Nat := 0x004C0004
abbrev R.LOG_STATUS : Nat := 0x004C0008
abbrev R.LOG_NEXT : Nat := 0x004C000C
abbrev R.LOG_OLDEST : Nat := 0x004C0010
abbrev R.LOG_PERM_FIRST : Nat := 0x004C0014
abbrev R.LOG_PERM_LAST : Nat := 0x004C0018
abbrev R.LOG_CFG : Nat := 0x004C001C
abbrev R.LOG_RD_SEQ : Nat := 0x004C0020
abbrev R.LOG_RD_MAX : Nat := 0x004C0024
abbrev R.LOG_DST : Nat := 0x004C0028
abbrev R.LOG_CMD : Nat := 0x004C002C
abbrev R.LOG_RD_COUNT : Nat := 0x004C0030
abbrev R.LOG_RD_LAST : Nat := 0x004C0034
abbrev R.LOG_RD_RECS : Nat := 0x004C0038
abbrev R.LOG_CNT : Nat := 0x004C0040
abbrev R.ETH_CTRL : Nat := 0x00500000
abbrev R.ETH_PARSE : Nat := 0x00500004
abbrev R.ETH_PORT_IDX : Nat := 0x0050000C
abbrev R.ETH_PORT_CFG : Nat := 0x00500010
abbrev R.ETH_PORT_STAT : Nat := 0x00500014
abbrev R.ETH_MAC_LO : Nat := 0x00500018
abbrev R.ETH_MAC_HI : Nat := 0x0050001C
abbrev R.ETH_IP : Nat := 0x00500020
abbrev R.ETH_RULE_IDX : Nat := 0x00500030
abbrev R.ETH_RULE_MATCH : Nat := 0x00500034
abbrev R.ETH_RULE_ACT : Nat := 0x00500038
abbrev R.ETH_FWD_IDX : Nat := 0x00500040
abbrev R.ETH_FWD_CFG : Nat := 0x00500044
abbrev R.ETH_FWD_TPL : Nat := 0x00500048
abbrev R.ETH_CNT : Nat := 0x00500060
abbrev R.HST_CTRL : Nat := 0x00504000
abbrev R.HST_PARSE : Nat := 0x00504004
abbrev R.HST_STATUS : Nat := 0x00504008
abbrev R.HST_RING_IDX : Nat := 0x0050400C
abbrev R.HST_RING_BASE : Nat := 0x00504010
abbrev R.HST_RING_CFG : Nat := 0x00504014
abbrev R.HST_RING_DROP : Nat := 0x00504018
abbrev R.HST_CNT : Nat := 0x00504020
abbrev R.HST_MSIX : Nat := 0x00506000
abbrev R.HST_PBA : Nat := 0x00506400
abbrev R.HST_DB : Nat := 0x00508000

/-! ## Register fields -/

abbrev F.GLB_CTRL_LEVEL : Fld := ⟨R.GLB_CTRL, 1, 1⟩
abbrev F.GLB_CTRL_EN : Fld := ⟨R.GLB_CTRL, 0, 0⟩
abbrev F.GLB_PARSE_DETAIL : Fld := ⟨R.GLB_PARSE, 23, 16⟩
abbrev F.GLB_PARSE_BLOCK : Fld := ⟨R.GLB_PARSE, 15, 8⟩
abbrev F.GLB_PARSE_REASON : Fld := ⟨R.GLB_PARSE, 7, 0⟩
abbrev F.GLB_ID_HW_TYPE : Fld := ⟨R.GLB_ID, 31, 16⟩
abbrev F.GLB_ID_REV : Fld := ⟨R.GLB_ID, 15, 8⟩
abbrev F.GLB_FW_MAJOR : Fld := ⟨R.GLB_FW, 31, 24⟩
abbrev F.GLB_FW_MINOR : Fld := ⟨R.GLB_FW, 23, 16⟩
abbrev F.GLB_FW_PATCH : Fld := ⟨R.GLB_FW, 15, 0⟩
abbrev F.GLB_SERIAL_LO_SERIAL : Fld := ⟨R.GLB_SERIAL_LO, 31, 0⟩
abbrev F.GLB_SERIAL_HI_SERIAL : Fld := ⟨R.GLB_SERIAL_HI, 31, 0⟩
abbrev F.GLB_SCRATCH_VALUE : Fld := ⟨R.GLB_SCRATCH, 31, 0⟩
abbrev F.SIM_CTRL_LEVEL : Fld := ⟨R.SIM_CTRL, 1, 1⟩
abbrev F.SIM_CTRL_EN : Fld := ⟨R.SIM_CTRL, 0, 0⟩
abbrev F.SIM_PARSE_DETAIL : Fld := ⟨R.SIM_PARSE, 23, 16⟩
abbrev F.SIM_PARSE_BLOCK : Fld := ⟨R.SIM_PARSE, 15, 8⟩
abbrev F.SIM_PARSE_REASON : Fld := ⟨R.SIM_PARSE, 7, 0⟩
abbrev F.SIM_STATUS_OP : Fld := ⟨R.SIM_STATUS, 11, 8⟩
abbrev F.SIM_STATUS_SLOT1_VALID : Fld := ⟨R.SIM_STATUS, 7, 7⟩
abbrev F.SIM_STATUS_SLOT0_VALID : Fld := ⟨R.SIM_STATUS, 6, 6⟩
abbrev F.SIM_STATUS_BOOT_SLOT : Fld := ⟨R.SIM_STATUS, 5, 5⟩
abbrev F.SIM_STATUS_FALLBACK : Fld := ⟨R.SIM_STATUS, 4, 4⟩
abbrev F.SIM_STATUS_STAGED : Fld := ⟨R.SIM_STATUS, 3, 3⟩
abbrev F.SIM_STATUS_APPLIED : Fld := ⟨R.SIM_STATUS, 2, 2⟩
abbrev F.SIM_STATUS_DONE : Fld := ⟨R.SIM_STATUS, 1, 1⟩
abbrev F.SIM_STATUS_BUSY : Fld := ⟨R.SIM_STATUS, 0, 0⟩
abbrev F.SIM_CMD_SLOT : Fld := ⟨R.SIM_CMD, 4, 4⟩
abbrev F.SIM_CMD_OP : Fld := ⟨R.SIM_CMD, 3, 0⟩
abbrev F.SIM_SRC_OFFSET : Fld := ⟨R.SIM_SRC, 27, 3⟩
abbrev F.SIM_LEN_LEN : Fld := ⟨R.SIM_LEN, 26, 0⟩
abbrev F.SIM_APPLIED_SERIAL : Fld := ⟨R.SIM_APPLIED, 31, 0⟩
abbrev F.SIM_STAGED_SERIAL : Fld := ⟨R.SIM_STAGED, 31, 0⟩
abbrev F.SIM_TAG_PAIR_TAG : Fld := ⟨R.SIM_TAG, 31, 16⟩
abbrev F.SIM_TAG_SEC_COUNT : Fld := ⟨R.SIM_TAG, 7, 0⟩
abbrev F.SIM_LASTREF_KIND : Fld := ⟨R.SIM_LASTREF, 31, 31⟩
abbrev F.SIM_LASTREF_DETAIL : Fld := ⟨R.SIM_LASTREF, 23, 16⟩
abbrev F.SIM_LASTREF_CODE : Fld := ⟨R.SIM_LASTREF, 15, 0⟩
abbrev F.SIM_REFCNT_COUNT : Fld := ⟨R.SIM_REFCNT, 31, 0⟩
abbrev F.SIM_DIGEST_DIGEST : Fld := ⟨R.SIM_DIGEST, 31, 0⟩
abbrev F.PWR_CTRL_LEVEL : Fld := ⟨R.PWR_CTRL, 1, 1⟩
abbrev F.PWR_CTRL_EN : Fld := ⟨R.PWR_CTRL, 0, 0⟩
abbrev F.PWR_PARSE_DETAIL : Fld := ⟨R.PWR_PARSE, 23, 16⟩
abbrev F.PWR_PARSE_BLOCK : Fld := ⟨R.PWR_PARSE, 15, 8⟩
abbrev F.PWR_PARSE_REASON : Fld := ⟨R.PWR_PARSE, 7, 0⟩
abbrev F.PWR_STATUS_TEMP : Fld := ⟨R.PWR_STATUS, 31, 24⟩
abbrev F.PWR_STATUS_TESTING : Fld := ⟨R.PWR_STATUS, 3, 3⟩
abbrev F.PWR_STATUS_OVER : Fld := ⟨R.PWR_STATUS, 2, 2⟩
abbrev F.PWR_STATUS_P12V_OK : Fld := ⟨R.PWR_STATUS, 1, 1⟩
abbrev F.PWR_STATUS_PFW : Fld := ⟨R.PWR_STATUS, 0, 0⟩
abbrev F.PWR_BUDGET_HEADROOM_MW : Fld := ⟨R.PWR_BUDGET, 31, 16⟩
abbrev F.PWR_BUDGET_BUDGET_MW : Fld := ⟨R.PWR_BUDGET, 15, 0⟩
abbrev F.PWR_COMMIT_GRANTED_MW : Fld := ⟨R.PWR_COMMIT, 31, 16⟩
abbrev F.PWR_COMMIT_BASE_MW : Fld := ⟨R.PWR_COMMIT, 15, 0⟩
abbrev F.PWR_MEAS_P12V_MV : Fld := ⟨R.PWR_MEAS, 31, 16⟩
abbrev F.PWR_MEAS_INPUT_MW : Fld := ⟨R.PWR_MEAS, 15, 0⟩
abbrev F.PWR_HOST_LEAVE_GRANTED : Fld := ⟨R.PWR_HOST_LEAVE, 31, 31⟩
abbrev F.PWR_HOST_LEAVE_CLASS : Fld := ⟨R.PWR_HOST_LEAVE, 30, 29⟩
abbrev F.PWR_HOST_LEAVE_RESULT : Fld := ⟨R.PWR_HOST_LEAVE, 28, 27⟩
abbrev F.PWR_HOST_LEAVE_MW : Fld := ⟨R.PWR_HOST_LEAVE, 15, 0⟩
abbrev F.PWR_TEST_AUTO : Fld := ⟨R.PWR_TEST, 31, 31⟩
abbrev F.PWR_TEST_FORCE : Fld := ⟨R.PWR_TEST, 30, 30⟩
abbrev F.PWR_TEST_OP : Fld := ⟨R.PWR_TEST, 29, 28⟩
abbrev F.PWR_TEST_PERIOD_S : Fld := ⟨R.PWR_TEST, 15, 0⟩
abbrev F.PWR_TEST_STAT_UNIT : Fld := ⟨R.PWR_TEST_STAT, 31, 28⟩
abbrev F.PWR_TEST_STAT_RESULT : Fld := ⟨R.PWR_TEST_STAT, 27, 24⟩
abbrev F.PWR_TEST_STAT_DEFER : Fld := ⟨R.PWR_TEST_STAT, 23, 20⟩
abbrev F.PWR_TEST_STAT_INDEX : Fld := ⟨R.PWR_TEST_STAT, 8, 0⟩
abbrev F.PWR_CNT_COUNT : Fld := ⟨R.PWR_CNT, 31, 0⟩
abbrev F.RST_CTRL_LEVEL : Fld := ⟨R.RST_CTRL, 1, 1⟩
abbrev F.RST_CTRL_EN : Fld := ⟨R.RST_CTRL, 0, 0⟩
abbrev F.RST_PARSE_DETAIL : Fld := ⟨R.RST_PARSE, 23, 16⟩
abbrev F.RST_PARSE_BLOCK : Fld := ⟨R.RST_PARSE, 15, 8⟩
abbrev F.RST_PARSE_REASON : Fld := ⟨R.RST_PARSE, 7, 0⟩
abbrev F.RST_STATUS_CAUSE : Fld := ⟨R.RST_STATUS, 31, 28⟩
abbrev F.RST_STATUS_SAFE : Fld := ⟨R.RST_STATUS, 27, 27⟩
abbrev F.RST_STATUS_COPY : Fld := ⟨R.RST_STATUS, 26, 26⟩
abbrev F.RST_STATUS_A_BAD : Fld := ⟨R.RST_STATUS, 25, 25⟩
abbrev F.RST_STATUS_B_BAD : Fld := ⟨R.RST_STATUS, 24, 24⟩
abbrev F.RST_STATUS_STRIKES : Fld := ⟨R.RST_STATUS, 23, 22⟩
abbrev F.RST_STATUS_BKP_LOST : Fld := ⟨R.RST_STATUS, 21, 21⟩
abbrev F.RST_STATUS_RTC_VALID : Fld := ⟨R.RST_STATUS, 20, 20⟩
abbrev F.RST_CMD_KEY : Fld := ⟨R.RST_CMD, 15, 0⟩
abbrev F.RST_RESETS_COUNT : Fld := ⟨R.RST_RESETS, 31, 0⟩
abbrev F.RST_PCYCLES_COUNT : Fld := ⟨R.RST_PCYCLES, 23, 0⟩
abbrev F.RST_HOURS_HOURS : Fld := ⟨R.RST_HOURS, 31, 0⟩
abbrev F.RST_RTC_LO_SEC_LO : Fld := ⟨R.RST_RTC_LO, 31, 0⟩
abbrev F.RST_RTC_HI_SEC_HI : Fld := ⟨R.RST_RTC_HI, 15, 0⟩
abbrev F.RST_OPT_SRC_OFFSET : Fld := ⟨R.RST_OPT_SRC, 27, 3⟩
abbrev F.RST_OPT_CMD_OP : Fld := ⟨R.RST_OPT_CMD, 31, 28⟩
abbrev F.RST_OPT_CMD_RESULT : Fld := ⟨R.RST_OPT_CMD, 27, 26⟩
abbrev F.RST_OPT_CMD_BUSY : Fld := ⟨R.RST_OPT_CMD, 25, 25⟩
abbrev F.HPG_CTRL_LEVEL : Fld := ⟨R.HPG_CTRL, 1, 1⟩
abbrev F.HPG_CTRL_EN : Fld := ⟨R.HPG_CTRL, 0, 0⟩
abbrev F.HPG_PARSE_DETAIL : Fld := ⟨R.HPG_PARSE, 23, 16⟩
abbrev F.HPG_PARSE_BLOCK : Fld := ⟨R.HPG_PARSE, 15, 8⟩
abbrev F.HPG_PARSE_REASON : Fld := ⟨R.HPG_PARSE, 7, 0⟩
abbrev F.HPG_STATUS_EJECT_MS : Fld := ⟨R.HPG_STATUS, 31, 16⟩
abbrev F.HPG_STATUS_PRESENT : Fld := ⟨R.HPG_STATUS, 4, 4⟩
abbrev F.HPG_STATUS_EJECT : Fld := ⟨R.HPG_STATUS, 3, 3⟩
abbrev F.HPG_STATUS_STATE : Fld := ⟨R.HPG_STATUS, 2, 0⟩
abbrev F.HPG_CFG_QUIESCE_MS : Fld := ⟨R.HPG_CFG, 15, 0⟩
abbrev F.EVT_CTRL_LEVEL : Fld := ⟨R.EVT_CTRL, 1, 1⟩
abbrev F.EVT_CTRL_EN : Fld := ⟨R.EVT_CTRL, 0, 0⟩
abbrev F.EVT_PARSE_DETAIL : Fld := ⟨R.EVT_PARSE, 23, 16⟩
abbrev F.EVT_PARSE_BLOCK : Fld := ⟨R.EVT_PARSE, 15, 8⟩
abbrev F.EVT_PARSE_REASON : Fld := ⟨R.EVT_PARSE, 7, 0⟩
abbrev F.EVT_PEND_PEND : Fld := ⟨R.EVT_PEND, 31, 0⟩
abbrev F.EVT_ROUTE_IDX_EVENT : Fld := ⟨R.EVT_ROUTE_IDX, 7, 0⟩
abbrev F.EVT_ROUTE_HOST_EN : Fld := ⟨R.EVT_ROUTE, 31, 31⟩
abbrev F.EVT_ROUTE_REC_EN : Fld := ⟨R.EVT_ROUTE, 30, 30⟩
abbrev F.EVT_ROUTE_VEC : Fld := ⟨R.EVT_ROUTE, 5, 0⟩
abbrev F.EVT_RING_EN : Fld := ⟨R.EVT_RING, 31, 31⟩
abbrev F.EVT_RING_RING : Fld := ⟨R.EVT_RING, 9, 0⟩
abbrev F.EVT_RAISE_ARG_ARG : Fld := ⟨R.EVT_RAISE_ARG, 31, 0⟩
abbrev F.EVT_RAISE_EVENT : Fld := ⟨R.EVT_RAISE, 7, 0⟩
abbrev F.EVT_VEC_IDX_VEC : Fld := ⟨R.EVT_VEC_IDX, 5, 0⟩
abbrev F.EVT_VEC_MOD_MOD_US : Fld := ⟨R.EVT_VEC_MOD, 15, 0⟩
abbrev F.EVT_CNT_LOST : Fld := ⟨R.EVT_CNT, 31, 0⟩
abbrev F.XQ_CTRL_LEVEL : Fld := ⟨R.XQ_CTRL, 1, 1⟩
abbrev F.XQ_CTRL_EN : Fld := ⟨R.XQ_CTRL, 0, 0⟩
abbrev F.XQ_PARSE_DETAIL : Fld := ⟨R.XQ_PARSE, 23, 16⟩
abbrev F.XQ_PARSE_BLOCK : Fld := ⟨R.XQ_PARSE, 15, 8⟩
abbrev F.XQ_PARSE_REASON : Fld := ⟨R.XQ_PARSE, 7, 0⟩
abbrev F.XQ_STATUS_HELD : Fld := ⟨R.XQ_STATUS, 31, 24⟩
abbrev F.XQ_STATUS_CONNECTED : Fld := ⟨R.XQ_STATUS, 7, 0⟩
abbrev F.XQ_Q_IDX_QUEUE : Fld := ⟨R.XQ_Q_IDX, 7, 0⟩
abbrev F.XQ_Q_CFG_PROD : Fld := ⟨R.XQ_Q_CFG, 31, 16⟩
abbrev F.XQ_Q_CFG_CONS : Fld := ⟨R.XQ_Q_CFG, 15, 0⟩
abbrev F.XQ_Q_GEOM_PDOM : Fld := ⟨R.XQ_Q_GEOM, 31, 28⟩
abbrev F.XQ_Q_GEOM_CDOM : Fld := ⟨R.XQ_Q_GEOM, 27, 24⟩
abbrev F.XQ_Q_GEOM_PACKET : Fld := ⟨R.XQ_Q_GEOM, 9, 9⟩
abbrev F.XQ_Q_GEOM_SPILL : Fld := ⟨R.XQ_Q_GEOM, 8, 8⟩
abbrev F.XQ_Q_GEOM_DEPTH_LOG2 : Fld := ⟨R.XQ_Q_GEOM, 3, 0⟩
abbrev F.XQ_Q_COUNT_PCOUNT : Fld := ⟨R.XQ_Q_COUNT, 28, 16⟩
abbrev F.XQ_Q_COUNT_CCOUNT : Fld := ⟨R.XQ_Q_COUNT, 12, 0⟩
abbrev F.XQ_Q_STAT_HELD : Fld := ⟨R.XQ_Q_STAT, 31, 31⟩
abbrev F.XQ_Q_STAT_STALLED : Fld := ⟨R.XQ_Q_STAT, 30, 30⟩
abbrev F.XQ_Q_STAT_RESETS : Fld := ⟨R.XQ_Q_STAT, 23, 16⟩
abbrev F.XQ_Q_STAT_DROPS : Fld := ⟨R.XQ_Q_STAT, 15, 0⟩
abbrev F.XQ_Q_CMD_OP : Fld := ⟨R.XQ_Q_CMD, 31, 28⟩
abbrev F.XQ_RST_RST : Fld := ⟨R.XQ_RST, 31, 0⟩
abbrev F.CLS_CTRL_LEVEL : Fld := ⟨R.CLS_CTRL, 1, 1⟩
abbrev F.CLS_CTRL_EN : Fld := ⟨R.CLS_CTRL, 0, 0⟩
abbrev F.CLS_PARSE_DETAIL : Fld := ⟨R.CLS_PARSE, 23, 16⟩
abbrev F.CLS_PARSE_BLOCK : Fld := ⟨R.CLS_PARSE, 15, 8⟩
abbrev F.CLS_PARSE_REASON : Fld := ⟨R.CLS_PARSE, 7, 0⟩
abbrev F.CLS_STATUS_MEM_FAULT : Fld := ⟨R.CLS_STATUS, 8, 8⟩
abbrev F.CLS_STATUS_NEAR_FULL : Fld := ⟨R.CLS_STATUS, 7, 7⟩
abbrev F.CLS_STATUS_FULL : Fld := ⟨R.CLS_STATUS, 6, 6⟩
abbrev F.CLS_STATUS_TIME_OK : Fld := ⟨R.CLS_STATUS, 5, 5⟩
abbrev F.CLS_STATUS_SWEEPING : Fld := ⟨R.CLS_STATUS, 4, 4⟩
abbrev F.CLS_STATUS_DONE : Fld := ⟨R.CLS_STATUS, 1, 1⟩
abbrev F.CLS_STATUS_BUSY : Fld := ⟨R.CLS_STATUS, 0, 0⟩
abbrev F.CLS_COUNT_HELD : Fld := ⟨R.CLS_COUNT, 18, 0⟩
abbrev F.CLS_NOW_LO_NOW_LO : Fld := ⟨R.CLS_NOW_LO, 31, 0⟩
abbrev F.CLS_NOW_HI_NOW_HI : Fld := ⟨R.CLS_NOW_HI, 7, 0⟩
abbrev F.CLS_LIMITS_WARN_PCT : Fld := ⟨R.CLS_LIMITS, 15, 8⟩
abbrev F.CLS_LIMITS_PER_MI : Fld := ⟨R.CLS_LIMITS, 7, 0⟩
abbrev F.CLS_HORIZON_HORIZON_MS : Fld := ⟨R.CLS_HORIZON, 31, 0⟩
abbrev F.CLS_RETAIN_RETAIN_MS : Fld := ⟨R.CLS_RETAIN, 31, 0⟩
abbrev F.CLS_NOTICE_NOTICE_MS : Fld := ⟨R.CLS_NOTICE, 31, 0⟩
abbrev F.CLS_SWEEP_PERIOD_MS : Fld := ⟨R.CLS_SWEEP, 13, 0⟩
abbrev F.CLS_INFL_STANDSTILL : Fld := ⟨R.CLS_INFL, 31, 16⟩
abbrev F.CLS_INFL_FIXED_MM : Fld := ⟨R.CLS_INFL, 15, 0⟩
abbrev F.CLS_CMD_WORD : Fld := ⟨R.CLS_CMD, 31, 0⟩
abbrev F.CLS_GO_GO : Fld := ⟨R.CLS_GO, 0, 0⟩
abbrev F.CLS_RES_WORD : Fld := ⟨R.CLS_RES, 31, 0⟩
abbrev F.CLS_POL_IDX_REQ : Fld := ⟨R.CLS_POL_IDX, 9, 5⟩
abbrev F.CLS_POL_IDX_HOLD : Fld := ⟨R.CLS_POL_IDX, 4, 0⟩
abbrev F.CLS_POL_DATA_SEP_MM : Fld := ⟨R.CLS_POL_DATA, 31, 16⟩
abbrev F.CLS_POL_DATA_SEP_10MS : Fld := ⟨R.CLS_POL_DATA, 15, 2⟩
abbrev F.CLS_POL_DATA_ACTION : Fld := ⟨R.CLS_POL_DATA, 1, 0⟩
abbrev F.CLS_MACH_IDX_MI : Fld := ⟨R.CLS_MACH_IDX, 10, 0⟩
abbrev F.CLS_MACH_DATA_HELD : Fld := ⟨R.CLS_MACH_DATA, 31, 24⟩
abbrev F.CLS_MACH_DATA_VALID : Fld := ⟨R.CLS_MACH_DATA, 23, 23⟩
abbrev F.CLS_MACH_DATA_PCLASS : Fld := ⟨R.CLS_MACH_DATA, 20, 16⟩
abbrev F.CLS_MACH_DATA_RADIUS_MM : Fld := ⟨R.CLS_MACH_DATA, 15, 0⟩
abbrev F.CLS_CHECKS_COUNT : Fld := ⟨R.CLS_CHECKS, 31, 0⟩
abbrev F.CLS_SOLCNT_COUNT : Fld := ⟨R.CLS_SOLCNT, 31, 0⟩
abbrev F.CLS_LASTSOL_REASON : Fld := ⟨R.CLS_LASTSOL, 19, 16⟩
abbrev F.CLS_LASTSOL_MI : Fld := ⟨R.CLS_LASTSOL, 10, 0⟩
abbrev F.CLS_ECC_UNCORRECTED : Fld := ⟨R.CLS_ECC, 31, 16⟩
abbrev F.CLS_ECC_CORRECTED : Fld := ⟨R.CLS_ECC, 15, 0⟩
abbrev F.CLS_BANKLOAD_RATE : Fld := ⟨R.CLS_BANKLOAD, 31, 0⟩
abbrev F.CLS_MAPINFO_ZONES : Fld := ⟨R.CLS_MAPINFO, 26, 18⟩
abbrev F.CLS_MAPINFO_SEGS : Fld := ⟨R.CLS_MAPINFO, 17, 0⟩
abbrev F.AUT_CTRL_LEVEL : Fld := ⟨R.AUT_CTRL, 1, 1⟩
abbrev F.AUT_CTRL_EN : Fld := ⟨R.AUT_CTRL, 0, 0⟩
abbrev F.AUT_PARSE_DETAIL : Fld := ⟨R.AUT_PARSE, 23, 16⟩
abbrev F.AUT_PARSE_BLOCK : Fld := ⟨R.AUT_PARSE, 15, 8⟩
abbrev F.AUT_PARSE_REASON : Fld := ⟨R.AUT_PARSE, 7, 0⟩
abbrev F.AUT_STATUS_ACTIVE : Fld := ⟨R.AUT_STATUS, 15, 15⟩
abbrev F.AUT_STATUS_TIME_OK : Fld := ⟨R.AUT_STATUS, 14, 14⟩
abbrev F.AUT_STATUS_WARDEN_FAULT : Fld := ⟨R.AUT_STATUS, 13, 13⟩
abbrev F.AUT_STATUS_PERMIT : Fld := ⟨R.AUT_STATUS, 12, 12⟩
abbrev F.AUT_STATUS_DISC : Fld := ⟨R.AUT_STATUS, 11, 11⟩
abbrev F.AUT_STATUS_COMMA_PIN : Fld := ⟨R.AUT_STATUS, 10, 10⟩
abbrev F.AUT_STATUS_STOP_B : Fld := ⟨R.AUT_STATUS, 9, 9⟩
abbrev F.AUT_STATUS_STOP_A : Fld := ⟨R.AUT_STATUS, 8, 8⟩
abbrev F.AUT_STATUS_REARM_PEND : Fld := ⟨R.AUT_STATUS, 3, 3⟩
abbrev F.AUT_STATUS_FS_LATCH : Fld := ⟨R.AUT_STATUS, 2, 2⟩
abbrev F.AUT_STATUS_TENSE : Fld := ⟨R.AUT_STATUS, 1, 0⟩
abbrev F.AUT_SOURCES_FCAUSE : Fld := ⟨R.AUT_SOURCES, 31, 24⟩
abbrev F.AUT_SOURCES_CCAUSE : Fld := ⟨R.AUT_SOURCES, 23, 16⟩
abbrev F.AUT_SOURCES_COMMA_SRC : Fld := ⟨R.AUT_SOURCES, 12, 8⟩
abbrev F.AUT_SOURCES_FS_SRC : Fld := ⟨R.AUT_SOURCES, 5, 0⟩
abbrev F.AUT_BEACON_SLOTS_SKIPPED : Fld := ⟨R.AUT_BEACON, 31, 16⟩
abbrev F.AUT_BEACON_TRUNC : Fld := ⟨R.AUT_BEACON, 3, 3⟩
abbrev F.AUT_BEACON_PERMIT : Fld := ⟨R.AUT_BEACON, 2, 2⟩
abbrev F.AUT_BEACON_TENSE : Fld := ⟨R.AUT_BEACON, 1, 0⟩
abbrev F.AUT_SEQ_LO_SEQ_LO : Fld := ⟨R.AUT_SEQ_LO, 31, 0⟩
abbrev F.AUT_SEQ_HI_SEQ_HI : Fld := ⟨R.AUT_SEQ_HI, 15, 0⟩
abbrev F.AUT_LIFE_COVER : Fld := ⟨R.AUT_LIFE, 21, 16⟩
abbrev F.AUT_LIFE_LIFETIME_MS : Fld := ⟨R.AUT_LIFE, 15, 0⟩
abbrev F.AUT_REC_REPEAT_MS : Fld := ⟨R.AUT_REC, 31, 16⟩
abbrev F.AUT_REC_REC_LIFE_MS : Fld := ⟨R.AUT_REC, 15, 0⟩
abbrev F.AUT_QCEIL01_Q1 : Fld := ⟨R.AUT_QCEIL01, 31, 16⟩
abbrev F.AUT_QCEIL01_Q0 : Fld := ⟨R.AUT_QCEIL01, 15, 0⟩
abbrev F.AUT_QCEIL2_Q2 : Fld := ⟨R.AUT_QCEIL2, 15, 0⟩
abbrev F.AUT_CELL_CELL_VMAX : Fld := ⟨R.AUT_CELL, 31, 16⟩
abbrev F.AUT_CELL_CELL_STEP_MM : Fld := ⟨R.AUT_CELL, 15, 0⟩
abbrev F.AUT_AGE_RESUME_MS : Fld := ⟨R.AUT_AGE, 31, 16⟩
abbrev F.AUT_AGE_POS_AGE_MS : Fld := ⟨R.AUT_AGE, 15, 0⟩
abbrev F.AUT_FSTOP_AIR_EN : Fld := ⟨R.AUT_FSTOP, 8, 8⟩
abbrev F.AUT_FSTOP_HOST : Fld := ⟨R.AUT_FSTOP, 0, 0⟩
abbrev F.AUT_REARM_KEY : Fld := ⟨R.AUT_REARM, 15, 0⟩
abbrev F.AUT_COMMA_REARM_HOLD_MS : Fld := ⟨R.AUT_COMMA, 31, 16⟩
abbrev F.AUT_COMMA_RESUME : Fld := ⟨R.AUT_COMMA, 3, 3⟩
abbrev F.AUT_COMMA_TEST : Fld := ⟨R.AUT_COMMA, 2, 2⟩
abbrev F.AUT_COMMA_PIN_EN : Fld := ⟨R.AUT_COMMA, 1, 1⟩
abbrev F.AUT_COMMA_HOST : Fld := ⟨R.AUT_COMMA, 0, 0⟩
abbrev F.AUT_REVOKE_OP : Fld := ⟨R.AUT_REVOKE, 13, 12⟩
abbrev F.AUT_REVOKE_MI : Fld := ⟨R.AUT_REVOKE, 10, 0⟩
abbrev F.AUT_REVSTAT_LASTCAUSE : Fld := ⟨R.AUT_REVSTAT, 31, 28⟩
abbrev F.AUT_REVSTAT_COUNT : Fld := ⟨R.AUT_REVSTAT, 27, 16⟩
abbrev F.AUT_REVSTAT_LASTMI : Fld := ⟨R.AUT_REVSTAT, 10, 0⟩
abbrev F.AUT_WARDEN_FAULT_REASON : Fld := ⟨R.AUT_WARDEN, 31, 24⟩
abbrev F.AUT_WARDEN_KICK_100MS : Fld := ⟨R.AUT_WARDEN, 23, 16⟩
abbrev F.AUT_WARDEN_KICK_EN : Fld := ⟨R.AUT_WARDEN, 15, 15⟩
abbrev F.AUT_WARDEN_WITHHELD : Fld := ⟨R.AUT_WARDEN, 14, 0⟩
abbrev F.AUT_KICK_KEY : Fld := ⟨R.AUT_KICK, 15, 0⟩
abbrev F.AUT_DISC_COUNT : Fld := ⟨R.AUT_DISC, 31, 16⟩
abbrev F.AUT_DISC_RELEASED : Fld := ⟨R.AUT_DISC, 1, 1⟩
abbrev F.AUT_DISC_DISC : Fld := ⟨R.AUT_DISC, 0, 0⟩
abbrev F.AUT_RECCNT_COUNT : Fld := ⟨R.AUT_RECCNT, 31, 0⟩
abbrev F.AUT_MACH_IDX_MI : Fld := ⟨R.AUT_MACH_IDX, 10, 0⟩
abbrev F.AUT_MACH_CFG_VCAP : Fld := ⟨R.AUT_MACH_CFG, 15, 0⟩
abbrev F.AUT_MACH_STAT_REVOKED : Fld := ⟨R.AUT_MACH_STAT, 31, 31⟩
abbrev F.AUT_MACH_STAT_WAIT : Fld := ⟨R.AUT_MACH_STAT, 30, 30⟩
abbrev F.AUT_MACH_STAT_QCLASS : Fld := ⟨R.AUT_MACH_STAT, 29, 28⟩
abbrev F.AUT_MACH_STAT_ZERO : Fld := ⟨R.AUT_MACH_STAT, 27, 24⟩
abbrev F.AUT_MACH_STAT_AGE : Fld := ⟨R.AUT_MACH_STAT, 23, 16⟩
abbrev F.AUT_MACH_STAT_VCEIL : Fld := ⟨R.AUT_MACH_STAT, 15, 0⟩
abbrev F.AUT_RECLATE_COUNT : Fld := ⟨R.AUT_RECLATE, 31, 0⟩
abbrev F.AUT_REVBM_BITS : Fld := ⟨R.AUT_REVBM, 31, 0⟩
abbrev F.SLV_CTRL_LEVEL : Fld := ⟨R.SLV_CTRL, 1, 1⟩
abbrev F.SLV_CTRL_EN : Fld := ⟨R.SLV_CTRL, 0, 0⟩
abbrev F.SLV_PARSE_DETAIL : Fld := ⟨R.SLV_PARSE, 23, 16⟩
abbrev F.SLV_PARSE_BLOCK : Fld := ⟨R.SLV_PARSE, 15, 8⟩
abbrev F.SLV_PARSE_REASON : Fld := ⟨R.SLV_PARSE, 7, 0⟩
abbrev F.SLV_STATUS_AWAKE : Fld := ⟨R.SLV_STATUS, 23, 18⟩
abbrev F.SLV_STATUS_SHEDDING : Fld := ⟨R.SLV_STATUS, 7, 7⟩
abbrev F.SLV_STATUS_LEAVE_PEND : Fld := ⟨R.SLV_STATUS, 6, 6⟩
abbrev F.SLV_STATUS_AUX_FB : Fld := ⟨R.SLV_STATUS, 5, 5⟩
abbrev F.SLV_STATUS_PRED : Fld := ⟨R.SLV_STATUS, 4, 4⟩
abbrev F.SLV_STATUS_ANT_B : Fld := ⟨R.SLV_STATUS, 3, 3⟩
abbrev F.SLV_STATUS_REF_OK : Fld := ⟨R.SLV_STATUS, 2, 2⟩
abbrev F.SLV_RATE_PLANNED : Fld := ⟨R.SLV_RATE, 31, 16⟩
abbrev F.SLV_RATE_ACTUAL : Fld := ⟨R.SLV_RATE, 15, 0⟩
abbrev F.SLV_REFAGE_AGE_MS : Fld := ⟨R.SLV_REFAGE, 15, 0⟩
abbrev F.SLV_LANES_PLAN_RATE : Fld := ⟨R.SLV_LANES, 31, 16⟩
abbrev F.SLV_LANES_RESERVE : Fld := ⟨R.SLV_LANES, 5, 0⟩
abbrev F.SLV_AWAKE_MASK : Fld := ⟨R.SLV_AWAKE, 31, 0⟩
abbrev F.SLV_LANEOUT_MASK : Fld := ⟨R.SLV_LANEOUT, 31, 0⟩
abbrev F.SLV_QBOUND0_H3_Q1 : Fld := ⟨R.SLV_QBOUND0, 31, 16⟩
abbrev F.SLV_QBOUND0_H3_Q0 : Fld := ⟨R.SLV_QBOUND0, 15, 0⟩
abbrev F.SLV_QBOUND1_H3_FLOOR : Fld := ⟨R.SLV_QBOUND1, 31, 16⟩
abbrev F.SLV_QBOUND1_H3_Q2 : Fld := ⟨R.SLV_QBOUND1, 15, 0⟩
abbrev F.SLV_FIX_RATIO_X10 : Fld := ⟨R.SLV_FIX, 31, 24⟩
abbrev F.SLV_FIX_HOLD_EPOCHS : Fld := ⟨R.SLV_FIX, 23, 16⟩
abbrev F.SLV_FIX_MIN_FIX : Fld := ⟨R.SLV_FIX, 15, 8⟩
abbrev F.SLV_FIX_ELEV_FIX : Fld := ⟨R.SLV_FIX, 7, 0⟩
abbrev F.SLV_SEARCH_SEARCH_US : Fld := ⟨R.SLV_SEARCH, 31, 16⟩
abbrev F.SLV_SEARCH_RES_MM : Fld := ⟨R.SLV_SEARCH, 15, 0⟩
abbrev F.SLV_PRED_PRED_GROWTH : Fld := ⟨R.SLV_PRED, 31, 16⟩
abbrev F.SLV_PRED_PRED_MS : Fld := ⟨R.SLV_PRED, 15, 0⟩
abbrev F.SLV_MODEL_ELEV_MASK : Fld := ⟨R.SLV_MODEL, 31, 24⟩
abbrev F.SLV_MODEL_IONO_KM : Fld := ⟨R.SLV_MODEL, 15, 8⟩
abbrev F.SLV_MODEL_TROPO_KM : Fld := ⟨R.SLV_MODEL, 7, 0⟩
abbrev F.SLV_RCLASS_IDX_CLASS : Fld := ⟨R.SLV_RCLASS_IDX, 2, 0⟩
abbrev F.SLV_RCLASS_DATA_SHED : Fld := ⟨R.SLV_RCLASS_DATA, 31, 31⟩
abbrev F.SLV_RCLASS_DATA_PRIO : Fld := ⟨R.SLV_RCLASS_DATA, 27, 24⟩
abbrev F.SLV_RCLASS_DATA_K_ACQ : Fld := ⟨R.SLV_RCLASS_DATA, 23, 20⟩
abbrev F.SLV_RCLASS_DATA_K_MAX : Fld := ⟨R.SLV_RCLASS_DATA, 19, 16⟩
abbrev F.SLV_RCLASS_DATA_K_MIN : Fld := ⟨R.SLV_RCLASS_DATA, 15, 12⟩
abbrev F.SLV_RCLASS_DATA_STEP_CM : Fld := ⟨R.SLV_RCLASS_DATA, 11, 0⟩
abbrev F.SLV_MACH_IDX_MI : Fld := ⟨R.SLV_MACH_IDX, 10, 0⟩
abbrev F.SLV_MACH_CFG_VALID : Fld := ⟨R.SLV_MACH_CFG, 31, 31⟩
abbrev F.SLV_MACH_CFG_RCLASS : Fld := ⟨R.SLV_MACH_CFG, 26, 24⟩
abbrev F.SLV_MACH_CFG_LINK_IN : Fld := ⟨R.SLV_MACH_CFG, 23, 23⟩
abbrev F.SLV_MACH_CFG_REFSEL : Fld := ⟨R.SLV_MACH_CFG, 22, 20⟩
abbrev F.SLV_MACH_CFG_K_SET : Fld := ⟨R.SLV_MACH_CFG, 19, 16⟩
abbrev F.SLV_MACH_STAT_QCLASS : Fld := ⟨R.SLV_MACH_STAT, 31, 30⟩
abbrev F.SLV_MACH_STAT_FIX : Fld := ⟨R.SLV_MACH_STAT, 29, 28⟩
abbrev F.SLV_MACH_STAT_PRED : Fld := ⟨R.SLV_MACH_STAT, 27, 27⟩
abbrev F.SLV_MACH_STAT_K_GRANTED : Fld := ⟨R.SLV_MACH_STAT, 26, 23⟩
abbrev F.SLV_MACH_STAT_NSAT : Fld := ⟨R.SLV_MACH_STAT, 22, 17⟩
abbrev F.SLV_MACH_STAT_H3 : Fld := ⟨R.SLV_MACH_STAT, 15, 0⟩
abbrev F.SLV_CMD_OP : Fld := ⟨R.SLV_CMD, 31, 28⟩
abbrev F.SLV_CMD_MI : Fld := ⟨R.SLV_CMD, 10, 0⟩
abbrev F.SLV_INTAKE_HIGHWATER : Fld := ⟨R.SLV_INTAKE, 31, 16⟩
abbrev F.SLV_INTAKE_COUNT : Fld := ⟨R.SLV_INTAKE, 15, 0⟩
abbrev F.SLV_CNT_COUNT : Fld := ⟨R.SLV_CNT, 31, 0⟩
abbrev F.SLV_AUX_IDX_ENTRY : Fld := ⟨R.SLV_AUX_IDX, 2, 0⟩
abbrev F.SLV_AUX_CFG_EN : Fld := ⟨R.SLV_AUX_CFG, 31, 31⟩
abbrev F.SLV_AUX_CFG_FALLBACK : Fld := ⟨R.SLV_AUX_CFG, 30, 30⟩
abbrev F.SLV_AUX_CFG_RING : Fld := ⟨R.SLV_AUX_CFG, 25, 16⟩
abbrev F.SLV_AUX_CFG_STATION : Fld := ⟨R.SLV_AUX_CFG, 11, 0⟩
abbrev F.SLV_AUX_STAT_LIVE : Fld := ⟨R.SLV_AUX_STAT, 31, 31⟩
abbrev F.SLV_AUX_STAT_POS_OK : Fld := ⟨R.SLV_AUX_STAT, 30, 30⟩
abbrev F.SLV_AUX_STAT_LAT_MS : Fld := ⟨R.SLV_AUX_STAT, 15, 0⟩
abbrev F.SLV_OUT_HOST_EN : Fld := ⟨R.SLV_OUT, 31, 31⟩
abbrev F.SLV_OUT_RING : Fld := ⟨R.SLV_OUT, 25, 16⟩
abbrev F.SLV_OUT_DECIM : Fld := ⟨R.SLV_OUT, 3, 0⟩
abbrev F.SLV_ECC_UNCORRECTED : Fld := ⟨R.SLV_ECC, 31, 16⟩
abbrev F.SLV_ECC_CORRECTED : Fld := ⟨R.SLV_ECC, 15, 0⟩
abbrev F.SLV_ROLE0_ROLES : Fld := ⟨R.SLV_ROLE0, 31, 0⟩
abbrev F.SLV_ROLE1_ROLES : Fld := ⟨R.SLV_ROLE1, 31, 0⟩
abbrev F.SLV_WAKE_MASK : Fld := ⟨R.SLV_WAKE, 31, 0⟩
abbrev F.GRX_CTRL_LEVEL : Fld := ⟨R.GRX_CTRL, 1, 1⟩
abbrev F.GRX_CTRL_EN : Fld := ⟨R.GRX_CTRL, 0, 0⟩
abbrev F.GRX_PARSE_DETAIL : Fld := ⟨R.GRX_PARSE, 23, 16⟩
abbrev F.GRX_PARSE_BLOCK : Fld := ⟨R.GRX_PARSE, 15, 8⟩
abbrev F.GRX_PARSE_REASON : Fld := ⟨R.GRX_PARSE, 7, 0⟩
abbrev F.GRX_STATUS_USABLE_B : Fld := ⟨R.GRX_STATUS, 25, 25⟩
abbrev F.GRX_STATUS_USABLE_A : Fld := ⟨R.GRX_STATUS, 24, 24⟩
abbrev F.GRX_STATUS_REF_ANT : Fld := ⟨R.GRX_STATUS, 23, 22⟩
abbrev F.GRX_STATUS_B_FIXED : Fld := ⟨R.GRX_STATUS, 21, 21⟩
abbrev F.GRX_STATUS_BASE_ALARM : Fld := ⟨R.GRX_STATUS, 20, 20⟩
abbrev F.GRX_STATUS_SPOOF_ALARM : Fld := ⟨R.GRX_STATUS, 19, 19⟩
abbrev F.GRX_STATUS_POS_OK : Fld := ⟨R.GRX_STATUS, 18, 18⟩
abbrev F.GRX_STATUS_SURVEYING : Fld := ⟨R.GRX_STATUS, 17, 17⟩
abbrev F.GRX_STATUS_NSAT_A : Fld := ⟨R.GRX_STATUS, 15, 8⟩
abbrev F.GRX_STATUS_NSAT_B : Fld := ⟨R.GRX_STATUS, 7, 0⟩
abbrev F.GRX_ANT_RETRY_B : Fld := ⟨R.GRX_ANT, 31, 24⟩
abbrev F.GRX_ANT_RETRY_A : Fld := ⟨R.GRX_ANT, 23, 16⟩
abbrev F.GRX_ANT_SHARED_B : Fld := ⟨R.GRX_ANT, 12, 12⟩
abbrev F.GRX_ANT_SHORT_B : Fld := ⟨R.GRX_ANT, 11, 11⟩
abbrev F.GRX_ANT_OPEN_B : Fld := ⟨R.GRX_ANT, 10, 10⟩
abbrev F.GRX_ANT_ON_B : Fld := ⟨R.GRX_ANT, 9, 9⟩
abbrev F.GRX_ANT_BIAS_EN_B : Fld := ⟨R.GRX_ANT, 8, 8⟩
abbrev F.GRX_ANT_SHARED_A : Fld := ⟨R.GRX_ANT, 4, 4⟩
abbrev F.GRX_ANT_SHORT_A : Fld := ⟨R.GRX_ANT, 3, 3⟩
abbrev F.GRX_ANT_OPEN_A : Fld := ⟨R.GRX_ANT, 2, 2⟩
abbrev F.GRX_ANT_ON_A : Fld := ⟨R.GRX_ANT, 1, 1⟩
abbrev F.GRX_ANT_BIAS_EN_A : Fld := ⟨R.GRX_ANT, 0, 0⟩
abbrev F.GRX_CFG_RETURN_S : Fld := ⟨R.GRX_CFG, 31, 24⟩
abbrev F.GRX_CFG_ACQ_MASK : Fld := ⟨R.GRX_CFG, 23, 16⟩
abbrev F.GRX_CFG_USE_MASK : Fld := ⟨R.GRX_CFG, 15, 8⟩
abbrev F.GRX_CFG_ANT_SEL : Fld := ⟨R.GRX_CFG, 1, 0⟩
abbrev F.GRX_TRK_SPACING : Fld := ⟨R.GRX_TRK, 23, 16⟩
abbrev F.GRX_TRK_CARR_MS : Fld := ⟨R.GRX_TRK, 15, 8⟩
abbrev F.GRX_TRK_CODE_MS : Fld := ⟨R.GRX_TRK, 7, 0⟩
abbrev F.GRX_CH_IDX_CH : Fld := ⟨R.GRX_CH_IDX, 8, 0⟩
abbrev F.GRX_CH_CFG_ASSIGN : Fld := ⟨R.GRX_CH_CFG, 15, 8⟩
abbrev F.GRX_CH_CFG_FIXED : Fld := ⟨R.GRX_CH_CFG, 6, 6⟩
abbrev F.GRX_CH_CFG_ANT : Fld := ⟨R.GRX_CH_CFG, 5, 5⟩
abbrev F.GRX_CH_CFG_SIG : Fld := ⟨R.GRX_CH_CFG, 4, 0⟩
abbrev F.GRX_CH_STAT_STATE : Fld := ⟨R.GRX_CH_STAT, 31, 29⟩
abbrev F.GRX_CH_STAT_NOTCHED : Fld := ⟨R.GRX_CH_STAT, 28, 28⟩
abbrev F.GRX_CH_STAT_HALF : Fld := ⟨R.GRX_CH_STAT, 27, 27⟩
abbrev F.GRX_CH_STAT_SVID : Fld := ⟨R.GRX_CH_STAT, 23, 16⟩
abbrev F.GRX_CH_STAT_CN0 : Fld := ⟨R.GRX_CH_STAT, 15, 8⟩
abbrev F.GRX_CH_STAT_ELEV : Fld := ⟨R.GRX_CH_STAT, 7, 0⟩
abbrev F.GRX_NOTCH_IDX_ANT : Fld := ⟨R.GRX_NOTCH_IDX, 4, 4⟩
abbrev F.GRX_NOTCH_IDX_PATH : Fld := ⟨R.GRX_NOTCH_IDX, 3, 2⟩
abbrev F.GRX_NOTCH_IDX_NOTCH : Fld := ⟨R.GRX_NOTCH_IDX, 1, 0⟩
abbrev F.GRX_NOTCH_ACTIVE : Fld := ⟨R.GRX_NOTCH, 31, 31⟩
abbrev F.GRX_NOTCH_WIDTH : Fld := ⟨R.GRX_NOTCH, 30, 29⟩
abbrev F.GRX_NOTCH_EXCESS : Fld := ⟨R.GRX_NOTCH, 23, 16⟩
abbrev F.GRX_NOTCH_OFFSET : Fld := ⟨R.GRX_NOTCH, 12, 0⟩
abbrev F.GRX_NOTCH_SET_ACTIVE : Fld := ⟨R.GRX_NOTCH_SET, 31, 31⟩
abbrev F.GRX_NOTCH_SET_WIDTH : Fld := ⟨R.GRX_NOTCH_SET, 30, 29⟩
abbrev F.GRX_NOTCH_SET_OFFSET : Fld := ⟨R.GRX_NOTCH_SET, 12, 0⟩
abbrev F.GRX_JAM_NOTCH_THR : Fld := ⟨R.GRX_JAM, 31, 24⟩
abbrev F.GRX_JAM_WORST_DB : Fld := ⟨R.GRX_JAM, 23, 16⟩
abbrev F.GRX_JAM_B_1176 : Fld := ⟨R.GRX_JAM, 13, 12⟩
abbrev F.GRX_JAM_B_12 : Fld := ⟨R.GRX_JAM, 11, 10⟩
abbrev F.GRX_JAM_B_1575 : Fld := ⟨R.GRX_JAM, 9, 8⟩
abbrev F.GRX_JAM_A_1176 : Fld := ⟨R.GRX_JAM, 5, 4⟩
abbrev F.GRX_JAM_A_12 : Fld := ⟨R.GRX_JAM, 3, 2⟩
abbrev F.GRX_JAM_A_1575 : Fld := ⟨R.GRX_JAM, 1, 0⟩
abbrev F.GRX_SPOOF_ALARM : Fld := ⟨R.GRX_SPOOF, 31, 31⟩
abbrev F.GRX_SPOOF_HOLD_S : Fld := ⟨R.GRX_SPOOF, 23, 16⟩
abbrev F.GRX_SPOOF_FAILED : Fld := ⟨R.GRX_SPOOF, 13, 8⟩
abbrev F.GRX_SPOOF_CHK_EN : Fld := ⟨R.GRX_SPOOF, 5, 0⟩
abbrev F.GRX_POS_SEL_ANT : Fld := ⟨R.GRX_POS_SEL, 2, 2⟩
abbrev F.GRX_POS_SEL_AXIS : Fld := ⟨R.GRX_POS_SEL, 1, 0⟩
abbrev F.GRX_POS_LO_VAL_LO : Fld := ⟨R.GRX_POS_LO, 31, 0⟩
abbrev F.GRX_POS_HI_VAL_HI : Fld := ⟨R.GRX_POS_HI, 31, 0⟩
abbrev F.GRX_HELD_LO_HELD_LO : Fld := ⟨R.GRX_HELD_LO, 31, 0⟩
abbrev F.GRX_HELD_HI_HELD_HI : Fld := ⟨R.GRX_HELD_HI, 31, 0⟩
abbrev F.GRX_SURVEY_OP : Fld := ⟨R.GRX_SURVEY, 31, 28⟩
abbrev F.GRX_SURVEY_RESULT : Fld := ⟨R.GRX_SURVEY, 27, 24⟩
abbrev F.GRX_SURVEY_DURATION_MIN : Fld := ⟨R.GRX_SURVEY, 11, 0⟩
abbrev F.GRX_BASE_DEV_MM : Fld := ⟨R.GRX_BASE, 31, 16⟩
abbrev F.GRX_BASE_TOL_MM : Fld := ⟨R.GRX_BASE, 7, 0⟩
abbrev F.GRX_RTCM_EN : Fld := ⟨R.GRX_RTCM, 31, 31⟩
abbrev F.GRX_RTCM_STANDBY_EN : Fld := ⟨R.GRX_RTCM, 30, 30⟩
abbrev F.GRX_RTCM_POS1006 : Fld := ⟨R.GRX_RTCM, 29, 29⟩
abbrev F.GRX_RTCM_RING : Fld := ⟨R.GRX_RTCM, 25, 16⟩
abbrev F.GRX_RTCM_RATE : Fld := ⟨R.GRX_RTCM, 15, 12⟩
abbrev F.GRX_RTCM_STATION : Fld := ⟨R.GRX_RTCM, 11, 0⟩
abbrev F.GRX_RTCM_MSM_QZSS : Fld := ⟨R.GRX_RTCM_MSM, 7, 6⟩
abbrev F.GRX_RTCM_MSM_BEIDOU : Fld := ⟨R.GRX_RTCM_MSM, 5, 4⟩
abbrev F.GRX_RTCM_MSM_GALILEO : Fld := ⟨R.GRX_RTCM_MSM, 3, 2⟩
abbrev F.GRX_RTCM_MSM_GPS : Fld := ⟨R.GRX_RTCM_MSM, 1, 0⟩
abbrev F.GRX_OUT_SET_EN : Fld := ⟨R.GRX_OUT, 31, 31⟩
abbrev F.GRX_OUT_NAV_EN : Fld := ⟨R.GRX_OUT, 30, 30⟩
abbrev F.GRX_OUT_NAV_RING : Fld := ⟨R.GRX_OUT, 19, 10⟩
abbrev F.GRX_OUT_SET_RING : Fld := ⟨R.GRX_OUT, 9, 0⟩
abbrev F.GRX_CNT_COUNT : Fld := ⟨R.GRX_CNT, 31, 0⟩
abbrev F.GRX_TRACKED_LOCKED : Fld := ⟨R.GRX_TRACKED, 24, 16⟩
abbrev F.GRX_TRACKED_ALLOC : Fld := ⟨R.GRX_TRACKED, 8, 0⟩
abbrev F.TIM_CTRL_STEP_OK : Fld := ⟨R.TIM_CTRL, 2, 2⟩
abbrev F.TIM_CTRL_LEVEL : Fld := ⟨R.TIM_CTRL, 1, 1⟩
abbrev F.TIM_CTRL_EN : Fld := ⟨R.TIM_CTRL, 0, 0⟩
abbrev F.TIM_PARSE_DETAIL : Fld := ⟨R.TIM_PARSE, 23, 16⟩
abbrev F.TIM_PARSE_BLOCK : Fld := ⟨R.TIM_PARSE, 15, 8⟩
abbrev F.TIM_PARSE_REASON : Fld := ⟨R.TIM_PARSE, 7, 0⟩
abbrev F.TIM_STATUS_SAT : Fld := ⟨R.TIM_STATUS, 7, 7⟩
abbrev F.TIM_STATUS_STEP_PEND : Fld := ⟨R.TIM_STATUS, 6, 6⟩
abbrev F.TIM_STATUS_VERIFYING : Fld := ⟨R.TIM_STATUS, 5, 5⟩
abbrev F.TIM_STATUS_HOLDOVER : Fld := ⟨R.TIM_STATUS, 4, 4⟩
abbrev F.TIM_STATUS_GNSS_OK : Fld := ⟨R.TIM_STATUS, 3, 3⟩
abbrev F.TIM_STATUS_OCXO_READY : Fld := ⟨R.TIM_STATUS, 2, 2⟩
abbrev F.TIM_STATUS_VALID : Fld := ⟨R.TIM_STATUS, 1, 1⟩
abbrev F.TIM_QUAL_ACCURACY : Fld := ⟨R.TIM_QUAL, 23, 16⟩
abbrev F.TIM_QUAL_CLASS : Fld := ⟨R.TIM_QUAL, 15, 8⟩
abbrev F.TIM_QUAL_QUAL : Fld := ⟨R.TIM_QUAL, 2, 0⟩
abbrev F.TIM_SEC_LO_SEC_LO : Fld := ⟨R.TIM_SEC_LO, 31, 0⟩
abbrev F.TIM_SEC_HI_SEC_HI : Fld := ⟨R.TIM_SEC_HI, 15, 0⟩
abbrev F.TIM_NS_NS : Fld := ⟨R.TIM_NS, 29, 0⟩
abbrev F.TIM_STAMP_STAMP : Fld := ⟨R.TIM_STAMP, 31, 0⟩
abbrev F.TIM_ERR_EST_NS : Fld := ⟨R.TIM_ERR, 31, 0⟩
abbrev F.TIM_OFFSET_OFFSET_NS : Fld := ⟨R.TIM_OFFSET, 31, 0⟩
abbrev F.TIM_FREQ_DAC : Fld := ⟨R.TIM_FREQ, 19, 0⟩
abbrev F.TIM_DISC_TAU_S : Fld := ⟨R.TIM_DISC, 31, 16⟩
abbrev F.TIM_DISC_INV_10US : Fld := ⟨R.TIM_DISC, 15, 0⟩
abbrev F.TIM_STEP_LAST_NS : Fld := ⟨R.TIM_STEP, 31, 8⟩
abbrev F.TIM_STEP_COUNT : Fld := ⟨R.TIM_STEP, 7, 0⟩
abbrev F.TIM_UTC_LEAP_PEND : Fld := ⟨R.TIM_UTC, 31, 31⟩
abbrev F.TIM_UTC_LEAP_DIR : Fld := ⟨R.TIM_UTC, 30, 30⟩
abbrev F.TIM_UTC_VALID : Fld := ⟨R.TIM_UTC, 8, 8⟩
abbrev F.TIM_UTC_OFFSET_S : Fld := ⟨R.TIM_UTC, 7, 0⟩
abbrev F.TIM_LEAP_SEC : Fld := ⟨R.TIM_LEAP, 31, 0⟩
abbrev F.TIM_SET_SEC_SEC : Fld := ⟨R.TIM_SET_SEC, 31, 0⟩
abbrev F.TIM_SET_NS_NS : Fld := ⟨R.TIM_SET_NS, 29, 0⟩
abbrev F.TIM_SET_CMD_OP : Fld := ⟨R.TIM_SET_CMD, 31, 28⟩
abbrev F.TIM_SET_CMD_RESULT : Fld := ⟨R.TIM_SET_CMD, 27, 26⟩
abbrev F.TIM_SET_CMD_ERR_US : Fld := ⟨R.TIM_SET_CMD, 23, 0⟩
abbrev F.TIM_OUT_PPS_EN : Fld := ⟨R.TIM_OUT, 31, 31⟩
abbrev F.TIM_OUT_FREQ_EN : Fld := ⟨R.TIM_OUT, 30, 30⟩
abbrev F.TIM_OUT_PPS_WIDTH_MS : Fld := ⟨R.TIM_OUT, 9, 0⟩
abbrev F.TIM_CAL_ANT_NS : Fld := ⟨R.TIM_CAL, 31, 16⟩
abbrev F.TIM_CAL_PPS_NS : Fld := ⟨R.TIM_CAL, 15, 0⟩
abbrev F.TIM_LOOPS_PHASE_SLOT : Fld := ⟨R.TIM_LOOPS, 26, 16⟩
abbrev F.TIM_LOOPS_FREQ_SLOT : Fld := ⟨R.TIM_LOOPS, 10, 0⟩
abbrev F.TIM_TO_IDX_OUTPUT : Fld := ⟨R.TIM_TO_IDX, 2, 0⟩
abbrev F.TIM_TO_CFG_ARM : Fld := ⟨R.TIM_TO_CFG, 31, 31⟩
abbrev F.TIM_TO_CFG_PERIODIC : Fld := ⟨R.TIM_TO_CFG, 30, 30⟩
abbrev F.TIM_TO_CFG_INVERT : Fld := ⟨R.TIM_TO_CFG, 29, 29⟩
abbrev F.TIM_TO_CFG_LATE : Fld := ⟨R.TIM_TO_CFG, 28, 28⟩
abbrev F.TIM_TO_SEC_SEC : Fld := ⟨R.TIM_TO_SEC, 31, 0⟩
abbrev F.TIM_TO_NS_NS : Fld := ⟨R.TIM_TO_NS, 29, 0⟩
abbrev F.TIM_TO_PERIOD_PERIOD_NS : Fld := ⟨R.TIM_TO_PERIOD, 31, 0⟩
abbrev F.TIM_TO_WIDTH_WIDTH_NS : Fld := ⟨R.TIM_TO_WIDTH, 31, 0⟩
abbrev F.TIM_TC_CFG_OVF : Fld := ⟨R.TIM_TC_CFG, 31, 24⟩
abbrev F.TIM_TC_CFG_EDGE : Fld := ⟨R.TIM_TC_CFG, 15, 0⟩
abbrev F.TIM_TC_IDX_COUNT : Fld := ⟨R.TIM_TC_IDX, 20, 16⟩
abbrev F.TIM_TC_IDX_INPUT : Fld := ⟨R.TIM_TC_IDX, 2, 0⟩
abbrev F.TIM_TC_SEC_SEC : Fld := ⟨R.TIM_TC_SEC, 31, 0⟩
abbrev F.TIM_TC_NS_VALID : Fld := ⟨R.TIM_TC_NS, 31, 31⟩
abbrev F.TIM_TC_NS_RISING : Fld := ⟨R.TIM_TC_NS, 30, 30⟩
abbrev F.TIM_TC_NS_NS : Fld := ⟨R.TIM_TC_NS, 29, 0⟩
abbrev F.PTP_CTRL_LEVEL : Fld := ⟨R.PTP_CTRL, 1, 1⟩
abbrev F.PTP_CTRL_EN : Fld := ⟨R.PTP_CTRL, 0, 0⟩
abbrev F.PTP_PARSE_DETAIL : Fld := ⟨R.PTP_PARSE, 23, 16⟩
abbrev F.PTP_PARSE_BLOCK : Fld := ⟨R.PTP_PARSE, 15, 8⟩
abbrev F.PTP_PARSE_REASON : Fld := ⟨R.PTP_PARSE, 7, 0⟩
abbrev F.PTP_CLOCK_PRIO1 : Fld := ⟨R.PTP_CLOCK, 31, 24⟩
abbrev F.PTP_CLOCK_PRIO2 : Fld := ⟨R.PTP_CLOCK, 23, 16⟩
abbrev F.PTP_CLOCK_DOMAIN : Fld := ⟨R.PTP_CLOCK, 6, 0⟩
abbrev F.PTP_RING_EN : Fld := ⟨R.PTP_RING, 31, 31⟩
abbrev F.PTP_RING_RING : Fld := ⟨R.PTP_RING, 9, 0⟩
abbrev F.PTP_PORT_IDX_PORT : Fld := ⟨R.PTP_PORT_IDX, 0, 0⟩
abbrev F.PTP_PORT_CFG_MODE : Fld := ⟨R.PTP_PORT_CFG, 31, 30⟩
abbrev F.PTP_PORT_CFG_P2P : Fld := ⟨R.PTP_PORT_CFG, 29, 29⟩
abbrev F.PTP_PORT_CFG_TWO_STEP : Fld := ⟨R.PTP_PORT_CFG, 28, 28⟩
abbrev F.PTP_PORT_CFG_UDP : Fld := ⟨R.PTP_PORT_CFG, 27, 27⟩
abbrev F.PTP_PORT_CFG_LOG_SYNC : Fld := ⟨R.PTP_PORT_CFG, 23, 20⟩
abbrev F.PTP_PORT_CFG_LOG_ANN : Fld := ⟨R.PTP_PORT_CFG, 19, 16⟩
abbrev F.PTP_PORT_CFG_LOG_DREQ : Fld := ⟨R.PTP_PORT_CFG, 15, 12⟩
abbrev F.PTP_PORT_CFG_LOG_PDREQ : Fld := ⟨R.PTP_PORT_CFG, 11, 8⟩
abbrev F.PTP_PORT_CFG_ANN_TO : Fld := ⟨R.PTP_PORT_CFG, 7, 4⟩
abbrev F.PTP_PORT_LAT_TX_NS : Fld := ⟨R.PTP_PORT_LAT, 31, 16⟩
abbrev F.PTP_PORT_LAT_RX_NS : Fld := ⟨R.PTP_PORT_LAT, 15, 0⟩
abbrev F.PTP_PORT_ASYM_ASYM_NS : Fld := ⟨R.PTP_PORT_ASYM, 31, 0⟩
abbrev F.PTP_PORT_STAT_STATE : Fld := ⟨R.PTP_PORT_STAT, 31, 28⟩
abbrev F.PTP_PORT_STAT_LINK_NS : Fld := ⟨R.PTP_PORT_STAT, 27, 0⟩
abbrev F.PTP_CNT_COUNT : Fld := ⟨R.PTP_CNT, 31, 0⟩
abbrev F.AIR_CTRL_LEVEL : Fld := ⟨R.AIR_CTRL, 1, 1⟩
abbrev F.AIR_CTRL_EN : Fld := ⟨R.AIR_CTRL, 0, 0⟩
abbrev F.AIR_PARSE_DETAIL : Fld := ⟨R.AIR_PARSE, 23, 16⟩
abbrev F.AIR_PARSE_BLOCK : Fld := ⟨R.AIR_PARSE, 15, 8⟩
abbrev F.AIR_PARSE_REASON : Fld := ⟨R.AIR_PARSE, 7, 0⟩
abbrev F.AIR_STATUS_JOINED : Fld := ⟨R.AIR_STATUS, 31, 20⟩
abbrev F.AIR_STATUS_BI : Fld := ⟨R.AIR_STATUS, 19, 15⟩
abbrev F.AIR_STATUS_SPLIT : Fld := ⟨R.AIR_STATUS, 1, 1⟩
abbrev F.AIR_STATUS_TX : Fld := ⟨R.AIR_STATUS, 0, 0⟩
abbrev F.AIR_CFG_PAIR_ID : Fld := ⟨R.AIR_CFG, 15, 0⟩
abbrev F.AIR_LBT_PRIO_WAIT_MS : Fld := ⟨R.AIR_LBT, 31, 24⟩
abbrev F.AIR_LBT_BE_MAX : Fld := ⟨R.AIR_LBT, 23, 20⟩
abbrev F.AIR_LBT_BE_MIN : Fld := ⟨R.AIR_LBT, 19, 16⟩
abbrev F.AIR_LBT_CCA_DBM : Fld := ⟨R.AIR_LBT, 7, 0⟩
abbrev F.AIR_FLOOD_SPREAD : Fld := ⟨R.AIR_FLOOD, 15, 8⟩
abbrev F.AIR_FLOOD_SUPPRESS : Fld := ⟨R.AIR_FLOOD, 7, 4⟩
abbrev F.AIR_FLOOD_TTL : Fld := ⟨R.AIR_FLOOD, 2, 0⟩
abbrev F.AIR_GUARD_MAX_100US : Fld := ⟨R.AIR_GUARD, 25, 16⟩
abbrev F.AIR_GUARD_MIN_100US : Fld := ⟨R.AIR_GUARD, 9, 0⟩
abbrev F.AIR_WIDE_LOAD_PCT : Fld := ⟨R.AIR_WIDE, 31, 24⟩
abbrev F.AIR_WIDE_MARGIN_DB : Fld := ⟨R.AIR_WIDE, 23, 16⟩
abbrev F.AIR_WIDE_GAP_TICKS : Fld := ⟨R.AIR_WIDE, 3, 0⟩
abbrev F.AIR_MOD_IDX_MODEM : Fld := ⟨R.AIR_MOD_IDX, 3, 0⟩
abbrev F.AIR_MOD_CFG_KIND : Fld := ⟨R.AIR_MOD_CFG, 31, 30⟩
abbrev F.AIR_MOD_CFG_BW : Fld := ⟨R.AIR_MOD_CFG, 29, 29⟩
abbrev F.AIR_MOD_CFG_INDEX : Fld := ⟨R.AIR_MOD_CFG, 28, 25⟩
abbrev F.AIR_MOD_CFG_TXPWR : Fld := ⟨R.AIR_MOD_CFG, 15, 0⟩
abbrev F.AIR_MOD_FREQ_FREQ_KHZ : Fld := ⟨R.AIR_MOD_FREQ, 31, 0⟩
abbrev F.AIR_MOD_WIDE_DL_US : Fld := ⟨R.AIR_MOD_WIDE, 30, 16⟩
abbrev F.AIR_MOD_WIDE_DL_MCS : Fld := ⟨R.AIR_MOD_WIDE, 2, 0⟩
abbrev F.AIR_MOD_DUTY_USED_PM : Fld := ⟨R.AIR_MOD_DUTY, 31, 16⟩
abbrev F.AIR_MOD_DUTY_DUTY_PM : Fld := ⟨R.AIR_MOD_DUTY, 9, 0⟩
abbrev F.AIR_MOD_STAT_UL_PCT : Fld := ⟨R.AIR_MOD_STAT, 31, 24⟩
abbrev F.AIR_MOD_STAT_DL_PCT : Fld := ⟨R.AIR_MOD_STAT, 23, 16⟩
abbrev F.AIR_MOD_STAT_MACHINES : Fld := ⟨R.AIR_MOD_STAT, 11, 0⟩
abbrev F.AIR_MACH_IDX_MI : Fld := ⟨R.AIR_MACH_IDX, 10, 0⟩
abbrev F.AIR_MACH_REG_VALID : Fld := ⟨R.AIR_MACH_REG, 31, 31⟩
abbrev F.AIR_MACH_REG_RELAY : Fld := ⟨R.AIR_MACH_REG, 30, 30⟩
abbrev F.AIR_MACH_REG_ADDR : Fld := ⟨R.AIR_MACH_REG, 15, 0⟩
abbrev F.AIR_MACH_SER_LO_SER_LO : Fld := ⟨R.AIR_MACH_SER_LO, 31, 0⟩
abbrev F.AIR_MACH_SER_HI_SER_HI : Fld := ⟨R.AIR_MACH_SER_HI, 31, 0⟩
abbrev F.AIR_MACH_PARENT_PARENT : Fld := ⟨R.AIR_MACH_PARENT, 31, 16⟩
abbrev F.AIR_MACH_PARENT_WAKE_SF : Fld := ⟨R.AIR_MACH_PARENT, 15, 8⟩
abbrev F.AIR_MACH_PARENT_WAKE_BI : Fld := ⟨R.AIR_MACH_PARENT, 4, 0⟩
abbrev F.AIR_MACH_CMD_OP : Fld := ⟨R.AIR_MACH_CMD, 31, 28⟩
abbrev F.AIR_MACH_CMD_GUARD_100US : Fld := ⟨R.AIR_MACH_CMD, 9, 0⟩
abbrev F.AIR_MACH_GRANT0_K : Fld := ⟨R.AIR_MACH_GRANT0, 31, 28⟩
abbrev F.AIR_MACH_GRANT0_OFS : Fld := ⟨R.AIR_MACH_GRANT0, 27, 24⟩
abbrev F.AIR_MACH_GRANT0_HALF : Fld := ⟨R.AIR_MACH_GRANT0, 23, 23⟩
abbrev F.AIR_MACH_GRANT0_MCS_UL : Fld := ⟨R.AIR_MACH_GRANT0, 22, 20⟩
abbrev F.AIR_MACH_GRANT0_WCH : Fld := ⟨R.AIR_MACH_GRANT0, 19, 17⟩
abbrev F.AIR_MACH_GRANT1_LEN : Fld := ⟨R.AIR_MACH_GRANT1, 20, 12⟩
abbrev F.AIR_MACH_GRANT1_START : Fld := ⟨R.AIR_MACH_GRANT1, 11, 0⟩
abbrev F.AIR_MACH_STAT0_STATE : Fld := ⟨R.AIR_MACH_STAT0, 31, 29⟩
abbrev F.AIR_MACH_STAT0_WCH : Fld := ⟨R.AIR_MACH_STAT0, 28, 26⟩
abbrev F.AIR_MACH_STAT0_MCS_UL : Fld := ⟨R.AIR_MACH_STAT0, 25, 23⟩
abbrev F.AIR_MACH_STAT0_K : Fld := ⟨R.AIR_MACH_STAT0, 22, 19⟩
abbrev F.AIR_MACH_STAT0_UL_SNR : Fld := ⟨R.AIR_MACH_STAT0, 15, 8⟩
abbrev F.AIR_MACH_STAT0_DL_SNR : Fld := ⟨R.AIR_MACH_STAT0, 7, 0⟩
abbrev F.AIR_MACH_STAT1_MISSED : Fld := ⟨R.AIR_MACH_STAT1, 31, 16⟩
abbrev F.AIR_MACH_STAT1_ONTIME : Fld := ⟨R.AIR_MACH_STAT1, 15, 10⟩
abbrev F.AIR_MACH_STAT1_GUARD_100US : Fld := ⟨R.AIR_MACH_STAT1, 9, 0⟩
abbrev F.AIR_MACH_GRANT2_RPT_SET : Fld := ⟨R.AIR_MACH_GRANT2, 31, 31⟩
abbrev F.AIR_MACH_GRANT2_BI : Fld := ⟨R.AIR_MACH_GRANT2, 30, 26⟩
abbrev F.AIR_MACH_GRANT2_HALF : Fld := ⟨R.AIR_MACH_GRANT2, 25, 25⟩
abbrev F.AIR_MACH_GRANT2_LEN : Fld := ⟨R.AIR_MACH_GRANT2, 24, 16⟩
abbrev F.AIR_MACH_GRANT2_START : Fld := ⟨R.AIR_MACH_GRANT2, 11, 0⟩
abbrev F.AIR_SND_IDX_SENDER : Fld := ⟨R.AIR_SND_IDX, 5, 0⟩
abbrev F.AIR_SND_CFG_EN : Fld := ⟨R.AIR_SND_CFG, 31, 31⟩
abbrev F.AIR_SND_CFG_ADDR : Fld := ⟨R.AIR_SND_CFG, 15, 0⟩
abbrev F.AIR_SND_CTR_SCTR : Fld := ⟨R.AIR_SND_CTR, 31, 0⟩
abbrev F.AIR_MON_MISS_RUN : Fld := ⟨R.AIR_MON, 31, 24⟩
abbrev F.AIR_MON_HEARD_SLOT : Fld := ⟨R.AIR_MON, 7, 4⟩
abbrev F.AIR_MON_HEARD : Fld := ⟨R.AIR_MON, 0, 0⟩
abbrev F.AIR_CNT_COUNT : Fld := ⟨R.AIR_CNT, 31, 0⟩
abbrev F.RHL_CTRL_LEVEL : Fld := ⟨R.RHL_CTRL, 1, 1⟩
abbrev F.RHL_CTRL_EN : Fld := ⟨R.RHL_CTRL, 0, 0⟩
abbrev F.RHL_PARSE_DETAIL : Fld := ⟨R.RHL_PARSE, 23, 16⟩
abbrev F.RHL_PARSE_BLOCK : Fld := ⟨R.RHL_PARSE, 15, 8⟩
abbrev F.RHL_PARSE_REASON : Fld := ⟨R.RHL_PARSE, 7, 0⟩
abbrev F.RHL_STATUS_STATE1 : Fld := ⟨R.RHL_STATUS, 6, 4⟩
abbrev F.RHL_STATUS_STATE0 : Fld := ⟨R.RHL_STATUS, 2, 0⟩
abbrev F.RHL_LINK_IDX_STREAM : Fld := ⟨R.RHL_LINK_IDX, 2, 1⟩
abbrev F.RHL_LINK_IDX_LINK : Fld := ⟨R.RHL_LINK_IDX, 0, 0⟩
abbrev F.RHL_LINK_CFG_LEAD_US : Fld := ⟨R.RHL_LINK_CFG, 15, 8⟩
abbrev F.RHL_LINK_CFG_BRING_EN : Fld := ⟨R.RHL_LINK_CFG, 0, 0⟩
abbrev F.RHL_LINK_STAT_GATE : Fld := ⟨R.RHL_LINK_STAT, 31, 28⟩
abbrev F.RHL_LINK_STAT_ALARM : Fld := ⟨R.RHL_LINK_STAT, 27, 23⟩
abbrev F.RHL_LINK_STAT_CAUSE : Fld := ⟨R.RHL_LINK_STAT, 5, 3⟩
abbrev F.RHL_LINK_STAT_STATE : Fld := ⟨R.RHL_LINK_STAT, 2, 0⟩
abbrev F.RHL_DELAY_DELAY_NS : Fld := ⟨R.RHL_DELAY, 15, 0⟩
abbrev F.RHL_HEAD_ID_ID : Fld := ⟨R.RHL_HEAD_ID, 31, 0⟩
abbrev F.RHL_CAPS_MAXREF : Fld := ⟨R.RHL_CAPS, 31, 16⟩
abbrev F.RHL_CAPS_BANDS : Fld := ⟨R.RHL_CAPS, 15, 8⟩
abbrev F.RHL_CAPS_STREAMS : Fld := ⟨R.RHL_CAPS, 2, 0⟩
abbrev F.RHL_TXEN_MASK1 : Fld := ⟨R.RHL_TXEN, 7, 4⟩
abbrev F.RHL_TXEN_MASK0 : Fld := ⟨R.RHL_TXEN, 3, 0⟩
abbrev F.RHL_CMD_OP : Fld := ⟨R.RHL_CMD, 31, 28⟩
abbrev F.RHL_CMD_LINK : Fld := ⟨R.RHL_CMD, 0, 0⟩
abbrev F.RHL_STR_CFG_RATE : Fld := ⟨R.RHL_STR_CFG, 31, 28⟩
abbrev F.RHL_STR_CFG_PORT : Fld := ⟨R.RHL_STR_CFG, 27, 26⟩
abbrev F.RHL_STR_CFG_MODEMS : Fld := ⟨R.RHL_STR_CFG, 11, 0⟩
abbrev F.RHL_STR_FREQ_CENTRE_KHZ : Fld := ⟨R.RHL_STR_FREQ, 31, 0⟩
abbrev F.RHL_STR_GAIN_RMS : Fld := ⟨R.RHL_STR_GAIN, 31, 24⟩
abbrev F.RHL_STR_GAIN_RXGAIN : Fld := ⟨R.RHL_STR_GAIN, 15, 0⟩
abbrev F.RHL_CNT_COUNT : Fld := ⟨R.RHL_CNT, 31, 0⟩
abbrev F.DSP_CTRL_LEVEL : Fld := ⟨R.DSP_CTRL, 1, 1⟩
abbrev F.DSP_CTRL_EN : Fld := ⟨R.DSP_CTRL, 0, 0⟩
abbrev F.DSP_PARSE_DETAIL : Fld := ⟨R.DSP_PARSE, 23, 16⟩
abbrev F.DSP_PARSE_BLOCK : Fld := ⟨R.DSP_PARSE, 15, 8⟩
abbrev F.DSP_PARSE_REASON : Fld := ⟨R.DSP_PARSE, 7, 0⟩
abbrev F.DSP_STATUS_HELD : Fld := ⟨R.DSP_STATUS, 16, 0⟩
abbrev F.DSP_STATUS2_READY : Fld := ⟨R.DSP_STATUS2, 31, 16⟩
abbrev F.DSP_STATUS2_SPILLING : Fld := ⟨R.DSP_STATUS2, 3, 3⟩
abbrev F.DSP_STATUS2_FULL : Fld := ⟨R.DSP_STATUS2, 2, 2⟩
abbrev F.DSP_STATUS2_DONE : Fld := ⟨R.DSP_STATUS2, 1, 1⟩
abbrev F.DSP_STATUS2_BUSY : Fld := ⟨R.DSP_STATUS2, 0, 0⟩
abbrev F.DSP_CFG_ACK_MS : Fld := ⟨R.DSP_CFG, 31, 16⟩
abbrev F.DSP_CFG_AFF_WAIT : Fld := ⟨R.DSP_CFG, 15, 8⟩
abbrev F.DSP_CFG_MAX_TRIES : Fld := ⟨R.DSP_CFG, 7, 2⟩
abbrev F.DSP_CFG_DEPTH : Fld := ⟨R.DSP_CFG, 1, 0⟩
abbrev F.DSP_HOLD_HOLD_US : Fld := ⟨R.DSP_HOLD, 15, 0⟩
abbrev F.DSP_TRACE_FLEET_EN : Fld := ⟨R.DSP_TRACE, 31, 31⟩
abbrev F.DSP_TRACE_CORE_EN : Fld := ⟨R.DSP_TRACE, 30, 30⟩
abbrev F.DSP_TRACE_RING : Fld := ⟨R.DSP_TRACE, 9, 0⟩
abbrev F.DSP_CMD_WORD : Fld := ⟨R.DSP_CMD, 31, 0⟩
abbrev F.DSP_GO_OP : Fld := ⟨R.DSP_GO, 3, 0⟩
abbrev F.DSP_RES0_STATE : Fld := ⟨R.DSP_RES0, 11, 8⟩
abbrev F.DSP_RES0_STATUS : Fld := ⟨R.DSP_RES0, 3, 0⟩
abbrev F.DSP_RES1_HANDLE : Fld := ⟨R.DSP_RES1, 31, 0⟩
abbrev F.DSP_MACH_IDX_MI : Fld := ⟨R.DSP_MACH_IDX, 10, 0⟩
abbrev F.DSP_MACH_CFG_EN : Fld := ⟨R.DSP_MACH_CFG, 31, 31⟩
abbrev F.DSP_MACH_CFG_CLASS : Fld := ⟨R.DSP_MACH_CFG, 27, 24⟩
abbrev F.DSP_MACH_CFG_INFLIGHT : Fld := ⟨R.DSP_MACH_CFG, 17, 16⟩
abbrev F.DSP_MACH_CFG_DONE : Fld := ⟨R.DSP_MACH_CFG, 15, 0⟩
abbrev F.DSP_CHG_OPEN : Fld := ⟨R.DSP_CHG, 31, 16⟩
abbrev F.DSP_CHG_FREE : Fld := ⟨R.DSP_CHG, 15, 0⟩
abbrev F.DSP_CNT_COUNT : Fld := ⟨R.DSP_CNT, 31, 0⟩
abbrev F.DSP_CORE_CFG_MIGRATE_TICKS : Fld := ⟨R.DSP_CORE_CFG, 7, 0⟩
abbrev F.DSP_CORE_STAT_SPILLED : Fld := ⟨R.DSP_CORE_STAT, 27, 16⟩
abbrev F.DSP_CORE_STAT_READY : Fld := ⟨R.DSP_CORE_STAT, 12, 0⟩
abbrev F.DSP_THR_IDX_THREAD : Fld := ⟨R.DSP_THR_IDX, 11, 0⟩
abbrev F.DSP_THR_CFG_STATE : Fld := ⟨R.DSP_THR_CFG, 31, 29⟩
abbrev F.DSP_THR_CFG_LAST : Fld := ⟨R.DSP_THR_CFG, 28, 26⟩
abbrev F.DSP_THR_CFG_PRIO : Fld := ⟨R.DSP_THR_CFG, 25, 21⟩
abbrev F.DSP_THR_CFG_SLICE : Fld := ⟨R.DSP_THR_CFG, 15, 8⟩
abbrev F.DSP_THR_CFG_MASK : Fld := ⟨R.DSP_THR_CFG, 7, 0⟩
abbrev F.DSP_THR_CMD_OP : Fld := ⟨R.DSP_THR_CMD, 31, 28⟩
abbrev F.DSP_THR_CMD_KIND : Fld := ⟨R.DSP_THR_CMD, 27, 26⟩
abbrev F.DSP_THR_CMD_ARG : Fld := ⟨R.DSP_THR_CMD, 25, 0⟩
abbrev F.LPE_CTRL_LEVEL : Fld := ⟨R.LPE_CTRL, 1, 1⟩
abbrev F.LPE_CTRL_EN : Fld := ⟨R.LPE_CTRL, 0, 0⟩
abbrev F.LPE_PARSE_DETAIL : Fld := ⟨R.LPE_PARSE, 23, 16⟩
abbrev F.LPE_PARSE_BLOCK : Fld := ⟨R.LPE_PARSE, 15, 8⟩
abbrev F.LPE_PARSE_REASON : Fld := ⟨R.LPE_PARSE, 7, 0⟩
abbrev F.LPE_STATUS_GAP_FREE : Fld := ⟨R.LPE_STATUS, 27, 16⟩
abbrev F.LPE_STATUS_QUEUE : Fld := ⟨R.LPE_STATUS, 12, 0⟩
abbrev F.LPE_LOAD_DECLARED : Fld := ⟨R.LPE_LOAD, 20, 0⟩
abbrev F.LPE_RATE_ACTUAL : Fld := ⟨R.LPE_RATE, 20, 0⟩
abbrev F.LPE_SLOT_IDX_SLOT : Fld := ⟨R.LPE_SLOT_IDX, 10, 0⟩
abbrev F.LPE_SLOT_CFG_KIND : Fld := ⟨R.LPE_SLOT_CFG, 31, 29⟩
abbrev F.LPE_SLOT_CFG_CLASS : Fld := ⟨R.LPE_SLOT_CFG, 28, 28⟩
abbrev F.LPE_SLOT_CFG_ORDER : Fld := ⟨R.LPE_SLOT_CFG, 27, 26⟩
abbrev F.LPE_SLOT_CFG_TRIG : Fld := ⟨R.LPE_SLOT_CFG, 25, 24⟩
abbrev F.LPE_SLOT_CFG_RATE : Fld := ⟨R.LPE_SLOT_CFG, 23, 0⟩
abbrev F.LPE_SLOT_IN_IN : Fld := ⟨R.LPE_SLOT_IN, 31, 0⟩
abbrev F.LPE_SLOT_AID_AID : Fld := ⟨R.LPE_SLOT_AID, 31, 0⟩
abbrev F.LPE_SLOT_SP_SP : Fld := ⟨R.LPE_SLOT_SP, 31, 0⟩
abbrev F.LPE_SLOT_OUT_OUT : Fld := ⟨R.LPE_SLOT_OUT, 31, 0⟩
abbrev F.LPE_SLOT_ACC_ACC1 : Fld := ⟨R.LPE_SLOT_ACC, 31, 0⟩
abbrev F.LPE_SLOT_STAT_SAT : Fld := ⟨R.LPE_SLOT_STAT, 31, 31⟩
abbrev F.LPE_SLOT_STAT_CLAMP : Fld := ⟨R.LPE_SLOT_STAT, 30, 30⟩
abbrev F.LPE_SLOT_STAT_FORCED : Fld := ⟨R.LPE_SLOT_STAT, 29, 29⟩
abbrev F.LPE_SLOT_STAT_ASSIGNED : Fld := ⟨R.LPE_SLOT_STAT, 28, 28⟩
abbrev F.LPE_SLOT_STAT_COUNT : Fld := ⟨R.LPE_SLOT_STAT, 27, 0⟩
abbrev F.LPE_SLOT_PAIR_LEADER : Fld := ⟨R.LPE_SLOT_PAIR, 26, 16⟩
abbrev F.LPE_SLOT_PAIR_FOLLOWER : Fld := ⟨R.LPE_SLOT_PAIR, 10, 0⟩
abbrev F.LPE_SLOT_CMD_OP : Fld := ⟨R.LPE_SLOT_CMD, 31, 28⟩
abbrev F.LPE_SLOT_CMD_PAIR : Fld := ⟨R.LPE_SLOT_CMD, 11, 0⟩
abbrev F.LPE_CNT_COUNT : Fld := ⟨R.LPE_CNT, 31, 0⟩
abbrev F.LPE_SAT_SAT : Fld := ⟨R.LPE_SAT, 31, 0⟩
abbrev F.AHN_CTRL_LEVEL : Fld := ⟨R.AHN_CTRL, 1, 1⟩
abbrev F.AHN_CTRL_EN : Fld := ⟨R.AHN_CTRL, 0, 0⟩
abbrev F.AHN_PARSE_DETAIL : Fld := ⟨R.AHN_PARSE, 23, 16⟩
abbrev F.AHN_PARSE_BLOCK : Fld := ⟨R.AHN_PARSE, 15, 8⟩
abbrev F.AHN_PARSE_REASON : Fld := ⟨R.AHN_PARSE, 7, 0⟩
abbrev F.AHN_STATUS_SYNC_PCT : Fld := ⟨R.AHN_STATUS, 31, 24⟩
abbrev F.AHN_STATUS_PSLOT : Fld := ⟨R.AHN_STATUS, 23, 20⟩
abbrev F.AHN_STATUS_PROLE : Fld := ⟨R.AHN_STATUS, 19, 17⟩
abbrev F.AHN_STATUS_MISMATCH : Fld := ⟨R.AHN_STATUS, 16, 16⟩
abbrev F.AHN_STATUS_FAIL_OUT : Fld := ⟨R.AHN_STATUS, 8, 8⟩
abbrev F.AHN_STATUS_ROLE_IN : Fld := ⟨R.AHN_STATUS, 7, 7⟩
abbrev F.AHN_STATUS_ROLE_OUT : Fld := ⟨R.AHN_STATUS, 6, 6⟩
abbrev F.AHN_STATUS_HB_OK : Fld := ⟨R.AHN_STATUS, 5, 5⟩
abbrev F.AHN_STATUS_LINK_UP : Fld := ⟨R.AHN_STATUS, 4, 4⟩
abbrev F.AHN_STATUS_ROLE : Fld := ⟨R.AHN_STATUS, 2, 0⟩
abbrev F.AHN_CFG_SWAP_HOLD_S : Fld := ⟨R.AHN_CFG, 31, 24⟩
abbrev F.AHN_CFG_HB_LOSS_MS : Fld := ⟨R.AHN_CFG, 23, 16⟩
abbrev F.AHN_CFG_COOP_EN : Fld := ⟨R.AHN_CFG, 4, 4⟩
abbrev F.AHN_CFG_SLOT_ID : Fld := ⟨R.AHN_CFG, 3, 0⟩
abbrev F.AHN_CMD_OP : Fld := ⟨R.AHN_CMD, 31, 28⟩
abbrev F.AHN_CMD_NOTEST : Fld := ⟨R.AHN_CMD, 0, 0⟩
abbrev F.AHN_SWAP_COUNT : Fld := ⟨R.AHN_SWAP, 31, 24⟩
abbrev F.AHN_SWAP_LAST_CAUSE : Fld := ⟨R.AHN_SWAP, 23, 20⟩
abbrev F.AHN_SWAP_MISSED : Fld := ⟨R.AHN_SWAP, 19, 16⟩
abbrev F.AHN_SWAP_RESULT : Fld := ⟨R.AHN_SWAP, 15, 12⟩
abbrev F.AHN_SWAP_TEST : Fld := ⟨R.AHN_SWAP, 11, 8⟩
abbrev F.AHN_MIRROR_LAG_MS : Fld := ⟨R.AHN_MIRROR, 31, 16⟩
abbrev F.AHN_MIRROR_MBPS : Fld := ⟨R.AHN_MIRROR, 15, 0⟩
abbrev F.AHN_MSEQ_TX_MSEQ : Fld := ⟨R.AHN_MSEQ_TX, 31, 0⟩
abbrev F.AHN_MSEQ_ACK_MSEQ : Fld := ⟨R.AHN_MSEQ_ACK, 31, 0⟩
abbrev F.AHN_PARTNER_PTAG : Fld := ⟨R.AHN_PARTNER, 31, 16⟩
abbrev F.AHN_PARTNER_PCTRL_UP : Fld := ⟨R.AHN_PARTNER, 15, 8⟩
abbrev F.AHN_PARTNER_PHEALTH : Fld := ⟨R.AHN_PARTNER, 7, 0⟩
abbrev F.AHN_SW_EN : Fld := ⟨R.AHN_SW, 31, 31⟩
abbrev F.AHN_SW_RX_RING : Fld := ⟨R.AHN_SW, 19, 10⟩
abbrev F.AHN_SW_TX_RING : Fld := ⟨R.AHN_SW, 9, 0⟩
abbrev F.AHN_CNT_COUNT : Fld := ⟨R.AHN_CNT, 31, 0⟩
abbrev F.DMU_CTRL_LEVEL : Fld := ⟨R.DMU_CTRL, 1, 1⟩
abbrev F.DMU_CTRL_EN : Fld := ⟨R.DMU_CTRL, 0, 0⟩
abbrev F.DMU_PARSE_DETAIL : Fld := ⟨R.DMU_PARSE, 23, 16⟩
abbrev F.DMU_PARSE_BLOCK : Fld := ⟨R.DMU_PARSE, 15, 8⟩
abbrev F.DMU_PARSE_REASON : Fld := ⟨R.DMU_PARSE, 7, 0⟩
abbrev F.DMU_STATUS_GROUPS : Fld := ⟨R.DMU_STATUS, 15, 8⟩
abbrev F.DMU_STATUS_LAST_FINAL : Fld := ⟨R.DMU_STATUS, 2, 2⟩
abbrev F.DMU_STATUS_SAVING : Fld := ⟨R.DMU_STATUS, 1, 1⟩
abbrev F.DMU_STATUS_CLOCKING : Fld := ⟨R.DMU_STATUS, 0, 0⟩
abbrev F.DMU_IN_FAULT_FAULT : Fld := ⟨R.DMU_IN_FAULT, 23, 0⟩
abbrev F.DMU_IN_IDX_INPUT : Fld := ⟨R.DMU_IN_IDX, 4, 0⟩
abbrev F.DMU_IN_RMS_RMS : Fld := ⟨R.DMU_IN_RMS, 31, 0⟩
abbrev F.DMU_GRP_IDX_QTY : Fld := ⟨R.DMU_GRP_IDX, 5, 4⟩
abbrev F.DMU_GRP_IDX_GROUP : Fld := ⟨R.DMU_GRP_IDX, 3, 0⟩
abbrev F.DMU_GRP_P_P_W : Fld := ⟨R.DMU_GRP_P, 31, 0⟩
abbrev F.DMU_GRP_STAT_BAY_FREE : Fld := ⟨R.DMU_GRP_STAT, 31, 31⟩
abbrev F.DMU_GRP_STAT_SESSION : Fld := ⟨R.DMU_GRP_STAT, 30, 30⟩
abbrev F.DMU_GRP_STAT_AC_LOCK : Fld := ⟨R.DMU_GRP_STAT, 29, 29⟩
abbrev F.DMU_GRP_STAT_FREQ : Fld := ⟨R.DMU_GRP_STAT, 15, 0⟩
abbrev F.DMU_ACC_LO_MJ_LO : Fld := ⟨R.DMU_ACC_LO, 31, 0⟩
abbrev F.DMU_ACC_HI_MJ_HI : Fld := ⟨R.DMU_ACC_HI, 31, 0⟩
abbrev F.DMU_PO_IDX_OUTPUT : Fld := ⟨R.DMU_PO_IDX, 2, 0⟩
abbrev F.DMU_PO_CFG_EN : Fld := ⟨R.DMU_PO_CFG, 31, 31⟩
abbrev F.DMU_PO_CFG_QTY : Fld := ⟨R.DMU_PO_CFG, 30, 29⟩
abbrev F.DMU_PO_CFG_GROUP : Fld := ⟨R.DMU_PO_CFG, 28, 25⟩
abbrev F.DMU_PO_CFG_WIDTH_MS : Fld := ⟨R.DMU_PO_CFG, 15, 8⟩
abbrev F.DMU_PO_WEIGHT_WEIGHT_J : Fld := ⟨R.DMU_PO_WEIGHT, 31, 0⟩
abbrev F.DMU_PO_STAT_PENDING : Fld := ⟨R.DMU_PO_STAT, 31, 16⟩
abbrev F.DMU_PO_STAT_PULSES : Fld := ⟨R.DMU_PO_STAT, 15, 0⟩
abbrev F.DMU_BAY_IDLE_MA : Fld := ⟨R.DMU_BAY, 31, 16⟩
abbrev F.DMU_BAY_END_S : Fld := ⟨R.DMU_BAY, 15, 8⟩
abbrev F.DMU_BAY_FREE_S : Fld := ⟨R.DMU_BAY, 7, 0⟩
abbrev F.DMU_BAY_CMD_OP : Fld := ⟨R.DMU_BAY_CMD, 31, 28⟩
abbrev F.DMU_BAY_CMD_BAY : Fld := ⟨R.DMU_BAY_CMD, 3, 0⟩
abbrev F.DMU_OUT_EN : Fld := ⟨R.DMU_OUT, 31, 31⟩
abbrev F.DMU_OUT_RING : Fld := ⟨R.DMU_OUT, 9, 0⟩
abbrev F.DMU_SAVE_SEQ : Fld := ⟨R.DMU_SAVE, 31, 0⟩
abbrev F.DMU_CNT_COUNT : Fld := ⟨R.DMU_CNT, 31, 0⟩
abbrev F.KEY_CTRL_LEVEL : Fld := ⟨R.KEY_CTRL, 1, 1⟩
abbrev F.KEY_CTRL_EN : Fld := ⟨R.KEY_CTRL, 0, 0⟩
abbrev F.KEY_PARSE_DETAIL : Fld := ⟨R.KEY_PARSE, 23, 16⟩
abbrev F.KEY_PARSE_BLOCK : Fld := ⟨R.KEY_PARSE, 15, 8⟩
abbrev F.KEY_PARSE_REASON : Fld := ⟨R.KEY_PARSE, 7, 0⟩
abbrev F.KEY_STATUS_LC : Fld := ⟨R.KEY_STATUS, 31, 30⟩
abbrev F.KEY_STATUS_ROOT : Fld := ⟨R.KEY_STATUS, 29, 29⟩
abbrev F.KEY_STATUS_TRNG_FAIL : Fld := ⟨R.KEY_STATUS, 28, 28⟩
abbrev F.KEY_STATUS_PAIR : Fld := ⟨R.KEY_STATUS, 27, 27⟩
abbrev F.KEY_STATUS_BUSY : Fld := ⟨R.KEY_STATUS, 26, 26⟩
abbrev F.KEY_STATUS_RESULT : Fld := ⟨R.KEY_STATUS, 25, 24⟩
abbrev F.KEY_STATUS_IMG_SLOTS : Fld := ⟨R.KEY_STATUS, 23, 16⟩
abbrev F.KEY_STATUS_BGEN : Fld := ⟨R.KEY_STATUS, 15, 0⟩
abbrev F.KEY_CMD_OP : Fld := ⟨R.KEY_CMD, 31, 28⟩
abbrev F.KEY_ARG_LO_ARG : Fld := ⟨R.KEY_ARG_LO, 31, 0⟩
abbrev F.KEY_ARG_HI_ARG : Fld := ⟨R.KEY_ARG_HI, 31, 0⟩
abbrev F.KEY_SRC_OFFSET : Fld := ⟨R.KEY_SRC, 27, 3⟩
abbrev F.KEY_DST_OFFSET : Fld := ⟨R.KEY_DST, 27, 3⟩
abbrev F.KEY_LC_TARGET : Fld := ⟨R.KEY_LC, 17, 16⟩
abbrev F.KEY_LC_KEY : Fld := ⟨R.KEY_LC, 15, 0⟩
abbrev F.KEY_PEER_DIGEST : Fld := ⟨R.KEY_PEER, 31, 0⟩
abbrev F.UPD_CTRL_LEVEL : Fld := ⟨R.UPD_CTRL, 1, 1⟩
abbrev F.UPD_CTRL_EN : Fld := ⟨R.UPD_CTRL, 0, 0⟩
abbrev F.UPD_PARSE_DETAIL : Fld := ⟨R.UPD_PARSE, 23, 16⟩
abbrev F.UPD_PARSE_BLOCK : Fld := ⟨R.UPD_PARSE, 15, 8⟩
abbrev F.UPD_PARSE_REASON : Fld := ⟨R.UPD_PARSE, 7, 0⟩
abbrev F.UPD_STATUS_STATE : Fld := ⟨R.UPD_STATUS, 31, 28⟩
abbrev F.UPD_STATUS_RESULT : Fld := ⟨R.UPD_STATUS, 27, 26⟩
abbrev F.UPD_STATUS_BUSY : Fld := ⟨R.UPD_STATUS, 25, 25⟩
abbrev F.UPD_STATUS_RECEIVED : Fld := ⟨R.UPD_STATUS, 10, 0⟩
abbrev F.UPD_CMD_OP : Fld := ⟨R.UPD_CMD, 31, 28⟩
abbrev F.UPD_SRC_OFFSET : Fld := ⟨R.UPD_SRC, 27, 3⟩
abbrev F.UPD_OFF_UNIT : Fld := ⟨R.UPD_OFF, 10, 0⟩
abbrev F.UPD_LEN_LEN : Fld := ⟨R.UPD_LEN, 16, 0⟩
abbrev F.UPD_CRC_CRC : Fld := ⟨R.UPD_CRC, 31, 0⟩
abbrev F.UPD_TOTAL_IMG_LEN : Fld := ⟨R.UPD_TOTAL, 31, 0⟩
abbrev F.UPD_VER_RUN_VERSION : Fld := ⟨R.UPD_VER_RUN, 31, 0⟩
abbrev F.UPD_VER_PREV_VERSION : Fld := ⟨R.UPD_VER_PREV, 31, 0⟩
abbrev F.UPD_VER_STAGED_VERSION : Fld := ⟨R.UPD_VER_STAGED, 31, 0⟩
abbrev F.UPD_ROLLBACK_IMG : Fld := ⟨R.UPD_ROLLBACK, 31, 16⟩
abbrev F.UPD_ROLLBACK_COUNTER : Fld := ⟨R.UPD_ROLLBACK, 15, 0⟩
abbrev F.UPD_TRIAL_TRIAL_S : Fld := ⟨R.UPD_TRIAL, 31, 16⟩
abbrev F.UPD_TRIAL_ELAPSED_10S : Fld := ⟨R.UPD_TRIAL, 15, 8⟩
abbrev F.UPD_TRIAL_RESETS : Fld := ⟨R.UPD_TRIAL, 7, 4⟩
abbrev F.LOG_CTRL_LEVEL : Fld := ⟨R.LOG_CTRL, 1, 1⟩
abbrev F.LOG_CTRL_EN : Fld := ⟨R.LOG_CTRL, 0, 0⟩
abbrev F.LOG_PARSE_DETAIL : Fld := ⟨R.LOG_PARSE, 23, 16⟩
abbrev F.LOG_PARSE_BLOCK : Fld := ⟨R.LOG_PARSE, 15, 8⟩
abbrev F.LOG_PARSE_REASON : Fld := ⟨R.LOG_PARSE, 7, 0⟩
abbrev F.LOG_STATUS_BUF_FILL : Fld := ⟨R.LOG_STATUS, 31, 16⟩
abbrev F.LOG_STATUS_UNCLEAN : Fld := ⟨R.LOG_STATUS, 5, 5⟩
abbrev F.LOG_STATUS_PERM_FULL : Fld := ⟨R.LOG_STATUS, 4, 4⟩
abbrev F.LOG_STATUS_RESULT : Fld := ⟨R.LOG_STATUS, 3, 2⟩
abbrev F.LOG_STATUS_DONE : Fld := ⟨R.LOG_STATUS, 1, 1⟩
abbrev F.LOG_STATUS_BUSY : Fld := ⟨R.LOG_STATUS, 0, 0⟩
abbrev F.LOG_NEXT_LSEQ : Fld := ⟨R.LOG_NEXT, 31, 0⟩
abbrev F.LOG_OLDEST_LSEQ : Fld := ⟨R.LOG_OLDEST, 31, 0⟩
abbrev F.LOG_PERM_FIRST_LSEQ : Fld := ⟨R.LOG_PERM_FIRST, 31, 0⟩
abbrev F.LOG_PERM_LAST_LSEQ : Fld := ⟨R.LOG_PERM_LAST, 31, 0⟩
abbrev F.LOG_CFG_REPEAT_S : Fld := ⟨R.LOG_CFG, 23, 16⟩
abbrev F.LOG_CFG_OUT_EN : Fld := ⟨R.LOG_CFG, 10, 10⟩
abbrev F.LOG_CFG_RING : Fld := ⟨R.LOG_CFG, 9, 0⟩
abbrev F.LOG_RD_SEQ_SEQ : Fld := ⟨R.LOG_RD_SEQ, 31, 0⟩
abbrev F.LOG_RD_MAX_BYTES : Fld := ⟨R.LOG_RD_MAX, 26, 0⟩
abbrev F.LOG_DST_OFFSET : Fld := ⟨R.LOG_DST, 27, 3⟩
abbrev F.LOG_CMD_OP : Fld := ⟨R.LOG_CMD, 31, 28⟩
abbrev F.LOG_RD_COUNT_BYTES : Fld := ⟨R.LOG_RD_COUNT, 26, 0⟩
abbrev F.LOG_RD_LAST_LSEQ : Fld := ⟨R.LOG_RD_LAST, 31, 0⟩
abbrev F.LOG_RD_RECS_RECORDS : Fld := ⟨R.LOG_RD_RECS, 20, 0⟩
abbrev F.LOG_CNT_COUNT : Fld := ⟨R.LOG_CNT, 31, 0⟩
abbrev F.ETH_CTRL_LEVEL : Fld := ⟨R.ETH_CTRL, 1, 1⟩
abbrev F.ETH_CTRL_EN : Fld := ⟨R.ETH_CTRL, 0, 0⟩
abbrev F.ETH_PARSE_DETAIL : Fld := ⟨R.ETH_PARSE, 23, 16⟩
abbrev F.ETH_PARSE_BLOCK : Fld := ⟨R.ETH_PARSE, 15, 8⟩
abbrev F.ETH_PARSE_REASON : Fld := ⟨R.ETH_PARSE, 7, 0⟩
abbrev F.ETH_PORT_IDX_PORT : Fld := ⟨R.ETH_PORT_IDX, 0, 0⟩
abbrev F.ETH_PORT_CFG_TX_EN : Fld := ⟨R.ETH_PORT_CFG, 31, 31⟩
abbrev F.ETH_PORT_CFG_DEF_EN : Fld := ⟨R.ETH_PORT_CFG, 30, 30⟩
abbrev F.ETH_PORT_CFG_TXR_EN : Fld := ⟨R.ETH_PORT_CFG, 29, 29⟩
abbrev F.ETH_PORT_CFG_DEF_RING : Fld := ⟨R.ETH_PORT_CFG, 28, 19⟩
abbrev F.ETH_PORT_CFG_TX_RING : Fld := ⟨R.ETH_PORT_CFG, 18, 9⟩
abbrev F.ETH_PORT_STAT_LINK : Fld := ⟨R.ETH_PORT_STAT, 31, 31⟩
abbrev F.ETH_PORT_STAT_SFP_PRESENT : Fld := ⟨R.ETH_PORT_STAT, 30, 30⟩
abbrev F.ETH_PORT_STAT_LOS : Fld := ⟨R.ETH_PORT_STAT, 29, 29⟩
abbrev F.ETH_PORT_STAT_TX_FAULT : Fld := ⟨R.ETH_PORT_STAT, 28, 28⟩
abbrev F.ETH_MAC_LO_MAC_LO : Fld := ⟨R.ETH_MAC_LO, 31, 0⟩
abbrev F.ETH_MAC_HI_MAC_HI : Fld := ⟨R.ETH_MAC_HI, 15, 0⟩
abbrev F.ETH_IP_IPV4 : Fld := ⟨R.ETH_IP, 31, 0⟩
abbrev F.ETH_RULE_IDX_RULE : Fld := ⟨R.ETH_RULE_IDX, 4, 0⟩
abbrev F.ETH_RULE_MATCH_ETYPE : Fld := ⟨R.ETH_RULE_MATCH, 31, 16⟩
abbrev F.ETH_RULE_MATCH_UDP_PORT : Fld := ⟨R.ETH_RULE_MATCH, 15, 0⟩
abbrev F.ETH_RULE_ACT_EN : Fld := ⟨R.ETH_RULE_ACT, 31, 31⟩
abbrev F.ETH_RULE_ACT_PORTS : Fld := ⟨R.ETH_RULE_ACT, 30, 29⟩
abbrev F.ETH_RULE_ACT_UDP : Fld := ⟨R.ETH_RULE_ACT, 28, 28⟩
abbrev F.ETH_RULE_ACT_STRIP : Fld := ⟨R.ETH_RULE_ACT, 27, 27⟩
abbrev F.ETH_RULE_ACT_RING : Fld := ⟨R.ETH_RULE_ACT, 9, 0⟩
abbrev F.ETH_FWD_IDX_FWD : Fld := ⟨R.ETH_FWD_IDX, 2, 0⟩
abbrev F.ETH_FWD_CFG_EN : Fld := ⟨R.ETH_FWD_CFG, 31, 31⟩
abbrev F.ETH_FWD_CFG_PORT : Fld := ⟨R.ETH_FWD_CFG, 30, 30⟩
abbrev F.ETH_FWD_CFG_RING : Fld := ⟨R.ETH_FWD_CFG, 9, 0⟩
abbrev F.ETH_FWD_TPL_OFFSET : Fld := ⟨R.ETH_FWD_TPL, 27, 6⟩
abbrev F.ETH_CNT_COUNT : Fld := ⟨R.ETH_CNT, 31, 0⟩
abbrev F.HST_CTRL_LEVEL : Fld := ⟨R.HST_CTRL, 1, 1⟩
abbrev F.HST_CTRL_EN : Fld := ⟨R.HST_CTRL, 0, 0⟩
abbrev F.HST_PARSE_DETAIL : Fld := ⟨R.HST_PARSE, 23, 16⟩
abbrev F.HST_PARSE_BLOCK : Fld := ⟨R.HST_PARSE, 15, 8⟩
abbrev F.HST_PARSE_REASON : Fld := ⟨R.HST_PARSE, 7, 0⟩
abbrev F.HST_STATUS_MSIX_EN : Fld := ⟨R.HST_STATUS, 7, 7⟩
abbrev F.HST_STATUS_BME : Fld := ⟨R.HST_STATUS, 6, 6⟩
abbrev F.HST_STATUS_WIDTH : Fld := ⟨R.HST_STATUS, 5, 3⟩
abbrev F.HST_STATUS_SPEED : Fld := ⟨R.HST_STATUS, 2, 1⟩
abbrev F.HST_STATUS_LINK_UP : Fld := ⟨R.HST_STATUS, 0, 0⟩
abbrev F.HST_RING_IDX_RING : Fld := ⟨R.HST_RING_IDX, 9, 0⟩
abbrev F.HST_RING_BASE_BASE : Fld := ⟨R.HST_RING_BASE, 27, 12⟩
abbrev F.HST_RING_CFG_EN : Fld := ⟨R.HST_RING_CFG, 31, 31⟩
abbrev F.HST_RING_CFG_DIR : Fld := ⟨R.HST_RING_CFG, 30, 29⟩
abbrev F.HST_RING_CFG_MODE : Fld := ⟨R.HST_RING_CFG, 28, 28⟩
abbrev F.HST_RING_CFG_LOG2_COUNT : Fld := ⟨R.HST_RING_CFG, 27, 24⟩
abbrev F.HST_RING_CFG_SLOT_LOG2 : Fld := ⟨R.HST_RING_CFG, 23, 20⟩
abbrev F.HST_RING_CFG_VEC : Fld := ⟨R.HST_RING_CFG, 5, 0⟩
abbrev F.HST_RING_DROP_SIZE_DROP : Fld := ⟨R.HST_RING_DROP, 31, 16⟩
abbrev F.HST_RING_DROP_DROP : Fld := ⟨R.HST_RING_DROP, 15, 0⟩
abbrev F.HST_CNT_COUNT : Fld := ⟨R.HST_CNT, 31, 0⟩
abbrev F.HST_MSIX_WORD : Fld := ⟨R.HST_MSIX, 31, 0⟩
abbrev F.HST_PBA_BITS : Fld := ⟨R.HST_PBA, 31, 0⟩
abbrev F.HST_DB_ARM : Fld := ⟨R.HST_DB, 31, 31⟩
abbrev F.HST_DB_INDEX : Fld := ⟨R.HST_DB, 23, 0⟩

/-! ## Reset words -/

/-- The reset words that are not 0 (R5): first address, count, word. Fields loaded from the option store, the
backup domain, the fuses, NAND or the image are 0 here and set by the step that loads them. -/
def Regs.resetWords : List (Nat × Nat × Nat) := [
  (R.GLB_CTRL, 1, 0x00000001),
  (R.GLB_ID, 1, 0x71600000),
  (R.SIM_CTRL, 1, 0x00000001),
  (R.PWR_CTRL, 1, 0x00000001),
  (R.PWR_BUDGET, 1, 0x07D0A410),
  (R.PWR_TEST, 1, 0x8000003C),
  (R.RST_CTRL, 1, 0x00000001),
  (R.HPG_CTRL, 1, 0x00000001),
  (R.HPG_STATUS, 1, 0x00000010),
  (R.HPG_CFG, 1, 0x00000050),
  (R.EVT_CTRL, 1, 0x00000001),
  (R.EVT_ROUTE, 1, 0x40000000),
  (R.CLS_LIMITS, 1, 0x00005A40),
  (R.CLS_HORIZON, 1, 0x05265C00),
  (R.CLS_RETAIN, 1, 0x000003E8),
  (R.CLS_NOTICE, 1, 0x00001388),
  (R.CLS_SWEEP, 1, 0x00000064),
  (R.CLS_INFL, 1, 0x00640000),
  (R.AUT_LIFE, 1, 0x002000FA),
  (R.AUT_REC, 1, 0x01F403E8),
  (R.AUT_QCEIL01, 1, 0x07D02710),
  (R.AUT_QCEIL2, 1, 0x000001F4),
  (R.AUT_CELL, 1, 0x05DC07D0),
  (R.AUT_AGE, 1, 0x07D007D0),
  (R.AUT_FSTOP, 1, 0x00000100),
  (R.AUT_COMMA, 1, 0x0BB80002),
  (R.AUT_WARDEN, 1, 0x00050000),
  (R.SLV_REFAGE, 1, 0x0000FFFF),
  (R.SLV_LANES, 1, 0x02580004),
  (R.SLV_QBOUND0, 1, 0x00C80032),
  (R.SLV_QBOUND1, 1, 0x000A03E8),
  (R.SLV_FIX, 1, 0x1E03080F),
  (R.SLV_SEARCH, 1, 0x0FA0000F),
  (R.SLV_PRED, 1, 0x001403E8),
  (R.SLV_MODEL, 1, 0x0A000502),
  (R.GRX_ANT, 1, 0x00000101),
  (R.GRX_CFG, 1, 0x3C050A00),
  (R.GRX_TRK, 1, 0x00140414),
  (R.GRX_JAM, 1, 0x0C000000),
  (R.GRX_SPOOF, 1, 0x001E003F),
  (R.GRX_SURVEY, 1, 0x000000F0),
  (R.GRX_BASE, 1, 0xFFFF0014),
  (R.GRX_RTCM, 1, 0x00001000),
  (R.GRX_RTCM_MSM, 1, 0x000000AA),
  (R.TIM_QUAL, 1, 0x00FEF800),
  (R.TIM_ERR, 1, 0xFFFFFFFF),
  (R.TIM_FREQ, 1, 0x00080000),
  (R.TIM_DISC, 1, 0x00640064),
  (R.TIM_OUT, 1, 0xC0000064),
  (R.PTP_CLOCK, 1, 0x80800000),
  (R.PTP_PORT_CFG, 1, 0x00010030),
  (R.AIR_LBT, 1, 0x146300A6),
  (R.AIR_FLOOD, 1, 0x00001923),
  (R.AIR_GUARD, 1, 0x03E8000A),
  (R.AIR_WIDE, 1, 0x55030002),
  (R.AIR_MOD_WIDE, 1, 0x13880000),
  (R.AIR_MACH_PARENT, 1, 0xFFFF3C00),
  (R.RHL_LINK_CFG, 1, 0x00003201),
  (R.RHL_TXEN, 1, 0x000000FF),
  (R.DSP_CFG, 1, 0x07D06403),
  (R.DSP_HOLD, 1, 0x00000064),
  (R.DSP_CORE_CFG, 1, 0x00000002),
  (R.AHN_CFG, 1, 0x3C080010),
  (R.DMU_PO_CFG, 1, 0x00006400),
  (R.DMU_PO_WEIGHT, 1, 0x00000E10),
  (R.DMU_BAY, 1, 0x01F41E0A),
  (R.KEY_CTRL, 1, 0x00000001),
  (R.UPD_TRIAL, 1, 0x02580000),
  (R.LOG_CTRL, 1, 0x00000001),
  (R.LOG_CFG, 1, 0x003C0000),
  (R.LOG_RD_MAX, 1, 0x00010000),
  (R.ETH_CTRL, 1, 0x00000001),
  (R.HST_CTRL, 1, 0x00000001)]

/-- The reset word of the register at offset `a`. -/
def Regs.resetWord (a : Nat) : Word :=
  match Regs.resetWords.find? (fun t => t.1 ≤ a && a < t.1 + 4 * t.2.1) with
  | some t => BitVec.ofNat 32 t.2.2
  | none => if R.HST_MSIX ≤ a && a < R.HST_MSIX + 1024 && a % 16 == 12 then 1#32 else 0#32

/-! ## Register descriptions -/

/-- The registers of GLB. -/
def Regs.tableGLB : List RegDesc := [
  ⟨R.GLB_CTRL, 1, none, [], 0x3⟩,
  ⟨R.GLB_PARSE, 1, none, [], 0xFFFFFF⟩,
  ⟨R.GLB_ID, 1, none, [], 0xFFFFFF00⟩,
  ⟨R.GLB_FW, 1, none, [], 0xFFFFFFFF⟩,
  ⟨R.GLB_SERIAL_LO, 1, none, [], 0xFFFFFFFF⟩,
  ⟨R.GLB_SERIAL_HI, 1, none, [], 0xFFFFFFFF⟩,
  ⟨R.GLB_SCRATCH, 1, none, [⟨F.GLB_SCRATCH_VALUE, .rw, .any⟩], 0xFFFFFFFF⟩]

/-- The registers of SIM. -/
def Regs.tableSIM : List RegDesc := [
  ⟨R.SIM_CTRL, 1, none, [], 0x3⟩,
  ⟨R.SIM_PARSE, 1, none, [], 0xFFFFFF⟩,
  ⟨R.SIM_STATUS, 1, none, [⟨F.SIM_STATUS_DONE, .w1c, .any⟩], 0xFFF⟩,
  ⟨R.SIM_CMD, 1, none, [⟨F.SIM_CMD_SLOT, .wo, .any⟩, ⟨F.SIM_CMD_OP, .wo, .any⟩], 0x0⟩,
  ⟨R.SIM_SRC, 1, none, [⟨F.SIM_SRC_OFFSET, .rw, .any⟩], 0xFFFFFF8⟩,
  ⟨R.SIM_LEN, 1, none, [⟨F.SIM_LEN_LEN, .rw, .any⟩], 0x7FFFFFF⟩,
  ⟨R.SIM_APPLIED, 1, none, [], 0xFFFFFFFF⟩,
  ⟨R.SIM_STAGED, 1, none, [], 0xFFFFFFFF⟩,
  ⟨R.SIM_TAG, 1, none, [], 0xFFFF00FF⟩,
  ⟨R.SIM_LASTREF, 1, none, [], 0x80FFFFFF⟩,
  ⟨R.SIM_REFCNT, 1, none, [⟨F.SIM_REFCNT_COUNT, .rc, .any⟩], 0xFFFFFFFF⟩,
  ⟨R.SIM_DIGEST, 12, none, [], 0xFFFFFFFF⟩]

/-- The registers of PWR. -/
def Regs.tablePWR : List RegDesc := [
  ⟨R.PWR_CTRL, 1, none, [], 0x3⟩,
  ⟨R.PWR_PARSE, 1, none, [], 0xFFFFFF⟩,
  ⟨R.PWR_STATUS, 1, none, [], 0xFF00000F⟩,
  ⟨R.PWR_BUDGET, 1, none, [⟨F.PWR_BUDGET_HEADROOM_MW, .rw, .within 0 10000⟩, ⟨F.PWR_BUDGET_BUDGET_MW, .rw, .within 18000 46000⟩], 0xFFFFFFFF⟩,
  ⟨R.PWR_COMMIT, 1, none, [], 0xFFFFFFFF⟩,
  ⟨R.PWR_MEAS, 1, none, [], 0xFFFFFFFF⟩,
  ⟨R.PWR_HOST_LEAVE, 1, none, [⟨F.PWR_HOST_LEAVE_CLASS, .rw, .within 1 2⟩, ⟨F.PWR_HOST_LEAVE_MW, .rw, .any⟩], 0xF800FFFF⟩,
  ⟨R.PWR_TEST, 1, none, [⟨F.PWR_TEST_AUTO, .rw, .any⟩, ⟨F.PWR_TEST_FORCE, .rw, .any⟩, ⟨F.PWR_TEST_OP, .wo, .any⟩, ⟨F.PWR_TEST_PERIOD_S, .rw, .within 10 65535⟩], 0xC000FFFF⟩,
  ⟨R.PWR_TEST_STAT, 1, none, [], 0xFFF001FF⟩,
  ⟨R.PWR_CNT, 4, none, [⟨F.PWR_CNT_COUNT, .rc, .any⟩], 0xFFFFFFFF⟩]

/-- The registers of RST. -/
def Regs.tableRST : List RegDesc := [
  ⟨R.RST_CTRL, 1, none, [], 0x3⟩,
  ⟨R.RST_PARSE, 1, none, [], 0xFFFFFF⟩,
  ⟨R.RST_STATUS, 1, none, [], 0xFFF00000⟩,
  ⟨R.RST_CMD, 1, none, [⟨F.RST_CMD_KEY, .wo, .any⟩], 0x0⟩,
  ⟨R.RST_RESETS, 1, none, [], 0xFFFFFFFF⟩,
  ⟨R.RST_PCYCLES, 1, none, [], 0xFFFFFF⟩,
  ⟨R.RST_HOURS, 1, none, [], 0xFFFFFFFF⟩,
  ⟨R.RST_RTC_LO, 1, none, [], 0xFFFFFFFF⟩,
  ⟨R.RST_RTC_HI, 1, none, [], 0xFFFF⟩,
  ⟨R.RST_OPT_SRC, 1, none, [⟨F.RST_OPT_SRC_OFFSET, .rw, .any⟩], 0xFFFFFF8⟩,
  ⟨R.RST_OPT_CMD, 1, none, [⟨F.RST_OPT_CMD_OP, .wo, .any⟩], 0xE000000⟩]

/-- The registers of HPG. -/
def Regs.tableHPG : List RegDesc := [
  ⟨R.HPG_CTRL, 1, none, [], 0x3⟩,
  ⟨R.HPG_PARSE, 1, none, [], 0xFFFFFF⟩,
  ⟨R.HPG_STATUS, 1, none, [], 0xFFFF001F⟩,
  ⟨R.HPG_CFG, 1, none, [⟨F.HPG_CFG_QUIESCE_MS, .rw, .within 60 95⟩], 0xFFFF⟩]

/-- The registers of EVT. -/
def Regs.tableEVT : List RegDesc := [
  ⟨R.EVT_CTRL, 1, none, [], 0x3⟩,
  ⟨R.EVT_PARSE, 1, none, [], 0xFFFFFF⟩,
  ⟨R.EVT_PEND, 8, none, [⟨F.EVT_PEND_PEND, .w1c, .any⟩], 0xFFFFFFFF⟩,
  ⟨R.EVT_ROUTE_IDX, 1, none, [⟨F.EVT_ROUTE_IDX_EVENT, .rw, .any⟩], 0xFF⟩,
  ⟨R.EVT_ROUTE, 1, some ⟨R.EVT_ROUTE_IDX, 7, 0⟩, [⟨F.EVT_ROUTE_HOST_EN, .rw, .any⟩, ⟨F.EVT_ROUTE_REC_EN, .rw, .any⟩, ⟨F.EVT_ROUTE_VEC, .rw, .any⟩], 0xC000003F⟩,
  ⟨R.EVT_RING, 1, none, [⟨F.EVT_RING_EN, .rw, .any⟩, ⟨F.EVT_RING_RING, .rw, .any⟩], 0x800003FF⟩,
  ⟨R.EVT_RAISE_ARG, 1, none, [⟨F.EVT_RAISE_ARG_ARG, .rw, .any⟩], 0xFFFFFFFF⟩,
  ⟨R.EVT_RAISE, 1, none, [⟨F.EVT_RAISE_EVENT, .wo, .any⟩], 0x0⟩,
  ⟨R.EVT_VEC_IDX, 1, none, [⟨F.EVT_VEC_IDX_VEC, .rw, .any⟩], 0x3F⟩,
  ⟨R.EVT_VEC_MOD, 1, some ⟨R.EVT_VEC_IDX, 5, 0⟩, [⟨F.EVT_VEC_MOD_MOD_US, .rw, .any⟩], 0xFFFF⟩,
  ⟨R.EVT_CNT, 1, none, [⟨F.EVT_CNT_LOST, .rc, .any⟩], 0xFFFFFFFF⟩]

/-- The registers of XQ. -/
def Regs.tableXQ : List RegDesc := [
  ⟨R.XQ_CTRL, 1, none, [⟨F.XQ_CTRL_LEVEL, .rwl, .any⟩, ⟨F.XQ_CTRL_EN, .rw, .any⟩], 0x3⟩,
  ⟨R.XQ_PARSE, 1, none, [], 0xFFFFFF⟩,
  ⟨R.XQ_STATUS, 1, none, [], 0xFF0000FF⟩,
  ⟨R.XQ_Q_IDX, 1, none, [⟨F.XQ_Q_IDX_QUEUE, .rw, .within 0 159⟩], 0xFF⟩,
  ⟨R.XQ_Q_CFG, 1, some ⟨R.XQ_Q_IDX, 7, 0⟩, [], 0xFFFFFFFF⟩,
  ⟨R.XQ_Q_GEOM, 1, some ⟨R.XQ_Q_IDX, 7, 0⟩, [], 0xFF00030F⟩,
  ⟨R.XQ_Q_COUNT, 1, some ⟨R.XQ_Q_IDX, 7, 0⟩, [], 0x1FFF1FFF⟩,
  ⟨R.XQ_Q_STAT, 1, some ⟨R.XQ_Q_IDX, 7, 0⟩, [⟨F.XQ_Q_STAT_DROPS, .rc, .any⟩], 0xC0FFFFFF⟩,
  ⟨R.XQ_Q_CMD, 1, some ⟨R.XQ_Q_IDX, 7, 0⟩, [⟨F.XQ_Q_CMD_OP, .wo, .any⟩], 0x0⟩,
  ⟨R.XQ_RST, 5, none, [⟨F.XQ_RST_RST, .w1c, .any⟩], 0xFFFFFFFF⟩]

/-- The registers of CLS. -/
def Regs.tableCLS : List RegDesc := [
  ⟨R.CLS_CTRL, 1, none, [⟨F.CLS_CTRL_LEVEL, .rwl, .any⟩, ⟨F.CLS_CTRL_EN, .rw, .any⟩], 0x3⟩,
  ⟨R.CLS_PARSE, 1, none, [], 0xFFFFFF⟩,
  ⟨R.CLS_STATUS, 1, none, [⟨F.CLS_STATUS_DONE, .w1c, .any⟩], 0x1F3⟩,
  ⟨R.CLS_COUNT, 1, none, [], 0x7FFFF⟩,
  ⟨R.CLS_NOW_LO, 1, none, [], 0xFFFFFFFF⟩,
  ⟨R.CLS_NOW_HI, 1, none, [], 0xFF⟩,
  ⟨R.CLS_LIMITS, 1, none, [⟨F.CLS_LIMITS_WARN_PCT, .rw, .within 50 99⟩, ⟨F.CLS_LIMITS_PER_MI, .rw, .within 1 255⟩], 0xFFFF⟩,
  ⟨R.CLS_HORIZON, 1, none, [⟨F.CLS_HORIZON_HORIZON_MS, .rw, .within 60000 604800000⟩], 0xFFFFFFFF⟩,
  ⟨R.CLS_RETAIN, 1, none, [⟨F.CLS_RETAIN_RETAIN_MS, .rw, .within 0 3600000⟩], 0xFFFFFFFF⟩,
  ⟨R.CLS_NOTICE, 1, none, [⟨F.CLS_NOTICE_NOTICE_MS, .rw, .within 0 3600000⟩], 0xFFFFFFFF⟩,
  ⟨R.CLS_SWEEP, 1, none, [⟨F.CLS_SWEEP_PERIOD_MS, .rw, .within 10 10000⟩], 0x3FFF⟩,
  ⟨R.CLS_INFL, 1, none, [⟨F.CLS_INFL_STANDSTILL, .rw, .within 1 65535⟩, ⟨F.CLS_INFL_FIXED_MM, .rw, .within 0 10000⟩], 0xFFFFFFFF⟩,
  ⟨R.CLS_CMD, 8, none, [⟨F.CLS_CMD_WORD, .rw, .any⟩], 0xFFFFFFFF⟩,
  ⟨R.CLS_GO, 1, none, [⟨F.CLS_GO_GO, .wo, .any⟩], 0x0⟩,
  ⟨R.CLS_RES, 16, none, [], 0xFFFFFFFF⟩,
  ⟨R.CLS_POL_IDX, 1, none, [⟨F.CLS_POL_IDX_REQ, .rw, .any⟩, ⟨F.CLS_POL_IDX_HOLD, .rw, .any⟩], 0x3FF⟩,
  ⟨R.CLS_POL_DATA, 1, some ⟨R.CLS_POL_IDX, 9, 0⟩, [⟨F.CLS_POL_DATA_SEP_MM, .rw, .any⟩, ⟨F.CLS_POL_DATA_SEP_10MS, .rw, .any⟩, ⟨F.CLS_POL_DATA_ACTION, .rw, .within 0 2⟩], 0xFFFFFFFF⟩,
  ⟨R.CLS_MACH_IDX, 1, none, [⟨F.CLS_MACH_IDX_MI, .rw, .any⟩], 0x7FF⟩,
  ⟨R.CLS_MACH_DATA, 1, some ⟨R.CLS_MACH_IDX, 10, 0⟩, [⟨F.CLS_MACH_DATA_VALID, .rw, .any⟩, ⟨F.CLS_MACH_DATA_PCLASS, .rw, .any⟩, ⟨F.CLS_MACH_DATA_RADIUS_MM, .rw, .whenSet F.CLS_MACH_DATA_VALID 1 20000⟩], 0xFF9FFFFF⟩,
  ⟨R.CLS_CHECKS, 1, none, [⟨F.CLS_CHECKS_COUNT, .rc, .any⟩], 0xFFFFFFFF⟩,
  ⟨R.CLS_SOLCNT, 1, none, [⟨F.CLS_SOLCNT_COUNT, .rc, .any⟩], 0xFFFFFFFF⟩,
  ⟨R.CLS_LASTSOL, 1, none, [], 0xF07FF⟩,
  ⟨R.CLS_ECC, 1, none, [⟨F.CLS_ECC_CORRECTED, .rc, .any⟩], 0xFFFFFFFF⟩,
  ⟨R.CLS_BANKLOAD, 4, none, [], 0xFFFFFFFF⟩,
  ⟨R.CLS_MAPINFO, 1, none, [], 0x7FFFFFF⟩]

/-- The registers of AUT. -/
def Regs.tableAUT : List RegDesc := [
  ⟨R.AUT_CTRL, 1, none, [⟨F.AUT_CTRL_LEVEL, .rwl, .any⟩, ⟨F.AUT_CTRL_EN, .rw, .any⟩], 0x3⟩,
  ⟨R.AUT_PARSE, 1, none, [], 0xFFFFFF⟩,
  ⟨R.AUT_STATUS, 1, none, [], 0xFF0F⟩,
  ⟨R.AUT_SOURCES, 1, none, [], 0xFFFF1F3F⟩,
  ⟨R.AUT_BEACON, 1, none, [⟨F.AUT_BEACON_SLOTS_SKIPPED, .rc, .any⟩], 0xFFFF000F⟩,
  ⟨R.AUT_SEQ_LO, 1, none, [], 0xFFFFFFFF⟩,
  ⟨R.AUT_SEQ_HI, 1, none, [], 0xFFFF⟩,
  ⟨R.AUT_LIFE, 1, none, [⟨F.AUT_LIFE_COVER, .rw, .within 1 32⟩, ⟨F.AUT_LIFE_LIFETIME_MS, .rw, .within 100 1000⟩], 0x3FFFFF⟩,
  ⟨R.AUT_REC, 1, none, [⟨F.AUT_REC_REPEAT_MS, .rw, .within 100 500⟩, ⟨F.AUT_REC_REC_LIFE_MS, .rw, .within 600 5000⟩], 0xFFFFFFFF⟩,
  ⟨R.AUT_QCEIL01, 1, none, [⟨F.AUT_QCEIL01_Q1, .rw, .any⟩, ⟨F.AUT_QCEIL01_Q0, .rw, .any⟩], 0xFFFFFFFF⟩,
  ⟨R.AUT_QCEIL2, 1, none, [⟨F.AUT_QCEIL2_Q2, .rw, .any⟩], 0xFFFF⟩,
  ⟨R.AUT_CELL, 1, none, [⟨F.AUT_CELL_CELL_VMAX, .rw, .any⟩, ⟨F.AUT_CELL_CELL_STEP_MM, .rw, .within 0 20000⟩], 0xFFFFFFFF⟩,
  ⟨R.AUT_AGE, 1, none, [⟨F.AUT_AGE_RESUME_MS, .rw, .within 0 60000⟩, ⟨F.AUT_AGE_POS_AGE_MS, .rw, .within 500 10000⟩], 0xFFFFFFFF⟩,
  ⟨R.AUT_FSTOP, 1, none, [⟨F.AUT_FSTOP_AIR_EN, .rw, .any⟩, ⟨F.AUT_FSTOP_HOST, .rw, .any⟩], 0x101⟩,
  ⟨R.AUT_REARM, 1, none, [⟨F.AUT_REARM_KEY, .wo, .any⟩], 0x0⟩,
  ⟨R.AUT_COMMA, 1, none, [⟨F.AUT_COMMA_REARM_HOLD_MS, .rw, .within 1000 60000⟩, ⟨F.AUT_COMMA_RESUME, .wo, .any⟩, ⟨F.AUT_COMMA_PIN_EN, .rw, .any⟩, ⟨F.AUT_COMMA_HOST, .rw, .any⟩], 0xFFFF0007⟩,
  ⟨R.AUT_REVOKE, 1, none, [⟨F.AUT_REVOKE_OP, .wo, .any⟩, ⟨F.AUT_REVOKE_MI, .wo, .any⟩], 0x0⟩,
  ⟨R.AUT_REVSTAT, 1, none, [], 0xFFFF07FF⟩,
  ⟨R.AUT_WARDEN, 1, none, [⟨F.AUT_WARDEN_KICK_100MS, .rw, .within 1 100⟩, ⟨F.AUT_WARDEN_KICK_EN, .rwl, .any⟩, ⟨F.AUT_WARDEN_WITHHELD, .rc, .any⟩], 0xFFFFFFFF⟩,
  ⟨R.AUT_KICK, 1, none, [⟨F.AUT_KICK_KEY, .wo, .any⟩], 0x0⟩,
  ⟨R.AUT_DISC, 1, none, [⟨F.AUT_DISC_DISC, .w1c, .any⟩], 0xFFFF0003⟩,
  ⟨R.AUT_RECCNT, 1, none, [⟨F.AUT_RECCNT_COUNT, .rc, .any⟩], 0xFFFFFFFF⟩,
  ⟨R.AUT_MACH_IDX, 1, none, [⟨F.AUT_MACH_IDX_MI, .rw, .any⟩], 0x7FF⟩,
  ⟨R.AUT_MACH_CFG, 1, some ⟨R.AUT_MACH_IDX, 10, 0⟩, [⟨F.AUT_MACH_CFG_VCAP, .rw, .any⟩], 0xFFFF⟩,
  ⟨R.AUT_MACH_STAT, 1, some ⟨R.AUT_MACH_IDX, 10, 0⟩, [], 0xFFFFFFFF⟩,
  ⟨R.AUT_RECLATE, 1, none, [⟨F.AUT_RECLATE_COUNT, .rc, .any⟩], 0xFFFFFFFF⟩,
  ⟨R.AUT_REVBM, 64, none, [], 0xFFFFFFFF⟩]

/-- The registers of SLV. -/
def Regs.tableSLV : List RegDesc := [
  ⟨R.SLV_CTRL, 1, none, [⟨F.SLV_CTRL_LEVEL, .rwl, .any⟩, ⟨F.SLV_CTRL_EN, .rw, .any⟩], 0x3⟩,
  ⟨R.SLV_PARSE, 1, none, [], 0xFFFFFF⟩,
  ⟨R.SLV_STATUS, 1, none, [], 0xFC00FC⟩,
  ⟨R.SLV_RATE, 1, none, [], 0xFFFFFFFF⟩,
  ⟨R.SLV_REFAGE, 1, none, [], 0xFFFF⟩,
  ⟨R.SLV_LANES, 1, none, [⟨F.SLV_LANES_PLAN_RATE, .rw, .within 200 800⟩, ⟨F.SLV_LANES_RESERVE, .rw, .within 0 16⟩], 0xFFFF003F⟩,
  ⟨R.SLV_AWAKE, 1, none, [], 0xFFFFFFFF⟩,
  ⟨R.SLV_LANEOUT, 1, none, [], 0xFFFFFFFF⟩,
  ⟨R.SLV_QBOUND0, 1, none, [⟨F.SLV_QBOUND0_H3_Q1, .rw, .within 1 65535⟩, ⟨F.SLV_QBOUND0_H3_Q0, .rw, .within 1 65535⟩], 0xFFFFFFFF⟩,
  ⟨R.SLV_QBOUND1, 1, none, [⟨F.SLV_QBOUND1_H3_FLOOR, .rw, .within 1 1000⟩, ⟨F.SLV_QBOUND1_H3_Q2, .rw, .within 1 65535⟩], 0xFFFFFFFF⟩,
  ⟨R.SLV_FIX, 1, none, [⟨F.SLV_FIX_RATIO_X10, .rw, .within 15 100⟩, ⟨F.SLV_FIX_HOLD_EPOCHS, .rw, .within 1 20⟩, ⟨F.SLV_FIX_MIN_FIX, .rw, .within 4 89⟩, ⟨F.SLV_FIX_ELEV_FIX, .rw, .fromFld F.SLV_MODEL_ELEV_MASK 60⟩], 0xFFFFFFFF⟩,
  ⟨R.SLV_SEARCH, 1, none, [⟨F.SLV_SEARCH_SEARCH_US, .rw, .within 500 6000⟩, ⟨F.SLV_SEARCH_RES_MM, .rw, .within 2 100⟩], 0xFFFFFFFF⟩,
  ⟨R.SLV_PRED, 1, none, [⟨F.SLV_PRED_PRED_GROWTH, .rw, .within 0 1000⟩, ⟨F.SLV_PRED_PRED_MS, .rw, .within 0 1500⟩], 0xFFFFFFFF⟩,
  ⟨R.SLV_MODEL, 1, none, [⟨F.SLV_MODEL_ELEV_MASK, .rw, .within 0 30⟩, ⟨F.SLV_MODEL_IONO_KM, .rw, .within 1 50⟩, ⟨F.SLV_MODEL_TROPO_KM, .rw, .within 1 50⟩], 0xFF00FFFF⟩,
  ⟨R.SLV_RCLASS_IDX, 1, none, [⟨F.SLV_RCLASS_IDX_CLASS, .rw, .any⟩], 0x7⟩,
  ⟨R.SLV_RCLASS_DATA, 1, some ⟨R.SLV_RCLASS_IDX, 2, 0⟩, [⟨F.SLV_RCLASS_DATA_SHED, .rw, .any⟩, ⟨F.SLV_RCLASS_DATA_PRIO, .rw, .any⟩, ⟨F.SLV_RCLASS_DATA_K_ACQ, .rw, .between F.SLV_RCLASS_DATA_K_MIN F.SLV_RCLASS_DATA_K_MAX⟩, ⟨F.SLV_RCLASS_DATA_K_MAX, .rw, .within 1 10⟩, ⟨F.SLV_RCLASS_DATA_K_MIN, .rw, .toFld 1 F.SLV_RCLASS_DATA_K_MAX⟩, ⟨F.SLV_RCLASS_DATA_STEP_CM, .rw, .within 1 4095⟩], 0x8FFFFFFF⟩,
  ⟨R.SLV_MACH_IDX, 1, none, [⟨F.SLV_MACH_IDX_MI, .rw, .any⟩], 0x7FF⟩,
  ⟨R.SLV_MACH_CFG, 1, some ⟨R.SLV_MACH_IDX, 10, 0⟩, [⟨F.SLV_MACH_CFG_VALID, .rw, .any⟩, ⟨F.SLV_MACH_CFG_RCLASS, .rw, .any⟩, ⟨F.SLV_MACH_CFG_LINK_IN, .rw, .any⟩, ⟨F.SLV_MACH_CFG_REFSEL, .rw, .within 0 4⟩, ⟨F.SLV_MACH_CFG_K_SET, .rw, .within 0 10⟩], 0x87FF0000⟩,
  ⟨R.SLV_MACH_STAT, 1, some ⟨R.SLV_MACH_IDX, 10, 0⟩, [], 0xFFFEFFFF⟩,
  ⟨R.SLV_CMD, 1, none, [⟨F.SLV_CMD_OP, .wo, .any⟩, ⟨F.SLV_CMD_MI, .wo, .any⟩], 0x0⟩,
  ⟨R.SLV_INTAKE, 1, none, [⟨F.SLV_INTAKE_HIGHWATER, .rc, .any⟩], 0xFFFFFFFF⟩,
  ⟨R.SLV_CNT, 7, none, [⟨F.SLV_CNT_COUNT, .rc, .any⟩], 0xFFFFFFFF⟩,
  ⟨R.SLV_AUX_IDX, 1, none, [⟨F.SLV_AUX_IDX_ENTRY, .rw, .within 0 4⟩], 0x7⟩,
  ⟨R.SLV_AUX_CFG, 1, some ⟨R.SLV_AUX_IDX, 2, 0⟩, [⟨F.SLV_AUX_CFG_EN, .rw, .any⟩, ⟨F.SLV_AUX_CFG_FALLBACK, .rw, .any⟩, ⟨F.SLV_AUX_CFG_RING, .rw, .any⟩, ⟨F.SLV_AUX_CFG_STATION, .rw, .any⟩], 0xC3FF0FFF⟩,
  ⟨R.SLV_AUX_STAT, 1, some ⟨R.SLV_AUX_IDX, 2, 0⟩, [], 0xC000FFFF⟩,
  ⟨R.SLV_OUT, 1, none, [⟨F.SLV_OUT_HOST_EN, .rw, .any⟩, ⟨F.SLV_OUT_RING, .rw, .any⟩, ⟨F.SLV_OUT_DECIM, .rw, .any⟩], 0x83FF000F⟩,
  ⟨R.SLV_ECC, 1, none, [⟨F.SLV_ECC_CORRECTED, .rc, .any⟩], 0xFFFFFFFF⟩,
  ⟨R.SLV_ROLE0, 1, none, [], 0xFFFFFFFF⟩,
  ⟨R.SLV_ROLE1, 1, none, [], 0xFFFFFFFF⟩,
  ⟨R.SLV_WAKE, 1, none, [⟨F.SLV_WAKE_MASK, .rw, .any⟩], 0xFFFFFFFF⟩]

/-- The registers of GRX. -/
def Regs.tableGRX : List RegDesc := [
  ⟨R.GRX_CTRL, 1, none, [⟨F.GRX_CTRL_LEVEL, .rwl, .any⟩, ⟨F.GRX_CTRL_EN, .rw, .any⟩], 0x3⟩,
  ⟨R.GRX_PARSE, 1, none, [], 0xFFFFFF⟩,
  ⟨R.GRX_STATUS, 1, none, [], 0x3FEFFFF⟩,
  ⟨R.GRX_ANT, 1, none, [⟨F.GRX_ANT_SHARED_B, .rw, .any⟩, ⟨F.GRX_ANT_BIAS_EN_B, .rw, .any⟩, ⟨F.GRX_ANT_SHARED_A, .rw, .any⟩, ⟨F.GRX_ANT_BIAS_EN_A, .rw, .any⟩], 0xFFFF1F1F⟩,
  ⟨R.GRX_CFG, 1, none, [⟨F.GRX_CFG_RETURN_S, .rw, .any⟩, ⟨F.GRX_CFG_ACQ_MASK, .rw, .within 0 30⟩, ⟨F.GRX_CFG_USE_MASK, .rw, .within 0 30⟩, ⟨F.GRX_CFG_ANT_SEL, .rw, .within 0 2⟩], 0xFFFFFF03⟩,
  ⟨R.GRX_TRK, 1, none, [⟨F.GRX_TRK_SPACING, .rwl, .within 5 100⟩, ⟨F.GRX_TRK_CARR_MS, .rwl, .oneOf [1, 2, 4, 10, 20]⟩, ⟨F.GRX_TRK_CODE_MS, .rwl, .within 10 200⟩], 0xFFFFFF⟩,
  ⟨R.GRX_CH_IDX, 1, none, [⟨F.GRX_CH_IDX_CH, .rw, .within 0 383⟩], 0x1FF⟩,
  ⟨R.GRX_CH_CFG, 1, some ⟨R.GRX_CH_IDX, 8, 0⟩, [⟨F.GRX_CH_CFG_ASSIGN, .rw, .any⟩], 0xFF7F⟩,
  ⟨R.GRX_CH_STAT, 1, some ⟨R.GRX_CH_IDX, 8, 0⟩, [], 0xF8FFFFFF⟩,
  ⟨R.GRX_NOTCH_IDX, 1, none, [⟨F.GRX_NOTCH_IDX_ANT, .rw, .any⟩, ⟨F.GRX_NOTCH_IDX_PATH, .rw, .within 0 2⟩, ⟨F.GRX_NOTCH_IDX_NOTCH, .rw, .any⟩], 0x1F⟩,
  ⟨R.GRX_NOTCH, 1, some ⟨R.GRX_NOTCH_IDX, 4, 0⟩, [], 0xE0FF1FFF⟩,
  ⟨R.GRX_NOTCH_SET, 1, some ⟨R.GRX_NOTCH_IDX, 4, 0⟩, [⟨F.GRX_NOTCH_SET_ACTIVE, .rw, .any⟩, ⟨F.GRX_NOTCH_SET_WIDTH, .rw, .any⟩, ⟨F.GRX_NOTCH_SET_OFFSET, .rw, .signed 13 (-3900) 3900⟩], 0xE0001FFF⟩,
  ⟨R.GRX_JAM, 1, none, [⟨F.GRX_JAM_NOTCH_THR, .rw, .within 6 40⟩], 0xFFFF3F3F⟩,
  ⟨R.GRX_SPOOF, 1, none, [⟨F.GRX_SPOOF_ALARM, .w1c, .any⟩, ⟨F.GRX_SPOOF_HOLD_S, .rw, .within 10 255⟩, ⟨F.GRX_SPOOF_CHK_EN, .rw, .any⟩], 0x80FF3F3F⟩,
  ⟨R.GRX_POS_SEL, 1, none, [⟨F.GRX_POS_SEL_ANT, .rw, .any⟩, ⟨F.GRX_POS_SEL_AXIS, .rw, .within 0 2⟩], 0x7⟩,
  ⟨R.GRX_POS_LO, 1, some ⟨R.GRX_POS_SEL, 2, 0⟩, [⟨F.GRX_POS_LO_VAL_LO, .rw, .any⟩], 0xFFFFFFFF⟩,
  ⟨R.GRX_POS_HI, 1, some ⟨R.GRX_POS_SEL, 2, 0⟩, [⟨F.GRX_POS_HI_VAL_HI, .rw, .any⟩], 0xFFFFFFFF⟩,
  ⟨R.GRX_HELD_LO, 1, some ⟨R.GRX_POS_SEL, 2, 0⟩, [], 0xFFFFFFFF⟩,
  ⟨R.GRX_HELD_HI, 1, some ⟨R.GRX_POS_SEL, 2, 0⟩, [], 0xFFFFFFFF⟩,
  ⟨R.GRX_SURVEY, 1, none, [⟨F.GRX_SURVEY_OP, .wo, .any⟩, ⟨F.GRX_SURVEY_DURATION_MIN, .rw, .within 10 1440⟩], 0xF000FFF⟩,
  ⟨R.GRX_BASE, 1, none, [⟨F.GRX_BASE_TOL_MM, .rw, .within 5 200⟩], 0xFFFF00FF⟩,
  ⟨R.GRX_RTCM, 1, none, [⟨F.GRX_RTCM_EN, .rw, .any⟩, ⟨F.GRX_RTCM_STANDBY_EN, .rw, .any⟩, ⟨F.GRX_RTCM_POS1006, .rw, .any⟩, ⟨F.GRX_RTCM_RING, .rw, .any⟩, ⟨F.GRX_RTCM_RATE, .rw, .oneOf [1, 2, 5, 10]⟩, ⟨F.GRX_RTCM_STATION, .rw, .any⟩], 0xE3FFFFFF⟩,
  ⟨R.GRX_RTCM_MSM, 1, none, [⟨F.GRX_RTCM_MSM_QZSS, .rw, .within 0 2⟩, ⟨F.GRX_RTCM_MSM_BEIDOU, .rw, .within 0 2⟩, ⟨F.GRX_RTCM_MSM_GALILEO, .rw, .within 0 2⟩, ⟨F.GRX_RTCM_MSM_GPS, .rw, .within 0 2⟩], 0xFF⟩,
  ⟨R.GRX_OUT, 1, none, [⟨F.GRX_OUT_SET_EN, .rw, .any⟩, ⟨F.GRX_OUT_NAV_EN, .rw, .any⟩, ⟨F.GRX_OUT_NAV_RING, .rw, .any⟩, ⟨F.GRX_OUT_SET_RING, .rw, .any⟩], 0xC00FFFFF⟩,
  ⟨R.GRX_CNT, 4, none, [⟨F.GRX_CNT_COUNT, .rc, .any⟩], 0xFFFFFFFF⟩,
  ⟨R.GRX_TRACKED, 1, none, [], 0x1FF01FF⟩]

/-- The registers of TIM. -/
def Regs.tableTIM : List RegDesc := [
  ⟨R.TIM_CTRL, 1, none, [⟨F.TIM_CTRL_STEP_OK, .rw, .any⟩, ⟨F.TIM_CTRL_LEVEL, .rwl, .any⟩, ⟨F.TIM_CTRL_EN, .rw, .any⟩], 0x7⟩,
  ⟨R.TIM_PARSE, 1, none, [], 0xFFFFFF⟩,
  ⟨R.TIM_STATUS, 1, none, [⟨F.TIM_STATUS_SAT, .w1c, .any⟩], 0xFE⟩,
  ⟨R.TIM_QUAL, 1, none, [], 0xFFFF07⟩,
  ⟨R.TIM_SEC_LO, 1, none, [], 0xFFFFFFFF⟩,
  ⟨R.TIM_SEC_HI, 1, none, [], 0xFFFF⟩,
  ⟨R.TIM_NS, 1, none, [], 0x3FFFFFFF⟩,
  ⟨R.TIM_STAMP, 1, none, [], 0xFFFFFFFF⟩,
  ⟨R.TIM_ERR, 1, none, [], 0xFFFFFFFF⟩,
  ⟨R.TIM_OFFSET, 1, none, [], 0xFFFFFFFF⟩,
  ⟨R.TIM_FREQ, 1, none, [⟨F.TIM_FREQ_DAC, .rw, .any⟩], 0xFFFFF⟩,
  ⟨R.TIM_DISC, 1, none, [⟨F.TIM_DISC_TAU_S, .rw, .within 10 10000⟩, ⟨F.TIM_DISC_INV_10US, .rw, .within 1 10000⟩], 0xFFFFFFFF⟩,
  ⟨R.TIM_STEP, 1, none, [], 0xFFFFFFFF⟩,
  ⟨R.TIM_UTC, 1, none, [], 0xC00001FF⟩,
  ⟨R.TIM_LEAP, 1, none, [], 0xFFFFFFFF⟩,
  ⟨R.TIM_SET_SEC, 1, none, [⟨F.TIM_SET_SEC_SEC, .rw, .any⟩], 0xFFFFFFFF⟩,
  ⟨R.TIM_SET_NS, 1, none, [⟨F.TIM_SET_NS_NS, .rw, .any⟩], 0x3FFFFFFF⟩,
  ⟨R.TIM_SET_CMD, 1, none, [⟨F.TIM_SET_CMD_OP, .wo, .any⟩, ⟨F.TIM_SET_CMD_ERR_US, .rw, .any⟩], 0xCFFFFFF⟩,
  ⟨R.TIM_OUT, 1, none, [⟨F.TIM_OUT_PPS_EN, .rw, .any⟩, ⟨F.TIM_OUT_FREQ_EN, .rw, .any⟩, ⟨F.TIM_OUT_PPS_WIDTH_MS, .rw, .within 1 500⟩], 0xC00003FF⟩,
  ⟨R.TIM_CAL, 1, none, [⟨F.TIM_CAL_ANT_NS, .rw, .within 0 10000⟩, ⟨F.TIM_CAL_PPS_NS, .rw, .signed 16 (-10000) 10000⟩], 0xFFFFFFFF⟩,
  ⟨R.TIM_LOOPS, 1, none, [], 0x7FF07FF⟩,
  ⟨R.TIM_TO_IDX, 1, none, [⟨F.TIM_TO_IDX_OUTPUT, .rw, .any⟩], 0x7⟩,
  ⟨R.TIM_TO_CFG, 1, some ⟨R.TIM_TO_IDX, 2, 0⟩, [⟨F.TIM_TO_CFG_ARM, .rw, .any⟩, ⟨F.TIM_TO_CFG_PERIODIC, .rw, .any⟩, ⟨F.TIM_TO_CFG_INVERT, .rw, .any⟩, ⟨F.TIM_TO_CFG_LATE, .w1c, .any⟩], 0xF0000000⟩,
  ⟨R.TIM_TO_SEC, 1, some ⟨R.TIM_TO_IDX, 2, 0⟩, [⟨F.TIM_TO_SEC_SEC, .rw, .any⟩], 0xFFFFFFFF⟩,
  ⟨R.TIM_TO_NS, 1, some ⟨R.TIM_TO_IDX, 2, 0⟩, [⟨F.TIM_TO_NS_NS, .rw, .any⟩], 0x3FFFFFFF⟩,
  ⟨R.TIM_TO_PERIOD, 1, some ⟨R.TIM_TO_IDX, 2, 0⟩, [⟨F.TIM_TO_PERIOD_PERIOD_NS, .rw, .orZero F.TIM_TO_CFG_PERIODIC (.within 100 4294967295)⟩], 0xFFFFFFFF⟩,
  ⟨R.TIM_TO_WIDTH, 1, some ⟨R.TIM_TO_IDX, 2, 0⟩, [⟨F.TIM_TO_WIDTH_WIDTH_NS, .rw, .toWidth⟩], 0xFFFFFFFF⟩,
  ⟨R.TIM_TC_CFG, 1, none, [⟨F.TIM_TC_CFG_OVF, .w1c, .any⟩, ⟨F.TIM_TC_CFG_EDGE, .rw, .any⟩], 0xFF00FFFF⟩,
  ⟨R.TIM_TC_IDX, 1, none, [⟨F.TIM_TC_IDX_INPUT, .rw, .any⟩], 0x1F0007⟩,
  ⟨R.TIM_TC_SEC, 1, some ⟨R.TIM_TC_IDX, 2, 0⟩, [], 0xFFFFFFFF⟩,
  ⟨R.TIM_TC_NS, 1, some ⟨R.TIM_TC_IDX, 2, 0⟩, [], 0xFFFFFFFF⟩]

/-- The registers of PTP. -/
def Regs.tablePTP : List RegDesc := [
  ⟨R.PTP_CTRL, 1, none, [⟨F.PTP_CTRL_LEVEL, .rwl, .any⟩, ⟨F.PTP_CTRL_EN, .rw, .any⟩], 0x3⟩,
  ⟨R.PTP_PARSE, 1, none, [], 0xFFFFFF⟩,
  ⟨R.PTP_CLOCK, 1, none, [⟨F.PTP_CLOCK_PRIO1, .rwl, .any⟩, ⟨F.PTP_CLOCK_PRIO2, .rwl, .any⟩, ⟨F.PTP_CLOCK_DOMAIN, .rwl, .any⟩], 0xFFFF007F⟩,
  ⟨R.PTP_RING, 1, none, [⟨F.PTP_RING_EN, .rw, .any⟩, ⟨F.PTP_RING_RING, .rw, .any⟩], 0x800003FF⟩,
  ⟨R.PTP_PORT_IDX, 1, none, [⟨F.PTP_PORT_IDX_PORT, .rw, .any⟩], 0x1⟩,
  ⟨R.PTP_PORT_CFG, 1, some ⟨R.PTP_PORT_IDX, 0, 0⟩, [⟨F.PTP_PORT_CFG_MODE, .rwl, .within 0 2⟩, ⟨F.PTP_PORT_CFG_P2P, .rwl, .any⟩, ⟨F.PTP_PORT_CFG_TWO_STEP, .rwl, .any⟩, ⟨F.PTP_PORT_CFG_UDP, .rwl, .any⟩, ⟨F.PTP_PORT_CFG_LOG_SYNC, .rw, .signed 4 (-7) 1⟩, ⟨F.PTP_PORT_CFG_LOG_ANN, .rw, .within 0 4⟩, ⟨F.PTP_PORT_CFG_LOG_DREQ, .rw, .signed 4 (-7) 5⟩, ⟨F.PTP_PORT_CFG_LOG_PDREQ, .rw, .signed 4 (-7) 5⟩, ⟨F.PTP_PORT_CFG_ANN_TO, .rw, .within 2 10⟩], 0xF8FFFFF0⟩,
  ⟨R.PTP_PORT_LAT, 1, some ⟨R.PTP_PORT_IDX, 0, 0⟩, [⟨F.PTP_PORT_LAT_TX_NS, .rw, .within 0 10000⟩, ⟨F.PTP_PORT_LAT_RX_NS, .rw, .within 0 10000⟩], 0xFFFFFFFF⟩,
  ⟨R.PTP_PORT_ASYM, 1, some ⟨R.PTP_PORT_IDX, 0, 0⟩, [⟨F.PTP_PORT_ASYM_ASYM_NS, .rw, .signed 32 (-100000) 100000⟩], 0xFFFFFFFF⟩,
  ⟨R.PTP_PORT_STAT, 1, some ⟨R.PTP_PORT_IDX, 0, 0⟩, [], 0xFFFFFFFF⟩,
  ⟨R.PTP_CNT, 4, some ⟨R.PTP_PORT_IDX, 0, 0⟩, [⟨F.PTP_CNT_COUNT, .rc, .any⟩], 0xFFFFFFFF⟩]

/-- The registers of AIR. -/
def Regs.tableAIR : List RegDesc := [
  ⟨R.AIR_CTRL, 1, none, [⟨F.AIR_CTRL_LEVEL, .rwl, .any⟩, ⟨F.AIR_CTRL_EN, .rw, .any⟩], 0x3⟩,
  ⟨R.AIR_PARSE, 1, none, [], 0xFFFFFF⟩,
  ⟨R.AIR_STATUS, 1, none, [], 0xFFFF8003⟩,
  ⟨R.AIR_CFG, 1, none, [⟨F.AIR_CFG_PAIR_ID, .rwl, .any⟩], 0xFFFF⟩,
  ⟨R.AIR_LBT, 1, none, [⟨F.AIR_LBT_PRIO_WAIT_MS, .rw, .within 5 100⟩, ⟨F.AIR_LBT_BE_MAX, .rw, .within 1 8⟩, ⟨F.AIR_LBT_BE_MIN, .rw, .toFld 0 F.AIR_LBT_BE_MAX⟩, ⟨F.AIR_LBT_CCA_DBM, .rw, .signed 8 (-110) (-60)⟩], 0xFFFF00FF⟩,
  ⟨R.AIR_FLOOD, 1, none, [⟨F.AIR_FLOOD_SPREAD, .rw, .within 1 255⟩, ⟨F.AIR_FLOOD_SUPPRESS, .rw, .within 1 15⟩, ⟨F.AIR_FLOOD_TTL, .rw, .within 1 7⟩], 0xFFF7⟩,
  ⟨R.AIR_GUARD, 1, none, [⟨F.AIR_GUARD_MAX_100US, .rw, .fromFld F.AIR_GUARD_MIN_100US 1023⟩, ⟨F.AIR_GUARD_MIN_100US, .rw, .toFld 5 F.AIR_GUARD_MAX_100US⟩], 0x3FF03FF⟩,
  ⟨R.AIR_WIDE, 1, none, [⟨F.AIR_WIDE_LOAD_PCT, .rw, .within 50 95⟩, ⟨F.AIR_WIDE_MARGIN_DB, .rw, .within 0 20⟩, ⟨F.AIR_WIDE_GAP_TICKS, .rw, .within 1 10⟩], 0xFFFF000F⟩,
  ⟨R.AIR_MOD_IDX, 1, none, [⟨F.AIR_MOD_IDX_MODEM, .rw, .within 0 11⟩], 0xF⟩,
  ⟨R.AIR_MOD_CFG, 1, some ⟨R.AIR_MOD_IDX, 3, 0⟩, [], 0xFE00FFFF⟩,
  ⟨R.AIR_MOD_FREQ, 1, some ⟨R.AIR_MOD_IDX, 3, 0⟩, [], 0xFFFFFFFF⟩,
  ⟨R.AIR_MOD_WIDE, 1, some ⟨R.AIR_MOD_IDX, 3, 0⟩, [⟨F.AIR_MOD_WIDE_DL_US, .rwl, .within 1900 19000⟩, ⟨F.AIR_MOD_WIDE_DL_MCS, .rw, .dlMcs⟩], 0x7FFF0007⟩,
  ⟨R.AIR_MOD_DUTY, 1, some ⟨R.AIR_MOD_IDX, 3, 0⟩, [⟨F.AIR_MOD_DUTY_DUTY_PM, .rwl, .within 0 1000⟩], 0xFFFF03FF⟩,
  ⟨R.AIR_MOD_STAT, 1, some ⟨R.AIR_MOD_IDX, 3, 0⟩, [], 0xFFFF0FFF⟩,
  ⟨R.AIR_MACH_IDX, 1, none, [⟨F.AIR_MACH_IDX_MI, .rw, .any⟩], 0x7FF⟩,
  ⟨R.AIR_MACH_REG, 1, some ⟨R.AIR_MACH_IDX, 10, 0⟩, [⟨F.AIR_MACH_REG_VALID, .rw, .any⟩, ⟨F.AIR_MACH_REG_RELAY, .rw, .any⟩, ⟨F.AIR_MACH_REG_ADDR, .rw, .orZero F.AIR_MACH_REG_VALID (.within 0x0001 0xEFFF)⟩], 0xC000FFFF⟩,
  ⟨R.AIR_MACH_SER_LO, 1, some ⟨R.AIR_MACH_IDX, 10, 0⟩, [⟨F.AIR_MACH_SER_LO_SER_LO, .rw, .any⟩], 0xFFFFFFFF⟩,
  ⟨R.AIR_MACH_SER_HI, 1, some ⟨R.AIR_MACH_IDX, 10, 0⟩, [⟨F.AIR_MACH_SER_HI_SER_HI, .rw, .any⟩], 0xFFFFFFFF⟩,
  ⟨R.AIR_MACH_PARENT, 1, some ⟨R.AIR_MACH_IDX, 10, 0⟩, [⟨F.AIR_MACH_PARENT_PARENT, .rw, .any⟩, ⟨F.AIR_MACH_PARENT_WAKE_SF, .rw, .within 1 255⟩, ⟨F.AIR_MACH_PARENT_WAKE_BI, .rw, .within 0 19⟩], 0xFFFFFF1F⟩,
  ⟨R.AIR_MACH_CMD, 1, some ⟨R.AIR_MACH_IDX, 10, 0⟩, [⟨F.AIR_MACH_CMD_OP, .wo, .any⟩, ⟨F.AIR_MACH_CMD_GUARD_100US, .wo, .any⟩], 0x0⟩,
  ⟨R.AIR_MACH_GRANT0, 1, some ⟨R.AIR_MACH_IDX, 10, 0⟩, [⟨F.AIR_MACH_GRANT0_K, .rw, .within 0 10⟩, ⟨F.AIR_MACH_GRANT0_OFS, .rw, .lessThan F.AIR_MACH_GRANT0_K⟩, ⟨F.AIR_MACH_GRANT0_HALF, .rw, .any⟩, ⟨F.AIR_MACH_GRANT0_MCS_UL, .rw, .any⟩, ⟨F.AIR_MACH_GRANT0_WCH, .rw, .any⟩], 0xFFFE0000⟩,
  ⟨R.AIR_MACH_GRANT1, 1, some ⟨R.AIR_MACH_IDX, 10, 0⟩, [⟨F.AIR_MACH_GRANT1_LEN, .rw, .orZero F.AIR_MACH_GRANT0_K (.within 1 500)⟩, ⟨F.AIR_MACH_GRANT1_START, .rw, .within 0 2479⟩], 0x1FFFFF⟩,
  ⟨R.AIR_MACH_STAT0, 1, some ⟨R.AIR_MACH_IDX, 10, 0⟩, [], 0xFFF8FFFF⟩,
  ⟨R.AIR_MACH_STAT1, 1, some ⟨R.AIR_MACH_IDX, 10, 0⟩, [], 0xFFFFFFFF⟩,
  ⟨R.AIR_MACH_GRANT2, 1, some ⟨R.AIR_MACH_IDX, 10, 0⟩, [⟨F.AIR_MACH_GRANT2_RPT_SET, .rw, .any⟩, ⟨F.AIR_MACH_GRANT2_BI, .rw, .orZero F.AIR_MACH_GRANT2_RPT_SET (.oneOf [1, 3, 5, 7, 9, 11, 13, 15, 17, 19])⟩, ⟨F.AIR_MACH_GRANT2_HALF, .rw, .any⟩, ⟨F.AIR_MACH_GRANT2_LEN, .rw, .orZero F.AIR_MACH_GRANT2_RPT_SET (.within 1 500)⟩, ⟨F.AIR_MACH_GRANT2_START, .rw, .within 0 2479⟩], 0xFFFF0FFF⟩,
  ⟨R.AIR_SND_IDX, 1, none, [⟨F.AIR_SND_IDX_SENDER, .rw, .any⟩], 0x3F⟩,
  ⟨R.AIR_SND_CFG, 1, some ⟨R.AIR_SND_IDX, 5, 0⟩, [⟨F.AIR_SND_CFG_EN, .rw, .any⟩, ⟨F.AIR_SND_CFG_ADDR, .rw, .orZero F.AIR_SND_CFG_EN (.within 0xF000 0xFEFF)⟩], 0x8000FFFF⟩,
  ⟨R.AIR_SND_CTR, 1, some ⟨R.AIR_SND_IDX, 5, 0⟩, [], 0xFFFFFFFF⟩,
  ⟨R.AIR_MON, 1, none, [], 0xFF0000F1⟩,
  ⟨R.AIR_CNT, 8, none, [⟨F.AIR_CNT_COUNT, .rc, .any⟩], 0xFFFFFFFF⟩]

/-- The registers of RHL. -/
def Regs.tableRHL : List RegDesc := [
  ⟨R.RHL_CTRL, 1, none, [⟨F.RHL_CTRL_LEVEL, .rwl, .any⟩, ⟨F.RHL_CTRL_EN, .rw, .any⟩], 0x3⟩,
  ⟨R.RHL_PARSE, 1, none, [], 0xFFFFFF⟩,
  ⟨R.RHL_STATUS, 1, none, [], 0x77⟩,
  ⟨R.RHL_LINK_IDX, 1, none, [⟨F.RHL_LINK_IDX_STREAM, .rw, .any⟩, ⟨F.RHL_LINK_IDX_LINK, .rw, .any⟩], 0x7⟩,
  ⟨R.RHL_LINK_CFG, 1, some ⟨R.RHL_LINK_IDX, 0, 0⟩, [⟨F.RHL_LINK_CFG_LEAD_US, .rwl, .within 20 200⟩, ⟨F.RHL_LINK_CFG_BRING_EN, .rw, .any⟩], 0xFF01⟩,
  ⟨R.RHL_LINK_STAT, 1, some ⟨R.RHL_LINK_IDX, 0, 0⟩, [], 0xFF80003F⟩,
  ⟨R.RHL_DELAY, 1, some ⟨R.RHL_LINK_IDX, 0, 0⟩, [], 0xFFFF⟩,
  ⟨R.RHL_HEAD_ID, 1, some ⟨R.RHL_LINK_IDX, 0, 0⟩, [], 0xFFFFFFFF⟩,
  ⟨R.RHL_CAPS, 1, some ⟨R.RHL_LINK_IDX, 0, 0⟩, [], 0xFFFFFF07⟩,
  ⟨R.RHL_TXEN, 1, none, [⟨F.RHL_TXEN_MASK1, .rw, .any⟩, ⟨F.RHL_TXEN_MASK0, .rw, .any⟩], 0xFF⟩,
  ⟨R.RHL_CMD, 1, none, [⟨F.RHL_CMD_OP, .wo, .any⟩, ⟨F.RHL_CMD_LINK, .wo, .any⟩], 0x0⟩,
  ⟨R.RHL_STR_CFG, 1, some ⟨R.RHL_LINK_IDX, 2, 0⟩, [], 0xFC000FFF⟩,
  ⟨R.RHL_STR_FREQ, 1, some ⟨R.RHL_LINK_IDX, 2, 0⟩, [], 0xFFFFFFFF⟩,
  ⟨R.RHL_STR_GAIN, 1, some ⟨R.RHL_LINK_IDX, 2, 0⟩, [⟨F.RHL_STR_GAIN_RXGAIN, .rw, .any⟩], 0xFF00FFFF⟩,
  ⟨R.RHL_CNT, 4, some ⟨R.RHL_LINK_IDX, 0, 0⟩, [⟨F.RHL_CNT_COUNT, .rc, .any⟩], 0xFFFFFFFF⟩]

/-- The registers of DSP. -/
def Regs.tableDSP : List RegDesc := [
  ⟨R.DSP_CTRL, 1, none, [⟨F.DSP_CTRL_LEVEL, .rwl, .any⟩, ⟨F.DSP_CTRL_EN, .rw, .any⟩], 0x3⟩,
  ⟨R.DSP_PARSE, 1, none, [], 0xFFFFFF⟩,
  ⟨R.DSP_STATUS, 1, none, [], 0x1FFFF⟩,
  ⟨R.DSP_STATUS2, 1, none, [⟨F.DSP_STATUS2_DONE, .w1c, .any⟩], 0xFFFF000F⟩,
  ⟨R.DSP_CFG, 1, none, [⟨F.DSP_CFG_ACK_MS, .rw, .within 500 60000⟩, ⟨F.DSP_CFG_AFF_WAIT, .rw, .any⟩, ⟨F.DSP_CFG_MAX_TRIES, .rw, .any⟩, ⟨F.DSP_CFG_DEPTH, .rw, .within 1 3⟩], 0xFFFFFFFF⟩,
  ⟨R.DSP_HOLD, 1, none, [⟨F.DSP_HOLD_HOLD_US, .rw, .within 10 10000⟩], 0xFFFF⟩,
  ⟨R.DSP_TRACE, 1, none, [⟨F.DSP_TRACE_FLEET_EN, .rw, .any⟩, ⟨F.DSP_TRACE_CORE_EN, .rw, .any⟩, ⟨F.DSP_TRACE_RING, .rw, .any⟩], 0xC00003FF⟩,
  ⟨R.DSP_CMD, 16, none, [⟨F.DSP_CMD_WORD, .rw, .any⟩], 0xFFFFFFFF⟩,
  ⟨R.DSP_GO, 1, none, [⟨F.DSP_GO_OP, .wo, .any⟩], 0x0⟩,
  ⟨R.DSP_RES0, 1, none, [], 0xF0F⟩,
  ⟨R.DSP_RES1, 1, none, [], 0xFFFFFFFF⟩,
  ⟨R.DSP_MACH_IDX, 1, none, [⟨F.DSP_MACH_IDX_MI, .rw, .any⟩], 0x7FF⟩,
  ⟨R.DSP_MACH_CFG, 1, some ⟨R.DSP_MACH_IDX, 10, 0⟩, [⟨F.DSP_MACH_CFG_EN, .rw, .any⟩, ⟨F.DSP_MACH_CFG_CLASS, .rw, .any⟩], 0x8F03FFFF⟩,
  ⟨R.DSP_CHG, 1, none, [], 0xFFFFFFFF⟩,
  ⟨R.DSP_CNT, 6, none, [⟨F.DSP_CNT_COUNT, .rc, .any⟩], 0xFFFFFFFF⟩,
  ⟨R.DSP_CORE_CFG, 1, none, [⟨F.DSP_CORE_CFG_MIGRATE_TICKS, .rw, .within 1 255⟩], 0xFF⟩,
  ⟨R.DSP_CORE_STAT, 1, none, [], 0xFFF1FFF⟩,
  ⟨R.DSP_THR_IDX, 1, none, [⟨F.DSP_THR_IDX_THREAD, .rw, .any⟩], 0xFFF⟩,
  ⟨R.DSP_THR_CFG, 1, some ⟨R.DSP_THR_IDX, 11, 0⟩, [⟨F.DSP_THR_CFG_PRIO, .rw, .any⟩, ⟨F.DSP_THR_CFG_SLICE, .rw, .orZero F.DSP_THR_CFG_STATE (.within 1 255)⟩, ⟨F.DSP_THR_CFG_MASK, .rw, .orZero F.DSP_THR_CFG_STATE (.within 1 255)⟩], 0xFFE0FFFF⟩,
  ⟨R.DSP_THR_CMD, 1, some ⟨R.DSP_THR_IDX, 11, 0⟩, [⟨F.DSP_THR_CMD_OP, .wo, .any⟩, ⟨F.DSP_THR_CMD_KIND, .wo, .any⟩, ⟨F.DSP_THR_CMD_ARG, .wo, .any⟩], 0x0⟩]

/-- The registers of LPE. -/
def Regs.tableLPE : List RegDesc := [
  ⟨R.LPE_CTRL, 1, none, [⟨F.LPE_CTRL_LEVEL, .rwl, .any⟩, ⟨F.LPE_CTRL_EN, .rw, .any⟩], 0x3⟩,
  ⟨R.LPE_PARSE, 1, none, [], 0xFFFFFF⟩,
  ⟨R.LPE_STATUS, 1, none, [], 0xFFF1FFF⟩,
  ⟨R.LPE_LOAD, 1, none, [], 0x1FFFFF⟩,
  ⟨R.LPE_RATE, 1, none, [], 0x1FFFFF⟩,
  ⟨R.LPE_SLOT_IDX, 1, none, [⟨F.LPE_SLOT_IDX_SLOT, .rw, .any⟩], 0x7FF⟩,
  ⟨R.LPE_SLOT_CFG, 1, some ⟨R.LPE_SLOT_IDX, 10, 0⟩, [], 0xFFFFFFFF⟩,
  ⟨R.LPE_SLOT_IN, 1, some ⟨R.LPE_SLOT_IDX, 10, 0⟩, [⟨F.LPE_SLOT_IN_IN, .rw, .any⟩], 0xFFFFFFFF⟩,
  ⟨R.LPE_SLOT_AID, 1, some ⟨R.LPE_SLOT_IDX, 10, 0⟩, [⟨F.LPE_SLOT_AID_AID, .rw, .any⟩], 0xFFFFFFFF⟩,
  ⟨R.LPE_SLOT_SP, 1, some ⟨R.LPE_SLOT_IDX, 10, 0⟩, [⟨F.LPE_SLOT_SP_SP, .rw, .any⟩], 0xFFFFFFFF⟩,
  ⟨R.LPE_SLOT_OUT, 1, some ⟨R.LPE_SLOT_IDX, 10, 0⟩, [], 0xFFFFFFFF⟩,
  ⟨R.LPE_SLOT_ACC, 1, some ⟨R.LPE_SLOT_IDX, 10, 0⟩, [], 0xFFFFFFFF⟩,
  ⟨R.LPE_SLOT_STAT, 1, some ⟨R.LPE_SLOT_IDX, 10, 0⟩, [⟨F.LPE_SLOT_STAT_SAT, .w1c, .any⟩], 0xFFFFFFFF⟩,
  ⟨R.LPE_SLOT_PAIR, 1, some ⟨R.LPE_SLOT_IDX, 10, 0⟩, [], 0x7FF07FF⟩,
  ⟨R.LPE_SLOT_CMD, 1, some ⟨R.LPE_SLOT_IDX, 10, 0⟩, [⟨F.LPE_SLOT_CMD_OP, .wo, .any⟩, ⟨F.LPE_SLOT_CMD_PAIR, .wo, .any⟩], 0x0⟩,
  ⟨R.LPE_CNT, 3, none, [⟨F.LPE_CNT_COUNT, .rc, .any⟩], 0xFFFFFFFF⟩,
  ⟨R.LPE_SAT, 64, none, [], 0xFFFFFFFF⟩]

/-- The registers of AHN. -/
def Regs.tableAHN : List RegDesc := [
  ⟨R.AHN_CTRL, 1, none, [⟨F.AHN_CTRL_LEVEL, .rwl, .any⟩, ⟨F.AHN_CTRL_EN, .rw, .any⟩], 0x3⟩,
  ⟨R.AHN_PARSE, 1, none, [], 0xFFFFFF⟩,
  ⟨R.AHN_STATUS, 1, none, [], 0xFFFF01F7⟩,
  ⟨R.AHN_CFG, 1, none, [⟨F.AHN_CFG_SWAP_HOLD_S, .rw, .within 10 255⟩, ⟨F.AHN_CFG_HB_LOSS_MS, .rw, .within 4 32⟩, ⟨F.AHN_CFG_COOP_EN, .rw, .any⟩], 0xFFFF001F⟩,
  ⟨R.AHN_CMD, 1, none, [⟨F.AHN_CMD_OP, .wo, .any⟩, ⟨F.AHN_CMD_NOTEST, .wo, .any⟩], 0x0⟩,
  ⟨R.AHN_SWAP, 1, none, [], 0xFFFFFF00⟩,
  ⟨R.AHN_MIRROR, 1, none, [], 0xFFFFFFFF⟩,
  ⟨R.AHN_MSEQ_TX, 1, none, [], 0xFFFFFFFF⟩,
  ⟨R.AHN_MSEQ_ACK, 1, none, [], 0xFFFFFFFF⟩,
  ⟨R.AHN_PARTNER, 1, none, [], 0xFFFFFFFF⟩,
  ⟨R.AHN_SW, 1, none, [⟨F.AHN_SW_EN, .rw, .any⟩, ⟨F.AHN_SW_RX_RING, .rw, .any⟩, ⟨F.AHN_SW_TX_RING, .rw, .any⟩], 0x800FFFFF⟩,
  ⟨R.AHN_CNT, 6, none, [⟨F.AHN_CNT_COUNT, .rc, .any⟩], 0xFFFFFFFF⟩]

/-- The registers of DMU. -/
def Regs.tableDMU : List RegDesc := [
  ⟨R.DMU_CTRL, 1, none, [⟨F.DMU_CTRL_LEVEL, .rwl, .any⟩, ⟨F.DMU_CTRL_EN, .rw, .any⟩], 0x3⟩,
  ⟨R.DMU_PARSE, 1, none, [], 0xFFFFFF⟩,
  ⟨R.DMU_STATUS, 1, none, [], 0xFF07⟩,
  ⟨R.DMU_IN_FAULT, 1, none, [], 0xFFFFFF⟩,
  ⟨R.DMU_IN_IDX, 1, none, [⟨F.DMU_IN_IDX_INPUT, .rw, .within 0 23⟩], 0x1F⟩,
  ⟨R.DMU_IN_RMS, 1, some ⟨R.DMU_IN_IDX, 4, 0⟩, [], 0xFFFFFFFF⟩,
  ⟨R.DMU_GRP_IDX, 1, none, [⟨F.DMU_GRP_IDX_QTY, .rw, .within 0 2⟩, ⟨F.DMU_GRP_IDX_GROUP, .rw, .any⟩], 0x3F⟩,
  ⟨R.DMU_GRP_P, 1, some ⟨R.DMU_GRP_IDX, 3, 0⟩, [], 0xFFFFFFFF⟩,
  ⟨R.DMU_GRP_STAT, 1, some ⟨R.DMU_GRP_IDX, 3, 0⟩, [], 0xE000FFFF⟩,
  ⟨R.DMU_ACC_LO, 1, some ⟨R.DMU_GRP_IDX, 5, 0⟩, [], 0xFFFFFFFF⟩,
  ⟨R.DMU_ACC_HI, 1, some ⟨R.DMU_GRP_IDX, 5, 0⟩, [], 0xFFFFFFFF⟩,
  ⟨R.DMU_PO_IDX, 1, none, [⟨F.DMU_PO_IDX_OUTPUT, .rw, .any⟩], 0x7⟩,
  ⟨R.DMU_PO_CFG, 1, some ⟨R.DMU_PO_IDX, 2, 0⟩, [⟨F.DMU_PO_CFG_EN, .rw, .any⟩, ⟨F.DMU_PO_CFG_QTY, .rw, .within 0 2⟩, ⟨F.DMU_PO_CFG_GROUP, .rw, .any⟩, ⟨F.DMU_PO_CFG_WIDTH_MS, .rw, .within 1 255⟩], 0xFE00FF00⟩,
  ⟨R.DMU_PO_WEIGHT, 1, some ⟨R.DMU_PO_IDX, 2, 0⟩, [⟨F.DMU_PO_WEIGHT_WEIGHT_J, .rw, .within 1 4294967295⟩], 0xFFFFFFFF⟩,
  ⟨R.DMU_PO_STAT, 1, some ⟨R.DMU_PO_IDX, 2, 0⟩, [], 0xFFFFFFFF⟩,
  ⟨R.DMU_BAY, 1, none, [⟨F.DMU_BAY_IDLE_MA, .rw, .within 1 65535⟩, ⟨F.DMU_BAY_END_S, .rw, .within 1 255⟩, ⟨F.DMU_BAY_FREE_S, .rw, .within 1 255⟩], 0xFFFFFFFF⟩,
  ⟨R.DMU_BAY_CMD, 1, none, [⟨F.DMU_BAY_CMD_OP, .wo, .any⟩, ⟨F.DMU_BAY_CMD_BAY, .wo, .any⟩], 0x0⟩,
  ⟨R.DMU_OUT, 1, none, [⟨F.DMU_OUT_EN, .rw, .any⟩, ⟨F.DMU_OUT_RING, .rw, .any⟩], 0x800003FF⟩,
  ⟨R.DMU_SAVE, 1, none, [], 0xFFFFFFFF⟩,
  ⟨R.DMU_CNT, 4, none, [⟨F.DMU_CNT_COUNT, .rc, .any⟩], 0xFFFFFFFF⟩]

/-- The registers of KEY. -/
def Regs.tableKEY : List RegDesc := [
  ⟨R.KEY_CTRL, 1, none, [], 0x3⟩,
  ⟨R.KEY_PARSE, 1, none, [], 0xFFFFFF⟩,
  ⟨R.KEY_STATUS, 1, none, [], 0xFFFFFFFF⟩,
  ⟨R.KEY_CMD, 1, none, [⟨F.KEY_CMD_OP, .wo, .any⟩], 0x0⟩,
  ⟨R.KEY_ARG_LO, 1, none, [⟨F.KEY_ARG_LO_ARG, .rw, .any⟩], 0xFFFFFFFF⟩,
  ⟨R.KEY_ARG_HI, 1, none, [⟨F.KEY_ARG_HI_ARG, .rw, .any⟩], 0xFFFFFFFF⟩,
  ⟨R.KEY_SRC, 1, none, [⟨F.KEY_SRC_OFFSET, .rw, .any⟩], 0xFFFFFF8⟩,
  ⟨R.KEY_DST, 1, none, [⟨F.KEY_DST_OFFSET, .rw, .any⟩], 0xFFFFFF8⟩,
  ⟨R.KEY_LC, 1, none, [⟨F.KEY_LC_TARGET, .wo, .any⟩, ⟨F.KEY_LC_KEY, .wo, .any⟩], 0x0⟩,
  ⟨R.KEY_PEER, 12, none, [⟨F.KEY_PEER_DIGEST, .rw, .any⟩], 0xFFFFFFFF⟩]

/-- The registers of UPD. -/
def Regs.tableUPD : List RegDesc := [
  ⟨R.UPD_CTRL, 1, none, [⟨F.UPD_CTRL_LEVEL, .rwl, .any⟩, ⟨F.UPD_CTRL_EN, .rw, .any⟩], 0x3⟩,
  ⟨R.UPD_PARSE, 1, none, [], 0xFFFFFF⟩,
  ⟨R.UPD_STATUS, 1, none, [], 0xFE0007FF⟩,
  ⟨R.UPD_CMD, 1, none, [⟨F.UPD_CMD_OP, .wo, .any⟩], 0x0⟩,
  ⟨R.UPD_SRC, 1, none, [⟨F.UPD_SRC_OFFSET, .rw, .any⟩], 0xFFFFFF8⟩,
  ⟨R.UPD_OFF, 1, none, [⟨F.UPD_OFF_UNIT, .rw, .any⟩], 0x7FF⟩,
  ⟨R.UPD_LEN, 1, none, [⟨F.UPD_LEN_LEN, .rw, .any⟩], 0x1FFFF⟩,
  ⟨R.UPD_CRC, 1, none, [⟨F.UPD_CRC_CRC, .rw, .any⟩], 0xFFFFFFFF⟩,
  ⟨R.UPD_TOTAL, 1, none, [⟨F.UPD_TOTAL_IMG_LEN, .rw, .any⟩], 0xFFFFFFFF⟩,
  ⟨R.UPD_VER_RUN, 1, none, [], 0xFFFFFFFF⟩,
  ⟨R.UPD_VER_PREV, 1, none, [], 0xFFFFFFFF⟩,
  ⟨R.UPD_VER_STAGED, 1, none, [], 0xFFFFFFFF⟩,
  ⟨R.UPD_ROLLBACK, 1, none, [], 0xFFFFFFFF⟩,
  ⟨R.UPD_TRIAL, 1, none, [⟨F.UPD_TRIAL_TRIAL_S, .rw, .within 60 3600⟩], 0xFFFFFFF0⟩]

/-- The registers of LOG. -/
def Regs.tableLOG : List RegDesc := [
  ⟨R.LOG_CTRL, 1, none, [], 0x3⟩,
  ⟨R.LOG_PARSE, 1, none, [], 0xFFFFFF⟩,
  ⟨R.LOG_STATUS, 1, none, [⟨F.LOG_STATUS_DONE, .w1c, .any⟩], 0xFFFF003F⟩,
  ⟨R.LOG_NEXT, 1, none, [], 0xFFFFFFFF⟩,
  ⟨R.LOG_OLDEST, 1, none, [], 0xFFFFFFFF⟩,
  ⟨R.LOG_PERM_FIRST, 1, none, [], 0xFFFFFFFF⟩,
  ⟨R.LOG_PERM_LAST, 1, none, [], 0xFFFFFFFF⟩,
  ⟨R.LOG_CFG, 1, none, [⟨F.LOG_CFG_REPEAT_S, .rw, .within 1 255⟩, ⟨F.LOG_CFG_OUT_EN, .rw, .any⟩, ⟨F.LOG_CFG_RING, .rw, .any⟩], 0xFF07FF⟩,
  ⟨R.LOG_RD_SEQ, 1, none, [⟨F.LOG_RD_SEQ_SEQ, .rw, .any⟩], 0xFFFFFFFF⟩,
  ⟨R.LOG_RD_MAX, 1, none, [⟨F.LOG_RD_MAX_BYTES, .rw, .within 276 67108864⟩], 0x7FFFFFF⟩,
  ⟨R.LOG_DST, 1, none, [⟨F.LOG_DST_OFFSET, .rw, .any⟩], 0xFFFFFF8⟩,
  ⟨R.LOG_CMD, 1, none, [⟨F.LOG_CMD_OP, .wo, .any⟩], 0x0⟩,
  ⟨R.LOG_RD_COUNT, 1, none, [], 0x7FFFFFF⟩,
  ⟨R.LOG_RD_LAST, 1, none, [], 0xFFFFFFFF⟩,
  ⟨R.LOG_RD_RECS, 1, none, [], 0x1FFFFF⟩,
  ⟨R.LOG_CNT, 4, none, [⟨F.LOG_CNT_COUNT, .rc, .any⟩], 0xFFFFFFFF⟩]

/-- The registers of ETH. -/
def Regs.tableETH : List RegDesc := [
  ⟨R.ETH_CTRL, 1, none, [], 0x3⟩,
  ⟨R.ETH_PARSE, 1, none, [], 0xFFFFFF⟩,
  ⟨R.ETH_PORT_IDX, 1, none, [⟨F.ETH_PORT_IDX_PORT, .rw, .any⟩], 0x1⟩,
  ⟨R.ETH_PORT_CFG, 1, some ⟨R.ETH_PORT_IDX, 0, 0⟩, [⟨F.ETH_PORT_CFG_TX_EN, .rw, .any⟩, ⟨F.ETH_PORT_CFG_DEF_EN, .rw, .any⟩, ⟨F.ETH_PORT_CFG_TXR_EN, .rw, .any⟩, ⟨F.ETH_PORT_CFG_DEF_RING, .rw, .any⟩, ⟨F.ETH_PORT_CFG_TX_RING, .rw, .any⟩], 0xFFFFFE00⟩,
  ⟨R.ETH_PORT_STAT, 1, some ⟨R.ETH_PORT_IDX, 0, 0⟩, [], 0xF0000000⟩,
  ⟨R.ETH_MAC_LO, 1, some ⟨R.ETH_PORT_IDX, 0, 0⟩, [], 0xFFFFFFFF⟩,
  ⟨R.ETH_MAC_HI, 1, some ⟨R.ETH_PORT_IDX, 0, 0⟩, [], 0xFFFF⟩,
  ⟨R.ETH_IP, 1, some ⟨R.ETH_PORT_IDX, 0, 0⟩, [⟨F.ETH_IP_IPV4, .rw, .any⟩], 0xFFFFFFFF⟩,
  ⟨R.ETH_RULE_IDX, 1, none, [⟨F.ETH_RULE_IDX_RULE, .rw, .any⟩], 0x1F⟩,
  ⟨R.ETH_RULE_MATCH, 1, some ⟨R.ETH_RULE_IDX, 4, 0⟩, [⟨F.ETH_RULE_MATCH_ETYPE, .rwl, .any⟩, ⟨F.ETH_RULE_MATCH_UDP_PORT, .rwl, .any⟩], 0xFFFFFFFF⟩,
  ⟨R.ETH_RULE_ACT, 1, some ⟨R.ETH_RULE_IDX, 4, 0⟩, [⟨F.ETH_RULE_ACT_EN, .rw, .any⟩, ⟨F.ETH_RULE_ACT_PORTS, .rwl, .any⟩, ⟨F.ETH_RULE_ACT_UDP, .rwl, .any⟩, ⟨F.ETH_RULE_ACT_STRIP, .rwl, .any⟩, ⟨F.ETH_RULE_ACT_RING, .rwl, .any⟩], 0xF80003FF⟩,
  ⟨R.ETH_FWD_IDX, 1, none, [⟨F.ETH_FWD_IDX_FWD, .rw, .any⟩], 0x7⟩,
  ⟨R.ETH_FWD_CFG, 1, some ⟨R.ETH_FWD_IDX, 2, 0⟩, [⟨F.ETH_FWD_CFG_EN, .rw, .any⟩, ⟨F.ETH_FWD_CFG_PORT, .rwl, .any⟩, ⟨F.ETH_FWD_CFG_RING, .rwl, .any⟩], 0xC00003FF⟩,
  ⟨R.ETH_FWD_TPL, 1, some ⟨R.ETH_FWD_IDX, 2, 0⟩, [⟨F.ETH_FWD_TPL_OFFSET, .rwl, .any⟩], 0xFFFFFC0⟩,
  ⟨R.ETH_CNT, 6, some ⟨R.ETH_PORT_IDX, 0, 0⟩, [⟨F.ETH_CNT_COUNT, .rc, .any⟩], 0xFFFFFFFF⟩]

/-- The registers of HST. -/
def Regs.tableHST : List RegDesc := [
  ⟨R.HST_CTRL, 1, none, [], 0x3⟩,
  ⟨R.HST_PARSE, 1, none, [], 0xFFFFFF⟩,
  ⟨R.HST_STATUS, 1, none, [], 0xFF⟩,
  ⟨R.HST_RING_IDX, 1, none, [⟨F.HST_RING_IDX_RING, .rw, .any⟩], 0x3FF⟩,
  ⟨R.HST_RING_BASE, 1, some ⟨R.HST_RING_IDX, 9, 0⟩, [⟨F.HST_RING_BASE_BASE, .rwl, .any⟩], 0xFFFF000⟩,
  ⟨R.HST_RING_CFG, 1, some ⟨R.HST_RING_IDX, 9, 0⟩, [⟨F.HST_RING_CFG_EN, .rw, .any⟩, ⟨F.HST_RING_CFG_DIR, .rwl, .within 0 2⟩, ⟨F.HST_RING_CFG_MODE, .rwl, .any⟩, ⟨F.HST_RING_CFG_LOG2_COUNT, .rwl, .within 0 12⟩, ⟨F.HST_RING_CFG_SLOT_LOG2, .rwl, .within 4 12⟩, ⟨F.HST_RING_CFG_VEC, .rw, .any⟩], 0xFFF0003F⟩,
  ⟨R.HST_RING_DROP, 1, some ⟨R.HST_RING_IDX, 9, 0⟩, [⟨F.HST_RING_DROP_SIZE_DROP, .rc, .any⟩, ⟨F.HST_RING_DROP_DROP, .rc, .any⟩], 0xFFFFFFFF⟩,
  ⟨R.HST_CNT, 4, none, [⟨F.HST_CNT_COUNT, .rc, .any⟩], 0xFFFFFFFF⟩,
  ⟨R.HST_MSIX, 256, none, [⟨F.HST_MSIX_WORD, .rw, .any⟩], 0xFFFFFFFF⟩,
  ⟨R.HST_PBA, 2, none, [], 0xFFFFFFFF⟩,
  ⟨R.HST_DB, 1024, none, [⟨F.HST_DB_ARM, .wo, .any⟩, ⟨F.HST_DB_INDEX, .rw, .any⟩], 0xFFFFFF⟩]

/-- Every register of BAR0. -/
def Regs.table : List RegDesc :=
  Regs.tableGLB ++
  Regs.tableSIM ++
  Regs.tablePWR ++
  Regs.tableRST ++
  Regs.tableHPG ++
  Regs.tableEVT ++
  Regs.tableXQ ++
  Regs.tableCLS ++
  Regs.tableAUT ++
  Regs.tableSLV ++
  Regs.tableGRX ++
  Regs.tableTIM ++
  Regs.tablePTP ++
  Regs.tableAIR ++
  Regs.tableRHL ++
  Regs.tableDSP ++
  Regs.tableLPE ++
  Regs.tableAHN ++
  Regs.tableDMU ++
  Regs.tableKEY ++
  Regs.tableUPD ++
  Regs.tableLOG ++
  Regs.tableETH ++
  Regs.tableHST

/-- The register that offset `a` names, if any (R332: any other offset is unmapped). -/
def Regs.descAt (a : Nat) : Option RegDesc :=
  Regs.table.find? (fun d => decide (d.addr ≤ a) && decide (a < d.addr + 4 * d.count) && (a - d.addr) % 4 == 0)

end Sys2Proof.Machine
end

