-- ==== Sys2Proof/Machine/Sparse.lean ====
section
/-!
DEFINITION. Sparse tables as plain data. A table is a list of (key, value) pairs with strictly rising keys, in ONE
canonical form: no entry equals what an unlisted key reads as. Writing that value removes the entry, so equal tables
are equal lists.
-/

namespace Sys2Proof.Machine

/-- A sparse table: the listed (key, value) pairs. What an unlisted key reads as is an argument of the reader. -/
abbrev SMap (α : Type) := List (Nat × α)

/-- What key `k` holds; an unlisted key holds `d`. -/
def SMap.get {α : Type} (m : SMap α) (d : α) (k : Nat) : α :=
  match m with
  | [] => d
  | (k', v) :: rest => if k = k' then v else SMap.get rest d k

/-- Remove key `k`. -/
def SMap.erase {α : Type} (m : SMap α) (k : Nat) : SMap α :=
  match m with
  | [] => []
  | (k', v) :: rest => if k = k' then SMap.erase rest k else (k', v) :: SMap.erase rest k

/-- List key `k` with value `v`, keys kept rising. -/
def SMap.insert {α : Type} (m : SMap α) (k : Nat) (v : α) : SMap α :=
  match m with
  | [] => [(k, v)]
  | (k', v') :: rest =>
    if k = k' then (k, v) :: rest else if k < k' then (k, v) :: (k', v') :: rest else (k', v') :: SMap.insert rest k v

/-- Write `v` at key `k`, keeping the canonical form for the unlisted value `d`. -/
def SMap.set {α : Type} [DecidableEq α] (m : SMap α) (d : α) (k : Nat) (v : α) : SMap α :=
  if v = d then m.erase k else m.insert k v

/-- Change what key `k` holds by `f`. -/
def SMap.update {α : Type} [DecidableEq α] (m : SMap α) (d : α) (k : Nat) (f : α → α) : SMap α :=
  m.set d k (f (m.get d k))

/-- Every listed key is above `k`. -/
def SMap.above {α : Type} (k : Nat) (m : SMap α) : Bool :=
  match m with
  | [] => true
  | (k', _) :: _ => decide (k < k')

/-- The canonical form: keys strictly rising, and no entry equal to the unlisted value of its key. -/
def SMap.wf {α : Type} [DecidableEq α] (d : Nat → α) (m : SMap α) : Bool :=
  match m with
  | [] => true
  | (k, v) :: rest => decide (v ≠ d k) && SMap.above k rest && SMap.wf d rest

/-- The listed keys. -/
def SMap.keys {α : Type} (m : SMap α) : List Nat := m.map Prod.fst

end Sys2Proof.Machine
end

