-- ==== Sys2Proof/Machine/State.lean ====
section
/-!
DEFINITION. The state of the module as plain data, one structure per block, and the state after reset.
Every field a register shows and no other rule changes has its ONE home in `regs`; what an engine keeps beyond its
registers, and what a register only reports, is a field of that engine's structure (Machine/Flags.lean computes the
register's view). Times are in ns: `mono` of the local clock since start, `tai` device time.
-/

namespace Sys2Proof.Machine

/-! ## Outputs of the module -/

/-- What leaves the module: the model's own record of it, newest first in `State.out`. -/
inductive Emit where
  /-- An MSI-X message (R340, R342). -/
  | msix (vec : Nat) (addr : Nat) (data : Nat)
  /-- A DMA write to a host bus address (R336). -/
  | dma (addr : Nat) (bytes : List Byte)
  /-- A frame on an Ethernet port, less its FCS (R346). -/
  | eth (port : Nat) (frame : List Byte)
  /-- A frame a modem puts on air, with the channel-access class of R214 (true: priority). -/
  | air (modem : Nat) (frame : AirFrame) (signal : AirSignal)
  /-- A beacon on air cut so that its CMAC fails (R99). -/
  | airTruncated (modem : Nat)
  /-- A heartbeat (`test`: its SWAP_REQ asks for the token path test first), HELLO or mirror message on the Ahnob link (R306). -/
  | heartbeat (msg : List Byte) (test : Bool)
  | hello (h : Hello)
  | mirror (m : MirrorMsg)
  /-- A standby's request for a snapshot (R314). -/
  | snapRequest
  /-- A key message on the Ahnob link (R415, R416): the step and its content. -/
  | keyMsg (step : Nat) (content : List Byte)
  /-- Words to a radio head: blocks (R252), each with the idle word before it. -/
  | head (link : Nat) (blocks : List (List Byte))
  /-- The result of a primitive at the dispatcher port (true) or the core port of CLS (R51). -/
  | clsResult (toDispatcher : Bool) (bytes : List Byte)
  /-- A level change on an output pin named by its number in `Pin`. -/
  | pin (p : Pin) (level : Bool)
  /-- A pulse on an output pin: its high time, ns. -/
  | pulse (p : Pin) (ns : Nat)
  /-- A PTP message (R196–R198) on a port, over IEEE 802.3 or UDP; `zeroSum`: with UDP checksum 0. -/
  | ptp (port : Nat) (udp : Bool) (zeroSum : Bool) (msg : List Byte)
  deriving DecidableEq, Repr

/-! ## Events, vectors and rings (R334–R343) -/

/-- EVT: ESEQ, the LOST flag owed to the next record, when 239 was last raised, and per vector the time of its last
message and whether a merged signal waits (R340–R342). `fresh` lists the vectors whose MSI-X entry the host has written
since the last PERST_N (R351); `raises` counts the events raised, `raisedAt` has that count at the last raise of each. -/
structure EvtSt where
  eseq : Nat
  lost : Bool
  lastLost : Option Nat
  vecLast : SMap (Option Nat)
  vecWait : SMap Bool
  fresh : SMap Bool
  raises : Nat
  raisedAt : SMap Nat
  deriving DecidableEq, Repr

/-- A host ring's indices (R335): producer, consumer, whether its notification is armed, and RSEQ (R337). -/
structure Ring where
  p : Nat
  c : Nat
  armed : Bool
  rseq : Nat
  deriving DecidableEq, Repr

/-- A ring never used. -/
def Ring.idle : Ring := ⟨0, 0, false, 0⟩

/-- A crossing queue (R348): its items with their end-of-packet marks, oldest first; the consumer's stall; held after a
reset; a DROP waiting for its end-of-packet mark (R350). -/
structure XQueue where
  items : List (Nat × Bool)
  stalled : Bool
  held : Bool
  dropping : Bool
  deriving DecidableEq, Repr

/-- A queue at rest. -/
def XQueue.idle : XQueue := ⟨[], false, false, false⟩

/-- ETH: when event 234 was last raised (R345). -/
structure EthSt where
  lastDrop : Option Nat
  deriving DecidableEq, Repr

/-! ## Logbook (R431–R442) -/

/-- A logbook READ in progress (R439). -/
structure LogRead where
  perm : Bool
  seq : Nat
  maxBytes : Nat
  dst : Nat
  deriving DecidableEq, Repr

/-- LOG: the write buffer (oldest first), the erase units of the circulating area (oldest first), the permanent area, the
next LSEQ, repeat entries, the events written within the repeat window, records dropped and not yet reported, units
retired, the READ in progress. -/
structure LogSt where
  next : Nat
  buf : List LogRec
  circ : List (List LogRec)
  perm : List LogRec
  repeats : List LogRepeat
  recent : List (Nat × Nat × Nat × Nat)
  dropped : Nat
  dropFirst : Nat
  dropLast : Nat
  retired : Nat
  read : Option LogRead
  deriving DecidableEq, Repr

/-! ## Power, reset, live insertion (R360–R382) -/

/-- What the module is doing about reset (R369–R378). -/
inductive RstPhase where
  /-- A reset source still holds the module in reset. -/
  | held
  /-- The reference domain is about to start and the loader to run (R372). -/
  | loading
  /-- Options are applied and the domains are being released (R375). -/
  | releasing
  | running
  /-- The internal rails are removed after a thermal trip (R464). -/
  | tripped
  deriving DecidableEq, Repr

/-- A unit of the maintenance rotation (R364). -/
inductive TestUnit where
  | lane | modem | channel | queue
  deriving DecidableEq, Repr

/-- A maintenance test that runs (R364): its unit and the leave it holds. -/
structure MaintTest where
  unit : TestUnit
  index : Nat
  mw : Nat
  started : Nat
  deriving DecidableEq, Repr

/-- A whole-module test (R366): waiting for its first non-RUN beacon, waiting out 1 s after it, or running. -/
inductive WholeTest where
  | idle | waitBeacon | waitSecond (since : Nat) | running
  deriving DecidableEq, Repr

/-- PWR: lanes holding a SERVICE leave, the maintenance test and the position of the rotation, when the last test
started, units out of service and those that failed a test, the whole-module test, and when events 3 and 15 were last raised. -/
structure PwrSt where
  laneLeaves : List Nat
  test : Option MaintTest
  rotation : Nat
  lastTest : Nat
  outOfService : List (TestUnit × Nat)
  failed : List (TestUnit × Nat)
  whole : WholeTest
  lastRefused : Option Nat
  lastHot : Option Nat
  deriving DecidableEq, Repr

/-- RST: the phase, the time of the first host-reset key, an option WRITE in progress. -/
structure RstSt where
  phase : RstPhase
  key1 : Option Nat
  optWrite : Option OptRec
  deriving DecidableEq, Repr

/-- HPG: when EJECT_N was accepted (R379), and whether a lone active module reached removal-ready (R380). -/
structure HpgSt where
  ejectAt : Option Nat
  lone : Bool
  deriving DecidableEq, Repr

/-- The backup domain (R382): RTC in ns of TAI, operating hours, power cycles, resets, strikes. -/
structure Backup where
  rtc : Nat
  rtcValid : Bool
  hours : Nat
  pcycles : Nat
  resets : Nat
  strikes : Nat
  lost : Bool
  deriving DecidableEq, Repr

/-- Levels on the input pins of J1 and the front panel that rules read. -/
structure Pins where
  p12v : Bool
  resetLow : Bool
  presentLow : Bool
  ejectLow : Bool
  stopALow : Bool
  stopBLow : Bool
  commaLow : Bool
  roleInLow : Bool
  perstHigh : Bool
  slotId : Nat
  revB : Bool
  deriving DecidableEq, Repr

/-! ## Structure images (R21–R30) -/

/-- A SIM command in progress (R31, R41). -/
inductive SimCmd where
  | loadHost (bytes : Option (List Byte)) (len : Nat)
  | loadFlash (slot : Nat)
  | applyFull
  | applySections
  | store (slot : Nat)
  deriving DecidableEq, Repr

/-- SIM: the staged and the applied image, the command running with its SLOT bit, whether an apply waits for the parse checks
queued before it (R32), parse checks queued in order (block ID), CTRL writes held by an apply (block ID and word), and whether
the start-up load of R30 is due. -/
structure SimSt where
  staged : Option (List Byte)
  applied : Option (List Byte)
  cmd : Option SimCmd
  slot : Nat
  waiting : Bool
  checks : List Nat
  heldEn : List (Nat × Word)
  startup : Bool
  deriving DecidableEq, Repr

/-! ## Loop Engine (R287–R298) -/

/-- What LPE keeps of a slot beyond its registers: accumulator 2, updates since its outer slot last fired (R294), the
follow-table entry a GAP slot serves, and whether event 190 is spent until the next normal update. -/
structure LpeSlot where
  acc2 : Int
  k : Nat
  pair : Option Nat
  forcedSeen : Bool
  deriving DecidableEq, Repr

/-- A slot at rest. -/
def LpeSlot.idle : LpeSlot := ⟨0, 0, Option.none, false⟩

/-- A queued update (R293): slot, input, aid, and for a GAP slot the entry it serves. -/
structure LpeUpd where
  slot : Nat
  x : Int
  aid : Int
  pair : Option Nat
  deriving DecidableEq, Repr

/-- The newest solution of a machine that CLS has checked (R296): epoch in clause time, position, speed by axis, inflated
radius, quality class. -/
structure GapSol where
  epoch : Nat
  e : Int
  n : Int
  ve : Int
  vn : Int
  r : Nat
  qclass : Nat
  deriving DecidableEq, Repr

/-- LPE: slots, the update queue, follow-table entries in the order in which they were entered, per GAP slot the newest
solutions of leader and follower since it was assigned, updates since the last whole second, when event 185 was raised. -/
structure LpeSt where
  slots : SMap LpeSlot
  queue : List LpeUpd
  pairs : List Nat
  leadSol : SMap (Option GapSol)
  follSol : SMap (Option GapSol)
  updates : Nat
  lastDrop : Option Nat
  deriving DecidableEq, Repr

/-! ## Clause Engine (R43–R77) -/

/-- CLS: the clause table, each machine's chain of indices in order, the free list (indices from `freeNext` on have never
been taken, then `freeTail` in order), the follow table, each machine's last checked footprint, whether event 49 is
spent until the table is below full, and whether event 50 is, interval checks made in each bank since the last whole second (R73, R470),
and when the last automatic sweep was. -/
structure ClsSt where
  clauses : SMap Clause
  chains : SMap (List Nat)
  freeNext : Nat
  freeTail : List Nat
  follow : SMap (Option FollowPair)
  lastFp : SMap (Option Footprint)
  fullSeen : Bool
  nearSeen : Bool
  load : SMap Nat
  sweptAt : Option Nat
  deriving DecidableEq, Repr

/-! ## Authority (R81–R109) -/

/-- What AUT keeps for a machine: revocation (0 none, 1 solecism, 2 host), WAIT, whether the last check result was NO_CLAUSE, the
last record, LIMIT_T and VMAX as CLS last passed them, and the device time at which the last record was written. -/
structure AutMach where
  revoked : Nat
  wait : Bool
  noClause : Bool
  record : Option AuthRec
  limitT : Nat
  vmax : Nat
  written : Nat
  deriving DecidableEq, Repr

/-- A machine AUT has not heard of. -/
def AutMach.none : AutMach := ⟨0, false, false, Option.none, 0, 0, 0⟩

/-- A stop frame whose repeats are due (R99, R219): TENSE, CAUSE and SEQ of its payload, the BI, counted on device time, of the change, the BI of
its last flood, the frame of that flood, and the control modems that flood has been started on. -/
structure StopRepeat where
  tense : Nat
  cause : Nat
  seq : Nat
  bi : Nat
  last : Nat
  frame : AirFrame
  done : List Nat
  deriving DecidableEq, Repr

/-- AUT: the FULL STOP latch and the latched sources AIR and START, causes, the COMMA sources that are not a register, the
tense last acted on (0: disabled); the SEQ of the next slot to seal, of the last sealed and of the last opened; the block sealed
for the coming slot, the beacon on air and until when; whether the first beacon since a takeover is still to come; machines; the
first re-arm key's time, a re-arm abandoned, the time of the last re-arm; when the newest usable reference epoch was reported,
and since when its age is below the limit; stop frame repeats. -/
structure AutSt where
  fsLatch : Bool
  fcause : Nat
  ccause : Nat
  fsAir : Bool
  fsStart : Bool
  commaPin : Bool
  commaAge : Bool
  commaRearm : Bool
  commaTest : Bool
  tense : Nat
  seq : Nat
  lastSeq : Nat
  openSeq : Nat
  sealed : Option TokenBlock
  onAir : Option TokenBlock
  onAirUntil : Nat
  takeover : Bool
  mach : SMap AutMach
  rearmKey : Option Nat
  rearmVoid : Bool
  rearmAt : Nat
  refAt : Option Nat
  ageOkSince : Option Nat
  stopRepeats : List StopRepeat
  deriving DecidableEq, Repr

/-- The Warden (R101, R102): the fault latched, the renewal issued for the next slot, the self-test's outcome, its own
SEQ count, consecutive strobe failures, the time of the last strobe and of the last kick. -/
structure WardenSt where
  fault : Nat
  renewed : Bool
  selfTest : Bool
  seq : Option Nat
  strobeFails : Nat
  lastKick : Nat
  deriving DecidableEq, Repr

/-! ## Keys, life cycle, firmware (R412–R428) -/

/-- An enrolment in progress (R415): on the new module N or the holder H, when the command came, the module's ephemeral private key, and
the partner's ephemeral public key once its keys have been checked. -/
structure Enrol where
  isNew : Bool
  since : Nat
  eph : Nat
  peer : Option (List Byte)
  deriving DecidableEq, Repr

/-- The key store and the fuses, which every reset keeps: life-cycle state, root, pair root, beacon generation, enrolled
image-signing keys, the sealed SEQ store of R84 (none: it cannot be read). -/
structure KeyStore where
  lc : Nat
  root : Option Nat
  pairRoot : Option Nat
  bgen : Nat
  imgKeys : SMap (Option (List Byte))
  seqStore : Option Nat
  deriving DecidableEq, Repr

/-- KEY beyond its store: an enrolment in progress, the first life-cycle key with its TARGET and time. -/
structure KeySt where
  enrol : Option Enrol
  lcKey1 : Option (Nat × Nat)
  deriving DecidableEq, Repr

/-- The firmware slots and the copy record in NAND, the transfer in progress, the rollback fuses and the trial
(R423–R425); every reset keeps them. -/
structure FwStore where
  run : Option (List Byte)
  prev : Option (List Byte)
  stage : Option (List Byte)
  received : SMap (Option (List Byte))
  receiving : Option Nat
  prevDone : Bool
  rollback : Nat
  trial : Bool
  trialResets : Nat
  revert : Bool
  deriving DecidableEq, Repr

/-- UPD beyond its store: when the trial's run started, and whether the loader's copy of R424 is due. -/
structure UpdSt where
  trialAt : Nat
  copyDue : Bool
  deriving DecidableEq, Repr

/-! ## NAND contents that every reset keeps -/

/-- The structure-image slots and boot record (R29), the quarantine of R445 (per machine the `validNs` at which it
ends) and for how long device time has been valid in all (`validNs`, ns, the model's own measure), each stop sender's counter (`AIR_SND_CTR`, 0: none accepted, else SCTR), the UTC offset and leap second of R191
(`TIM_UTC`, `TIM_LEAP`), the held positions of ANT_A and ANT_B (R168: ECEF X, Y, Z, 0.1 mm), the ephemerides and almanacs of R156 (by
system × 64 + SVID). -/
structure Nand where
  slot0 : Option (List Byte)
  slot1 : Option (List Byte)
  boot : Nat
  quarantine : SMap (Option Nat)
  validNs : Nat
  sndCtr : SMap Nat
  utc : Word
  leap : Word
  heldA : Option (List Int)
  heldB : Option (List Int)
  nav : SMap (Option NavEph)
  alm : SMap (Option Nat)
  deriving DecidableEq, Repr

/-! ## The pair (R302–R323) -/

/-- A swap the active module has accepted (R320): cause, the local time at which slot s opens, whether HANDOVER has been sent. -/
structure Swap where
  cause : Nat
  slotAt : Nat
  sent : Bool
  deriving DecidableEq, Repr

/-- AHN: role, and since when one is held or none is; ROLE_OUT_N; a claim being sampled (local time, cause, 0 for R313) ; FAIL_N; the link and MISMATCH; HB_OK, the
last valid heartbeat and its time; the partner's HELLO; the cause of a RELEASE in force; the last mirror sequence sent, and acknowledged or
applied; the sequences sent and not acknowledged with their times, and since when the oldest has been more than 500 ms old; a snapshot asked for and not yet begun, applied to its end; the swap accepted; the
cause of the SWAP_REQ the next heartbeats carry and whether it asks for a test; SWAP_ACK and SWAP_NAK in the next; the cause of a
swap the active module may accept; the cause of a swap the standby has agreed to; the cause RELEASE carries; a token path test's start and
whether a swap follows; when a cooperative swap or refusal last was; a wait on ROLE_IN_N reported; HANDOVER applied; the highest SEQ
known; a same-pair beacon of a lower SLOT_ID heard while active. -/
structure AhnSt where
  role : Role
  roleSince : Nat
  roleOut : Bool
  claim : Option (Nat × Nat)
  failN : Bool
  linkUp : Bool
  mismatch : Bool
  hbOk : Bool
  hb : Option Heartbeat
  hbAt : Nat
  hello : Option Hello
  releaseSeen : Nat
  mseqTx : Nat
  mseqAck : Nat
  unacked : List (Nat × Nat)
  lagHigh : Option Nat
  snapWanted : Bool
  snapDone : Bool
  swap : Option Swap
  swapReq : Nat
  swapTest : Bool
  swapAck : Bool
  swapNak : Bool
  swapOk : Nat
  planned : Nat
  relCause : Nat
  test : Option Nat
  testThenSwap : Bool
  coopHold : Option Nat
  interlock : Bool
  handover : Bool
  seqKnown : Nat
  splitHeard : Bool
  deriving DecidableEq, Repr

/-! ## Radio head links (R250–R267) -/

/-- A radio head link: state (R260) and when it was entered, consecutive blocks failing CRC, round trips less turnaround
measured in DELAY, CTRLs not yet answered (OP + 256 × STREAM, TAG), when event 164 was last raised, when the last ALARM came. -/
structure RhlLink where
  state : Nat
  since : Nat
  crcRun : Nat
  delays : List Nat
  answers : List (Nat × Nat)
  lastTxLate : Option Nat
  alarmAt : Nat
  deriving DecidableEq, Repr

/-- A link at rest. -/
def RhlLink.idle : RhlLink := ⟨0, 0, 0, [], [], Option.none, 0⟩

/-- What has come on a stream (R253, R263): STAMP of the last block; samples, and their summed power, since the gain was last adjusted. -/
structure RxStream where
  stamp : Option Nat
  count : Nat
  power : Nat
  deriving DecidableEq, Repr

/-- A stream nothing has come on. -/
def RxStream.none : RxStream := ⟨Option.none, 0, 0⟩

/-- RHL: the links, and per stream (link + 2 × stream) when event 165 was last raised and what has come. -/
structure RhlSt where
  links : SMap RhlLink
  gainEvent : SMap (Option Nat)
  rx : SMap RxStream
  deriving DecidableEq, Repr

/-! ## Air protocol (R207–R246) -/

/-- A control-channel frame waiting for the channel (R221–R223): its modem and frame, priority or normal, busy listens so
far, backoff exponent, since when it has listened, the local time before which it does not listen (again), and whether it counts as deferred. -/
structure AirWait where
  modem : Nat
  frame : AirFrame
  prio : Bool
  busy : Nat
  be : Nat
  since : Nat
  until' : Nat
  deferred : Bool
  deriving DecidableEq, Repr

/-- A DATA_DN payload waiting for a burst: its machine, and whether it counts as deferred (R223). -/
structure AirData where
  mi : Nat
  payload : List Byte
  deferred : Bool
  deriving DecidableEq, Repr

/-- A slot of a wide channel kept free for others until a superframe (R228): channel, machine that had it, grant, first
superframe of reuse. -/
structure SlotHold where
  wch : Nat
  mi : Nat
  grant : Grant
  until' : Nat
  deriving DecidableEq, Repr

/-- AIR: machines, the last accepted JCTR plus 1 by serial (R226), frames waiting for a control channel, records not yet sent, DATA_DN frames
waiting for a burst, the local time at which each modem's last frame ends, a BI (counted on device time) and the SEQ of its slot, COVER of
the last beacon, flood and frame sequence numbers, seen floods, frames received in
the last 2 s, airtime buckets per modem (second, ns), held slots, per channel when event 131 was raised, when events 143
and 144 were, when a same-pair beacon was last heard while active, whether one was heard since the last slot, when one was last heard in any role,
per modem the fullest burst of the present superframe, % of DL_US, and the last BI whose beacon was counted heard or missed, plus 1. -/
structure AirSt where
  mach : SMap AirMach
  jctrs : SMap Nat
  waiting : List AirWait
  recs : List (AuthRec × Nat)
  dataDn : List AirData
  txEnd : SMap Nat
  seqRef : Option (Nat × Nat)
  cover : Option Nat
  fseq : Nat
  fctr : Nat
  seen : List (Nat × Nat)
  recent : List (Nat × Nat × Nat)
  duty : SMap (List (Nat × Nat))
  holds : List SlotHold
  rateEvent : SMap (Option Nat)
  lastDefer : Option Nat
  lastCmac : Option Nat
  splitAt : Option Nat
  heardNow : Bool
  pairHeardAt : Option Nat
  dlPct : SMap Nat
  missBi : Nat
  deriving DecidableEq, Repr

/-! ## Solve Array (R112–R149) -/

/-- A lane (R131–R135): the epoch on it, awake, on a leave, and when it last became idle. -/
structure SlvLane where
  busy : Option Bundle
  awake : Bool
  leave : Bool
  idleAt : Nat
  deriving DecidableEq, Repr

/-- A lane asleep. -/
def SlvLane.asleep : SlvLane := ⟨Option.none, false, false, 0⟩

/-- How SLV is served with a reference (R139–R142): none yet or none left, GRX sets, prediction, fallback to a stream. -/
inductive RefMode where
  | none | grx | predicted | fallback (stream : Nat)
  deriving DecidableEq, Repr

/-- An auxiliary stream (R142): the epochs it has delivered in the last 2 s, when it delivered the newest, the station's position,
LAT_MS, whether it is LIVE, and the observations of an epoch whose last message is still to come. -/
structure SlvAux where
  epochs : List RefEpoch
  at' : Option Nat
  pos : Option (List Int)
  latMs : Nat
  live : Bool
  part : Option (Nat × List Obs)
  deriving DecidableEq, Repr

/-- A stream that has delivered nothing. -/
def SlvAux.idle : SlvAux := ⟨[], Option.none, Option.none, 0, false, Option.none⟩

/-- SLV: filters, rates, the last outcome of each machine, the intake in order of arrival, epochs of faulted lanes that restart, machine-link
epochs whose last message is still to come, lanes, reference epochs of the last 2 s, how it is served, the newest usable epoch (clause
time) and the local clock at it, the antenna of the newest set, streams, A, shed steps by class, when a lane leave was last refused,
outcomes since the last whole second, when event 93 was raised, and solutions delivered to CLS and not yet checked. -/
structure SlvSt where
  filters : SMap SlvFilter
  rates : SMap SlvRate
  last : SMap (Option SolRec)
  intake : List Bundle
  retry : List Bundle
  links : SMap (Option (Nat × List Obs))
  lanes : SMap SlvLane
  refs : List RefEpoch
  mode : RefMode
  lastOk : Option Nat
  lastOkAt : Option Nat
  ant : Nat
  aux : SMap SlvAux
  awakeWant : Nat
  shed : SMap Nat
  refusedAt : Option Nat
  outcomes : Nat
  lastInvalid : Option Nat
  toCheck : List SolRec
  deriving DecidableEq, Repr

/-! ## Device time and network time (R180–R206) -/

/-- What TIM does with GNSS: nothing yet (or time became invalid), disciplining, holdover, host-set time. -/
inductive TimMode where
  | none | disciplined | holdover | host
  deriving DecidableEq, Repr

/-- A change of device time that waits for a PPS edge + 500 ms (R189, R192): a step, or a host set with the time written, the local
clock at the write and ERR_US. -/
inductive TimPend where
  | step
  | set (time at' errUs : Nat)
  deriving DecidableEq, Repr

/-- A timed output that is armed (R194): the device time of its next scheduled edge, whether that edge rises, its level. -/
structure TimedOut where
  next : Nat
  rising : Bool
  high : Bool
  deriving DecidableEq, Repr

/-- TIM: mode, the estimate when the present growth began and when that was, what it learned (frequency uncertainty, 1e-15; ageing
bound, 1e-18/s), whether time was ever valid and LOCKED since reset, usable epochs in a row, the offsets a verification has
collected, epochs in a row within 40 ns, the present offset (ns), a pending change, the last whole second and the last PPS edge
(local clock), timed outputs, capture stamps by input (device time, rising), when TIM last wrote the RTC. -/
structure TimSt where
  mode : TimMode
  est0 : Nat
  estAt : Nat
  fUnc : Nat
  ageing : Nat
  everValid : Bool
  everLocked : Bool
  run : Nat
  fit : List Int
  inside : Nat
  offset : Int
  drift : Int
  pend : Option TimPend
  second : Option Nat
  edge : Option Nat
  dacs : List (Nat × Int)
  outs : SMap (Option TimedOut)
  caps : SMap (List (Nat × Bool))
  rtcAt : Nat
  lastEpoch : Option Nat
  deriving DecidableEq, Repr

/-- TIM after a reset (R184, R192). -/
def TimSt.reset : TimSt :=
  { mode := .none, est0 := 0, estAt := 0, fUnc := 50000000, ageing := 100000, everValid := false, everLocked := false, run := 0,
    fit := [], inside := 0, offset := 0, drift := 0, pend := none, second := none, edge := none, dacs := [], outs := [], caps := [], rtcAt := 0,
    lastEpoch := none }

/-- A PTP port (R196–R198): the foreign masters it has heard; the next sequenceIds; when it last sent Sync, Announce and Pdelay_Req; its last
Pdelay_Req (sequenceId, time of sending) and the response to it (time of receipt, the time it carries, its correction, ns); of two-step
Syncs that came in by it, the sender, sequenceId and correction for the Follow_Up (ns). -/
structure PtpPort where
  foreign : List PtpForeign
  seqSync : Nat
  seqAnn : Nat
  seqPdelay : Nat
  syncAt : Option Nat
  annAt : Option Nat
  pdelayAt : Option Nat
  asked : Option (Nat × Nat)
  answer : Option (Nat × Nat × Int)
  fwd : List (Nat × Nat × Int)
  deriving DecidableEq, Repr

/-- A port that has sent nothing. -/
def PtpPort.idle : PtpPort := ⟨[], 0, 0, 0, none, none, none, none, none, []⟩

/-! ## The reference receiver (R150–R178) -/

/-- A tracking channel (R154–R157): state (1 idle, 2 acquiring, 3 code lock, 4 phase lock), satellite, when it was assigned or lost its signal,
half-cycle unresolved, SLIP for the next set, since when LOCK runs, CN0, elevation (0.01 degrees), consecutive epochs with an asymmetry
above 0.2 (R166), and when its carrier and its code loop last took a sample (R157). -/
structure GrxChan where
  state : Nat
  svid : Nat
  since : Nat
  half : Bool
  slip : Bool
  lockAt : Nat
  cn0 : Nat
  elev : Int
  asymRun : Nat
  carrAt : Option Nat
  codeAt : Option Nat
  deriving DecidableEq, Repr

/-- An idle channel. -/
def GrxChan.idle : GrxChan := ⟨1, 0, 0, false, false, 0, 0, 0, 0, none, none⟩

/-- An ephemeris (R162): what was broadcast, the signals it reports healthy, whether it came from the store at start, and the device time at which it was accepted (0: at
start). -/
structure GrxEph where
  issue : Nat
  content : Nat
  fitFrom : Nat
  fitTo : Nat
  healthy : List Nat
  stored : Bool
  at' : Nat
  deriving DecidableEq, Repr

/-- What a monitor remembers of an epoch (R166): its local time, CN0 by channel, gain reductions by path. -/
structure CnEpoch where
  at' : Nat
  cn0 : List (Nat × Nat)
  jamDb : SMap Nat
  deriving DecidableEq, Repr

/-- A notch in place (R164): centre offset (10 kHz), width code, EXCESS, since when its peak is absent. -/
structure GrxNotch where
  offset : Int
  width : Nat
  excess : Nat
  absent : Option Nat
  deriving DecidableEq, Repr

/-- A survey (R168): SELF or KNOWN, when it began, epochs so far with too few satellites, and of ANT_A's code positions their number and the
sum of each axis. -/
structure GrxSurvey where
  self : Bool
  since : Nat
  few : Nat
  count : Nat
  sum : List Int
  deriving DecidableEq, Repr

/-- GRX: channels; satellites released and until when they stay so; ephemerides by satellite (system × 64 + SVID), the accepted ones newest
first, and those received once; almanacs; whether a record since the last epoch failed check DATA; monitor epochs of the last second;
the last epoch measured (clause time), the time solution TIM has not yet taken, the reference antenna's set while RTCM has not sent
it; notches (antenna × 12 +
path × 4 + notch), consecutive estimates of each peak by path (antenna × 3 + path), gain reductions and quiet levels by path; when an
enabled check last failed; whether ANT_A was named since start, waits to be named again, and since when it is usable; consecutive
epochs of the baseline: residual, deviating, within tolerance; set counters; a survey; KNOWN values completed (antenna × 4 + axis);
issue of data station, whether a position message is due, the antenna last named; when event 110 was raised, when the station messages
were last sent; by antenna when a
short was last met, and since when a retry holds. -/
structure GrxSt where
  chans : SMap GrxChan
  bans : List (Nat × Nat × Nat × Nat)
  eph : SMap (List GrxEph)
  once : SMap (Option NavEph)
  alm : SMap (Option Nat)
  dataBad : Bool
  cnHist : List CnEpoch
  lastEpoch : Option Nat
  sol : Option TimeSol
  ref : Option RefEpoch
  notches : SMap (Option GrxNotch)
  peaks : SMap (List (Int × Nat))
  jamDb : SMap Nat
  quiet : SMap Nat
  badAt : Option Nat
  aNamed : Bool
  aWait : Bool
  aSince : Option Nat
  rmsRun : Nat
  devRun : Nat
  okRun : Nat
  setSeq : SMap Nat
  survey : Option GrxSurvey
  known : SMap (Option Int)
  iods : Nat
  posDue : Bool
  lastAnt : Nat
  lastDrop : Option Nat
  stationAt : Option Nat
  shortAt : SMap (Option Nat)
  retry : SMap (Option Nat)
  deriving DecidableEq, Repr

def GrxSt.reset : GrxSt :=
  { chans := [], bans := [], eph := [], once := [], alm := [], dataBad := false, cnHist := [], lastEpoch := none, sol := none,
    ref := none, notches := [], peaks := [], jamDb := [], quiet := [], badAt := none,
    aNamed := false, aWait := false, aSince := none, rmsRun := 0, devRun := 0, okRun := 0, setSeq := [], survey := none, known := [],
    iods := 0, posDue := false, lastAnt := 0, lastDrop := none, stationAt := none, shortAt := [], retry := [] }

/-! ## Depot metering (R391–R409) -/

/-- A save (R401): the meters, operating hours, RTC seconds, its sequence, whether it was final. -/
structure MeterSave where
  meters : DmuMeters
  hours : Nat
  sec : Nat
  seq : Nat
  final : Bool
  deriving DecidableEq, Repr

/-- DMU: its meters; squares summed and samples of each input since the last whole second; per bay the seconds its current has been
below IDLE_MA; faults with their start (local clock, hours, TAI seconds); whether it was enabled since reset; device time of the last
sample and hours then; the last sample of the partner's that a TAKEOVER_GAP record owes; when event 211 was raised. -/
structure DmuSt where
  m : DmuMeters
  squares : SMap (Nat × Nat)
  idle : SMap Nat
  faults : SMap (Option (Nat × Nat × Nat))
  started : Bool
  last : Nat
  lastHours : Nat
  gap : Option (Nat × Nat)
  lastHold : Option Nat
  deriving DecidableEq, Repr

def DmuMeters.zero : DmuMeters := ⟨[], [], []⟩
def DmuSt.reset : DmuSt := ⟨DmuMeters.zero, [], [], [], false, 0, 0, none, none⟩

/-! ## Dispatch (R268–R286) -/

/-- A RESERVE that DSP has issued for an order (R274): the order's index and generation, the machine, the descriptor. -/
structure Flight where
  idx : Nat
  gen : Nat
  mi : Nat
  desc : ClsDesc
  deriving DecidableEq, Repr

/-- What a thread waits on (R280): an event number, with the count of events raised when the wait began; a crossing queue; a tick. -/
inductive ThreadWait where
  | event (n since : Nat)
  | queue (q : Nat)
  | tick (t : Nat)
  deriving DecidableEq, Repr

/-- A thread (R280) beyond `DSP_THR_CFG`: whether it exists, what it waits on, the order and the tick in which it became ready, ticks left
of its slice, and whether event 181 has been raised for this wait. -/
structure Thread where
  live : Bool
  wait : Option ThreadWait
  seq : Nat
  readyAt : Nat
  left : Nat
  told : Bool
  deriving DecidableEq, Repr

/-- A thread never created. -/
def Thread.free : Thread := ⟨false, none, 0, 0, 0, false⟩

/-- A record image that waits at a port. -/
structure DspWait where
  port : Nat
  image : List Byte
  since : Nat
  deriving DecidableEq, Repr

/-- DSP: the order table and its free list, whether event 168 is spent; the arrival count; RESERVEs in flight; READY orders that a tick
left for the next; the last tick boundary and the decisions since; whether CLS has answered NO_TIME or FAULT and not been seen to serve since; record
images that wait at a port (256: host, else the intake queue) and since when, oldest first; stores
that spill (0 delay list, 1 + q intake of queue q, 1000 + c run list of core c); when event 182 was last raised; TSEQ, and when event
177 was; the threads, their arrival count, the last tick of 100 µs. -/
structure DspSt where
  orders : SMap Order
  freeNext : Nat
  freeTail : List Nat
  fullSeen : Bool
  seq : Nat
  flights : List Flight
  rest : List Nat
  tick : Option Nat
  decided : Nat
  unserved : Bool
  waiting : List DspWait
  spilling : List Nat
  lastHeld : Option Nat
  tseq : Nat
  lastTrace : Option Nat
  threads : SMap Thread
  tseqThr : Nat
  coreTick : Option Nat
  deriving DecidableEq, Repr

def DspSt.reset : DspSt := ⟨[], 0, [], false, 0, [], [], none, 0, false, [], [], none, 0, none, [], 0, none⟩

/-! ## The module -/

/-- The whole module. -/
structure State where
  /-- ns of the local clock since start. -/
  mono : Nat
  /-- Device time (R180), ns of TAI, valid or not. -/
  tai : Nat
  /-- Every register's word, under the key of `regKey`; an unlisted key holds the register's reset word. -/
  regs : SMap Word
  /-- The BAR2 window (R330): an unlisted byte is 0. -/
  bar2 : SMap Byte
  evt : EvtSt
  log : LogSt
  rings : SMap Ring
  xq : SMap XQueue
  pwr : PwrSt
  rst : RstSt
  hpg : HpgSt
  bkp : Backup
  optA : Option OptRec
  optB : Option OptRec
  pins : Pins
  sim : SimSt
  nand : Nand
  cls : ClsSt
  aut : AutSt
  warden : WardenSt
  keys : KeyStore
  key : KeySt
  fw : FwStore
  upd : UpdSt
  ahn : AhnSt
  rhl : RhlSt
  air : AirSt
  eth : EthSt
  lpe : LpeSt
  slv : SlvSt
  tim : TimSt
  ptp : SMap PtpPort
  grx : GrxSt
  dmu : DmuSt
  /-- DMU's newest save in NAND that verifies, which every reset keeps. -/
  meterSave : Option MeterSave
  dsp : DspSt
  /-- The last value a host read returned. -/
  hostRead : Word
  /-- What left the module, newest first. -/
  out : List Emit
  /-- How many free values have been drawn. -/
  freeCtr : Nat
  /-- The commands waiting, first in first out. -/
  pending : List Instr
  deriving DecidableEq, Repr

/-- No command of this block stops the machine with a fault: every refusal of the spec is an effect on the state. -/
inductive Fault where
  deriving DecidableEq, Repr

/-- Why a command has no meaning in the model. -/
inductive Refusal where
  /-- Raised by `exec` alone, for a command whose arm is not yet a meaning. Safe: nothing is claimed of it. -/
  | notModelled (mnemonic : String)
  deriving DecidableEq, Repr

/-! ## After reset -/

def EvtSt.reset : EvtSt := ⟨0, false, none, [], [], [], 0, []⟩
def LogSt.reset : LogSt := ⟨0, [], [], [], [], [], 0, 0, 0, 0, none⟩
def PwrSt.reset : PwrSt := ⟨[], none, 0, 0, [], [], .idle, none, none⟩
def HpgSt.reset : HpgSt := ⟨none, false⟩
def SimSt.reset : SimSt := ⟨none, none, none, 0, false, [], [], true⟩
def ClsSt.reset : ClsSt := ⟨[], [], 0, [], [], [], false, false, [], Option.none⟩
def LpeSt.reset : LpeSt := ⟨[], [], [], [], [], 0, none⟩
def AutSt.reset : AutSt :=
  { fsLatch := false, fcause := 0, ccause := 0, fsAir := false, fsStart := false, commaPin := false, commaAge := false,
    commaRearm := false, commaTest := false, tense := 0, seq := 0, lastSeq := 0, openSeq := 0, sealed := none, onAir := none,
    onAirUntil := 0, takeover := false, mach := [], rearmKey := none, rearmVoid := false, rearmAt := 0, refAt := none,
    ageOkSince := none, stopRepeats := [] }
def WardenSt.reset : WardenSt := ⟨0, false, false, none, 0, 0⟩
def KeySt.reset : KeySt := ⟨none, none⟩
def UpdSt.reset : UpdSt := ⟨0, true⟩
def AhnSt.reset : AhnSt :=
  { role := .none, roleSince := 0, roleOut := false, claim := none, failN := true, linkUp := false, mismatch := false,
    hbOk := false, hb := none, hbAt := 0, hello := none, releaseSeen := 0, mseqTx := 0, mseqAck := 0, unacked := [], lagHigh := none,
    snapWanted := false, snapDone := false, swap := none, swapReq := 0, swapTest := false, swapAck := false, swapNak := false,
    swapOk := 0, planned := 0, relCause := 0, test := none, testThenSwap := false, coopHold := none, interlock := false,
    handover := false, seqKnown := 0, splitHeard := false }
def AirSt.reset : AirSt :=
  { mach := [], jctrs := [], waiting := [], recs := [], dataDn := [], txEnd := [], seqRef := none, cover := none, fseq := 0, fctr := 0,
    seen := [], recent := [], duty := [], holds := [], rateEvent := [], lastDefer := none, lastCmac := none, splitAt := none,
    heardNow := false, pairHeardAt := none, dlPct := [], missBi := 0 }

def SlvSt.reset : SlvSt :=
  { filters := [], rates := [], last := [], intake := [], retry := [], links := [], lanes := [], refs := [], mode := .none, lastOk := none, lastOkAt := none,
    ant := 0, aux := [], awakeWant := 0, shed := [], refusedAt := none, outcomes := 0, lastInvalid := none, toCheck := [] }

/-- Input pins as a module in service sees them: seated, powered, no input asserted. The levels the spec calls pulled
low inside the module read high here: both stop inputs are wired and released. DESIGN CHOICE (log 10). -/
def Pins.reset : Pins :=
  { p12v := true, resetLow := false, presentLow := true, ejectLow := false, stopALow := false, stopBLow := false,
    commaLow := false, roleInLow := false, perstHigh := true, slotId := 0, revB := false }

/-- The backup domain after the first power-on: one power cycle, one reset, the RTC never written. DESIGN CHOICE (log 9). -/
def Backup.first : Backup :=
  { rtc := 0, rtcValid := false, hours := 0, pcycles := 1, resets := 1, strikes := 0, lost := false }

/-- The option record both copies hold at delivery. DESIGN CHOICE (log 8). -/
def OptRec.delivered : OptRec := ⟨0, 0, 0, false, 42000⟩

/-- The key store at delivery: INTEGRATION (R420), nothing generated yet. -/
def KeyStore.delivered : KeyStore := ⟨1, none, none, 0, [], some 0⟩

/-- Empty firmware slots, no trial. DESIGN CHOICE (log 8). -/
def FwStore.delivered : FwStore := ⟨none, none, none, [], none, false, 0, false, 0, false⟩

/-- Empty image slots, slot 0 the boot slot, no quarantine. DESIGN CHOICE (log 8). -/
def Nand.delivered : Nand := ⟨none, none, 0, [], 0, [], 0, 0, none, none, [], []⟩

/-- The module at the end of a power-on reset (R369 CAUSE 1, R375 step 10) from its delivered state. -/
def State.reset : State :=
  { mono := 0, tai := 0, regs := [(R.RST_STATUS, 0x10000000#32)], bar2 := [], evt := EvtSt.reset, log := LogSt.reset,
    rings := [], xq := [], pwr := PwrSt.reset, rst := ⟨.running, none, none⟩, hpg := HpgSt.reset, bkp := Backup.first,
    optA := some OptRec.delivered, optB := some OptRec.delivered, pins := Pins.reset, sim := SimSt.reset,
    nand := Nand.delivered, cls := ClsSt.reset, aut := AutSt.reset, warden := WardenSt.reset,
    keys := KeyStore.delivered, key := KeySt.reset, fw := FwStore.delivered, upd := UpdSt.reset, ahn := AhnSt.reset,
    rhl := ⟨[], [], []⟩, air := AirSt.reset,
    eth := ⟨none⟩,
    lpe := LpeSt.reset,
    slv := SlvSt.reset,
    tim := TimSt.reset,
    ptp := [],
    grx := GrxSt.reset,
    dmu := DmuSt.reset,
    meterSave := none,
    dsp := DspSt.reset,
    hostRead := 0, out := [], freeCtr := 0, pending := [] }

end Sys2Proof.Machine
end

