-- ==== Sys2Proof/Machine/Ops.lean ====
section
/-!
DEFINITION. The operations every block uses: registers and their fields, the BAR2 window, free values, the logbook,
vectors, rings, events, the mirror, and the host's command results.
-/

namespace Sys2Proof.Machine

/-- The answer of a command. -/
abbrev Result := Host.Outcome State Fault Refusal

/-! ## Register fields -/

/-- The value of a field in a register word. -/
def Fld.get (f : Fld) (w : Word) : Nat := bitsOf w.toNat f.hi f.lo

/-- The register word with a field set to the low bits of `v`. -/
def Fld.put (f : Fld) (w : Word) (v : Nat) : Word :=
  BitVec.ofNat 32 (w.toNat / 2 ^ (f.hi + 1) * 2 ^ (f.hi + 1) + v % 2 ^ (f.hi - f.lo + 1) * 2 ^ f.lo + w.toNat % 2 ^ f.lo)

/-- The largest value a field can hold. -/
def Fld.max (f : Fld) : Nat := 2 ^ (f.hi - f.lo + 1) - 1

/-- The field at the same bits of the register `n` places further in a numbered run. -/
def Fld.nth (f : Fld) (n : Nat) : Fld := { f with addr := f.addr + 4 * n }

/-- The key of the register at offset `a` for entry `b` of the table an index register selects (0 where none does). -/
def regKey (b a : Nat) : Nat := b * 0x4000000 + a

/-- What an unlisted key of the register file reads as: the reset word of its register (R5). -/
def regDefault (k : Nat) : Word := Regs.resetWord (k % 0x4000000)

namespace State

/-- The word at offset `a`, entry `b`. -/
def regB (s : State) (b a : Nat) : Word := s.regs.get (Regs.resetWord a) (regKey b a)

/-- The word at offset `a`. -/
def reg (s : State) (a : Nat) : Word := s.regB 0 a

/-- Set the word at offset `a`, entry `b`. Every register lies below 0x4000000 (R40). -/
def setRegB (s : State) (b a : Nat) (w : Word) : State :=
  { s with regs := if a < 0x4000000 then s.regs.set (Regs.resetWord a) (regKey b a) w else s.regs }

/-- Set the word at offset `a`. -/
def setReg (s : State) (a : Nat) (w : Word) : State := s.setRegB 0 a w

/-- A field of entry `b`. -/
def fldB (s : State) (b : Nat) (f : Fld) : Nat := f.get (s.regB b f.addr)

/-- A field. -/
def fld (s : State) (f : Fld) : Nat := s.fldB 0 f

/-- Whether a one-bit field of entry `b` reads 1. -/
def flagB (s : State) (b : Nat) (f : Fld) : Bool := s.fldB b f != 0

/-- Whether a one-bit field reads 1. -/
def flag (s : State) (f : Fld) : Bool := s.fld f != 0

/-- Set a field of entry `b`. -/
def setFldB (s : State) (b : Nat) (f : Fld) (v : Nat) : State := s.setRegB b f.addr (f.put (s.regB b f.addr) v)

/-- Set a field. -/
def setFld (s : State) (f : Fld) (v : Nat) : State := s.setFldB 0 f v

/-- Add to a saturating counter of entry `b`. -/
def bumpB (s : State) (b : Nat) (f : Fld) (n : Nat := 1) : State := s.setFldB b f (min (s.fldB b f + n) f.max)

/-- Add to a saturating counter. -/
def bump (s : State) (f : Fld) (n : Nat := 1) : State := s.bumpB 0 f n

end State

/-- The number of a Bool. -/
def b2n (b : Bool) : Nat := if b then 1 else 0

/-! ## The BAR2 window (R330, R333) -/

/-- Bytes in the BAR2 window. -/
def bar2Size : Nat := 0x10000000

/-- The byte at an offset of the window. -/
def State.bar2At (s : State) (a : Nat) : Byte := s.bar2.get 0 a

/-- `n` bytes of the window from an offset. -/
def State.bar2Read (s : State) (off n : Nat) : List Byte := (List.range n).map fun i => s.bar2At (off + i)

/-- The window with `bytes` written from an offset on; what lies beyond the window is not written. -/
def bar2Put (m : SMap Byte) : Nat → List Byte → SMap Byte
  | _, [] => m
  | a, b :: bs => bar2Put (if a < bar2Size then m.set 0 a b else m) (a + 1) bs

/-- Write bytes to the window. -/
def State.bar2Write (s : State) (off : Nat) (bytes : List Byte) : State := { s with bar2 := bar2Put s.bar2 off bytes }

/-! ## Outputs and free values -/

/-- Something leaves the module. -/
def State.emit (s : State) (e : Emit) : State := { s with out := e :: s.out }

/-- Draw a free value. -/
def State.draw (s : State) : Nat × State := (Config.freeNat s.freeCtr, { s with freeCtr := s.freeCtr + 1 })

/-- Draw `n` open bytes. -/
def State.drawBytes (s : State) (n : Nat) : List Byte × State :=
  ((List.range n).map (Config.freeByte s.freeCtr), { s with freeCtr := s.freeCtr + 1 })

/-! ## Time (R180, R193, R431) -/

/-- ns in a second and in a millisecond. -/
abbrev nsPerSec : Nat := 1000000000
abbrev nsPerMs : Nat := 1000000

/-- Device time is valid (R184). -/
def State.timeValid (s : State) : Bool := s.flag F.TIM_STATUS_VALID

/-- The fast stamp (R193). -/
def State.stamp (s : State) : Nat := s.tai % 2 ^ 32

/-- Open-ended clause time (R48). -/
abbrev clauseForever : Nat := 0xFFFFFFFFFF

/-- SITE_EPOCH of an image (R21), TAI seconds. -/
def imgEpoch (img : List Byte) : Nat := Bytes.at' img 48 6

/-- Clause time of a device time, truncated (R180); none before the site epoch, without an image, and from the end of
clause time on (R450). -/
def State.clauseOf (s : State) (tai : Nat) : Option Nat :=
  match s.sim.applied with
  | none => none
  | some img =>
    let ms := tai / nsPerMs
    let ep := imgEpoch img * 1000
    if ep ≤ ms ∧ ms - ep ≤ 0xFFFFFFFFFE then some (ms - ep) else none

/-- Clause time now (R180); none while it is unknown. -/
def State.clauseNow (s : State) : Option Nat := if s.timeValid then s.clauseOf s.tai else none

/-- Whether at least `ns` of local time have passed since `t`. -/
def State.passed (s : State) (t ns : Nat) : Bool := decide (t + ns ≤ s.mono)

/-! ## Roles -/

/-- The module holds the ACTIVE role (R302). -/
def State.isActive (s : State) : Bool := s.ahn.role == .active

/-- The module is a standby, SYNC or READY. -/
def State.isStandby (s : State) : Bool := s.ahn.role == .sync || s.ahn.role == .ready

/-- The partner shows SYNC or READY in a current heartbeat. -/
def State.partnerStandby (s : State) : Bool :=
  s.ahn.hbOk && (match s.ahn.hb with
    | some h => (h.role == .sync || h.role == .ready) && !h.eject
    | none => false)

/-- The partner shows READY in a current heartbeat. -/
def State.partnerReady (s : State) : Bool :=
  s.ahn.hbOk && (match s.ahn.hb with
    | some h => h.role == .ready && !h.eject
    | none => false)

/-! ## The mirror (R309, R310) -/

/-- A mirror sequence sent stands unacknowledged from now; one entry for each instant (R327). -/
def lagSent (now q : Nat) (l : List (Nat × Nat)) : List (Nat × Nat) :=
  (match l.getLast? with
    | some e => if e.2 = now then l.dropLast else l
    | none => l) ++ [(q, now)]

/-- Send a mirror message: an active module does, to a standby partner over a link without MISMATCH. -/
def State.mirror (s : State) (keyf : Nat) (body : MirrorBody) (snap : Bool := false) : State :=
  if s.isActive && s.ahn.linkUp && !s.ahn.mismatch && s.partnerStandby then
    let q := (s.ahn.mseqTx + 1) % 2 ^ 32
    { s with ahn := { s.ahn with mseqTx := q, unacked := lagSent s.mono q s.ahn.unacked } }.emit (.mirror ⟨snap, q, keyf, body⟩)
  else s

/-! ## Logbook (R431–R438) -/

/-- The length of a record in bytes, CRC included (R431). -/
def LogRec.len (r : LogRec) : Nat := 36 + (r.payload.length + 3) / 4 * 4

/-- TAI seconds and milliseconds a record carries, and whether they come from the RTC (R431). -/
def State.logTime (s : State) : Nat × Nat × Bool :=
  let t := if s.timeValid then s.tai else s.bkp.rtc
  (t / nsPerSec % 2 ^ 32, t / nsPerMs % 1000, !s.timeValid)

/-- A record made now (R431). -/
def State.logMake (s : State) (block kind evno arg : Nat) (payload : List Byte) : LogRec :=
  let t := s.logTime
  { block, kind, lseq := 0, hours := s.bkp.hours, pcyc := s.bkp.pcycles, evno, sec := t.1, ms := t.2.1, rtcTime := t.2.2,
    active := s.isActive, arg, rep := 0, payload }

/-- The bytes in the write buffer. -/
def logFill (buf : List LogRec) : Nat := (buf.map LogRec.len).sum

/-- The write buffer's size (R434). -/
abbrev logBufSize : Nat := 65536

/-- A record enters the write buffer with the next LSEQ, or is dropped while the buffer is full (R434). The copy to a
host ring (R440) is made by `logOut`. Answers whether it entered, and the record as numbered. -/
def State.logEnter (s : State) (r : LogRec) : State × Option LogRec :=
  let r := { r with lseq := s.log.next }
  let s := { s with log := { s.log with next := (s.log.next + 1) % 2 ^ 32 } }
  if logFill s.log.buf + r.len ≤ logBufSize then
    ({ s with log := { s.log with buf := s.log.buf ++ [r] } }.bump (F.LOG_CNT_COUNT.nth 3), some r)
  else
    ({ s with log := { s.log with
        dropped := s.log.dropped + 1
        dropFirst := if s.log.dropped = 0 then r.lseq else s.log.dropFirst
        dropLast := r.lseq } }.bump (F.LOG_CNT_COUNT.nth 0), none)

/-! ## Vectors (R342) -/

/-- The bit of vector `v` in the pending-bit array. -/
def pbaFld (v : Nat) : Fld := ⟨R.HST_PBA + 4 * (v / 32), v % 32, v % 32⟩

/-- The mask bit of vector `v` in the MSI-X table. -/
def maskFld (v : Nat) : Fld := ⟨R.HST_MSIX + 16 * v + 12, 0, 0⟩

/-- Messages can leave: MSI-X enabled, Bus Master Enable set, the link up. -/
def State.msixLive (s : State) : Bool :=
  s.flag F.HST_STATUS_MSIX_EN && s.flag F.HST_STATUS_BME && s.flag F.HST_STATUS_LINK_UP

/-- Send the message of vector `v`, or set its pending bit while it is masked. -/
def State.sendVec (s : State) (v : Nat) : State :=
  if !s.msixLive || !(s.evt.fresh.get false v) then s
  else if s.flag (maskFld v) then s.setFld (pbaFld v) 1
  else
    let a := R.HST_MSIX + 16 * v
    ({ s with evt := { s.evt with vecLast := s.evt.vecLast.set none v (some s.mono), vecWait := s.evt.vecWait.set false v false } }).emit
      (.msix v ((s.reg a).toNat + 2 ^ 32 * (s.reg (a + 4)).toNat) (s.reg (a + 8)).toNat)

/-- Signal vector `v`: at once, or merged into the message that MOD_US after the last one sends (R342). -/
def State.signalVec (s : State) (v : Nat) : State :=
  match s.evt.vecLast.get none v with
  | some t =>
    if s.mono < t + s.fldB v F.EVT_VEC_MOD_MOD_US * 1000 then
      { s with evt := { s.evt with vecWait := s.evt.vecWait.set false v true } }
    else s.sendVec v
  | none => s.sendVec v

/-! ## Host rings (R334–R337) -/

/-- Directions of a ring (R334). -/
abbrev dirOut : Nat := 0
abbrev dirIn : Nat := 1
abbrev dirLocal : Nat := 2

/-- A ring's configuration, from its registers. -/
def State.ringEn (s : State) (r : Nat) : Bool := s.flagB r F.HST_RING_CFG_EN
def State.ringDir (s : State) (r : Nat) : Nat := s.fldB r F.HST_RING_CFG_DIR
def State.ringDma (s : State) (r : Nat) : Bool := s.flagB r F.HST_RING_CFG_MODE
def State.ringCount (s : State) (r : Nat) : Nat := 2 ^ (s.fldB r F.HST_RING_CFG_LOG2_COUNT + 4)
def State.ringSlot (s : State) (r : Nat) : Nat := 2 ^ s.fldB r F.HST_RING_CFG_SLOT_LOG2
def State.ringBase (s : State) (r : Nat) : Nat := s.fldB r F.HST_RING_BASE_BASE * 4096

/-- A ring's indices. -/
def State.ring (s : State) (r : Nat) : Ring := s.rings.get Ring.idle r

/-- Set a ring's indices. -/
def State.setRing (s : State) (r : Nat) (v : Ring) : State := { s with rings := s.rings.set Ring.idle r v }

/-- Entries a ring holds: P − C modulo 2^24 (R335). -/
def Ring.used (g : Ring) : Nat := (g.p + 2 ^ 24 - g.c) % 2 ^ 24

/-- The BAR2 offset of the slot of index `i` (R335). -/
def State.slotAt (s : State) (r i : Nat) : Nat := s.ringBase r + i % s.ringCount r * s.ringSlot r

/-- DMA rings move entries only with Bus Master Enable set and the link up (R336, R351). -/
def State.dmaLive (s : State) : Bool := s.flag F.HST_STATUS_BME && s.flag F.HST_STATUS_LINK_UP

/-- The module advances an index it owns: an armed ring signals its vector once (R335). -/
def State.ringNotify (s : State) (r : Nat) : State :=
  if (s.ring r).armed then
    (s.setRing r { s.ring r with armed := false }).signalVec (s.fldB r F.HST_RING_CFG_VEC)
  else s

/-- A ring that takes entries is full. -/
def State.ringFull (s : State) (r : Nat) : Bool :=
  s.ringEn r && s.ringDir r != dirIn && (!s.ringDma r || s.dmaLive) && (s.ring r).used == s.ringCount r

/-- A block offers an entry to a ring (R336, R337). `outOnly`: the output names an OUT ring and no LOCAL one. Answers
whether the entry was written. -/
def State.ringPut (s : State) (r src : Nat) (payload : List Byte) (outOnly : Bool := false) : State × Bool :=
  let g := s.ring r
  let q := g.rseq
  let s := s.setRing r { g with rseq := (q + 1) % 2 ^ 32 }
  let dir := s.ringDir r
  if !s.ringEn r || dir == dirIn || (outOnly && dir != dirOut) then (s.bump (F.HST_CNT_COUNT.nth 1), false)
  else if s.ringDma r && !s.dmaLive then (s.bumpB r F.HST_RING_DROP_DROP, false)
  else if g.used == s.ringCount r then (s.bumpB r F.HST_RING_DROP_DROP, false)
  else
    let a := s.slotAt r g.p
    let adv (s : State) : State := (s.setRing r { s.ring r with p := (g.p + 1) % 2 ^ 24 }).ringNotify r
    if s.ringDma r then
      let addr := Bytes.toNat (s.bar2Read a 8)
      if payload.length > Bytes.toNat (s.bar2Read (a + 8) 2) then (s.bumpB r F.HST_RING_DROP_SIZE_DROP, false)
      else
        let wb := Bytes.ofNat 2 payload.length ++ [BitVec.ofNat 8 src, 1#8] ++ Bytes.ofNat 4 q
        (adv ((s.emit (.dma addr payload)).bar2Write (a + 8) wb), true)
    else if payload.length + 8 > s.ringSlot r then (s.bumpB r F.HST_RING_DROP_SIZE_DROP, false)
    else
      let hdr := Bytes.ofNat 2 payload.length ++ [BitVec.ofNat 8 src, 0#8] ++ Bytes.ofNat 4 q
      (adv (s.bar2Write a (hdr ++ payload)), true)

/-- A block takes the oldest entry of an IN or LOCAL ring (R336), if there is one. -/
def State.ringTake (s : State) (r : Nat) (dir : Nat) : State × Option (List Byte) :=
  let g := s.ring r
  if !s.ringEn r || s.ringDir r != dir || g.used == 0 || (s.ringDma r && !s.dmaLive) then (s, none)
  else
    let a := s.slotAt r g.c
    let adv (s : State) : State := (s.setRing r { s.ring r with c := (g.c + 1) % 2 ^ 24 }).ringNotify r
    if s.ringDma r then
      let addr := Bytes.toNat (s.bar2Read a 8)
      let n := Bytes.toNat (s.bar2Read (a + 8) 2)
      let bytes := (List.range n).map fun i => Config.hostByte (addr + i) s.freeCtr
      (adv (({ s with freeCtr := s.freeCtr + 1 }).bar2Write (a + 11) [1#8]), some bytes)
    else
      let n := Bytes.toNat (s.bar2Read a 2)
      (adv s, some (s.bar2Read (a + 8) n))

/-! ## Logbook records of events (R432, R435) -/

/-- The bytes of a record before its CRC (R431). -/
def LogRec.head (r : LogRec) : List Byte :=
  Bytes.ofNat 2 r.len ++ Bytes.ofNat 1 r.block ++ Bytes.ofNat 1 r.kind ++ Bytes.ofNat 4 r.lseq ++ Bytes.ofNat 4 r.hours
    ++ Bytes.ofNat 3 r.pcyc ++ Bytes.ofNat 1 r.evno ++ Bytes.ofNat 4 r.sec ++ Bytes.ofNat 2 r.ms
    ++ Bytes.ofNat 1 (b2n r.rtcTime + 2 * b2n r.active) ++ [0#8] ++ Bytes.ofNat 4 r.arg ++ Bytes.ofNat 2 r.rep
    ++ Bytes.ofNat 2 r.payload.length ++ Bytes.padTo r.payload ((r.payload.length + 3) / 4 * 4)

/-- One step of CRC-32 (IEEE 802.3, reflected polynomial 0xEDB88320) over a bit. -/
def crcBit (c : BitVec 32) : BitVec 32 := if c.getLsbD 0 then (c >>> 1) ^^^ 0xEDB88320#32 else c >>> 1

/-- CRC-32 over a byte. -/
def crcByte (c : BitVec 32) (b : Byte) : BitVec 32 :=
  crcBit (crcBit (crcBit (crcBit (crcBit (crcBit (crcBit (crcBit (c ^^^ b.setWidth 32))))))))

/-- CRC-32 with the IEEE 802.3 polynomial (R22, R423, R431). PRESUMED in initial value, reflection and final inversion
(log 12). -/
def crc32 (bs : List Byte) : Nat := (~~~ (bs.foldl crcByte 0xFFFFFFFF#32)).toNat

/-- A logbook record as stored (R431). -/
def LogRec.bytes (r : LogRec) : List Byte := r.head ++ Bytes.ofNat 4 (crc32 r.head)

/-- LOG copies a record to its host ring as the record enters the buffer (R440). -/
def State.logOut (s : State) (r : LogRec) : State :=
  if s.flag F.LOG_CFG_OUT_EN then (s.ringPut (s.fld F.LOG_CFG_RING) Blk.LOG r.bytes true).1 else s

/-- A record enters the logbook (R434, R440). -/
def State.logWrite (s : State) (r : LogRec) : State :=
  match s.logEnter r with
  | (s, some r) => s.logOut r
  | (s, none) => s

/-- A repeat entry closes: LOG writes its REPEAT record (R435). -/
def State.logClose (s : State) (e : LogRepeat) : State :=
  let r := s.logMake e.block 3 e.evno e.arg []
  ({ s with log := { s.log with repeats := s.log.repeats.erase e } }).logWrite
    { r with sec := e.lastSec, ms := e.lastMs, rep := e.count }

/-- The repeat window, ns. -/
def State.repeatWindow (s : State) : Nat := s.fld F.LOG_CFG_REPEAT_S * nsPerSec

/-- Whether an equal record of KIND 1 was written within the repeat window (R435). -/
def State.logSeen (s : State) (block evno arg : Nat) : Bool :=
  s.log.recent.any fun e => e.1 == block && e.2.1 == evno && e.2.2.1 == arg && decide (s.mono ≤ e.2.2.2 + s.repeatWindow)

/-- An event's record (KIND 1) is written, or counted as a repeat (R434, R435). -/
def State.logEvent (s : State) (block evno arg : Nat) (payload : List Byte) : State :=
  if s.logSeen block evno arg then
    let s := s.bump (F.LOG_CNT_COUNT.nth 1)
    let t := s.logTime
    match s.log.repeats.find? (fun e => e.block == block && e.evno == evno && e.arg == arg) with
    | some e =>
      let e' := { e with count := e.count + 1, lastSec := t.1, lastMs := t.2.1 }
      let s := { s with log := { s.log with repeats := s.log.repeats.replace e e' } }
      if e'.count = 65535 then s.logClose e' else s
    | none =>
      let s := match s.log.repeats with
        | oldest :: _ => if s.log.repeats.length < 32 then s else s.logClose oldest
        | [] => s
      { s with log := { s.log with repeats := s.log.repeats ++ [⟨block, evno, arg, s.mono, 1, t.1, t.2.1⟩] } }
  else
    let live := s.log.recent.filter fun e => decide (s.mono ≤ e.2.2.2 + s.repeatWindow)
    ({ s with log := { s.log with recent := (block, evno, arg, s.mono) :: live } }).logWrite
      (s.logMake block 1 evno arg payload)

/-! ## Events (R340, R341) -/

/-- The pending bit of event `n`. -/
def pendFld (n : Nat) : Fld := ⟨R.EVT_PEND + 4 * (n / 32), n % 32, n % 32⟩

/-- The 16 bytes of an event record (R341). -/
def evtBytes (n arg stamp eseq : Nat) (lost : Bool) : List Byte :=
  Bytes.ofNat 1 n ++ Bytes.ofNat 1 (b2n lost) ++ [0#8, 0#8] ++ Bytes.ofNat 4 arg ++ Bytes.ofNat 4 stamp ++ Bytes.ofNat 4 eseq

/-- EVT offers the event's record to the event ring (R341). Answers whether it was dropped. -/
def State.evtRecord (s : State) (n arg : Nat) : State × Bool :=
  if !s.flag F.EVT_RING_EN then (s, false)
  else
    let q := s.evt.eseq
    let was := s.evt.lost
    let s := { s with evt := { s.evt with eseq := (q + 1) % 2 ^ 32 } }
    match s.ringPut (s.fld F.EVT_RING_RING) Blk.EVT (evtBytes n arg s.stamp q was) true with
    | (s, true) => ({ s with evt := { s.evt with lost := false } }, false)
    | (s, false) => ({ s with evt := { s.evt with lost := true } }.bump F.EVT_CNT_LOST, true)

/-- The count of events raised, and of the last raise of each (what a thread that waits for an event asks). -/
def State.noteRaise (s : State) (n : Nat) : State :=
  { s with evt := { s.evt with raises := s.evt.raises + 1, raisedAt := s.evt.raisedAt.set 0 n (s.evt.raises + 1) } }

/-- What EVT and LOG do with an event, but for the report of a lost record: that it was raised, record, pending bit, signal, logbook. -/
def State.raiseOnce (s : State) (n arg : Nat) (payload : List Byte) (logged : Bool) : State × Bool :=
  let was := s.flag (pendFld n)
  let s := (s.setFld (pendFld n) 1).noteRaise n
  let (s, lost) := if s.flagB n F.EVT_ROUTE_REC_EN then s.evtRecord n arg else (s, false)
  let s := if s.flagB n F.EVT_ROUTE_HOST_EN && !was then s.signalVec (s.fldB n F.EVT_ROUTE_VEC) else s
  (if logged then s.logEvent (Ev.block n) n arg payload else s, lost)

/-- A block raises event `n` (R340, R341, R434): a record lost at a full ring raises event 239, at most once per second. -/
def State.raiseWith (s : State) (n arg : Nat) (payload : List Byte) (logged : Bool) : State :=
  match s.raiseOnce n arg payload logged with
  | (s, false) => s
  | (s, true) =>
    let due := match s.evt.lastLost with
      | none => true
      | some t => s.passed t nsPerSec
    if due then
      (({ s with evt := { s.evt with lastLost := some s.mono } }).raiseOnce Ev.EVT_RECORD_LOST 0 [] false).1
    else s

/-- A block raises event `n`; it is logged where its chapter says so. -/
def State.raise (s : State) (n arg : Nat) : State := s.raiseWith n arg [] (Ev.logged.contains n)

/-! ## Writing the buffer to NAND (R434, R437) -/

/-- The capacity of the permanent area and of an erase unit, bytes; the units of the circulating area. -/
abbrev permSize : Nat := 4 * 1048576
abbrev unitSize : Nat := 131072
abbrev circUnits : Nat := 480

/-- A record enters the circulating area: the newest unit, or a fresh one for which the oldest is erased when all are
used (R437). -/
def circAdd (units : List (List LogRec)) (max : Nat) (r : LogRec) : List (List LogRec) :=
  match units.getLast? with
  | some u =>
    if logFill u + r.len ≤ unitSize then units.dropLast ++ [u ++ [r]]
    else (if units.length < max then units else units.drop 1) ++ [[r]]
  | none => [[r]]

/-- A record is written to NAND (R437). -/
def State.logStore (s : State) (r : LogRec) : State :=
  let s := { s with log := { s.log with circ := circAdd s.log.circ (circUnits - s.log.retired) r } }
  if s.keys.lc < 2 || s.flag F.LOG_STATUS_PERM_FULL then s
  else if logFill s.log.perm + r.len ≤ permSize then
    { s with log := { s.log with perm := s.log.perm ++ [r] } }
  else (s.setFld F.LOG_STATUS_PERM_FULL 1).raise Ev.LOG_PERM_FULL 0

/-- LOG writes a marker of its own (R433). -/
def State.logMarker (s : State) (marker arg : Nat) (payload : List Byte) : State :=
  s.logWrite (s.logMake Blk.LOG 4 marker arg payload)

/-- What stands in the buffer goes to NAND. -/
def State.logDrain (s : State) : State := s.log.buf.foldl State.logStore { s with log := { s.log with buf := [] } }

/-- Room frees after drops: one LOST marker and event 227 (R433, R434). -/
def State.logLost (s : State) : State :=
  if s.log.dropped = 0 then s
  else
    let body := Bytes.ofNat 4 s.log.dropFirst ++ Bytes.ofNat 4 s.log.dropLast
    let n := saturate 32 s.log.dropped
    (({ s with log := { s.log with dropped := 0 } }).logMarker 3 n body).raise Ev.LOG_RECORDS_LOST 0

/-- The buffer is written to NAND (R434, R435): the repeat entries close first, and a write that has a STOP marker ends with it. -/
def State.logFlush (s : State) (stop : Option Nat) : State :=
  let s := (s.log.repeats.foldl State.logClose s).logDrain.logLost
  match stop with
  | some a => (s.logMarker 2 a []).logDrain
  | none => s

/-! ## Parse codes (R35) and refusals -/

/-- The word of a PARSE register: DETAIL, BLOCK, REASON (R35). -/
def parseWord (block reason detail : Nat) : Word :=
  BitVec.ofNat 32 (detail % 256 * 65536 + block % 256 * 256 + reason % 256)

/-- Whether the module runs, not in reset (R376). -/
def State.running (s : State) : Bool := s.rst.phase == .running

/-- A command acts on a running module; while it is in reset nothing of it does (R376). -/
def State.live (s : State) (f : State → State) : State := if s.running then f s else s

/-- A command that acts on a running module. -/
def whileRunning (s : State) (f : State → State) : Result := .next (s.live f)

/-- A host read of BAR0: until the module runs it returns 0, without effect (R376). -/
def whileRead (s : State) (f : State → State) : Result := .next (if s.running then f s else { s with hostRead := 0 })

/-- The end of an expression that may carry at most one report a second. -/
def dueSince (s : State) (last : Option Nat) (ns : Nat) : Bool :=
  match last with
  | none => true
  | some t => s.passed t ns

end Sys2Proof.Machine
end

