-- ==== Sys2Proof/Machine/Keyring.lean ====
section
/-!
DEFINITION. The derivation tree of R413: every key a block uses, computed from the root and the pair root when it is needed. A key whose
parent is missing is missing.
-/

namespace Sys2Proof.Machine

/-- The 32 bytes of a 256-bit secret. -/
def secretBytes (n : Nat) : List Byte := Bytes.be 32 n

/-- A 256-bit secret from 512 bits of the TRNG: the first 256 bits of their SHA-384 (R412). -/
def conditioned (draw : Nat) : Nat := Bytes.beNat ((sha384 (Bytes.be 64 draw)).take 32)

/-- A draw of the TRNG (R412). -/
def State.trng (s : State) : Nat × State := (Config.trng s.freeCtr, { s with freeCtr := s.freeCtr + 1 })

/-- The private key of DEVICE_ID: two blocks of the KDF, of whose bits the first 448 make the scalar. -/
def State.deviceId (s : State) : Option Nat :=
  s.keys.root.map fun r =>
    ecScalar (Bytes.beNat ((kdf (secretBytes r) ['N', 'B', '-', 'I', 'D'] 0 ++ kdf (secretBytes r) ['N', 'B', '-', 'I', 'D'] 1).take 56))

/-- A key derived from PAIR_ROOT. -/
def State.pairKey (s : State) (label : List Char) (context : Nat) : Option (List Byte) :=
  s.keys.pairRoot.map fun r => kdf (secretBytes r) label context

/-- PAIR_LINK (R306). -/
def State.linkKey (s : State) : Option (List Byte) := s.pairKey ['A', 'H', 'N', 'O', 'B'] 0

/-- BEACON_SEED, and BEACON under generation BGEN. -/
def State.beaconSeed (s : State) : Option (List Byte) := s.pairKey ['B', 'S', 'E', 'E', 'D'] 0
def State.beaconKey (s : State) : Option (List Byte) := s.beaconSeed.map fun k => kdf k ['B', 'E', 'A', 'C', 'O', 'N'] s.keys.bgen

/-- MACHINE for a machine serial, and the machine's join, link and authority keys. -/
def State.machineKey (s : State) (serial : Nat) : Option (List Byte) := s.pairKey ['M', 'A', 'C', 'H'] serial
def State.joinKey (s : State) (serial : Nat) : Option (List Byte) := (s.machineKey serial).map fun k => kdf k ['J', 'O', 'I', 'N'] 0
def State.machLinkKey (s : State) (serial : Nat) : Option (List Byte) := (s.machineKey serial).map fun k => kdf k ['L', 'I', 'N', 'K'] 0
def State.authKey (s : State) (serial : Nat) : Option (List Byte) := (s.machineKey serial).map fun k => kdf k ['A', 'U', 'T', 'H'] 0

/-- SENDER for a stop sender's air address (R220). -/
def State.senderKey (s : State) (addr : Nat) : Option (List Byte) := s.pairKey ['S', 'T', 'O', 'P'] addr

end Sys2Proof.Machine
end

