-- ==== Sys2Proof/Machine/Blocks.lean ====
section
/-!
DEFINITION. The blocks of R40 and what R9 and R27 say of them: register windows, CTRL and PARSE registers, which block is an
image block, which blocks each requires, and the order in which they are enabled.
-/

namespace Sys2Proof.Machine

/-- The blocks and the bases of their register windows (R40), in ascending order of base. -/
def Blk.windows : List (Nat × Nat) := [
  (Blk.GLB, 0x00000000), (Blk.SIM, 0x00010000), (Blk.PWR, 0x00020000), (Blk.RST, 0x00024000), (Blk.HPG, 0x00028000),
  (Blk.EVT, 0x00030000), (Blk.XQ, 0x00040000), (Blk.CLS, 0x00100000), (Blk.AUT, 0x00140000), (Blk.SLV, 0x00180000),
  (Blk.GRX, 0x00200000), (Blk.TIM, 0x00280000), (Blk.PTP, 0x00284000), (Blk.AIR, 0x00300000), (Blk.RHL, 0x00340000),
  (Blk.DSP, 0x00380000), (Blk.LPE, 0x003C0000), (Blk.AHN, 0x00400000), (Blk.DMU, 0x00440000), (Blk.KEY, 0x00480000),
  (Blk.UPD, 0x004A0000), (Blk.LOG, 0x004C0000), (Blk.ETH, 0x00500000), (Blk.HST, 0x00504000)]

/-- The base of a block's register window. -/
def Blk.base (b : Nat) : Option Nat := (Blk.windows.find? (fun w => w.1 == b)).map Prod.snd

/-- The block whose window holds a BAR0 offset (R332). -/
def Blk.at' (a : Nat) : Option Nat :=
  if a < 0x00510000 then ((Blk.windows.filter (fun w => decide (w.2 ≤ a))).getLast?).map Prod.fst else none

/-- The image blocks in the enable order of R9 and R27. -/
def Blk.image : List Nat :=
  [Blk.XQ, Blk.LPE, Blk.TIM, Blk.RHL, Blk.GRX, Blk.SLV, Blk.CLS, Blk.AIR, Blk.AUT, Blk.DSP, Blk.AHN, Blk.DMU, Blk.PTP, Blk.UPD]

/-- The blocks a block requires, in the order of the Requires column (R9). -/
def Blk.requires (b : Nat) : List Nat :=
  if b = Blk.XQ || b = Blk.LPE || b = Blk.RHL || b = Blk.CLS then [Blk.SIM]
  else if b = Blk.TIM then [Blk.SIM, Blk.LPE]
  else if b = Blk.GRX then [Blk.TIM, Blk.LPE]
  else if b = Blk.SLV then [Blk.GRX, Blk.XQ]
  else if b = Blk.AIR then [Blk.RHL, Blk.TIM, Blk.KEY, Blk.XQ]
  else if b = Blk.AUT then [Blk.CLS, Blk.SLV, Blk.AIR, Blk.KEY]
  else if b = Blk.DSP then [Blk.XQ, Blk.CLS]
  else if b = Blk.AHN then [Blk.TIM, Blk.KEY]
  else if b = Blk.DMU then [Blk.TIM]
  else if b = Blk.PTP then [Blk.TIM, Blk.ETH]
  else if b = Blk.UPD then [Blk.KEY]
  else []

/-- `<PFX>_CTRL.EN` of a block (R35); a number that names no block selects a field no register holds. -/
def Blk.en (b : Nat) : Fld := ⟨(Blk.base b).getD 0x03FFFFF0, 0, 0⟩

/-- `<PFX>_CTRL.LEVEL` of a block (R35). -/
def Blk.level (b : Nat) : Fld := ⟨(Blk.base b).getD 0x03FFFFF0, 1, 1⟩

/-- The offset of `<PFX>_PARSE` (R35). -/
def Blk.parse (b : Nat) : Nat := (Blk.base b).getD 0x03FFFFF0 + 4

/-- A block is enabled. -/
def State.blkOn (s : State) (b : Nat) : Bool := s.flag (Blk.en b)

/-- A block is at expert level. -/
def State.expert (s : State) (b : Nat) : Bool := s.flag (Blk.level b)

/-- A block records a refusal in its PARSE register (R35, R40). -/
def State.refuse (s : State) (b reason detail : Nat) : State := s.setReg (Blk.parse b) (parseWord b reason detail)

/-- A block's own rule acts while the module runs and the block is enabled. -/
def State.on (s : State) (b : Nat) (f : State → State) : State := s.live fun s => if s.blkOn b then f s else s

/-- A command of an enabled block on a running module. -/
def whileOn (s : State) (b : Nat) (f : State → State) : Result := .next (s.on b f)

end Sys2Proof.Machine
end

