-- ==== Sys2Proof/Machine/Image.lean ====
section
/-!
DEFINITION. The structure image (R21–R26, R467): its layout, the checks of R25, and the readers of its sections that
other files use.
-/

namespace Sys2Proof.Machine

/-! ## Header (R21) -/

/-- ASCII "KSIM". -/
def imgMagic : List Byte := [0x4B#8, 0x53#8, 0x49#8, 0x4D#8]

/-- IMG_LEN, SEC_COUNT, SERIAL, PAIR_TAG. -/
def imgLen (img : List Byte) : Nat := Bytes.at' img 8 4
def imgSecCount (img : List Byte) : Nat := Bytes.at' img 15 1
def imgSerial (img : List Byte) : Nat := Bytes.at' img 16 4
def imgPairTag (img : List Byte) : Nat := Bytes.at' img 20 2

/-- ORIGIN_X, ORIGIN_Y, ORIGIN_Z, 0.1 mm. -/
def imgOrigin (img : List Byte) (axis : Nat) : Int := signedOf 64 (Bytes.at' img (24 + 8 * axis) 8)

/-- DIGEST. -/
def imgDigest (img : List Byte) : List Byte := Bytes.slice img 64 48

/-- KEY_ID, SIG_R and SIG_S of the signature block (R24), the last 112 bytes. -/
def imgKeyId (img : List Byte) : Nat := Bytes.at' img (imgLen img - 112) 4
def imgSig (img : List Byte) : List Byte := Bytes.slice img (imgLen img - 112 + 16) 96

/-! ## Sections (R22, R23) -/

/-- A section-table entry (R22). -/
structure ImgSec where
  type : Nat
  block : Nat
  sflags : Nat
  offset : Nat
  length : Nat
  crc : Nat
  deriving DecidableEq, Repr

/-- Entry `i` of the section table. -/
def imgEntry (img : List Byte) (i : Nat) : ImgSec :=
  let a := 128 + 16 * i
  ⟨Bytes.at' img a 1, Bytes.at' img (a + 1) 1, Bytes.at' img (a + 2) 2, Bytes.at' img (a + 4) 4, Bytes.at' img (a + 8) 4,
    Bytes.at' img (a + 12) 4⟩

/-- The section table. -/
def imgTable (img : List Byte) : List ImgSec := (List.range (imgSecCount img)).map (imgEntry img)

/-- The bytes of a section. -/
def imgBytes (img : List Byte) (e : ImgSec) : List Byte := Bytes.slice img e.offset e.length

/-- The section types of R23. -/
abbrev Sec.LANES : Nat := 0x01
abbrev Sec.CHANNELS : Nat := 0x02
abbrev Sec.MODEMS : Nat := 0x03
abbrev Sec.HEADS : Nat := 0x04
abbrev Sec.QUEUES : Nat := 0x05
abbrev Sec.LOOPS : Nat := 0x06
abbrev Sec.MAP : Nat := 0x07
abbrev Sec.POLICY : Nat := 0x08
abbrev Sec.METERING : Nat := 0x09
abbrev Sec.TIME : Nat := 0x0A

/-- The section of a type for a block. -/
def imgSection (img : List Byte) (type block : Nat) : Option (List Byte) :=
  ((imgTable img).find? (fun e => e.type == type && e.block == block)).map (imgBytes img)

/-- A block is present when a section names it (R28). -/
def imgPresent (img : List Byte) (b : Nat) : Bool := (imgTable img).any (fun e => e.block == b)

/-- The SFLAGS of a block's sections (R467: all equal). -/
def imgSflags (img : List Byte) (b : Nat) : Nat := (((imgTable img).find? (fun e => e.block == b)).map ImgSec.sflags).getD 0

/-- The block a section type names (R23); POLICY names any image block. -/
def secBlockOk (type block : Nat) : Bool :=
  (type == Sec.LANES && block == Blk.SLV) || (type == Sec.CHANNELS && block == Blk.GRX)
    || (type == Sec.MODEMS && block == Blk.AIR) || (type == Sec.HEADS && block == Blk.RHL)
    || (type == Sec.QUEUES && block == Blk.XQ) || (type == Sec.LOOPS && block == Blk.LPE)
    || (type == Sec.MAP && block == Blk.CLS) || (type == Sec.METERING && block == Blk.DMU)
    || (type == Sec.TIME && block == Blk.TIM) || (type == Sec.POLICY && Blk.image.contains block)

/-- The head length of a POLICY section (R467). -/
def policyHead (block : Nat) : Nat :=
  if block = Blk.CLS then 4096 else if block = Blk.SLV then 32 else if block = Blk.GRX then 168 else 0

/-- Bytes before the register presets of a section that has them. -/
def presetStart (type block : Nat) : Nat := if type = Sec.TIME then 4 else policyHead block

/-- The length rule of R467. -/
def secLengthOk (type block length : Nat) : Bool :=
  if type = Sec.LANES then length == 32
  else if type = Sec.CHANNELS then length == 3072
  else if type = Sec.MODEMS then length == 192
  else if type = Sec.HEADS then length == 112
  else if type = Sec.QUEUES then length == 1280
  else if type = Sec.LOOPS then length == 98304
  else if type = Sec.MAP then decide (32 ≤ length)
  else if type = Sec.METERING then length == 352
  else decide (presetStart type block ≤ length) && (length - presetStart type block) % 8 == 0

/-! ## The map (R43–R46) -/

/-- SEG_COUNT, ZONE_COUNT, OVL_COUNT and the offsets of the arrays. -/
def mapSegs (m : List Byte) : Nat := Bytes.at' m 0 4
def mapZones (m : List Byte) : Nat := Bytes.at' m 4 2
def mapOvls (m : List Byte) : Nat := Bytes.at' m 8 4
def mapSegOff (m : List Byte) : Nat := Bytes.at' m 12 4
def mapZoneOff (m : List Byte) : Nat := Bytes.at' m 16 4
def mapOvlOff (m : List Byte) : Nat := Bytes.at' m 20 4

/-- The arrays lie wholly inside the section, at offsets that are multiples of 8 (R43, R467). -/
def mapArraysOk (m : List Byte) : Bool :=
  decide (mapSegOff m + 32 * mapSegs m ≤ m.length) && decide (mapZoneOff m + 16 * mapZones m ≤ m.length)
    && decide (mapOvlOff m + 24 * mapOvls m ≤ m.length)
    && mapSegOff m % 8 == 0 && mapZoneOff m % 8 == 0 && mapOvlOff m % 8 == 0

/-- A segment record (R44). -/
structure Segment where
  ae : Int
  an : Int
  be : Int
  bn : Int
  vmax : Int
  halfW : Nat
  sflags : Nat
  length : Nat
  deriving DecidableEq, Repr

/-- Segment `i`, if the map has it. -/
def mapSeg (m : List Byte) (i : Nat) : Option Segment :=
  if i < mapSegs m then
    let r := Bytes.slice m (mapSegOff m + 32 * i) 32
    some ⟨signedOf 32 (Bytes.at' r 0 4), signedOf 32 (Bytes.at' r 4 4), signedOf 32 (Bytes.at' r 8 4),
      signedOf 32 (Bytes.at' r 12 4), signedOf 32 (Bytes.at' r 16 4), Bytes.at' r 20 2, Bytes.at' r 22 2, Bytes.at' r 24 4⟩
  else none

/-- ONEWAY and CLOSED of a segment. -/
def Segment.oneway (g : Segment) : Bool := bitOf g.sflags 0
def Segment.closed (g : Segment) : Bool := bitOf g.sflags 1

/-- A zone record (R45). -/
structure Zone where
  oe : Int
  on : Int
  cellMm : Nat
  cols : Nat
  rows : Nat
  deriving DecidableEq, Repr

/-- Zone `i`, if the map has it. -/
def mapZone (m : List Byte) (i : Nat) : Option Zone :=
  if i < mapZones m then
    let r := Bytes.slice m (mapZoneOff m + 16 * i) 16
    some ⟨signedOf 32 (Bytes.at' r 0 4), signedOf 32 (Bytes.at' r 4 4), Bytes.at' r 8 2, Bytes.at' r 10 2, Bytes.at' r 12 2⟩
  else none

/-- One end of an overlap entry: the SPACE word and the span. -/
structure OvlEnd where
  spaceWord : Nat
  lo : Nat
  hi : Nat
  deriving DecidableEq, Repr

/-- The two ends of overlap entry `i` (R46). -/
def mapOvl (m : List Byte) (i : Nat) : OvlEnd × OvlEnd :=
  let r := Bytes.slice m (mapOvlOff m + 24 * i) 24
  (⟨Bytes.at' r 0 4, Bytes.at' r 4 4, Bytes.at' r 8 4⟩, ⟨Bytes.at' r 12 4, Bytes.at' r 16 4, Bytes.at' r 20 4⟩)

/-- The cell ID of row `r`, column `c` of zone `z` (R45). -/
def cellId (z cols r c : Nat) : Nat := z * 65536 + (r * cols + c)

/-! ## Register presets (R467) -/

/-- The mask of the bits a register's RW and RWL fields occupy. -/
def presetMask (d : RegDesc) : Nat :=
  (d.fields.filter (fun f => f.access == .rw || f.access == .rwl)).foldl
    (fun m f => m ||| ((2 ^ (f.fld.hi - f.fld.lo + 1) - 1) * 2 ^ f.fld.lo)) 0

/-- The presets that follow the head of a section: (offset in the block's window, value). -/
def presetsOf (bs : List Byte) (start : Nat) : List (Nat × Nat) :=
  (List.range ((bs.length - start) / 8)).map fun i => (Bytes.at' bs (start + 8 * i) 4, Bytes.at' bs (start + 8 * i + 4) 4)

/-- A preset of a block obeys R467. -/
def presetOk (block : Nat) (p : Nat × Nat) : Bool :=
  match Blk.base block with
  | none => false
  | some base =>
    p.1 % 4 == 0 && p.1 != 0 && p.1 != 4 && Blk.at' (base + p.1) == some block &&
      (match Regs.descAt (base + p.1) with
       | some d => presetMask d != 0 && (p.2 &&& presetMask d) == p.2
       | none => false)

/-! ## Verification (R25) -/

/-- Whether two sections overlap. An empty section strictly inside another one does: DESIGN CHOICE (log 75). -/
def secOverlap (a b : ImgSec) : Bool := decide (a.offset < b.offset + b.length) && decide (b.offset < a.offset + a.length)

/-- Entry `e`, checked against the entries before it. Which of two entries in conflict fails is DEDUCED (log 20). -/
def secOk (img : List Byte) (before : List ImgSec) (e : ImgSec) : Bool :=
  secBlockOk e.type e.block && decide (e.sflags < 4) && e.offset % 8 == 0
    && decide (128 + 16 * imgSecCount img ≤ e.offset) && decide (e.offset + e.length ≤ imgLen img - 112)
    && before.all (fun b => !secOverlap b e && !(b.type == e.type && b.block == e.block)
        && !(b.block == e.block && b.sflags != e.sflags))
    && secLengthOk e.type e.block e.length
    && (e.type != Sec.MAP || mapArraysOk (imgBytes img e))
    && ((e.type != Sec.POLICY && e.type != Sec.TIME)
        || (presetsOf (imgBytes img e) (presetStart e.type e.block)).all (presetOk e.block))

/-- The position of the first entry that fails, `i` the position of the head of the second list. -/
def secFirstBad (img : List Byte) (i : Nat) : (before : List ImgSec) → List ImgSec → Option Nat
  | _, [] => none
  | before, e :: rest => if secOk img before e then secFirstBad img (i + 1) (before ++ [e]) rest else some i

/-- The rate of a head stream by its code (R257), kS/s. -/
def streamRate (code : Nat) : Nat := [0, 960, 1920, 3840, 7680, 15360, 23040, 30720, 46080, 61440].getD code 0

/-- The byte string of a section, empty where the image has none. -/
def imgSec (img : List Byte) (type block : Nat) : List Byte := (imgSection img type block).getD []

/-- How many entries of `n` bytes of a section have `p`. -/
def secCount (bs : List Byte) (n : Nat) (p : List Byte → Bool) : Nat :=
  ((List.range (bs.length / n)).filter fun i => p (Bytes.slice bs (n * i) n)).length

/-- The sum of `f` over the entries of `n` bytes of a section. -/
def secSum (bs : List Byte) (n : Nat) (f : List Byte → Nat) : Nat :=
  ((List.range (bs.length / n)).map fun i => f (Bytes.slice bs (n * i) n)).sum

/-- The rates of the streams of a link, summed, kS/s (R258). -/
def linkRate (heads : List Byte) (link : Nat) : Nat :=
  ((List.range 4).map fun i => streamRate (Bytes.at' heads (32 * link + 8 * i) 1)).sum

/-- The first resource of R26 an image exceeds. -/
def imgOverRes (img : List Byte) : Option Nat :=
  let lanes := imgSec img Sec.LANES Blk.SLV
  let chans := imgSec img Sec.CHANNELS Blk.GRX
  let modems := imgSec img Sec.MODEMS Blk.AIR
  let queues := imgSec img Sec.QUEUES Blk.XQ
  let loops := imgSec img Sec.LOOPS Blk.LPE
  let map := imgSec img Sec.MAP Blk.CLS
  let heads := imgSec img Sec.HEADS Blk.RHL
  if secCount lanes 1 (fun e => Bytes.at' e 0 1 != 0) > 32 then some 1
  else if secCount chans 8 (fun e => Bytes.at' e 0 1 != 0) > 384 then some 2
  else if secCount modems 16 (fun e => Bytes.at' e 0 1 != 0) > 12 then some 3
  else if secCount modems 16 (fun e => Bytes.at' e 0 1 == 2) > 8 then some 4
  else if secCount queues 8 (fun e => Bytes.at' e 4 1 != 0) > 160 then some 5
  else if secCount loops 48 (fun e => Bytes.at' e 0 1 != 0) > 2048 then some 6
  else if secSum loops 48 (fun e => if Bytes.at' e 0 1 = 0 then 0 else Bytes.at' e 12 4) > 1500000 then some 7
  else if mapSegs map > 131072 then some 8
  else if linkRate heads 0 > 61440 || linkRate heads 1 > 61440 then some 9
  else none

/-- The site origin lies 6,350,000 m to 6,390,000 m from the Earth's centre (R25, check 9), in units of 0.1 mm. -/
def imgOriginOk (img : List Byte) : Bool :=
  let d := imgOrigin img 0 * imgOrigin img 0 + imgOrigin img 1 * imgOrigin img 1 + imgOrigin img 2 * imgOrigin img 2
  decide (63500000000 * 63500000000 ≤ d) && decide (d ≤ 63900000000 * 63900000000)

/-- Checks 1 to 10 of R25 on a copy of `n` bytes asked for, in order: the first refusal as (code, DETAIL). `key` gives the
enrolled public key of a KEY_ID; `unsigned` says whether KEY_ID 0 is permitted (R420); `rev` is the silicon revision. -/
def imgVerify (img : List Byte) (rev : Nat) (unsignedOk : Bool) (key : Nat → Option (List Byte)) : Option (Nat × Nat) :=
  if Bytes.slice img 0 4 != imgMagic || Bytes.at' img 4 2 != 1 || Bytes.at' img 6 2 != 128 || imgLen img % 8 != 0
      || decide (67108864 < imgLen img) then some (0x20, 0)
  else if Bytes.at' img 12 2 != 0x7160 || decide (rev < Bytes.at' img 14 1) then some (0x21, 0)
  else if imgSecCount img = 0 || imgSecCount img > 64 || imgLen img < 128 + 16 * imgSecCount img + 112 then some (0x22, 0xFF)
  else match secFirstBad img 0 [] (imgTable img) with
  | some i => some (0x22, i)
  | none =>
    let kid := imgKeyId img
    if kid = 0 && !unsignedOk then some (0x07, 0)
    else if kid != 0 && (key kid).isNone then some (0x06, 9)
    else if kid != 0 && !ecdsaVerify ((key kid).getD []) (Bytes.slice img 0 128) (imgSig img) then some (0x25, 0)
    else if sha384 (Bytes.slice img 128 (imgLen img - 112 - 128)) != imgDigest img then some (0x24, 0)
    else if !(imgTable img).all (fun e => crc32 (imgBytes img e) == e.crc) then some (0x23, 0)
    else if !imgOriginOk img then some (0x27, 0)
    else (imgOverRes img).map fun r => (0x03, r)

end Sys2Proof.Machine
end

