-- ==== Sys2Proof/Machine/Structure.lean ====
section
/-!
DEFINITION. SIM (R20–R32, R41, R42): loading, verifying, storing and discarding structure images, and the boot slot.
Machine/Apply.lean has the apply, the start-up load and the parse check.
-/

namespace Sys2Proof.Machine

/-! ## What SIM's commands share -/

/-- SIM_CMD operations (R41). -/
abbrev SimOp.LOAD_HOST : Nat := 1
abbrev SimOp.LOAD_FLASH : Nat := 2
abbrev SimOp.APPLY_FULL : Nat := 3
abbrev SimOp.APPLY_SECTIONS : Nat := 4
abbrev SimOp.STORE : Nat := 5
abbrev SimOp.DISCARD : Nat := 6
abbrev SimOp.SET_BOOT : Nat := 7

/-- The ARG of events 17, 19, 24 and 25 beyond the code: OP in bits 27:24, SLOT in bit 28 (R468). -/
def simArg (op slot : Nat) : Nat := op * 2 ^ 24 + slot * 2 ^ 28

/-- A command begins: BUSY, and OP names it. -/
def State.simBegin (s : State) (op slot : Nat) (c : Option SimCmd) : State :=
  let s := { s with sim := { s.sim with cmd := c, slot := slot } }
  (s.setFld F.SIM_STATUS_OP op).setFld F.SIM_STATUS_BUSY (b2n c.isSome)

/-- A command ends: BUSY clears, DONE is set, `SIM_PARSE` holds the outcome (R41). -/
def State.simEnd (s : State) (parse : Word) : State :=
  let s := { s with sim := { s.sim with cmd := none, waiting := false } }
  ((s.setFld F.SIM_STATUS_BUSY 0).setFld F.SIM_STATUS_DONE 1).setReg R.SIM_PARSE parse

/-- A command ends well. -/
def State.simDone (s : State) : State := s.simEnd 0

/-- A command ends with refusal `code`, raising event `ev` where its operation has one. -/
def State.simRefuse (s : State) (op code detail : Nat) (ev : Option Nat) : State :=
  let w := parseWord Blk.SIM code detail
  let s := s.simEnd w
  match ev with
  | some e => s.raise e (w.toNat + simArg op s.sim.slot)
  | none => s

/-- A write to `SIM_CMD` while a command runs is refused with event 26 (R32); otherwise `f` runs the command. -/
def State.simCmd (s : State) (op : Nat) (f : State → State) : State :=
  if s.flag F.SIM_STATUS_BUSY then s.raise Ev.SIM_CMD_BUSY (0x022C + op * 65536) else f s

/-- The image slot of a number (R29). -/
def State.flashSlot (s : State) (n : Nat) : Option (List Byte) := if n = 0 then s.nand.slot0 else s.nand.slot1

/-- Set an image slot. -/
def State.setFlashSlot (s : State) (n : Nat) (v : Option (List Byte)) : State :=
  if n = 0 then { s with nand := { s.nand with slot0 := v } } else { s with nand := { s.nand with slot1 := v } }

/-- Set the staged image. -/
def State.setStaged (s : State) (v : Option (List Byte)) : State := { s with sim := { s.sim with staged := v } }

/-- No new NAND write starts while PFW_N is asserted or an EJECT_N has been accepted (R367, R379). -/
def State.nandStopped (s : State) : Bool := !s.pins.p12v || s.hpg.ejectAt.isSome

/-- The silicon revision as R21 and R330 number it. -/
def State.siliconRev (s : State) : Nat := b2n s.pins.revB

/-- The public key of a KEY_ID: 0x10 to 0x17 name image-signing slots 0 to 7 (R413). -/
def State.imgKey (s : State) (kid : Nat) : Option (List Byte) :=
  if 0x10 ≤ kid ∧ kid ≤ 0x17 then s.keys.imgKeys.get none (kid - 0x10) else none

/-- The first check of R25 an image fails, if any. -/
def State.simVerify (s : State) (img : List Byte) : Option (Nat × Nat) :=
  imgVerify img s.siliconRev (decide (s.keys.lc < 2)) s.imgKey

/-! ## Commands -/

/-- LOAD_HOST (R25): the staged image is discarded and the source copied; LOAD_COMPLETE verifies the copy. A source beyond
the BAR2 window leaves no copy. -/
def execLoadHost (slot : Bool) (s : State) : Result :=
  whileRunning s fun s => s.simCmd SimOp.LOAD_HOST fun s =>
    let off := s.fld F.SIM_SRC_OFFSET * 8
    let n := s.fld F.SIM_LEN_LEN
    let copy := if off + n ≤ bar2Size then some (s.bar2Read off n) else none
    (s.setStaged none).simBegin SimOp.LOAD_HOST (b2n slot) (some (.loadHost copy n))

/-- LOAD_FLASH (R25): as LOAD_HOST, from a flash slot. -/
def execLoadFlash (slot : Bool) (s : State) : Result :=
  whileRunning s fun s => s.simCmd SimOp.LOAD_FLASH fun s =>
    (s.setStaged none).simBegin SimOp.LOAD_FLASH (b2n slot) (some (.loadFlash (b2n slot)))

/-- A load ends: the copy is staged with event 16, or refused with event 17 (R25, R42). -/
def State.loadEnd (s : State) (op : Nat) (img : List Byte) : State :=
  match s.simVerify img with
  | some (code, detail) => s.simRefuse op code detail (some Ev.SIM_LOAD_FAIL)
  | none => ((s.setStaged (some img)).simDone).raise Ev.SIM_LOAD_DONE (imgSerial img)

/-- LOAD_COMPLETE (R25): check 1 on the source, then the others on the copy. Without a load running nothing happens. -/
def execLoadComplete (s : State) : Result :=
  whileRunning s fun s =>
    match s.sim.cmd with
    | some (.loadHost (some img) n) =>
      if imgLen img = n then s.loadEnd SimOp.LOAD_HOST img
      else s.simRefuse SimOp.LOAD_HOST 0x26 0 (some Ev.SIM_LOAD_FAIL)
    | some (.loadHost none _) => s.simRefuse SimOp.LOAD_HOST 0x26 0 (some Ev.SIM_LOAD_FAIL)
    | some (.loadFlash slot) =>
      match s.flashSlot slot with
      | some img => s.loadEnd SimOp.LOAD_FLASH img
      | none => s.simRefuse SimOp.LOAD_FLASH 0x2D 0 (some Ev.SIM_LOAD_FAIL)
    | _ => s

/-- STORE (R29): refused for the boot slot, or without a staged image (where both hold, for the boot slot: DESIGN CHOICE, log 75); otherwise the slot is invalid until the read-back.
While no new NAND write may start it is abandoned at once (log 21). -/
def execStore (slot : Bool) (s : State) : Result :=
  whileRunning s fun s => s.simCmd SimOp.STORE fun s =>
    let n := b2n slot
    let s := s.simBegin SimOp.STORE n none
    if s.nand.boot = n then s.simRefuse SimOp.STORE 0x2E 0 (some Ev.SIM_STORE_FAIL)
    else if s.sim.staged.isNone then s.simRefuse SimOp.STORE 0x2B 0 (some Ev.SIM_STORE_FAIL)
    else if s.nandStopped then s.simRefuse SimOp.STORE 0x31 0 (some Ev.SIM_STORE_FAIL)
    else (s.simBegin SimOp.STORE n (some (.store n))).setFlashSlot n none

/-- STORE_COMPLETE (R29): the read-back of the slot verifies (`ok`) or not. -/
def execStoreComplete (ok : Bool) (s : State) : Result :=
  whileRunning s fun s =>
    match s.sim.cmd with
    | some (.store n) =>
      if ok then ((s.setFlashSlot n s.sim.staged).simDone).raise Ev.SIM_STORE_DONE (simArg SimOp.STORE n)
      else s.simRefuse SimOp.STORE 0x2F 0 (some Ev.SIM_STORE_FAIL)
    | _ => s

/-- A STORE in progress is abandoned (R29): the slot stays invalid, the staged image stays staged. -/
def State.storeAbandon (s : State) : State :=
  match s.sim.cmd with
  | some (.store _) => s.simRefuse SimOp.STORE 0x31 0 (some Ev.SIM_STORE_FAIL)
  | _ => s

/-- DISCARD (R41). -/
def execDiscard (slot : Bool) (s : State) : Result :=
  whileRunning s fun s => s.simCmd SimOp.DISCARD fun s =>
    ((s.simBegin SimOp.DISCARD (b2n slot) none).setStaged none).simDone

/-- SET_BOOT (R29): refused with 0x022D for a slot that is not valid. While no new NAND write may start it ends as a STORE
then does (log 21). -/
def execSetBoot (slot : Bool) (s : State) : Result :=
  whileRunning s fun s => s.simCmd SimOp.SET_BOOT fun s =>
    let n := b2n slot
    let s := s.simBegin SimOp.SET_BOOT n none
    if (s.flashSlot n).isNone then s.simRefuse SimOp.SET_BOOT 0x2D 0 (some Ev.SIM_STORE_FAIL)
    else if s.nandStopped then s.simRefuse SimOp.SET_BOOT 0x31 0 (some Ev.SIM_STORE_FAIL)
    else (({ s with nand := { s.nand with boot := n } }).simDone).raise Ev.SIM_STORE_DONE (simArg SimOp.SET_BOOT n)

end Sys2Proof.Machine
end

