-- ==== Sys2Proof/Machine/Logbook.lean ====
section
/-!
DEFINITION. LOG (R431–R444): its commands, the periodic buffer write, the closing of repeat entries. Machine/Ops.lean has what
enters a record and what writes the buffer to NAND.
-/

namespace Sys2Proof.Machine

/-- Records of the circulating area, oldest first. -/
def LogSt.circRecs (l : LogSt) : List LogRec := l.circ.flatten

/-- LSEQ `a` is later than or equal to `b`, modulo 2^32 (R439). -/
def seqGe (a b : Nat) : Bool := decide ((a + 2 ^ 32 - b) % 2 ^ 32 < 2 ^ 31)

/-- `LOG_OLDEST` (R442): the oldest LSEQ in the circulating area; while it is empty, that of the next record (log 13). -/
def LogSt.oldest (l : LogSt) : Nat := ((l.circRecs ++ l.buf).head?.map LogRec.lseq).getD l.next

/-- The permanent area's records that the write buffer still holds are part of it from FIELD on (R437, R439). -/
def State.logArea (s : State) (perm : Bool) : List LogRec :=
  if perm then s.log.perm ++ (if s.keys.lc < 2 || s.flag F.LOG_STATUS_PERM_FULL then [] else s.log.buf)
  else s.log.circRecs ++ s.log.buf

/-- The end of the area `LOG_DST` and RD_MAX name fits the window (R443). -/
def State.logFits (s : State) : Bool := decide (s.fld F.LOG_DST_OFFSET * 8 + s.fld F.LOG_RD_MAX_BYTES ≤ bar2Size)

/-- A refused command (R443): no copy, RESULT 0, `LOG_PARSE` holds the reason. -/
def State.logRefuse (s : State) (reason : Nat) : State :=
  ((s.refuse Blk.LOG reason 0).setFld F.LOG_STATUS_RESULT 0).setFld F.LOG_STATUS_DONE 1

/-- READ_CIRC and READ_PERM (R439, R442, R443). A write while BUSY has no effect. -/
def State.logRead (s : State) (perm : Bool) : State :=
  if s.flag F.LOG_STATUS_BUSY then s
  else
    let seq := s.fld F.LOG_RD_SEQ_SEQ
    if (s.logArea perm).isEmpty || !seqGe s.log.next seq then s.logRefuse 0x20
    else if !s.logFits then s.logRefuse 0x21
    else
      ({ s with log := { s.log with read := some ⟨perm, seq, s.fld F.LOG_RD_MAX_BYTES, s.fld F.LOG_DST_OFFSET * 8⟩ } }
        ).setFld F.LOG_STATUS_BUSY 1

/-- READ_CIRC (R439). -/
def execReadCirc (s : State) : Result := whileRunning s fun s => s.logRead false

/-- READ_PERM (R439). -/
def execReadPerm (s : State) : Result := whileRunning s fun s => s.logRead true

/-- Whole records up to `max` bytes. -/
def takeRecs : (max : Nat) → List LogRec → List LogRec
  | _, [] => []
  | max, r :: rest => if r.len ≤ max then r :: takeRecs (max - r.len) rest else []

/-- A READ ends with RESULT `res`, having copied `recs` (R439, R442). -/
def State.logReadEnd (s : State) (rd : LogRead) (res : Nat) (recs : List LogRec) : State :=
  let bytes := (recs.map LogRec.bytes).flatten
  let last := ((recs.getLast?).map LogRec.lseq).getD ((rd.seq + 2 ^ 32 - 1) % 2 ^ 32)
  let s := { s with log := { s.log with read := none } }
  let s := s.bar2Write rd.dst bytes
  let s := (s.setReg R.LOG_RD_COUNT (BitVec.ofNat 32 bytes.length)).setReg R.LOG_RD_LAST (BitVec.ofNat 32 last)
  let s := s.setReg R.LOG_RD_RECS (BitVec.ofNat 32 recs.length)
  ((s.setFld F.LOG_STATUS_BUSY 0).setFld F.LOG_STATUS_RESULT res).setFld F.LOG_STATUS_DONE 1

/-- LOG_READ_COMPLETE (R439): the copy of whole records from RD_SEQ on ends; `overtaken`: an erase overtook the record being
read after `n` records, and the command ends with RESULT 3. Nothing erases the permanent area (R437). -/
def execLogReadComplete (overtaken : Option Nat) (s : State) : Result :=
  whileRunning s fun s =>
    match s.log.read with
    | none => s
    | some rd =>
      let recs := takeRecs rd.maxBytes ((s.logArea rd.perm).filter fun r => seqGe r.lseq rd.seq)
      match if rd.perm then none else overtaken with
      | some n => s.logReadEnd rd 3 (recs.take n)
      | none => s.logReadEnd rd 1 recs

/-- FLUSH (R442): the buffer is written to NAND without STOP. A write while BUSY has no effect. -/
def execFlush (s : State) : Result :=
  whileRunning s fun s =>
    if s.flag F.LOG_STATUS_BUSY then s
    else
      let s := if s.nandStopped then s else s.logFlush none
      (s.setFld F.LOG_STATUS_RESULT 1).setFld F.LOG_STATUS_DONE 1

/-- LOG_BUFFER_WRITE (R434, R438): the periodic write of the buffer; `badPages` pages fail to program and `badUnits` units fail
to erase on the way. -/
def execLogBufferWrite (badPages badUnits : Nat) (s : State) : Result :=
  whileRunning s fun s =>
    if s.nandStopped then s
    else
      let s := { s with log := { s.log with retired := min (s.log.retired + badUnits) circUnits } }
      let s := s.bump (F.LOG_CNT_COUNT.nth 2) (badPages + badUnits)
      let s := s.logFlush none
      if badPages + badUnits = 0 then s else s.raise Ev.LOG_NAND_FAULT 0

/-- REPEAT_CLOSE (R435): every repeat entry whose window has ended writes its REPEAT record. -/
def execRepeatClose (s : State) : Result :=
  whileRunning s fun s =>
    (s.log.repeats.filter fun e => s.passed e.first s.repeatWindow).foldl State.logClose s

/-- A power-fail warning, a removal or a reset ends a READ with RESULT 2 (R441). -/
def State.logReadAbort (s : State) : State :=
  match s.log.read with
  | some rd => s.logReadEnd rd 2 []
  | none => s

/-- LOG's start (R436): the highest LSEQ in NAND, the START marker, UNCLEAN with event 225 unless the last record is a STOP. -/
def State.logStart (s : State) (cause : Nat) : State :=
  match s.log.circRecs.getLast? with
  | none => s.logMarker 1 cause (Bytes.ofNat 4 0 ++ Bytes.ofNat 4 0)
  | some r =>
    let stop := r.kind == 4 && r.evno == 2
    let next := (r.lseq + if stop then 1 else 4096) % 2 ^ 32
    let s := { s with log := { s.log with next := next } }
    let s := s.setFld F.LOG_STATUS_UNCLEAN (b2n !stop)
    let s := s.logMarker 1 (cause + 2 ^ 31 * b2n !stop) (Bytes.ofNat 4 r.hours ++ Bytes.ofNat 4 r.sec)
    if stop then s else s.raise Ev.LOG_UNCLEAN 0

end Sys2Proof.Machine
end

