-- ==== Sys2Proof/Machine/Host.lean ====
section
/-!
DEFINITION. The host interface (R330–R359): software events, vectors, doorbells, ring enable, the PCIe link, the outputs of
R338, and the crossing queues.
-/

namespace Sys2Proof.Machine

/-! ## Events and vectors -/

/-- EVT_RAISE (R343): a write of 240 to 255 raises that event with `EVT_RAISE_ARG`; other values are ignored. -/
def execEvtRaise (event : Nat) (s : State) : Result :=
  whileRunning s fun s =>
    if 240 ≤ event ∧ event ≤ 255 then s.raise event (s.fld F.EVT_RAISE_ARG_ARG) else s

/-- PENDING_CLEAR (R340, R354): a write of `mask` to `EVT_PEND`n clears the bits it holds. -/
def execPendingClear (n : Nat) (mask : Word) (s : State) : Result :=
  whileRunning s fun s =>
    if n < 8 then s.setReg (R.EVT_PEND + 4 * n) (s.reg (R.EVT_PEND + 4 * n) &&& ~~~mask) else s

/-- VECTOR_MODERATION_EXPIRY (R342): MOD_US after the last message, the signals that waited are sent as one. -/
def execVectorModerationExpiry (v : Nat) (s : State) : Result :=
  whileRunning s fun s =>
    if s.evt.vecWait.get false v then
      match s.evt.vecLast.get none v with
      | some t => if s.passed t (s.fldB v F.EVT_VEC_MOD_MOD_US * 1000) then s.sendVec v else s
      | none => s.sendVec v
    else s

/-- The pending bit of a vector is sent once it is unmasked (R342). -/
def State.vecUnmask (s : State) (v : Nat) : State :=
  let s := s.setFld (maskFld v) 0
  if s.flag (pbaFld v) && s.msixLive && s.evt.fresh.get false v then (s.setFld (pbaFld v) 0).sendVec v else s

/-- MSIX_VECTOR_UNMASK (R342). -/
def execMsixVectorUnmask (v : Nat) (s : State) : Result :=
  whileRunning s fun s => if v < 64 then s.vecUnmask v else s

/-! ## The PCIe link (R331) -/

/-- What PERST_N and a link-down reset: the link, configuration space, the MSI-X table and the vector masks. -/
def State.pcieReset (s : State) : State :=
  let s := s.setReg R.HST_STATUS 0
  let s := (List.range 258).foldl (fun s i => s.setReg (R.HST_MSIX + 4 * i) (Regs.resetWord (R.HST_MSIX + 4 * i))) s
  { s with evt := { s.evt with vecLast := [], vecWait := [], fresh := [] } }

/-- PERST (R331): PERST_N is asserted. -/
def execPerst (s : State) : Result :=
  let s := { s with pins := { s.pins with perstHigh := false } }
  whileRunning s fun s => s.pcieReset.raise Ev.HST_HOST_LINK_DOWN 0

/-- HOST_LINK_DOWN (R331): treated like PERST_N. -/
def execHostLinkDown (s : State) : Result :=
  whileRunning s fun s =>
    if s.flag F.HST_STATUS_LINK_UP then s.pcieReset.raise Ev.HST_HOST_LINK_DOWN 0 else s

/-- HOST_LINK_UP (R331): the link comes up at `speed` and `width`, PERST_N high. -/
def execHostLinkUp (speed width : Nat) (s : State) : Result :=
  whileRunning s fun s =>
    if s.flag F.HST_STATUS_LINK_UP then s
    else
      let s := { s with pins := { s.pins with perstHigh := true } }
      let s := ((s.setFld F.HST_STATUS_SPEED speed).setFld F.HST_STATUS_WIDTH width).setFld F.HST_STATUS_LINK_UP 1
      s.raise Ev.HST_HOST_LINK_UP 0

/-- BUS_MASTER_ENABLE_CHANGE (R336): DMA rings pause while the bit is 0. -/
def execBusMasterEnableChange (on : Bool) (s : State) : Result :=
  whileRunning s fun s => s.setFld F.HST_STATUS_BME (b2n on)

/-- PCIE_ERROR (R359): an uncorrectable AER error, or a DMA completion error, which HST_CNT3 counts (R356). -/
def execPcieError (dmaCompletion : Bool) (s : State) : Result :=
  whileRunning s fun s =>
    (if dmaCompletion then s.bump (F.HST_CNT_COUNT.nth 3) else s).raise Ev.HST_PCIE_ERROR 0

/-! ## Rings -/

/-- DOORBELL_WRITE (R335): sets the index the host owns, and arms the notification where bit 31 is 1. -/
def execDoorbellWrite (r : Nat) (value : Word) (s : State) : Result :=
  whileRunning s fun s =>
    let g := s.ring r
    let idx := F.HST_DB_INDEX.get value
    let g' := if s.ringDir r == dirOut then { g with c := idx } else { g with p := idx }
    if !s.ringEn r || s.ringDir r == dirLocal || decide (s.ringCount r < g'.used) then s.bump (F.HST_CNT_COUNT.nth 2)
    else s.setRing r { g' with armed := g.armed || F.HST_DB_ARM.get value == 1 }

/-- The slot area of a ring: first byte and the byte after the last. -/
def State.ringArea (s : State) (r : Nat) : Nat × Nat := (s.ringBase r, s.ringBase r + s.ringCount r * s.ringSlot r)

/-- The slot area overlaps that of another enabled ring (R334). -/
def State.ringOverlaps (s : State) (r : Nat) : Bool :=
  (List.range 1024).any fun k =>
    k != r && s.ringEn k && decide ((s.ringArea r).1 < (s.ringArea k).2) && decide ((s.ringArea k).1 < (s.ringArea r).2)

/-- The fields of `HST_RING_CFG` are in range (R356). -/
def State.ringInRange (s : State) (r : Nat) : Bool :=
  decide (s.ringDir r ≤ 2) && decide (s.fldB r F.HST_RING_CFG_LOG2_COUNT ≤ 12)
    && decide (4 ≤ s.fldB r F.HST_RING_CFG_SLOT_LOG2) && decide (s.fldB r F.HST_RING_CFG_SLOT_LOG2 ≤ 12)

/-- A refused ring, rule or forward enable: the parse code, and event 235 with the code and the ring (R468). -/
def State.ringRefuse (s : State) (blk reason detail ring : Nat) : State :=
  (s.refuse blk reason detail).raise Ev.HST_RING_REFUSED (blk * 256 + reason + ring * 65536)

/-- The reason a ring enable is refused, if any (R334, R358). -/
def State.ringRefusal (s : State) (r : Nat) : Option (Nat × Nat) :=
  if !s.ringInRange r then some (0x09, 0)
  else if bar2Size < (s.ringArea r).2 then some (0x20, r % 256)
  else if s.ringOverlaps r then some (0x21, r % 256)
  else if s.ringDma r && s.ringSlot r != 16 then some (0x22, r % 256)
  else none

/-- A write to `HST_RING_CFG` of the ring `HST_RING_IDX` shows (R334, R356): the configuration fields are RWL against the
ring's own EN; a write of EN = 1 to a disabled ring checks it and enables it with both indices 0. -/
def State.ringCfgWrite (s : State) (value : Word) : State :=
  let r := s.fld F.HST_RING_IDX_RING
  let s' := s.setFldB r F.HST_RING_CFG_VEC (F.HST_RING_CFG_VEC.get value)
  if s.ringEn r then
    if F.HST_RING_CFG_EN.get value == 1 then s' else s'.setFldB r F.HST_RING_CFG_EN 0
  else
    let s := [F.HST_RING_CFG_DIR, F.HST_RING_CFG_MODE, F.HST_RING_CFG_LOG2_COUNT, F.HST_RING_CFG_SLOT_LOG2].foldl
      (fun s f => s.setFldB r f (f.get value)) s'
    if F.HST_RING_CFG_EN.get value == 0 then s
    else match s.ringRefusal r with
      | some (reason, detail) => s.ringRefuse Blk.HST reason detail r
      | none => (s.setFldB r F.HST_RING_CFG_EN 1).setRing r { s.ring r with p := 0, c := 0 }

/-- RING_ENABLE (R334): a write to `HST_RING_CFG` with EN = 1. -/
def execRingEnable (value : Word) (s : State) : Result :=
  whileRunning s fun s => s.ringCfgWrite (F.HST_RING_CFG_EN.put value 1)

/-! ## Outputs (R338) -/

/-- Every output in use, as (block, ring). -/
def State.outputs (s : State) : List (Nat × Nat) :=
  let out (b : Nat) (on : Bool) (ring : Nat) : List (Nat × Nat) := if on then [(b, ring)] else []
  out Blk.GRX (s.blkOn Blk.GRX && s.flag F.GRX_RTCM_EN) (s.fld F.GRX_RTCM_RING)
    ++ out Blk.GRX (s.blkOn Blk.GRX && s.flag F.GRX_OUT_SET_EN) (s.fld F.GRX_OUT_SET_RING)
    ++ out Blk.GRX (s.blkOn Blk.GRX && s.flag F.GRX_OUT_NAV_EN) (s.fld F.GRX_OUT_NAV_RING)
    ++ out Blk.SLV (s.blkOn Blk.SLV && s.flag F.SLV_OUT_HOST_EN) (s.fld F.SLV_OUT_RING)
    ++ out Blk.PTP (s.blkOn Blk.PTP && s.flag F.PTP_RING_EN) (s.fld F.PTP_RING_RING)
    ++ out Blk.DSP (s.blkOn Blk.DSP && (s.flag F.DSP_TRACE_FLEET_EN || s.flag F.DSP_TRACE_CORE_EN)) (s.fld F.DSP_TRACE_RING)
    ++ out Blk.DMU (s.blkOn Blk.DMU && s.flag F.DMU_OUT_EN) (s.fld F.DMU_OUT_RING)
    ++ out Blk.AHN (s.blkOn Blk.AHN && s.flag F.AHN_SW_EN) (s.fld F.AHN_SW_RX_RING)
    ++ out Blk.EVT (s.flag F.EVT_RING_EN) (s.fld F.EVT_RING_RING)
    ++ out Blk.LOG (s.flag F.LOG_CFG_OUT_EN) (s.fld F.LOG_CFG_RING)
    ++ (List.range 32).flatMap (fun i => out Blk.ETH (s.flagB i F.ETH_RULE_ACT_EN) (s.fldB i F.ETH_RULE_ACT_RING))
    ++ (List.range 2).flatMap (fun i => out Blk.ETH (s.flagB i F.ETH_PORT_CFG_DEF_EN) (s.fldB i F.ETH_PORT_CFG_DEF_RING))

/-- A ring two outputs in use name, if there is one. -/
def ringClash : List (Nat × Nat) → Option Nat
  | [] => none
  | o :: rest => if rest.any (fun q => q.2 == o.2) then some o.2 else ringClash rest

/-- Apply a write that may bring an output into use: where it would make two outputs in use name one ring, it is ignored
and HST records reason 0x23 (R338). -/
def State.guardOutputs (s : State) (f : State → State) : State :=
  let s' := f s
  match ringClash s'.outputs with
  | none => s'
  | some r => if (ringClash s.outputs).isSome then s' else s.ringRefuse Blk.HST 0x23 (r % 256) r

/-! ## Crossing queues (R347–R352) -/

/-- Entry `q` of the QUEUES section of the applied image: PROD, CONS, DEPTH_LOG2, QFLAGS. -/
def State.xqEntry (s : State) (q : Nat) : Nat × Nat × Nat × Nat :=
  match s.sim.applied with
  | none => (0, 0, 0, 0)
  | some img =>
    let e := Bytes.slice (imgSec img Sec.QUEUES Blk.XQ) (8 * q) 8
    (Bytes.at' e 0 2, Bytes.at' e 2 2, Bytes.at' e 4 1, Bytes.at' e 5 1)

/-- The queue is connected, and forms packets. -/
def State.xqConnected (s : State) (q : Nat) : Bool := decide (q < 160) && (s.xqEntry q).2.2.1 != 0
def State.xqPacket (s : State) (q : Nat) : Bool := bitOf (s.xqEntry q).2.2.2 1

/-- A queue, and setting it. -/
def State.xqueue (s : State) (q : Nat) : XQueue := s.xq.get XQueue.idle q
def State.setXq (s : State) (q : Nat) (v : XQueue) : State := { s with xq := s.xq.set XQueue.idle q v }

/-- An item arrives in a queue: it is discarded while a DROP waits for its end-of-packet mark (R350), and ends a stall. -/
def State.xqArrive (s : State) (q item : Nat) (mark : Bool) : State :=
  let x := s.xqueue q
  if x.dropping then (s.setXq q { x with dropping := !mark }).bumpB q F.XQ_Q_STAT_DROPS
  else s.setXq q { x with items := x.items ++ [(item, mark)], stalled := false }

/-- A queue is reset on both sides (R349): its items and a waiting DROP are gone, the reset is counted, event 32 names the
queue and its CCOUNT; at expert level the queue is held, with event 33. -/
def State.xqReset (s : State) (q : Nat) : State :=
  let x := s.xqueue q
  let n := x.items.length
  let s := s.setXq q { x with items := [], dropping := false, held := x.held || s.expert Blk.XQ }
  let s := s.setFldB q F.XQ_Q_STAT_RESETS ((s.fldB q F.XQ_Q_STAT_RESETS + 1) % 256)
  let s := s.setFld ⟨R.XQ_RST + 4 * (q / 32), q % 32, q % 32⟩ 1
  let s := s.raise Ev.XQ_RESET (q + n * 65536)
  if s.expert Blk.XQ then s.raise Ev.XQ_HELD q else s

/-- QUEUE_POINTER_MISMATCH (R349). -/
def execQueuePointerMismatch (q : Nat) (s : State) : Result :=
  whileOn s Blk.XQ fun s => if s.xqConnected q then s.xqReset q else s

/-- Items before and including the first end-of-packet mark, and those after it; none without a mark. -/
def splitPacket : List (Nat × Bool) → Option (Nat × List (Nat × Bool))
  | [] => none
  | (_, true) :: rest => some (1, rest)
  | (_, false) :: rest => (splitPacket rest).map fun (n, r) => (n + 1, r)

/-- QUEUE_DROP (R350): on the queue `XQ_Q_IDX` shows. -/
def execQueueDrop (s : State) : Result :=
  whileOn s Blk.XQ fun s =>
    let q := s.fld F.XQ_Q_IDX_QUEUE
    let x := s.xqueue q
    if !s.xqConnected q then s
    else if s.xqPacket q then
      match splitPacket x.items with
      | some (n, rest) => (s.setXq q { x with items := rest }).bumpB q F.XQ_Q_STAT_DROPS n
      | none => (s.setXq q { x with items := [], dropping := true }).bumpB q F.XQ_Q_STAT_DROPS x.items.length
    else (s.setXq q { x with items := [] }).bumpB q F.XQ_Q_STAT_DROPS x.items.length

/-- QUEUE_RESET (R352): at expert level only. -/
def execQueueReset (s : State) : Result :=
  whileOn s Blk.XQ fun s =>
    let q := s.fld F.XQ_Q_IDX_QUEUE
    if s.expert Blk.XQ && s.xqConnected q then s.xqReset q else s

/-- QUEUE_RESUME (R352): releases a held queue, at expert level only. -/
def execQueueResume (s : State) : Result :=
  whileOn s Blk.XQ fun s =>
    let q := s.fld F.XQ_Q_IDX_QUEUE
    if s.expert Blk.XQ then s.setXq q { s.xqueue q with held := false } else s

end Sys2Proof.Machine
end

