-- ==== Sys2Proof/Machine/Ethernet.lean ====
section
/-!
DEFINITION. The Ethernet ports and the packet engine (R344–R346, R357–R359). A frame is a byte string less its FCS; whether
its FCS is good is an operand.
-/

namespace Sys2Proof.Machine

/-! ## Frames -/

/-- The big-endian number of `n` bytes at `off` (Ethernet, IPv4 and UDP headers keep their standard's byte order, R6). -/
def beAt (bs : List Byte) (off n : Nat) : Nat := Bytes.toNat (Bytes.slice bs off n).reverse

/-- A port's MAC address: byte 0 of the option store's field is sent first (R6, R371). -/
def State.mac (s : State) (port : Nat) : List Byte :=
  Bytes.ofNat 4 (s.regB port R.ETH_MAC_LO).toNat ++ Bytes.ofNat 2 (s.fldB port F.ETH_MAC_HI_MAC_HI)

/-- Broadcast and the PTP multicast addresses (IEEE 1588-2019). PRESUMED (log 14). -/
def macBroadcast : List Byte := List.replicate 6 0xFF#8
def macPtp : List Byte := [0x01#8, 0x1B#8, 0x19#8, 0x00#8, 0x00#8, 0x00#8]
def macPtpPeer : List Byte := [0x01#8, 0x80#8, 0xC2#8, 0x00#8, 0x00#8, 0x0E#8]

/-- The destination, source and EtherType of a frame. -/
def frameDst (f : List Byte) : List Byte := f.take 6
def frameSrc (f : List Byte) : List Byte := Bytes.slice f 6 6
def frameType (f : List Byte) : Nat := beAt f 12 2

/-- An IPv4 frame, and its UDP destination port where it carries UDP. -/
def isIpv4 (f : List Byte) : Bool := frameType f == 0x0800
def udpPort (f : List Byte) : Option Nat := if isIpv4 f && Bytes.at' f 23 1 == 17 then some (beAt f 36 2) else none

/-- The one's complement sum over the 16-bit words of a header, folded. -/
def ipSum (bs : List Byte) : Nat :=
  let t := ((List.range ((bs.length + 1) / 2)).map fun i => beAt (bs ++ [0#8]) (2 * i) 2).sum
  let t := t % 65536 + t / 65536
  t % 65536 + t / 65536

/-- An IPv4 frame the engine drops: options, a fragment, or a bad header checksum (R345, step 4). -/
def ipv4Bad (f : List Byte) : Bool :=
  let h := Bytes.slice f 14 20
  Bytes.at' h 0 1 != 0x45 || beAt h 6 2 % 0x4000 != 0 || ipSum h != 0xFFFF

/-- A PTP message: EtherType 0x88F7, or UDP to port 319 or 320 (R345, step 2). Answers where its body begins. -/
def ptpBody (f : List Byte) : Option Nat :=
  if frameType f = 0x88F7 then some 14
  else match udpPort f with
    | some p => if p = 319 || p = 320 then some 42 else none
    | none => none

/-! ## Receiving (R345) -/

/-- Counter `n` of a port (R357). -/
def ethCnt (n : Nat) : Fld := F.ETH_CNT_COUNT.nth n

/-- Event 234, at most once per second. -/
def State.ethDrop (s : State) (port : Nat) : State :=
  let s := s.bumpB port (ethCnt 2)
  if dueSince s s.eth.lastDrop nsPerSec then
    ({ s with eth := { s.eth with lastDrop := some s.mono } }).raise Ev.ETH_RX_DROP 0
  else s

/-- Deliver a frame to a ring; a full ring drops and counts it. -/
def State.ethDeliver (s : State) (port ring : Nat) (payload : List Byte) (outOnly : Bool) : State :=
  let full := s.ringFull ring
  let s := (s.ringPut ring Blk.ETH payload outOnly).1
  if full then s.ethDrop port else s

/-- Receive rule `r` matches a frame on a port (R345, step 5; R357). -/
def State.ruleMatches (s : State) (r port : Nat) (f : List Byte) : Bool :=
  s.flagB r F.ETH_RULE_ACT_EN && bitOf (s.fldB r F.ETH_RULE_ACT_PORTS) port
    && (if s.flagB r F.ETH_RULE_ACT_UDP then
          udpPort f == some (s.fldB r F.ETH_RULE_MATCH_UDP_PORT) && beAt f 30 4 == s.fldB port F.ETH_IP_IPV4
        else frameType f == s.fldB r F.ETH_RULE_MATCH_ETYPE)

/-- What a rule delivers: the UDP payload with STRIP, otherwise the frame. -/
def State.rulePayload (s : State) (r : Nat) (f : List Byte) : List Byte :=
  if s.flagB r F.ETH_RULE_ACT_STRIP && (udpPort f).isSome then Bytes.slice f 42 (beAt f 38 2 - 8) else f

/-- The transmitter of a port sends (R344). -/
def State.ethCanSend (s : State) (port : Nat) : Bool :=
  s.flagB port F.ETH_PORT_CFG_TX_EN && s.flagB port F.ETH_PORT_STAT_LINK

/-- A frame leaves a port, padded to 60 bytes (R346). -/
def State.ethSend (s : State) (port : Nat) (f : List Byte) : State :=
  (s.bumpB port (ethCnt 1)).emit (.eth port (f ++ List.replicate (60 - f.length) 0#8))

/-- An ARP request for the port's address (R345, step 3). -/
def State.arpForUs (s : State) (port : Nat) (f : List Byte) : Bool :=
  frameType f == 0x0806 && beAt f 14 2 == 1 && beAt f 16 2 == 0x0800 && beAt f 20 2 == 1
    && s.fldB port F.ETH_IP_IPV4 != 0 && beAt f 38 4 == s.fldB port F.ETH_IP_IPV4

/-- The answer to an ARP request. -/
def State.arpReply (s : State) (port : Nat) (f : List Byte) : List Byte :=
  Bytes.slice f 22 6 ++ s.mac port ++ beBytes 2 0x0806 ++ beBytes 2 1 ++ beBytes 2 0x0800 ++ [6#8, 4#8] ++ beBytes 2 2
    ++ s.mac port ++ beBytes 4 (s.fldB port F.ETH_IP_IPV4) ++ Bytes.slice f 22 10

/-- The first rule, from rule `r` on, that matches. -/
def State.firstRule (s : State) (port : Nat) (f : List Byte) : Option Nat :=
  (List.range 32).find? fun r => s.ruleMatches r port f

/-- Steps 5 and 6 of R345. -/
def State.ethRules (s : State) (port : Nat) (f : List Byte) : State :=
  match s.firstRule port f with
  | some r => s.ethDeliver port (s.fldB r F.ETH_RULE_ACT_RING) (s.rulePayload r f) false
  | none =>
    if s.flagB port F.ETH_PORT_CFG_DEF_EN then s.ethDeliver port (s.fldB port F.ETH_PORT_CFG_DEF_RING) f true
    else s.ethDrop port

/-- The frame is a PTP message the PTP block takes (R345, step 2): PTP_MESSAGE_RX processes it. -/
def State.ptpTakes (s : State) (port : Nat) (f : List Byte) : Bool :=
  match ptpBody f with
  | some o => s.blkOn Blk.PTP && s.fldB port F.PTP_PORT_CFG_MODE != 0 && Bytes.at' f (o + 4) 1 == s.fld F.PTP_CLOCK_DOMAIN
  | none => false

/-- The packet engine on an accepted frame. -/
def State.ethEngine (s : State) (port : Nat) (f : List Byte) : State :=
  let d := frameDst f
  if d != s.mac port && d != macBroadcast && d != macPtp && d != macPtpPeer then s
  else if s.ptpTakes port f && !s.expert Blk.PTP then s
  else if s.ptpTakes port f then s.ethRules port f
  else if s.arpForUs port f then (if s.ethCanSend port then s.ethSend port (s.arpReply port f) else s)
  else if isIpv4 f && ipv4Bad f then s
  else s.ethRules port f

/-- ETH_FRAME_RX (R344, R345): a frame, less its FCS, reaches a port. -/
def execEthFrameRx (port : Nat) (frame : List Byte) (fcsOk : Bool) (s : State) : Result :=
  whileRunning s fun s =>
    if !s.flagB port F.ETH_PORT_STAT_LINK || decide (frame.length + 4 < 64) then s
    else if 9216 < frame.length + 4 then s.bumpB port (ethCnt 5)
    else if !fcsOk then s.bumpB port (ethCnt 3)
    else (s.bumpB port (ethCnt 0)).ethEngine port frame

/-! ## PTP stamps (R199, R200) -/

/-- Counter `n` of a PTP port (R204). -/
def ptpCnt (n : Nat) : Fld := F.PTP_CNT_COUNT.nth n

/-- The fast stamp of an event message: TX_NS after, or RX_NS before, it crosses the electrical interface. -/
def State.ptpFastStamp (s : State) (port : Nat) (sent : Bool) : Nat :=
  if sent then (s.tai + s.fldB port F.PTP_PORT_LAT_TX_NS) % 2 ^ 32
  else (s.tai + 2 ^ 32 - s.fldB port F.PTP_PORT_LAT_RX_NS) % 2 ^ 32

/-- At expert level every event message is stamped into a 16-byte record (R200); a record dropped at a full ring raises event 126. -/
def State.ptpStamp (s : State) (port : Nat) (sent : Bool) (msgType seq domain : Nat) : State :=
  if s.expert Blk.PTP && s.flag F.PTP_RING_EN then
    let b := Bytes.ofNat 1 (port % 2 + 2 * b2n sent) ++ Bytes.ofNat 1 msgType ++ Bytes.ofNat 2 seq
      ++ Bytes.ofNat 4 (s.ptpFastStamp port sent) ++ Bytes.ofNat 1 (s.fld F.TIM_STEP_COUNT) ++ Bytes.ofNat 1 domain ++ Bytes.ofNat 6 0
    let full := s.ringFull (s.fld F.PTP_RING_RING)
    let s := (s.ringPut (s.fld F.PTP_RING_RING) Blk.PTP b).1
    if full then s.raise Ev.PTP_STAMP_LOST 0 else s
  else s

/-- A frame host software sends at expert level is stamped where it is a PTP event message of a port that runs PTP. -/
def State.ptpSentFrame (s : State) (port : Nat) (f : List Byte) : State :=
  match ptpBody f with
  | some o =>
    if s.ptpTakes port f && decide (Bytes.at' f o 1 % 16 < 4) then
      (s.bumpB port (ptpCnt 0)).ptpStamp port true (Bytes.at' f o 1 % 16) (beAt f (o + 30) 2) (Bytes.at' f (o + 4) 1)
    else s
  | none => s

/-! ## Sending (R346) -/

/-- ETH_TX_RING_ENTRY (R346): the oldest entry of a port's TX ring is sent. Entries wait while the port cannot send. -/
def execEthTxRingEntry (port : Nat) (s : State) : Result :=
  whileRunning s fun s =>
    if !s.flagB port F.ETH_PORT_CFG_TXR_EN || !s.ethCanSend port then s
    else match s.ringTake (s.fldB port F.ETH_PORT_CFG_TX_RING) dirIn with
      | (s, some f) => if f.length ≤ 9212 then (s.ethSend port f).ptpSentFrame port f else s
      | (s, none) => s

/-- The datagram of a forward entry (R346): the template with IPv4 total length, identification `ident`, header checksum and
UDP length filled in, UDP checksum 0, and the payload. -/
def fwdDatagram (tpl : List Byte) (ident : Nat) (payload : List Byte) : List Byte :=
  let ip0 := Bytes.slice tpl 14 20
  let ip := ip0.take 2 ++ beBytes 2 (28 + payload.length) ++ beBytes 2 ident ++ Bytes.slice ip0 6 4 ++ [0#8, 0#8] ++ ip0.drop 12
  let sum := beBytes 2 (0xFFFF - ipSum ip)
  tpl.take 14 ++ ip.take 10 ++ sum ++ ip.drop 12 ++ Bytes.slice tpl 34 4 ++ beBytes 2 (8 + payload.length) ++ [0#8, 0#8]
    ++ payload

/-- FORWARD_ENTRY (R346, R351): the oldest entry of a forward entry's LOCAL ring is sent as a datagram. Entries wait while the
port cannot send. The identification is a free value. -/
def execForwardEntry (fwd : Nat) (s : State) : Result :=
  whileRunning s fun s =>
    let port := s.fldB fwd F.ETH_FWD_CFG_PORT
    if !s.flagB fwd F.ETH_FWD_CFG_EN || !s.ethCanSend port then s
    else match s.ringTake (s.fldB fwd F.ETH_FWD_CFG_RING) dirLocal with
      | (s, some payload) =>
        let tpl := s.bar2Read (s.fldB fwd F.ETH_FWD_TPL_OFFSET * 64) 42
        let (ident, s) := s.draw
        (s.ethSend port (fwdDatagram tpl (ident % 65536) payload)).bumpB port (ethCnt 4)
      | (s, none) => s

/-! ## Rules and forward entries (R357, R358) -/

/-- Why a receive rule is refused. -/
def State.ruleRefusal (s : State) (r : Nat) : Option Nat :=
  let ring := s.fldB r F.ETH_RULE_ACT_RING
  let ports := s.fldB r F.ETH_RULE_ACT_PORTS
  if !s.ringEn ring || s.ringDir ring == dirIn then some 0x20
  else if s.flagB r F.ETH_RULE_ACT_UDP && (List.range 2).any (fun p => bitOf ports p && s.fldB p F.ETH_IP_IPV4 == 0) then some 0x22
  else none

/-- A write to `ETH_RULE_ACT` of the rule `ETH_RULE_IDX` shows: its fields are RWL against the rule's own EN (R357). -/
def State.ruleActWrite (s : State) (value : Word) : State :=
  let r := s.fld F.ETH_RULE_IDX_RULE
  if s.flagB r F.ETH_RULE_ACT_EN then
    if F.ETH_RULE_ACT_EN.get value == 1 then s else s.setFldB r F.ETH_RULE_ACT_EN 0
  else
    let s := [F.ETH_RULE_ACT_PORTS, F.ETH_RULE_ACT_UDP, F.ETH_RULE_ACT_STRIP, F.ETH_RULE_ACT_RING].foldl
      (fun s f => s.setFldB r f (f.get value)) s
    if F.ETH_RULE_ACT_EN.get value == 0 then s
    else match s.ruleRefusal r with
      | some reason => s.ringRefuse Blk.ETH reason 0 (s.fldB r F.ETH_RULE_ACT_RING)
      | none => s.guardOutputs fun s => s.setFldB r F.ETH_RULE_ACT_EN 1

/-- RULE_ENABLE (R358): a write to `ETH_RULE_ACT` with EN = 1. -/
def execRuleEnable (value : Word) (s : State) : Result :=
  whileRunning s fun s => s.ruleActWrite (F.ETH_RULE_ACT_EN.put value 1)

/-- Why a forward entry is refused. -/
def State.fwdRefusal (s : State) (f : Nat) : Option Nat :=
  let ring := s.fldB f F.ETH_FWD_CFG_RING
  if !s.ringEn ring || s.ringDir ring != dirLocal then some 0x20
  else if bar2Size < s.fldB f F.ETH_FWD_TPL_OFFSET * 64 + 42 then some 0x21
  else none

/-- A write to `ETH_FWD_CFG` of the entry `ETH_FWD_IDX` shows: its fields are RWL against the entry's own EN (R357). -/
def State.fwdCfgWrite (s : State) (value : Word) : State :=
  let f := s.fld F.ETH_FWD_IDX_FWD
  if s.flagB f F.ETH_FWD_CFG_EN then
    if F.ETH_FWD_CFG_EN.get value == 1 then s else s.setFldB f F.ETH_FWD_CFG_EN 0
  else
    let s := [F.ETH_FWD_CFG_PORT, F.ETH_FWD_CFG_RING].foldl (fun s g => s.setFldB f g (g.get value)) s
    if F.ETH_FWD_CFG_EN.get value == 0 then s
    else match s.fwdRefusal f with
      | some reason => s.ringRefuse Blk.ETH reason 0 (s.fldB f F.ETH_FWD_CFG_RING)
      | none => s.setFldB f F.ETH_FWD_CFG_EN 1

/-- FORWARD_ENABLE (R358): a write to `ETH_FWD_CFG` with EN = 1. -/
def execForwardEnable (value : Word) (s : State) : Result :=
  whileRunning s fun s => s.fwdCfgWrite (F.ETH_FWD_CFG_EN.put value 1)

/-- ETH_LINK_CHANGE (R359): a port's link comes up or goes down. -/
def execEthLinkChange (port : Nat) (up : Bool) (s : State) : Result :=
  whileRunning s fun s =>
    if s.flagB port F.ETH_PORT_STAT_LINK == up then s
    else (s.setFldB port F.ETH_PORT_STAT_LINK (b2n up)).raise Ev.ETH_LINK port

/-- SFP_CHANGE (R359): a transceiver is fitted or removed, or reports a fault. -/
def execSfpChange (port : Nat) (present los txFault : Bool) (s : State) : Result :=
  whileRunning s fun s =>
    let changed := s.flagB port F.ETH_PORT_STAT_SFP_PRESENT != present || (txFault && !s.flagB port F.ETH_PORT_STAT_TX_FAULT)
    let s := s.setFldB port F.ETH_PORT_STAT_SFP_PRESENT (b2n present)
    let s := (s.setFldB port F.ETH_PORT_STAT_LOS (b2n los)).setFldB port F.ETH_PORT_STAT_TX_FAULT (b2n txFault)
    if changed then s.raise Ev.ETH_SFP_CHANGE 0 else s

end Sys2Proof.Machine
end

