-- ==== Sys2Proof/Machine/Loops.lean ====
section
/-!
DEFINITION. The Loop Engine (R287–R298): slot programs, the update of R289, the update queue, cascades and gap slots.
Machine/LoopRows.lean has the commands that also act on the slots' owners.
-/

namespace Sys2Proof.Machine

/-! ## Slot programs (R288) -/

/-- The 48 bytes of slot `n` in a LOOPS section. -/
def loopRow (loops : List Byte) (n : Nat) : List Byte := Bytes.slice loops (48 * n) 48

/-- The LOOPS section in force. -/
def State.loops (s : State) : List Byte :=
  match s.sim.applied with
  | some img => imgSec img Sec.LOOPS Blk.LPE
  | none => []

/-- The program of slot `n`. -/
def State.loop (s : State) (n : Nat) : List Byte := loopRow s.loops n

/-- Fields of a slot program. -/
def Loop.kind (p : List Byte) : Nat := Bytes.at' p 0 1
def Loop.classF (p : List Byte) : Bool := bitOf (Bytes.at' p 1 1) 0
def Loop.order (p : List Byte) : Nat := bitsOf (Bytes.at' p 1 1) 2 1
def Loop.aid (p : List Byte) : Bool := bitOf (Bytes.at' p 1 1) 3
def Loop.trig (p : List Byte) : Nat := Bytes.at' p 2 1
def Loop.shift (p : List Byte) (i : Nat) : Nat := Bytes.at' p (4 + i) 1
def Loop.arg (p : List Byte) : Nat := Bytes.at' p 8 2
def Loop.cascadeK (p : List Byte) : Nat := Bytes.at' p 10 2 + 1
def Loop.rate (p : List Byte) : Nat := Bytes.at' p 12 4
def Loop.coef (p : List Byte) (i : Nat) : Int := signedOf 32 (Bytes.at' p (16 + 4 * i) 4)
def Loop.outMin (p : List Byte) : Int := signedOf 32 (Bytes.at' p 32 4)
def Loop.outMax (p : List Byte) : Int := signedOf 32 (Bytes.at' p 36 4)
def Loop.limA (p : List Byte) : Int := signedOf 32 (Bytes.at' p 40 4)
def Loop.limB (p : List Byte) : Int := signedOf 32 (Bytes.at' p 44 4)

/-- The triggers and the kinds a rule names. -/
abbrev Trig.OWNER : Nat := 0
abbrev Trig.CASCADE : Nat := 1
abbrev Trig.PERIODIC : Nat := 2
abbrev Trig.HOST : Nat := 3
abbrev Kind.FREQ : Nat := 3
abbrev Kind.PHASE : Nat := 4
abbrev Kind.GAP : Nat := 5
abbrev Kind.GENERAL : Nat := 6

/-! ## Arithmetic (R287, R289) -/

/-- Saturation to 32 bits. -/
def sat32 (x : Int) : Int := max (-2147483648) (min x 2147483647)

/-- A term: the exact product shifted right with rounding to nearest, ties towards +infinity, then saturated. -/
def loopTerm (c : Int) (sh : Nat) (x : Int) : Int :=
  sat32 (if sh = 0 then c * x else (c * x + 2 ^ (sh - 1)) / 2 ^ sh)

/-- Whether that term saturates. -/
def loopTermSat (c : Int) (sh : Nat) (x : Int) : Bool :=
  loopTerm c sh x != (if sh = 0 then c * x else (c * x + 2 ^ (sh - 1)) / 2 ^ sh)

/-- Clamp to a range. -/
def clampInt (lo hi x : Int) : Int := min (max x lo) hi

/-- The outcome of an update: output, accumulators, whether a saturation or a clamp of the output occurred, whether a
clamp of accumulator 1 did. -/
structure LoopOut where
  out : Int
  acc1 : Int
  acc2 : Int
  sat : Bool
  outClamp : Bool
  accClamp : Bool
  deriving DecidableEq, Repr

/-- One update (R289) of program `p`. -/
def loopUpdate (p : List Byte) (x sp aid acc1 acc2 : Int) : LoopOut :=
  let e := sat32 (x - sp)
  let t0 := loopTerm (Loop.coef p 0) (Loop.shift p 0) e
  let t1 := loopTerm (Loop.coef p 1) (Loop.shift p 1) e
  let t2 := loopTerm (Loop.coef p 2) (Loop.shift p 2) e
  let t3 := if Loop.aid p then loopTerm (Loop.coef p 3) (Loop.shift p 3) aid else 0
  let raw := t0 + acc1 + t3
  let out := clampInt (Loop.outMin p) (Loop.outMax p) (sat32 raw)
  let raw1 := acc1 + t1 + acc2
  let acc1' := if 2 ≤ Loop.order p then sat32 raw1 else acc1
  let raw2 := acc2 + t2
  let acc2' := if Loop.order p = 3 then sat32 raw2 else acc2
  let acc1'' := if Loop.classF p then clampInt (Loop.limA p) (Loop.limB p) acc1' else acc1'
  let sat := e != x - sp || loopTermSat (Loop.coef p 0) (Loop.shift p 0) e
    || (Loop.aid p && loopTermSat (Loop.coef p 3) (Loop.shift p 3) aid) || sat32 raw != raw
    || (decide (2 ≤ Loop.order p) && (loopTermSat (Loop.coef p 1) (Loop.shift p 1) e || sat32 raw1 != raw1))
    || (Loop.order p == 3 && (loopTermSat (Loop.coef p 2) (Loop.shift p 2) e || sat32 raw2 != raw2))
  ⟨out, acc1'', acc2', sat, out != sat32 raw, acc1'' != acc1'⟩

/-! ## Slot state -/

/-- A slot's engine state, and setting it. -/
def State.slot (s : State) (n : Nat) : LpeSlot := s.lpe.slots.get LpeSlot.idle n
def State.setSlot (s : State) (n : Nat) (v : LpeSlot) : State :=
  { s with lpe := { s.lpe with slots := s.lpe.slots.set LpeSlot.idle n v } }

/-- A signed 32-bit register of slot `n`, and setting it. -/
def State.slotReg (s : State) (n a : Nat) : Int := signedOf 32 (s.regB n a).toNat
def State.setSlotReg (s : State) (n a : Nat) (v : Int) : State := s.setRegB n a (BitVec.ofNat 32 (encodeSigned 32 v))

/-- The mirror message of a GAP slot (R309, 0x0D). -/
def State.gapMirror (s : State) (n : Nat) : State :=
  s.mirror n (.gap n (s.slot n).pair (s.slotReg n R.LPE_SLOT_ACC) (s.slotReg n R.LPE_SLOT_OUT))

/-- The sticky flag of a slot is set, with event 184 (R290). Answers whether it was clear before. -/
def State.slotSat (s : State) (n : Nat) : State :=
  if s.flagB n F.LPE_SLOT_STAT_SAT then s else (s.setFldB n F.LPE_SLOT_STAT_SAT 1).raise Ev.LPE_SLOT_SAT n

/-- An update fires (R293): it is queued, or dropped at a full queue. -/
def State.lpeFire (s : State) (u : LpeUpd) : State :=
  if s.lpe.queue.length < 4096 then { s with lpe := { s.lpe with queue := s.lpe.queue ++ [u] } }
  else
    let s := s.bump (F.LPE_CNT_COUNT.nth 0)
    let s := if dueSince s s.lpe.lastDrop nsPerSec then
      ({ s with lpe := { s.lpe with lastDrop := some s.mono } }).raise Ev.LPE_UPDATE_DROPPED 0 else s
    if Loop.classF (s.loop u.slot) then s else s.slotSat u.slot

/-- The program an update of slot `n` runs: TIM's phase loop has the time constant TAU_S while TIM disciplines it (R183, R201; how the image's
coefficients follow it is not stated). -/
def State.loopNow (s : State) (n : Nat) : List Byte :=
  let p := s.loop n
  if Loop.kind p = Kind.PHASE ∧ !s.flag F.TIM_CTRL_LEVEL then
    p.take 16 ++ (List.range 4).flatMap (fun i => Bytes.ofNat 4 (encodeSigned 32 (Config.phaseCoef (s.fld F.TIM_DISC_TAU_S) i (Loop.coef p i)))) ++ p.drop 32
  else p

/-- Apply one update to slot `n` with input `x` and aid `aid` (R289–R291). -/
def State.slotUpdate (s : State) (n : Nat) (x aid : Int) : State :=
  let p := s.loopNow n
  let v := s.slot n
  let r := loopUpdate p x (s.slotReg n R.LPE_SLOT_SP) aid (s.slotReg n R.LPE_SLOT_ACC) v.acc2
  let s := (s.setSlotReg n R.LPE_SLOT_OUT r.out).setSlotReg n R.LPE_SLOT_ACC r.acc1
  let s := s.setSlot n { v with acc2 := r.acc2 }
  let s := s.setFldB n F.LPE_SLOT_STAT_COUNT ((s.fldB n F.LPE_SLOT_STAT_COUNT + 1) % 2 ^ 28)
  let s := { s with lpe := { s.lpe with updates := s.lpe.updates + 1 } }
  if Loop.classF p then
    let clamp := r.outClamp || r.accClamp
    let s := s.setFldB n F.LPE_SLOT_STAT_CLAMP (b2n clamp)
    if clamp then s.bump (F.LPE_CNT_COUNT.nth 2) else s
  else if r.sat || r.outClamp then s.slotSat n else s

/-- A slot is restarted (R297): accumulators, output and SAT are cleared together; an owner's restart at expert level leaves SAT
(R298). -/
def State.slotRestart (s : State) (n : Nat) : State :=
  let s := (s.setSlotReg n R.LPE_SLOT_ACC 0).setSlotReg n R.LPE_SLOT_OUT 0
  let s := s.setSlot n { s.slot n with acc2 := 0 }
  if s.flag F.LPE_CTRL_LEVEL then s else s.setFldB n F.LPE_SLOT_STAT_SAT 0

/-- The outer slot of inner slot `n`, if the image programs one (R294). -/
def State.outerOf (s : State) (n : Nat) : Option Nat :=
  (List.range 2048).find? fun o =>
    Loop.kind (s.loop o) != 0 && Loop.trig (s.loop o) == Trig.CASCADE && Loop.arg (s.loop o) == n

/-- An outer slot's output, limited to the inner slot's SPLIM (R294, step 3), and by TIM to ±10 ns/s for its frequency loop (R183; its unit is
1 ns/s, log 80). -/
def splimited (inner : List Byte) (out : Int) : Int :=
  let out := if Loop.kind inner = Kind.FREQ then clampInt (-10) 10 out else out
  if Loop.classF inner || Loop.limA inner = 0 then out else clampInt (-(Loop.limA inner)) (Loop.limA inner) out

/-- An update and the cascade it completes, at most four slots deep (R294). -/
def State.cascade : (fuel : Nat) → State → (n : Nat) → (x aid : Int) → State
  | 0, s, n, x, aid => s.slotUpdate n x aid
  | fuel + 1, s, n, x, aid =>
    let s := s.slotUpdate n x aid
    match s.outerOf n with
    | none => s
    | some o =>
      let k := (s.slot n).k + 1
      if k < Loop.cascadeK (s.loop o) then s.setSlot n { s.slot n with k := k }
      else
        let s := s.setSlot n { s.slot n with k := 0 }
        let s := State.cascade fuel s o (s.slotReg o R.LPE_SLOT_IN) (s.slotReg o R.LPE_SLOT_AID)
        s.setSlotReg n R.LPE_SLOT_SP (splimited (s.loop n) (s.slotReg o R.LPE_SLOT_OUT))

/-- The slots from `n` outwards whose SAT flag an update of `n` may set. -/
def State.cascadeChain (s : State) : (fuel : Nat) → (n : Nat) → List Nat
  | 0, n => [n]
  | fuel + 1, n => n :: (match s.outerOf n with
    | none => []
    | some o => s.cascadeChain fuel o)

/-! ## Gap slots (R295–R298) -/

/-- The GAP slots of the image. -/
def State.gapSlots (s : State) : List Nat := (List.range 2048).filter fun n => Loop.kind (s.loop n) == Kind.GAP

/-- The slot that serves a follow-table entry. -/
def State.gapSlotOf (s : State) (entry : Nat) : Option Nat :=
  s.gapSlots.find? fun n => s.flagB n F.LPE_SLOT_STAT_ASSIGNED && (s.slot n).pair == some entry

/-- The lowest free GAP slot. -/
def State.gapFreeSlot (s : State) : Option Nat := s.gapSlots.find? fun n => !s.flagB n F.LPE_SLOT_STAT_ASSIGNED

/-- The machines of a follow-table entry: leader, follower. -/
def State.followMis (s : State) (entry : Nat) : Nat × Nat :=
  match s.cls.follow.get none entry with
  | none => (0, 0)
  | some f => ((s.cls.clauses.get Clause.free (f.leader % 2 ^ 18)).mi, (s.cls.clauses.get Clause.free (f.follower % 2 ^ 18)).mi)

/-- Slot `n` is assigned to a follow-table entry (R295): accumulator and output 0, no solution yet. -/
def State.gapBind (s : State) (n entry : Nat) : State :=
  let mis := s.followMis entry
  let s := (s.setSlotReg n R.LPE_SLOT_ACC 0).setSlotReg n R.LPE_SLOT_OUT 0
  let s := s.setSlot n { LpeSlot.idle with pair := some entry }
  let s := (s.setFldB n F.LPE_SLOT_STAT_ASSIGNED 1).setFldB n F.LPE_SLOT_STAT_FORCED 1
  let s := s.setSlotReg n R.LPE_SLOT_SP ((s.cls.follow.get none entry).map (fun f => (f.sepMm : Int)) |>.getD 0)
  let s := (s.setFldB n F.LPE_SLOT_PAIR_LEADER mis.1).setFldB n F.LPE_SLOT_PAIR_FOLLOWER mis.2
  let s := { s with lpe := { s.lpe with leadSol := s.lpe.leadSol.set none n none, follSol := s.lpe.follSol.set none n none } }
  (s.gapMirror n).raise Ev.LPE_GAP_ASSIGNED (n + entry * 65536)

/-- Slot `n` is freed (R295, R298). -/
def State.gapUnbind (s : State) (n : Nat) : State :=
  let entry := (s.slot n).pair.getD 0
  let s := (s.setSlotReg n R.LPE_SLOT_ACC 0).setSlotReg n R.LPE_SLOT_OUT 0
  let s := s.setSlot n LpeSlot.idle
  let s := (s.setFldB n F.LPE_SLOT_STAT_ASSIGNED 0).setFldB n F.LPE_SLOT_STAT_FORCED 0
  let s := (s.setFldB n F.LPE_SLOT_PAIR_LEADER 0).setFldB n F.LPE_SLOT_PAIR_FOLLOWER 0
  (s.gapMirror n).raise Ev.LPE_GAP_RELEASED (n + entry * 65536)

/-- The engine assigns and frees GAP slots by itself: LPE is enabled, at basic level (R298), on an active module. -/
def State.gapAuto (s : State) : Bool := s.blkOn Blk.LPE && !s.expert Blk.LPE

/-- CLS enters a pair (R295): it takes the lowest free slot, or waits with event 187. -/
def State.gapEnter (s : State) (entry : Nat) : State :=
  let s := { s with lpe := { s.lpe with pairs := s.lpe.pairs ++ [entry] } }
  if !s.gapAuto then s
  else match s.gapFreeSlot with
    | some n => s.gapBind n entry
    | none => (s.bump (F.LPE_CNT_COUNT.nth 1)).raise Ev.LPE_GAP_NONE 0

/-- The pair that has waited longest takes a slot that became free. -/
def State.gapServe (s : State) : State :=
  match s.lpe.pairs.find? (fun e => (s.gapSlotOf e).isNone), s.gapFreeSlot with
  | some e, some n => s.gapBind n e
  | _, _ => s

/-- A follow entry ends (R295, R298): at basic level its slot is freed and serves the next waiting pair; at expert level it
stays assigned with output 0 and FORCED. -/
def State.gapLeave (s : State) (entry : Nat) : State :=
  let slot := s.gapSlotOf entry
  let s := { s with lpe := { s.lpe with pairs := s.lpe.pairs.erase entry } }
  match slot with
  | none => s
  | some n =>
    if s.expert Blk.LPE then
      let s := (s.setSlotReg n R.LPE_SLOT_OUT 0).setFldB n F.LPE_SLOT_STAT_FORCED 1
      (s.setSlot n { s.slot n with pair := none }).gapMirror n
    else
      let s := s.gapUnbind n
      if s.gapAuto then s.gapServe else s

/-- LPE is enabled at basic level: free slots go to the pairs of the follow table in order, with event 187 for each pair left
without one (R295). -/
def State.gapEnable (s : State) : State :=
  (s.lpe.pairs.filter fun e => (s.gapSlotOf e).isNone).foldl (fun s e =>
    match s.gapFreeSlot with
    | some n => s.gapBind n e
    | none => (s.bump (F.LPE_CNT_COUNT.nth 1)).raise Ev.LPE_GAP_NONE 0) s

/-- The output of a GAP slot is forced to 0 without an update (R296), with event 190 once until the next normal update. -/
def State.gapForce (s : State) (n entry : Nat) : State :=
  let s := (s.setSlotReg n R.LPE_SLOT_OUT 0).setFldB n F.LPE_SLOT_STAT_FORCED 1
  if (s.slot n).forcedSeen then s.gapMirror n
  else
    let s := s.setSlot n { s.slot n with forcedSeen := true }
    (s.gapMirror n).raise Ev.LPE_GAP_FORCED (n + entry * 65536)

end Sys2Proof.Machine
end

