-- ==== Sys2Proof/Machine/Clauses.lean ====
section
/-!
DEFINITION. The Clause Table (R43–R63, R71–R73): what a primitive does to the table, as functions of the table and of what
the module shows CLS (map, policy, limits, clause time). Machine/ClauseRows.lean has the commands.
-/

namespace Sys2Proof.Machine

/-! ## Constants -/

/-- The Clause Table, the index and the follow table have these sizes (R51, R54, R62). -/
abbrev clsSize : Nat := 262144
abbrev clsPerSpace : Nat := 4096
abbrev followSize : Nat := 4096

/-- The statuses of R51. -/
abbrev Cs.OK : Nat := 0
abbrev Cs.FULL : Nat := 1
abbrev Cs.CONFLICT : Nat := 2
abbrev Cs.STALE : Nat := 3
abbrev Cs.INVALID : Nat := 4
abbrev Cs.IN_USE : Nat := 5
abbrev Cs.LIMIT : Nat := 6
abbrev Cs.SPACE_FULL : Nat := 7
abbrev Cs.NO_TIME : Nat := 8
abbrev Cs.NOT_OWNER : Nat := 9
abbrev Cs.FAULT : Nat := 10

/-! ## Records -/

/-- Whether the record is in use. -/
def ClsSt.clause (t : ClsSt) (i : Nat) : Clause := t.clauses.get Clause.free i

/-- Set a record. -/
def ClsSt.setClause (t : ClsSt) (i : Nat) (c : Clause) : ClsSt := { t with clauses := t.clauses.set Clause.free i c }

/-- The handle of index `i` (R8). -/
def ClsSt.handle (t : ClsSt) (i : Nat) : Nat := i + 2 ^ 18 * (t.clause i).gen

/-- The index a handle names, when its record is held and of that generation (R49). -/
def ClsSt.ref (t : ClsSt) (h : Nat) : Option Nat :=
  let i := h % 2 ^ 18
  if (t.clause i).held ∧ (t.clause i).gen = h / 2 ^ 18 then some i else none

/-- The held indices, ascending. -/
def ClsSt.held (t : ClsSt) : List Nat := (t.clauses.filter fun e => e.2.held).map Prod.fst

/-- A machine's chain: its clauses in order. -/
def ClsSt.chain (t : ClsSt) (mi : Nat) : List Nat := t.chains.get [] mi

/-- Set a machine's chain. -/
def ClsSt.setChain (t : ClsSt) (mi : Nat) (l : List Nat) : ClsSt := { t with chains := t.chains.set [] mi l }

/-- The index the free list gives next (R49): indices in ascending order first, then freed ones in the order freed. -/
def ClsSt.nextFree (t : ClsSt) : Option Nat := if t.freeNext < clsSize then some t.freeNext else t.freeTail.head?

/-- That index leaves the free list. -/
def ClsSt.takeFree (t : ClsSt) : ClsSt :=
  if t.freeNext < clsSize then { t with freeNext := t.freeNext + 1 } else { t with freeTail := t.freeTail.drop 1 }

/-- The successor and the predecessor of an index on a chain. -/
def chainNext : List Nat → Nat → Option Nat
  | a :: b :: rest, i => if a = i then some b else chainNext (b :: rest) i
  | _, _ => none
def chainPrev : List Nat → Nat → Option Nat
  | a :: b :: rest, i => if b = i then some a else chainPrev (b :: rest) i
  | _, _ => none

/-- An index placed after another on a chain, or at its end. -/
def chainInsert (l : List Nat) (after : Option Nat) (i : Nat) : List Nat :=
  match after with
  | none => l ++ [i]
  | some a => l.flatMap fun x => if x = a then [x, i] else [x]

/-! ## Spaces -/

/-- The KIND bit and the low bits of a SPACE word (R48). -/
def spaceIsCell (w : Nat) : Bool := bitOf w 31
def spaceLow (w : Nat) : Nat := if spaceIsCell w then w % 2 ^ 24 else w % 2 ^ 17

/-- The cell IDs of the block of `lo` at the south-west cell `sw` (R45, R48). -/
def blockCells (m : List Byte) (sw lo : Nat) : List Nat :=
  match mapZone m (sw / 65536) with
  | none => []
  | some z =>
    (List.range (lo / 256 % 256 + 1)).flatMap fun j =>
      (List.range (lo % 256 + 1)).map fun i => sw + j * z.cols + i

/-- A block lies inside its zone. -/
def blockInZone (m : List Byte) (sw lo : Nat) : Bool :=
  match mapZone m (sw / 65536) with
  | none => false
  | some z =>
    let w := sw % 65536
    decide (w < z.cols * z.rows) && decide (w % z.cols + lo % 256 + 1 ≤ z.cols) && decide (w / z.cols + lo / 256 % 256 + 1 ≤ z.rows)

/-- A SPACE word, LO and HI obey the span and block rules of R48 and lie in the map. -/
def spaceOk (m : List Byte) (w lo hi : Nat) : Bool :=
  if spaceIsCell w then w / 2 ^ 24 == 0x80 && blockInZone m (spaceLow w) lo && lo / 65536 == 0 && hi == 0
  else match mapSeg m (spaceLow w) with
    | none => false
    | some g => w / 2 ^ 17 == 0 && decide (lo < hi) && decide (hi ≤ g.length)

/-- A QUERY_SPACE space is in the map (R54); its LO and HI are a range, not a clause's span. -/
def spaceInMap (m : List Byte) (w lo : Nat) : Bool :=
  if spaceIsCell w then w / 2 ^ 24 == 0x80 && blockInZone m (spaceLow w) lo
  else w / 2 ^ 17 == 0 && (mapSeg m (spaceLow w)).isSome

/-- The space may be reserved in direction `dir`: not CLOSED, and not against ONEWAY (R44, R51). -/
def spaceReservable (m : List Byte) (w lo hi : Nat) (dir : Bool) : Bool :=
  spaceOk m w lo hi && (spaceIsCell w || (match mapSeg m (spaceLow w) with
    | none => false
    | some g => !g.closed && !(g.oneway && dir)))

/-- A part of space and time: a span of a segment, or cells, over [t0, t1). -/
structure Piece where
  seg : Option Nat
  lo : Nat
  hi : Nat
  cells : List Nat
  t0 : Nat
  t1 : Nat
  deriving DecidableEq, Repr

/-- The piece a space and interval make. -/
def pieceOf (m : List Byte) (isCell : Bool) (space lo hi t0 t1 : Nat) : Piece :=
  if isCell then ⟨none, 0, 0, blockCells m space lo, t0, t1⟩ else ⟨some space, lo, hi, [], t0, t1⟩

/-- The piece of a clause. -/
def Clause.piece (m : List Byte) (c : Clause) : Piece := pieceOf m c.isCell c.space c.lo c.hi c.t0 c.t1

/-- A piece shares a place with one end of an overlap entry (R46). -/
def Piece.meets (p : Piece) (e : OvlEnd) : Bool :=
  if spaceIsCell e.spaceWord then p.cells.contains (spaceLow e.spaceWord)
  else p.seg == some (spaceLow e.spaceWord) && decide (p.lo ≤ e.hi) && decide (e.lo ≤ p.hi)

/-- Condition 1 of R59: the requested piece, widened by `sepMm` along a segment, and the held one share space. -/
def spaceConflict (m : List Byte) (p h : Piece) (sepMm : Nat) : Bool :=
  (p.seg.isSome && p.seg == h.seg && decide (p.lo ≤ h.hi + sepMm) && decide (h.lo ≤ p.hi + sepMm))
    || p.cells.any (fun c => h.cells.contains c)
    || (List.range (mapOvls m)).any fun i =>
        let e := mapOvl m i
        (p.meets e.1 && h.meets e.2) || (p.meets e.2 && h.meets e.1)

/-- Condition 2 of R59: the requested interval, widened by `sepMs`, overlaps the held one. -/
def timeConflict (p h : Piece) (sepMs : Nat) : Bool := decide (p.t0 < h.t1 + sepMs) && decide (h.t0 < p.t1 + sepMs)

/-- The clauses that touch a segment, or a cell. -/
def ClsSt.onSeg (t : ClsSt) (g : Nat) : Nat := (t.clauses.filter fun e => e.2.held && !e.2.isCell && e.2.space == g).length
def ClsSt.onCell (t : ClsSt) (m : List Byte) (c : Nat) : Nat :=
  (t.clauses.filter fun e => e.2.held && e.2.isCell && (blockCells m e.2.space e.2.lo).contains c).length

/-- Each index a piece touches has room for one more clause (R54). -/
def ClsSt.roomFor (t : ClsSt) (m : List Byte) (p : Piece) : Bool :=
  (match p.seg with
   | some g => decide (t.onSeg g < clsPerSpace)
   | none => true) && p.cells.all (fun c => decide (t.onCell m c < clsPerSpace))

/-! ## Joining (R56) -/

/-- The point at offset `x` of a segment, times its LENGTH. The fraction of the way to B is x over LENGTH (log 30). -/
def segPoint (g : Segment) (x : Nat) : Int × Int := (g.ae * g.length + (g.be - g.ae) * x, g.an * g.length + (g.bn - g.an) * x)

/-- Two points, given times the lengths `la` and `lb`, lie within 10 mm of each other. -/
def within10mm (p : Int × Int) (la : Nat) (q : Int × Int) (lb : Nat) : Bool :=
  let de := p.1 * lb - q.1 * la
  let dn := p.2 * lb - q.2 * la
  decide (de * de + dn * dn ≤ 100 * ((la * lb : Nat) : Int) * ((la * lb : Nat) : Int))

/-- Clause `b` continues clause `a` (R56). -/
def joinable (m : List Byte) (a b : Clause) : Bool :=
  match mapSeg m a.space, mapSeg m b.space with
  | some ga, some gb =>
    !a.isCell && !b.isCell && decide (b.t0 ≤ a.t1)
      && within10mm (segPoint ga (if a.dir then a.lo else a.hi)) ga.length (segPoint gb (if b.dir then b.hi else b.lo)) gb.length
  | _, _ => false

/-- JOIN_NEXT of an index set from its successor on the chain. -/
def ClsSt.rejoin (t : ClsSt) (m : List Byte) (i : Nat) : ClsSt :=
  let c := t.clause i
  t.setClause i { c with joinNext := match chainNext (t.chain c.mi) i with
    | none => false
    | some j => joinable m c (t.clause j) }

/-! ## The footprint tests (R64, R65, R66) -/

/-- `x ≤ a·√d`. -/
def leRoot (x a : Int) (d : Int) : Bool :=
  if 0 ≤ a then decide (x ≤ 0) || decide (x * x ≤ a * a * d) else decide (x < 0) && decide (a * a * d ≤ x * x)

/-- The disc lies inside a segment clause (R65); `startJoined` and `endJoined` waive the margin at that end. -/
def discInSpan (g : Segment) (c : Clause) (f : Footprint) (startJoined endJoined : Bool) : Bool :=
  let dx := g.be - g.ae
  let dy := g.bn - g.an
  let l2 := dx * dx + dy * dy
  let px := f.e - g.ae
  let py := f.n - g.an
  let dot := px * dx + py * dy
  let cross := px * dy - py * dx
  let loJoined := if c.dir then endJoined else startJoined
  let hiJoined := if c.dir then startJoined else endJoined
  let lo : Int := c.lo + if loJoined then 0 else (f.r : Int)
  let hi : Int := c.hi - if hiJoined then 0 else (f.r : Int)
  let lat : Int := (g.halfW : Int) - f.r
  leRoot cross lat l2 && leRoot (-cross) lat l2 && leRoot (-dot) (-lo) l2 && leRoot dot hi l2

/-- Index `i` follows a joined predecessor. -/
def ClsSt.startJoined (t : ClsSt) (i : Nat) : Bool :=
  match chainPrev (t.chain (t.clause i).mi) i with
  | none => false
  | some p => (t.clause p).joinNext

/-- The disc lies inside segment clause `c`, held at index `i` (R65). -/
def ClsSt.inSegment (t : ClsSt) (m : List Byte) (i : Nat) (c : Clause) (f : Footprint) : Bool :=
  match mapSeg m c.space with
  | none => false
  | some g => !c.isCell && discInSpan g c f (t.startJoined i) c.joinNext

/-- The columns, or rows, of a zone's grid that an interval of length meets: first and count. An edge on a grid line does not touch the
cell beyond: DESIGN CHOICE (log 75). -/
def gridRange (origin : Int) (cell count : Nat) (a b : Int) : Nat × Nat :=
  let first := max ((a - origin) / cell) 0
  let last := min (-((origin - b) / cell) - 1) ((count : Int) - 1)
  (first.toNat, (last - first + 1).toNat)

/-- The cells of every zone the disc's bounding square meets (R66). -/
def squareCells (m : List Byte) (f : Footprint) : List Nat :=
  (List.range (mapZones m)).flatMap fun zi =>
    match mapZone m zi with
    | none => []
    | some z =>
      let cs := gridRange z.oe z.cellMm z.cols (f.e - f.r) (f.e + f.r)
      let rs := gridRange z.on z.cellMm z.rows (f.n - f.r) (f.n + f.r)
      (List.range rs.2).flatMap fun j => (List.range cs.2).map fun i => cellId zi z.cols (rs.1 + j) (cs.1 + i)

/-- The ground of a cell: west, south, east, north. -/
def cellGround (m : List Byte) (c : Nat) : Int × Int × Int × Int :=
  match mapZone m (c / 65536) with
  | none => (0, 0, 0, 0)
  | some z =>
    let w : Int := z.oe + ((c % 65536 % z.cols * z.cellMm : Nat) : Int)
    let s : Int := z.on + ((c % 65536 / z.cols * z.cellMm : Nat) : Int)
    (w, s, w + z.cellMm, s + z.cellMm)

/-- Consecutive pairs of a list. -/
def pairsOf (l : List Int) : List (Int × Int) := l.zip (l.drop 1)

/-- Every point of the square lies on the ground of one of `own`: each rectangle between the grid lines does. -/
def squareCovered (m : List Byte) (f : Footprint) (own : List Nat) : Bool :=
  let g := own.map (cellGround m)
  let le : Int → Int → Bool := fun a b => decide (a ≤ b)
  let xs := sortBy le ([f.e - f.r, f.e + f.r] ++ g.flatMap fun q => [clampInt (f.e - f.r) (f.e + f.r) q.1, clampInt (f.e - f.r) (f.e + f.r) q.2.2.1])
  let ys := sortBy le ([f.n - f.r, f.n + f.r] ++ g.flatMap fun q => [clampInt (f.n - f.r) (f.n + f.r) q.2.1, clampInt (f.n - f.r) (f.n + f.r) q.2.2.2])
  (pairsOf xs).all fun x => (pairsOf ys).all fun y =>
    x.1 == x.2 || y.1 == y.2
      || g.any (fun q => decide (q.1 ≤ x.1) && decide (x.2 ≤ q.2.2.1) && decide (q.2.1 ≤ y.1) && decide (y.2 ≤ q.2.2.2))

/-- The cell test of R66 on candidate clauses: inside or not; none when the square touches more than 256 cells. -/
def cellTest (m : List Byte) (f : Footprint) (cands : List Clause) : Option Bool :=
  let touched := squareCells m f
  if 256 < touched.length then none
  else
    let held := (cands.filter Clause.isCell).flatMap fun c => blockCells m c.space c.lo
    some (squareCovered m f (touched.filter fun c => held.contains c))

/-- A clause at index `i` contains a footprint (R54, R65, R66). -/
def ClsSt.contains (t : ClsSt) (m : List Byte) (i : Nat) (c : Clause) (f : Footprint) : Bool :=
  if c.isCell then cellTest m f [c] == some true else t.inSegment m i c f

/-! ## Follow entries (R62) -/

/-- The entries that name index `i`. -/
def ClsSt.entriesOf (t : ClsSt) (i : Nat) : List Nat :=
  (t.follow.filter fun e => match e.2 with
    | some f => f.leader % 2 ^ 18 == i || f.follower % 2 ^ 18 == i
    | none => false).map Prod.fst

/-- FOLLOW of a clause cleared when no entry names it any more. -/
def ClsSt.fixFollow (t : ClsSt) (i : Nat) : ClsSt :=
  if (t.entriesOf i).isEmpty && (t.clause i).follow then t.setClause i { t.clause i with follow := false } else t

/-- A follow entry ends. -/
def ClsSt.endEntry (t : ClsSt) (k : Nat) : ClsSt :=
  match t.follow.get none k with
  | none => t
  | some f => (({ t with follow := t.follow.set none k none }).fixFollow (f.leader % 2 ^ 18)).fixFollow (f.follower % 2 ^ 18)

/-- The other clause of an entry. -/
def FollowPair.other (f : FollowPair) (i : Nat) : Nat := if f.leader % 2 ^ 18 = i then f.follower % 2 ^ 18 else f.leader % 2 ^ 18

/-- The lowest free entry. -/
def ClsSt.freeEntry (t : ClsSt) : Option Nat := (List.range followSize).find? fun k => (t.follow.get none k).isNone

/-- A FOLLOW arrangement is entered: both records, and the pair in the lowest free entry. -/
def ClsSt.addFollow (t : ClsSt) (leader follower sepMm : Nat) : ClsSt :=
  match t.freeEntry with
  | none => t
  | some k =>
    let t := { t with follow := t.follow.set none k (some ⟨t.handle leader, t.handle follower, sepMm⟩) }
    let t := t.setClause leader { t.clause leader with follow := true }
    t.setClause follower { t.clause follower with follow := true }

/-! ## Freeing (R49, R54, R56, R62) -/

/-- Index `i` is freed: it leaves chain and index, its follow entries end, JOIN_NEXT towards it clears, and it goes to the
back of the free list. -/
def ClsSt.free (t : ClsSt) (i : Nat) : ClsSt :=
  let c := t.clause i
  let t := (t.entriesOf i).foldl ClsSt.endEntry t
  let t := match chainPrev (t.chain c.mi) i with
    | none => t
    | some p => t.setClause p { t.clause p with joinNext := false }
  let t := t.setChain c.mi ((t.chain c.mi).erase i)
  let t := t.setClause i { Clause.free with gen := c.gen }
  { t with freeTail := t.freeTail ++ [i], fullSeen := false }

/-! ## Conflicts (R55, R59–R63) -/

/-- What CLS sees of the rest of the module. -/
structure ClsEnv where
  map : List Byte
  now : Option Nat
  fault : Bool
  standby : Bool
  expert : Bool
  horizon : Nat
  notice : Nat
  perMi : Nat
  deriving DecidableEq, Repr

/-- A policy entry (R60): ACTION, SEP_MS, SEP_MM. -/
structure Policy where
  action : Nat
  sepMs : Nat
  sepMm : Nat
  deriving DecidableEq, Repr

/-- A conflict found: the held index and the policy of the pair. -/
structure Conflict where
  idx : Nat
  pol : Policy
  deriving DecidableEq, Repr

/-- Indices in order of T0, ties in order of index (log 31). -/
def ClsSt.byT0 (t : ClsSt) (l : List Nat) : List Nat :=
  sortBy (fun a b => decide ((t.clause a).t0 < (t.clause b).t0) || ((t.clause a).t0 == (t.clause b).t0 && decide (a ≤ b))) l

/-- The held clauses of other machines a request's pieces conflict with, in order of T0. -/
def ClsSt.conflicts (t : ClsSt) (m : List Byte) (pol : Nat → Policy) (mi : Nat) (pieces : List Piece) : List Conflict :=
  ((t.byT0 t.held).filterMap fun i =>
    let h := t.clause i
    let q := pol h.pclass
    if h.mi != mi && pieces.any (fun p => spaceConflict m p (h.piece m) q.sepMm && timeConflict p (h.piece m) q.sepMs) then
      some ⟨i, q⟩
    else none)

/-- The conflict is permitted as a following arrangement (R62); `c` is the requested clause. -/
def ClsSt.followOk (t : ClsSt) (c : Clause) (k : Conflict) : Bool :=
  let h := t.clause k.idx
  k.pol.action == 1 && !c.isCell && !h.isCell && c.space == h.space && c.dir == h.dir
    && decide (h.t0 + k.pol.sepMs ≤ c.t0) && decide (h.t1 + k.pol.sepMs ≤ c.t1)

/-- The conflict is won by cutting the held clause (R61). -/
def ClsSt.preemptOk (t : ClsSt) (env : ClsEnv) (now : Nat) (k : Conflict) : Bool :=
  let h := t.clause k.idx
  k.pol.action == 2 && !env.expert && decide (now + env.notice < h.t0) && !h.hold

/-- Every conflict is permitted, and the follow table has room (R62, R63); `kept` are clauses whose conflict counts as
permitted (R54, SWAP). -/
def ClsSt.permitted (t : ClsSt) (env : ClsEnv) (now : Nat) (c : Clause) (kept : List Nat) (l : List Conflict) : Bool :=
  l.all (fun k => kept.contains k.idx || t.followOk c k || t.preemptOk env now k)
    && decide (((l.filter fun k => !kept.contains k.idx && t.followOk c k).length) + t.follow.length ≤ followSize)

/-- FREE_AT (R51, R59). -/
def ClsSt.freeAt (t : ClsSt) (l : List Conflict) : Nat :=
  let v := (l.map fun k => (t.clause k.idx).t1 + k.pol.sepMs).foldl max 0
  if 0xFFFFFFFFFE < v then clauseForever else v

/-- A PREEMPT cut (R61, R75): T1 of the held clause becomes `newT1`; a clause left with no time is released, a follow entry
whose clauses no longer overlap in time ends. Answers event 51. -/
def ClsSt.cut (t : ClsSt) (i newT1 : Nat) : ClsSt × (Nat × Nat) :=
  let h := t.clause i
  if newT1 ≤ h.t0 then (t.free i, (Ev.CLS_PREEMPTED, i + h.mi * 2 ^ 18 + 2 ^ 29))
  else
    let t := t.setClause i { h with t1 := newT1 }
    let t := (t.entriesOf i).foldl (fun t k =>
      match t.follow.get none k with
      | none => t
      | some f =>
        let o := t.clause (f.other i)
        if h.t0 < o.t1 ∧ o.t0 < newT1 then t else t.endEntry k) t
    (t, (Ev.CLS_PREEMPTED, i + h.mi * 2 ^ 18))

/-- The cuts and follow entries of a permitted request: `c` the requested clause at index `i`, `t0` the time cuts are made
against. Cuts come before the request's own change (`cuts`), entries after it (`follows`). -/
def ClsSt.cuts (t : ClsSt) (env : ClsEnv) (now : Nat) (c : Clause) (kept : List Nat) (t0 : Nat) (l : List Conflict) :
    ClsSt × List (Nat × Nat) :=
  (l.filter fun k => !kept.contains k.idx && !t.followOk c k && t.preemptOk env now k).foldl (fun (r : ClsSt × List (Nat × Nat)) k =>
    let x := r.1.cut k.idx (t0 - k.pol.sepMs)
    (x.1, r.2 ++ [x.2])) (t, [])
def ClsSt.follows (t : ClsSt) (leaders : List Conflict) (i : Nat) : ClsSt × List (Nat × Nat) :=
  (leaders.foldl (fun t k => t.addFollow k.idx i k.pol.sepMm) t, leaders.map fun _ => (Ev.CLS_FOLLOW_SET, 0))

/-! ## Interval checks and banks (R73) -/

/-- The spaces, as SPACE words, in whose index a requested piece is compared: its own segment or cells, and the other end of every overlap
entry it meets. -/
def Piece.spaces (m : List Byte) (p : Piece) : List Nat :=
  (match p.seg with
    | some g => [g]
    | none => p.cells.map fun c => c + 2 ^ 31)
    ++ (List.range (mapOvls m)).flatMap fun i =>
      let e := mapOvl m i
      (if p.meets e.1 then [e.2.spaceWord] else []) ++ (if p.meets e.2 then [e.1.spaceWord] else [])

/-- The clauses held on a space. -/
def ClsSt.onSpace (t : ClsSt) (m : List Byte) (w : Nat) : List Nat :=
  t.held.filter fun i =>
    let h := t.clause i
    if spaceIsCell w then h.isCell && (blockCells m h.space h.lo).contains (spaceLow w) else !h.isCell && h.space == spaceLow w

/-- The bank of a space (R73). -/
def bankOfSpace (w : Nat) : Nat := spaceLow w % 4

/-- The bank of each check of requested pieces against the clauses held on their spaces that `p` picks: one per piece, space and held
clause (log 76). -/
def ClsSt.checkBanks (t : ClsSt) (m : List Byte) (p : Clause → Bool) (pieces : List Piece) : List Nat :=
  pieces.flatMap fun q => (q.spaces m).flatMap fun w =>
    ((t.onSpace m w).filter fun i => p (t.clause i)).map fun _ => bankOfSpace w

/-- Checks added to the banks' counts. -/
def ClsSt.addLoad (t : ClsSt) (banks : List Nat) : ClsSt :=
  { t with load := banks.foldl (fun m b => m.set 0 b (m.get 0 b + 1)) t.load }

/-! ## Results (R51) -/

/-- The result of a primitive; `data` lists QUERY_SPACE's handles, `record` is QUERY_HANDLE's clause (index and record). -/
structure ClsRes where
  status : Nat
  freeAt : Nat
  handle : Nat
  conflict : Nat
  data : List Nat
  record : Option Nat
  hits : Nat
  deriving DecidableEq, Repr

/-- A result with nothing but a status. -/
def ClsRes.of (status : Nat) : ClsRes := ⟨status, 0, 0, 0, [], none, 0⟩

/-- A result that names a handle. -/
def ClsRes.ok (handle : Nat) : ClsRes := ⟨Cs.OK, 0, handle, 0, [], none, 0⟩

/-- What a primitive leaves: its result, the table, and the events it raises. -/
structure ClsOut where
  res : ClsRes
  tab : ClsSt
  evs : List (Nat × Nat)
  deriving DecidableEq, Repr

/-- A primitive refused: nothing changes. -/
def ClsSt.refuse (t : ClsSt) (status : Nat) (evs : List (Nat × Nat) := []) : ClsOut := ⟨ClsRes.of status, t, evs⟩

/-- CONFLICT (R51, R63). -/
def ClsSt.refuseConflict (t : ClsSt) (l : List Conflict) : ClsOut :=
  ⟨⟨Cs.CONFLICT, t.freeAt l, 0, ((l.head?).map fun k => t.handle k.idx).getD 0, [], none, 0⟩, t, []⟩

/-! ## The primitives (R54) -/

/-- A machine's entry in the machine table: VALID, PCLASS, revoked in AUT. -/
structure ClsMach where
  valid : Bool
  pclass : Nat
  revoked : Bool
  fp : Option Footprint
  deriving DecidableEq, Repr

/-- The field rules of RESERVE, which SWAP shares. -/
def fieldsOk (env : ClsEnv) (now : Nat) (d : ClsDesc) (mach : ClsMach) : Bool :=
  mach.valid && spaceReservable env.map d.space d.lo d.hi d.dir && decide (d.t0 < d.t1) && decide (now < d.t1)
    && decide (d.t0 ≤ now + env.horizon)

/-- The clause a descriptor asks for. -/
def clauseFor (d : ClsDesc) (gen pclass t0 : Nat) (hold : Bool) : Clause :=
  ⟨gen, t0, d.t1, d.mi, pclass, spaceIsCell d.space, spaceLow d.space, d.lo, d.hi, false, d.dir, false, hold, true, false⟩

/-- RESERVE's change of the table, all conditions met. -/
def ClsSt.reserveAt (t : ClsSt) (env : ClsEnv) (now : Nat) (d : ClsDesc) (c : Clause) (i : Nat) (ref : Option Nat)
    (l : List Conflict) : ClsOut :=
  let t := t.takeFree.setClause i c
  let t := t.setChain d.mi (chainInsert (t.chain d.mi) ref i)
  let leaders := l.filter fun k => t.followOk c k
  let cut := t.cuts env now c [] c.t0 l
  let t := cut.1
  let t := match ref with
    | none => t
    | some r => (t.rejoin env.map i).rejoin env.map r
  let fol := t.follows leaders i
  ⟨ClsRes.ok (fol.1.handle i), fol.1, cut.2 ++ fol.2⟩

/-- RESERVE (R54). -/
def ClsSt.reserve (t : ClsSt) (env : ClsEnv) (pol : Nat → Nat → Policy) (mach : ClsMach) (d : ClsDesc) : ClsOut :=
  match env.now with
  | none => t.refuse Cs.NO_TIME
  | some now =>
    if d.bad || !fieldsOk env now d mach || (d.force && !mach.revoked) then t.refuse Cs.INVALID
    else if env.perMi ≤ (t.chain d.mi).length then t.refuse Cs.LIMIT (if d.dry then [] else [(Ev.CLS_MACH_LIMIT, 0)])
    else if d.link && (t.ref d.ref).isNone then t.refuse Cs.STALE
    else if d.link && (match t.ref d.ref with
        | some r => (t.clause r).mi != d.mi
        | none => true) then t.refuse Cs.NOT_OWNER
    else match t.nextFree with
      | none =>
        if d.dry then t.refuse Cs.FULL
        else ({ t with fullSeen := true }).refuse Cs.FULL (if t.fullSeen then [] else [(Ev.CLS_TABLE_FULL, 0)])
      | some i =>
        let c := clauseFor d (((t.clause i).gen + 1) % 16384) mach.pclass (max d.t0 now) d.force
        let p := c.piece env.map
        if !t.roomFor env.map p then t.refuse Cs.SPACE_FULL
        else
          let l := if d.force then [] else t.conflicts env.map (pol mach.pclass) d.mi [p]
          if !t.permitted env now c [] l then t.refuseConflict l
          else if d.dry then ⟨ClsRes.ok (i + 2 ^ 18 * c.gen), t, []⟩
          else t.reserveAt env now d c i (if d.link then t.ref d.ref else none) l

/-- RELEASE (R54). -/
def ClsSt.release (t : ClsSt) (d : ClsDesc) : ClsOut :=
  match t.ref d.ref with
  | none => t.refuse Cs.STALE
  | some i =>
    if d.bad then t.refuse Cs.INVALID
    else if (t.clause i).current && !d.force then t.refuse Cs.IN_USE
    else ⟨ClsRes.ok d.ref, if d.dry then t else t.free i, []⟩

/-- The added part of an EXTEND (R59): the new span over the added time, and the added space over the old time (log 32). -/
def extendPieces (m : List Byte) (c : Clause) (lo hi t1 : Nat) : List Piece :=
  (if c.t1 < t1 then [pieceOf m c.isCell c.space lo hi c.t1 t1] else [])
    ++ (if c.isCell then
          let old := blockCells m c.space c.lo
          let added := (blockCells m c.space lo).filter fun x => !old.contains x
          if added.isEmpty then [] else [⟨none, 0, 0, added, c.t0, c.t1⟩]
        else (if lo < c.lo then [⟨some c.space, lo, c.lo, [], c.t0, c.t1⟩] else [])
          ++ (if c.hi < hi then [⟨some c.space, c.hi, hi, [], c.t0, c.t1⟩] else []))

/-- The space of an EXTEND is the old one, not smaller: LO not above and HI not below, or for a block no fewer columns and
rows (log 32). -/
def extendOk (m : List Byte) (c : Clause) (d : ClsDesc) : Bool :=
  d.t0 == c.t0 && decide (c.t1 ≤ d.t1) && d.dir == c.dir && spaceIsCell d.space == c.isCell && spaceLow d.space == c.space
    && spaceOk m d.space d.lo d.hi
    && (if c.isCell then decide (c.lo % 256 ≤ d.lo % 256) && decide (c.lo / 256 ≤ d.lo / 256)
        else decide (d.lo ≤ c.lo) && decide (c.hi ≤ d.hi))

/-- EXTEND (R54). A conflict with the leader it already follows enters a further follow entry for the pair, as any FOLLOW conflict does:
DESIGN CHOICE (log 75). -/
def ClsSt.extend (t : ClsSt) (env : ClsEnv) (pol : Nat → Nat → Policy) (mach : Nat → ClsMach) (d : ClsDesc) : ClsOut :=
  match env.now, t.ref d.ref with
  | none, _ => t.refuse Cs.NO_TIME
  | some _, none => t.refuse Cs.STALE
  | some now, some i =>
    let c := t.clause i
    if d.bad || !extendOk env.map c d then t.refuse Cs.INVALID
    else
      let c' := { c with lo := d.lo, hi := d.hi, t1 := d.t1 }
      let pieces := extendPieces env.map c d.lo d.hi d.t1
      let l := t.conflicts env.map (pol (mach c.mi).pclass) c.mi pieces
      if !t.permitted env now c' [] l then t.refuseConflict l
      else if d.dry then ⟨ClsRes.ok d.ref, t, []⟩
      else
        let leaders := l.filter fun k => t.followOk c' k
        let cut := t.cuts env now c' [] ((pieces.map Piece.t0).foldl min clauseForever) l
        let t := cut.1
        let t := t.setClause i { t.clause i with lo := d.lo, hi := d.hi, t1 := d.t1 }
        let fol := t.follows leaders i
        ⟨ClsRes.ok d.ref, fol.1, cut.2 ++ fol.2⟩

/-- The space of a SHRINK lies inside the old one (R54). -/
def shrinkOk (m : List Byte) (c : Clause) (d : ClsDesc) : Bool :=
  decide (c.t0 ≤ d.t0) && decide (d.t1 ≤ c.t1) && decide (d.t0 < d.t1) && spaceIsCell d.space == c.isCell
    && spaceOk m d.space d.lo d.hi
    && (if c.isCell then
          let old := blockCells m c.space c.lo
          (blockCells m (spaceLow d.space) d.lo).all fun x => old.contains x
        else spaceLow d.space == c.space && decide (c.lo ≤ d.lo) && decide (d.hi ≤ c.hi))

/-- A machine's last checked footprint lies in clause `c` at index `i`; a machine never checked has none to contain. -/
def ClsSt.keepsFootprint (t : ClsSt) (m : List Byte) (i : Nat) (c : Clause) (fp : Option Footprint) : Bool :=
  match fp with
  | none => false
  | some f => t.contains m i c f

/-- SHRINK (R54). -/
def ClsSt.shrink (t : ClsSt) (env : ClsEnv) (mach : Nat → ClsMach) (d : ClsDesc) : ClsOut :=
  match t.ref d.ref with
  | none => t.refuse Cs.STALE
  | some i =>
    let c := t.clause i
    let c' := { c with t0 := d.t0, t1 := d.t1, space := spaceLow d.space, lo := d.lo, hi := d.hi }
    if d.bad || !shrinkOk env.map c d then t.refuse Cs.INVALID
    else if c.current && !d.force && !t.keepsFootprint env.map i c' (mach c.mi).fp then t.refuse Cs.IN_USE
    else ⟨ClsRes.ok d.ref, if d.dry then t else t.setClause i c', []⟩

/-- A follow entry of the replaced clause `i` that SWAP keeps for `c'` (R54). -/
def ClsSt.swapKeeps (t : ClsSt) (i : Nat) (c' : Clause) (k : Nat) : Bool :=
  match t.follow.get none k with
  | none => false
  | some f =>
    let o := t.clause (f.other i)
    !c'.isCell && !o.isCell && o.space == c'.space && o.dir == c'.dir && decide (c'.t0 < o.t1) && decide (o.t0 < c'.t1)

/-- SWAP's change of the table, all conditions met. -/
def ClsSt.swapAt (t : ClsSt) (env : ClsEnv) (now : Nat) (i : Nat) (c' : Clause) (keep : List Nat) (kept : List Nat)
    (l : List Conflict) : ClsOut :=
  let cut := t.cuts env now c' kept c'.t0 l
  let leaders := l.filter fun k => !kept.contains k.idx && t.followOk c' k
  let t := cut.1
  let t := ((t.entriesOf i).filter fun k => !keep.contains k).foldl ClsSt.endEntry t
  let t := t.setClause i { c' with follow := !((t.entriesOf i).isEmpty) }
  let rename (h : Nat) : Nat := if h % 2 ^ 18 = i then t.handle i else h
  let t := { t with follow := t.follow.map fun (e : Nat × Option FollowPair) => (e.1, e.2.map fun (f : FollowPair) => ⟨rename f.leader, rename f.follower, f.sepMm⟩) }
  let t := t.rejoin env.map i
  let t := match chainPrev (t.chain c'.mi) i with
    | none => t
    | some p => t.rejoin env.map p
  let fol := t.follows leaders i
  ⟨ClsRes.ok (fol.1.handle i), fol.1, cut.2 ++ fol.2⟩

/-- SWAP (R54). The new clause keeps CURRENT, as it keeps HOLD, until the next check, and the policy class copied into REF (R47); its T0 is
as given, for only RESERVE's effect raises it: DESIGN CHOICE (log 75). -/
def ClsSt.swap (t : ClsSt) (env : ClsEnv) (pol : Nat → Nat → Policy) (mach : Nat → ClsMach) (d : ClsDesc) : ClsOut :=
  match env.now, t.ref d.ref with
  | none, _ => t.refuse Cs.NO_TIME
  | some _, none => t.refuse Cs.STALE
  | some now, some i =>
    let c := t.clause i
    if c.mi != d.mi then t.refuse Cs.NOT_OWNER
    else if d.bad || !fieldsOk env now d (mach d.mi) then t.refuse Cs.INVALID
    else
      let c0 := { clauseFor d ((c.gen + 1) % 16384) c.pclass d.t0 c.hold with current := c.current }
      let t' := (t.setClause i c0).rejoin env.map i
      let t' := match chainPrev (t'.chain c.mi) i with
        | none => t'
        | some p => t'.rejoin env.map p
      if c.current && !d.force && !t'.keepsFootprint env.map i (t'.clause i) (mach d.mi).fp then t.refuse Cs.IN_USE
      else
        let keep := (t.entriesOf i).filter (t.swapKeeps i c0)
        let kept := keep.filterMap fun k => (t.follow.get none k).map fun f => f.other i
        let l := (t.conflicts env.map (pol (mach d.mi).pclass) d.mi [c0.piece env.map])
        if !t.permitted env now c0 kept l then t.refuseConflict l
        else if d.dry then ⟨ClsRes.ok (i + 2 ^ 18 * c0.gen), t, []⟩
        else t.swapAt env now i c0 keep kept l

/-- The held clauses that meet a space and time range, in T0 order (R54). -/
def ClsSt.onRange (t : ClsSt) (m : List Byte) (d : ClsDesc) : List Nat :=
  let cells := if spaceIsCell d.space then blockCells m (spaceLow d.space) d.lo else []
  (t.byT0 t.held).filter fun i =>
    let h := t.clause i
    decide (h.t0 < d.t1) && decide (d.t0 < h.t1) &&
      (if spaceIsCell d.space then h.isCell && (blockCells m h.space h.lo).any (fun c => cells.contains c)
       else !h.isCell && h.space == spaceLow d.space && decide (h.lo ≤ d.hi) && decide (d.lo ≤ h.hi))

/-- Whether clause `a` comes after clause `b` in T0 order. -/
def ClsSt.after (t : ClsSt) (a b : Nat) : Bool :=
  decide ((t.clause b).t0 < (t.clause a).t0) || ((t.clause a).t0 == (t.clause b).t0 && decide (b < a))

/-- QUERY_SPACE (R54). -/
def ClsSt.querySpace (t : ClsSt) (env : ClsEnv) (d : ClsDesc) : ClsOut :=
  if d.bad || !spaceInMap env.map d.space d.lo then t.refuse Cs.INVALID
  else if d.ref != 0 && (t.ref d.ref).isNone then t.refuse Cs.STALE
  else
    let all := t.onRange env.map d
    let rest := match (if d.ref = 0 then none else t.ref d.ref) with
      | none => all
      | some r => all.filter fun i => t.after i r
    ⟨{ ClsRes.of Cs.OK with data := (rest.take 8).map t.handle, hits := all.length }, t, []⟩

/-- QUERY_HANDLE (R54). R51 gives HANDLE for a clause created or changed; the model returns REF: DESIGN CHOICE (log 75). -/
def ClsSt.queryHandle (t : ClsSt) (d : ClsDesc) : ClsOut :=
  match t.ref d.ref with
  | none => t.refuse Cs.STALE
  | some i => if d.bad then t.refuse Cs.INVALID else ⟨{ ClsRes.ok d.ref with record := some i }, t, []⟩

/-- The clauses a sweep with bound `t1` frees (R54, R58). -/
def ClsSt.sweepable (t : ClsSt) (t1 : Nat) : List Nat :=
  t.held.filter fun i => !(t.clause i).hold && decide ((t.clause i).t1 ≤ t1) && decide ((t.clause i).t1 < clauseForever)

/-- A sweep: every such clause is freed; event 54 if any was. -/
def ClsSt.sweepTo (t : ClsSt) (t1 : Nat) : ClsOut :=
  let l := t.sweepable t1
  ⟨{ ClsRes.of Cs.OK with hits := l.length }, l.foldl ClsSt.free t, if l.isEmpty then [] else [(Ev.CLS_SWEEP_DONE, 0)]⟩

/-- SWEEP (R54). -/
def ClsSt.sweep (t : ClsSt) (env : ClsEnv) (d : ClsDesc) : ClsOut :=
  match env.now with
  | none => t.refuse Cs.NO_TIME
  | some now =>
    if d.bad ∨ now < d.t1 then t.refuse Cs.INVALID
    else if d.dry then ⟨{ ClsRes.of Cs.OK with hits := (t.sweepable d.t1).length }, t, []⟩
    else t.sweepTo d.t1

/-- The bank of each check of a QUERY_SPACE: on the range's own spaces. -/
def ClsSt.onAsked (t : ClsSt) (m : List Byte) (p : Piece) : List Nat :=
  (match p.seg with
    | some g => [g]
    | none => p.cells.map fun c => c + 2 ^ 31).flatMap fun w => (t.onSpace m w).map fun _ => bankOfSpace w

/-- The bank of each check a primitive made (R51, R73): the conflict test, the last of its preconditions, makes them in RESERVE, EXTEND and
SWAP, and a QUERY_SPACE compares the range it asks about with every clause on it. -/
def ClsSt.primBanks (t : ClsSt) (m : List Byte) (op : Nat) (d : ClsDesc) (status : Nat) : List Nat :=
  let asked := pieceOf m (spaceIsCell d.space) (spaceLow d.space) d.lo d.hi d.t0 d.t1
  let others (mi : Nat) (c : Clause) : Bool := c.mi != mi
  if status != Cs.OK && status != Cs.CONFLICT then []
  else if op = 1 then (if d.force then [] else t.checkBanks m (others d.mi) [asked])
  else if op = 3 then
    match t.ref d.ref with
    | some i => t.checkBanks m (others (t.clause i).mi) (extendPieces m (t.clause i) d.lo d.hi d.t1)
    | none => []
  else if op = 5 then t.checkBanks m (others d.mi) [asked]
  else if op = 6 then t.onAsked m asked
  else []

end Sys2Proof.Machine
end

