-- ==== Sys2Proof/Machine/Operands.lean ====
section
/-!
DEFINITION. The byte layouts of records that commands carry in or out: the CLS descriptor, clause record and result (R48, R50,
R51), the authority record and token block (R82, R87), the stop frame payload (R100).
-/

namespace Sys2Proof.Machine

/-- A Bool as bit `b` of a number. -/
def bitAt (v : Bool) (b : Nat) : Nat := if v then 2 ^ b else 0

/-! ## CLS (R48, R50, R51) -/

/-- The primitive codes of R50. -/
abbrev ClsOp.RESERVE : Nat := 1
abbrev ClsOp.RELEASE : Nat := 2
abbrev ClsOp.EXTEND : Nat := 3
abbrev ClsOp.SHRINK : Nat := 4
abbrev ClsOp.SWAP : Nat := 5
abbrev ClsOp.QUERY_SPACE : Nat := 6
abbrev ClsOp.QUERY_HANDLE : Nat := 7
abbrev ClsOp.SWEEP : Nat := 8

/-- The descriptor 32 bytes spell. -/
def clsDescOf (b : List Byte) : ClsDesc :=
  { force := bitOf (Bytes.at' b 1 1) 0, link := bitOf (Bytes.at' b 1 1) 1, dir := bitOf (Bytes.at' b 1 1) 2,
    dry := bitOf (Bytes.at' b 1 1) 3, mi := Bytes.at' b 2 2 % 2048, ref := Bytes.at' b 4 4, t0 := Bytes.at' b 8 5,
    t1 := Bytes.at' b 13 5, space := Bytes.at' b 20 4, lo := Bytes.at' b 24 4, hi := Bytes.at' b 28 4,
    bad := Bytes.at' b 1 1 / 16 != 0 || Bytes.at' b 2 2 / 2048 != 0 || Bytes.at' b 18 2 != 0 }

/-- The SPACE word of a clause. -/
def Clause.spaceWord (c : Clause) : Nat := c.space + bitAt c.isCell 31

/-- The 32-byte record of index `i` (R48). -/
def ClsSt.record (t : ClsSt) (i : Nat) : List Byte :=
  let c := t.clause i
  let link := (chainNext (t.chain c.mi) i).getD 0x3FFFF + bitAt c.joinNext 18 + bitAt c.dir 19 + bitAt c.current 20
    + bitAt c.hold 21 + bitAt c.held 22 + bitAt c.follow 23
  Bytes.ofNat 4 (t.handle i) ++ Bytes.ofNat 5 c.t0 ++ Bytes.ofNat 5 c.t1 ++ Bytes.ofNat 2 (c.mi + c.pclass * 2048)
    ++ Bytes.ofNat 4 c.spaceWord ++ Bytes.ofNat 4 c.lo ++ Bytes.ofNat 4 c.hi ++ Bytes.ofNat 4 link

/-- The 64-byte result (R51); `checks` is CHECKS. -/
def ClsRes.bytes (r : ClsRes) (t : ClsSt) (checks : Nat) : List Byte :=
  let data := match r.record with
    | some i => t.record i
    | none => r.data.flatMap (Bytes.ofNat 4)
  Bytes.ofNat 1 r.status ++ Bytes.ofNat 5 r.freeAt ++ Bytes.ofNat 2 (saturate 16 checks) ++ Bytes.ofNat 4 r.handle
    ++ Bytes.ofNat 4 r.conflict ++ Bytes.padTo data 32 ++ Bytes.ofNat 4 r.hits ++ Bytes.ofNat 12 0

/-! ## Authority (R82, R87, R100) -/

/-- The FLAGS and WHY bytes of a record. -/
def AuthRec.flags (r : AuthRec) : Nat := r.qclass + bitAt r.cell 2 + bitAt r.revoked 3 + bitAt r.rep 4

/-- The 32 bytes of an authority record (R87). -/
def AuthRec.bytes (r : AuthRec) : List Byte :=
  Bytes.ofNat 2 r.mi ++ Bytes.ofNat 1 r.flags ++ Bytes.ofNat 1 (r.zero + r.limiter * 16)
    ++ Bytes.ofNat 4 (encodeSigned 32 r.limE) ++ Bytes.ofNat 4 (encodeSigned 32 r.limN) ++ Bytes.ofNat 4 r.vceil
    ++ Bytes.ofNat 5 r.validUntil ++ Bytes.ofNat 5 r.posEpoch ++ Bytes.ofNat 2 r.limR ++ Bytes.ofNat 4 r.tokSeq

/-- REVBM of `n` bytes: bit k of byte j belongs to MI 8j + k (R82). -/
def revbmBytes (mis : List Nat) (n : Nat) : List Byte :=
  (List.range n).map fun j => BitVec.ofNat 8 (((List.range 8).map fun k => bitAt (mis.contains (8 * j + k)) k).sum)

/-- The 16 + 8 × COVER bytes of a token block (R82). -/
def TokenBlock.bytes (b : TokenBlock) : List Byte :=
  Bytes.ofNat 1 b.tense ++ Bytes.ofNat 1 b.cause ++ Bytes.ofNat 6 b.seq ++ Bytes.ofNat 5 b.btime ++ Bytes.ofNat 2 b.lifeMs
    ++ Bytes.ofNat 1 b.cover ++ revbmBytes b.revbm (8 * b.cover)

/-- The 16-byte stop frame payload (R100). -/
def stopPayload (tense cause seq now : Nat) : List Byte :=
  Bytes.ofNat 1 tense ++ Bytes.ofNat 1 cause ++ Bytes.ofNat 6 seq ++ Bytes.ofNat 5 now ++ Bytes.ofNat 3 0

end Sys2Proof.Machine
end

