-- ==== Sys2Proof/Machine/ClauseRows.lean ====
section
/-!
DEFINITION. The commands of CLS (R50–R58, R77, R78): the primitives at the three ports, the automatic sweep, the end of a
follow entry, and what revocation holds (R70). The solution check is in Machine/SolutionCheck.lean.
-/

namespace Sys2Proof.Machine

/-! ## What the module shows CLS -/

/-- The MAP section in force. -/
def State.clsMap (s : State) : List Byte :=
  match s.sim.applied with
  | some img => imgSec img Sec.MAP Blk.CLS
  | none => []

/-- A machine's entry in the machine table is VALID (R47). -/
def State.machValid (s : State) (mi : Nat) : Bool := s.flagB mi F.CLS_MACH_DATA_VALID

/-- A machine's revocation bit in AUT. -/
def State.isRevoked (s : State) (mi : Nat) : Bool := (s.aut.mach.get AutMach.none mi).revoked != 0

/-- What CLS sees of a machine. -/
def State.clsMach (s : State) (mi : Nat) : ClsMach :=
  ⟨s.machValid mi, s.fldB mi F.CLS_MACH_DATA_PCLASS, s.isRevoked mi, s.cls.lastFp.get none mi⟩

/-- The policy entry of (requester class, holder class) (R60). -/
def State.clsPolicy (s : State) (q h : Nat) : Policy :=
  ⟨s.fldB (32 * q + h) F.CLS_POL_DATA_ACTION, s.fldB (32 * q + h) F.CLS_POL_DATA_SEP_10MS * 10,
    s.fldB (32 * q + h) F.CLS_POL_DATA_SEP_MM⟩

/-- The rest of what CLS sees. -/
def State.clsEnv (s : State) : ClsEnv :=
  { map := s.clsMap, now := s.clauseNow, fault := s.flag F.CLS_STATUS_MEM_FAULT, standby := s.isStandby,
    expert := s.expert Blk.CLS, horizon := s.fld F.CLS_HORIZON_HORIZON_MS, notice := s.fld F.CLS_NOTICE_NOTICE_MS,
    perMi := s.fld F.CLS_LIMITS_PER_MI }

/-! ## Putting a changed table in force -/

/-- Two follow entries are the same arrangement: the same two indices. -/
def sameFollow (a b : Option FollowPair) : Bool :=
  match a, b with
  | some f, some g => f.leader % 2 ^ 18 == g.leader % 2 ^ 18 && f.follower % 2 ^ 18 == g.follower % 2 ^ 18
  | none, none => true
  | _, _ => false

/-- The held count is at the near-full level (R72). -/
def State.clsNear (s : State) (t : ClsSt) : Bool := decide (s.fld F.CLS_LIMITS_WARN_PCT * clsSize ≤ t.held.length * 100)

/-- The mirror message of a clause (R309, 0x04), with the chain of the machine that owns it or, once it is freed, owned it last. -/
def State.mirrorClause (s : State) (i mi : Nat) (snap : Bool := false) : State :=
  s.mirror i (.clause i (s.cls.clause i) s.cls.freeNext s.cls.freeTail mi (s.cls.chain mi)) snap

/-- The mirror message of a follow entry (R309, 0x05). -/
def State.mirrorFollow (s : State) (k : Nat) (snap : Bool := false) : State :=
  s.mirror k (.follow k (s.cls.follow.get none k)) snap

/-- The keys of two tables. -/
def keysOf {α : Type} (a b : SMap α) : List Nat := a.keys ++ b.keys.filter fun k => !a.keys.contains k

/-- The changed table `t` in force: gap slots of ended arrangements are freed and new arrangements entered (R295), every
changed record and entry is mirrored (R309), event 50 marks a rise to the near-full level. -/
def State.setCls (s : State) (t : ClsSt) : State :=
  let old := s.cls
  let fk := (keysOf old.follow t.follow).filter fun k => old.follow.get none k != t.follow.get none k
  let moved := fk.filter fun k => !sameFollow (old.follow.get none k) (t.follow.get none k)
  let s := (moved.filter fun k => (old.follow.get none k).isSome).foldl State.gapLeave s
  let s := { s with cls := { t with nearSeen := s.clsNear t } }
  let s := (moved.filter fun k => (t.follow.get none k).isSome).foldl State.gapEnter s
  let ck := (keysOf old.clauses t.clauses).filter fun i => old.clauses.get Clause.free i != t.clauses.get Clause.free i
  let owner (i : Nat) : Nat := if (t.clauses.get Clause.free i).held then (t.clauses.get Clause.free i).mi else (old.clauses.get Clause.free i).mi
  let s := ck.foldl (fun s i => s.mirrorClause i (owner i)) s
  let s := fk.foldl (fun s k => s.mirrorFollow k) s
  if s.cls.nearSeen && !old.nearSeen then s.raise Ev.CLS_NEAR_FULL 0 else s

/-- Raise a list of events. -/
def State.raiseAll (s : State) (l : List (Nat × Nat)) : State := l.foldl (fun s e => s.raise e.1 e.2) s

/-- What a primitive left, put in force. -/
def State.clsCommit (s : State) (o : ClsOut) : State := (s.setCls o.tab).raiseAll o.evs

/-! ## Primitives -/

/-- A primitive on a table that is not in memory fault, on a module that is no standby (R54). -/
def State.clsPrim (s : State) (op : Nat) (d : ClsDesc) : ClsOut :=
  if op = ClsOp.RESERVE then s.cls.reserve s.clsEnv s.clsPolicy (s.clsMach d.mi) d
  else if op = ClsOp.RELEASE then s.cls.release d
  else if op = ClsOp.EXTEND then s.cls.extend s.clsEnv s.clsPolicy s.clsMach d
  else if op = ClsOp.SHRINK then s.cls.shrink s.clsEnv s.clsMach d
  else if op = ClsOp.SWAP then s.cls.swap s.clsEnv s.clsPolicy s.clsMach d
  else if op = ClsOp.QUERY_SPACE then s.cls.querySpace s.clsEnv d
  else if op = ClsOp.QUERY_HANDLE then s.cls.queryHandle d
  else if op = ClsOp.SWEEP then s.cls.sweep s.clsEnv d
  else s.cls.refuse Cs.INVALID

/-- A primitive at any port: FAULT in memory fault (R76); a standby runs the two queries only (R311). -/
def State.clsRun (s : State) (op : Nat) (d : ClsDesc) : ClsOut :=
  if s.clsEnv.fault then s.cls.refuse Cs.FAULT
  else if s.isStandby && op != ClsOp.QUERY_SPACE && op != ClsOp.QUERY_HANDLE then s.cls.refuse Cs.INVALID
  else s.clsPrim op d

/-- The descriptor in `CLS_CMD0`–`CLS_CMD7`. -/
def State.clsHostBytes (s : State) : List Byte := (List.range 8).flatMap fun n => Bytes.ofNat 4 (s.fld (F.CLS_CMD_WORD.nth n))

/-- A 64-byte result in `CLS_RES0`–`CLS_RES15`. -/
def State.clsHostResult (s : State) (bytes : List Byte) : State :=
  (List.range 16).foldl (fun s n => s.setFld (F.CLS_RES_WORD.nth n) (Bytes.at' bytes (4 * n) 4)) s

/-- A primitive runs: the state it leaves, its checks counted in their banks (R73, R74), its result, and the result's bytes. -/
def State.clsDo (s : State) (op : Nat) (d : ClsDesc) : State × ClsRes × List Byte :=
  let o := s.clsRun op d
  let banks := s.cls.primBanks s.clsMap op d o.res.status
  let t := s.clsCommit o
  ({ t with cls := t.cls.addLoad banks }, o.res, o.res.bytes t.cls banks.length)

/-- A write to `CLS_GO`: the descriptor is issued at the host port, runs, and ends with DONE. One whose OP is none of R50's is
INVALID. -/
def State.clsGo (s : State) : State :=
  let r := s.clsDo (Bytes.at' s.clsHostBytes 0 1) (clsDescOf s.clsHostBytes)
  (r.1.clsHostResult r.2.2).setFld F.CLS_STATUS_DONE 1

/-- A primitive at a port. At the host port the row stands for a write to `CLS_GO` with its OP in the descriptor; with
another OP there it is not that row. -/
def State.clsAt (s : State) (op : Nat) (p : ClsPort) : State :=
  let queued (s : State) (d : ClsDesc) (disp : Bool) : State :=
    let r := s.clsDo op d
    r.1.emit (.clsResult disp r.2.2)
  match p with
  | .host => if Bytes.at' s.clsHostBytes 0 1 = op then s.clsGo else s
  | .core d => queued s d false
  | .dispatcher d => queued s d true

/-- RESERVE (R54). -/
def execReserve (p : ClsPort) (s : State) : Result := whileOn s Blk.CLS fun s => s.clsAt ClsOp.RESERVE p

/-- RELEASE (R54). -/
def execClsRelease (p : ClsPort) (s : State) : Result := whileOn s Blk.CLS fun s => s.clsAt ClsOp.RELEASE p

/-- EXTEND (R54). -/
def execExtend (p : ClsPort) (s : State) : Result := whileOn s Blk.CLS fun s => s.clsAt ClsOp.EXTEND p

/-- SHRINK (R54). -/
def execShrink (p : ClsPort) (s : State) : Result := whileOn s Blk.CLS fun s => s.clsAt ClsOp.SHRINK p

/-- SWAP (R54). -/
def execClsSwap (p : ClsPort) (s : State) : Result := whileOn s Blk.CLS fun s => s.clsAt ClsOp.SWAP p

/-- QUERY_SPACE (R54). -/
def execQuerySpace (p : ClsPort) (s : State) : Result := whileOn s Blk.CLS fun s => s.clsAt ClsOp.QUERY_SPACE p

/-- QUERY_HANDLE (R54). -/
def execQueryHandle (p : ClsPort) (s : State) : Result := whileOn s Blk.CLS fun s => s.clsAt ClsOp.QUERY_HANDLE p

/-- SWEEP (R54). -/
def execSweep (p : ClsPort) (s : State) : Result := whileOn s Blk.CLS fun s => s.clsAt ClsOp.SWEEP p

/-! ## What CLS does by itself -/

/-- AUTOMATIC_SWEEP (R77): at basic level, PERIOD_MS after the last one, with the bound now − RETAIN; not on a standby (R312), in memory fault, or while
clause time is unknown. -/
def execAutomaticSweep (s : State) : Result :=
  whileOn s Blk.CLS fun s =>
    match s.clauseNow with
    | none => s
    | some now =>
      if s.expert Blk.CLS || s.isStandby || s.clsEnv.fault || !dueSince s s.cls.sweptAt (s.fld F.CLS_SWEEP_PERIOD_MS * nsPerMs) then s
      else
        let o := s.cls.sweepTo (now - s.fld F.CLS_RETAIN_RETAIN_MS)
        s.clsCommit { o with tab := { o.tab with sweptAt := some s.mono } }

/-- A follow entry one of whose clauses has ended by clause time `now` (R62). -/
def ClsSt.entryOver (t : ClsSt) (now k : Nat) : Bool :=
  match t.follow.get none k with
  | none => false
  | some f => decide ((t.clause (f.leader % 2 ^ 18)).t1 ≤ now) || decide ((t.clause (f.follower % 2 ^ 18)).t1 ≤ now)

/-- FOLLOW_ENTRY_END (R62): the entry ends once one of its clauses has; its GAP slot is freed at basic level (R295). A
standby changes only by mirror (R312). -/
def execFollowEntryEnd (entry : Nat) (s : State) : Result :=
  whileOn s Blk.CLS fun s =>
    match s.clauseNow with
    | none => s
    | some now => if !s.isStandby && s.cls.entryOver now entry then s.setCls (s.cls.endEntry entry) else s

/-- CLAUSE_TIME_NOW_READ (R78): the read returns clause time bits 31:0 and latches bits 39:32. While clause time is unknown
the spec states no value: it is a free one. -/
def execClauseTimeNowRead (s : State) : Result :=
  whileRead s fun s =>
    let r := match s.clauseNow with
      | some t => (t, s)
      | none => s.draw
    { r.2.setFld F.CLS_NOW_HI_NOW_HI (r.1 / 2 ^ 32) with hostRead := BitVec.ofNat 32 r.1 }

/-- CLS enters memory fault (R76): the flag, and event 55 on entering it. -/
def State.clsFault (s : State) : State :=
  let was := s.flag F.CLS_STATUS_MEM_FAULT
  let s := (s.bump F.CLS_ECC_UNCORRECTED).setFld F.CLS_STATUS_MEM_FAULT 1
  if was then s else s.raise Ev.CLS_MEM_FAULT 0

/-- R70: on revocation CLS holds every clause of the machine that has CURRENT = 1 or is valid now, with event 52; event 53
where there is none. -/
def State.clsHold (s : State) (mi : Nat) : State :=
  let validNow (c : Clause) : Bool := match s.clauseNow with
    | some now => decide (c.t0 ≤ now) && decide (now < c.t1)
    | none => false
  let l := (s.cls.chain mi).filter fun i => (s.cls.clause i).current || validNow (s.cls.clause i)
  let t := l.foldl (fun (t : ClsSt) i => t.setClause i { t.clause i with hold := true }) s.cls
  (s.setCls t).raise (if l.isEmpty then Ev.CLS_HOLD_MISSING else Ev.CLS_HOLD_SET) 0

end Sys2Proof.Machine
end

