-- ==== Sys2Proof/Machine/RegWrite.lean ====
section
/-!
DEFINITION. What a host write does to a register's fields (R4, R35, R78, R311): access codes, RWL while EN = 1, stated ranges,
registers a standby ignores, and the REGWRITE message. Commands that a register's write starts are in their own chapters'
files; Machine/Registers.lean joins them.
-/

namespace Sys2Proof.Machine

/-- The entry a register's index register selects. -/
def State.bankOf (s : State) (d : RegDesc) : Nat :=
  match d.bank with
  | none => 0
  | some f => s.fld f

/-- A field another field's range names, of the same entry where its register has entries. -/
def State.peer (s : State) (b : Nat) (f : Fld) : Nat :=
  match Regs.descAt f.addr with
  | some d => if d.bank.isSome then s.fldB b f else s.fld f
  | none => s.fld f

/-- The MODEMS entry of modem `m` in the applied image (R209). -/
def State.modemRow (s : State) (m : Nat) : List Byte :=
  match s.sim.applied with
  | some img => Bytes.slice (imgSec img Sec.MODEMS Blk.AIR) (16 * m) 16
  | none => []

/-- A field of entry `b` may hold `v` by a stated range. -/
def State.rangeHolds (s : State) (b v : Nat) : Range → Bool
  | .any => true
  | .within lo hi => decide (lo ≤ v) && decide (v ≤ hi)
  | .signed width lo hi => decide (lo ≤ signedOf width v) && decide (signedOf width v ≤ hi)
  | .oneOf vs => vs.contains v
  | .fromFld f hi => decide (s.peer b f ≤ v) && decide (v ≤ hi)
  | .toFld lo f => decide (lo ≤ v) && decide (v ≤ s.peer b f)
  | .between f g => decide (s.peer b f ≤ v) && decide (v ≤ s.peer b g)
  | .lessThan f => v == 0 || decide (v < s.peer b f)
  | .whenSet f lo hi => s.peer b f == 0 || (decide (lo ≤ v) && decide (v ≤ hi))
  | .orZero f r => (v == 0 && s.peer b f == 0) || s.rangeHolds b v r
  | .toWidth =>
    v == 0 || (decide (10 ≤ v) && (!s.flagB b F.TIM_TO_CFG_PERIODIC || decide (v < s.fldB b F.TIM_TO_PERIOD_PERIOD_NS)))
  | .dlMcs => v != 1 || Bytes.at' (s.modemRow b) 0 1 != 2 || Bytes.at' (s.modemRow b) 1 1 != 0

/-- The value a field of entry `b` holds lies in its stated range. -/
def State.inRange (s : State) (b : Nat) (fd : FieldDesc) : Bool := s.rangeHolds b (s.fldB b fd.fld) fd.range

/-- A write of `w` to one field of entry `b`: `locked` while the block's EN is 1. -/
def State.fieldWrite (s : State) (b : Nat) (locked : Bool) (w : Word) (fd : FieldDesc) : State :=
  match fd.access with
  | .rw => s.setFldB b fd.fld (fd.fld.get w)
  | .rwl => if locked then s else s.setFldB b fd.fld (fd.fld.get w)
  | .w1c => s.setFldB b fd.fld (s.fldB b fd.fld &&& (fd.fld.max ^^^ fd.fld.get w))
  | .ro | .wo | .rc => s

/-- The fields of a register at its `n`-th place. -/
def RegDesc.fieldsAt (d : RegDesc) (n : Nat) : List FieldDesc := d.fields.map fun fd => { fd with fld := fd.fld.nth n }

/-- Registers each module of a pair keeps for itself (R311), beyond the index registers. -/
def ownRegs : List Nat :=
  [R.CLS_CTRL, R.AUT_CTRL, R.SLV_CTRL, R.AIR_CTRL, R.DSP_CTRL, R.LPE_CTRL, R.AUT_WARDEN, R.AUT_KICK, R.AUT_REARM, R.CLS_GO,
    R.CLS_STATUS, R.DSP_GO, R.DSP_STATUS2, R.CLS_CMD, R.CLS_RES, R.DSP_CMD, R.DSP_RES0, R.DSP_RES1, R.CLS_POL_IDX, R.CLS_MACH_IDX, R.AUT_MACH_IDX,
    R.SLV_RCLASS_IDX, R.SLV_MACH_IDX, R.SLV_AUX_IDX, R.AIR_MOD_IDX, R.AIR_MACH_IDX, R.AIR_SND_IDX, R.DSP_MACH_IDX, R.DSP_THR_IDX,
    R.LPE_SLOT_IDX]

/-- A mirrored register (R311): an RW or W1C register of CLS, AUT, SLV, AIR, DSP or LPE. -/
def mirroredReg (d : RegDesc) : Bool :=
  (match Blk.at' d.addr with
    | some b => [Blk.CLS, Blk.AUT, Blk.SLV, Blk.AIR, Blk.DSP, Blk.LPE].contains b
    | none => false)
    && !ownRegs.contains d.addr && d.fields.any (fun fd => fd.access == .rw || fd.access == .rwl || fd.access == .w1c)

/-- A block's EN bit, if it has one: the base blocks take every write (R36). -/
def blockEn (s : State) (b : Nat) : Bool := Blk.image.contains b && s.blkOn b

/-- The EN that an RWL field of entry `b` waits on: a ring's own (R334), a rule's and a forward entry's own likewise (log 23), else the
block's (R4). -/
def State.rwlLocked (s : State) (d : RegDesc) (b : Nat) : Bool :=
  if d.addr = R.HST_RING_BASE then s.ringEn b
  else if d.addr = R.ETH_RULE_MATCH then s.flagB b F.ETH_RULE_ACT_EN
  else if d.addr = R.ETH_FWD_TPL then s.flagB b F.ETH_FWD_CFG_EN
  else blockEn s ((Blk.at' d.addr).getD 0)

/-- A write of `w` to the `n`-th register of a run, on entry `b`, where nothing else keeps it out: its fields by access
code; ignored whole where it puts a field out of range while EN = 1, or in a base block, whose rules state no other
treatment (log 23). Answers whether it was accepted. -/
def State.regStore (s : State) (d : RegDesc) (n b : Nat) (w : Word) : State × Bool :=
  let blk := (Blk.at' d.addr).getD 0
  let on := blockEn s blk
  let fs := d.fieldsAt n
  let locked := s.rwlLocked d b
  let s' := fs.foldl (fun s fd => s.fieldWrite b locked w fd) s
  let touched (fd : FieldDesc) : Bool := fd.access == .rw || (fd.access == .rwl && !locked)
  if (on || !Blk.image.contains blk) && fs.any (fun fd => touched fd && !s'.inRange b fd) then (s, false) else (s', true)

/-- A host write to a register with the rules of the pair (R311): a standby ignores and counts writes to mirrored registers,
an active module sends every accepted one. `AUT_FSTOP.HOST` is each module's own. -/
def State.regWrite (s : State) (d : RegDesc) (n b : Nat) (w : Word) : State × Bool :=
  if mirroredReg d then
    if s.isStandby then
      let s := s.bump (F.AHN_CNT_COUNT.nth 2)
      if d.addr = R.AUT_FSTOP then (s.setFld F.AUT_FSTOP_HOST (F.AUT_FSTOP_HOST.get w), true) else (s, false)
    else
      let r := s.regStore d n b w
      if r.2 then (r.1.mirror (d.addr + 4 * n) (.regWrite (d.addr + 4 * n) b (r.1.regB b (d.addr + 4 * n)).toNat), true) else r
  else s.regStore d n b w

/-- The same, for the register at offset `a` with its entry selected by its index register. -/
def State.hostReg (s : State) (a : Nat) (w : Word) : State × Bool :=
  match Regs.descAt a with
  | none => (s, false)
  | some d => s.regWrite d ((a - d.addr) / 4) (s.bankOf d) w

/-- Then `f`, where the write was accepted. -/
def thenIf (r : State × Bool) (f : State → State) : State := if r.2 then f r.1 else r.1

end Sys2Proof.Machine
end

