-- ==== Sys2Proof/Machine/Radio.lean ====
section
/-!
DEFINITION. What the radio gives other blocks (R207–R223, R257–R259): radio head links, modems and their channels, BI timing,
airtime, what a frame is on air, its CMAC, the duty window, channel access, and STOP floods. Machine/RadioHeads.lean and
Machine/Air.lean have the commands.
-/

namespace Sys2Proof.Machine

/-! ## Links and modems (R209, R257–R260) -/

/-- A radio head link, and setting it. -/
def State.rhLink (s : State) (l : Nat) : RhlLink := s.rhl.links.get RhlLink.idle l
def State.setRhLink (s : State) (l : Nat) (v : RhlLink) : State :=
  { s with rhl := { s.rhl with links := s.rhl.links.set RhlLink.idle l v } }

/-- The link states of R260. -/
abbrev Lk.DOWN : Nat := 0
abbrev Lk.ALIGN : Nat := 1
abbrev Lk.CAPS : Nat := 2
abbrev Lk.DELAY : Nat := 3
abbrev Lk.CONFIG : Nat := 4
abbrev Lk.UP : Nat := 5

/-- A link is UP. -/
def State.rhUp (s : State) (l : Nat) : Bool := s.blkOn Blk.RHL && (s.rhLink l).state == Lk.UP

/-- The HEADS section in force. -/
def State.heads (s : State) : List Byte :=
  match s.sim.applied with
  | some img => imgSec img Sec.HEADS Blk.RHL
  | none => []

/-- The link and stream modem `m` is mapped to (R258). -/
def State.modemLink (s : State) (m : Nat) : Nat := Bytes.at' s.heads (64 + 4 * m) 1
def State.modemStream (s : State) (m : Nat) : Nat := Bytes.at' s.heads (65 + 4 * m) 1

/-- The kinds of R209. -/
abbrev Phy.NARROW : Nat := 1
abbrev Phy.WIDE : Nat := 2

/-- KIND, BW and INDEX of a modem. -/
def State.modemKind (s : State) (m : Nat) : Nat := Bytes.at' (s.modemRow m) 0 1
def State.modemBw (s : State) (m : Nat) : Nat := Bytes.at' (s.modemRow m) 1 1
def State.modemIndex (s : State) (m : Nat) : Nat := Bytes.at' (s.modemRow m) 2 1

/-- The modems of a kind. -/
def State.modemsOf (s : State) (kind : Nat) : List Nat := (List.range 12).filter fun m => s.modemKind m == kind

/-- A modem is in service: not off, on a link that is UP, and not out of service after a failed test (R261, R364). -/
def State.modemUp (s : State) (m : Nat) : Bool :=
  s.modemKind m != 0 && s.rhUp (s.modemLink m) && !s.pwr.outOfService.contains (TestUnit.modem, m)

/-- The control modems in service. -/
def State.controlUp (s : State) : List Nat := (s.modemsOf Phy.NARROW).filter s.modemUp

/-- The modem of a wide channel, and of a control channel. -/
def State.wideModem (s : State) (w : Nat) : Option Nat := (s.modemsOf Phy.WIDE).find? fun m => s.modemIndex m == w
def State.controlModem (s : State) (c : Nat) : Option Nat := (s.modemsOf Phy.NARROW).find? fun m => s.modemIndex m == c

/-! ## Air timing (R210) -/

/-- ns of a beacon interval. -/
abbrev nsPerBi : Nat := 50000000

/-- The BI counted on device time, its index in the superframe, and the time since it began. Superframes begin at whole
seconds of TAI, because the site epoch does (R21). -/
def State.biCount (s : State) : Nat := s.tai / nsPerBi
def State.biIndex (s : State) : Nat := s.biCount % 20
def State.biPos (s : State) : Nat := s.tai % nsPerBi

/-- The clause time of a device time, whether that is valid or not (R210); 0 before the site epoch. -/
def State.devClauseAt (s : State) (tai : Nat) : Nat :=
  match s.sim.applied with
  | some img => tai / nsPerMs - imgEpoch img * 1000
  | none => 0
def State.devClause (s : State) : Nat := s.devClauseAt s.tai

/-- The BI a clause time lies in, counted on device time. -/
def State.biOfClause (s : State) (t : Nat) : Nat :=
  match s.sim.applied with
  | some img => t / 50 + imgEpoch img * 20
  | none => t / 50

/-! ## Airtime (R207, R208) -/

/-- Bytes of the CRC of a PSDU. -/
def crcLen (wide : Bool) : Nat := if wide then 4 else 2

/-- Bytes of a frame's PSDU on a narrow or a wide channel: MAC header, payload, CMAC, CRC. -/
def AirFrame.psdu (f : AirFrame) (wide : Bool) : Nat := (if f.dst.isSome then 12 else 10) + f.payload.length + 8 + crcLen wide

/-- The PSDU lengths a layer's header can announce. -/
def psduFits (wide : Bool) (len : Nat) : Bool := if wide then decide (14 ≤ len ∧ len ≤ 4095) else decide (12 ≤ len ∧ len ≤ 320)

/-- Data bits per symbol of an MCS. -/
def mcsBits (mcs : Nat) : Nat := [24, 36, 48, 72, 96].getD mcs 24

/-- The airtime of an N-PHY frame, and of a W-PHY frame, of `len` bytes, ns. -/
def narrowNs (bw len : Nat) : Nat := (10 + len) * 8 * (if bw = 1 then 5000 else 10000)
def wideNs (bw mcs len : Nat) : Nat :=
  if bw = 1 then 20000 + 4000 * ceilDiv (22 + 8 * len) (mcsBits mcs) else 40000 + 8000 * ceilDiv (22 + 8 * len) (mcsBits mcs)

/-- The airtime of a frame on modem `m` at `mcs`, ns. -/
def State.frameNs (s : State) (m mcs : Nat) (f : AirFrame) : Nat :=
  if s.modemKind m = Phy.WIDE then wideNs (s.modemBw m) mcs (f.psdu true) else narrowNs (s.modemBw m) (f.psdu false)

/-- The airtime of a beacon at the present COVER on a control modem, ns (R217). -/
def State.beaconNs (s : State) (m : Nat) : Nat := narrowNs (s.modemBw m) (39 + 8 * s.fld F.AUT_LIFE_COVER)

/-! ## What is on air (R207, R208) -/

/-- One bit, and one byte, of the CRC-16 of N-PHY: polynomial 0x1021, the highest bit of each byte first (log 81). -/
def crc16Bit (c : Nat) : Nat := if c.testBit 15 then Nat.xor (2 * c) 0x11021 else 2 * c
def crc16Byte (c : Nat) (b : Byte) : Nat :=
  crc16Bit (crc16Bit (crc16Bit (crc16Bit (crc16Bit (crc16Bit (crc16Bit (crc16Bit (Nat.xor c (b.toNat * 256)))))))))

/-- The CRC bytes of a PSDU: CRC-16 from 0xFFFF on N-PHY, CRC-32 on W-PHY. -/
def psduCrc (wide : Bool) (bs : List Byte) : List Byte :=
  if wide then Bytes.ofNat 4 (crc32 bs) else Bytes.ofNat 2 (bs.foldl crc16Byte 0xFFFF)

/-- The PN9 register, x⁹ + x⁵ + 1, `n` bits on. -/
def pn9 : (n r : Nat) → Nat
  | 0, r => r
  | n + 1, r => pn9 n (r / 2 + 256 * (Nat.xor r (r / 32) % 2))

/-- A PSDU whitened from register `r`. -/
def whiten : (r : Nat) → List Byte → List Byte
  | _, [] => []
  | r, b :: bs => (b ^^^ BitVec.ofNat 8 r) :: whiten (pn9 8 r) bs

/-- An N-PHY frame: preamble, sync word, PHY header, whitened PSDU. -/
def narrowBytes (psdu : List Byte) : List Byte :=
  Bytes.ofNat 4 0x55555555 ++ Bytes.ofNat 4 0x9D2C4E17 ++ Bytes.ofNat 2 (psdu.length % 512) ++ whiten 0x1FF psdu

/-- Whether a number has an odd count of bits among its lowest `n`. -/
def parityOf (n v : Nat) : Bool := ((List.range n).filter fun i => v.testBit i).length % 2 == 1

/-- What a modem of a kind sends for a PSDU. The state W-PHY's scrambler starts from is not stated: it is a free value. -/
def airSignal (wide : Bool) (mcs seed : Nat) (psdu : List Byte) : AirSignal :=
  if wide then .wide mcs psdu.length (parityOf 15 (mcs % 8 + 8 * psdu.length)) (seed % 128) psdu else .narrow (narrowBytes psdu)

/-! ## The duty window (R223) -/

/-- Airtime `ns` counted for modem `m` in the present second. -/
def State.dutyAdd (s : State) (m ns : Nat) : State :=
  let sec := s.tai / nsPerSec
  let l := s.air.duty.get [] m
  let l := match l with
    | (t, n) :: rest => if t = sec then (t, n + ns) :: rest else (sec, ns) :: l
    | [] => [(sec, ns)]
  { s with air := { s.air with duty := s.air.duty.set [] m l } }

/-- The airtime of modem `m` in the last 3,600 s, ns. -/
def State.dutyUsed (s : State) (m : Nat) : Nat :=
  (((s.air.duty.get [] m).filter fun e => decide (s.tai / nsPerSec < e.1 + 3600)).map Prod.snd).sum

/-- The modem's used share is at or above its limit. -/
def State.dutyFull (s : State) (m : Nat) : Bool :=
  s.fldB m F.AIR_MOD_DUTY_DUTY_PM != 0 && decide (s.fldB m F.AIR_MOD_DUTY_DUTY_PM * 3600000000 ≤ s.dutyUsed m)

/-- A frame is deferred: counted, with event 143 at most once per minute. -/
def State.dutyDefer (s : State) : State :=
  let s := s.bump (F.AIR_CNT_COUNT.nth 7)
  if dueSince s s.air.lastDefer (60 * nsPerSec) then
    ({ s with air := { s.air with lastDefer := some s.mono } }).raise Ev.AIR_DUTY_DEFER 0
  else s

/-! ## Sending -/

/-- AIR transmits (R224). -/
def State.airTransmits (s : State) : Bool := s.blkOn Blk.AIR && s.isActive

/-- The module's air address. -/
def State.airAddr (s : State) : Nat := 0xFF00 + s.pins.slotId

/-- A frame of the module; HOPS and TREF are set as it starts. -/
def State.airFrame (s : State) (ftype : Nat) (dst : Option Nat) (fseq ttl : Nat) (payload : List Byte) : AirFrame :=
  { ftype, pairId := s.fld F.AIR_CFG_PAIR_ID, src := s.airAddr, dst, fseq, ttl, bi := 0, tref := 0, relayed := false, late := false, more := false,
    payload }

/-- A frame that starts at device time `at'`. -/
def AirFrame.stamp (f : AirFrame) (at' : Nat) : AirFrame := { f with bi := at' / nsPerBi % 20, tref := at' % nsPerBi / 5000 }

/-- The frame counter's next value. -/
def State.nextFctr (s : State) : Nat × State :=
  let n := (s.air.fctr + 1) % 65536
  (n, { s with air := { s.air with fctr := n } })

/-- Frame types (R214). -/
abbrev Ft.BEACON : Nat := 0x1
abbrev Ft.STOP : Nat := 0x2
abbrev Ft.STOP_REQ : Nat := 0x3
abbrev Ft.JOIN_REQ : Nat := 0x4
abbrev Ft.JOIN_RSP : Nat := 0x5
abbrev Ft.POLL : Nat := 0x6
abbrev Ft.POLL_RSP : Nat := 0x7
abbrev Ft.GRANT : Nat := 0x8
abbrev Ft.OBS : Nat := 0x9
abbrev Ft.AUTH : Nat := 0xA
abbrev Ft.RPT : Nat := 0xB
abbrev Ft.DATA_DN : Nat := 0xC
abbrev Ft.DATA_UP : Nat := 0xD

/-! ## Streams and the transmit gate (R257–R259) -/

/-- The entry of a stream in the HEADS section. -/
def streamRow (heads : List Byte) (link stream : Nat) : List Byte := Bytes.slice heads (8 * (4 * link + stream)) 8

/-- RATE, PORT and CENTRE_KHZ of a stream. -/
def State.strRate (s : State) (link stream : Nat) : Nat := Bytes.at' (streamRow s.heads link stream) 0 1
def State.strPort (s : State) (link stream : Nat) : Nat := Bytes.at' (streamRow s.heads link stream) 1 1
def State.strCentre (s : State) (link stream : Nat) : Nat := Bytes.at' (streamRow s.heads link stream) 4 4

/-- The streams of a link that run. -/
def State.strUsed (s : State) (link : Nat) : List Nat := (List.range 4).filter fun n => s.strRate link n != 0

/-- The modems, not off, mapped to a stream. -/
def State.strModems (s : State) (link stream : Nat) : List Nat :=
  (List.range 12).filter fun m => s.modemKind m != 0 && s.modemLink m == link && s.modemStream m == stream

/-- The key of a stream's registers. -/
def strBank (link stream : Nat) : Nat := link + 2 * stream

/-- `RHL_TXEN` permits a stream. -/
def State.strPermit (s : State) (link stream : Nat) : Bool :=
  bitOf (if link = 0 then s.fld F.RHL_TXEN_MASK0 else s.fld F.RHL_TXEN_MASK1) stream

/-- GATE bits 3:0 the module sends on a link. -/
def State.gate (s : State) (link : Nat) : Nat :=
  ((List.range 4).map fun n =>
    bitAt (s.rhUp link && s.strPermit link n && s.airTransmits && !(s.strModems link n).isEmpty) n).sum

/-! ## Blocks of a radio head link (R251–R253) -/

/-- The block types. -/
abbrev BlockType.IQ : Nat := 1
abbrev BlockType.CTRL : Nat := 2
abbrev BlockType.STATUS : Nat := 3
abbrev BlockType.TIME : Nat := 4

/-- The characters K27.7, which starts a header word, and K28.5, which starts an idle word on each lane. -/
abbrev kHeader : Nat := 0xFB
abbrev kIdle : Nat := 0xBC

/-- A block: header word, STAMP, payload, CRC-32 over all but the first byte. -/
def headBlock (type stream stamp : Nat) (payload : List Byte) : List Byte :=
  let body := Bytes.ofNat 1 (type % 16 + 16 * (stream % 4)) ++ Bytes.ofNat 2 (payload.length / 4) ++ Bytes.ofNat 4 stamp ++ payload
  Bytes.ofNat 1 kHeader ++ body ++ Bytes.ofNat 4 (crc32 body)

/-- TYPE, STREAM, STAMP and payload of a block whose form and CRC hold. -/
def readBlock (b : List Byte) : Option (Nat × Nat × Nat × List Byte) :=
  let h := Bytes.at' b 1 1
  let n := Bytes.at' b 2 2
  let p := Bytes.slice b 8 (4 * n)
  if 1 ≤ n ∧ n ≤ 256 ∧ b = headBlock (h % 16) (h / 16) (Bytes.at' b 4 4) p then some (h % 16, h / 16, Bytes.at' b 4 4, p) else none

/-- A block from its words as they arrive: header, STAMP, payload, CRC (R252). -/
def blockOf (header stamp : Nat) (payload : List Byte) (crc : Nat) : List Byte :=
  Bytes.ofNat 4 header ++ Bytes.ofNat 4 stamp ++ payload ++ Bytes.ofNat 4 crc

/-- The samples of an IQ payload, I and Q signed. -/
def samplesOf (p : List Byte) : List (Int × Int) :=
  (List.range (p.length / 4)).map fun i => (signedOf 16 (Bytes.at' p (4 * i) 2), signedOf 16 (Bytes.at' p (4 * i + 2) 2))

/-- The power of a sample. -/
def samplePower (x : Int × Int) : Nat := x.1.natAbs ^ 2 + x.2.natAbs ^ 2

/-- A sample the module sends: −32,768 is never sent. -/
def sampleBytes (x : Int × Int) : List Byte :=
  Bytes.ofNat 2 (encodeSigned 16 (clampInt (-32767) 32767 x.1)) ++ Bytes.ofNat 2 (encodeSigned 16 (clampInt (-32767) 32767 x.2))

/-- The idle word before a block: K28.5 and GATE on each lane; GATE carries its complement in bits 7:4. -/
def State.idleWord (s : State) (link : Nat) : List Byte :=
  let g := Bytes.ofNat 1 (s.gate link + 16 * (15 - s.gate link))
  Bytes.ofNat 1 kIdle ++ g ++ Bytes.ofNat 1 kIdle ++ g

/-- Blocks leave on a link, each after an idle word. -/
def State.headSend (s : State) (link : Nat) (blocks : List (List Byte)) : State :=
  s.emit (.head link (blocks.map fun b => s.idleWord link ++ b))

/-- The IQ blocks of a signal that modem `m` sends at device time `at'` for `ns`: samples at the stream's rate, at most 256 to a block, whose STAMP
is the time its first sample leaves the antenna port. What the channelizer makes of the signal is a free value (log 84). -/
def State.iqBlocks (s : State) (m at' ns : Nat) : List (List Byte) :=
  let l := s.modemLink m
  let n := s.modemStream m
  let rate := streamRate (s.strRate l n)
  let total := ceilDiv (ns * rate) 1000000
  (List.range (ceilDiv total 256)).map fun k =>
    headBlock BlockType.IQ n ((at' + k * 256 * 1000000 / rate) % 2 ^ 32)
      ((List.range (min 256 (total - 256 * k))).flatMap fun i => sampleBytes (Config.txSample s.freeCtr (256 * k + i)))

/-! ## Machines' addresses and keys (R214, R225) -/

/-- The registered machine with an air address. -/
def State.miOfAddr (s : State) (a : Nat) : Option Nat :=
  (List.range 2048).find? fun mi => s.flagB mi F.AIR_MACH_REG_VALID && s.fldB mi F.AIR_MACH_REG_ADDR == a

/-- The serial in a registry entry. -/
def State.airSerial (s : State) (mi : Nat) : Nat := s.fldB mi F.AIR_MACH_SER_LO_SER_LO + 2 ^ 32 * s.fldB mi F.AIR_MACH_SER_HI_SER_HI

/-- The link key of the machine at an address. -/
def State.linkKeyAt (s : State) (a : Nat) : Option (List Byte) := (s.miOfAddr a).bind fun mi => s.machLinkKey (s.airSerial mi)

/-- The CMAC key of a frame (R214). JOIN_REQ and JOIN_RSP carry the machine's serial first. -/
def State.airKey (s : State) (f : AirFrame) : Option (List Byte) :=
  if f.ftype = Ft.STOP_REQ then s.senderKey f.src
  else if f.ftype = Ft.JOIN_REQ || f.ftype = Ft.JOIN_RSP then s.joinKey (Bytes.at' f.payload 0 8)
  else if f.ftype = Ft.POLL || f.ftype = Ft.OBS || f.ftype = Ft.RPT || f.ftype = Ft.DATA_UP then s.linkKeyAt f.src
  else if f.ftype = Ft.POLL_RSP || f.ftype = Ft.DATA_DN then f.dst.bind s.linkKeyAt
  else s.beaconKey

/-! ## The CMAC (R215, R238) -/

/-- A flooded type. -/
def AirFrame.flooded (f : AirFrame) : Bool := f.ftype == Ft.STOP || f.ftype == Ft.STOP_REQ

/-- The SEQ of the slot that opened a BI: counted from the last one known; where none is, the highest SEQ known (log 82). -/
def State.biSeq (s : State) (bi : Nat) : Nat :=
  match s.air.seqRef with
  | some (b, q) => ((q : Int) + bi - b).toNat % 2 ^ 48
  | none => s.ahn.seqKnown

/-- BISEQ of a frame that starts in BI `bi`: 0 where it is flooded, a beacon's own SEQ, otherwise the SEQ of the BI's slot. -/
def State.frameSeq (s : State) (f : AirFrame) (bi : Nat) : Nat :=
  if f.flooded then 0 else if f.ftype = Ft.BEACON then Bytes.at' f.payload 5 6 else s.biSeq bi

/-- The frame as the CMAC takes it: RELAYED, HOPS and TREF 0 where relays may change them. -/
def AirFrame.macBody (f : AirFrame) (relays : Bool) : List Byte :=
  if relays then { f with relayed := false, ttl := 0, bi := 0, tref := 0 }.body else f.body

/-- The CMAC of a frame that starts in BI `bi`. -/
def State.airMac (s : State) (f : AirFrame) (relays : Bool) (bi : Nat) (key : List Byte) : List Byte :=
  cmac64 key (Bytes.ofNat 6 (s.frameSeq f bi) ++ f.macBody relays)

/-- A frame of the module that relays may change: a flood, or a control-channel frame to a machine whose parent is a relay. -/
def State.relayable (s : State) (m : Nat) (f : AirFrame) : Bool :=
  f.flooded || ((f.ftype == Ft.POLL_RSP || f.ftype == Ft.DATA_DN) && s.modemKind m != Phy.WIDE
    && match f.dst.bind s.miOfAddr with
      | some mi => s.fldB mi F.AIR_MACH_PARENT_PARENT != 0xFFFF
      | none => false)

/-! ## Going on air -/

/-- The next 5 µs boundary of BI time. -/
def align5 (t : Nat) : Nat := ceilDiv t 5000 * 5000

/-- The device time at which modem `m` can start a frame, `listen` ns from now: after its last frame, and on a wide channel 16 µs after that. -/
def State.airStart (s : State) (m listen : Nat) : Nat :=
  let gap := if s.modemKind m = Phy.WIDE then 16000 else 0
  align5 (max (s.tai + listen) (s.tai + (s.air.txEnd.get 0 m + gap - s.mono)))

/-- A frame goes on air on modem `m` at device time `at'`, where AIR transmits, the modem is in service and the key of its CMAC is present
(log 82). STOP frames sent are counted. -/
def State.airPut (s : State) (m mcs at' : Nat) (f : AirFrame) : State :=
  match s.airKey f with
  | none => s
  | some k =>
    if !s.airTransmits || !s.modemUp m then s
    else
      let wide := s.modemKind m == Phy.WIDE
      let f := f.stamp at'
      let p := f.body ++ s.airMac f (s.relayable m f) (at' / nsPerBi) k
      let ns := s.frameNs m mcs f
      let iq := s.iqBlocks m at' ns
      let s := ((s.draw.2.emit (.air m f (airSignal wide mcs s.draw.1 (p ++ psduCrc wide p)))).headSend (s.modemLink m) iq).dutyAdd m ns
      let s := { s with air := { s.air with txEnd := s.air.txEnd.set 0 m (s.mono + (at' - s.tai) + ns) } }
      if f.ftype = Ft.STOP then s.bump (F.AIR_CNT_COUNT.nth 2) else s

/-! ## The quiet window (R211) -/

/-- TB + 1 ms on a control modem: the airtime of the BI's beacon, then 1 ms. -/
def State.quietNs (s : State) (m : Nat) : Nat :=
  narrowNs (s.modemBw m) (39 + 8 * s.air.cover.getD (s.fld F.AUT_LIFE_COVER)) + nsPerMs

/-- A frame of `ns` on modem `m` that starts at `at'` keeps the quiet window. -/
def State.mayStart (s : State) (m at' ns : Nat) : Bool :=
  decide (s.quietNs m ≤ at' % nsPerBi) && decide (at' % nsPerBi + ns + 2 * nsPerMs ≤ nsPerBi)

/-- The local time at which the quiet window a frame met ends. -/
def State.quietOver (s : State) (m at' : Nat) : Nat :=
  let open' := if at' % nsPerBi < s.quietNs m then at' / nsPerBi else at' / nsPerBi + 1
  s.mono + (open' * nsPerBi + s.quietNs m - s.tai)

/-! ## Normal frames (R221) -/

/-- The listening time before a frame, and a unit of backoff, ns. -/
abbrev lbtListenNs : Nat := 160000
abbrev backoffNs : Nat := 320000

/-- A frame waits behind, or before, the others. -/
def State.airWait (s : State) (w : AirWait) : State := { s with air := { s.air with waiting := s.air.waiting ++ [w] } }
def State.airHold (s : State) (w : AirWait) : State := { s with air := { s.air with waiting := w :: s.air.waiting } }

/-- The frames of modem `m` that wait, of one kind of access. -/
def State.airQueue (s : State) (m : Nat) (prio : Bool) : List AirWait := s.air.waiting.filter fun w => w.modem == m && w.prio == prio

/-- A busy listen of a normal frame: the fifth drops it; another draws a backoff, r uniform in 0 to 2^BE − 1, and raises BE. -/
def State.airBusy (s : State) (w : AirWait) : State :=
  if 5 ≤ w.busy + 1 then s
  else
    let (v, s) := s.draw
    s.airHold { w with busy := w.busy + 1, be := min (w.be + 1) (s.fld F.AIR_LBT_BE_MAX),
                       until' := s.mono + lbtListenNs + v % 2 ^ w.be * backoffNs }

/-- A normal frame's turn, `busy` what its listen finds: deferred at the duty limit, waiting where it would meet the quiet window, and
otherwise sent or backing off. -/
def State.airTurn (s : State) (w : AirWait) (busy : Bool) : State :=
  let at' := s.airStart w.modem lbtListenNs
  if s.dutyFull w.modem then (if w.deferred then s else s.dutyDefer).airHold { w with deferred := true }
  else if !s.mayStart w.modem at' (s.frameNs w.modem 0 w.frame) then s.airHold { w with until' := s.quietOver w.modem at' }
  else if busy then s.airBusy w
  else s.airPut w.modem 0 at' w.frame

/-- A normal frame on control modem `m`: behind those that wait for that channel, or it listens at once; what it finds is a free value. -/
def State.airNormal (s : State) (m : Nat) (f : AirFrame) : State :=
  let w : AirWait := ⟨m, f, false, 0, s.fld F.AIR_LBT_BE_MIN, s.mono, s.mono, false⟩
  if (s.airQueue m false).isEmpty then
    let (v, s) := s.draw
    s.airTurn w (v % 2 == 1)
  else s.airWait w

/-! ## Priority frames (R222) -/

/-- A priority frame on control modem `m`: in the quiet window it waits for its end; otherwise it listens, which finds the channel busy or idle,
a free value, and waits where it is busy. -/
def State.airPriority (s : State) (m : Nat) (f : AirFrame) : State :=
  let at' := s.airStart m lbtListenNs
  if s.mayStart m at' (s.frameNs m 0 f) then
    let (v, s) := s.draw
    if v % 2 = 0 then s.airPut m 0 at' f else s.airWait ⟨m, f, true, 1, 0, s.mono, s.mono, false⟩
  else
    let t := s.quietOver m at'
    s.airWait ⟨m, f, true, 0, 0, t, t, false⟩

/-! ## STOP floods (R219) -/

/-- The flood sequence's next value. -/
def State.nextFseq (s : State) : Nat × State :=
  let n := (s.air.fseq + 1) % 65536
  (n, { s with air := { s.air with fseq := n } })

/-- A STOP frame on one control channel: one that could not end before the next slot is not started. -/
def State.stopOn (s : State) (f : AirFrame) (m : Nat) : State :=
  let at' := s.airStart m lbtListenNs
  if s.quietNs m ≤ at' % nsPerBi && !s.mayStart m at' (s.frameNs m 0 f) then s else s.airPriority m f

/-- A new STOP frame: its flood sequence, TTL, and the 16 bytes of R100. -/
def State.stopFrame (s : State) (tense cause seq : Nat) : AirFrame × State :=
  let (n, s) := s.nextFseq
  (s.airFrame Ft.STOP none n (s.fld F.AIR_FLOOD_TTL) (stopPayload tense cause seq s.devClause), s)

/-- A STOP flood on every control channel, with event 138, where AIR transmits. -/
def State.stopFlood (s : State) (tense cause seq : Nat) : AirFrame × State :=
  let r := s.stopFrame tense cause seq
  (r.1, if s.airTransmits then (s.controlUp.foldl (fun s m => s.stopOn r.1 m) r.2).raise Ev.AIR_STOP_SENT 0 else s)

/-- A RUN beacon on air is cut on every control channel (R99). -/
def State.airTruncate (s : State) : State := s.controlUp.foldl (fun s m => s.emit (.airTruncated m)) s

end Sys2Proof.Machine
end

