-- ==== Sys2Proof/Machine/Pair.lean ====
section
/-!
DEFINITION. What the pair gives other blocks (R302–R308, R315): the role lines, FAIL_N, heartbeats, and giving up the role.
Machine/Partner.lean has the commands of AHN.
-/

namespace Sys2Proof.Machine

/-- Change AHN's state. -/
def State.setAhn (s : State) (f : AhnSt → AhnSt) : State := { s with ahn := f s.ahn }

/-! ## Lines (R303, R305) -/

/-- The removal-ready state (R377). -/
def State.removalReady (s : State) : Bool := s.fld F.HPG_STATUS_STATE == 2

/-- Whether R305 has FAIL_N asserted. -/
def State.failWanted (s : State) : Bool :=
  !s.running || !s.warden.selfTest || s.warden.fault != 0 || s.flag F.CLS_STATUS_MEM_FAULT || !s.pins.p12v
    || s.ahn.role == .failed || (s.removalReady && !s.hpg.lone)

/-- FAIL_N follows R305; a change shows on the pin. -/
def State.failUpdate (s : State) : State :=
  if s.failWanted == s.ahn.failN then s
  else (s.setAhn fun a => { a with failN := s.failWanted }).emit (.pin .failN (!s.failWanted))

/-- Drive ROLE_OUT_N low, or release it. -/
def State.driveRole (s : State) (low : Bool) : State :=
  if s.ahn.roleOut == low then s else (s.setAhn fun a => { a with roleOut := low }).emit (.pin .roleOutN (!low))

/-- The role level the Warden sees (R305). -/
def State.roleLevel (s : State) : Bool := s.ahn.roleOut && !s.pins.roleInLow

/-! ## Heartbeats (R308) -/

/-- PAIR_TAG of the applied image. -/
def State.pairTag (s : State) : Nat :=
  match s.sim.applied with
  | some img => imgPairTag img
  | none => 0

/-- HEALTH. -/
def State.health (s : State) : Nat :=
  bitAt (s.warden.fault == 0) 0 + bitAt (!s.flag F.CLS_STATUS_MEM_FAULT) 1 + bitAt s.timeValid 2
    + bitAt (s.fld F.GRX_STATUS_REF_ANT != 0) 3

/-- The heartbeat the module would send now. -/
def State.heartbeat (s : State) : Heartbeat :=
  { slot := s.pins.slotId, role := s.ahn.role, release := s.ahn.relCause != 0, swapReq := s.ahn.swapReq != 0, swapTest := s.ahn.swapTest,
    swapAck := s.ahn.swapAck, swapNak := s.ahn.swapNak,
    fault := s.warden.fault != 0 || s.flag F.CLS_STATUS_MEM_FAULT || s.ahn.role == .failed,
    pfw := !s.pins.p12v, eject := s.hpg.ejectAt.isSome, readyFlag := s.ahn.role == .ready, health := s.health,
    pairTag := s.pairTag, pairId := s.fld F.AIR_CFG_PAIR_ID, seq := if s.isActive then s.aut.lastSeq else s.ahn.seqKnown,
    missRun := if s.isActive then 0 else s.fld F.AIR_MON_MISS_RUN, ctrlUp := s.controlUp.length, mseqTx := s.ahn.mseqTx,
    mseqAck := s.ahn.mseqAck, stamp := s.stamp, cause := if s.ahn.relCause != 0 then s.ahn.relCause else s.ahn.swapReq }

/-- The 40 bytes before the CMAC. -/
def Heartbeat.bytes (h : Heartbeat) : List Byte :=
  [0x01#8] ++ Bytes.ofNat 1 (h.slot % 16 + 16 * h.role.toNat)
    ++ Bytes.ofNat 1 (bitAt h.release 0 + bitAt h.swapReq 1 + bitAt h.swapAck 2 + bitAt h.swapNak 3 + bitAt h.fault 4 + bitAt h.pfw 5
      + bitAt h.eject 6 + bitAt h.readyFlag 7)
    ++ Bytes.ofNat 1 h.health ++ Bytes.ofNat 2 h.pairTag ++ Bytes.ofNat 2 h.pairId ++ Bytes.ofNat 6 h.seq ++ Bytes.ofNat 1 h.missRun
    ++ Bytes.ofNat 1 h.ctrlUp ++ Bytes.ofNat 4 h.mseqTx ++ Bytes.ofNat 4 h.mseqAck ++ Bytes.ofNat 4 h.stamp ++ Bytes.ofNat 1 h.cause
    ++ List.replicate 11 0#8

/-- A message of the Ahnob link with its AES-CMAC-64 under the pair link key (R306); none without the key. -/
def State.linkSealed (s : State) (msg : List Byte) : Option (List Byte) := s.linkKey.map fun k => msg ++ cmac64 k msg

/-- The heartbeat a message of 48 bytes carries: none where its HTYPE or its CMAC fails. -/
def State.heartbeatOf (s : State) (msg : List Byte) (test : Bool) : Option Heartbeat :=
  let f (n : Nat) : Bool := bitOf (Bytes.at' msg 2 1) n
  if msg.length = 48 ∧ Bytes.at' msg 0 1 = 1 ∧ s.linkSealed (msg.take 40) = some msg then
    some { slot := Bytes.at' msg 1 1 % 16, role := roleOf (Bytes.at' msg 1 1 / 16 % 8), release := f 0, swapReq := f 1, swapTest := test,
           swapAck := f 2, swapNak := f 3, fault := f 4, pfw := f 5, eject := f 6, readyFlag := f 7, health := Bytes.at' msg 3 1,
           pairTag := Bytes.at' msg 4 2, pairId := Bytes.at' msg 6 2, seq := Bytes.at' msg 8 6, missRun := Bytes.at' msg 14 1,
           ctrlUp := Bytes.at' msg 15 1, mseqTx := Bytes.at' msg 16 4, mseqAck := Bytes.at' msg 20 4, stamp := Bytes.at' msg 24 4,
           cause := Bytes.at' msg 28 1 }
  else none

/-- Send a heartbeat, while AHN is enabled, the link up and the pair link key there. -/
def State.sendHeartbeat (s : State) : State :=
  match s.linkSealed s.heartbeat.bytes with
  | some msg => if s.blkOn Blk.AHN && s.ahn.linkUp then s.emit (.heartbeat msg s.heartbeat.swapTest) else s
  | none => s

/-! ## Giving up the role (R315) -/

/-- Since when a module that turns to role `r` holds a role, or none. -/
def State.roleTime (s : State) (r : Role) : Nat := if (s.ahn.role == .none) == (r == .none) then s.ahn.roleSince else s.mono

/-- The module leaves its role for `r`: ROLE_OUT_N is released, a claim abandoned, a swap over. -/
def State.leaveRole (s : State) (r : Role) : State :=
  (s.driveRole false).setAhn fun a => { a with role := r, roleSince := s.roleTime r, claim := none, swap := none, interlock := false }

/-- A release (R315): RELEASE in the heartbeats from this moment on, and ROLE_OUT_N released in the same moment; the role is
FAILED after a fault, otherwise NONE. -/
def State.release (s : State) (cause : Nat) : State :=
  ((s.setAhn fun a => { a with relCause := cause }).leaveRole (if cause = 3 then .failed else .none)).sendHeartbeat.failUpdate

end Sys2Proof.Machine
end

