-- ==== Sys2Proof/Machine/Authority.lean ====
section
/-!
DEFINITION. AUT (R81–R111): fleet states and their sources, re-arm, the Warden, token blocks, revocation and authority records.
-/

namespace Sys2Proof.Machine

/-- Change AUT's state. -/
def State.setAut (s : State) (f : AutSt → AutSt) : State := { s with aut := f s.aut }

/-! ## Fleet state (R94–R99) -/

/-- TENSE values (R83). -/
abbrev Tense.RUN : Nat := 1
abbrev Tense.COMMA : Nat := 2
abbrev Tense.FULL_STOP : Nat := 3

/-- A COMMA source is active (R98). -/
def State.commaActive (s : State) : Bool :=
  s.flag F.AUT_COMMA_HOST || s.aut.commaPin || s.aut.commaAge || s.aut.commaRearm || s.aut.commaTest

/-- A FULL STOP source other than START and AIR is active (R95, R97). -/
def State.fsLasting (s : State) : Bool :=
  s.pins.stopALow || s.pins.stopBLow || s.flag F.AUT_FSTOP_HOST || s.flag F.AUT_DISC_DISC

/-- The fleet state (R94); 0 while AUT is disabled. -/
def State.fleetState (s : State) : Nat :=
  if !s.blkOn Blk.AUT then 0 else if s.aut.fsLatch then Tense.FULL_STOP else if s.commaActive then Tense.COMMA else Tense.RUN

/-- What AUTSTATE carries (R309). -/
def State.autFleet (s : State) : AutFleet :=
  { fsLatch := s.aut.fsLatch, fcause := s.aut.fcause, ccause := s.aut.ccause, fsAir := s.aut.fsAir, fsStart := s.aut.fsStart,
    disc := s.flag F.AUT_DISC_DISC, commaPin := s.aut.commaPin, commaAge := s.aut.commaAge, commaRearm := s.aut.commaRearm,
    commaTest := s.aut.commaTest, rearmAt := s.aut.rearmAt, ageOkSince := s.aut.ageOkSince, rearmKey := s.aut.rearmKey,
    revs := (s.aut.mach.filter fun e => e.2.revoked != 0 || e.2.wait).map fun e => (e.1, e.2.revoked, e.2.wait) }

/-- Send AUTSTATE. -/
def State.autMirror (s : State) (snap : Bool := false) : State := s.mirror 0 (.autState s.autFleet) snap

/-- CAUSE of a fleet state (R83). -/
def State.tenseCause (s : State) (tense : Nat) : Nat :=
  if tense = Tense.FULL_STOP then s.aut.fcause else if tense = Tense.COMMA then s.aut.ccause else 0

/-- The path of a stop to the air (R99): reseal, truncate, stop frame; its repeats are due in the next two BIs. -/
def State.stopPath (s : State) (tense : Nat) : State :=
  let cause := s.tenseCause tense
  let resealed := match s.aut.sealed with
    | some b => if b.tense = Tense.RUN then some { b with tense := tense, cause := cause } else none
    | none => none
  let s := match resealed with
    | some b => ((s.setAut fun a => { a with sealed := some b }).setFld F.AUT_BEACON_TENSE tense).mirror 0 (.token b)
    | none => s
  let seq := match resealed with
    | some b => b.seq
    | none => s.aut.seq
  let cut := match s.aut.onAir with
    | some b => b.tense == Tense.RUN && decide (s.mono < s.aut.onAirUntil)
    | none => false
  let s := if cut then ((s.setAut fun a => { a with onAir := none }).setFld F.AUT_BEACON_TRUNC 1).airTruncate else s
  let (f, s) := s.stopFlood tense cause seq
  s.setAut fun a => { a with stopRepeats := a.stopRepeats ++ [⟨tense, cause, seq, s.biCount, s.biCount, f, s.controlUp⟩] }

/-- The fleet state follows its sources, with events 67 and 68, the stop path of an active module, and AUTSTATE. -/
def State.autSettle (s : State) : State :=
  let old := s.aut.tense
  let new := s.fleetState
  let s := s.setAut fun a => { a with tense := new, ccause := if new = Tense.RUN then 0 else a.ccause }
  let s := if new = Tense.COMMA && old != Tense.COMMA then s.raise Ev.AUT_COMMA_ON s.aut.ccause else s
  let s := if old = Tense.COMMA && new != Tense.COMMA then s.raise Ev.AUT_COMMA_OFF 0 else s
  let s := if s.isActive && old != 0 && decide (old < new) then s.stopPath new else s
  s.autMirror

/-- A FULL STOP source becomes active (R95, R107): it abandons a re-arm, and sets the latch with event 64. -/
def State.fsSource (s : State) (cause : Nat) : State :=
  let s := s.setAut fun a => { a with rearmVoid := a.rearmVoid || a.rearmKey.isSome, rearmKey := none }
  if !s.blkOn Blk.AUT || s.aut.fsLatch then s.autMirror
  else ((s.setAut fun a => { a with fsLatch := true, fcause := cause }).raise Ev.AUT_FULL_STOP cause).autSettle

/-- A COMMA source starts: `f` marks it; CAUSE names the first since the fleet left RUN (R83). -/
def State.commaSource (s : State) (cause : Nat) (f : AutSt → AutSt) : State :=
  (s.setAut fun a => { f a with ccause := if a.ccause = 0 then cause else a.ccause }).autSettle

/-- A COMMA source ends. -/
def State.commaEnd (s : State) (f : AutSt → AutSt) : State := (s.setAut f).autSettle

/-! ## Stop inputs (R95, R96) -/

/-- STOP_INPUT_ASSERT (R95): STOP_A_N, or STOP_B_N where `b`, has been low for 50 µs. -/
def execStopInputAssert (b : Bool) (s : State) : Result :=
  let s := { s with pins := if b then { s.pins with stopBLow := true } else { s.pins with stopALow := true } }
  whileRunning s fun s =>
    let s := s.setFld F.AUT_DISC_RELEASED 0
    if s.blkOn Blk.AUT then s.fsSource (if b then 0x02 else 0x01) else s

/-- STOP_INPUT_RELEASE (R96): the input is high again; the latch stays set. -/
def execStopInputRelease (b : Bool) (s : State) : Result :=
  let s := { s with pins := if b then { s.pins with stopBLow := false } else { s.pins with stopALow := false } }
  whileRunning s fun s => if s.blkOn Blk.AUT then s.autMirror else s

/-- STOP_DISCREPANCY (R96): the inputs have differed for 20 ms. R83 gives DISC no CAUSE: should it be the source that sets
the latch, CAUSE is a free value. -/
def execStopDiscrepancy (s : State) : Result :=
  whileOn s Blk.AUT fun s =>
    if s.pins.stopALow == s.pins.stopBLow then s
    else
      let s := ((s.setFld F.AUT_DISC_DISC 1).bump F.AUT_DISC_COUNT).raise Ev.AUT_STOP_DISC 0
      let (c, s) := s.draw
      s.fsSource (c % 256)

/-- STOP_INPUTS_RELEASED (R96): both inputs have been high for 100 ms. -/
def execStopInputsReleased (s : State) : Result :=
  whileOn s Blk.AUT fun s => if s.pins.stopALow || s.pins.stopBLow then s else s.setFld F.AUT_DISC_RELEASED 1

/-- A write to `AUT_DISC` (R96): DISC clears by a write of 1, ignored while RELEASED = 0; a standby ignores it (R311). -/
def State.discWrite (s : State) (w : Word) : State :=
  if s.isStandby then (s.hostReg R.AUT_DISC w).1
  else if !s.flag F.AUT_DISC_RELEASED then s
  else thenIf (s.hostReg R.AUT_DISC w) State.autMirror

/-- DISC_CLEAR (R96). -/
def execDiscClear (s : State) : Result := whileRunning s fun s => s.discWrite 1#32

/-- COMMA_PIN_ASSERT (R98): COMMA_N has been low for 50 µs. -/
def execCommaPinAssert (s : State) : Result :=
  let s := { s with pins := { s.pins with commaLow := true } }
  whileRunning s fun s =>
    if s.blkOn Blk.AUT && s.flag F.AUT_COMMA_PIN_EN && !s.aut.commaPin then
      s.commaSource 0x10 fun a => { a with commaPin := true } else s

/-- COMMA_PIN_RELEASE (R98): COMMA_N has been high for 50 µs; at basic level that ends PIN. -/
def execCommaPinRelease (s : State) : Result :=
  let s := { s with pins := { s.pins with commaLow := false } }
  whileRunning s fun s =>
    if s.blkOn Blk.AUT && !s.expert Blk.AUT && s.aut.commaPin then s.commaEnd fun a => { a with commaPin := false } else s

/-! ## Host sources (R95, R98) -/

/-- A write to `AUT_FSTOP`: HOST sets the latch while it is 1. -/
def State.fstopWrite (s : State) (w : Word) : State :=
  let was := s.flag F.AUT_FSTOP_HOST
  thenIf (s.hostReg R.AUT_FSTOP w) fun s =>
    if !s.blkOn Blk.AUT then s
    else if s.flag F.AUT_FSTOP_HOST && !was then s.fsSource 0x03 else s.autMirror

/-- HOST_FULL_STOP (R95): `AUT_FSTOP.HOST` is written. -/
def execHostFullStop (on : Bool) (s : State) : Result :=
  whileRunning s fun s => s.fstopWrite (F.AUT_FSTOP_HOST.put (s.reg R.AUT_FSTOP) (b2n on))

/-- The reference age is beyond the position-age limit (R98). -/
def State.refTooOld (s : State) : Bool :=
  match s.aut.refAt with
  | none => true
  | some t => decide (t + s.fld F.AUT_AGE_POS_AGE_MS * nsPerMs < s.mono)

/-- RESUME (R98): at expert level it ends PIN, AGE and REARM where their conditions have cleared. -/
def State.autResume (s : State) : State :=
  if !s.expert Blk.AUT then s
  else s.commaEnd fun a => { a with
    commaPin := a.commaPin && s.pins.commaLow
    commaAge := a.commaAge && s.refTooOld
    commaRearm := false }

/-- A write to `AUT_COMMA`: HOST, PIN_EN and REARM_HOLD_MS, and RESUME. -/
def State.commaWrite (s : State) (w : Word) : State :=
  thenIf (s.hostReg R.AUT_COMMA w) fun s =>
    if !s.blkOn Blk.AUT then s
    else
      let s := if s.flag F.AUT_COMMA_HOST then s.commaSource 0x11 id else s.autSettle
      let s := if s.flag F.AUT_COMMA_PIN_EN && s.pins.commaLow && !s.aut.commaPin then
        s.commaSource 0x10 fun a => { a with commaPin := true } else s
      if F.AUT_COMMA_RESUME.get w == 1 then s.autResume else s

/-- HOST_COMMA (R98): `AUT_COMMA.HOST` is written. -/
def execHostComma (on : Bool) (s : State) : Result :=
  whileRunning s fun s => s.commaWrite (F.AUT_COMMA_RESUME.put (F.AUT_COMMA_HOST.put (s.reg R.AUT_COMMA) (b2n on)) 0)

/-- COMMA_RESUME (R98): `AUT_COMMA.RESUME` is written with 1. -/
def execCommaResume (s : State) : Result :=
  whileRunning s fun s => s.commaWrite (F.AUT_COMMA_RESUME.put (s.reg R.AUT_COMMA) 1)

/-! ## Re-arm (R97, R98, R107) -/

/-- The re-arm keys. -/
abbrev rearmKey1 : Nat := 0xA5C3
abbrev rearmKey2 : Nat := 0x3C5A

/-- The second key: refused with event 66, or the latch clears with event 65 and REARM starts. -/
def State.rearm (s : State) (void : Bool) : State :=
  if void || s.fsLasting || s.warden.fault != 0 || !s.isActive || !s.timeValid then (s.raise Ev.AUT_REARM_REFUSED 0).autMirror
  else
    let s := s.setAut fun a => { a with fsLatch := false, fcause := 0, fsAir := false, fsStart := false, rearmAt := s.mono }
    (s.raise Ev.AUT_REARMED 0).commaSource 0x13 fun a => { a with commaRearm := true }

/-- A write of `key` to `AUT_REARM`. -/
def State.rearmWrite (s : State) (key : Nat) : State :=
  if !s.blkOn Blk.AUT then s
  else
    let first := match s.aut.rearmKey with
      | some t => decide (s.mono ≤ t + 1000 * nsPerMs)
      | none => false
    let void := s.aut.rearmVoid
    let s := s.setAut fun a => { a with rearmKey := none, rearmVoid := false }
    if key = rearmKey1 then (s.setAut fun a => { a with rearmKey := some s.mono }).autMirror
    else if key = rearmKey2 && (first || void) then s.rearm void
    else s.autMirror

/-- REARM_FIRST_KEY (R97). -/
def execRearmFirstKey (s : State) : Result := whileRunning s fun s => s.rearmWrite rearmKey1

/-- REARM_SECOND_KEY (R97). -/
def execRearmSecondKey (s : State) : Result := whileRunning s fun s => s.rearmWrite rearmKey2

/-- REARM_TIMEOUT (R97): 1,000 ms have passed since the first key. -/
def execRearmTimeout (s : State) : Result :=
  whileOn s Blk.AUT fun s =>
    match s.aut.rearmKey with
    | some t => if s.passed t (1000 * nsPerMs) then (s.setAut fun a => { a with rearmKey := none }).autMirror else s
    | none => s

/-- REARM_HOLD_END (R98): REARM_HOLD_MS after the re-arm, REARM ends at basic level. A standby's sources follow the mirror. -/
def execRearmHoldEnd (s : State) : Result :=
  whileOn s Blk.AUT fun s =>
    if s.aut.commaRearm && !s.expert Blk.AUT && !s.isStandby
        && s.passed s.aut.rearmAt (s.fld F.AUT_COMMA_REARM_HOLD_MS * nsPerMs) then
      s.commaEnd fun a => { a with commaRearm := false }
    else s

/-! ## Reference age (R98) -/

/-- The local clock at clause time `epoch` (ms). -/
def State.epochAt (s : State) (epoch : Nat) : Nat := s.mono - nsPerMs * (s.devClause - epoch)

/-- SLV reports reference epoch `epoch` usable: the age counts from the newest such epoch, whether AUT is enabled or not. -/
def State.autRefEpoch (s : State) (epoch : Nat) : State :=
  let was := s.refTooOld
  let s := s.setAut fun a => { a with refAt := some (max (a.refAt.getD 0) (s.epochAt epoch)) }
  s.setAut fun a => { a with ageOkSince := if s.refTooOld then none else if was || a.ageOkSince.isNone then some s.mono else a.ageOkSince }

/-- REFERENCE_AGE_EXCEEDED (R98). -/
def execReferenceAgeExceeded (s : State) : Result :=
  whileOn s Blk.AUT fun s =>
    if s.isStandby || !s.refTooOld then s
    else
      let s := s.setAut fun a => { a with ageOkSince := none }
      if s.aut.commaAge then s else s.commaSource 0x12 fun a => { a with commaAge := true }

/-- REFERENCE_AGE_RECOVERED (R98): the age has stayed below the limit for RESUME_MS; at basic level AGE ends. -/
def execReferenceAgeRecovered (s : State) : Result :=
  whileOn s Blk.AUT fun s =>
    match s.aut.ageOkSince with
    | some t =>
      if s.aut.commaAge && !s.isStandby && !s.expert Blk.AUT && !s.refTooOld
          && s.passed t (s.fld F.AUT_AGE_RESUME_MS * nsPerMs) then
        s.commaEnd fun a => { a with commaAge := false }
      else s
    | none => s

/-! ## The Warden (R101, R102, R305) -/

/-- The permit present in the fabric domain: the renewal, and with AHN enabled the role level at this moment. -/
def State.permit (s : State) : Bool :=
  s.blkOn Blk.AUT && s.warden.fault == 0 && s.warden.renewed && (!s.blkOn Blk.AHN || s.roleLevel)

/-- A Warden fault (R102, R315): the permit is latched off, FAULT_REASON recorded, event 74 raised, FAIL_N asserted and the role
given up with cause 3. A first fault stays. -/
def State.wardenFault (s : State) (reason : Nat) : State :=
  if s.warden.fault != 0 then s
  else ((({ s with warden := { s.warden with fault := reason, renewed := false } }).raise Ev.AUT_WARDEN_FAULT 0).release 3)

/-- The first check that withholds, in the order of R468: 1 strobe, 2 stop inputs, 3 role, 4 fleet state; 0 for none. -/
def State.wardenWithhold (s : State) (strobeOk : Bool) : Nat :=
  if !strobeOk then 1 else if s.pins.stopALow || s.pins.stopBLow then 2 else if !s.roleLevel then 3 else if s.aut.fsLatch then 4 else 0

/-- Whether the checks other than a role check applied continuously let the renewal be issued (R305). -/
def State.wardenIssues (s : State) (strobeOk : Bool) : Bool :=
  strobeOk && !s.pins.stopALow && !s.pins.stopBLow && !s.aut.fsLatch && (s.blkOn Blk.AHN || s.roleLevel)

/-- KICK_EN is set and no valid kick has come within the kick period (R101). -/
def State.kickLate (s : State) : Bool :=
  s.flag F.AUT_WARDEN_KICK_EN && s.passed s.warden.lastKick (s.fld F.AUT_WARDEN_KICK_100MS * 100 * nsPerMs)

/-- The Warden's renewal (R101): 10 ms before the next slot. `strobeOk`: the beacon strobe came within the window by the Warden's own
clock. `reported`: the SEQ the Token Engine reports through its crossing queue, checked while the module is active against the
Warden's own count. -/
def State.wardenRenewal (s : State) (strobeOk : Bool) (reported : Nat) : State :=
  if s.warden.fault != 0 then s
  else if !strobeOk && s.warden.strobeFails != 0 then s.wardenFault 2
  else if s.isActive && (match s.warden.seq with
      | some n => n != reported
      | none => false) then s.wardenFault 3
  else if s.kickLate then s.wardenFault 4
  else
    let w := s.wardenWithhold strobeOk
    let s := { s with warden := { s.warden with
      renewed := s.wardenIssues strobeOk, strobeFails := if strobeOk then 0 else 1, seq := if s.isActive then s.warden.seq else none } }
    if w = 0 then s else (s.bump F.AUT_WARDEN_WITHHELD).raise Ev.AUT_WARDEN_WITHHELD w

/-- A valid kick. -/
def State.kick (s : State) : State := { s with warden := { s.warden with lastKick := s.mono } }

/-- KICK (R101): 0x4B1C is written to `AUT_KICK`. -/
def execKick (s : State) : Result := whileRunning s State.kick

/-- The start-up self-test ends (R375, R305): a pass releases FAIL_N; a failure is FAULT_REASON 5. -/
def State.wardenTested (s : State) (pass : Bool) : State :=
  if pass then ({ s with warden := { s.warden with selfTest := true } }).failUpdate else s.wardenFault 5

/-! ## Token blocks (R82–R86) -/

/-- No new NAND write starts (R367, R379). -/
def State.storeSeq (s : State) (v : Nat) : State :=
  if s.nandStopped then s else { s with keys := { s.keys with seqStore := some v } }

/-- The machines whose revocation bit a block of `cover` words shows set. -/
def State.revoked (s : State) (cover : Nat) : List Nat :=
  (s.aut.mach.filter fun e => e.2.revoked != 0 && decide (e.1 < 64 * cover)).map Prod.fst

/-- The block for the coming slot. -/
def State.tokenBlock (s : State) : TokenBlock :=
  let tense := s.fleetState
  let cover := s.fld F.AUT_LIFE_COVER
  { tense := tense, cause := s.tenseCause tense, seq := s.aut.seq, btime := s.devClauseAt ((s.biCount + 1) * nsPerBi) % 2 ^ 40,
    lifeMs := s.fld F.AUT_LIFE_LIFETIME_MS, cover := cover, revbm := s.revoked cover }

/-- The block is sealed, or the slot skipped for lack of the permit (R85). -/
def State.sealBlock (s : State) : State :=
  let permit := s.permit
  let b := s.tokenBlock
  let s := (s.setFld F.AUT_BEACON_PERMIT (b2n permit)).setFld F.AUT_BEACON_TRUNC 0
  let s := s.setAut fun a => { a with seq := (a.seq + 1) % 2 ^ 48, lastSeq := a.seq }
  let s := { s with warden := { s.warden with seq := match s.warden.seq with
    | none => some b.seq
    | some n => some ((n + 1) % 2 ^ 48) } }
  let s := if b.seq % 1024 = 0 then s.storeSeq b.seq else s
  if b.tense = Tense.RUN && !permit then
    (((s.setAut fun a => { a with sealed := none }).setFld F.AUT_BEACON_TENSE 0).bump F.AUT_BEACON_SLOTS_SKIPPED).raise Ev.AUT_BEACON_SKIPPED 0
  else ((s.setAut fun a => { a with sealed := some b }).setFld F.AUT_BEACON_TENSE b.tense).mirror 0 (.token b)

/-- TOKEN_BLOCK_SEAL (R82): 1 ms before a beacon slot; only the active module seals. -/
def execTokenBlockSeal (s : State) : Result := whileOn s Blk.AUT fun s => if s.isActive then s.sealBlock else s

/-- A repeat of a stop frame in the present BI: the first control channel that is due starts a new flood, with event 138; each due one it has not
been started on yet follows. A channel is due 25 ms after the BI opens, or once its quiet window has ended. -/
def State.stopAgain (s : State) (r : StopRepeat) : StopRepeat × State :=
  let due := s.controlUp.filter fun m => decide (max 25000000 (s.quietNs m) ≤ s.biPos)
  if due.isEmpty then (r, s)
  else
    let (f, s) := if r.last < s.biCount then
        let n := s.stopFrame r.tense r.cause r.seq
        (n.1, n.2.raise Ev.AIR_STOP_SENT 0)
      else (r.frame, s)
    let now := due.filter fun m => decide (r.last < s.biCount) || !r.done.contains m
    ({ r with last := s.biCount, frame := f, done := if r.last < s.biCount then now else r.done ++ now }, now.foldl (fun s m => s.stopOn f m) s)

/-- STOP_FRAME_REPEAT (R99, R219): in each of the next two BIs the stop frame goes out again. -/
def execStopFrameRepeat (s : State) : Result :=
  whileOn s Blk.AUT fun s =>
    let live := s.aut.stopRepeats.filter fun r => decide (s.biCount ≤ r.bi + 2)
    if !s.airTransmits then s
    else
      let r := live.foldl (fun (acc : List StopRepeat × State) r =>
        if r.bi < acc.2.biCount then
          let n := acc.2.stopAgain r
          (acc.1 ++ [n.1], n.2)
        else (acc.1 ++ [r], acc.2)) ([], s)
      r.2.setAut fun a => { a with stopRepeats := r.1 }

/-- A write to `AUT_LIFE` (R86): COVER is ignored with event 77 where it would leave a machine with a VALID entry uncovered. -/
def State.lifeWrite (s : State) (w : Word) : State :=
  let cover := F.AUT_LIFE_COVER.get w
  let open' := (List.range (2048 - 64 * cover)).any fun i => s.machValid (64 * cover + i)
  if s.isStandby || !open' then (s.hostReg R.AUT_LIFE w).1
  else (s.hostReg R.AUT_LIFE (F.AUT_LIFE_COVER.put w (s.fld F.AUT_LIFE_COVER))).1.raise Ev.AUT_COVER_REFUSED 0

/-- COVER_WRITE (R86): a write to `AUT_LIFE`. -/
def execCoverWrite (value : Word) (s : State) : Result := whileRunning s fun s => s.lifeWrite value

/-- SEQ_SNAPSHOT_READ (R109): the read returns SEQ bits 31:0 of the last sealed slot and latches bits 47:32. -/
def execSeqSnapshotRead (s : State) : Result :=
  whileRead s fun s =>
    { s.setFld F.AUT_SEQ_HI_SEQ_HI (s.aut.lastSeq / 2 ^ 32) with hostRead := BitVec.ofNat 32 s.aut.lastSeq }

/-! ## Revocation (R104, R105) -/

/-- What AUT keeps for a machine, and setting it. -/
def State.autMach (s : State) (mi : Nat) : AutMach := s.aut.mach.get AutMach.none mi
def State.setAutMach (s : State) (mi : Nat) (v : AutMach) : State :=
  s.setAut fun a => { a with mach := a.mach.set AutMach.none mi v }

/-- A machine's revocation bit is set, by a solecism (1) or the host (2): event 69, and what R70 holds. A bit already set
takes the cause of a solecism. -/
def State.revoke (s : State) (mi cause : Nat) : State :=
  let v := s.autMach mi
  let s := s.setAutMach mi { v with revoked := if v.revoked = 0 || cause = 1 then cause else v.revoked, wait := false }
  let s := (s.setFld F.AUT_REVSTAT_LASTCAUSE cause).setFld F.AUT_REVSTAT_LASTMI mi
  let s := if v.revoked = 0 then (s.raise Ev.AUT_REVOKED (mi + cause * 65536)).clsHold mi else s
  s.autMirror

/-- The host revokes a machine (R105). A standby's revocation bits change by mirror only (R312). -/
def State.hostRevoke (s : State) (mi : Nat) : State := if s.isStandby || decide (2048 ≤ mi) then s else s.revoke mi 2

/-- The host reinstates a machine (R105). -/
def State.reinstate (s : State) (mi : Nat) : State :=
  if s.isStandby || decide (2048 ≤ mi) || (s.autMach mi).revoked == 0 then s
  else ((s.setAutMach mi { s.autMach mi with revoked := 0, wait := true }).raise Ev.AUT_REINSTATED 0).autMirror

/-- REINSTATE (R105). -/
def execReinstate (mi : Nat) (s : State) : Result := whileOn s Blk.AUT fun s => s.reinstate mi

/-! ## Authority records (R87–R89) -/

/-- The least output of the gap loops of the pairs that machine `mi` follows in, 0 for a pair without a slot (R89); none where
it follows in no pair. -/
def State.gapCeiling (s : State) (mi : Nat) : Option Nat :=
  let pairs := (s.cls.follow.keys).filter fun e => (s.followMis e).2 == mi
  let outs := pairs.map fun e => match s.gapSlotOf e with
    | some n => (s.slotReg n R.LPE_SLOT_OUT).toNat
    | none => 0
  match outs with
  | [] => none
  | x :: rest => some (rest.foldl min x)

/-- ZERO of R89, for a record of class `q` and epoch `epoch` written at clause time `w`. -/
def State.zeroOf (s : State) (v : AutMach) (q epoch w : Nat) : Nat :=
  if v.revoked = 1 then 1 else if v.revoked = 2 then 2 else if v.wait then 3 else if v.noClause then 4 else if q = 3 then 5
  else if s.fld F.AUT_AGE_POS_AGE_MS < w - epoch then 6 else if v.limitT ≤ w then 7 else 0

/-- The terms of R89 that apply, each with its LIMITER. -/
def State.ceilTerms (s : State) (mi : Nat) (v : AutMach) (q : Nat) (cell : Bool) : List (Nat × Nat) :=
  let qc := if q = 0 then s.fld F.AUT_QCEIL01_Q0 else if q = 1 then s.fld F.AUT_QCEIL01_Q1 else s.fld F.AUT_QCEIL2_Q2
  let cap := s.fldB mi F.AUT_MACH_CFG_VCAP
  [(qc, 0)] ++ (if v.vmax = 0 then [] else [(v.vmax, 1)])
    ++ (match s.gapCeiling mi with
      | some g => [(g, 2)]
      | none => [])
    ++ (if cap = 0 then [] else [(cap, 3)]) ++ (if cell then [(s.fld F.AUT_CELL_CELL_VMAX, 4)] else [])

/-- The least term; of equal ones the first in R87's order. -/
def leastTerm : List (Nat × Nat) → Nat × Nat
  | [] => (0, 0)
  | [t] => t
  | t :: rest => if t.1 ≤ (leastTerm rest).1 then t else leastTerm rest

/-- A record is written (R88): `base` gives QCLASS, CELL, the limit point, LIM_R and POS_EPOCH. AIR sends it, the mirror
carries it; one later than REPEAT_MS + 50 ms after the machine's last is counted, with event 76. -/
def State.autWrite (s : State) (mi : Nat) (base : AuthRec) (repeat' : Bool) : State :=
  let v := s.autMach mi
  let w := s.devClause
  let zero := s.zeroOf v base.qclass base.posEpoch w
  let c := if zero = 0 then leastTerm (s.ceilTerms mi v base.qclass base.cell) else (0, 0)
  let r : AuthRec := { base with
    mi := mi, revoked := v.revoked != 0, rep := repeat', zero := zero, limiter := c.2, vceil := c.1,
    validUntil := min v.limitT (min (w + s.fld F.AUT_REC_REC_LIFE_MS) (base.posEpoch + s.fld F.AUT_AGE_POS_AGE_MS)),
    tokSeq := s.aut.openSeq % 2 ^ 32 }
  let late := v.record.isSome && decide (v.written + (s.fld F.AUT_REC_REPEAT_MS + 50) * nsPerMs < s.tai)
  let s := if late then (s.bump F.AUT_RECLATE_COUNT).raise Ev.AUT_RECORD_LATE 0 else s
  let s := (s.setAutMach mi { v with record := some r, written := s.tai }).bump F.AUT_RECCNT_COUNT
  let s := { s with air := { s.air with recs := s.air.recs ++ [(r, s.tai)] } }
  s.mirror mi (.record r s.tai)

/-- The record a machine's next one builds on: its last; with none, a limit point the spec does not state is a free value. -/
def State.recordBase (s : State) (mi : Nat) : AuthRec × State :=
  match (s.autMach mi).record with
  | some r => (r, s)
  | none =>
    let (e, s) := s.draw
    let (n, s) := s.draw
    (⟨mi, 3, false, false, false, 0, 0, signedOf 32 e, signedOf 32 n, 0, 0, 0, 0, 0⟩, s)

/-- A check result of CLS (R67, R68). -/
inductive CheckResult where
  | inside (cell : Bool) (limE limN : Int) (limitT vmax : Nat)
  | noClause
  | outside (reason : Nat)
  deriving DecidableEq, Repr

/-- AUT takes a check result for a solution of class `q` and epoch `epoch` (R88, R104): a solecism revokes, INSIDE ends the
wait of a reinstated machine, and a record is written. Where the result is not INSIDE, CLS passes no limit point: the last
record's stands. -/
def State.autCheck (s : State) (mi q epoch : Nat) (res : CheckResult) : State :=
  match res with
  | .inside cell e n t vmax =>
    let v := s.autMach mi
    let s := s.setAutMach mi { v with wait := false, noClause := false, limitT := t, vmax := vmax }
    let s := if v.wait then s.autMirror else s
    s.autWrite mi ⟨mi, q, cell, false, false, 0, 0, e, n, 0, 0, epoch, if cell then s.fld F.AUT_CELL_CELL_STEP_MM else 0, 0⟩ false
  | .noClause =>
    let s := s.setAutMach mi { s.autMach mi with noClause := true }
    let (b, s) := s.recordBase mi
    s.autWrite mi { b with qclass := q, posEpoch := epoch } false
  | .outside _ =>
    let s := s.setAutMach mi { s.autMach mi with noClause := false }
    let s := s.revoke mi 1
    let (b, s) := s.recordBase mi
    s.autWrite mi { b with qclass := q, posEpoch := epoch } false

/-- A Q3 outcome, which CLS does not check (R127): the record keeps limit point and POS_EPOCH of the last one. -/
def State.autQ3 (s : State) (mi epoch : Nat) : State :=
  let fresh := (s.autMach mi).record.isNone
  let (b, s) := s.recordBase mi
  s.autWrite mi { b with qclass := 3, posEpoch := if fresh then epoch else b.posEpoch } false

/-- REPEAT_RECORD (R88): the machine has had no record for REPEAT_MS. -/
def execRepeatRecord (mi : Nat) (s : State) : Result :=
  whileOn s Blk.AUT fun s =>
    match (s.autMach mi).record with
    | some r =>
      if !s.isStandby && decide ((s.autMach mi).written + s.fld F.AUT_REC_REPEAT_MS * nsPerMs ≤ s.tai) then s.autWrite mi r true else s
    | none => s

end Sys2Proof.Machine
end

