-- ==== Sys2Proof/Machine/RadioHeads.lean ====
section
/-!
DEFINITION. RHL (R250–R267): the blocks exchanged with radio heads, bring-up and loss of a link, the transmit gate, receive
gain. Line coding, lanes and the channelizer's filters are not modelled (log 84).
-/

namespace Sys2Proof.Machine

/-! ## Control (R255) -/

/-- The CTRL operations, and the STATUS a head sends of its own. -/
abbrev HeadOp.SET_FREQ : Nat := 1
abbrev HeadOp.SET_RATE : Nat := 2
abbrev HeadOp.SET_RXGAIN : Nat := 3
abbrev HeadOp.SET_TXREF : Nat := 4
abbrev HeadOp.ECHO : Nat := 5
abbrev HeadOp.QUERY : Nat := 6
abbrev HeadOp.CAPS : Nat := 0x90
abbrev HeadOp.ALARM : Nat := 0x91

/-- Change a link's state. -/
def State.linkSet (s : State) (l : Nat) (f : RhlLink → RhlLink) : State := s.setRhLink l (f (s.rhLink l))

/-- A link enters a state of bring-up. -/
def State.linkEnter (s : State) (l st : Nat) : State := s.linkSet l fun k => { k with state := st, since := s.mono }

/-- A CTRL is sent: the module's choice of TAG is a free value, and the answer is awaited. -/
def State.headCtrl (s : State) (l op stream : Nat) (args : List Byte) : State :=
  let (t, s) := s.draw
  (s.linkSet l fun k => { k with answers := k.answers ++ [(op + 256 * stream, t % 65536)] }).headSend l
    [headBlock BlockType.CTRL stream s.stamp
      (Bytes.padTo (Bytes.ofNat 1 op ++ Bytes.ofNat 1 stream ++ Bytes.ofNat 2 t ++ args) 16)]

/-- The four CTRLs of CONFIG for a stream (R260). The value of SET_TXREF is not stated: it is a free value. -/
def State.strConfig (s : State) (l n : Nat) : State :=
  let s := s.headCtrl l HeadOp.SET_RATE n (Bytes.ofNat 1 (s.strRate l n))
  let s := s.headCtrl l HeadOp.SET_FREQ n (Bytes.ofNat 4 (s.strCentre l n) ++ Bytes.ofNat 2 0)
  let s := s.headCtrl l HeadOp.SET_RXGAIN n (Bytes.ofNat 2 (s.fldB (strBank l n) F.RHL_STR_GAIN_RXGAIN))
  let (v, s) := s.draw
  s.headCtrl l HeadOp.SET_TXREF n (Bytes.ofNat 2 v)

/-! ## Bring-up and loss (R260–R262) -/

/-- The counters of a link (R265). -/
def rhlCnt (n : Nat) : Fld := F.RHL_CNT_COUNT.nth n

/-- A beacon on air is cut on the control modems of a link that falls (R262). -/
def State.linkCut (s : State) (l : Nat) : State :=
  if s.aut.onAir.isSome && decide (s.mono < s.aut.onAirUntil) then
    (s.controlUp.filter fun m => s.modemLink m == l).foldl (fun s m => s.emit (.airTruncated m)) s
  else s

/-- A link goes to DOWN. -/
def State.linkToDown (s : State) (l : Nat) : State :=
  (s.linkCut l).setRhLink l { RhlLink.idle with since := s.mono, lastTxLate := (s.rhLink l).lastTxLate } |>.bumpB l (rhlCnt 2)

/-- A link falls to DOWN for a cause of R261, with event 161. -/
def State.linkLost (s : State) (l cause : Nat) : State :=
  ((s.linkToDown l).setFldB l F.RHL_LINK_STAT_CAUSE cause).raise Ev.RHL_LINK_DOWN (l + cause * 65536)

/-- A bring-up state exceeds its bound, or the head does not fit: the link returns to DOWN. -/
def State.linkUnfit (s : State) (l : Nat) : State := (s.linkToDown l).raise Ev.RHL_HEAD_UNFIT 0

/-- Bring-up starts: from DOWN to ALIGN. -/
def State.linkBringUp (s : State) (l : Nat) : State := if (s.rhLink l).state = Lk.DOWN then s.linkEnter l Lk.ALIGN else s

/-- At basic level a link with BRING_EN = 1 brings itself up (R260). -/
def State.linkAuto (s : State) (l : Nat) : Bool := !s.expert Blk.RHL && s.flagB l F.RHL_LINK_CFG_BRING_EN

/-- A link reaches UP once CONFIG waits for no answer. -/
def State.linkConfigured (s : State) (l : Nat) : State :=
  if (s.rhLink l).answers.isEmpty then ((s.linkEnter l Lk.UP).linkSet l fun k => { k with alarmAt := s.mono }).raise Ev.RHL_LINK_UP 0 else s

/-- `RHL_DELAY` takes a new value, given as the round trip less the turnaround summed over `n` ECHOs; one that differs from the
last by more than 20 ns raises event 166 (R262). Rounding to whole ns is not stated. -/
def State.setDelay (s : State) (l : Nat) (sum : Int) (n : Nat) : State :=
  let new := (max 0 (Config.roundQuot sum (2 * n))).toNat % 65536
  let old := s.fldB l F.RHL_DELAY_DELAY_NS
  let s := s.setFldB l F.RHL_DELAY_DELAY_NS new
  if old != 0 && (decide (old + 20 < new) || decide (new + 20 < old)) then s.raise Ev.RHL_DELAY_STEP 0 else s

/-- An answer to ECHO: in DELAY the eighth gives the mean and starts CONFIG, earlier ones are followed by another ECHO; in UP the
delay follows each. -/
def State.echoAnswer (s : State) (l roundTrip turnaround : Nat) : State :=
  let d : Int := (roundTrip : Int) - turnaround
  if (s.rhLink l).state = Lk.DELAY then
    let ds := (s.rhLink l).delays ++ [(roundTrip - turnaround : Nat)]
    if ds.length < 8 then (s.linkSet l fun k => { k with delays := ds }).headCtrl l HeadOp.ECHO 0 []
    else
      let s := (s.setDelay l (ds.sum : Nat) 8).linkEnter l Lk.CONFIG
      ((s.strUsed l).foldl (fun s n => s.strConfig l n) (s.linkSet l fun k => { k with delays := [] })).linkConfigured l
  else if (s.rhLink l).state = Lk.UP then s.setDelay l d 1
  else s

/-- A good block ends a run of CRC failures. -/
def State.blockGood (s : State) (l : Nat) : State := s.linkSet l fun k => { k with crcRun := 0 }

/-- The link carries blocks: past alignment. -/
def State.linkAligned (s : State) (l : Nat) : Bool := decide (Lk.CAPS ≤ (s.rhLink l).state)

/-- A block of type `type` comes from a head (R252, R261): STREAM, STAMP and payload where its CRC holds. One that fails it is discarded and
counted, and 8 in a row take a link in UP down. -/
def State.blockRx (s : State) (l type : Nat) (block : List Byte) : State × Option (Nat × Nat × List Byte) :=
  if !s.linkAligned l then (s, none)
  else
    match readBlock block with
    | some (t, b) => (s.blockGood l, if t = type then some b else none)
    | none =>
      let s := (s.bumpB l (rhlCnt 1)).linkSet l fun k => { k with crcRun := k.crcRun + 1 }
      (if s.rhUp l && decide (8 ≤ (s.rhLink l).crcRun) then s.linkLost l 3 else s, none)

/-- What was received on a stream since its gain was last adjusted. -/
def State.strRx (s : State) (l n : Nat) : RxStream := s.rhl.rx.get RxStream.none (strBank l n)
def State.setStrRx (s : State) (l n : Nat) (r : RxStream) : State :=
  { s with rhl := { s.rhl with rx := s.rhl.rx.set RxStream.none (strBank l n) r } }

/-- IQ_BLOCK_RX (R252, R253, R261): samples of a stream reach the channelizer; the module keeps when the last block's first sample arrived at the
antenna port, and the power received. -/
def execIqBlockRx (link : Nat) (block : List Byte) (crc : Nat) (s : State) : Result :=
  whileOn s Blk.RHL fun s =>
    match s.blockRx link BlockType.IQ (block ++ Bytes.ofNat 4 crc) with
    | (s, none) => s
    | (s, some (stream, stamp, p)) =>
      if !s.rhUp link || s.strRate link stream == 0 then s
      else
        let r := s.strRx link stream
        s.setStrRx link stream ⟨some stamp, r.count + p.length / 4, r.power + ((samplesOf p).map samplePower).sum⟩

/-- TIME_BLOCK_TX (R254): each aligned link gets a TIME block, whose STAMP is its departure plus `RHL_DELAY`. -/
def execTimeBlockTx (s : State) : Result :=
  whileOn s Blk.RHL fun s =>
    ((List.range 2).filter s.linkAligned).foldl
      (fun s l => s.headSend l [headBlock BlockType.TIME 0 ((s.tai + s.fldB l F.RHL_DELAY_DELAY_NS) % 2 ^ 32) (Bytes.ofNat 4 0)]) s

/-- LINK_ALIGNED (R260): ALIGN ends, QUERY is sent. -/
def execLinkAligned (link : Nat) (s : State) : Result :=
  whileOn s Blk.RHL fun s =>
    if (s.rhLink link).state = Lk.ALIGN then (s.linkEnter link Lk.CAPS).headCtrl link HeadOp.QUERY 0 [] else s

/-- HEAD_STATUS_RX (R255, R256, R262): a STATUS block that answers a CTRL, matched by OP, STREAM and TAG. `roundTrip` is the round trip the module
measured, ns, for ECHO. In CONFIG a RESULT other than 0 takes the link down with event 163. -/
def execHeadStatusRx (link header stamp : Nat) (payload : List Byte) (crc txAt rxAt : Nat) (s : State) : Result :=
  whileOn s Blk.RHL fun s =>
    match s.blockRx link BlockType.STATUS (blockOf header stamp payload crc) with
    | (s, none) => s
    | (s, some (_, _, p)) =>
      let op := Bytes.at' p 0 1
      let ans := (op % 128 + 256 * Bytes.at' p 1 1, Bytes.at' p 2 2)
      let result := Bytes.at' p 4 1
      if op < 128 || !(s.rhLink link).answers.contains ans then s
      else
        let s := s.linkSet link fun k => { k with answers := k.answers.erase ans }
        if op % 128 = HeadOp.ECHO then (if result = 0 then s.echoAnswer link (rxAt - txAt) (Bytes.at' p 8 4) else s)
        else if (s.rhLink link).state != Lk.CONFIG then s
        else if result = 0 then s.linkConfigured link
        else s.linkUnfit link

/-- Whether bands (R256) hold a centre frequency, kHz. -/
def bandCovers (bands khz : Nat) : Bool :=
  (bitOf bands 0 && decide (863000 ≤ khz) && decide (khz ≤ 870000)) || (bitOf bands 1 && decide (902000 ≤ khz) && decide (khz ≤ 928000))
    || (bitOf bands 2 && decide (2400000 ≤ khz) && decide (khz < 2500000))
    || (bitOf bands 3 && decide (5725000 ≤ khz) && decide (khz ≤ 5875000))

/-- HEAD_CAPS_RX (R256, R260): CAPS is recorded; in CAPS it must cover every stream and band the image maps to the link. -/
def execHeadCapsRx (link header stamp : Nat) (payload : List Byte) (crc : Nat) (s : State) : Result :=
  whileOn s Blk.RHL fun s =>
    match s.blockRx link BlockType.STATUS (blockOf header stamp payload crc) with
    | (s, none) => s
    | (s, some (_, _, p)) =>
      if Bytes.at' p 0 1 ≠ HeadOp.CAPS then s
      else
        let streams := Bytes.at' p 8 1
        let bands := Bytes.at' p 9 1
        let s := s.setFldB link F.RHL_HEAD_ID_ID (Bytes.at' p 4 4)
        let s := ((s.setFldB link F.RHL_CAPS_MAXREF (Bytes.at' p 10 2)).setFldB link F.RHL_CAPS_BANDS bands).setFldB link F.RHL_CAPS_STREAMS streams
        if (s.rhLink link).state != Lk.CAPS then s
        else
          let s := s.linkSet link fun k => { k with answers := [] }
          if (s.strUsed link).all fun n => decide (n < streams) && bandCovers bands (s.strCentre link n) then
            (s.linkEnter link Lk.DELAY).headCtrl link HeadOp.ECHO 0 []
          else s.linkUnfit link

/-- HEAD_ALARM_RX (R256, R261, R262, R267): an ALARM; `bits` of byte 4. -/
def execHeadAlarmRx (link : Nat) (block : List Byte) (s : State) : Result :=
  whileOn s Blk.RHL fun s =>
    match s.blockRx link BlockType.STATUS block with
    | (s, none) => s
    | (s, some (_, _, p)) =>
      if Bytes.at' p 0 1 ≠ HeadOp.ALARM then s
      else
        let bits := Bytes.at' p 4 1
        let old := s.fldB link F.RHL_LINK_STAT_ALARM
        let s := (s.linkSet link fun k => { k with alarmAt := s.mono }).setFldB link F.RHL_LINK_STAT_ALARM bits
        let s := if (old ^^^ bits) &&& 0x17 != 0 then s.raise Ev.RHL_HEAD_ALARM 0 else s
        if !s.rhUp link then s
        else
          let s := if bitOf bits 3 then
              let s := s.bumpB link (rhlCnt 3)
              if dueSince s (s.rhLink link).lastTxLate nsPerSec then
                (s.linkSet link fun k => { k with lastTxLate := some s.mono }).raise Ev.RHL_TX_LATE 0
              else s
            else s
          if bitOf bits 0 || bitOf bits 2 then s.linkLost link 5 else s

/-- The bound of a bring-up state, ms (R260). -/
def linkBound (st : Nat) : Option Nat :=
  if st = Lk.ALIGN then some 10 else if st = Lk.CAPS then some 5 else if st = Lk.DELAY then some 10 else if st = Lk.CONFIG then some 25 else none

/-- LINK_STATE_TIMEOUT (R260). -/
def execLinkStateTimeout (link : Nat) (s : State) : Result :=
  whileOn s Blk.RHL fun s =>
    match linkBound (s.rhLink link).state with
    | some ms => if s.passed (s.rhLink link).since (ms * nsPerMs) then s.linkToDown link else s
    | none => s

/-- LINK_DOWN (R261): a link in UP finds cause 1, 2 or 4; `codeErrors` code-group errors were counted on the way. Causes 3, 5 and
6 come with IQ_BLOCK_RX, HEAD_ALARM_RX and LINK_DOWN_CMD. -/
def execLinkDown (link cause codeErrors : Nat) (s : State) : Result :=
  whileOn s Blk.RHL fun s =>
    let s := s.bumpB link (rhlCnt 0) codeErrors
    if s.rhUp link && (cause == 1 || (cause == 4 && s.passed (s.rhLink link).alarmAt (5 * nsPerMs)) || (cause == 2 && decide (64 ≤ codeErrors)))
    then s.linkLost link cause else s

/-- LINK_RETRY (R260): 1 s after a link entered DOWN. -/
def execLinkRetry (link : Nat) (s : State) : Result :=
  whileOn s Blk.RHL fun s =>
    if decide (link < 2) && s.linkAuto link && s.passed (s.rhLink link).since nsPerSec then s.linkBringUp link else s

/-- PERIODIC_ECHO (R260): every second in UP. -/
def execPeriodicEcho (link : Nat) (s : State) : Result :=
  whileOn s Blk.RHL fun s => if s.rhUp link then s.headCtrl link HeadOp.ECHO 0 [] else s

/-! ## Receive gain (R263) -/

/-- A step of gain: which way the measured RMS asks, of a size within 3 dB that the spec leaves open. -/
def State.gainStep (s : State) (rms : Int) : Int × State :=
  let (v, s) := s.draw
  let n : Int := (v % 6 + 1 : Nat)
  if -15 < rms then (-n, s) else if rms < -21 then (n, s) else (0, s)

/-- The whole dBFS at or below the RMS of `n` samples of summed power `power`: 10 times the common logarithm of the mean power over that of
full scale. -/
def rmsFloor (n power : Nat) : Int :=
  3 - (((List.range 131).find? fun k => decide ((n * 32767 ^ 2) ^ 10 * 10 ^ 3 ≤ power ^ 10 * 10 ^ k)).getD 131 : Nat)

/-- The RMS of a stream's samples since its gain was last adjusted, none where none came. Rounding to whole dB is not stated: the value is either
neighbour, by a free value. -/
def State.measureRms (s : State) (l n : Nat) : Option Int × State :=
  let r := s.strRx l n
  if r.count = 0 then (none, s)
  else
    let (v, s) := s.draw
    (some (max (-128) (rmsFloor r.count r.power + (v % 2 : Nat))), s.setStrRx l n ⟨r.stamp, 0, 0⟩)

/-- AGC_ADJUST (R263): RHL measures a stream's RMS and, at basic level, adjusts its gain; `busy`: a modem of the stream is receiving a
frame; `atEnd`: the gain is at an end of the head's range. -/
def execAgcAdjust (link stream : Nat) (busy atLow atHigh : Bool) (s : State) : Result :=
  whileOn s Blk.RHL fun s =>
    if !s.rhUp link || s.strRate link stream == 0 then s
    else
      let b := strBank link stream
      match s.measureRms link stream with
      | (none, s) => s
      | (some rms, s) =>
        let s := s.setFldB b F.RHL_STR_GAIN_RMS (encodeSigned 8 rms)
        if s.expert Blk.RHL then s
        else
          let s := if busy then s else
            let (d, s) := s.gainStep rms
            if d = 0 then s else
              let g := encodeSigned 16 (signedOf 16 (s.fldB b F.RHL_STR_GAIN_RXGAIN) + d)
              (s.setFldB b F.RHL_STR_GAIN_RXGAIN g).headCtrl link HeadOp.SET_RXGAIN stream (Bytes.ofNat 2 g)
          if (atLow || atHigh) && dueSince s (s.rhl.gainEvent.get none b) (60 * nsPerSec) then
            ({ s with rhl := { s.rhl with gainEvent := s.rhl.gainEvent.set none b (some s.mono) } }).raise Ev.RHL_AGC_LIMIT 0
          else s

/-! ## `RHL_CMD` (R265) -/

/-- BRING_UP, ignored at basic level. -/
def State.rhlBringUp (s : State) (l : Nat) : State := if s.expert Blk.RHL && decide (l < 2) then s.linkBringUp l else s

/-- DOWN: cause 6. -/
def State.rhlDown (s : State) (l : Nat) : State :=
  if (s.rhLink l).state = Lk.DOWN || decide (2 ≤ l) then s else s.linkLost l 6

/-- ECHO (R255). -/
def State.rhlEcho (s : State) (l : Nat) : State := if s.linkAligned l then s.headCtrl l HeadOp.ECHO 0 [] else s

/-- BRING_UP (R265). -/
def execBringUp (link : Nat) (s : State) : Result := whileOn s Blk.RHL fun s => s.rhlBringUp link

/-- LINK_DOWN_CMD (R261). -/
def execLinkDownCmd (link : Nat) (s : State) : Result := whileOn s Blk.RHL fun s => s.rhlDown link

/-- ECHO (R255). -/
def execEcho (link : Nat) (s : State) : Result := whileOn s Blk.RHL fun s => s.rhlEcho link

/-- RHL starts (R260): at basic level, links with BRING_EN begin bring-up. -/
def State.rhlStart (s : State) : State :=
  (List.range 2).foldl (fun s l => if s.linkAuto l then s.linkBringUp l else s)
    ((List.range 2).foldl (fun s l => s.setRhLink l { RhlLink.idle with since := s.mono }) s)

end Sys2Proof.Machine
end

