-- ==== Sys2Proof/Machine/Grants.lean ====
section
/-!
DEFINITION. Machines on the air (R225–R239): what AIR keeps for each, wide channels, standing grants and their placement, rates,
downlink data, and the check of R216. Machine/Air.lean has the commands.
-/

namespace Sys2Proof.Machine

/-! ## Machines -/

/-- What AIR keeps for a machine. -/
def State.airM (s : State) (mi : Nat) : AirMach := s.air.mach.get AirMach.none mi

/-- The part AIRMACH carries (R309): counters of reception are each module's own. -/
def AirMach.mirrored (m : AirMach) : AirMach :=
  { m with resend := 0, snrs := [], dlSnr := 0, crcFails := 0, goodRun := 0, upPend := 0, lastHeard := 0, lostAt := 0, bundleLen := 0,
           lenKnown := false, missEvent := Option.none }

/-- The device time left of a machine's quarantine (R445), ns. -/
def State.quarantine (s : State) (mi : Nat) : Option Nat := (s.nand.quarantine.get none mi).map fun t => t - s.nand.validNs

/-- The last accepted JCTR plus 1 for a serial (R226); 0 before the first. -/
def State.lastJctr (s : State) (serial : Nat) : Nat := s.air.jctrs.get 0 serial
def State.setJctr (s : State) (serial n : Nat) : State := { s with air := { s.air with jctrs := s.air.jctrs.set 0 serial n } }

/-- Send AIRMACH for a machine. -/
def State.airMachMirror (s : State) (mi : Nat) (snap : Bool := false) : State :=
  s.mirror mi (.airMach mi (s.airM mi).mirrored (s.lastJctr (s.airSerial mi)) (s.regB mi R.AIR_MACH_REG).toNat (s.regB mi R.AIR_MACH_SER_LO).toNat
    (s.regB mi R.AIR_MACH_SER_HI).toNat (s.regB mi R.AIR_MACH_PARENT).toNat (s.quarantine mi)) snap

/-- `AIR_MACH_GRANT0`–`GRANT2` show the grants in force. -/
def State.airGrantRegs (s : State) (mi : Nat) (m : AirMach) : State :=
  let s := ((s.setFldB mi F.AIR_MACH_GRANT0_K m.obs.k).setFldB mi F.AIR_MACH_GRANT0_OFS m.obs.ofs).setFldB mi F.AIR_MACH_GRANT0_HALF m.obs.half
  let s := (s.setFldB mi F.AIR_MACH_GRANT0_MCS_UL m.mcsUl).setFldB mi F.AIR_MACH_GRANT0_WCH m.wch
  let s := (s.setFldB mi F.AIR_MACH_GRANT1_LEN m.obs.len).setFldB mi F.AIR_MACH_GRANT1_START m.obs.start
  let s := (s.setFldB mi F.AIR_MACH_GRANT2_BI m.rpt.bi).setFldB mi F.AIR_MACH_GRANT2_HALF m.rpt.half
  (s.setFldB mi F.AIR_MACH_GRANT2_LEN m.rpt.len).setFldB mi F.AIR_MACH_GRANT2_START m.rpt.start

/-- Set what AIR keeps for a machine: its grant registers follow, and AIRMACH goes out on a change it carries. -/
def State.setAirM (s : State) (mi : Nat) (m : AirMach) : State :=
  let old := s.airM mi
  let s := { s with air := { s.air with mach := s.air.mach.set AirMach.none mi m } }
  let s := if old.obs == m.obs && old.rpt == m.rpt && old.mcsUl == m.mcsUl && old.wch == m.wch then s else s.airGrantRegs mi m
  if old.mirrored == m.mirrored then s else s.airMachMirror mi

/-- The machines AIR has heard of. -/
def State.airMis (s : State) : List Nat := s.air.mach.keys

/-- A machine is awake. -/
def State.machAwake (s : State) (mi : Nat) : Bool := (s.airM mi).state == .awake

/-- The registered machine with a serial (R225). -/
def State.miOfSerial (s : State) (ser : Nat) : Option Nat :=
  (List.range 2048).find? fun mi => s.flagB mi F.AIR_MACH_REG_VALID && s.airSerial mi == ser

/-! ## SLV's side of an interval (R138) -/

/-- SLV's rate state for a machine, and setting it with its RATE message. -/
def State.slvRate (s : State) (mi : Nat) : SlvRate := s.slv.rates.get SlvRate.none mi
def State.setSlvRate (s : State) (mi : Nat) (r : SlvRate) : State :=
  let old := s.slvRate mi
  let s := { s with slv := { s.slv with rates := s.slv.rates.set SlvRate.none mi r } }
  if old == r then s else s.mirror mi (.rate mi r)

/-- AIR reports the interval granted. -/
def State.slvGranted (s : State) (mi k : Nat) : State := s.setSlvRate mi { s.slvRate mi with granted := k }

/-! ## Wide channels (R207, R208, R212, R217) -/

/-- The wide channels in service, ascending. -/
def State.wideUp (s : State) : List Nat :=
  (List.range 8).filter fun w => match s.wideModem w with
    | some m => s.modemUp m
    | none => false

/-- The modem of a wide channel; a channel that has none names no modem. -/
def State.wideM (s : State) (w : Nat) : Nat := (s.wideModem w).getD 12

/-- Bandwidth of a wide channel (1: 20 MHz), DL_US in µs, DL_MCS. -/
def State.wideBw (s : State) (w : Nat) : Nat := s.modemBw (s.wideM w)
def State.dlUs (s : State) (w : Nat) : Nat := s.fldB (s.wideM w) F.AIR_MOD_WIDE_DL_US
def State.dlMcs (s : State) (w : Nat) : Nat := s.fldB (s.wideM w) F.AIR_MOD_WIDE_DL_MCS

/-- FREQ_KHZ of a modem. -/
def State.modemFreq (s : State) (m : Nat) : Nat := Bytes.at' (s.modemRow m) 4 4

/-- Whether CAPS of R225 support a wide channel. -/
def State.capsSupport (s : State) (caps w : Nat) : Bool :=
  bitOf caps (if s.wideBw w = 1 then 1 else 2) && bitOf caps (if s.modemFreq (s.wideM w) ≤ 2483500 then 3 else 4)

/-- The first tick of the uplink region, and the end of it. -/
def State.firstTick (s : State) (w : Nat) : Nat := ceilDiv (s.dlUs w + 100) 10
def lastTick : Nat := 2480

/-- The machines on a wide channel that hold a place on it. -/
def State.onWide (s : State) (w : Nat) : List Nat :=
  s.airMis.filter fun mi => (s.airM mi).wch == w && ((s.airM mi).state == .awake || (s.airM mi).state == .lost)

/-- Send AIRCHAN. -/
def State.airChanMirror (s : State) (snap : Bool := false) : State :=
  s.mirror 0 (.airChan s.air.fseq ((s.modemsOf Phy.WIDE).map fun m => (m, s.fldB m F.AIR_MOD_WIDE_DL_MCS)) s.nand.sndCtr s.air.duty) snap

/-! ## Standing grants (R227–R229) -/

/-- An RPT grant names an odd BI; an OBS grant none. -/
def Grant.isRpt (g : Grant) : Bool := g.bi % 2 == 1

/-- Ticks of two grants overlap. -/
def ticksMeet (a b : Grant) : Bool := a.half == b.half && decide (a.start < b.start + b.len) && decide (b.start < a.start + a.len)

/-- Two standing grants of one channel collide: RPT grants in one half of one BI, OBS grants in one half at a common epoch. -/
def Grant.clash (a b : Grant) : Bool :=
  ticksMeet a b && (if a.isRpt || b.isRpt then a.bi == b.bi
    else decide (((a.ofs : Int) - b.ofs) % (Nat.gcd a.k b.k : Int) = 0))

/-- The standing grants of a channel that others must keep clear of machine `mi`: those in force, and slots not yet free (R228). -/
def State.standing (s : State) (w mi : Nat) : List Grant :=
  ((s.onWide w).filter (fun j => j != mi)).flatMap (fun j => [(s.airM j).obs, (s.airM j).rpt].filter fun g => g.k != 0)
    ++ ((s.air.holds.filter fun h => h.wch == w && h.mi != mi && decide (s.tai / nsPerSec < h.until')).map SlotHold.grant)

/-- The first tick from `st` at which a grant meets none of `occ`. -/
def fitTick (occ : List Grant) (cand : Nat → Grant) : (fuel : Nat) → (st : Nat) → Option Nat
  | 0, _ => none
  | fuel + 1, st =>
    if lastTick < st + (cand st).len then none
    else match occ.find? (cand st).clash with
      | none => some st
      | some g => fitTick occ cand fuel (max (st + 1) (g.start + g.len))

/-- Ticks of an uplink frame with `payload` bytes, without DST, and GAP_TICKS. -/
def State.upTicks (s : State) (w mcs payload : Nat) : Nat :=
  ceilDiv (wideNs (s.wideBw w) mcs (payload + 22)) 10000 + s.fld F.AIR_WIDE_GAP_TICKS

/-- A placement of an OBS grant of interval `k` on channel `w` for `mi`: OFS is the one fewest grants of equal K use. -/
def State.obsFit (s : State) (mi w mcs len k : Nat) : Option Grant :=
  let occ := s.standing w mi
  let use (o : Nat) : Nat := (occ.filter fun g => !g.isRpt && g.k == k && g.ofs == o).length
  let offs := sortBy (fun a b => decide (use a ≤ use b)) (List.range k)
  let ticks := s.upTicks w mcs len
  (offs.flatMap fun o => [(o, 0), (o, 1)]).findSome? fun oh =>
    let g (st : Nat) : Grant := ⟨k, oh.1, oh.2, 0, st, ticks⟩
    (fitTick occ g (lastTick + 1) (s.firstTick w)).map g

/-- A placement of an RPT grant. -/
def State.rptFit (s : State) (mi w mcs : Nat) : Option Grant :=
  let occ := s.standing w mi
  let ticks := s.upTicks w mcs 8
  ((List.range 10).flatMap fun j => [(2 * j + 1, 0), (2 * j + 1, 1)]).findSome? fun bh =>
    let g (st : Nat) : Grant := ⟨1, 0, bh.2, bh.1, st, ticks⟩
    (fitTick occ g (lastTick + 1) (s.firstTick w)).map g

/-- The old slot of a machine on `w` is kept until 4 superframes have passed (R228). -/
def State.holdSlot (s : State) (w mi : Nat) (g : Grant) : State :=
  if g.k = 0 then s
  else
    let live := s.air.holds.filter fun h => decide (s.tai / nsPerSec < h.until')
    { s with air := { s.air with holds := live ++ [⟨w, mi, g, ceilDiv s.tai nsPerSec + 4⟩] } }

/-- Change a machine's standing grants: the old ones are held, the new ones go out in the next 3 bursts, and SLV learns the
interval. -/
def State.regrant (s : State) (mi : Nat) (obs rpt : Grant) : State :=
  let m := s.airM mi
  if m.obs == obs && m.rpt == rpt then s
  else
    let s := if m.obs == obs then s else s.holdSlot m.wch mi m.obs
    let s := if m.rpt == rpt then s else s.holdSlot m.wch mi m.rpt
    let s := s.setAirM mi { m with obs := obs, rpt := rpt, resend := 3 }
    if m.obs.k == obs.k then s else s.slvGranted mi obs.k

/-- A machine's grants are withdrawn. -/
def State.withdraw (s : State) (mi : Nat) : State := s.regrant mi Grant.none Grant.none

/-- The time of a burst that carries `n` records, ns (R232). The GRANT frame is one that repeats the standing grants of `n` machines
evenly over the 40 bursts of a superframe, with one machine's entries to spare. -/
def burstNs (bw mcs n : Nat) : Nat :=
  let auth (k : Nat) : Nat := if k = 0 then 0 else 16000 + wideNs bw mcs (24 + 40 * k)
  wideNs bw mcs (26 + 8 * min 64 (2 * ceilDiv n 40 + 2)) + n / 64 * auth 64 + auth (n % 64)

/-- A channel's burst has a place for one more machine's record. -/
def State.recordRoom (s : State) (w mi : Nat) : Bool :=
  let n := ((s.onWide w).filter fun j => j != mi).length
  decide (burstNs (s.wideBw w) (s.dlMcs w) (n + 1) ≤ s.dlUs w * 1000)

/-- Planned use of a channel's observation halves, in units of 1/2520 tick per epoch. -/
def State.plannedUse (s : State) (w : Nat) : Nat :=
  ((s.onWide w).map fun mi => if (s.airM mi).obs.k = 0 then 0 else (s.airM mi).obs.len * (2520 / (s.airM mi).obs.k)).sum

/-- Planned use in %. -/
def State.plannedPct (s : State) (w : Nat) : Nat := s.plannedUse w * 100 / (2520 * (2 * (lastTick - s.firstTick w)))

/-- A MOVE is sent (R234, R235): port 0 OP 1. It applies at the second superframe start from now. -/
def State.sendMove (s : State) (mi w : Nat) : State :=
  let t := (s.devClause / 1000 + 2) * 1000
  let m := s.airM mi
  let s := s.setAirM mi { m with move := some (w, t), upPend := max m.upPend 1 }
  { s with air := { s.air with
      dataDn := s.air.dataDn ++ [⟨mi, Bytes.ofNat 1 0 ++ [0#8] ++ Bytes.ofNat 1 1 ++ Bytes.ofNat 1 w ++ Bytes.ofNat 5 t, false⟩] } }

/-- The channels another machine could be moved to at interval `k`, the one with the most room first. -/
def State.moveTargets (s : State) (mi k : Nat) : List Nat :=
  let m := s.airM mi
  sortBy (fun a b => decide (s.plannedPct a ≤ s.plannedPct b))
    (s.wideUp.filter fun w => w != m.wch && s.capsSupport m.caps w && s.recordRoom w mi && (s.obsFit mi w m.mcsUl m.bundleLen k).isSome)

/-- R229 at basic level: interval `k` on the machine's channel, else a move, else the least interval above `k`, with event 142. Where
no interval fits, the grant in force stays. -/
def State.grantObs (s : State) (mi k : Nat) : State :=
  let m := s.airM mi
  let fit (j : Nat) : Option Grant := s.obsFit mi m.wch m.mcsUl m.bundleLen j
  match fit k with
  | some g => s.regrant mi g m.rpt
  | none =>
    match s.moveTargets mi k with
    | w :: _ => if m.move.isSome then s else s.sendMove mi w
    | [] =>
      let s := s.raise Ev.AIR_UL_OVERLOAD 0
      match ((List.range 11).filter fun j => decide (k < j)).findSome? fit with
      | some g => s.regrant mi g m.rpt
      | none => s

/-- AIR places the RPT grant, where host software has not (R246). -/
def State.grantRpt (s : State) (mi : Nat) : State :=
  let m := s.airM mi
  if m.rptSet then s
  else match s.rptFit mi m.wch m.mcsUl with
    | some g => s.regrant mi m.obs g
    | none => s.raise Ev.AIR_UL_OVERLOAD 0

/-- SLV requests an interval (R138). -/
def State.airRequest (s : State) (mi k : Nat) : State :=
  if s.blkOn Blk.AIR && !s.expert Blk.AIR && s.isActive && s.machAwake mi && k != 0 then s.grantObs mi k else s

/-- New grants of a machine on its channel, at the interval requested of it. -/
def State.grantAll (s : State) (mi : Nat) : State :=
  let s := s.grantRpt mi
  if s.expert Blk.AIR || (s.slvRate mi).req == 0 then s else s.grantObs mi (s.slvRate mi).req

/-! ## Rates (R235) -/

/-- The MCS a channel offers, ascending, and the threshold of each in dB. -/
def mcsOffered (bw : Nat) : List Nat := if bw = 1 then [0, 1, 2, 3, 4] else [0, 2, 3, 4]
def mcsThreshold (mcs : Nat) : Nat := [5, 7, 9, 12, 16].getD mcs 16

/-- The highest MCS a sum of `n` SNRs in 0.25 dB supports with a margin in dB; 0 where none does. -/
def mcsFor (bw margin sum n : Nat) : Nat :=
  (((mcsOffered bw).filter fun c => n != 0 && decide (4 * (mcsThreshold c + margin) * n ≤ sum)).getLast?).getD 0

/-- Event 131, at most once per second per channel. -/
def State.rateEvent (s : State) (w : Nat) : State :=
  if dueSince s (s.air.rateEvent.get none w) nsPerSec then
    ({ s with air := { s.air with rateEvent := s.air.rateEvent.set none w (some s.mono) } }).raise Ev.AIR_RATE_CHANGE 0
  else s

/-- A machine's uplink MCS changes: new grants are issued. -/
def State.setMcs (s : State) (mi mcs : Nat) : State :=
  let m := s.airM mi
  if m.mcsUl = mcs then s
  else
    let s := (s.setAirM mi { m with mcsUl := mcs }).rateEvent m.wch
    let s := if m.obs.k = 0 then s else s.grantObs mi m.obs.k
    s.grantRpt mi

/-- A good frame from a machine, heard on modem `modem` at `snr`: counts, and at basic level the uplink rate of a wide frame. -/
def State.airHeard (s : State) (mi modem snr : Nat) : State :=
  let m := s.airM mi
  if s.modemKind modem != Phy.WIDE then s.setAirM mi { m with lastHeard := s.mono }
  else
    let snrs := (m.snrs ++ [snr]).drop (m.snrs.length + 1 - 8)
    let m := { m with lastHeard := s.mono, crcFails := 0, goodRun := m.goodRun + 1, snrs := snrs }
    let s := s.setAirM mi m
    let want := mcsFor (s.wideBw m.wch) (s.fld F.AIR_WIDE_MARGIN_DB) snrs.sum snrs.length
    if s.expert Blk.AIR || !s.isActive then s
    else if want < m.mcsUl then s.setMcs mi want
    else if m.mcsUl < want && decide (32 ≤ m.goodRun) then (s.setAirM mi { m with goodRun := 0 }).setMcs mi want
    else s

/-- A frame in a machine's grant fails its CRC: the second in a row lowers the MCS by one. -/
def State.airCrcFail (s : State) (mi : Nat) : State :=
  let m := s.airM mi
  let m := { m with crcFails := m.crcFails + 1, goodRun := 0 }
  let lower := (((mcsOffered (s.wideBw m.wch)).filter fun c => decide (c < m.mcsUl)).getLast?).getD m.mcsUl
  if decide (2 ≤ m.crcFails) && !s.expert Blk.AIR && s.isActive then (s.setAirM mi { m with crcFails := 0 }).setMcs mi lower
  else s.setAirM mi m

/-- The MCS every awake machine of a channel supports by its last DL_SNR. -/
def State.dlTarget (s : State) (w : Nat) : Nat :=
  (((s.onWide w).filter s.machAwake).map fun mi => mcsFor (s.wideBw w) 0 (s.airM mi).dlSnr 1).foldl min 4

/-- A channel's DL_MCS changes. -/
def State.setDlMcs (s : State) (w mcs : Nat) : State :=
  if s.dlMcs w = mcs then s else ((s.setFldB (s.wideM w) F.AIR_MOD_WIDE_DL_MCS mcs).rateEvent w).airChanMirror

/-! ## Downlink data (R234, R237) -/

/-- A DATA_DN payload for a machine: queued for a burst, or held while it sleeps, where a fifth replaces the oldest and only a
control channel's length can be held. -/
def State.airData (s : State) (mi : Nat) (payload : List Byte) : State :=
  let m := s.airM mi
  if m.state = .awake then { s with air := { s.air with dataDn := s.air.dataDn ++ [⟨mi, payload, false⟩] } }
  else if m.state = .asleep && decide (payload.length ≤ 42) then
    let l := m.heldFrames ++ [payload]
    s.setAirM mi { m with heldFrames := l.drop (l.length - 4) }
  else s

/-- An OBS frame gives the length of a machine's bundles: AIR recomputes LEN where it was not known, or the bundle is longer (R229). -/
def State.learnLen (s : State) (mi len : Nat) : State :=
  let m := s.airM mi
  if m.lenKnown && decide (len ≤ m.bundleLen) then s
  else
    let s := s.setAirM mi { m with bundleLen := len, lenKnown := true }
    if s.isActive && !s.expert Blk.AIR && m.obs.k != 0 then s.grantObs mi m.obs.k else s

/-! ## The check of R216 -/

/-- Event 144, at most once per second. -/
def State.cmacEvent (s : State) : State :=
  if dueSince s s.air.lastCmac nsPerSec then ({ s with air := { s.air with lastCmac := some s.mono } }).raise Ev.AIR_CMAC_FAIL 0 else s

/-- A frame counts among CMAC or TAG failures. -/
def State.cmacFail (s : State) : State := (s.bump (F.AIR_CNT_COUNT.nth 1)).cmacEvent

/-- A modem is a wide channel's. -/
def State.wideRx (s : State) (rx : AirRx) : Bool := s.modemKind rx.modem == Phy.WIDE

/-- A received frame without its CMAC and CRC; its CMAC. -/
def State.rxBody (s : State) (rx : AirRx) : List Byte := rx.psdu.take (rx.psdu.length - 8 - crcLen (s.wideRx rx))
def State.rxMac (s : State) (rx : AirRx) : List Byte := Bytes.slice rx.psdu (rx.psdu.length - 8 - crcLen (s.wideRx rx)) 8

/-- The frame received. -/
def State.rxFrame (s : State) (rx : AirRx) : AirFrame := AirFrame.ofBody (s.rxBody rx)

/-- The modem is in service and its layer can announce a frame of this length. -/
def State.rxHeard (s : State) (rx : AirRx) : Bool := s.modemUp rx.modem && psduFits (s.wideRx rx) rx.psdu.length

/-- The CRC holds. -/
def State.crcGood (s : State) (rx : AirRx) : Bool :=
  let n := rx.psdu.length - crcLen (s.wideRx rx)
  rx.psdu.drop n == psduCrc (s.wideRx rx) (rx.psdu.take n)

/-- PAIR_ID is the pair's, and DST, where present, the module's. A frame a relay parent has retransmitted keeps the parent's DST (R238, log 82). -/
def State.forUs (s : State) (f : AirFrame) : Bool :=
  f.pairId == s.fld F.AIR_CFG_PAIR_ID && (match f.dst with
    | some d => d == s.airAddr || (f.ftype == Ft.POLL && f.relayed)
    | none => true)

/-- The BI in which a frame whose reception ends now started. -/
def State.rxBi (s : State) (rx : AirRx) : Nat :=
  let ns := if s.wideRx rx then 0 else narrowNs (s.modemBw rx.modem) rx.psdu.length
  (s.tai - ns) / nsPerBi

/-- The CMAC verifies under the key of R214. -/
def State.cmacGood (s : State) (rx : AirRx) : Bool :=
  let f := s.rxFrame rx
  match s.airKey f with
  | none => false
  | some k => decide (18 + crcLen (s.wideRx rx) ≤ rx.psdu.length) && s.rxMac rx == s.airMac f (f.flooded || f.relayed) (s.rxBi rx) k

/-- A frame of the last 2 s with this source and sequence. -/
def State.airSeen (s : State) (f : AirFrame) : Bool :=
  s.air.recent.any fun e => e.1 == f.src && e.2.1 == f.fseq && decide (s.mono ≤ e.2.2 + 2 * nsPerSec)

/-- R216 up to the CMAC: a frame that fails is counted. -/
def State.airAddressed (s : State) (rx : AirRx) : State × Bool :=
  if !s.rxHeard rx then (s, false)
  else if !s.crcGood rx then (s.bump (F.AIR_CNT_COUNT.nth 0), false)
  else if !s.forUs (s.rxFrame rx) then (s.bump (F.AIR_CNT_COUNT.nth 1), false)
  else (s, true)

/-- Whether a received frame passes R216; a frame that does not is counted, one heard twice is discarded. -/
def State.airCheck (s : State) (rx : AirRx) : State × Bool :=
  match s.airAddressed rx with
  | (s, false) => (s, false)
  | (s, true) =>
    let f := s.rxFrame rx
    if !s.cmacGood rx then (s.cmacFail, false)
    else if s.airSeen f then (s, false)
    else
      let live := s.air.recent.filter fun e => decide (s.mono ≤ e.2.2 + 2 * nsPerSec)
      ({ s with air := { s.air with recent := live ++ [(f.src, f.fseq, s.mono)] } }, true)

/-- The kind of channel a type is sent on (R214). -/
def typeWide (ft : Nat) : Bool := ft == Ft.GRANT || ft == Ft.OBS || ft == Ft.AUTH || ft == Ft.RPT || ft == Ft.DATA_UP

/-- A standing grant now runs: its half and BI are the present ones, and the present tick is among its own (R227). -/
def State.grantRuns (s : State) (g : Grant) : Bool :=
  let tick := s.biPos % 25000000 / 10000
  g.k != 0 && g.half == s.biPos / 25000000 && decide (g.start ≤ tick) && decide (tick < g.start + g.len)
    && (if s.biIndex % 2 = 0 then !g.isRpt && s.devClause / 100 % g.k == g.ofs else g.isRpt && g.bi == s.biIndex)

/-- The machine whose standing grant on the modem's channel now runs. -/
def State.grantOwner (s : State) (modem : Nat) : Option Nat :=
  (s.onWide (s.modemIndex modem)).find? fun mi => s.grantRuns (s.airM mi).obs || s.grantRuns (s.airM mi).rpt

/-- A wide frame that fails its CRC counts against the machine in whose grant it came (R235); where no standing grant runs, against the
machine its SRC names (DESIGN CHOICE, log 83). -/
def State.wideCrcFail (s : State) (rx : AirRx) : State :=
  match (s.grantOwner rx.modem).or (s.miOfAddr (s.rxFrame rx).src) with
  | some mi => if s.rxHeard rx && !s.crcGood rx && s.wideRx rx then s.airCrcFail mi else s
  | none => s

/-- A frame of type `ft` from a registered machine: checked; a wide frame that fails its CRC counts against the owner of its grant;
a good one of the type, on its kind of channel, is heard. Answers the machine. -/
def State.airFrom (s : State) (ft : Nat) (rx : AirRx) : State × Option Nat :=
  let f := s.rxFrame rx
  match s.airCheck rx, s.miOfAddr f.src with
  | (s, true), some mi => if f.ftype = ft ∧ s.wideRx rx = typeWide ft then (s.airHeard mi rx.modem rx.snr, some mi) else (s, none)
  | (s, false), _ => (s.wideCrcFail rx, none)
  | (s, true), none => (s, none)

end Sys2Proof.Machine
end

