-- ==== Sys2Proof/Machine/Air.lean ====
section
/-!
DEFINITION. The commands of AIR (R212–R246), but for those that also act on the partner (Machine/Partner.lean), on SLV
(Machine/Solve.lean) and on work orders (Machine/Orders.lean).
-/

namespace Sys2Proof.Machine

/-! ## Channel access (R221, R222) -/

/-- Take a waiting frame out. -/
def State.airUnwait (s : State) (w : AirWait) : State := { s with air := { s.air with waiting := s.air.waiting.erase w } }

/-- LBT_BACKOFF_EXPIRY (R221, R223): the backoff, or the wait, of the oldest normal frame of a modem has ended; it listens, and finds the channel
busy or idle. -/
def execLbtBackoffExpiry (modem : Nat) (busy : Bool) (s : State) : Result :=
  whileOn s Blk.AIR fun s =>
    match (s.airQueue modem false).head? with
    | none => s
    | some w => if s.mono < w.until' then s else (s.airUnwait w).airTurn w busy

/-- PRIO_WAIT_EXPIRY (R222): the oldest priority frame of a modem listens again: still blocked after PRIO_WAIT it is dropped, counted, event 147;
before that it is sent if the channel is idle, a free value, outside the quiet window. -/
def execPrioWaitExpiry (modem : Nat) (s : State) : Result :=
  whileOn s Blk.AIR fun s =>
    match (s.airQueue modem true).head? with
    | none => s
    | some w =>
      if s.mono < w.until' then s
      else if s.passed w.since (s.fld F.AIR_LBT_PRIO_WAIT_MS * nsPerMs) then
        ((s.airUnwait w).bump (F.AIR_CNT_COUNT.nth 6)).raise Ev.AIR_PRIO_DROPPED 0
      else
        let at' := s.airStart modem lbtListenNs
        if !s.mayStart modem at' (s.frameNs modem 0 w.frame) then s
        else
          let (v, s) := s.draw
          if v % 2 = 0 then (s.airUnwait w).airPut modem 0 at' w.frame else s

/-- DUTY_WINDOW_TICK (R223): the window advances by a bucket; AIRCHAN carries the buckets every second. -/
def execDutyWindowTick (s : State) : Result :=
  whileOn s Blk.AIR fun s =>
    let keep (l : List (Nat × Nat)) : List (Nat × Nat) := l.filter fun e => decide (s.tai / nsPerSec < e.1 + 3600)
    ({ s with air := { s.air with duty := s.air.duty.keys.foldl (fun d m => d.set [] m (keep (d.get [] m))) s.air.duty } }).airChanMirror

/-! ## Downlink bursts (R212, R227, R231–R234) -/

/-- An entry of a GRANT frame: `kind` 0 OBS, 1 RPT, 2 DATA. -/
def grantEntry (mi mcs kind : Nat) (g : Grant) : List Byte :=
  Bytes.ofNat 2 (mi + mcs * 2048 + kind * 16384) ++ Bytes.ofNat 1 (g.k + g.ofs * 16) ++ Bytes.ofNat 1 (g.half + g.bi * 4)
    ++ Bytes.ofNat 2 g.start ++ Bytes.ofNat 2 g.len

/-- The half of the BI the burst opens, and the number of the burst in its superframe. -/
def State.halfIndex (s : State) : Nat := s.biPos / 25000000
def State.burstIndex (s : State) : Nat := 2 * s.biIndex + s.halfIndex

/-- The machines whose standing grants this burst carries: the part of the channel's machines whose turn it is, so that every grant is
repeated once per superframe, and those just changed. -/
def State.grantMis (s : State) (w : Nat) : List Nat :=
  let on := s.onWide w
  let turn := (List.range on.length).filterMap fun i => if i % 40 = s.burstIndex then on[i]? else none
  turn ++ s.airMis.filter fun mi => (s.airM mi).wch == w && (s.airM mi).resend != 0 && !turn.contains mi

/-- The entries of a machine: while a change is being sent both kinds, K = 0 withdrawing one; otherwise those in force. -/
def State.grantEntries (s : State) (mi : Nat) : List (List Byte) :=
  let m := s.airM mi
  [(0, m.obs), (1, m.rpt)].filterMap fun kg =>
    if m.resend != 0 || kg.2.k != 0 then some (grantEntry mi m.mcsUl kg.1 kg.2) else none

/-- The standing grants that take ticks of the half this burst opens. -/
def State.halfOcc (s : State) (w : Nat) : List Grant :=
  (s.standing w 2048).filter fun g => g.half == s.halfIndex
    && (if s.biIndex % 2 = 0 then !g.isRpt && s.devClause / 100 % g.k == g.ofs else g.isRpt && g.bi == s.biIndex)

/-- DATA grants of a burst (R234): machines with bytes waiting, each in the first free ticks of the half. Answers the grants. -/
def State.dataGrants (s : State) (w : Nat) (mis : List Nat) : List (Nat × Grant) :=
  (mis.foldl (fun (acc : List Grant × List (Nat × Grant)) mi =>
    let m := s.airM mi
    let ticks := s.upTicks w m.mcsUl (min 1502 (16 * m.upPend + 2))
    let g (st : Nat) : Grant := ⟨1, 0, s.halfIndex, 0, st, ticks⟩
    let meets (c : Grant) : Option Grant := acc.1.find? (ticksMeet c)
    let rec' : Option Grant := (List.range (lastTick + 1)).findSome? fun st =>
      if s.firstTick w ≤ st ∧ st + ticks ≤ lastTick ∧ (meets (g st)).isNone then some (g st) else none
    match rec' with
    | some c => (acc.1 ++ [c], acc.2 ++ [(mi, c)])
    | none => acc) (s.halfOcc w, [])).2

/-- As many items, each with its entries, as `room` entries hold. -/
def packEntries : (room : Nat) → List (Nat × List (List Byte)) → List (Nat × List (List Byte))
  | _, [] => []
  | room, e :: rest => if e.2.length ≤ room then e :: packEntries (room - e.2.length) rest else []

/-- The GRANT frame of a burst on channel `w`: at most 64 entries; what does not fit waits for the next. Answers its airtime. -/
def State.sendGrant (s : State) (w m : Nat) : State × Nat :=
  let mis := packEntries 64 ((s.grantMis w).map fun mi => (mi, s.grantEntries mi))
  let used := (mis.map fun e => e.2.length).sum
  let data := (s.dataGrants w ((s.onWide w).filter fun mi => s.machAwake mi && (s.airM mi).upPend != 0)).take (64 - used)
  let entries := mis.flatMap Prod.snd ++ data.map fun e => grantEntry e.1 (s.airM e.1).mcsUl 2 e.2
  let (n, s) := s.nextFctr
  let f := s.airFrame Ft.GRANT none n 0
    (Bytes.ofNat 1 (s.dlUs w / 100) ++ Bytes.ofNat 1 entries.length ++ Bytes.ofNat 1 w ++ [0#8] ++ entries.flatten)
  let s := mis.foldl (fun s e => s.setAirM e.1 { s.airM e.1 with resend := (s.airM e.1).resend - 1 }) s
  let s := data.foldl (fun s e => s.setAirM e.1 { s.airM e.1 with upPend := 0 }) s
  (s.airPut m (s.dlMcs w) (align5 s.tai) f, s.frameNs m (s.dlMcs w) f)

/-- TAG of a record in an AUTH frame that starts in BI `bi` (R231). -/
def State.recTag (s : State) (r : AuthRec) (bi : Nat) : List Byte :=
  match s.authKey (s.airSerial r.mi) with
  | some k => cmac64 k (Bytes.ofNat 6 (s.biSeq bi) ++ r.bytes)
  | none => []

/-- Records of the burst in AUTH frames, as many as `left` ns hold, at most 64 to a frame; one that missed its burst is counted,
with event 141 (R232). Answers the time left and the records that did not fit. -/
def State.sendAuth (w m : Nat) : (fuel : Nat) → State → (left : Nat) → List (AuthRec × Nat) → State × Nat × List (AuthRec × Nat)
  | 0, s, left, recs => (s, left, recs)
  | _ + 1, s, left, [] => (s, left, [])
  | fuel + 1, s, left, recs =>
    let ns (k : Nat) : Nat := 16000 + wideNs (s.wideBw w) (s.dlMcs w) (24 + 40 * k)
    let k := (((List.range (min 64 recs.length + 1)).filter fun k => decide (ns k ≤ left)).getLast?).getD 0
    if k = 0 then (s, left, recs)
    else
      let sent := recs.take k
      let late := sent.filter fun e => decide (e.2 + 25000000 < s.tai / 25000000 * 25000000)
      let s := late.foldl (fun s _ => (s.bump (F.AIR_CNT_COUNT.nth 5)).raise Ev.AIR_RECORD_OVERFLOW 0) s
      let (n, s) := s.nextFctr
      let at' := s.airStart m 0
      let body := sent.flatMap fun e => e.1.bytes ++ s.recTag e.1 (at' / nsPerBi)
      let s := s.airPut m (s.dlMcs w) at' (s.airFrame Ft.AUTH none n 0 (Bytes.ofNat 1 k ++ [0#8] ++ body))
      State.sendAuth w m fuel s (left - ns k) (recs.drop k)

/-- The DATA_DN frames of a burst are deferred: each counts once (R223). -/
def State.deferData (s : State) (l : List AirData) : State :=
  let s := l.foldl (fun s d => if d.deferred then s else s.dutyDefer) s
  { s with air := { s.air with dataDn := s.air.dataDn.map fun d => if l.contains d then { d with deferred := true } else d } }

/-- DATA_DN frames of a channel's awake machines while the burst has time and the duty limiter lets them (R223). -/
def State.sendDataDn (w m : Nat) : State → (left : Nat) → List AirData → State × Nat
  | s, left, [] => (s, left)
  | s, left, e :: rest =>
    if s.dutyFull m then (s.deferData (e :: rest), left)
    else
      let (n, s1) := s.nextFctr
      let f := { s1.airFrame Ft.DATA_DN (some (s.fldB e.mi F.AIR_MACH_REG_ADDR)) n 0 e.payload with more := rest.any fun r => r.mi == e.mi }
      let ns := 16000 + s1.frameNs m (s1.dlMcs w) f
      if left < ns then (s, left)
      else
        let s1 := { s1 with air := { s1.air with dataDn := s1.air.dataDn.erase e } }
        State.sendDataDn w m (s1.airPut m (s1.dlMcs w) (s1.airStart m 0) f) (left - ns) rest

/-- DOWNLINK_BURST (R212, R227–R234): a half of wide channel `w` opens. Records of machines that are not awake are not sent; machines
on a channel out of service receive none (R261). -/
def execDownlinkBurst (w : Nat) (s : State) : Result :=
  whileOn s Blk.AIR fun s =>
    if !s.airTransmits then s
    else
      let mine (mi : Nat) : Bool := (s.airM mi).wch == w && s.machAwake mi
      let others := s.air.recs.filter fun e => !mine e.1.mi && s.machAwake e.1.mi
      if !s.wideUp.contains w then { s with air := { s.air with recs := others } }
      else
        let m := s.wideM w
        let budget := s.dlUs w * 1000
        let recs := s.air.recs.filter fun e => mine e.1.mi
        let (s, t) := s.sendGrant w m
        let (s, left, rest) := State.sendAuth w m (recs.length + 1) s (budget - t) recs
        let s := { s with air := { s.air with recs := others ++ rest } }
        let (s, left) := State.sendDataDn w m s left (s.air.dataDn.filter fun e => mine e.mi)
        let pct := (budget - left) * 100 / budget
        { s with air := { s.air with dlPct := s.air.dlPct.set 0 m (max pct (s.air.dlPct.get 0 m)) } }

/-! ## Joining (R225, R226) -/

/-- STATUS of a JOIN_RSP and the channel: the supported one with the lowest planned use that has room. At expert level the host sets the
channel and the capacity limit does not apply (R246). -/
def State.joinChannel (s : State) (mi caps len : Nat) : Nat × Nat :=
  let ok := s.wideUp.filter fun w => s.capsSupport caps w
  if ok.isEmpty then (3, 0)
  else if s.expert Blk.AIR then
    let w := s.fldB mi F.AIR_MACH_GRANT0_WCH
    if ok.contains w then (0, w) else (0, ok.headD 0)
  else
    let k := max 1 (s.slvRate mi).req
    let room := ok.filter fun w => s.recordRoom w mi && ((List.range 11).any fun j => decide (k ≤ j) && (s.obsFit mi w 0 len j).isSome)
    match sortBy (fun a b => decide (s.plannedPct a ≤ s.plannedPct b)) room with
    | w :: _ => (0, w)
    | [] => (2, 0)

/-- A JOIN_RSP is sent on the modem of the request. MI, ADDR and WCH of a refusal are open where nothing gives them. -/
def State.joinRsp (s : State) (modem serial status : Nat) (mi : Option Nat) (wch : Nat) (relay : Bool) : State :=
  let (v, s) := s.draw
  let open' := v / 2048 % 65536
  let body := Bytes.ofNat 8 serial ++ Bytes.ofNat 1 status ++ Bytes.ofNat 2 (mi.getD (v % 2048))
    ++ Bytes.ofNat 2 (match mi with
      | some i => s.fldB i F.AIR_MACH_REG_ADDR
      | none => open')
    ++ Bytes.ofNat 1 (if status = 0 then wch else v % 8) ++ Bytes.ofNat 1 (s.modemIndex modem)
    ++ Bytes.ofNat 1 (s.fld F.AIR_LBT_CCA_DBM) ++ Bytes.ofNat 1 (b2n relay) ++ Bytes.ofNat 3 0
  let (n, s) := s.nextFctr
  s.airNormal modem (s.airFrame Ft.JOIN_RSP (some 0xFFFE) n 0 body)

/-- An accepted join: earlier grants withdrawn, the machine awake, new grants placed, event 128. The length of its bundles is not yet
known: a free value until the first comes. -/
def State.joinAccept (s : State) (mi modem caps wch : Nat) : State :=
  let was := (s.airM mi).state
  let s := s.withdraw mi
  let (v, s) := s.draw
  let old := s.airM mi
  let m : AirMach := { AirMach.none with
    state := .awake, caps := caps, wch := wch, ctrl := s.modemIndex modem, lastHeard := s.mono, resend := 3,
    bundleLen := if old.lenKnown then old.bundleLen else 32 + v % 1745, lenKnown := old.lenKnown, missed := old.missed }
  let s := s.setAirM mi m
  let s := if was = .asleep then s.raise Ev.AIR_WAKE 0 else s
  (s.grantAll mi).raise Ev.AIR_JOIN_OK mi

/-- A request to join (R225, R226). Answers the machine that joined, if one did. -/
def State.joinReq (s : State) (rx : AirRx) : State × Option Nat :=
  match s.airCheck rx with
  | (s, false) => (s, none)
  | (s, true) =>
    let p := (s.rxFrame rx).payload
    if !s.airTransmits || (s.rxFrame rx).ftype != Ft.JOIN_REQ || p.length != 16 || s.wideRx rx then (s, none)
    else
      let serial := Bytes.at' p 0 8
      let jctr := Bytes.at' p 8 4
      let caps := Bytes.at' p 12 1
      match s.miOfSerial serial with
      | none => ((s.raise Ev.AIR_JOIN_REFUSED 0).joinRsp rx.modem serial 1 none 0 false, none)
      | some mi =>
        if jctr < s.lastJctr serial then (s, none)
        else
          let r := s.joinChannel mi caps (s.airM mi).bundleLen
          if r.1 = 0 then
            ((((s.setJctr serial (jctr + 1)).joinAccept mi rx.modem caps r.2).airMachMirror mi).joinRsp rx.modem serial 0 (some mi) r.2
              (s.flagB mi F.AIR_MACH_REG_RELAY && bitOf caps 0), some mi)
          else ((s.raise Ev.AIR_JOIN_REFUSED 0).joinRsp rx.modem serial r.1 (some mi) 0 false, none)

/-! ## Awake machines (R233, R235) -/

/-- RPT_RX (R233, R235): the report of a machine. A DL_SNR that needs a lower DL_MCS lowers it at once. -/
def execRptRx (rx : AirRx) (s : State) : Result :=
  whileOn s Blk.AIR fun s =>
    match s.airFrom Ft.RPT rx with
    | (s, none) => s
    | (s, some mi) =>
      let p := (s.rxFrame rx).payload
      if p.length != 8 then s
      else
        let m := s.airM mi
        let s := s.setAirM mi { m with dlSnr := Bytes.at' p 0 1, upPend := Bytes.at' p 2 2 }
        if !s.expert Blk.AIR && s.isActive && decide (s.dlTarget m.wch < s.dlMcs m.wch) then s.setDlMcs m.wch (s.dlTarget m.wch) else s

/-- An awake machine silent for 10 s is marked lost (R233). -/
def State.machSilent (s : State) (mi : Nat) : Bool :=
  (s.airM mi).state == .awake && s.passed (s.airM mi).lastHeard (10 * nsPerSec) && !s.isStandby
def State.machLost (s : State) (mi : Nat) : State :=
  (s.setAirM mi { s.airM mi with state := .lost, lostAt := s.mono }).raise Ev.AIR_MACH_LOST 0

/-- LOST_GRANTS_WITHDRAW (R233): 20 s later its grants are withdrawn. -/
def execLostGrantsWithdraw (mi : Nat) (s : State) : Result :=
  whileOn s Blk.AIR fun s =>
    if (s.airM mi).state = .lost ∧ s.passed (s.airM mi).lostAt (20 * nsPerSec) ∧ s.isStandby = false then s.withdraw mi else s

/-- A MOVE whose superframe has begun applies: grants on the new channel, event 132. -/
def State.moveApply (s : State) (mi : Nat) : State :=
  let m := s.airM mi
  match m.move with
  | some (w, t) =>
    if s.devClause < t then s
    else
      let s := s.withdraw mi
      let s := s.setAirM mi { s.airM mi with wch := w, move := none, resend := 3 }
      (s.grantAll mi).raise Ev.AIR_CH_MOVE 0
  | none => s

/-- A machine that has acknowledged SLEEP enters sleep at a superframe start (R236), event 133. -/
def State.sleepApply (s : State) (mi : Nat) : State :=
  let m := s.airM mi
  if m.sleepAcked && m.state == .awake then
    (s.setAirM mi { m with state := .asleep, sleepSent := false, sleepAcked := false, polled := false, missed := 0, ontime := 0 }).raise
      Ev.AIR_SLEEP 0
  else s

/-- A channel is overloaded (R235): planned use above LOAD_PCT, or its records no longer fit a burst. -/
def State.overloaded (s : State) (w : Nat) : Bool :=
  decide (s.fld F.AIR_WIDE_LOAD_PCT < s.plannedPct w)
    || decide (s.dlUs w * 1000 < burstNs (s.wideBw w) (s.dlMcs w) (s.onWide w).length)

/-- One machine of the first overloaded channel is moved: the lowest MI that another channel takes. -/
def State.moveOne (s : State) : State :=
  match s.wideUp.find? s.overloaded with
  | none => s
  | some w =>
    match ((s.onWide w).filter fun mi => s.machAwake mi && (s.airM mi).move.isNone).findSome? fun mi =>
        ((s.moveTargets mi (max 1 (s.airM mi).obs.k)).head?).map fun t => (mi, t) with
    | some (mi, t) => s.sendMove mi t
    | none => s

/-- SUPERFRAME_START (R234–R236): moves and sleeps due apply; at basic level DL_MCS is recomputed and one machine may be moved. -/
def execSuperframeStart (s : State) : Result :=
  whileOn s Blk.AIR fun s =>
    let s := s.wideUp.foldl (fun s w => s.setFldB (s.wideM w) F.AIR_MOD_STAT_DL_PCT (s.air.dlPct.get 0 (s.wideM w))) s
    let s := { s with air := { s.air with dlPct := [] } }
    if s.isStandby then s
    else
      let s := s.airMis.foldl (fun s mi => (s.moveApply mi).sleepApply mi) s
      if s.expert Blk.AIR || !s.isActive then s
      else (s.wideUp.foldl (fun s w => s.setDlMcs w (s.dlTarget w)) s).moveOne

/-! ## Sleeping machines (R236–R239) -/

/-- The machine `AIR_MACH_IDX` names. -/
def State.airIdx (s : State) : Nat := s.fld F.AIR_MACH_IDX_MI

/-- The guard a command gives: at basic level and for 0 MIN_100US; none where it lies outside its range. -/
def State.cmdGuard (s : State) (g : Nat) : Option Nat :=
  let lo := s.fld F.AIR_GUARD_MIN_100US
  if !s.expert Blk.AIR || g = 0 then some lo
  else if lo ≤ g ∧ g ≤ s.fld F.AIR_GUARD_MAX_100US then some g else none

/-- SLEEP: port 0 SLEEP goes to an awake machine and its wide grants are withdrawn. -/
def State.airSleep (s : State) (guard : Nat) : State :=
  let mi := s.airIdx
  match s.cmdGuard guard with
  | none => s
  | some g =>
    if !s.machAwake mi || s.isStandby then s
    else
      let body := [0#8, 0#8] ++ Bytes.ofNat 1 2 ++ Bytes.ofNat 1 (s.fldB mi F.AIR_MACH_PARENT_WAKE_SF)
        ++ Bytes.ofNat 1 (s.fldB mi F.AIR_MACH_PARENT_WAKE_BI) ++ Bytes.ofNat 2 g ++ Bytes.ofNat 2 (s.fldB mi F.AIR_MACH_PARENT_PARENT)
      let s := (s.airData mi body).withdraw mi
      let m := s.airM mi
      s.setAirM mi { m with guard := g, sleepSent := true, upPend := max m.upPend 1 }

/-- WAKE: held for the next poll. -/
def State.airWake (s : State) : State :=
  let mi := s.airIdx
  if (s.airM mi).state = .asleep ∧ s.isStandby = false then s.setAirM mi { s.airM mi with wakeHeld := true } else s

/-- DETACH: grants are withdrawn, the machine must join again. -/
def State.airDetach (s : State) : State :=
  let mi := s.airIdx
  if s.isStandby || (s.airM mi).state == .notJoined then s
  else
    let s := s.withdraw mi
    s.setAirM mi { s.airM mi with state := .notJoined, move := none, sleepSent := false, sleepAcked := false, heldFrames := [] }

/-- GUARD: at expert level, the guard of the next POLL_RSP. -/
def State.airGuard (s : State) (guard : Nat) : State :=
  let mi := s.airIdx
  match s.cmdGuard guard with
  | some g => if s.expert Blk.AIR && !s.isStandby then s.setAirM mi { s.airM mi with guard := g } else s
  | none => s

/-- MACH_SLEEP, MACH_WAKE, MACH_GUARD (R236, R237, R246, R247): `AIR_MACH_CMD` for the machine of `AIR_MACH_IDX`. -/
def execMachSleep (guard : Nat) (s : State) : Result := whileOn s Blk.AIR fun s => s.airSleep guard
def execMachWake (s : State) : Result := whileOn s Blk.AIR State.airWake
def execMachGuard (guard : Nat) (s : State) : Result := whileOn s Blk.AIR fun s => s.airGuard guard

/-- The guard after a poll (R239), with its events. -/
def State.pollGuard (s : State) (mi : Nat) (late : Bool) : State :=
  let m := s.airM mi
  let lo := s.fld F.AIR_GUARD_MIN_100US
  if s.expert Blk.AIR then s.setAirM mi { m with ontime := if late then 0 else min 16 (m.ontime + 1) }
  else if late then
    (s.setAirM mi { m with guard := min (2 * m.guard) (s.fld F.AIR_GUARD_MAX_100US), ontime := 0 }).raise Ev.AIR_POLL_LATE 0
  else if m.ontime + 1 < 16 then s.setAirM mi { m with ontime := m.ontime + 1 }
  else
    let g := max lo (m.guard / 2)
    let s := s.setAirM mi { m with guard := g, ontime := 0 }
    if g = lo ∧ m.guard ≠ lo then s.raise Ev.AIR_GUARD_MIN 0 else s

/-- The held frames follow on the control channel, the last with MORE = 0. -/
def State.sendHeld (modem addr : Nat) : State → List (List Byte) → State
  | s, [] => s
  | s, p :: rest =>
    let (n, s) := s.nextFctr
    State.sendHeld modem addr (s.airNormal modem { s.airFrame Ft.DATA_DN (some addr) n 0 p with more := !rest.isEmpty }) rest

/-- A poll is answered (R237). One of a machine that is not asleep is told to rejoin. At the duty limit the held frames stay held, each counted
as deferred. -/
def State.pollRsp (s : State) (mi modem : Nat) : State :=
  let m := s.airM mi
  let asleep := m.state == .asleep
  let wake := asleep && m.wakeHeld
  let full := s.dutyFull modem
  let held := if full then [] else m.heldFrames
  let addr := s.fldB mi F.AIR_MACH_REG_ADDR
  let body := Bytes.ofNat 1 (b2n wake + 2 * b2n (!asleep)) ++ Bytes.ofNat 1 held.length ++ Bytes.ofNat 2 m.guard
    ++ Bytes.ofNat 1 (s.fldB mi F.AIR_MACH_PARENT_WAKE_SF) ++ Bytes.ofNat 1 (s.fldB mi F.AIR_MACH_PARENT_WAKE_BI) ++ Bytes.ofNat 2 0
  let (n, s) := s.nextFctr
  let s := s.airNormal modem { s.airFrame Ft.POLL_RSP (some addr) n 0 body with more := !held.isEmpty }
  let s := if full then m.heldFrames.foldl (fun s _ => s.dutyDefer) s
    else (State.sendHeld modem addr s held).setAirM mi { m with heldFrames := [] }
  if wake then (s.setAirM mi { s.airM mi with state := .notJoined, wakeHeld := false }).raise Ev.AIR_WAKE 0 else s

/-- POLL_RX (R237–R239): a poll, direct or retransmitted by a relay parent, whose address DST may then be. -/
def execPollRx (rx : AirRx) (s : State) : Result :=
  whileOn s Blk.AIR fun s =>
    match s.airFrom Ft.POLL rx with
    | (s, none) => s
    | (s, some mi) =>
      if !s.airTransmits || (s.rxFrame rx).payload.length != 4 then s
      else
        let s := s.setAirM mi { s.airM mi with polled := true }
        ((if (s.airM mi).state = .asleep then s.pollGuard mi (s.rxFrame rx).late else s)).pollRsp mi rx.modem

/-- The present moment ends the BI after a wake BI of a machine. -/
def State.pollDue (s : State) (mi : Nat) : Bool :=
  let t := s.devClause - 100
  decide (100 ≤ s.devClause) && t / 1000 % (s.fldB mi F.AIR_MACH_PARENT_WAKE_SF) == mi % (s.fldB mi F.AIR_MACH_PARENT_WAKE_SF)
    && t % 1000 / 50 == s.fldB mi F.AIR_MACH_PARENT_WAKE_BI

/-- POLL_MISSED (R237): by the end of the BI after the wake BI no poll has come: it is counted, with event 135 at most once per minute
per machine. -/
def execPollMissed (mi : Nat) (s : State) : Result :=
  whileOn s Blk.AIR fun s =>
    let m := s.airM mi
    if s.isStandby || m.state != .asleep || !s.pollDue mi then s
    else if m.polled then s.setAirM mi { m with polled := false }
    else
      let due := dueSince s m.missEvent (60 * nsPerSec)
      let s := (s.setAirM mi { m with missed := min 65535 (m.missed + 1), missEvent := if due then some s.mono else m.missEvent }).bump
        (F.AIR_CNT_COUNT.nth 4)
      if due then s.raise Ev.AIR_POLL_MISSED 0 else s

/-! ## Stop requests and floods (R219, R220, R242, R243) -/

/-- A flooded frame enters the seen-cache of 256 entries. -/
def State.airSaw (s : State) (f : AirFrame) : State :=
  let l := s.air.seen ++ [(f.src, f.fseq)]
  { s with air := { s.air with seen := l.drop (l.length - 256) } }

/-- The enabled sender with an address. -/
def State.senderOf (s : State) (a : Nat) : Option Nat :=
  (List.range 64).find? fun n => s.flagB n F.AIR_SND_CFG_EN && s.fldB n F.AIR_SND_CFG_ADDR == a

/-- A STOP_REQ that fails R220. -/
def State.stopReqFail (s : State) : State := (s.bump (F.AIR_CNT_COUNT.nth 1)).raise Ev.AIR_STOP_REQ_INVALID 0

/-- A valid air stop request (R95, R220): event 72, and with `AUT_FSTOP.AIR_EN` the FULL STOP source AIR. -/
def State.airStop (s : State) (snd sctr : Nat) : State :=
  let s := ({ s with nand := { s.nand with sndCtr := s.nand.sndCtr.set 0 snd sctr } }).airChanMirror
  let s := s.raise Ev.AUT_AIR_STOP_RX 0
  if s.blkOn Blk.AUT && s.flag F.AUT_FSTOP_AIR_EN then (s.setAut fun a => { a with fsAir := true }).fsSource 0x04 else s

/-- STOP_REQ_RX (R216, R220). A standby passes none to AUT (R312). -/
def execStopReqRx (rx : AirRx) (s : State) : Result :=
  whileOn s Blk.AIR fun s =>
    match s.airAddressed rx with
    | (s, false) => s
    | (s, true) =>
      let f := s.rxFrame rx
      if s.air.seen.contains (f.src, f.fseq) || s.isStandby || f.ftype != Ft.STOP_REQ || s.wideRx rx then s
      else if !s.cmacGood rx then s.cmacEvent.stopReqFail
      else
        let s := s.airSaw f
        match s.senderOf f.src with
        | none => s.stopReqFail
        | some n =>
          let sctr := Bytes.at' f.payload 0 4
          if f.payload.length != 8 || Bytes.at' f.payload 4 1 != 1 || decide (sctr ≤ s.nand.sndCtr.get 0 n) then s.stopReqFail
          else s.airStop n sctr

/-- FLOOD_RELAY_RX (R216, R242): the module never relays; a relay it hears of its own floods is counted. -/
def execFloodRelayRx (rx : AirRx) (s : State) : Result :=
  whileOn s Blk.AIR fun s =>
    match s.airAddressed rx with
    | (s, false) => s
    | (s, true) =>
      let f := s.rxFrame rx
      if !s.cmacGood rx then s.cmacFail
      else if f.relayed && f.ftype == Ft.STOP && f.src == s.airAddr && !s.wideRx rx then s.bump (F.AIR_CNT_COUNT.nth 3)
      else s

/-! ## Grants at expert level (R246) -/

/-- Ticks `start` to `start + len - 1` lie in the uplink region of channel `w` (R227). -/
def State.inRegion (s : State) (w start len : Nat) : Bool := decide (s.firstTick w ≤ start) && decide (start + len ≤ lastTick)

/-- A write to `AIR_MACH_GRANT1` applies GRANT0 and GRANT1 under R228; at basic level it is ignored, and so is one of a grant outside
the uplink region (log 83). -/
def State.grant1Write (s : State) (w : Word) : State :=
  let mi := s.airIdx
  if !s.expert Blk.AIR || (s.fldB mi F.AIR_MACH_GRANT0_K != 0
      && !s.inRegion (s.fldB mi F.AIR_MACH_GRANT0_WCH) (F.AIR_MACH_GRANT1_START.get w) (F.AIR_MACH_GRANT1_LEN.get w)) then s
  else thenIf (s.hostReg R.AIR_MACH_GRANT1 w) fun s =>
    let m := s.airM mi
    if !s.blkOn Blk.AIR || m.state == .notJoined || m.state == .asleep then s
    else
      let k := s.fldB mi F.AIR_MACH_GRANT0_K
      let wch := s.fldB mi F.AIR_MACH_GRANT0_WCH
      let mcs := s.fldB mi F.AIR_MACH_GRANT0_MCS_UL
      let g : Grant := if k = 0 then Grant.none else
        ⟨k, s.fldB mi F.AIR_MACH_GRANT0_OFS, s.fldB mi F.AIR_MACH_GRANT0_HALF, 0, s.fldB mi F.AIR_MACH_GRANT1_START, s.fldB mi F.AIR_MACH_GRANT1_LEN⟩
      let moved := m.wch != wch
      let s := if moved then s.withdraw mi else s
      let s := s.setAirM mi { s.airM mi with wch := wch, mcsUl := mcs, resend := 3 }
      let s := s.regrant mi g (s.airM mi).rpt
      if moved then s.grantRpt mi else s

/-- A write to `AIR_MACH_GRANT2`: with RPT_SET = 1 the host's RPT grant applies, inside the uplink region; otherwise AIR places it. -/
def State.grant2Write (s : State) (w : Word) : State :=
  let mi := s.airIdx
  if !s.expert Blk.AIR || (F.AIR_MACH_GRANT2_RPT_SET.get w == 1
      && !s.inRegion (s.airM mi).wch (F.AIR_MACH_GRANT2_START.get w) (F.AIR_MACH_GRANT2_LEN.get w)) then s
  else thenIf (s.hostReg R.AIR_MACH_GRANT2 w) fun s =>
    let m := s.airM mi
    if !s.blkOn Blk.AIR || m.state == .notJoined || m.state == .asleep then s
    else if s.flagB mi F.AIR_MACH_GRANT2_RPT_SET then
      (s.setAirM mi { m with rptSet := true }).regrant mi m.obs
        ⟨1, 0, s.fldB mi F.AIR_MACH_GRANT2_HALF, s.fldB mi F.AIR_MACH_GRANT2_BI, s.fldB mi F.AIR_MACH_GRANT2_START, s.fldB mi F.AIR_MACH_GRANT2_LEN⟩
    else (s.setAirM mi { m with rptSet := false }).grantRpt mi

/-- OBS_GRANT_APPLY (R246). -/
def execObsGrantApply (value : Word) (s : State) : Result := whileRunning s fun s => s.grant1Write value

/-- RPT_GRANT_APPLY (R246). -/
def execRptGrantApply (value : Word) (s : State) : Result := whileRunning s fun s => s.grant2Write value

end Sys2Proof.Machine
end

