-- ==== Sys2Proof/Machine/Power.lean ====
section
/-!
DEFINITION. The Power Leave Arbiter (R360–R363): allowances, leaves, the budget. Machine/Reset.lean has the tests and resets.
-/

namespace Sys2Proof.Machine

/-! ## Committed power (R361, R362) -/

/-- The lanes awake without a leave. -/
def State.baseLanes (s : State) : Nat := (s.slv.lanes.filter fun e => e.2.awake && !e.2.leave).length

/-- BASE_MW. -/
def State.baseMw (s : State) : Nat :=
  9000 + (if s.blkOn Blk.GRX then 3000 else 0) + 500 * ((List.range 2).filter fun p => s.flagB p F.ETH_PORT_CFG_TX_EN).length
    + (if s.blkOn Blk.RHL then 1000 else 0)
    + (if s.airTransmits then 150 * (s.modemsOf Phy.NARROW).length + 900 * (s.modemsOf Phy.WIDE).length else 0)
    + 450 * s.baseLanes + (if s.blkOn Blk.CLS then 1500 else 0)
    + (if s.blkOn Blk.AUT || s.blkOn Blk.DSP || s.blkOn Blk.LPE then 500 else 0)
    + (if s.blkOn Blk.DMU && s.isActive then 300 else 0)

/-- The leave of the running maintenance test. -/
def State.testMw (s : State) : Nat :=
  match s.pwr.test with
  | some t => t.mw
  | none => 0

/-- The sum of leaves held: lanes, host, test. -/
def State.grantedMw (s : State) : Nat :=
  450 * s.pwr.laneLeaves.length + (if s.flag F.PWR_HOST_LEAVE_GRANTED then s.fld F.PWR_HOST_LEAVE_MW else 0) + s.testMw

/-- Committed power. -/
def State.committed (s : State) : Nat := s.baseMw + s.grantedMw

/-- BUDGET_MW. -/
def State.budget (s : State) : Nat := s.fld F.PWR_BUDGET_BUDGET_MW

/-! ## Deferral and withdrawal of tests (R361, R364) -/

/-- The unit codes of `PWR_TEST_STAT.UNIT`. -/
def TestUnit.code : TestUnit → Nat
  | .lane => 1
  | .modem => 2
  | .channel => 3
  | .queue => 4

/-- `PWR_TEST_STAT`. -/
def State.testStat (s : State) (unit result defer index : Nat) : State :=
  (((s.setFld F.PWR_TEST_STAT_UNIT unit).setFld F.PWR_TEST_STAT_RESULT result).setFld F.PWR_TEST_STAT_DEFER defer).setFld F.PWR_TEST_STAT_INDEX index

/-- A test of a unit is deferred for a reason (R364), with event 7. -/
def State.testDefer (s : State) (u : TestUnit) (i reason : Nat) : State :=
  ((s.testStat u.code 4 reason i).bump (F.PWR_CNT_COUNT.nth 2)).raise Ev.PWR_TEST_DEFERRED (i + reason * 65536)

/-- The maintenance leave held is withdrawn: its test ends and counts as deferred with reason 1. -/
def State.testWithdraw (s : State) : State :=
  match s.pwr.test with
  | some t =>
    let s := { s with pwr := { s.pwr with test := none } }
    (s.bump (F.PWR_CNT_COUNT.nth 3)).testDefer t.unit t.index 1
  | none => s

/-! ## The arbiter (R360, R361) -/

/-- The classes of R361. -/
inductive LeaveClass where
  | service | bulk | maintenance
  deriving DecidableEq, Repr

/-- Event 3, at most once per second: the requester of R468 and the amount. -/
def State.leaveRefused (s : State) (who mw : Nat) : State :=
  let s := s.bump (F.PWR_CNT_COUNT.nth 1)
  if dueSince s s.pwr.lastRefused nsPerSec then
    ({ s with pwr := { s.pwr with lastRefused := some s.mono } }).raise Ev.PWR_LEAVE_REFUSED (who + mw % 65536 * 65536)
  else s

/-- A request of requester `who`. Answers whether it is granted; the requester records the leave. -/
def State.leave (s : State) (c : LeaveClass) (who mw : Nat) : State × Bool :=
  let grant (s : State) : State × Bool := (s.bump (F.PWR_CNT_COUNT.nth 0), true)
  match c with
  | .maintenance =>
    if s.committed + mw + s.fld F.PWR_BUDGET_HEADROOM_MW ≤ s.budget then grant s else (s.leaveRefused who mw, false)
  | .bulk => if s.committed + mw ≤ s.budget then grant s else (s.leaveRefused who mw, false)
  | .service =>
    if s.committed + mw ≤ s.budget then grant s
    else if s.pwr.test.isSome && decide (s.committed - s.testMw + mw ≤ s.budget) then grant s.testWithdraw
    else (s.leaveRefused who mw, false)

/-- The figures against the budget after a change (R363): over it, maintenance leaves are withdrawn, OVER is set and event 4 raised;
OVER clears once committed power fits. -/
def State.powerCheck (s : State) (budgetWrite : Bool := false) : State :=
  if decide (s.budget < s.baseMw) || (budgetWrite && decide (s.budget < s.committed)) then
    let was := s.flag F.PWR_STATUS_OVER
    let s := s.testWithdraw.setFld F.PWR_STATUS_OVER 1
    if was then s else s.raise Ev.PWR_BUDGET_OVER 0
  else if s.committed ≤ s.budget then s.setFld F.PWR_STATUS_OVER 0
  else s

/-! ## Host leaves and the budget (R363, R386) -/

/-- A host request of the size and class its register holds. -/
def State.hostLeave (s : State) : State :=
  let mw := s.fld F.PWR_HOST_LEAVE_MW
  match s.leave (if s.fld F.PWR_HOST_LEAVE_CLASS = 1 then .service else .bulk) 2 mw with
  | (s, true) => (s.setFld F.PWR_HOST_LEAVE_GRANTED 1).setFld F.PWR_HOST_LEAVE_RESULT 1
  | (s, false) => s.setFld F.PWR_HOST_LEAVE_RESULT 2

/-- A write to `PWR_HOST_LEAVE`: 0 mW returns the leave held; a size requests one, while none is held. A size written while one is held
changes nothing of it. -/
def State.hostLeaveWrite (s : State) (w : Word) : State :=
  let held := s.flag F.PWR_HOST_LEAVE_GRANTED
  let mw := F.PWR_HOST_LEAVE_MW.get w
  let cls := F.PWR_HOST_LEAVE_CLASS.get w
  if mw = 0 then
    if held then ((s.setFld F.PWR_HOST_LEAVE_GRANTED 0).setFld F.PWR_HOST_LEAVE_MW 0).powerCheck else s
  else if held || cls = 0 || cls = 3 then s
  else ((s.setFld F.PWR_HOST_LEAVE_CLASS cls).setFld F.PWR_HOST_LEAVE_MW mw).hostLeave

/-- HOST_LEAVE_WRITE (R386): a write to `PWR_HOST_LEAVE`. -/
def execHostLeaveWrite (value : Word) (s : State) : Result := whileRunning s fun s => s.hostLeaveWrite value

/-- A write to `PWR_BUDGET` (R363). -/
def State.budgetWrite (s : State) (w : Word) : State := thenIf (s.hostReg R.PWR_BUDGET w) fun s => s.powerCheck true

/-- BUDGET_WRITE (R363): a write to `PWR_BUDGET`. -/
def execBudgetWrite (value : Word) (s : State) : Result := whileRunning s fun s => s.budgetWrite value

end Sys2Proof.Machine
end

