-- ==== Sys2Proof/Machine/Solve.lean ====
section
/-!
DEFINITION. The Solve Array (R112–R149): intake, matching, lanes, classes, rates. The arithmetic of a lane is in Filter.lean.
-/

namespace Sys2Proof.Machine

/-- Change SLV's state. -/
def State.setSlv (s : State) (f : SlvSt → SlvSt) : State := { s with slv := f s.slv }

/-- SLV's counters (R147). -/
def slvCnt (n : Nat) : Fld := F.SLV_CNT_COUNT.nth n

/-- SLV solves: on the module, not on a standby (R312). -/
def State.slvSolves (s : State) : Bool := s.blkOn Blk.SLV && !s.isStandby

/-- A command of SLV's that a standby does not take. -/
def State.slvOn (s : State) (f : State → State) : State := s.on Blk.SLV fun s => if s.isStandby then s else f s

/-- A machine is registered with SLV. -/
def State.slvValid (s : State) (mi : Nat) : Bool := s.flagB mi F.SLV_MACH_CFG_VALID

/-- The registered machines. -/
def State.slvMis (s : State) : List Nat := (List.range 2048).filter s.slvValid

/-- A machine's filter, and setting it. -/
def State.slvFilter (s : State) (mi : Nat) : SlvFilter := s.slv.filters.get SlvFilter.fresh mi
def State.setFilter (s : State) (mi : Nat) (f : SlvFilter) : State :=
  s.setSlv fun v => { v with filters := v.filters.set SlvFilter.fresh mi f }

/-! ## Lanes (R131, R134–R136) -/

/-- The roles of R131. -/
def State.laneRole (s : State) (l : Nat) : Nat :=
  match s.sim.applied with
  | some img => Bytes.at' (imgSec img Sec.LANES Blk.SLV) l 1
  | none => 0

/-- A lane is out of service by fault or test. -/
def State.laneOut (s : State) (l : Nat) : Bool :=
  s.pwr.outOfService.contains (TestUnit.lane, l) || (match s.pwr.test with
    | some t => t.unit == .lane && t.index == l
    | none => false)

/-- The lanes in service for machine epochs, ascending. -/
def State.lanesIn (s : State) : List Nat :=
  (List.range 32).filter fun l => (s.laneRole l == 1 || s.laneRole l == 2) && !s.laneOut l

/-- A lane, and setting it. -/
def State.lane (s : State) (l : Nat) : SlvLane := s.slv.lanes.get SlvLane.asleep l
def State.setLane (s : State) (l : Nat) (v : SlvLane) : State := s.setSlv fun x => { x with lanes := x.lanes.set SlvLane.asleep l v }

/-- The awake lanes in service for machine epochs. -/
def State.lanesAwake (s : State) : List Nat := s.lanesIn.filter fun l => (s.lane l).awake

/-- The lanes SLV wants awake: A of them by plan, at expert level those of `SLV_WAKE`, whatever their role but OFF; none on a standby. -/
def State.lanesWanted (s : State) : List Nat :=
  if !s.slvSolves then []
  else if s.expert Blk.SLV then
    (List.range 32).filter fun l => decide (1 ≤ s.laneRole l) && decide (s.laneRole l ≤ 3) && !s.laneOut l && bitOf (s.reg R.SLV_WAKE).toNat l
  else s.lanesIn.take s.slv.awakeWant

/-- The lanes that draw on the base budget. -/
def State.lanesBase (s : State) : List Nat := s.lanesIn.take (s.fld F.SLV_LANES_RESERVE + 1)

/-- A lane wakes, on a leave or on the base budget. -/
def State.laneWake (s : State) (l : Nat) (leave : Bool) : State :=
  let s := s.setLane l { s.lane l with awake := true, leave := leave, idleAt := s.mono }
  if leave then { s with pwr := { s.pwr with laneLeaves := s.pwr.laneLeaves ++ [l] } } else s

/-- A lane sleeps and returns its leave. -/
def State.laneSleep (s : State) (l : Nat) : State :=
  let s := s.setLane l SlvLane.asleep
  { s with pwr := { s.pwr with laneLeaves := s.pwr.laneLeaves.erase l } }

/-- SLV requests the leave of a lane (R135, R136); a refusal raises event 89 and is tried again after 100 ms. -/
def State.laneLeave (s : State) (l : Nat) : State :=
  match s.leave .service 1 450 with
  | (s, true) => s.laneWake l true
  | (s, false) => (s.setSlv fun v => { v with refusedAt := some s.mono }).raise Ev.SLV_LEAVE_REFUSED 0

/-- Wanted lanes wake. -/
def State.slvLanes (s : State) : State :=
  (s.lanesWanted.foldl (fun s l =>
    if (s.lane l).awake then s
    else if s.lanesBase.contains l then s.laneWake l false
    else if s.slv.refusedAt.isSome then s
    else s.laneLeave l) s).powerCheck

/-! ## Bundles (R112–R117) -/

/-- Whether a bundle from machine `mi` is valid (R115). -/
def State.bundleOk (s : State) (mi : Nat) (p : List Byte) : Bool :=
  let nsat := Bytes.at' p 3 1
  let nsig := Bytes.at' p 14 1
  let off := signedOf 32 (Bytes.at' p 9 4)
  decide (16 ≤ p.length) && decide (1 ≤ nsat) && decide (nsat ≤ 40) && decide (1 ≤ nsig) && decide (nsig ≤ 120)
    && (satBlocks nsat (p.drop 16)).map blockCount == some nsig && Bytes.at' p 4 5 % 100 == 0 && decide (-1000000 ≤ off) && decide (off ≤ 1000000)
    && Bytes.at' p 0 2 % 2048 == mi && s.slvValid mi

/-- An invalid bundle is discarded and counted, event 93 at most once per second. -/
def State.bundleInvalid (s : State) : State :=
  let s := s.bump (slvCnt 3)
  if dueSince s s.slv.lastInvalid nsPerSec then
    (s.setSlv fun v => { v with lastInvalid := some s.mono }).raise Ev.SLV_BUNDLE_INVALID 0
  else s

/-- A bundle enters the intake (R117): a waiting bundle of the machine with an earlier epoch is superseded; one that is not
earlier supersedes the new one. -/
def State.intakeAdd (s : State) (b : Bundle) : State :=
  let add (s : State) : State :=
    let s := s.setSlv fun v => { v with intake := v.intake ++ [b] }
    let n := s.slv.intake.length
    let s := s.setFld F.SLV_INTAKE_HIGHWATER (max n (s.fld F.SLV_INTAKE_HIGHWATER))
    if n = 3072 then s.raise Ev.SLV_INTAKE_HIGH 0 else s
  match s.slv.intake.find? (fun c => c.mi == b.mi) with
  | none => add s
  | some old =>
    let s := s.bump (slvCnt 2)
    if b.epoch ≤ old.epoch then s else add (s.setSlv fun v => { v with intake := v.intake.erase old })

/-- The bundle its bytes spell (R112–R116). -/
def bundleRead (mi : Nat) (p : List Byte) : Bundle :=
  let flags := Bytes.at' p 2 1
  { mi := mi, epoch := Bytes.at' p 4 5, restart := bitOf flags 0, static := bitOf flags 1, bseq := Bytes.at' p 13 1, link := false,
    obs := bundleObs (signedOf 32 (Bytes.at' p 9 4)) ((satBlocks (Bytes.at' p 3 1) (p.drop 16)).getD []), matched := none, ref := none,
    noSearch := false, void := false }

/-- A bundle's bytes arrive from a machine. -/
def State.bundleIn (s : State) (mi : Nat) (p : List Byte) : State :=
  if s.bundleOk mi p then s.intakeAdd (bundleRead mi p) else s.bundleInvalid

/-- OBS_FRAME_RX (R230): AIR checks the frame and places its bundle in the intake. A standby passes none to SLV (R312). -/
def execObsFrameRx (rx : AirRx) (s : State) : Result :=
  whileOn s Blk.AIR fun s =>
    match s.airFrom Ft.OBS rx with
    | (s, none) => s
    | (s, some mi) =>
      let p := (s.rxFrame rx).payload
      let s := s.learnLen mi p.length
      if s.slvSolves then s.bundleIn mi p else s

/-! ## The reference (R139–R142) -/

/-- An auxiliary stream, and setting it. -/
def State.auxSt (s : State) (n : Nat) : SlvAux := s.slv.aux.get SlvAux.idle n
def State.setAux (s : State) (n : Nat) (a : SlvAux) : State := s.setSlv fun v => { v with aux := v.aux.set SlvAux.idle n a }

/-- The lowest LIVE stream that may serve in fallback; none at expert level. -/
def State.auxFallback (s : State) : Option Nat :=
  if s.expert Blk.SLV then none
  else (List.range 4).find? fun n => s.flagB n F.SLV_AUX_CFG_EN && s.flagB n F.SLV_AUX_CFG_FALLBACK && (s.auxSt n).live

/-- The newest usable reference epoch (R139): SLV's own age and AUT's. -/
def State.refUsable (s : State) (epoch : Nat) : State :=
  (s.setSlv fun v => { v with lastOk := some (max (v.lastOk.getD 0) epoch), lastOkAt := some (max (v.lastOkAt.getD 0) (s.epochAt epoch)) }).autRefEpoch epoch

/-- Fallback begins, where a stream can serve and prediction has ended (R142); otherwise no reference is left. -/
def State.fallbackTry (s : State) : State :=
  match s.auxFallback with
  | some n => (s.setSlv fun v => { v with mode := .fallback n }).raise Ev.SLV_AUX_FALLBACK 0
  | none => s.setSlv fun v => { v with mode := .none }

/-- GRX delivers a reference set (R117, R141). -/
def State.slvRefSet (s : State) (r : RefEpoch) : State :=
  if !s.blkOn Blk.SLV then s
  else
    let s := s.setSlv fun v => { v with refs := (v.refs.filter fun q => decide (r.epoch ≤ q.epoch + 2000)) ++ [r] }
    if !r.usable then s
    else
      let s := match s.slv.mode with
        | .predicted => s.raise Ev.SLV_REF_BACK 0
        | .fallback _ => (s.raise Ev.SLV_AUX_FALLBACK 0).raise Ev.SLV_REF_BACK 0
        | .none => if s.slv.lastOk.isSome then s.raise Ev.SLV_REF_BACK 0 else s
        | .grx => s
      let s := if s.slv.ant != 0 && s.slv.ant != r.ant then s.raise Ev.SLV_REF_ANTENNA 0 else s
      (s.setSlv fun v => { v with mode := .grx, ant := r.ant }).refUsable r.epoch

/-- REFERENCE_SET_TIMEOUT (R117, R140, R142): 12 ms after an epoch no usable set of it exists; prediction starts, with event 83, or where
PRED_MS is 0 ends at once. With no reference and nothing to predict from, a stream may serve. -/
def execReferenceSetTimeout (epoch : Nat) (s : State) : Result :=
  whileOn s Blk.SLV fun s =>
    let have' := s.slv.refs.any fun r => r.epoch == epoch && r.usable
    if have' || decide (s.devClause < epoch + 12) then s
    else if s.slv.mode = .none then s.fallbackTry
    else if s.slv.mode != .grx then s
    else if s.fld F.SLV_PRED_PRED_MS = 0 then
      let s := s.fallbackTry
      if s.slv.mode = .none then s.raise Ev.SLV_REF_NONE 0 else s
    else (s.setSlv fun v => { v with mode := .predicted }).raise Ev.SLV_REF_PREDICT 0

/-- PREDICTION_LIMIT (R140, R142): PRED_MS after the last usable epoch prediction ends, with fallback or without a reference. -/
def execPredictionLimit (s : State) : Result :=
  whileOn s Blk.SLV fun s =>
    let due : Bool := match s.slv.lastOkAt with
      | some t => s.passed t (s.fld F.SLV_PRED_PRED_MS * nsPerMs)
      | none => true
    if s.slv.mode = .predicted ∧ due then
      let s := s.fallbackTry
      if s.slv.mode = .none then s.raise Ev.SLV_REF_NONE 0 else s
    else s

/-- A lane that decodes streams is awake (R131): SHARED or AUX. -/
def State.auxLane (s : State) : Bool :=
  (List.range 32).any fun l => (s.laneRole l == 2 || s.laneRole l == 3) && !s.laneOut l && (s.lane l).awake

/-- The message in the oldest entry of the ring an entry of `SLV_AUX_CFG` names, an IN or a LOCAL one; empty where it is no RTCM frame. -/
def State.auxTake (s : State) (n at' len : Nat) (last : Bool) : State × Option (List Byte) :=
  let r := s.fldB n F.SLV_AUX_CFG_RING
  if !s.flagB n F.SLV_AUX_CFG_EN then (s, none)
  else match s.ringTake r (if s.ringDir r == dirLocal then dirLocal else dirIn) with
    | (t, some b) => (if last then t else { s with freeCtr := t.freeCtr }, some ((rtcmOpen (Bytes.slice b at' len)).getD []))
    | (t, none) => (t, none)

/-- The ephemeris a set of clause time `epoch` uses for a satellite (R159, R175): the newest accepted before the epoch. -/
def State.ephFor (s : State) (sat epoch : Nat) : Option GrxEph :=
  let t := match s.sim.applied with
    | some img => (epoch + imgEpoch img * 1000) * nsPerMs
    | none => 0
  (s.grx.eph.get [] sat).find? fun e => decide (e.at' ≤ t)

/-- An ephemeris is inside its fit interval (R162). -/
def GrxEph.fits (e : GrxEph) (epoch : Nat) : Bool := decide (e.fitFrom ≤ epoch) && decide (epoch ≤ e.fitTo)

/-- The observations of signals that the ephemerides in use report healthy (R162). -/
def State.healthyObs (s : State) (epoch : Nat) (obs : List Obs) : List Obs :=
  obs.filter fun o => (s.ephFor (keySat o.key) epoch).any fun e => e.healthy.contains (keySig o.key)

/-- A satellite of a set (R162): usable with an ephemeris inside its fit interval, a healthy signal, and an elevation of at least `mask`
degrees, where there is one. -/
def State.refSat (s : State) (epoch : Nat) (pos : List Int) (mask : Option Nat) (obs : List Obs) (sat : Nat) : RefSat :=
  match s.ephFor sat epoch with
  | some e =>
    let elev := Config.elevation e.content epoch pos
    let high : Bool := match mask with
      | some m => decide (100 * (m : Int) ≤ elev)
      | none => true
    ⟨sat, elev, e.fits epoch && high && (s.healthyObs epoch obs).any (fun o => keySat o.key == sat), some (e.issue, e.content)⟩
  | none => ⟨sat, 0, false, none⟩

/-- A reference epoch from a stream's observations: its satellites with the ephemerides GRX holds. -/
def State.auxRef (s : State) (n epoch : Nat) (pos : List Int) (obs : List Obs) : RefEpoch :=
  let sats := (obs.map fun o => keySat o.key).eraseDups.map (s.refSat epoch pos none obs)
  ⟨epoch, true, 10 + n, pos, sats, s.healthyObs epoch obs, []⟩

/-- An epoch of stream `n` is complete: the stream is LIVE from then on, and in fallback its epochs are the reference. -/
def State.auxEpoch (s : State) (n epoch : Nat) (obs : List Obs) : State :=
  let a := s.auxSt n
  let a := { a with
    epochs := (a.epochs.filter fun e => decide (epoch ≤ e.epoch + 2000)) ++ [s.auxRef n epoch (a.pos.getD []) obs], at' := some s.mono,
    latMs := min 65535 (s.devClause - epoch), live := a.pos.isSome, part := none }
  let s := s.setAux n a
  let s := s.setFldB n F.SLV_AUX_STAT_LAT_MS a.latMs
  let s := if s.slv.mode == .none && !s.isStandby then s.fallbackTry else s
  if s.slv.mode = .fallback n then s.refUsable epoch else s

/-- The site epoch of the applied image, TAI seconds. -/
def State.siteEpoch (s : State) : Nat :=
  match s.sim.applied with
  | some img => imgEpoch img
  | none => 0

/-- The observations of an MSM joined to those before it of the same epoch. -/
def joinObs (part : Option (Nat × List Obs)) (epoch : Nat) (obs : List Obs) : List Obs :=
  match part with
  | some (e, l) => if e = epoch then (l.filter fun o => !obs.any fun p => p.key == o.key) ++ obs else obs
  | none => obs

/-- AUX_RTCM_RX (R142): the oldest entry of stream `n`'s ring is taken. A station message places the station; an MSM of the configured station
adds to its epoch, which the last of them completes; other messages are ignored. -/
def execAuxRtcmRx (n at' len : Nat) (last : Bool) (s : State) : Result :=
  whileRunning s fun s => s.slvOn fun s =>
    if !s.auxLane || decide (4 ≤ n) then s
    else match s.auxTake n at' len last with
      | (s, none) => s
      | (s, some msg) =>
        let a := s.auxSt n
        match stationRead msg, msmRead msg with
        | some (st, p), _ =>
          if st != s.fldB n F.SLV_AUX_CFG_STATION then s
          else s.setAux n { a with pos := some p, live := !a.epochs.isEmpty && (match a.at' with
            | some t => !s.passed t (2 * nsPerSec)
            | none => false) }
        | none, some m =>
          if m.station != s.fldB n F.SLV_AUX_CFG_STATION then s
          else
            let epoch := msmClause m.sys m.tow s.devClause s.siteEpoch
            let obs := joinObs a.part epoch m.obs
            if m.more then s.setAux n { a with part := some (epoch, obs) } else s.auxEpoch n epoch obs
        | none, none => s

/-- AUX_STREAM_STALE (R142): a stream without an epoch for 2 s ceases to be LIVE; fallback on it ends. -/
def execAuxStreamStale (n : Nat) (s : State) : Result :=
  whileOn s Blk.SLV fun s =>
    let a := s.auxSt n
    let due := match a.at' with
      | some t => s.passed t (2 * nsPerSec)
      | none => true
    if !a.live || !due then s
    else
      let s := s.setAux n { a with live := false, epochs := [] }
      let s := if s.flagB n F.SLV_AUX_CFG_EN then s.raise Ev.SLV_AUX_STALE 0 else s
      if s.slv.mode = .fallback n then
        match s.auxFallback with
        | some m => (s.setSlv fun v => { v with mode := .fallback m }).raise Ev.SLV_AUX_FALLBACK 0
        | none => (s.setSlv fun v => { v with mode := .none }).raise Ev.SLV_AUX_FALLBACK 0
      else s

/-- LINK_IN_RX (R143): an MSM message on the machine-link ring, whose station ID is the machine's MI; the last message of an epoch makes the
bundle. It has no BSEQ: the record's is a free value. -/
def execLinkInRx (at' len : Nat) (last : Bool) (s : State) : Result :=
  whileRunning s fun s => s.slvOn fun s =>
    match s.auxTake 4 at' len last with
    | (s, none) => s
    | (s, some msg) =>
      match msmRead msg with
      | none => s
      | some m =>
        let mi := m.station
        let epoch := msmClause m.sys m.tow s.devClause s.siteEpoch
        if decide (2048 ≤ mi) || !s.slvValid mi || !s.flagB mi F.SLV_MACH_CFG_LINK_IN || epoch % 100 != 0 then s.bundleInvalid
        else
          let obs := joinObs (s.slv.links.get none mi) epoch m.obs
          if m.more then s.setSlv fun v => { v with links := v.links.set none mi (some (epoch, obs)) }
          else
            let (v, s) := (s.setSlv fun v => { v with links := v.links.set none mi none }).draw
            s.intakeAdd { mi, epoch, restart := false, static := false, bseq := v % 256, link := true, obs, matched := none, ref := none,
                          noSearch := false, void := false }

/-! ## Matching and starting (R18, R117, R132) -/

/-- The epoch of a machine on a lane, or waiting to restart on another (R134). -/
def State.inLane (s : State) (mi : Nat) : Option Bundle :=
  ((s.slv.lanes.filterMap fun e => e.2.busy) ++ s.slv.retry).find? fun b => b.mi == mi

/-- A bundle's epoch is not later than the machine's last solved one, or the one on a lane. -/
def State.bundleStale (s : State) (b : Bundle) : Bool :=
  (match (s.slvFilter b.mi).lastEpoch with
    | some e => decide (b.epoch ≤ e)
    | none => false)
  || (match s.inLane b.mi with
    | some c => decide (b.epoch ≤ c.epoch)
    | none => false)

/-- The reference observations SLV predicts for an epoch from the usable set `base` and those of the 2 s before the epoch (R140). -/
def State.predictRef (s : State) (base : RefEpoch) (epoch : Nat) : RefEpoch :=
  let sets := s.slv.refs.filter fun r => r.usable && r.ant == base.ant && decide (r.epoch < epoch) && decide (epoch ≤ r.epoch + 2000)
  let obs := base.obs.filterMap fun o =>
    ((base.sats.find? fun v => v.sat == keySat o.key).bind fun v => v.eph).map fun e =>
      let hist := sets.filterMap fun r => (r.obs.find? fun p => p.key == o.key).map fun p => (r.epoch, p.code, p.carrier)
      let v := Config.predictObs e.2 hist epoch
      { o with code := v.1, carrier := v.2, slip := false, lock := min 4095 (o.lock + (epoch - base.epoch) / 100) }
  { base with epoch, obs }

/-- What a bundle is matched with: a reference and its observations; nothing, which discards it as unmatched; or it waits (none). -/
def State.refFor (s : State) (b : Bundle) : Option (Option (RefUse × Option RefEpoch)) :=
  let sel := s.fldB b.mi F.SLV_MACH_CFG_REFSEL
  let stream (n : Nat) : Option (Option (RefUse × Option RefEpoch)) :=
    match (s.auxSt n).epochs.find? fun r => r.epoch == b.epoch with
    | some r => if (s.auxSt n).live then some (some (⟨2 + n, false, 0⟩, some r)) else some none
    | none => some none
  if sel != 0 then stream (sel - 1)
  else match s.slv.mode, s.slv.refs.find? (fun r => r.epoch == b.epoch && r.usable) with
    | .fallback n, none => stream n
    | _, some r => some (some (⟨r.ant - 1, false, 0⟩, some r))
    | _, none =>
      if s.devClause < b.epoch + 12 then none
      else match (s.slv.refs.filter fun r => r.usable && decide (r.epoch < b.epoch)).getLast? with
        | some r =>
          let age := b.epoch - r.epoch
          if age ≤ s.fld F.SLV_PRED_PRED_MS then some (some (⟨r.ant - 1, true, age⟩, some (s.predictRef r b.epoch)))
          else some (some (⟨0xFF, false, min 65535 age⟩, none))
        | none => some (some (⟨0xFF, false, match s.slv.lastOk with
          | some e => if e < b.epoch then min 65535 (b.epoch - e) else 65535
          | none => 65535⟩, none))

/-- EPOCH_MATCH (R18, R117): the matcher takes the waiting bundle of a machine. -/
def execEpochMatch (mi : Nat) (s : State) : Result :=
  whileRunning s fun s => s.slvOn fun s =>
    match s.slv.intake.find? fun b => b.mi == mi && b.matched.isNone with
    | none => s
    | some b =>
      let drop (s : State) : State := s.setSlv fun v => { v with intake := v.intake.erase b }
      if s.bundleStale b then (drop s).bump (slvCnt 0)
      else if b.epoch + 2000 < s.devClause then (drop s).bump (slvCnt 1)
      else match s.refFor b with
        | none => s
        | some none => (drop s).bump (slvCnt 6)
        | some (some (u, r)) => s.setSlv fun v => { v with intake := v.intake.replace b { b with matched := some u, ref := r } }

/-- The bundle a free lane takes: an epoch that restarts, or a matched one whose machine is on no lane; earliest EPOCH, then lowest MI. -/
def State.nextBundle (s : State) : Option Bundle :=
  (sortBy (fun (a b : Bundle) => decide (a.epoch < b.epoch) || (a.epoch == b.epoch && decide (a.mi ≤ b.mi)))
    (s.slv.retry ++ s.slv.intake.filter fun b => b.matched.isSome && (s.inLane b.mi).isNone)).head?

/-- Every ambiguity is reset (R142). -/
def SlvFilter.unlocked (f : SlvFilter) : SlvFilter :=
  { f.floated with
    lay := { f.lay with ambs := [] }, est := f.est.keep (List.range (f.est.x.length - f.lay.ambs.length)), pivots := [], sigs := [] }

/-- The reference station of a REFSRC: GRX, or a stream. -/
def stationOf (src : Nat) : Nat := if src < 2 then 0 else src

/-- The filter as an epoch starts on it: a reset by command or RESTART, REFIX, a change of reference station (R142, R145). -/
def SlvFilter.begin (f : SlvFilter) (b : Bundle) : SlvFilter :=
  let g := if f.reset || b.restart then { SlvFilter.fresh with lastEpoch := f.lastEpoch, heading := f.heading } else f
  let g := if f.refix then { g.floated with refix := false, lastSearch := none } else g
  let g := { g with started := true }
  match b.matched with
  | some u => if u.src == 0xFF || g.src == 0xFF || stationOf g.src == stationOf u.src then g else g.unlocked
  | none => g

/-- LANE_START (R132, R134): a free awake lane takes its next bundle; one that starts later than 64 ms after its EPOCH is counted, event 91. -/
def execLaneStart (lane : Nat) (s : State) : Result :=
  whileRunning s fun s => s.slvOn fun s =>
    match s.nextBundle with
    | none => s
    | some b =>
      if !s.lanesAwake.contains lane || (s.lane lane).busy.isSome then s
      else
        let f := s.slvFilter b.mi
        let b' := { b with restart := b.restart || f.reset }
        let s := s.setSlv fun v => { v with intake := v.intake.erase b, retry := v.retry.erase b }
        let s := s.setLane lane { s.lane lane with busy := some b' }
        let s := s.setFilter b.mi (f.begin b)
        let s := if b'.restart && !b.noSearch then s.raise Ev.SLV_FILTER_RESET 0 else s
        if b.epoch + 64 < s.devClause then (s.bump (slvCnt 4)).raise Ev.SLV_LATE_START 0 else s

/-! ## Fix, class and record (R122–R129) -/

/-- What the arithmetic takes from the registers. -/
def State.laneCfg (s : State) : LaneCfg :=
  { mask := s.fld F.SLV_MODEL_ELEV_MASK, tropoKm := s.fld F.SLV_MODEL_TROPO_KM, ionoKm := s.fld F.SLV_MODEL_IONO_KM,
    ratioX10 := s.fld F.SLV_FIX_RATIO_X10, minFix := s.fld F.SLV_FIX_MIN_FIX, elevFix := s.fld F.SLV_FIX_ELEV_FIX,
    resMm := s.fld F.SLV_SEARCH_RES_MM, floor := s.fld F.SLV_QBOUND1_H3_FLOOR, searchUs := s.fld F.SLV_SEARCH_SEARCH_US }

/-- H3 of an output: never below the floor, grown while predicting (R125, R140). -/
def State.solH3 (s : State) (e : Est) (u : RefUse) : Nat :=
  max (s.fld F.SLV_QBOUND1_H3_FLOOR) (semiMajor e)
    + (if u.pred then ceilDiv (s.fld F.SLV_PRED_PRED_GROWTH * u.age) 1000 else 0)

/-- The quality class (R126). -/
def State.solClass (s : State) (f : SlvFilter) (u : RefUse) (h3 : Nat) : Nat :=
  if f.fix = 3 ∧ s.fld F.SLV_FIX_HOLD_EPOCHS ≤ f.hold ∧ u.pred = false ∧ h3 ≤ s.fld F.SLV_QBOUND0_H3_Q0 then 0
  else if 2 ≤ f.fix ∧ h3 ≤ s.fld F.SLV_QBOUND0_H3_Q1 ∧ (u.pred = false ∨ u.age ≤ 500) then 1
  else if 1 ≤ f.fix ∧ h3 ≤ s.fld F.SLV_QBOUND1_H3_Q2 then 2
  else 3

/-- QREASON (R129): the first condition that kept the outcome from Q0. -/
def State.solReason (s : State) (f : SlvFilter) (b : Bundle) (u : RefUse) (dropped : Bool) (q : Nat) : Nat :=
  if q = 0 then 0 else if b.restart then 3 else if dropped then 4 else if u.pred then 5 else if f.fix ≤ 1 then 6 else if f.fix = 2 then 7
  else if f.hold < s.fld F.SLV_FIX_HOLD_EPOCHS then 8 else 9

/-- The bytes of a solution record (R128). -/
def SolRec.bytes (r : SolRec) : List Byte :=
  let i32 (x : Int) : List Byte := Bytes.ofNat 4 (encodeSigned 32 x)
  Bytes.ofNat 2 r.mi ++ Bytes.ofNat 1 (r.qclass + 4 * r.fix + 16 * b2n r.pred + 32 * b2n r.static) ++ Bytes.ofNat 1 r.nsat
    ++ Bytes.ofNat 5 r.epoch ++ Bytes.ofNat 1 r.nfix ++ Bytes.ofNat 2 (saturate 16 r.ratio) ++ i32 r.e ++ i32 r.n ++ i32 r.u
    ++ i32 r.ve ++ i32 r.vn ++ i32 r.vu ++ Bytes.ofNat 2 r.heading ++ Bytes.ofNat 2 (saturate 16 r.h3) ++ Bytes.ofNat 2 (saturate 16 r.v3)
    ++ Bytes.ofNat 2 (saturate 16 r.refAge) ++ Bytes.ofNat 1 r.refSrc ++ Bytes.ofNat 1 r.lane ++ Bytes.ofNat 1 r.qreason
    ++ Bytes.ofNat 1 r.bseq ++ Bytes.ofNat 2 (saturate 16 r.solveUs) ++ Bytes.ofNat 2 r.hdop ++ Bytes.ofNat 2 r.resRms
    ++ Bytes.ofNat 1 r.nstate ++ Bytes.ofNat 9 0

/-- The record of an epoch without a solution: Q3 with its reason, bytes 12–41 zero. -/
def noSolution (b : Bundle) (u : RefUse) (lane reason us : Nat) (f : SlvFilter) : SolRec :=
  { mi := b.mi, qclass := 3, fix := 0, pred := u.pred, static := b.static, nsat := 0, epoch := b.epoch, nfix := 0, ratio := f.ratio,
    e := 0, n := 0, u := 0, ve := 0, vn := 0, vu := 0, heading := 0, h3 := 0, v3 := 0, refAge := u.age, refSrc := u.src, lane := lane,
    qreason := reason, bseq := b.bseq, solveUs := us, hdop := 0, resRms := 0, nstate := f.lay.size }

/-- An outcome leaves SLV (R127, R130): record, mirror, host copy, and to CLS while it is enabled, or to AUT where it is Q3. -/
def State.deliver (s : State) (r : SolRec) : State :=
  let s := s.setSlv fun v => { v with last := v.last.set none r.mi (some r), outcomes := v.outcomes + 1 }
  let s := s.mirror r.mi (.solution r)
  let n := (s.slvRate r.mi).decim + 1
  let copy := decide (max 1 (s.fld F.SLV_OUT_DECIM) ≤ n)
  let s := s.setSlv fun v => { v with rates := v.rates.set SlvRate.none r.mi { s.slvRate r.mi with decim := if copy then 0 else n } }
  let s := if s.flag F.SLV_OUT_HOST_EN && (copy || r.qclass == 3) then (s.ringPut (s.fld F.SLV_OUT_RING) Blk.SLV r.bytes true).1 else s
  if r.qclass = 3 then (if s.blkOn Blk.AUT then s.autQ3 r.mi r.epoch else s)
  else if s.blkOn Blk.CLS then s.setSlv fun v => { v with toCheck := v.toCheck ++ [r] } else s

/-- The site origin, ECEF, 0.1 mm. -/
def State.siteOrigin (s : State) : List Int :=
  match s.sim.applied with
  | some img => [imgOrigin img 0, imgOrigin img 1, imgOrigin img 2]
  | none => [0, 0, 0]

/-- The directions of satellites from a reference. -/
def sightsOf (re : RefEpoch) (sats : List RefSat) : List (List Rat) :=
  sats.map fun v => Config.sight ((v.eph.map Prod.snd).getD 0) re.epoch re.pos

/-- The record of a solved epoch (R128). -/
def State.solRecord (s : State) (b : Bundle) (u : RefUse) (re : RefEpoch) (lane us : Nat) (r : FloatSol) (f : SlvFilter) (dropped : Bool) : SolRec :=
  let e := f.output
  let x (i : Nat) : Int := wholeOf (e.x.getD i 0)
  let h3 := s.solH3 e u
  let q := s.solClass f u h3
  let res := residuals r.eqs e
  let ms := 100 * sumSq res
  { mi := b.mi, qclass := q, fix := f.fix, pred := u.pred, static := b.static, nsat := r.sats.length, epoch := b.epoch,
    nfix := f.fixed.length, ratio := f.ratio, e := x 0, n := x 1, u := x 2, ve := x 3, vn := x 4, vu := x 5, heading := f.heading, h3 := h3,
    v3 := threeSigma (e.var 2), refAge := u.age, refSrc := u.src, lane := lane, qreason := s.solReason f b u dropped q, bseq := b.bseq,
    solveUs := us, hdop := Config.hdop (sightsOf re r.sats) % 65536,
    resRms := saturate 16 (if res.isEmpty then 0 else Config.rms ms.num.toNat (res.length * ms.den)), nstate := f.lay.size }

/-- The square of an estimate's horizontal speed, mm²/s². -/
def Est.speed2 (e : Est) : Rat := e.x.getD 3 0 * e.x.getD 3 0 + e.x.getD 4 0 * e.x.getD 4 0

/-- The course of an output, held while the horizontal speed is below 100 mm/s. -/
def headingOf (was : Nat) (e : Est) : Nat := if e.speed2 < 10000 then was else Config.course (e.x.getD 3 0) (e.x.getD 4 0) % 65536

/-- An epoch without a solution (R118, R140): Q3 with its reason; the state stays. -/
def State.unsolved (s : State) (lane : Nat) (b : Bundle) (u : RefUse) (reason us : Nat) : State :=
  let f := s.slvFilter b.mi
  let s := s.setFilter b.mi { f with lastEpoch := some b.epoch }
  (s.mirror b.mi (.filter b.mi (s.slvFilter b.mi))).deliver (noSolution b u lane reason us f)

/-- The outcome of an epoch on its lane. -/
def State.solve (s : State) (lane : Nat) (b : Bundle) (u : RefUse) (t : LaneTime) : State :=
  match b.ref with
  | none => s.unsolved lane b u 1 t.solveUs
  | some re =>
    let f := s.slvFilter b.mi
    match f.float s.laneCfg b u.src re (siteEnu s.siteOrigin re.pos) with
    | none => s.unsolved lane b u 2 t.solveUs
    | some r =>
      let (g, dropped) := r.fixing s.laneCfg b t.searchUs
      let g := { g with heading := headingOf f.heading g.output }
      let rec' := s.solRecord b u re lane t.solveUs r g dropped
      let g := { g with everQ0 := g.everQ0 || rec'.qclass == 0 }
      let s := s.setFilter b.mi g
      let s := if rec'.qclass = 0 && !f.everQ0 then s.raise Ev.SLV_FIRST_FIX 0 else s
      let rt := s.slvRate b.mi
      let s := s.setSlvRate b.mi { rt with speed2 := some g.output.speed2.floor.toNat, pos := some (rec'.e, rec'.n) }
      let s := if dropped then
          let rt := s.slvRate b.mi
          ((s.setSlvRate b.mi { rt with fixLost := rt.fixLost + 1 }).bump (slvCnt 5)).raise Ev.SLV_FIX_LOST b.mi
        else s
      (s.mirror b.mi (.filter b.mi g)).deliver rec'

/-- SOLVE_COMPLETE (R127, R145): a lane finishes its epoch in the time `t`; the outcome of a machine deregistered since is discarded. -/
def execSolveComplete (lane : Nat) (t : LaneTime) (s : State) : Result :=
  whileRunning s fun s => s.slvOn fun s =>
    match (s.lane lane).busy with
    | none => s
    | some b =>
      let s := s.setLane lane { s.lane lane with busy := none, idleAt := s.mono }
      if b.void || !s.slvValid b.mi then s
      else match b.matched with
        | some u => s.solve lane b u t
        | none => s

/-- A lane is taken out of service, and its epoch restarts on another lane without a search. -/
def State.laneFault (s : State) (lane : Nat) : State :=
  if decide (32 ≤ lane) || s.pwr.outOfService.contains (TestUnit.lane, lane) then s
  else
    let busy := (s.lane lane).busy
    let s := { s with pwr := { s.pwr with outOfService := s.pwr.outOfService ++ [(TestUnit.lane, lane)] } }
    let s := (s.laneSleep lane).raise Ev.SLV_LANE_FAULT 0
    let s := match busy with
      | some b => if b.void then s else s.setSlv fun v => { v with retry := v.retry ++ [{ b with noSearch := true }] }
      | none => s
    s.slvLanes

/-- LANE_FAULT (R134, R147): a residue mismatch, or an error of the lane's scratch memory that cannot be corrected, takes the lane out with
event 88; a corrected error counts; one of the cache costs a fetch from DRAM; one of a machine's state in DRAM resets its filter, event 94. -/
def execLaneFault (n : Nat) (e : SlvError) (s : State) : Result :=
  whileOn s Blk.SLV fun s =>
    match e with
    | .residue => s.laneFault n
    | .scratch => (s.bump F.SLV_ECC_UNCORRECTED).laneFault n
    | .corrected => s.bump F.SLV_ECC_CORRECTED
    | .cache => s.bump F.SLV_ECC_UNCORRECTED
    | .stored =>
      let f := s.slvFilter n
      ((s.bump F.SLV_ECC_UNCORRECTED).setFilter n { SlvFilter.fresh with lastEpoch := f.lastEpoch, heading := f.heading }).raise Ev.SLV_FILTER_RESET 0

/-! ## Rates and plan (R135–R138) -/

/-- Fields of rate class `c`. -/
def State.rclass (s : State) (c : Nat) (f : Fld) : Nat := s.fldB c f

/-- R137 without shedding: the interval a machine's last solution asks for, by its speed, and its last outcome's class. -/
def State.rateBase (s : State) (mi : Nat) : Nat :=
  let c := s.fldB mi F.SLV_MACH_CFG_RCLASS
  let lo := s.rclass c F.SLV_RCLASS_DATA_K_MIN
  let hi := s.rclass c F.SLV_RCLASS_DATA_K_MAX
  let acq := s.rclass c F.SLV_RCLASS_DATA_K_ACQ
  let step := 100 * s.rclass c F.SLV_RCLASS_DATA_STEP_CM
  let k := match (s.slvRate mi).speed2 with
    | none => hi
    | some v2 => if v2 = 0 then hi else max lo (min hi ((List.range 11).filter fun k => decide (0 < k) && decide (k * k * v2 ≤ step * step)).length)
  if (s.slv.last.get none mi).any fun r => r.qclass == 0 then k else min k acq

/-- The steps a class is shed by. -/
def State.shedOf (s : State) (c : Nat) : Nat := s.slv.shed.get 0 c

/-- The interval a machine should have: by R137 at basic level, by K_SET or K_MAX at expert level (R146). -/
def State.rateWant (s : State) (mi : Nat) : Nat :=
  let c := s.fldB mi F.SLV_MACH_CFG_RCLASS
  if s.expert Blk.SLV then
    (if s.fldB mi F.SLV_MACH_CFG_K_SET = 0 then s.rclass c F.SLV_RCLASS_DATA_K_MAX else s.fldB mi F.SLV_MACH_CFG_K_SET)
  else min 10 (s.rateBase mi + s.shedOf c)

/-- A request goes to AIR. -/
def State.rateRequest (s : State) (mi k : Nat) : State :=
  (s.setSlvRate mi { s.slvRate mi with req := k, larger := none }).airRequest mi k

/-- R138: a smaller interval is requested at once, a larger one once it has been computed for 5 s. -/
def State.rateStep (s : State) (mi : Nat) : State :=
  let r := s.slvRate mi
  let k := s.rateWant mi
  if k = 0 then s
  else if r.req = 0 || k < r.req || (s.expert Blk.SLV && k != r.req) then s.rateRequest mi k
  else if k = r.req then (if r.larger.isSome then s.setSlvRate mi { r with larger := none } else s)
  else match r.larger with
    | some (j, t) =>
      if j = k then (if s.passed t (5 * nsPerSec) then s.rateRequest mi k else s)
      else s.setSlvRate mi { r with larger := some (k, s.mono) }
    | none => s.setSlvRate mi { r with larger := some (k, s.mono) }

/-- RATE_RECOMPUTE (R137, R138): once a second. -/
def execRateRecompute (s : State) : Result :=
  whileRunning s fun s => s.slvOn fun s => s.slvMis.foldl State.rateStep s

/-- P in units of 1/2520 per second, for intervals `k`. -/
def State.planSum (s : State) (k : Nat → Nat) : Nat :=
  (s.slvMis.map fun mi => if k mi = 0 then 0 else 25200 / k mi).sum

/-- P of R135. -/
def State.planned (s : State) : Nat := s.planSum fun mi => (s.slvRate mi).granted

/-- P once AIR has granted what shedding asks for, with the steps `sh`. -/
def State.plannedShed (s : State) (sh : SMap Nat) : Nat :=
  s.planSum fun mi => min 10 (s.rateBase mi + sh.get 0 (s.fldB mi F.SLV_MACH_CFG_RCLASS))

/-- The classes that may be shed, in ascending PRIO. -/
def State.shedOrder (s : State) : List Nat :=
  sortBy (fun a b => decide (s.rclass a F.SLV_RCLASS_DATA_PRIO ≤ s.rclass b F.SLV_RCLASS_DATA_PRIO))
    ((List.range 8).filter fun c => s.fldB c F.SLV_RCLASS_DATA_SHED == 1)

/-- A class has a machine whose interval can still grow. -/
def State.shedRoom (s : State) (c : Nat) : Bool :=
  s.slvMis.any fun mi => s.fldB mi F.SLV_MACH_CFG_RCLASS == c && decide (s.rateBase mi + s.shedOf c < 10)

/-- Set a class's shed steps. -/
def State.setShed (s : State) (c n : Nat) : State := s.setSlv fun v => { v with shed := v.shed.set 0 c n }

/-- The classes with steps to undo, the reverse of the order in which they are shed; one whose SHED bit was cleared since is among them. -/
def State.shedUndo (s : State) : List Nat :=
  (sortBy (fun a b => decide (s.rclass a F.SLV_RCLASS_DATA_PRIO ≤ s.rclass b F.SLV_RCLASS_DATA_PRIO))
    ((List.range 8).filter fun c => s.shedOf c != 0)).reverse

/-- Shedding (R136): while P exceeds what the awake lanes carry, a step deeper unless the steps taken already bring it below; once P does not,
a step back where the limit holds without it. -/
def State.shedStep (s : State) : State :=
  let limit := 2520 * 800 * s.lanesAwake.length
  if limit < s.planned then
    if limit < s.plannedShed s.slv.shed then
      match s.shedOrder.find? s.shedRoom with
      | some c => (s.setShed c (s.shedOf c + 1)).raise Ev.SLV_SHED 0
      | none => s
    else s
  else match s.shedUndo.head? with
    | some c =>
      let less := s.slv.shed.set 0 c (s.shedOf c - 1)
      if s.plannedShed less ≤ limit then
        let s := s.setSlv fun v => { v with shed := less }
        if less.isEmpty then s.raise Ev.SLV_SHED 0 else s
      else s
    | none => s

/-- A of R135. -/
def State.awakePlan (s : State) : Nat :=
  min s.lanesIn.length (ceilDiv s.planned (2520 * s.fld F.SLV_LANES_PLAN_RATE) + s.fld F.SLV_LANES_RESERVE)

/-- PLAN_RECOMPUTE (R135, R136): P, A, leaves and, at basic level, shedding. The rounding of P to PLANNED is not stated. -/
def execPlanRecompute (s : State) : Result :=
  whileRunning s fun s => s.slvOn fun s =>
    let p := s.planned
    let s := s.setFld F.SLV_RATE_PLANNED (Config.roundQuot p 2520).toNat
    if s.expert Blk.SLV then s.slvLanes
    else
      (s.setSlv fun v => { v with awakeWant := s.awakePlan }).slvLanes.shedStep

/-- LANE_SLEEP (R135): a lane beyond those wanted, idle for 10 s. -/
def execLaneSleep (lane : Nat) (s : State) : Result :=
  whileOn s Blk.SLV fun s =>
    if (s.lane lane).awake ∧ s.lanesWanted.contains lane = false ∧ (s.lane lane).busy = none
        ∧ s.passed (s.lane lane).idleAt (10 * nsPerSec) then (s.laneSleep lane).powerCheck
    else s

/-- LANE_LEAVE_RETRY (R136): 100 ms after a refusal. -/
def execLaneLeaveRetry (s : State) : Result :=
  whileOn s Blk.SLV fun s =>
    match s.slv.refusedAt with
    | some t => if s.passed t (100 * nsPerMs) then (s.setSlv fun v => { v with refusedAt := none }).slvLanes else s
    | none => s

/-! ## `SLV_CMD` (R145) -/

/-- RESET_FILTER and REFIX apply before the machine's next epoch. -/
def State.slvReset (s : State) (mi : Nat) : State := if s.isStandby then s else s.setFilter mi { s.slvFilter mi with reset := true }
def State.slvRefix (s : State) (mi : Nat) : State := if s.isStandby then s else s.setFilter mi { s.slvFilter mi with refix := true }

/-- RESET_FILTER (R145). -/
def execResetFilter (mi : Nat) (s : State) : Result := whileOn s Blk.SLV fun s => s.slvReset mi

/-- REFIX (R145). -/
def execRefix (mi : Nat) (s : State) : Result := whileOn s Blk.SLV fun s => s.slvRefix mi

/-- SLV starts (R135): RESERVE + 1 lanes wake on the base budget. The intervals AIR has granted stand. -/
def State.slvStart (s : State) : State :=
  let rates := (s.slv.rates.filter fun e => e.2.granted != 0).map fun e => (e.1, { SlvRate.none with granted := e.2.granted })
  let s := { s with slv := { SlvSt.reset with rates }, pwr := { s.pwr with laneLeaves := [] } }
  (s.setSlv fun v => { v with awakeWant := s.fld F.SLV_LANES_RESERVE + 1 }).slvLanes

/-- VALID of a machine is cleared: its filter is freed, a waiting bundle discarded, the outcome of one in a lane void (R145). The interval AIR
has granted stands. -/
def State.slvForget (s : State) (mi : Nat) : State :=
  s.setSlv fun v => { v with
    filters := v.filters.erase mi, last := v.last.erase mi, links := v.links.erase mi,
    rates := v.rates.set SlvRate.none mi { SlvRate.none with granted := (v.rates.get SlvRate.none mi).granted },
    intake := v.intake.filter fun b => b.mi != mi, retry := v.retry.filter fun b => b.mi != mi,
    lanes := v.lanes.map fun e => (e.1, { e.2 with busy := e.2.busy.map fun b => if b.mi = mi then { b with void := true } else b }) }

end Sys2Proof.Machine
end

