-- ==== Sys2Proof/Machine/Tim.lean ====
section
/-!
DEFINITION. The Time Keeper (R180–R195, R201–R203): the estimate and quality levels, disciplining, holdover, verification, steps and
host sets, PPS, timed outputs and captures, the UTC offset. Machine/Second.lean has the whole second.
-/

namespace Sys2Proof.Machine

/-- Change TIM's state. -/
def State.setTim (s : State) (f : TimSt → TimSt) : State := { s with tim := f s.tim }

/-! ## Error estimate and quality (R184–R186, R192) -/

/-- The estimate of a growth that began at `est0`, `dt` ns ago, by frequency uncertainty and ageing bound, rounded up, ns (R186). -/
def grownEst (est0 fUnc ageing dt : Nat) : Nat :=
  est0 + ceilDiv (2 * 10 ^ 12 * fUnc * dt + ageing * dt * dt) (2 * 10 ^ 27)

/-- The frequency uncertainty and the ageing bound in use: those learned, or R192's for a module not LOCKED since reset. -/
def TimSt.bounds (t : TimSt) : Nat × Nat := if t.everLocked then (t.fUnc, t.ageing) else (TimSt.reset.fUnc, TimSt.reset.ageing)

/-- The error estimate, ns; none while device time is not valid. -/
def State.timEst (s : State) : Option Nat :=
  if !s.timeValid then none
  else match s.tim.mode with
    | .none => none
    | .disciplined => some (s.tim.offset.natAbs + 20)
    | .holdover | .host => some (grownEst s.tim.est0 s.tim.bounds.1 s.tim.bounds.2 (s.mono - s.tim.estAt))

/-- The quality levels of R185. -/
abbrev Qual.NONE : Nat := 0
abbrev Qual.LOCKED : Nat := 1
abbrev Qual.STEERING : Nat := 2
abbrev Qual.HOLD_10US : Nat := 5
abbrev Qual.HOLD_WIDE : Nat := 6
abbrev Qual.HOST : Nat := 7

/-- Consecutive epochs that span 60 s and 10 s (R185, R184, R188). DEDUCED from the worked times of the chapter (log 41). -/
abbrev epochs60s : Nat := 601
abbrev epochs10s : Nat := 101

/-- The quality level the rules give now (R185). -/
def State.timQual (s : State) : Nat :=
  match s.tim.mode with
  | .none => Qual.NONE
  | .host => Qual.HOST
  | .disciplined => if epochs60s ≤ s.tim.inside then Qual.LOCKED else Qual.STEERING
  | .holdover =>
    let e := s.timEst.getD 0
    if e ≤ 100 then 3 else if e ≤ 1000 then 4 else if e ≤ 10000 then Qual.HOLD_10US else Qual.HOLD_WIDE

/-- clockClass of a quality level. -/
def qualClass (q : Nat) : Nat := [248, 6, 7, 7, 7, 52, 187, 248].getD q 248

/-- The upper bounds of the clockAccuracy codes 0x20 to 0x30 of IEEE 1588-2019, ns. PRESUMED (log 40). -/
def accuracyBounds : List Nat :=
  [25, 100, 250, 1000, 2500, 10000, 25000, 100000, 250000, 1000000, 2500000, 10000000, 25000000, 100000000, 250000000, 1000000000, 10000000000]

/-- clockAccuracy: the smallest code that covers the estimate; 0xFE while there is none. -/
def State.timAccuracy (s : State) : Nat :=
  match s.timEst with
  | none => 0xFE
  | some e =>
    if e ≤ 1 then 0x1D else if e ≤ 2 then 0x1E else if e ≤ 10 then 0x1F
    else 0x20 + (accuracyBounds.filter fun b => decide (b < e)).length

/-- The level follows the rules; LOCKED learns the OCXO's figures (free), and a change raises event 114. -/
def State.qualUpdate (s : State) : State :=
  let q := s.timQual
  let s := s.setFld F.TIM_STATUS_HOLDOVER (b2n (s.tim.mode == .holdover))
  if q = s.fld F.TIM_QUAL_QUAL then s
  else
    let s := if q = Qual.LOCKED then
      let (f, s) := s.draw
      let (a, s) := s.draw
      s.setTim fun t => { t with everLocked := true, fUnc := f, ageing := a }
      else s
    ((s.setFld F.TIM_QUAL_QUAL q).setFld F.TIM_QUAL_CLASS (qualClass q)).raise Ev.TIM_QUAL_CHANGE 0

/-! ## Device time moves (R184, R188–R192, R194) -/

/-- TIM writes the RTC (R382). -/
def State.rtcWrite (s : State) : State :=
  ({ s with bkp := { s.bkp with rtc := s.tai, rtcValid := true } }).setTim fun t => { t with rtcAt := s.mono }

/-- Device time becomes valid. -/
def State.timeBecomesValid (s : State) : State :=
  if s.timeValid then s
  else ((s.setFld F.TIM_STATUS_VALID 1).raise Ev.TIM_TIME_VALID 0).rtcWrite

/-- Start, period and high time of a timed output, and whether it is periodic. -/
def State.outStart (s : State) (n : Nat) : Nat := s.fldB n F.TIM_TO_SEC_SEC * nsPerSec + s.fldB n F.TIM_TO_NS_NS
def State.outPeriod (s : State) (n : Nat) : Nat := s.fldB n F.TIM_TO_PERIOD_PERIOD_NS
def State.outWidth (s : State) (n : Nat) : Nat := s.fldB n F.TIM_TO_WIDTH_WIDTH_NS
def State.outPeriodic (s : State) (n : Nat) : Bool := s.flagB n F.TIM_TO_CFG_PERIODIC && s.outPeriod n != 0

/-- The level on the pin of a timed output. -/
def State.outPin (s : State) (n : Nat) (high : Bool) : State :=
  s.emit (.pin (.timedOut n) (high != s.flagB n F.TIM_TO_CFG_INVERT))

/-- The first scheduled edge at or after device time `now`, and whether it rises; none once a one-shot's pulse is over (R194). -/
def State.outNext (s : State) (n now : Nat) : Option (Nat × Bool) :=
  let start := s.outStart n
  if now ≤ start then some (start, true)
  else if s.outPeriodic n then
    let k := (now - start) / s.outPeriod n
    let rise := start + k * s.outPeriod n
    if now = rise then some (rise, true)
    else if now ≤ rise + s.outWidth n then some (rise + s.outWidth n, false)
    else some (rise + s.outPeriod n, true)
  else if now ≤ start + s.outWidth n then some (start + s.outWidth n, false)
  else none

/-- An output is no longer armed: low (R194), which an inverted one is not while inactive. -/
def State.outRest (s : State) (n : Nat) : State :=
  if s.flagB n F.TIM_TO_CFG_INVERT then s.emit (.pin (.timedOut n) false) else s

/-- After a forward step, edges whose times it skipped are not emitted (R194). After a backward step nothing changes: the output
resumes at the first scheduled edge after the last one it emitted. -/
def State.outSkip (s : State) (n : Nat) : State :=
  match s.tim.outs.get none n with
  | none => s
  | some o =>
    if s.tai ≤ o.next then s
    else match s.outNext n s.tai with
      | some (t, r) => s.setTim fun v => { v with outs := v.outs.set none n (some { o with next := t, rising := r }) }
      | none =>
        let s := if o.high then s.outPin n false else s
        ((s.outRest n).setFldB n F.TIM_TO_CFG_ARM 0).setTim fun v => { v with outs := v.outs.set none n none }

/-- Device time is set: by the first setting, a step or a host set. The epochs of its grid count anew from there (R159, R186). -/
def State.moveTime (s : State) (tai : Nat) : State :=
  let s := (List.range 8).foldl State.outSkip { s with tai := tai }
  let s := s.setTim fun t => { t with lastEpoch := some (100 * (s.devClause / 100)) }
  { s with grx := { s.grx with lastEpoch := none } }

/-- A device time changed by a signed amount. -/
def taiPlus (tai : Nat) (d : Int) : Nat := ((tai : Int) + d).toNat

/-- Device time changes by `d`; the change counts in `TIM_STEP` with event 117 (R189, R192). -/
def State.stepTime (s : State) (d : Int) : State :=
  let s := s.moveTime (taiPlus s.tai d)
  let s := s.setFld F.TIM_STEP_COUNT ((s.fld F.TIM_STEP_COUNT + 1) % 256)
  let s := s.setFld F.TIM_STEP_LAST_NS (encodeSigned 24 (clampInt (-8388608) 8388607 d))
  s.raiseWith Ev.TIM_STEPPED 0 (Bytes.ofNat 8 (encodeSigned 64 d)) true

/-- A change of 1 ms or more waits while the fleet runs (R189). -/
def State.stepBlocked (s : State) (d : Int) : Bool :=
  decide (1000000 ≤ d.natAbs) && s.blkOn Blk.AUT && s.fleetState == Tense.RUN

/-! ## Disciplining (R183) -/

/-- FREQ_SLOT and PHASE_SLOT of the TIME section. -/
def State.timeSec (s : State) : List Byte :=
  match s.sim.applied with
  | some img => imgSec img Sec.TIME Blk.TIM
  | none => []
def State.freqSlot (s : State) : Nat := Bytes.at' s.timeSec 0 2
def State.phaseSlot (s : State) : Nat := Bytes.at' s.timeSec 2 2

/-- TIM restarts its loops as it begins to discipline. -/
def State.timLoopsRestart (s : State) : State :=
  if s.expert Blk.TIM then s else (s.slotRestart s.freqSlot).slotRestart s.phaseSlot

/-- TIM begins to discipline with offset `e`. -/
def State.disciplineBegin (s : State) (e : Int) : State :=
  (s.setTim fun t => { t with mode := .disciplined, offset := e, inside := if e.natAbs ≤ 40 then 1 else 0, run := 0, fit := [] }).timLoopsRestart

/-! ## Holdover (R186) -/

/-- TAU_S, ns. -/
def State.tauNs (s : State) : Nat := s.fld F.TIM_DISC_TAU_S * nsPerSec

/-- TIM sets the DAC, and keeps what it held over the last TAU_S. -/
def State.dacSet (s : State) (v : Int) : State :=
  let recent := s.tim.dacs.takeWhile fun e => decide (s.mono < e.1 + s.tauNs)
  (s.setFld F.TIM_FREQ_DAC (encodeSigned 20 v)).setTim fun t =>
    { t with dacs := (s.mono, v) :: recent ++ (t.dacs.drop recent.length).take 1 }

/-- The integral over time of what the DAC held from `since` to `upto`, and over how long, ns. -/
def dacSum (since : Nat) : (upto : Nat) → List (Nat × Int) → Int × Nat
  | _, [] => (0, 0)
  | upto, (t, v) :: rest =>
    let from' := max t since
    if upto ≤ since then (0, 0)
    else
      let r := dacSum since (min upto t) rest
      (v * (upto - from' : Nat) + r.1, (upto - from') + r.2)

/-- The average of the DAC over the last TAU_S, whose rounding the spec does not state. -/
def State.dacAverage (s : State) : Int :=
  let r := dacSum (s.mono - s.tauNs) s.mono s.tim.dacs
  if r.2 = 0 then s.fld F.TIM_FREQ_DAC else Config.roundQuot r.1 r.2

/-- TIM enters holdover: the estimate grows from where it stands, and the DAC is held at its average over the last TAU_S, corrected for the
ageing learned; at expert level host software holds it. -/
def State.holdover (s : State) (cause : Nat) : State :=
  let est := s.timEst.getD 0
  let s := s.setTim fun t => { t with mode := .holdover, est0 := est, estAt := s.mono, inside := 0, run := 0, fit := [] }
  let s := if s.expert Blk.TIM then s
    else s.dacSet (s.dacAverage + Config.ageingDac s.tim.bounds.2 (s.fld F.TIM_DISC_TAU_S))
  (s.raise Ev.TIM_HOLDOVER cause).qualUpdate

/-- A discipline loop set its sticky flag (R186, R203). -/
def State.timLoopSat (s : State) : State :=
  let s := (s.setFld F.TIM_STATUS_SAT 1).raise Ev.TIM_LOOP_SAT 0
  if s.tim.mode == .disciplined then s.holdover 3 else s

/-- An epoch of the cascade (R183): the drift fires the frequency slot, whose tenth update fires the phase slot on the newest offset; a dropped
update sets the slot's flag (R293). At expert level the cascade stops (R201). -/
def State.discipline (s : State) (drift : Int) : State :=
  if s.expert Blk.TIM then s
  else
    let was := s.flagB s.freqSlot F.LPE_SLOT_STAT_SAT
    let s := (s.setSlotReg s.phaseSlot R.LPE_SLOT_IN (sat32 s.tim.offset)).lpeFire ⟨s.freqSlot, sat32 drift, 0, none⟩
    if !was && s.flagB s.freqSlot F.LPE_SLOT_STAT_SAT then s.timLoopSat else s

/-! ## Verification (R188) -/

/-- Offsets at equal spacing lie within 100 ns of their own least-squares line. -/
def lineFits (l : List Int) : Bool :=
  let n : Int := l.length
  let xs := (List.range l.length).map Int.ofNat
  let sx := xs.sum
  let sxx := (xs.map fun x => x * x).sum
  let sy := l.sum
  let sxy := ((xs.zip l).map fun p => p.1 * p.2).sum
  let d := n * sxx - sx * sx
  (xs.zip l).all fun p =>
    decide (((p.2 * n * d - (sy * d + (n * sxy - sx * sy) * (n * p.1 - sx))).natAbs) ≤ (100 * n * d).natAbs)

/-- The pending change is over. -/
def State.pendOver (s : State) : State := (s.setTim fun t => { t with pend := none }).setFld F.TIM_STATUS_STEP_PEND 0

/-- A usable epoch of verification: after 10 s it passes, or restarts after the next usable epoch. A host set that waits stays. -/
def State.verify (s : State) (e : Int) : State :=
  let fit := s.tim.fit ++ [e]
  if fit.length < epochs10s then (s.setTim fun t => { t with fit }).setFld F.TIM_STATUS_VERIFYING 1
  else
    let s := s.setFld F.TIM_STATUS_VERIFYING 0
    if !lineFits fit then s.setTim fun t => { t with fit := [] }
    else
      let s := ((s.raise Ev.TIM_GNSS_VERIFIED 0).disciplineBegin e).timeBecomesValid.qualUpdate
      if 1000 < e.natAbs && s.flag F.TIM_CTRL_STEP_OK && !s.expert Blk.TIM && s.tim.pend.isNone then
        let s := s.setTim fun t => { t with pend := some .step }
        if s.stepBlocked (-e) then (s.setFld F.TIM_STATUS_STEP_PEND 1).raise Ev.TIM_STEP_DEFERRED 0 else s
      else s

/-- An epoch without a usable solution ends a run of them. -/
def State.noSolution (s : State) : State :=
  ((s.setFld F.TIM_STATUS_GNSS_OK 0).setFld F.TIM_STATUS_VERIFYING 0).setTim fun t => { t with run := 0, fit := [] }

/-- A usable solution with offset `e` (R183, R184, R188). -/
def State.usableSolution (s : State) (e : Int) (drift : Int) : State :=
  let s := (s.setFld F.TIM_STATUS_GNSS_OK 1).setReg R.TIM_OFFSET (BitVec.ofNat 32 (encodeSigned 32 (sat32 e)))
  let s := s.setTim fun t => { t with drift }
  match s.tim.mode with
  | .disciplined =>
    let s := s.setTim fun t => { t with offset := e, inside := if e.natAbs ≤ 40 then t.inside + 1 else 0 }
    let s := if s.tim.pend == some .step && e.natAbs ≤ 1000 then s.pendOver else s
    (s.discipline drift).qualUpdate
  | .none =>
    if s.tim.everValid then s.verify e
    else if s.tim.run + 1 < epochs10s || s.expert Blk.TIM then s.setTim fun t => { t with run := t.run + 1 }
    else
      let s := (s.moveTime (taiPlus s.tai (-e))).disciplineBegin 0
      (s.setTim fun t => { t with everValid := true }).timeBecomesValid.qualUpdate
  | .holdover | .host => s.verify e

/-- A time solution of GRX (R163) reaches TIM. -/
def State.takeSolution (s : State) (sol : TimeSol) : State :=
  let s := s.setTim fun t => { t with lastEpoch := some sol.epoch }
  let alarm := s.flag F.GRX_STATUS_SPOOF_ALARM
  if sol.usable && !alarm && (sol.fromRef || !s.tim.everValid) then
    s.usableSolution (sol.offset - s.fld F.TIM_CAL_ANT_NS) sol.drift
  else
    let s := s.noSolution
    if s.tim.mode == .disciplined then s.holdover (if alarm then 2 else if sol.fromRef then 4 else 1) else s

/-- TIME_SOLUTION_RX (R183, R184, R186, R188): TIM takes the time solution GRX has delivered. -/
def execTimeSolutionRx (epoch : Nat) (s : State) : Result :=
  whileOn s Blk.TIM fun s =>
    match s.grx.sol with
    | some sol => if sol.epoch = epoch then ({ s with grx := { s.grx with sol := none } }).takeSolution sol else s
    | none => s

/-- TIME_SOLUTION_TIMEOUT (R186): 12 ms after an epoch of the 100 ms grid no solution of it has come. -/
def execTimeSolutionTimeout (s : State) : Result :=
  whileRunning s fun s =>
    let missed : Bool := match s.tim.lastEpoch with
      | some e => decide (e < 100 * ((s.devClause - 12) / 100))
      | none => true
    if missed then
      let s := s.noSolution
      if s.tim.mode == .disciplined then s.holdover 4 else s
    else s

/-- TIME_INVALID (R184): the estimate passes INV_10US × 10 µs. -/
def execTimeInvalid (s : State) : Result :=
  whileRunning s fun s =>
    match s.timEst with
    | some e =>
      if e ≤ s.fld F.TIM_DISC_INV_10US * 10000 then s
      else
        let s := (s.setFld F.TIM_STATUS_VALID 0).setFld F.TIM_STATUS_VERIFYING 0
        let s := s.setTim fun t => { t with mode := .none, run := 0, fit := [], inside := 0 }
        ((s.emit (.pin .ppsOut false)).raise Ev.TIM_TIME_INVALID 0).qualUpdate
    | none => s

/-- HOLDOVER_QUALITY_STEP (R186): the growing estimate passes a level's bound. -/
def execHoldoverQualityStep (s : State) : Result := whileRunning s State.qualUpdate

/-! ## Steps and host sets (R189, R192) -/

/-- A host set applies (R192): quality HOST, the estimate ERR_US. -/
def State.hostSet (s : State) (d : Int) (errUs : Nat) : State :=
  let s := s.pendOver.setFld F.TIM_STATUS_VERIFYING 0
  let s := s.setTim fun t =>
    { t with mode := .host, est0 := errUs * 1000, estAt := s.mono, everValid := true, run := 0, fit := [], inside := 0 }
  ((s.setFld F.TIM_SET_CMD_RESULT 1).stepTime d).timeBecomesValid.qualUpdate

/-- A pending change is tried: made, deferred while the fleet runs, or cancelled (R189). -/
def State.pendTry (s : State) (p : TimPend) : State :=
  let d : Int := match p with
    | .step => -s.tim.offset
    | .set time at' _ => (time + (s.mono - at') : Nat) - (s.tai : Int)
  if p == .step && decide (s.tim.offset.natAbs ≤ 1000) then s.pendOver
  else if s.stepBlocked d then
    if s.flag F.TIM_STATUS_STEP_PEND then s else (s.setFld F.TIM_STATUS_STEP_PEND 1).raise Ev.TIM_STEP_DEFERRED 0
  else match p with
    | .step => (s.pendOver.stepTime d).setTim fun t => { t with offset := 0 }
    | .set _ _ errUs => s.hostSet d errUs

/-- STEP_APPLY (R189, R192): 500 ms after a PPS edge a pending change is made, where it may be. -/
def execStepApply (s : State) : Result :=
  whileRunning s fun s =>
    match s.tim.pend, s.tim.edge with
    | some p, some t => if s.passed t 500000000 then s.pendTry p else s
    | _, _ => s

/-- The present level permits a host set (R192, R201). -/
def State.setPermitted (s : State) : Bool :=
  s.expert Blk.TIM || [Qual.NONE, Qual.HOLD_10US, Qual.HOLD_WIDE, Qual.HOST].contains (s.fld F.TIM_QUAL_QUAL)

/-- SET (R192). -/
def State.timSet (s : State) : State :=
  let errUs := s.fld F.TIM_SET_CMD_ERR_US
  if errUs = 0 || !s.setPermitted then s.setFld F.TIM_SET_CMD_RESULT 2
  else
    let s := s.pendOver
    let time := s.fld F.TIM_SET_SEC_SEC * nsPerSec + s.fld F.TIM_SET_NS_NS
    let d : Int := (time : Int) - s.tai
    if s.stepBlocked d then
      ((((s.setFld F.TIM_SET_CMD_RESULT 3).setFld F.TIM_STATUS_STEP_PEND 1).setTim fun t => { t with pend := some (.set time s.mono errUs) }).raise
        Ev.TIM_STEP_DEFERRED 0)
    else s.hostSet d errUs

/-- A write to `TIM_SET_CMD`. -/
def State.timSetCmd (s : State) (w : Word) : State :=
  thenIf (s.hostReg R.TIM_SET_CMD w) fun s => if F.TIM_SET_CMD_OP.get w = 1 && s.blkOn Blk.TIM then s.timSet else s

/-- TIM_SET (R192): a write to `TIM_SET_CMD` with OP 1 and ERR_US. -/
def execTimSet (errUs : Nat) (s : State) : Result :=
  whileRunning s fun s => s.timSetCmd (F.TIM_SET_CMD_OP.put (F.TIM_SET_CMD_ERR_US.put 0 errUs) 1)

/-! ## The front panel (R190) -/

/-- FREQ_OUT is on. -/
def State.freqOn (s : State) : Bool := s.flag F.TIM_STATUS_OCXO_READY && s.flag F.TIM_OUT_FREQ_EN

/-- A change of `TIM_OUT` or of OCXO_READY shows on FREQ_OUT and PPS_OUT. -/
def State.frontOutputs (s : State) (f : State → State) : State :=
  let s' := f s
  let s' := if s'.freqOn == s.freqOn then s' else s'.emit (.pin .freqOut s'.freqOn)
  if s.flag F.TIM_OUT_PPS_EN && !s'.flag F.TIM_OUT_PPS_EN then s'.emit (.pin .ppsOut false) else s'

/-- OCXO_READY (R190): the oven settles and the synthesiser locks. -/
def execOcxoReady (s : State) : Result :=
  whileRunning s fun s =>
    if s.flag F.TIM_STATUS_OCXO_READY then s
    else (s.frontOutputs fun s => s.setFld F.TIM_STATUS_OCXO_READY 1).raise Ev.TIM_OCXO_READY 0

/-- A write to `TIM_OUT`. -/
def State.timOutWrite (s : State) (w : Word) : State := s.frontOutputs fun s => (s.hostReg R.TIM_OUT w).1

/-- Device time lies within the first microsecond, a step of the local clock, after a whole second moved forward by `advance` ns. -/
def State.atSecond (s : State) (advance : Int) : Bool := decide (((s.tai : Int) + advance) % (nsPerSec : Int) < 1000)

/-- PPS_OUT at a whole second advanced by PPS_NS (R190): a pulse while time is valid and PPS_EN is set, no sooner than 500 ms after the last edge. -/
def State.ppsPulse (s : State) : State :=
  if s.atSecond (signedOf 16 (s.fld F.TIM_CAL_PPS_NS)) && dueSince s s.tim.edge 500000000 then
    let s := s.setTim fun t => { t with edge := some s.mono }
    if s.timeValid && s.flag F.TIM_OUT_PPS_EN then s.emit (.pulse .ppsOut (s.fld F.TIM_OUT_PPS_WIDTH_MS * nsPerMs)) else s
  else s

/-! ## UTC (R191) -/

/-- `TIM_UTC` and `TIM_LEAP` are kept in NAND. -/
def State.utcKeep (s : State) : State := { s with nand := { s.nand with utc := s.reg R.TIM_UTC, leap := s.reg R.TIM_LEAP } }

/-- GRX passes an offset and a leap second that the GPS and Galileo broadcasts agree on: the second from which it applies, and whether
the offset decreases. A new announcement raises event 120. -/
def State.utcTake (s : State) (offset : Nat) (leap : Option (Nat × Bool)) : State :=
  let s := (s.setFld F.TIM_UTC_OFFSET_S offset).setFld F.TIM_UTC_VALID 1
  match leap with
  | none => s.utcKeep
  | some (sec, down) =>
    let new := !s.flag F.TIM_UTC_LEAP_PEND || s.fld F.TIM_LEAP_SEC != sec % 2 ^ 32 || s.flag F.TIM_UTC_LEAP_DIR != down
    let s := ((s.setFld F.TIM_LEAP_SEC sec).setFld F.TIM_UTC_LEAP_PEND 1).setFld F.TIM_UTC_LEAP_DIR (b2n down)
    if new then s.utcKeep.raise Ev.TIM_UTC_CHANGE 0 else s.utcKeep

/-- LEAP_SECOND (R191): the announced second has come. -/
def execLeapSecond (s : State) : Result :=
  whileRunning s fun s =>
    if s.flag F.TIM_UTC_LEAP_PEND && decide (s.fld F.TIM_LEAP_SEC ≤ s.tai / nsPerSec) then
      let o := s.fld F.TIM_UTC_OFFSET_S
      let s := s.setFld F.TIM_UTC_OFFSET_S (if s.flag F.TIM_UTC_LEAP_DIR then o + 255 else o + 1)
      ((s.setFld F.TIM_UTC_LEAP_PEND 0).utcKeep).raise Ev.TIM_UTC_CHANGE 0
    else s

/-! ## Reading time (R181, R382) -/

/-- TIME_SNAPSHOT_READ (R181): a read of `TIM_SEC_LO`. The snapshot is 30 ns to 60 ns old (free). -/
def execTimeSnapshotRead (s : State) : Result :=
  whileRead s fun s =>
    let (v, s) := s.draw
    let t := s.tai - (30 + v % 31)
    let s := (s.setReg R.TIM_SEC_LO (BitVec.ofNat 32 (t / nsPerSec))).setFld F.TIM_SEC_HI_SEC_HI (t / nsPerSec / 2 ^ 32)
    { s.setFld F.TIM_NS_NS (t % nsPerSec) with hostRead := BitVec.ofNat 32 (t / nsPerSec) }

/-- RTC_UPDATE (R382): every 1,024 s of valid device time. -/
def execRtcUpdate (s : State) : Result :=
  whileRunning s fun s => if s.timeValid && s.passed s.tim.rtcAt (1024 * nsPerSec) then s.rtcWrite else s

/-! ## Timed outputs (R194) -/

/-- Output `n` is armed, or is late. -/
def State.outArm (s : State) (n : Nat) : State :=
  if s.outStart n < s.tai then
    ((s.setFldB n F.TIM_TO_CFG_LATE 1).setFldB n F.TIM_TO_CFG_ARM 0).raise Ev.TIM_TO_LATE 0
  else
    let s := s.setTim fun t => { t with outs := t.outs.set none n (some ⟨s.outStart n, true, false⟩) }
    if s.flagB n F.TIM_TO_CFG_INVERT then s.outPin n false else s

/-- Output `n` is disarmed: low. -/
def State.outDisarm (s : State) (n : Nat) : State :=
  match s.tim.outs.get none n with
  | some o =>
    (if o.high != s.flagB n F.TIM_TO_CFG_INVERT then s.emit (.pin (.timedOut n) false) else s).setTim fun t => { t with outs := t.outs.set none n none }
  | none => s

/-- A write to `TIM_TO_CFG`: ARM going to 1 arms the output while TIM is enabled, going to 0 disarms it. -/
def State.outCfgWrite (s : State) (w : Word) : State :=
  let n := s.fld F.TIM_TO_IDX_OUTPUT
  let was := s.flagB n F.TIM_TO_CFG_ARM
  thenIf (s.hostReg R.TIM_TO_CFG w) fun s =>
    if !s.flagB n F.TIM_TO_CFG_ARM then s.outDisarm n
    else if was || !s.blkOn Blk.TIM then s
    else s.outArm n

/-- TIMED_OUTPUT_ARM (R194): a write to `TIM_TO_CFG`. -/
def execTimedOutputArm (value : Word) (s : State) : Result := whileRunning s fun s => s.outCfgWrite value

/-- TIMED_OUTPUT_EDGE (R194): device time has reached output `n`'s scheduled edge. A one-shot clears ARM after its pulse. -/
def execTimedOutputEdge (n : Nat) (s : State) : Result :=
  whileRunning s fun s =>
    match s.tim.outs.get none n with
    | none => s
    | some o =>
      if s.tai < o.next then s
      else
        let s := s.outPin n o.rising
        let after : Option TimedOut :=
          if o.rising then some ⟨o.next + s.outWidth n, false, true⟩
          else if s.outPeriodic n then some ⟨o.next - s.outWidth n + s.outPeriod n, true, false⟩
          else none
        let s := s.setTim fun t => { t with outs := t.outs.set none n after }
        if after.isNone then (s.outRest n).setFldB n F.TIM_TO_CFG_ARM 0 else s

/-! ## Captures (R195, R203) -/

/-- CAPTURE_EDGE (R195): an edge on capture input `j`. -/
def execCaptureEdge (j : Nat) (rising : Bool) (s : State) : Result :=
  whileOn s Blk.TIM fun s =>
    if !(s.fld F.TIM_TC_CFG_EDGE).testBit (2 * j + (if rising then 0 else 1)) || decide (8 ≤ j) then s
    else
      let l := s.tim.caps.get [] j
      if l.length < 16 then s.setTim fun t => { t with caps := t.caps.set [] j (l ++ [(s.tai, rising)]) }
      else (s.setFld F.TIM_TC_CFG_OVF (s.fld F.TIM_TC_CFG_OVF ||| 2 ^ j)).raise Ev.TIM_TC_OVERFLOW 0

/-- CAPTURE_STAMP_READ (R203): a read of `TIM_TC_SEC`. What it returns while no stamp is held is free. -/
def execCaptureStampRead (s : State) : Result :=
  whileRead s fun s =>
    let j := s.fld F.TIM_TC_IDX_INPUT
    match s.tim.caps.get [] j with
    | [] =>
      let (v, s) := s.draw
      { s.setFldB j F.TIM_TC_NS_VALID 0 with hostRead := BitVec.ofNat 32 v }
    | (t, rising) :: rest =>
      let s := s.setTim fun v => { v with caps := v.caps.set [] j rest }
      let s := (s.setFldB j F.TIM_TC_NS_VALID 1).setFldB j F.TIM_TC_NS_RISING (b2n rising)
      { s.setFldB j F.TIM_TC_NS_NS (t % nsPerSec) with hostRead := BitVec.ofNat 32 (t / nsPerSec) }

/-- TIM is enabled: what is kept in NAND shows, and outputs preset armed are armed. -/
def State.timStart (s : State) : State :=
  let s := (s.setReg R.TIM_UTC s.nand.utc).setReg R.TIM_LEAP s.nand.leap
  (List.range 8).foldl (fun s n => if s.flagB n F.TIM_TO_CFG_ARM then s.outArm n else s) s

end Sys2Proof.Machine
end

