-- ==== Sys2Proof/Machine/Ptp.lean ====
section
/-!
DEFINITION. Network time (R196–R200, R204): master ports, the best master clock algorithm, peer delay, the transparent clock, stamps at expert
level. What IEEE 1588-2019 alone fixes, the layout of messages among it, is PRESUMED (log 40).
-/

namespace Sys2Proof.Machine

/-! ## Ports -/

/-- A port's engine state, and setting it. -/
def State.ptpPort (s : State) (p : Nat) : PtpPort := s.ptp.get PtpPort.idle p
def State.setPtpPort (s : State) (p : Nat) (v : PtpPort) : State := { s with ptp := s.ptp.set PtpPort.idle p v }

/-- MODE of a port (R196). -/
abbrev PtpMode.OFF : Nat := 0
abbrev PtpMode.MASTER : Nat := 1
abbrev PtpMode.TRANSPARENT : Nat := 2
def State.ptpMode (s : State) (p : Nat) : Nat := s.fldB p F.PTP_PORT_CFG_MODE

/-- portState codes of IEEE 1588-2019. -/
abbrev PtpState.MASTER : Nat := 6
abbrev PtpState.PASSIVE : Nat := 7
def State.ptpState (s : State) (p : Nat) : Nat := s.fldB p F.PTP_PORT_STAT_STATE

/-- The port has peer delay. -/
def State.ptpP2p (s : State) (p : Nat) : Bool := s.flagB p F.PTP_PORT_CFG_P2P

/-- A port changes state, with event 124. -/
def State.ptpEnter (s : State) (p st : Nat) : State :=
  if s.ptpState p = st then s else (s.setFldB p F.PTP_PORT_STAT_STATE st).raise Ev.PTP_PORT_STATE 0

/-- The protocol runs in hardware on an enabled port of mode MASTER (R200). -/
def State.ptpMaster (s : State) (p : Nat) : Bool := !s.expert Blk.PTP && s.ptpMode p == PtpMode.MASTER

/-- The port has the peer-delay mechanism running. -/
def State.ptpPeer (s : State) (p : Nat) : Bool := s.ptpP2p p && (s.ptpMaster p || s.ptpMode p == PtpMode.TRANSPARENT)

/-- clockIdentity: ETH0's MAC address as an EUI-64. -/
def State.clockId (s : State) : List Byte := (s.mac 0).take 3 ++ [0xFF#8, 0xFE#8] ++ (s.mac 0).drop 3

/-- The identity of a port: clockIdentity and its number, from 1. -/
def State.portId (s : State) (p : Nat) : Nat := Bytes.toNat s.clockId.reverse * 65536 + (p + 1)

/-- A logarithmic interval, ns. -/
def logNs (n : Int) : Nat := if 0 ≤ n then 2 ^ n.toNat * nsPerSec else nsPerSec / 2 ^ n.natAbs

/-- logSyncInterval and logMinPdelayReqInterval of a port. -/
def State.logSync (s : State) (p : Nat) : Int := signedOf 4 (s.fldB p F.PTP_PORT_CFG_LOG_SYNC)
def State.logPdelay (s : State) (p : Nat) : Int := signedOf 4 (s.fldB p F.PTP_PORT_CFG_LOG_PDREQ)

/-! ## Messages -/

/-- A time in a message: 48-bit seconds and 32-bit nanoseconds. -/
def ptpTime (t : Nat) : List Byte := beBytes 6 (t / nsPerSec) ++ beBytes 4 (t % nsPerSec)

/-- The bytes of an Announce after its header. -/
def announceBytes (a : PtpAnnounce) (gm : Nat) : List Byte :=
  beBytes 10 0 ++ beBytes 2 a.utcOffset ++ [0#8] ++ beBytes 1 a.prio1 ++ beBytes 1 a.clockClass ++ beBytes 1 a.accuracy ++ beBytes 2 Config.ptpVariance
    ++ beBytes 1 a.prio2 ++ beBytes 8 gm ++ beBytes 2 0 ++ beBytes 1 a.timeSource

/-- What follows a message's header. -/
def PtpMsg.body (m : PtpMsg) : List Byte :=
  match m.kind, m.announce with
  | .announce, some a => announceBytes a (m.src / 65536)
  | .pdelayReq, _ => ptpTime m.time ++ beBytes 10 0
  | .pdelayResp, _ | .pdelayRespFollowUp, _ | .delayResp, _ => ptpTime m.time ++ beBytes 10 m.req
  | _, _ => ptpTime m.time

/-- The bytes of a message, in the standard's byte order (R6). -/
def PtpMsg.bytes (m : PtpMsg) : List Byte :=
  let b := m.body
  let flags := match m.announce with
    | some a => b2n a.leap61 + 2 * b2n a.leap59 + 4 * b2n a.utcValid + 8 + 48 * b2n a.traceable
    | none => 0
  let control := match m.kind with
    | .sync => 0
    | .delayReq => 1
    | .followUp => 2
    | .delayResp => 3
    | .management => 4
    | _ => 5
  [BitVec.ofNat 8 m.kind.code, 2#8] ++ beBytes 2 (34 + b.length) ++ beBytes 1 m.domain ++ [0#8] ++ beBytes 1 (2 * b2n m.twoStep) ++ beBytes 1 flags
    ++ beBytes 8 (encodeSigned 64 (m.corr * 65536)) ++ beBytes 4 0 ++ beBytes 10 m.src ++ beBytes 2 m.seq ++ beBytes 1 control
    ++ beBytes 1 (encodeSigned 8 m.logInt) ++ b

/-- Fields of a message received. -/
def ptpKindOf (b : List Byte) : Option PtpKind := PtpKind.ofCode (Bytes.at' b 0 1 % 16)
def ptpDomain (b : List Byte) : Nat := beAt b 4 1
def ptpTwoStep (b : List Byte) : Bool := bitOf (beAt b 6 1) 1
def ptpCorr (b : List Byte) : Int := signedOf 64 (beAt b 8 8)
def ptpSrc (b : List Byte) : Nat := beAt b 20 10
def ptpSeq (b : List Byte) : Nat := beAt b 30 2
def ptpStampOf (b : List Byte) : Nat := beAt b 34 6 * nsPerSec + beAt b 40 4
def ptpReq (b : List Byte) : Nat := beAt b 44 10

/-- A correctionField in whole ns; its fraction is dropped. -/
def ptpCorrNs (b : List Byte) : Int := (ptpCorr b) / 65536

/-- The least length of a message. -/
def PtpKind.least : PtpKind → Nat
  | .announce => 64
  | .pdelayReq | .pdelayResp | .pdelayRespFollowUp | .delayResp => 54
  | .management => 48
  | _ => 44

/-- A message is malformed: an unknown type, another version than 2, or a length that its type or its bytes do not allow. -/
def ptpMalformed (b : List Byte) : Bool :=
  match ptpKindOf b with
  | none => true
  | some k => beAt b 1 1 % 16 != 2 || decide (b.length < beAt b 2 2) || decide (beAt b 2 2 < k.least)

/-! ## Sending -/

/-- A message on port `p` with what every message of the module carries. -/
def State.ptpMsg (s : State) (p : Nat) (k : PtpKind) (seq : Nat) (logInt : Int) (time : Nat) : PtpMsg :=
  { kind := k, twoStep := false, domain := s.fld F.PTP_CLOCK_DOMAIN, src := s.portId p, seq := seq, logInt := logInt, corr := 0, time := time,
    req := 0, announce := none }

/-- A message leaves a port that can send, or is dropped; an event message counts and, at expert level, is stamped. -/
def State.ptpSend (s : State) (p : Nat) (m : PtpMsg) : State :=
  if !s.ethCanSend p then s.bumpB p (ptpCnt 3)
  else
    let s := s.emit (.ptp p (s.flagB p F.PTP_PORT_CFG_UDP) false m.bytes)
    if m.kind.event then (s.bumpB p (ptpCnt 0)).ptpStamp p true m.kind.code m.seq m.domain else s

/-- Device time of a message's timestamp point, with the transceiver's latency (R199). -/
def State.ptpTxTime (s : State) (p : Nat) : Nat := s.tai + s.fldB p F.PTP_PORT_LAT_TX_NS
def State.ptpRxTime (s : State) (p : Nat) : Nat := s.tai - s.fldB p F.PTP_PORT_LAT_RX_NS

/-- What an Announce says (R197). -/
def State.ptpAnnounce (s : State) : PtpAnnounce :=
  let q := s.fld F.TIM_QUAL_QUAL
  let prio2 := s.fld F.PTP_CLOCK_PRIO2
  { clockClass := qualClass q, accuracy := s.timAccuracy, traceable := decide (1 ≤ q) && decide (q ≤ 4),
    timeSource := if q = Qual.LOCKED || q = Qual.STEERING then 0x20 else 0xA0,
    utcOffset := s.fld F.TIM_UTC_OFFSET_S, utcValid := s.flag F.TIM_UTC_VALID,
    leap61 := s.flag F.TIM_UTC_LEAP_PEND && !s.flag F.TIM_UTC_LEAP_DIR, leap59 := s.flag F.TIM_UTC_LEAP_PEND && s.flag F.TIM_UTC_LEAP_DIR,
    prio1 := s.fld F.PTP_CLOCK_PRIO1, prio2 := if s.blkOn Blk.AUT && s.isActive then prio2 else min 255 (prio2 + 1) }

/-! ## The best master clock (R197) -/

/-- The announce interval of a port, and its announce receipt timeout, ns. -/
def State.announceNs (s : State) (p : Nat) : Nat := 2 ^ s.fldB p F.PTP_PORT_CFG_LOG_ANN * nsPerSec
def State.announceTimeout (s : State) (p : Nat) : Nat := s.fldB p F.PTP_PORT_CFG_ANN_TO * s.announceNs p

/-- The data set an Announce gives. -/
def announceData (b : List Byte) : List Nat :=
  [beAt b 47 1, beAt b 48 1, beAt b 49 1, beAt b 50 2, beAt b 52 1, beAt b 53 8, beAt b 61 2]

/-- The data set of the module's own clock. -/
def State.ownData (s : State) : List Nat :=
  let a := s.ptpAnnounce
  [a.prio1, a.clockClass, a.accuracy, Config.ptpVariance, a.prio2, Bytes.toNat s.clockId.reverse, 0]

/-- One data set is better than another: smaller in the first place where they differ. -/
def dataBetter : List Nat → List Nat → Bool
  | x :: xs, y :: ys => decide (x < y) || (x == y && dataBetter xs ys)
  | _, _ => false

/-- An Announce is heard: one of the module's own, or of a clock 255 steps away, counts for nothing. -/
def State.announceHear (s : State) (p : Nat) (b : List Byte) : State :=
  let v := s.ptpPort p
  let id := ptpSrc b
  if id / 65536 == Bytes.toNat s.clockId.reverse || decide (255 ≤ beAt b 61 2) then s
  else
    let qualified := v.foreign.any fun f => f.id == id && !s.passed f.last (4 * s.announceNs p)
    s.setPtpPort p { v with foreign := ⟨id, s.mono, qualified, announceData b⟩ :: v.foreign.filter fun f => f.id != id && !s.passed f.last (s.announceTimeout p) }

/-- A better foreign master is heard. -/
def State.betterMaster (s : State) (p : Nat) : Bool :=
  (s.ptpPort p).foreign.any fun f => f.qualified && !s.passed f.last (s.announceTimeout p) && dataBetter f.data s.ownData

/-! ## Peer delay (R196, R204) -/

/-- A Pdelay_Req is answered at once: two-step with the time of its receipt, and the time of the answer in a follow-up; one-step with the
turnaround in correctionField. -/
def State.pdelayAnswer (s : State) (p : Nat) (b : List Byte) : State :=
  let m := { s.ptpMsg p .pdelayResp (ptpSeq b) 0x7F (s.ptpRxTime p) with req := ptpSrc b, corr := ptpCorrNs b }
  if s.flagB p F.PTP_PORT_CFG_TWO_STEP then
    let s := s.ptpSend p { m with twoStep := true, corr := 0 }
    s.ptpSend p { m with kind := .pdelayRespFollowUp, time := s.ptpTxTime p }
  else s.ptpSend p { m with time := 0, corr := ptpCorrNs b + ((s.ptpTxTime p : Int) - s.ptpRxTime p) }

/-- meanLinkDelay from the four times, less the corrections. The rounding of the half is not stated. -/
def State.linkDelay (s : State) (p t1 t4 : Nat) (turn : Int) : State :=
  s.setFldB p F.PTP_PORT_STAT_LINK_NS (saturate 28 (Config.roundQuot ((t4 : Int) - t1 - turn) 2).toNat)

/-- A Pdelay_Resp to the port's last request. -/
def State.pdelayHear (s : State) (p : Nat) (b : List Byte) : State :=
  let v := s.ptpPort p
  match v.asked with
  | some (seq, t1) =>
    if seq != ptpSeq b || ptpReq b != s.portId p then s
    else if ptpTwoStep b then s.setPtpPort p { v with answer := some (s.ptpRxTime p, ptpStampOf b, ptpCorrNs b) }
    else (s.setPtpPort p { v with asked := none }).linkDelay p t1 (s.ptpRxTime p) (ptpCorrNs b)
  | none => s

/-- Its follow-up. -/
def State.pdelayFollow (s : State) (p : Nat) (b : List Byte) : State :=
  let v := s.ptpPort p
  match v.asked, v.answer with
  | some (seq, t1), some (t4, t2, c) =>
    if seq != ptpSeq b || ptpReq b != s.portId p then s
    else (s.setPtpPort p { v with asked := none, answer := none }).linkDelay p t1 t4 ((ptpStampOf b : Int) - t2 + c + ptpCorrNs b)
  | _, _ => s

/-! ## The commands -/

/-- What a port does with a well-formed message of its domain (R196–R198, R200). -/
def State.ptpProcess (s : State) (p : Nat) (k : PtpKind) (b : List Byte) : State :=
  match k with
  | .announce => if s.ptpMaster p then s.announceHear p b else s
  | .delayReq =>
    if s.ptpMaster p && !s.ptpP2p p && s.ptpState p == PtpState.MASTER then
      s.ptpSend p { s.ptpMsg p .delayResp (ptpSeq b) (signedOf 4 (s.fldB p F.PTP_PORT_CFG_LOG_DREQ)) (s.ptpRxTime p) with
        req := ptpSrc b, corr := ptpCorrNs b }
    else s
  | .pdelayReq => if s.ptpPeer p then s.pdelayAnswer p b else s
  | .pdelayResp => if s.ptpPeer p then s.pdelayHear p b else s
  | .pdelayRespFollowUp => if s.ptpPeer p then s.pdelayFollow p b else s
  | .sync | .followUp | .delayResp | .signaling | .management => s

/-- PTP_MESSAGE_RX (R196, R199, R200, R204): a PTP message reaches a port that runs PTP; one malformed or of another domain is dropped. -/
def execPtpMessageRx (rx : PtpRx) (s : State) : Result :=
  whileOn s Blk.PTP fun s =>
    let port := rx.port
    let msg := rx.msg
    if s.ptpMode port = PtpMode.OFF then s
    else match ptpKindOf msg with
      | none => s.bumpB port (ptpCnt 3)
      | some k =>
        if ptpMalformed msg || ptpDomain msg != s.fld F.PTP_CLOCK_DOMAIN then s.bumpB port (ptpCnt 3)
        else
          let s := if k.event then (s.bumpB port (ptpCnt 1)).ptpStamp port false k.code (ptpSeq msg) (ptpDomain msg) else s
          s.ptpProcess port k msg

/-- PTP_SYNC_TX (R197): at its interval a MASTER port sends Sync with its time, or where it is two-step Sync and Follow_Up. -/
def execPtpSyncTx (port : Nat) (s : State) : Result :=
  whileOn s Blk.PTP fun s =>
    let v := s.ptpPort port
    if s.ptpMaster port && s.ptpState port == PtpState.MASTER && dueSince s v.syncAt (logNs (s.logSync port)) then
      let s := s.setPtpPort port { v with seqSync := (v.seqSync + 1) % 65536, syncAt := some s.mono }
      let m := s.ptpMsg port .sync v.seqSync (s.logSync port) (s.ptpTxTime port)
      if s.flagB port F.PTP_PORT_CFG_TWO_STEP then (s.ptpSend port { m with twoStep := true, time := 0 }).ptpSend port { m with kind := .followUp }
      else s.ptpSend port m
    else s

/-- PTP_ANNOUNCE_TX (R197): the best master clock algorithm runs; at its interval a MASTER port sends Announce. -/
def execPtpAnnounceTx (port : Nat) (s : State) : Result :=
  whileOn s Blk.PTP fun s =>
    let v := s.ptpPort port
    if !s.ptpMaster port || s.ptpState port != PtpState.MASTER then s
    else if s.betterMaster port then (s.ptpEnter port PtpState.PASSIVE).raise Ev.PTP_BETTER_MASTER 0
    else if !dueSince s v.annAt (s.announceNs port) then s
    else
      (s.setPtpPort port { v with seqAnn := (v.seqAnn + 1) % 65536, annAt := some s.mono }).ptpSend port
        { s.ptpMsg port .announce v.seqAnn (s.fldB port F.PTP_PORT_CFG_LOG_ANN) 0 with announce := some s.ptpAnnounce }

/-- ANNOUNCE_RECEIPT_TIMEOUT (R197): a PASSIVE port no longer hears a better master. -/
def execAnnounceReceiptTimeout (port : Nat) (s : State) : Result :=
  whileOn s Blk.PTP fun s =>
    if s.ptpMaster port && s.ptpState port == PtpState.PASSIVE && !s.betterMaster port then s.ptpEnter port PtpState.MASTER else s

/-- PDELAY_REQ_TX (R196, R198): at its interval a port with peer delay sends its Pdelay_Req. -/
def execPdelayReqTx (port : Nat) (s : State) : Result :=
  whileOn s Blk.PTP fun s =>
    let v := s.ptpPort port
    if s.ptpPeer port && dueSince s v.pdelayAt (logNs (s.logPdelay port)) then
      let s := s.setPtpPort port { v with
        seqPdelay := (v.seqPdelay + 1) % 65536, pdelayAt := some s.mono, asked := some (v.seqPdelay, s.ptpTxTime port), answer := none }
      s.ptpSend port (s.ptpMsg port .pdelayReq v.seqPdelay 0x7F 0)
    else s

/-! ## The transparent clock (R198) -/

/-- A message with `c` ns added to its correctionField. -/
def ptpCorrected (b : List Byte) (c : Int) : List Byte := b.take 8 ++ beBytes 8 (encodeSigned 64 (ptpCorr b + c * 65536)) ++ b.drop 16

/-- Peer-delay messages, which a transparent clock with peer delay does not forward. -/
def PtpKind.peer : PtpKind → Bool
  | .pdelayReq | .pdelayResp | .pdelayRespFollowUp => true
  | _ => false

/-- What the forwarding of a message adds to it, ns, and what it keeps of a two-step Sync for the Follow_Up. -/
def State.ptpForwardCorr (s : State) (port out : Nat) (k : PtpKind) (b : List Byte) (inside : Nat) : Option Int × State :=
  let residence : Int := inside + s.fldB port F.PTP_PORT_LAT_RX_NS + s.fldB out F.PTP_PORT_LAT_TX_NS
  let link : Int := if s.ptpP2p port then s.fldB port F.PTP_PORT_STAT_LINK_NS + signedOf 32 (s.fldB port F.PTP_PORT_ASYM_ASYM_NS) else 0
  let v := s.ptpPort port
  match k with
  | .sync =>
    if ptpTwoStep b then
      (none, s.setPtpPort port { v with fwd := (ptpSrc b, ptpSeq b, residence + link) :: v.fwd.filter fun e => e.1 != ptpSrc b })
    else (some (residence + link), s)
  | .followUp =>
    match v.fwd.find? fun e => e.1 == ptpSrc b && e.2.1 == ptpSeq b with
    | some e => (some e.2.2, s.setPtpPort port { v with fwd := v.fwd.erase e })
    | none => (none, s)
  | _ => (if k.event then some residence else none, s)

/-- PTP_TRANSPARENT_FORWARD (R198, R199): a message that came in at `port`, `inside` ns ago, leaves at the other port. -/
def execPtpTransparentForward (port : Nat) (header body : List Byte) (rxAt txAt : Nat) (s : State) : Result :=
  whileOn s Blk.PTP fun s =>
    let msg := header ++ body
    let out := 1 - port
    match ptpKindOf msg with
    | none => s
    | some k =>
      if s.ptpMode port != PtpMode.TRANSPARENT || s.ptpMode out != PtpMode.TRANSPARENT || ptpMalformed msg
          || ptpDomain msg != s.fld F.PTP_CLOCK_DOMAIN || (k.peer && s.ptpP2p port) then s
      else if !s.ethCanSend out then s.bumpB out (ptpCnt 3)
      else
        let (c, s) := s.ptpForwardCorr port out k msg (txAt - rxAt)
        let udp := s.flagB out F.PTP_PORT_CFG_UDP
        let s := s.emit (.ptp out udp udp (match c with
          | some c => ptpCorrected msg c
          | none => msg))
        let s := if c.isSome then s.bumpB out (ptpCnt 2) else s
        if k.event then s.ptpStamp out true k.code (ptpSeq msg) (ptpDomain msg) else s

/-- PTP is enabled: ports take the state of their mode (R196, R204). -/
def State.ptpStart (s : State) : State :=
  [0, 1].foldl (fun s p =>
    (s.setPtpPort p PtpPort.idle).ptpEnter p (if s.ptpMode p = PtpMode.MASTER then PtpState.MASTER else 0)) s

end Sys2Proof.Machine
end

