-- ==== Sys2Proof/Machine/Tracking.lean ====
section
/-!
DEFINITION. GRX's tracking channels, navigation records and interference (R150–R151, R154–R158, R161, R162, R164, R165, R174, R176).
-/

namespace Sys2Proof.Machine

/-- Change GRX's state. -/
def State.setGrx (s : State) (f : GrxSt → GrxSt) : State := { s with grx := f s.grx }

/-- Counter `n` of GRX (R177). -/
def grxCnt (n : Nat) : Fld := F.GRX_CNT_COUNT.nth n

/-! ## Bands (R150, R151, R164) -/

/-- Width, kHz, of a notch's width code (R164). -/
def notchKHz (w : Nat) : Nat := [50, 200, 500, 2000].getD w 2000

/-- A signal's pre-correlation band overlaps a notch on its path (R164). -/
def notchOverlaps (sig path : Nat) (n : GrxNotch) : Bool :=
  sigPath sig == path
    && decide (2 * ((sigKHz sig : Int) - ((pathKHz path : Int) + 10 * n.offset)).natAbs < sigBw sig + notchKHz n.width)

/-! ## Channels (R154, R155, R157, R174) -/

/-- The CHANNELS entry of a channel in the applied image: signal (0 unallocated), antenna, FIXED, SVID, carrier slot, code slot. -/
def State.chanRow (s : State) (ch : Nat) : List Byte :=
  match s.sim.applied with
  | some img => Bytes.slice (imgSec img Sec.CHANNELS Blk.GRX) (8 * ch) 8
  | none => []
def State.chanSig (s : State) (ch : Nat) : Nat := Bytes.at' (s.chanRow ch) 0 1
def State.chanAnt (s : State) (ch : Nat) : Nat := b2n (bitOf (Bytes.at' (s.chanRow ch) 1 1) 0)
def State.chanFixed (s : State) (ch : Nat) : Bool := bitOf (Bytes.at' (s.chanRow ch) 1 1) 1
def State.chanCarr (s : State) (ch : Nat) : Nat := Bytes.at' (s.chanRow ch) 4 2
def State.chanCode (s : State) (ch : Nat) : Nat := Bytes.at' (s.chanRow ch) 6 2

/-- The channels of the module, and those the image allocates. -/
def allChans : List Nat := List.range 384
def State.chans (s : State) : List Nat := allChans.filter fun c => s.chanSig c != 0

/-- A channel's state, and setting it. -/
def State.chan (s : State) (ch : Nat) : GrxChan := s.grx.chans.get GrxChan.idle ch
def State.setChan (s : State) (ch : Nat) (v : GrxChan) : State :=
  s.setGrx fun g => { g with chans := g.chans.set GrxChan.idle ch v }

/-- A channel is in test, or out of service after one (R174). -/
def State.chanOut (s : State) (ch : Nat) : Bool :=
  s.pwr.outOfService.contains (.channel, ch)
    || (match s.pwr.test with
      | some t => t.unit == .channel && t.index == ch
      | none => false)

/-- A test may take the channel: it is unallocated, or a pool channel with no satellite. -/
def State.chanTestable (s : State) (ch : Nat) : Bool :=
  s.chanSig ch == 0 || (!s.chanFixed ch && (s.chan ch).svid == 0)

/-- A satellite is put on a channel. -/
def State.chanAssign (s : State) (ch svid : Nat) (elev : Int) : State :=
  s.setChan ch { GrxChan.idle with state := 2, svid, since := s.mono, lockAt := s.mono, elev }

/-- SLIP for the next set, and LOCK from 0 (R113, R157). -/
def State.chanSlip (s : State) (ch : Nat) : State :=
  (s.setChan ch { s.chan ch with slip := true, lockAt := s.mono }).bump (grxCnt 3)

/-- GRX releases a pool channel's satellite, which is not assigned again on that signal and antenna for 300 s (R155). -/
def State.chanRelease (s : State) (ch : Nat) : State :=
  let v := s.chan ch
  (s.setChan ch GrxChan.idle).setGrx fun g =>
    { g with bans := (s.chanSig ch, s.chanAnt ch, v.svid, s.mono + 300 * nsPerSec) :: g.bans.filter fun b => decide (s.mono < b.2.2.2) }

/-- The satellites of a list that a signal on an antenna may take: at least ACQ_MASK high, not on a channel of that signal and antenna,
not released within 300 s; highest first, on ANT_B those that ANT_A's channels of the signal hold before the rest. -/
def State.assignable (s : State) (views : List SatView) (sig ant : Nat) : List SatView :=
  let on (a svid : Nat) : Bool := s.chans.any fun c => s.chanSig c == sig && s.chanAnt c == a && (s.chan c).svid == svid
  let ok := views.filter fun v => v.sig == sig && v.ant == ant && decide (100 * (s.fld F.GRX_CFG_ACQ_MASK : Int) ≤ v.elev) && !on ant v.svid
    && !s.grx.bans.any fun b => b.1 == sig && b.2.1 == ant && b.2.2.1 == v.svid && decide (s.mono < b.2.2.2)
  let sorted := sortBy (fun a b => decide (b.elev ≤ a.elev)) ok
  if ant = 0 then sorted else (sorted.filter fun v => on 0 v.svid) ++ sorted.filter fun v => !on 0 v.svid

/-- The free pool channels of a signal on an antenna. -/
def State.freeChans (s : State) (sig ant : Nat) : List Nat :=
  s.chans.filter fun c => s.chanSig c == sig && s.chanAnt c == ant && !s.chanFixed c && (s.chan c).svid == 0 && !s.chanOut c

/-- A channel's elevation from the views; below the horizon where the satellite is not in them. -/
def State.chanElev (s : State) (views : List SatView) (c : Nat) : Int :=
  ((views.find? fun v => v.sig == s.chanSig c && v.ant == s.chanAnt c && v.svid == (s.chan c).svid).map SatView.elev).getD (-9000)

/-- CHANNEL_ASSIGN (R155): once a second at basic level satellites are released and assigned; `views` is what the almanac gives. -/
def execChannelAssign (views : List SatView) (s : State) : Result :=
  whileOn s Blk.GRX fun s =>
    let held := s.chans.filter fun c => (s.chan c).svid != 0
    let s := held.foldl (fun s c => s.setChan c { s.chan c with elev := s.chanElev views c }) s
    if s.expert Blk.GRX then s
    else
      let s := (held.filter fun c => !s.chanFixed c).foldl (fun s c =>
        let v := s.chan c
        if decide (v.elev < 100 * (s.fld F.GRX_CFG_ACQ_MASK : Int) - 200) || (v.state < 3 && s.passed v.since (60 * nsPerSec)) then s.chanRelease c else s) s
      [0, 1].foldl (fun s ant => ((List.range 17).drop 1).foldl (fun s sig =>
        ((s.freeChans sig ant).zip (s.assignable views sig ant)).foldl (fun s p => s.chanAssign p.1 p.2.svid p.2.elev) s) s) s

/-- A write to `GRX_CH_CFG`: at expert level ASSIGN puts a satellite on a pool channel, or releases it (R176). -/
def State.chanCfgWrite (s : State) (w : Word) : State :=
  let ch := s.fld F.GRX_CH_IDX_CH
  thenIf (s.hostReg R.GRX_CH_CFG w) fun s =>
    if !s.blkOn Blk.GRX || !s.expert Blk.GRX || s.chanSig ch = 0 || s.chanFixed ch || s.chanOut ch then s
    else
      let sv := s.fldB ch F.GRX_CH_CFG_ASSIGN
      if sv = 0 then s.setChan ch GrxChan.idle else if sv = (s.chan ch).svid then s else s.chanAssign ch sv (-9000)

/-- ACQUISITION_COMPLETE (R156): a channel that acquires reaches code lock. -/
def execAcquisitionComplete (ch : Nat) (s : State) : Result :=
  whileOn s Blk.GRX fun s =>
    if (s.chan ch).state = 2 then s.setChan ch { s.chan ch with state := 3, lockAt := s.mono } else s

/-- A loop of a channel loses lock, or reports saturation: LOCK restarts, SLIP is set, and at basic level of LPE its loops restart
(R157, R297). A channel that has lost its signal acquires it again, and has 60 s to lock from then on (R155, R156). -/
def State.lockLoss (s : State) (ch : Nat) (lost : Bool) : State :=
  let v := s.chan ch
  let s := s.setChan ch (if lost then { v with state := 2, since := s.mono } else { v with state := min v.state 3 })
  ((s.slotRestart (s.chanCarr ch)).slotRestart (s.chanCode ch)).chanSlip ch

/-- PHASE_LOCK_LOSS (R157): a channel loses phase lock; `lost`: the signal too, and it is acquired again. -/
def execPhaseLockLoss (ch : Nat) (lost : Bool) (s : State) : Result :=
  whileOn s Blk.GRX fun s => if 3 ≤ (s.chan ch).state then s.lockLoss ch lost else s

/-- A channel's report at an epoch (R157): phase lock begins at an indicator of 0.8, LOCK with it, and is lost below. -/
def State.chanReport (s : State) (m : ChanMeas) : State :=
  if (s.chan m.ch).state < 3 then s
  else
    let s := if (s.chan m.ch).state = 4 then (if m.pli < 800 then s.lockLoss m.ch false else s)
      else if m.pli < 800 then s else s.setChan m.ch { s.chan m.ch with state := 4, lockAt := s.mono }
    let v := s.chan m.ch
    s.setChan m.ch { v with cn0 := m.cn0, half := m.half, asymRun := if 200 < m.asym then v.asymRun + 1 else 0 }

/-- LOCK of a channel, in 100 ms (R113): 0 until phase lock. -/
def State.chanLock (s : State) (ch : Nat) : Nat :=
  let v := s.chan ch
  if v.state = 4 then min 4095 ((s.mono - v.lockAt) / (100 * nsPerMs)) else 0

/-- The channel whose carrier (`code` false) or code loop runs in a Loop Engine slot. -/
def State.chanOfSlot (s : State) (slot : Nat) (code : Bool) : Option Nat :=
  s.chans.find? fun c => (if code then s.chanCode c else s.chanCarr c) == slot

/-- A sample for a tracking loop (R157): the carrier loop of a channel that tracks takes one at every dump of CARR_MS, the code loop one every
CODE_MS; none where it is not due. -/
def State.chanSample (s : State) (slot : Nat) (code : Bool) : Option State :=
  match s.chanOfSlot slot code with
  | none => none
  | some c =>
    let v := s.chan c
    let period := (if code then s.fld F.GRX_TRK_CODE_MS else s.fld F.GRX_TRK_CARR_MS) * nsPerMs
    if v.state < 3 || !dueSince s (if code then v.codeAt else v.carrAt) period then none
    else some (s.setChan c (if code then { v with codeAt := some s.mono } else { v with carrAt := some s.mono }))

/-! ## Navigation data (R161–R163) -/

/-- The bytes of a navigation record (R161), received now. -/
def NavRec.bytes (r : NavRec) (now : Nat) : List Byte :=
  Bytes.ofNat 1 (sigSys r.sig) ++ Bytes.ofNat 1 r.svid ++ Bytes.ofNat 1 r.sig ++ Bytes.ofNat 1 r.ant ++ Bytes.ofNat 5 now ++ Bytes.ofNat 1 r.kind
    ++ Bytes.ofNat 1 (if r.passed then 1 else 2) ++ Bytes.ofNat 1 r.fec ++ Bytes.ofNat 2 r.nbits ++ Bytes.ofNat 2 0
    ++ Bytes.ofNat (ceilDiv r.nbits 8) (Bytes.toNat r.bits % 2 ^ r.nbits)

/-- A record the signal can give (R150): a channel tracks it, its data are of this KIND, and FEC is of the format. -/
def State.navPossible (s : State) (r : NavRec) : Bool :=
  (sigKinds r.sig).contains r.kind && decide (r.fec ≤ 2) && (match kindFec r.kind with
    | some coded => coded == (r.fec != 0)
    | none => true)
    && s.chans.any fun c => s.chanSig c == r.sig && s.chanAnt c == r.ant && (s.chan c).svid == r.svid && decide (3 ≤ (s.chan c).state)

/-- The accepted ephemerides of a satellite, and setting them. -/
def State.setEph (s : State) (k : Nat) (l : List GrxEph) : State := s.setGrx fun g => { g with eph := g.eph.set [] k l }

/-- Check DATA has failed (R166). -/
def State.dataFail (s : State) : State := s.setGrx fun g => { g with dataBad := true }

/-- An accepted ephemeris meets a reception of its issue (R162, R166): one from the store is confirmed, or discarded; another that has changed its
content fails check DATA. -/
def State.ephMeet (s : State) (k : Nat) (e : NavEph) : State :=
  match s.grx.eph.get [] k with
  | [] => s
  | c :: rest =>
    if c.issue != e.issue then s
    else if c.content = e.content then s.setEph k ({ c with stored := false } :: rest)
    else if c.stored then s.setEph k rest
    else s.dataFail

/-- An ephemeris is accepted (R162); the one before it serves epochs up to now (R175). -/
def State.ephAccept (s : State) (k : Nat) (e : NavEph) : State :=
  let old := (s.grx.eph.get [] k).filter fun c => c.issue != e.issue
  s.setEph k (⟨e.issue, e.content, e.fitFrom, e.fitTo, e.healthy, false, s.tai⟩ :: old.take 1)

/-- A complete ephemeris is received (R162): the second reception of the same issue and content is accepted where its orbit lies within 5 km
of the almanac's, and rejected otherwise. -/
def State.ephTake (s : State) (k : Nat) (e : NavEph) : State :=
  let again : Bool := match s.grx.once.get none k with
    | some c => c.issue == e.issue && c.content == e.content
    | none => false
  let s := s.setGrx fun g => { g with once := g.once.set none k (if again then none else some e) }
  if !again then s
  else if Config.orbitGapM e.content (s.grx.alm.get none k) ≤ 5000 then s.ephAccept k e
  else (s.bump (grxCnt 0)).raise Ev.GRX_EPH_REJECT 0

/-- The broadcast time of a record differs from device time by more than 1 s (R166). -/
def State.timeOff (s : State) (r : NavRec) : Bool :=
  match r.time with
  | some t => s.timeValid && (decide (t + 1000 < s.devClause) || decide (s.devClause + 1000 < t))
  | none => false

/-- What GRX takes from a record (R162, R163), but for the alarm nothing of which it accepts. -/
def State.navAccept (s : State) (r : NavRec) : State :=
  let s := match r.eph with
    | some e => s.ephTake (sigSys r.sig * 64 + r.svid) e
    | none => s
  let s := s.setGrx fun g => { g with alm := r.alm.foldl (fun m a => m.set none a.1 (some a.2)) g.alm }
  match r.utc with
  | some (o, leap) => if s.blkOn Blk.TIM then s.utcTake o leap else s
  | none => s

/-- NAV_RECORD (R161–R163, R166, R167): GRX completes a subframe, message or page. Only content of a record that passed is used; none is
accepted during the alarm, while check DATA goes on. -/
def execNavRecord (r : NavRec) (s : State) : Result :=
  whileOn s Blk.GRX fun s =>
    if !s.navPossible r then s
    else
      let s := if !s.flag F.GRX_OUT_NAV_EN then s else
        match s.clauseNow with
        | some c => (s.ringPut (s.fld F.GRX_OUT_NAV_RING) Blk.GRX (r.bytes c)).1
        | none =>
          let (v, s) := s.draw
          (s.ringPut (s.fld F.GRX_OUT_NAV_RING) Blk.GRX (r.bytes v)).1
      if !r.passed then s.bump (grxCnt 1)
      else if r.fec = 2 then s
      else
        let s := if s.timeOff r then s.dataFail else s
        let s := match r.eph with
          | some e => s.ephMeet (sigSys r.sig * 64 + r.svid) e
          | none => s
        if s.flag F.GRX_STATUS_SPOOF_ALARM then s else s.navAccept r

/-- Accepted ephemerides and almanacs are stored in NAND (R156), while GRX is enabled. -/
def State.ephSave (s : State) : State :=
  if !s.blkOn Blk.GRX then s
  else { s with nand := { s.nand with
    nav := s.grx.eph.filterMap fun e => e.2.head?.map fun v => (e.1, some ⟨v.issue, v.content, v.fitFrom, v.fitTo, v.healthy⟩)
    alm := s.grx.alm } }

/-- EPHEMERIS_SAVE (R156): every 10 min. -/
def execEphemerisSave (s : State) : Result := whileOn s Blk.GRX State.ephSave

/-! ## Notches (R164, R176) -/

/-- The key of a notch, and of a path. -/
def notchKey (ant path n : Nat) : Nat := ant * 12 + path * 4 + n
def pathKey (ant path : Nat) : Nat := ant * 3 + path

/-- A notch is placed, moved or released: event 101, and SLIP on the signals it or the one before touches. -/
def State.setNotch (s : State) (ant path n : Nat) (v : Option GrxNotch) : State :=
  let old := s.grx.notches.get none (notchKey ant path n)
  let touched := s.chans.filter fun c => s.chanAnt c == ant && decide (3 ≤ (s.chan c).state)
    && ((old.toList ++ v.toList).any fun k => notchOverlaps (s.chanSig c) path k)
  let s := s.setGrx fun g => { g with notches := g.notches.set none (notchKey ant path n) v }
  (touched.foldl State.chanSlip s).raise Ev.GRX_NOTCH_CHANGE 0

/-- The narrowest width code that covers a peak to −3 dB. -/
def notchWidth (kHz : Nat) : Nat := if kHz ≤ 50 then 0 else if kHz ≤ 200 then 1 else if kHz ≤ 500 then 2 else 3

/-- A notch covers a peak's centre. -/
def GrxNotch.covers (n : GrxNotch) (p : SpecPeak) : Bool := decide (20 * (n.offset - p.offset).natAbs ≤ notchKHz n.width)

/-- The notch a peak asks for. -/
def SpecPeak.notch (p : SpecPeak) : GrxNotch := ⟨p.offset, notchWidth p.kHz, p.db, none⟩

/-- A notch of a path is kept, or released once its peak has been absent for 1 s. -/
def State.notchAge (s : State) (ant path : Nat) (peaks : List SpecPeak) (n : Nat) : State :=
  let key := notchKey ant path n
  match s.grx.notches.get none key with
  | none => s
  | some v =>
    if peaks.any v.covers then s.setGrx fun g => { g with notches := g.notches.set none key (some { v with absent := none }) }
    else match v.absent with
      | none => s.setGrx fun g => { g with notches := g.notches.set none key (some { v with absent := some s.mono }) }
      | some t => if s.passed t nsPerSec then s.setNotch ant path n none else s

/-- A peak among the four strongest gets a notch: a free one, or one whose peak is not among them. -/
def State.notchPlace (s : State) (ant path : Nat) (wanted : List SpecPeak) (p : SpecPeak) : State :=
  let at' (n : Nat) : Option GrxNotch := s.grx.notches.get none (notchKey ant path n)
  if (List.range 4).any (fun n => (at' n).any fun v => v.covers p) then s
  else match (List.range 4).find? (fun n => (at' n).isNone) with
    | some n => s.setNotch ant path n (some p.notch)
    | none =>
      match (List.range 4).find? (fun n => (at' n).any fun v => !wanted.any v.covers) with
      | some n => s.setNotch ant path n (some p.notch)
      | none => s

/-- SPECTRUM_ESTIMATE (R164): an estimate of a path's spectrum, whose narrowband peaks are given; at basic level it governs the notches. -/
def execSpectrumEstimate (ant path : Nat) (peaks : List SpecPeak) (s : State) : Result :=
  whileOn s Blk.GRX fun s =>
    if s.expert Blk.GRX then s
    else
      let strong := peaks.filter fun p => decide (s.fld F.GRX_JAM_NOTCH_THR ≤ p.db) && decide (p.kHz ≤ 2000) && inBand path p.offset
      let was := s.grx.peaks.get [] (pathKey ant path)
      let runs := strong.map fun p => (p.offset, ((was.find? fun r => r.1 == p.offset).map Prod.snd).getD 0 + 1)
      let s := s.setGrx fun g => { g with peaks := g.peaks.set [] (pathKey ant path) runs }
      let s := (List.range 4).foldl (fun s n => s.notchAge ant path strong n) s
      let ripe := strong.filter fun p => runs.any fun r => r.1 == p.offset && decide (5 ≤ r.2)
      let wanted := (sortBy (fun a b => decide (b.db ≤ a.db)) ripe).take 4
      wanted.foldl (fun s p => s.notchPlace ant path wanted p) s

/-- A write to `GRX_NOTCH_SET`: at expert level it places or releases the notch `GRX_NOTCH_IDX` names. What EXCESS then reads is free. -/
def State.notchSetWrite (s : State) (w : Word) : State :=
  let idx := s.fldB 0 ⟨R.GRX_NOTCH_IDX, 4, 0⟩
  let ant := s.fld F.GRX_NOTCH_IDX_ANT
  let path := s.fld F.GRX_NOTCH_IDX_PATH
  let n := s.fld F.GRX_NOTCH_IDX_NOTCH
  thenIf (s.hostReg R.GRX_NOTCH_SET w) fun s =>
    if !s.blkOn Blk.GRX || !s.expert Blk.GRX then s
    else if s.flagB idx F.GRX_NOTCH_SET_ACTIVE then
      let (v, s) := s.draw
      s.setNotch ant path n
        (some ⟨signedOf 13 (s.fldB idx F.GRX_NOTCH_SET_OFFSET), s.fldB idx F.GRX_NOTCH_SET_WIDTH, v % 256, none⟩)
    else if (s.grx.notches.get none (notchKey ant path n)).isSome then s.setNotch ant path n none
    else s

/-- NOTCH_SET_WRITE (R176): a write to `GRX_NOTCH_SET`. -/
def execNotchSetWrite (value : Word) (s : State) : Result := whileRunning s fun s => s.notchSetWrite value

/-! ## Jamming (R165) -/

/-- The level field of a path. -/
def jamFld (ant path : Nat) : Fld := ⟨R.GRX_JAM, 8 * ant + 2 * path + 1, 8 * ant + 2 * path⟩

/-- The level of a gain reduction. -/
def jamLevel (db : Nat) (atLimit : Bool) : Nat := if atLimit || 20 ≤ db then 3 else if 10 ≤ db then 2 else if 3 ≤ db then 1 else 0

/-- JAM_LEVEL_CHANGE (R165): a path's gain reduction below its quiet level is `db` dB, and over the last second it was at most `most` dB:
the level rises at once, and falls only below every threshold that `most` is at least 2 dB below. -/
def execJamLevelChange (ant path db most : Nat) (atLimit : Bool) (s : State) : Result :=
  whileOn s Blk.GRX fun s =>
    let s := s.setGrx fun g => { g with jamDb := g.jamDb.set 0 (pathKey ant path) db }
    let s := s.setFld F.GRX_JAM_WORST_DB (min 255 ((s.grx.jamDb.map Prod.snd).foldl max 0))
    let old := s.fld (jamFld ant path)
    let up := jamLevel db atLimit
    let down := jamLevel (most + 1) false
    let new := if old < up then up else if atLimit then old else min old (max up down)
    if new = old then s else (s.setFld (jamFld ant path) new).raise Ev.GRX_JAM_LEVEL 0

/-- The quiet level of each path is measured (R165); the figures are free. -/
def State.quietCal (s : State) : State :=
  (List.range 6).foldl (fun s p =>
    let (v, s) := s.draw
    s.setGrx fun g => { g with quiet := g.quiet.set 0 p v }) s

end Sys2Proof.Machine
end

