-- ==== Sys2Proof/Machine/Observe.lean ====
section
/-!
DEFINITION. What GRX makes of an epoch's measurements (R159, R160, R162, R166, R169): the observations and satellites of an antenna, its set as a
record, the ANT_A–ANT_B double differences and their fix, and what the monitor's checks compare.
-/

namespace Sys2Proof.Machine

/-! ## Held positions (R168) -/

/-- The held position of an antenna. -/
def State.heldPos (s : State) (a : Nat) : Option (List Int) := if a = 0 then s.nand.heldA else s.nand.heldB

/-- The square of the distance of two positions. -/
def dist2 (p q : List Int) : Int := ((p.zip q).map fun c => (c.1 - c.2) * (c.1 - c.2)).sum

/-! ## The observations of an antenna (R159, R162) -/

/-- The signal a channel tracks. -/
def State.chanKey (s : State) (ch : Nat) : Nat := sigKey (s.chanSig ch) (s.chan ch).svid

/-- The reports of an antenna's tracking channels, one for a signal, by satellite; at most 64 satellites (R160). -/
def State.antChans (s : State) (a : Nat) (chans : List ChanMeas) : List ChanMeas :=
  let on := chans.filter fun m => decide (m.ch < 384) && s.chanSig m.ch != 0 && s.chanAnt m.ch == a && decide (3 ≤ (s.chan m.ch).state)
    && (s.chan m.ch).svid != 0 && !s.chanOut m.ch
  let once := on.foldl (fun acc m => if acc.any fun p => s.chanKey p.ch == s.chanKey m.ch then acc else acc ++ [m]) []
  let sats := (sortBy (fun a b => decide (a ≤ b)) (once.map fun m => keySat (s.chanKey m.ch)).eraseDups).take 64
  sats.flatMap fun v => once.filter fun m => keySat (s.chanKey m.ch) == v

/-- A channel's observation; `clkOff` moves it to the epoch. -/
def State.chanObs (s : State) (clkOff : Int) (m : ChanMeas) : Obs :=
  obsOf (s.chanSig m.ch) (s.chan m.ch).svid m.cn0 m.pr m.cpd m.dop clkOff (s.chanLock m.ch) m.half (s.chan m.ch).slip

/-- What an antenna's epoch holds: its channels' reports, its satellites, and the observations of usable satellites' healthy signals. -/
structure AntSet where
  chans : List ChanMeas
  sats : List RefSat
  obs : List Obs
  deriving DecidableEq, Repr

/-- The set of an antenna. Elevations hold at its held position, or at that of its code while it has none. -/
def State.antSet (s : State) (a epoch : Nat) (m : AntMeas) (chans : List ChanMeas) : AntSet :=
  let on := s.antChans a chans
  let all := on.map (s.chanObs m.clkOff)
  let sats := (all.map fun o => keySat o.key).eraseDups.map
    (s.refSat epoch ((s.heldPos a).getD m.codePos) (some (s.fld F.GRX_CFG_USE_MASK)) all)
  ⟨on, sats, (s.healthyObs epoch all).filter fun o => sats.any fun v => v.usable && v.sat == keySat o.key⟩

/-- The usable satellites of a set (R162, R170). -/
def AntSet.nsat (v : AntSet) : Nat := (v.sats.filter RefSat.usable).length

/-! ## The record of a set (R160) -/

/-- A satellite block: its header, and a signal block for each of its channels. -/
def State.satBlock (s : State) (v : AntSet) (sat : Nat) : List Byte :=
  let on := v.chans.filter fun m => keySat (s.chanKey m.ch) == sat
  Bytes.ofNat 1 (sat / 64 + 4 * on.length) ++ Bytes.ofNat 1 (sat % 64)
    ++ on.flatMap fun m => sigBytes (s.chanSig m.ch) m.cn0 m.pr m.cpd m.dop (s.chanLock m.ch) m.half (s.chan m.ch).slip

/-- A reference set's record. -/
def State.setBytes (s : State) (a epoch reason : Nat) (clkOff : Int) (v : AntSet) : List Byte :=
  let jam := (List.range 3).any fun p => decide (2 ≤ s.fld (jamFld a p))
  let flags := b2n (reason == 0) + 2 * b2n (s.fld F.GRX_STATUS_REF_ANT == a + 1) + 4 * b2n (s.flag F.GRX_STATUS_SPOOF_ALARM)
    + 8 * b2n (s.flag F.GRX_STATUS_BASE_ALARM) + 16 * b2n jam
  Bytes.ofNat 1 a ++ Bytes.ofNat 1 flags ++ Bytes.ofNat 1 reason ++ Bytes.ofNat 1 v.sats.length ++ Bytes.ofNat 5 epoch
    ++ Bytes.ofNat 4 (encodeSigned 32 clkOff) ++ Bytes.ofNat 1 (s.grx.setSeq.get 0 a) ++ Bytes.ofNat 2 v.chans.length
    ++ v.sats.flatMap fun r => s.satBlock v r.sat

/-! ## The baseline (R166, R169) -/

/-- An ANT_A–ANT_B double difference: its signal, what the directions of its satellite and of its code's pivot differ by, the double difference
(mm) and what the surveyed baseline predicts. -/
structure BaseDd where
  key : Nat
  h : List Rat
  y : Rat
  pred : Rat
  deriving DecidableEq, Repr

/-- The double differences of an epoch: signals usable and in phase lock on both antennas, without SLIP, each code against the signal of its
highest satellite; and the pivots. -/
def State.baseDds (s : State) (epoch : Nat) (posA posB : List Int) (a b : AntSet) : List BaseDd × List Nat :=
  let locked (v : AntSet) (k : Nat) : Bool := v.chans.any fun m => s.chanKey m.ch == k && (s.chan m.ch).state == 4
  let good (v : AntSet) (o : Obs) : Bool := locked v o.key && !o.slip
  let pairs := a.obs.filterMap fun o =>
    if good a o then (b.obs.find? fun p => p.key == o.key && good b p).map fun p => (o.key, o.carrier - p.carrier) else none
  let base := (siteEnu s.siteOrigin posB).zipWith (fun x y => x - y) (siteEnu s.siteOrigin posA)
  let sat (k : Nat) : Option RefSat := a.sats.find? fun v => v.sat == keySat k
  let elev (k : Nat) : Int := ((sat k).map RefSat.elev).getD 0
  let dir (k : Nat) : List Rat := Config.sight ((((sat k).bind RefSat.eph).map Prod.snd).getD 0) epoch posA
  let groups := ((List.range 17).drop 1).map fun g =>
    sortBy (fun x y => decide (elev y.1 ≤ elev x.1)) (pairs.filter fun p => keySig p.1 == g)
  (groups.flatMap fun l => match l with
    | [] => []
    | p :: rest => rest.map fun q =>
      let h := (dir q.1).zipWith (fun x y => x - y) (dir p.1)
      ⟨q.1, h, q.2 - p.2, dot h base⟩,
   groups.filterMap fun l => l.head?.map Prod.fst)

/-- The wavelength of a double difference. -/
def BaseDd.lambda (d : BaseDd) : Rat := sigLambda (keySig d.key)

/-- Its integer, by the held baseline. -/
def BaseDd.int (d : BaseDd) : Int := nearest ((d.y - d.pred) / d.lambda)

/-- A fixed baseline: its integers by signal, 0 for a pivot; the sum of the squares of the residuals (mm²) and their number; the square of the
measured vector's deviation from the held one (mm²). -/
structure BaseFix where
  ints : List (Nat × Int)
  sumSq : Rat
  count : Nat
  dev2 : Rat
  deriving DecidableEq, Repr

/-- The fix of an epoch, by least squares over double differences of equal weight (DESIGN CHOICE, log 79); none with fewer than 5 common
satellites. -/
def baseFix (dds : List BaseDd) (pivots : List Nat) : Option BaseFix :=
  if ((dds.map BaseDd.key ++ pivots).map keySat).eraseDups.length < 5 then none
  else
    let rows := dds.map fun d => (d.h, d.y - d.pred - d.lambda * (d.int : Rat))
    let wide : Rat := ((10 ^ 12 : Nat) : Rat)
    let e := rows.foldl (fun (e : Est) r => e.meas r.1 r.2 1) ⟨[0, 0, 0], [[wide, 0, 0], [0, wide, 0], [0, 0, wide]]⟩
    let res := rows.map fun r => r.2 - dot r.1 e.x
    some ⟨(pivots.map fun p => (p, 0)) ++ dds.map (fun d => (d.key, d.int)), dot res res, res.length, dot e.x e.x⟩

/-- A phase is within 0.05 cycle of a whole number of cycles. -/
def nearWhole (q : Rat) : Bool :=
  let d := q - (nearest q : Rat)
  decide (-(1 / 20) ≤ d) && decide (d ≤ 1 / 20)

/-- Check DIRECTION: on one code at least 4 double differences are zero, where the surveyed baseline predicts otherwise. -/
def directionBad (dds : List BaseDd) : Bool :=
  ((List.range 17).drop 1).any fun g => decide (4 ≤ (dds.filter fun d =>
    keySig d.key == g && nearWhole (d.y / d.lambda) && !nearWhole (d.pred / d.lambda)).length)

/-! ## Other checks (R166) -/

/-- Check POWER: a signal above 55 dB-Hz, or on one path at least 4 that have risen by 6 dB within 1 s while its gain reduction has grown. -/
def State.powerBad (s : State) (chans : List ChanMeas) : Bool :=
  chans.any (fun m => decide (220 < m.cn0))
    || (List.range 6).any fun k =>
      s.grx.cnHist.any fun h => !s.passed h.at' (nsPerSec + 1) && decide (h.jamDb.get 0 k < s.grx.jamDb.get 0 k)
        && decide (4 ≤ (chans.filter fun m => pathKey (s.chanAnt m.ch) (sigPath (s.chanSig m.ch)) == k
          && h.cn0.any fun e => e.1 == m.ch && decide (e.2 + 24 ≤ m.cn0)).length)

/-- The epoch joins what check POWER compares with: the last second. -/
def State.cnKeep (s : State) (chans : List ChanMeas) : State :=
  s.setGrx fun g => { g with
    cnHist := ⟨s.mono, chans.map fun m => (m.ch, m.cn0), g.jamDb⟩ :: g.cnHist.filter fun h => !s.passed h.at' nsPerSec }

/-- Check CLOCK: while TIM disciplines, the offset steps from the one it predicts, or the drift differs from its own. -/
def State.clockBad (s : State) (m : AntMeas) : Bool :=
  s.tim.mode == .disciplined
    && (decide (1000 < (10 * (m.offset - s.fld F.TIM_CAL_ANT_NS - s.tim.offset) - s.tim.drift).natAbs) || decide (20 < (m.drift - s.tim.drift).natAbs))

/-- Check POSITION: 30 m from the held position. -/
def State.positionBad (s : State) (a : Nat) (m : AntMeas) : Bool :=
  match s.heldPos a with
  | some p => decide (300000 * 300000 < dist2 p m.codePos)
  | none => false

/-- Check SHAPE: 10 consecutive epochs on at least 3 signals. -/
def State.shapeBad (s : State) (chans : List ChanMeas) : Bool :=
  decide (3 ≤ (chans.filter fun m => decide (10 ≤ (s.chan m.ch).asymRun)).length)

end Sys2Proof.Machine
end

