-- ==== Sys2Proof/Machine/Grx.lean ====
section
/-!
DEFINITION. The reference receiver's antennas, reference epochs, monitors, surveys and RTCM output (R152, R153, R163,
R166–R173, R175, R176). What an epoch's measurements give is in Observe.lean.
-/

namespace Sys2Proof.Machine

/-! ## Antenna bias (R152) -/

/-- The fields of `GRX_ANT` for antenna 0 (ANT_A) or 1 (ANT_B). -/
def antBiasEn (a : Nat) : Fld := F.GRX_ANT_BIAS_EN_A.nth 0 |> fun f => { f with hi := f.hi + 8 * a, lo := f.lo + 8 * a }
def antShort (a : Nat) : Fld := { F.GRX_ANT_SHORT_A with hi := 3 + 8 * a, lo := 3 + 8 * a }
def antOpen (a : Nat) : Fld := { F.GRX_ANT_OPEN_A with hi := 2 + 8 * a, lo := 2 + 8 * a }
def antShared (a : Nat) : Fld := { F.GRX_ANT_SHARED_A with hi := 4 + 8 * a, lo := 4 + 8 * a }
def antRetry (a : Nat) : Fld := { F.GRX_ANT_RETRY_A with hi := 23 + 8 * a, lo := 16 + 8 * a }

/-- Bias is supplied to an antenna: enabled, and not shorted but for a retry. -/
def State.biasOn (s : State) (a : Nat) : Bool :=
  s.running && s.flag (antBiasEn a) && (!s.flag (antShort a) || (s.grx.retry.get none a).isSome)

/-- A survey ends without a position (R168, R175), with event 107. -/
def State.surveyOver (s : State) (result : Nat) : State :=
  if s.grx.survey.isNone then s
  else ((((s.setGrx fun g => { g with survey := none }).setFld F.GRX_STATUS_SURVEYING 0).setFld F.GRX_SURVEY_RESULT result)).raise
    Ev.GRX_SURVEY_END result

/-- The survey measures ANT_B: from the start of a KNOWN commit, and once a SELF survey has averaged (R168). -/
def State.measuringB (s : State) : Bool :=
  match s.grx.survey with
  | some v => !v.self || s.passed v.since (s.fld F.GRX_SURVEY_DURATION_MIN * 60 * nsPerSec)
  | none => false

/-- A retry meets the short again. -/
def State.retryMet (s : State) (a : Nat) : State :=
  (s.bump (antRetry a)).setGrx fun g => { g with retry := g.retry.set none a none, shortAt := g.shortAt.set none a (some s.mono) }

/-- ANT_SHORT (R152): a current above 120 mA switches bias off. -/
def execAntShort (a : Nat) (s : State) : Result :=
  whileRunning s fun s =>
    if !s.biasOn a then s
    else if s.flag (antShort a) then s.retryMet a
    else
      let s := (s.setFld (antShort a) 1).setGrx fun g => { g with shortAt := g.shortAt.set none a (some s.mono), retry := g.retry.set none a none }
      let s := s.raise Ev.GRX_ANT_SHORT 0
      if s.measuringB then s.surveyOver 9 else s

/-- ANT_OPEN (R152, R153): a current below 5 mA for 1 s. -/
def execAntOpen (a : Nat) (s : State) : Result :=
  whileRunning s fun s =>
    if !s.biasOn a || s.flag (antOpen a) then s
    else
      let s := s.setFld (antOpen a) 1
      if s.flag (antShared a) then s else s.raise Ev.GRX_ANT_OPEN 0

/-- BIAS_RETRY (R152, R176): every 10 s at basic level bias is applied again; `short`: the retry meets the short. -/
def execBiasRetry (a : Nat) (short : Bool) (s : State) : Result :=
  whileRunning s fun s =>
    if s.expert Blk.GRX || !s.flag (antShort a) || !s.flag (antBiasEn a) || !dueSince s (s.grx.shortAt.get none a) (10 * nsPerSec)
        || (s.grx.retry.get none a).isSome then s
    else if short then s.retryMet a
    else (s.setFld (antOpen a) 0).setGrx fun g => { g with retry := g.retry.set none a (some s.mono) }

/-- BIAS_RESTORED (R152): a retry has held for 1 s. -/
def execBiasRestored (a : Nat) (s : State) : Result :=
  whileRunning s fun s =>
    match s.grx.retry.get none a with
    | some t =>
      if s.passed t nsPerSec then
        ((s.setFld (antShort a) 0).setGrx fun g => { g with retry := g.retry.set none a none }).raise Ev.GRX_BIAS_RESTORED 0
      else s
    | none => s

/-- A write to `GRX_ANT`: bias follows BIAS_EN; clearing it clears SHORT and OPEN with the current it judged (log 42). -/
def State.antWrite (s : State) (w : Word) : State :=
  let r := s.hostReg R.GRX_ANT w
  [0, 1].foldl (fun s a =>
    if s.flag (antBiasEn a) then s
    else ((s.setFld (antShort a) 0).setFld (antOpen a) 0).setGrx fun g => { g with retry := g.retry.set none a none }) r.1

/-! ## Held positions (R168) -/

/-- 10 m in 0.1 mm, squared. -/
def minBaseline2 : Int := 100000 * 100000

/-- Both held positions are replaced, shown in POS_OK and sent to the partner (R168, R309). -/
def State.holdPositions (s : State) (a b : Option (List Int)) : State :=
  let s := ({ s with nand := { s.nand with heldA := a, heldB := b } }).setFld F.GRX_STATUS_POS_OK (b2n a.isSome)
  s.mirror 0 (.refPos (a.getD [] ++ b.getD []))

/-- HELD_POSITION_READ (R177): a read of `GRX_HELD_LO`. -/
def execHeldPositionRead (s : State) : Result :=
  whileRead s fun s =>
    let b := s.fldB 0 ⟨R.GRX_POS_SEL, 2, 0⟩
    let v : Int := ((s.heldPos (s.fld F.GRX_POS_SEL_ANT)).getD []).getD (s.fld F.GRX_POS_SEL_AXIS) 0
    let n := encodeSigned 64 v
    let s := (s.setFldB b F.GRX_HELD_LO_HELD_LO n).setFldB b F.GRX_HELD_HI_HELD_HI (n / 2 ^ 32)
    { s with hostRead := BitVec.ofNat 32 n }

/-- A write to `GRX_POS_HI` completes the KNOWN value of the selected antenna and axis (R177). -/
def State.posHiWrite (s : State) (w : Word) : State :=
  let b := s.fldB 0 ⟨R.GRX_POS_SEL, 2, 0⟩
  thenIf (s.hostReg R.GRX_POS_HI w) fun s =>
    let v := signedOf 64 (s.fldB b F.GRX_POS_LO_VAL_LO + 2 ^ 32 * s.fldB b F.GRX_POS_HI_VAL_HI)
    s.setGrx fun g => { g with known := g.known.set none b (some v) }

/-- POS_HI_WRITE (R177). -/
def execPosHiWrite (value : Word) (s : State) : Result := whileRunning s fun s => s.posHiWrite value

/-- The KNOWN position written for an antenna: none while no axis of it was. -/
def State.knownPos (s : State) (a : Nat) : Option (List Int) :=
  let v (x : Nat) : Option Int := s.grx.known.get none (4 * a + x)
  if (v 0).isNone && (v 1).isNone && (v 2).isNone then none else some [(v 0).getD 0, (v 1).getD 0, (v 2).getD 0]

/-! ## Surveys (R168, R175) -/

/-- A survey or commit begins; it is refused while SLV is enabled. -/
def State.surveyBegin (s : State) (self : Bool) : State :=
  if s.grx.survey.isSome then s
  else if s.blkOn Blk.SLV then s.setFld F.GRX_SURVEY_RESULT 3
  else ((s.setGrx fun g => { g with survey := some ⟨self, s.mono, 0, 0, [0, 0, 0]⟩ }).setFld F.GRX_STATUS_SURVEYING 1).setFld F.GRX_SURVEY_RESULT 1

/-- The baseline alarm clears, with event 105 where it stood. -/
def State.baseClear (s : State) : State :=
  let s := s.setGrx fun g => { g with devRun := 0, okRun := 0 }
  if s.flag F.GRX_STATUS_BASE_ALARM then (s.setFld F.GRX_STATUS_BASE_ALARM 0).raise Ev.GRX_BASELINE_ALARM 0 else s

/-- The held positions are cleared (R177). -/
def State.clearPositions (s : State) : State := s.holdPositions none none

/-- The operations of `GRX_SURVEY`. -/
def State.surveyOp (s : State) (op : Nat) : State :=
  match op with
  | 1 => s.surveyBegin false
  | 2 => s.surveyBegin true
  | 3 => s.clearPositions
  | 4 => s.quietCal
  | 5 => s.surveyOver 7
  | _ => s

/-- A write to `GRX_SURVEY`. -/
def State.surveyWrite (s : State) (w : Word) : State :=
  thenIf (s.hostReg R.GRX_SURVEY w) fun s => if s.blkOn Blk.GRX then s.surveyOp (F.GRX_SURVEY_OP.get w) else s

/-- The word with an operation and the DURATION_MIN that stands. -/
def State.surveyWord (s : State) (op : Nat) : Word := F.GRX_SURVEY_OP.put (F.GRX_SURVEY_DURATION_MIN.put 0 (s.fld F.GRX_SURVEY_DURATION_MIN)) op

/-- COMMIT_KNOWN (R168). -/
def execCommitKnown (s : State) : Result := whileRunning s fun s => s.surveyWrite (s.surveyWord 1)

/-- SELF_SURVEY (R168), with DURATION_MIN. -/
def execSelfSurvey (durationMin : Nat) (s : State) : Result :=
  whileRunning s fun s => s.surveyWrite (F.GRX_SURVEY_OP.put (F.GRX_SURVEY_DURATION_MIN.put 0 durationMin) 2)

/-- CLEAR_POSITIONS (R177). -/
def execClearPositions (s : State) : Result := whileRunning s fun s => s.surveyWrite (s.surveyWord 3)

/-- QUIET_CAL (R165). -/
def execQuietCal (s : State) : Result := whileRunning s fun s => s.surveyWrite (s.surveyWord 4)

/-- SURVEY_ABORT (R177). -/
def execSurveyAbort (s : State) : Result := whileRunning s fun s => s.surveyWrite (s.surveyWord 5)

/-- The average of ANT_A's code positions (R168), whose rounding the spec does not state. -/
def GrxSurvey.mean (v : GrxSurvey) : List Int := v.sum.map fun x => Config.roundQuot x v.count

/-- SURVEY_END (R168): the survey has measured; `vec` is the ANT_A–ANT_B vector by fixed carrier phase. -/
def execSurveyEnd (vec : List Int) (fixedMin : Nat) (s : State) : Result :=
  whileOn s Blk.GRX fun s =>
    match s.grx.survey with
    | none => s
    | some v =>
      let least := (if v.self then s.fld F.GRX_SURVEY_DURATION_MIN else 0) + 10
      if decide (fixedMin < 10) || !s.passed v.since (least * 60 * nsPerSec) then s
      else
        let a := if v.self then v.mean else (s.knownPos 0).getD [0, 0, 0]
        let measured := (a.zip vec).map fun c => c.1 + c.2
        let tol : Int := 10 * s.fld F.GRX_BASE_TOL_MM
        let b := (s.knownPos 1).getD measured
        if beyond10km s.siteOrigin a then s.surveyOver 4
        else if dist2 a b < minBaseline2 then s.surveyOver 5
        else if tol * tol < dist2 b measured then s.surveyOver 6
        else (s.quietCal.holdPositions (some a) (some b)).baseClear.surveyOver 2

/-! ## Monitors (R166, R167, R169) -/

/-- The false-signal alarm, in both registers that show it. -/
def State.setSpoof (s : State) (on : Bool) : State := (s.setFld F.GRX_STATUS_SPOOF_ALARM (b2n on)).setFld F.GRX_SPOOF_ALARM (b2n on)

/-- The checks of an epoch: an enabled check that fails raises the alarm, with event 103, and fails a survey. -/
def State.spoofCheck (s : State) (failing : Nat) : State :=
  let bad := failing &&& s.fld F.GRX_SPOOF_CHK_EN
  let s := s.setFld F.GRX_SPOOF_FAILED bad
  if bad = 0 then s
  else
    let s := s.setGrx fun g => { g with badAt := some s.mono }
    if s.flag F.GRX_STATUS_SPOOF_ALARM then s else ((s.setSpoof true).raise Ev.GRX_SPOOF_ALARM bad).surveyOver 8

/-- SPOOF_ALARM_CLEAR (R167): at basic level, no enabled check has failed for HOLD_S. -/
def execSpoofAlarmClear (s : State) : Result :=
  whileOn s Blk.GRX fun s =>
    if s.flag F.GRX_STATUS_SPOOF_ALARM && !s.expert Blk.GRX && dueSince s s.grx.badAt (s.fld F.GRX_SPOOF_HOLD_S * nsPerSec) then
      (s.setSpoof false).raise Ev.GRX_SPOOF_CLEAR 0
    else s

/-- A write to `GRX_SPOOF`: ALARM clears at expert level only, and not while an enabled check still fails. -/
def State.spoofWrite (s : State) (w : Word) : State :=
  let stood := s.flag F.GRX_STATUS_SPOOF_ALARM
  thenIf (s.hostReg R.GRX_SPOOF (F.GRX_SPOOF_ALARM.put w 0)) fun s =>
    if stood && F.GRX_SPOOF_ALARM.get w = 1 && s.expert Blk.GRX && s.fld F.GRX_SPOOF_FAILED &&& s.fld F.GRX_SPOOF_CHK_EN == 0 then
      (s.setSpoof false).raise Ev.GRX_SPOOF_CLEAR 0
    else s

/-- SPOOF_ALARM_WRITE (R167): a write to `GRX_SPOOF`. -/
def execSpoofAlarmWrite (value : Word) (s : State) : Result := whileRunning s fun s => s.spoofWrite value

/-- The antenna GRX solves the clock from (R163): the reference antenna; while none is named ANT_A, or ANT_B while ANT_A's bias is off or shorted. -/
def State.timeAnt (s : State) : Nat :=
  match s.fld F.GRX_STATUS_REF_ANT with
  | 1 => 0
  | 2 => 1
  | _ => if !s.biasOn 0 || s.flag (antShort 0) then 1 else 0

/-- An antenna's part of two. -/
def ofAnt {α : Type} (n : Nat) (a b : α) : α := if n = 0 then a else b

/-- The checks that fail at an epoch (R166), before those not enabled are left out. A clock solution rests on 5 satellites, a code position on 4. -/
def State.failingChecks (s : State) (m : RefMeas) (a b : AntSet) (dds : List BaseDd) : Nat :=
  let on := a.chans ++ b.chans
  let t := s.timeAnt
  let ref := s.fld F.GRX_STATUS_REF_ANT
  b2n (s.powerBad on) + 2 * b2n (s.flag F.GRX_STATUS_B_FIXED && directionBad dds)
    + 4 * b2n (decide (5 ≤ (ofAnt t a b).nsat) && s.clockBad (ofAnt t m.a m.b))
    + 8 * b2n (ref != 0 && decide (4 ≤ (ofAnt (ref - 1) a b).nsat) && s.positionBad (ref - 1) (ofAnt (ref - 1) m.a m.b))
    + 16 * b2n (s.shapeBad on) + 32 * b2n s.grx.dataBad

/-- The baseline at an epoch (R169): B_FIXED after 10 epochs of 5 mm or less, the alarm after 10 beyond TOL_MM, its end at basic level
after 100 within. The rounding of DEV_MM is not stated. -/
def State.baseline (s : State) (fix : Option BaseFix) : State :=
  let tol : Rat := (s.fld F.GRX_BASE_TOL_MM : Nat)
  let good : Bool := match fix with
    | some f => decide (f.sumSq ≤ 25 * (f.count : Nat))
    | none => false
  let far : Option Bool := fix.map fun f => decide (tol * tol < f.dev2)
  let s := s.setGrx fun g =>
    { g with rmsRun := if good then g.rmsRun + 1 else 0
             devRun := if far == some true then g.devRun + 1 else 0
             okRun := if far == some false then g.okRun + 1 else 0 }
  let s := s.setFld F.GRX_STATUS_B_FIXED (b2n (decide (10 ≤ s.grx.rmsRun)))
  let s := s.setFld F.GRX_BASE_DEV_MM (match fix with
    | some f => saturate 16 (Config.rms f.dev2.num.toNat f.dev2.den)
    | none => 65535)
  if s.flag F.GRX_STATUS_BASE_ALARM then
    if 100 ≤ s.grx.okRun && !s.expert Blk.GRX then s.baseClear else s
  else if 10 ≤ s.grx.devRun then (s.setFld F.GRX_STATUS_BASE_ALARM 1).raise Ev.GRX_BASELINE_ALARM 0
  else s

/-! ## Usable sets and the reference antenna (R170, R171, R176) -/

/-- The first condition of R170 an antenna's set fails; 0 where it is usable. -/
def State.setReason (s : State) (a nsat : Nat) (clkOff : Int) : Nat :=
  if (s.heldPos a).isNone then 1
  else if !s.biasOn a || s.flag (antShort a) || (s.flag (antOpen a) && !s.flag (antShared a)) then 2
  else if s.flag F.GRX_STATUS_SPOOF_ALARM then 3
  else if s.flag F.GRX_STATUS_BASE_ALARM then 4
  else if nsat < 5 then 5
  else if !s.timeValid || 1000000 < clkOff.natAbs then 6
  else 0

/-- An antenna's usable state, with event 96 or 97 where it changes. -/
def State.setUsable (s : State) (a reason : Nat) : State :=
  let f := if a = 0 then F.GRX_STATUS_USABLE_A else F.GRX_STATUS_USABLE_B
  if s.flag f == (reason == 0) then s
  else if reason = 0 then (s.setFld f 1).raise Ev.GRX_SET_USABLE a
  else (s.setFld f 0).raise Ev.GRX_SET_UNUSABLE (a + reason * 65536)

/-- R171's naming: ANT_A first, again after a wait; `fixedBefore` is B_FIXED at the epoch before. -/
def State.nameAntenna (s : State) (okA okB fixedBefore : Bool) : State × Nat :=
  let since := if okA then (if s.grx.aSince.isSome then s.grx.aSince else some s.mono) else none
  let returned : Bool := match since with
    | some t => s.passed t (s.fld F.GRX_CFG_RETURN_S * nsPerSec) && s.flag F.GRX_STATUS_B_FIXED
    | none => false
  let a := okA && (!s.grx.aNamed || !s.grx.aWait || returned)
  let s := s.setGrx fun g =>
    { g with aSince := since, aNamed := g.aNamed || a, aWait := if a then false else g.aWait || (g.aNamed && !okA) }
  (s, if a then 1 else if okB && (s.fld F.GRX_STATUS_REF_ANT == 2 || fixedBefore) then 2 else 0)

/-- The reference antenna of an epoch, with event 106 where it changes. -/
def State.refAntenna (s : State) (okA okB fixedBefore : Bool) : State :=
  let (s, auto) := s.nameAntenna okA okB fixedBefore
  let sel := if s.expert Blk.GRX then s.fld F.GRX_CFG_ANT_SEL else 0
  let ant := if sel = 1 then (if okA then 1 else 0) else if sel = 2 then (if okB then 2 else 0) else auto
  if ant = s.fld F.GRX_STATUS_REF_ANT then s
  else
    let s := s.setFld F.GRX_STATUS_REF_ANT ant
    let s := if ant = 0 then s else s.setGrx fun g => { g with iods := (g.iods + 1) % 8, posDue := true, lastAnt := ant }
    s.raise Ev.GRX_REF_ANTENNA 0

/-! ## Reference epochs (R159, R160, R163) -/

/-- A set is complete: copied to the host where SET_EN says so, its counter moved on. -/
def State.setOut (s : State) (a epoch reason : Nat) (m : AntMeas) (v : AntSet) : State :=
  let s := if s.flag F.GRX_OUT_SET_EN then
    (s.ringPut (s.fld F.GRX_OUT_SET_RING) Blk.GRX (s.setBytes a epoch reason m.clkOff v)).1 else s
  s.setGrx fun g => { g with setSeq := g.setSeq.set 0 a ((g.setSeq.get 0 a + 1) % 256) }

/-- An epoch of a survey (R168): a SELF survey adds ANT_A's code position while it averages; more than 60 s of epochs with fewer than 5 usable
satellites fail it. -/
def State.surveyEpoch (s : State) (codePos : List Int) (nsatA nsatB : Nat) : State :=
  match s.grx.survey with
  | none => s
  | some v =>
    let v := if v.self && !s.measuringB then { v with count := v.count + 1, sum := v.sum.zipWith (fun x y => x + y) codePos } else v
    let few := nsatA < 5 || (s.measuringB && nsatB < 5)
    let s := s.setGrx fun g => { g with survey := some { v with few := if few then v.few + 1 else v.few } }
    if few && 600 ≤ v.few then s.surveyOver 9 else s

/-- The set of an epoch that SLV takes and RTCM sends: the reference antenna's, or an unusable one. -/
def State.refEpoch (s : State) (epoch : Nat) (a b : AntSet) (fix : Option BaseFix) : RefEpoch :=
  match s.fld F.GRX_STATUS_REF_ANT with
  | 0 => ⟨epoch, false, 0, [], [], [], []⟩
  | r =>
    let v := ofAnt (r - 1) a b
    ⟨epoch, true, r, (s.heldPos (r - 1)).getD [], v.sats, v.obs, (fix.map BaseFix.ints).getD []⟩

/-- The time solution of an epoch (R163). -/
def State.timeSol (s : State) (epoch : Nat) (m : RefMeas) (a b : AntSet) : TimeSol :=
  let t := s.timeAnt
  let n := (ofAnt t a b).nsat
  let x := ofAnt t m.a m.b
  { epoch, offset := x.offset, drift := x.drift, nsat := n, residMm := x.residMm, usable := decide (5 ≤ n) && !s.flag F.GRX_STATUS_SPOOF_ALARM,
    fromRef := s.fld F.GRX_STATUS_REF_ANT != 0 }

/-- The sets of `epoch` are formed from its measurements. -/
def State.epochSets (s : State) (epoch : Nat) (m : RefMeas) : State :=
  let fixedBefore := s.flag F.GRX_STATUS_B_FIXED
  let s := m.chans.foldl State.chanReport (s.setGrx fun g => { g with lastEpoch := some epoch })
  let a := s.antSet 0 epoch m.a m.chans
  let b := s.antSet 1 epoch m.b m.chans
  let dds := match s.heldPos 0, s.heldPos 1 with
    | some p, some q => s.baseDds epoch p q a b
    | _, _ => ([], [])
  let fix := baseFix dds.1 dds.2
  let s := (s.spoofCheck (s.failingChecks m a b dds.1)).cnKeep (a.chans ++ b.chans)
  let s := ((s.setGrx fun g => { g with dataBad := false }).baseline fix).surveyEpoch m.a.codePos a.nsat b.nsat
  let s := (s.setFld F.GRX_STATUS_NSAT_A a.nsat).setFld F.GRX_STATUS_NSAT_B b.nsat
  let ra := s.setReason 0 a.nsat m.a.clkOff
  let rb := s.setReason 1 b.nsat m.b.clkOff
  let s := (s.setUsable 0 ra).setUsable 1 rb
  let s := s.refAntenna (ra = 0) (rb = 0) fixedBefore
  let s := (s.setOut 0 epoch ra m.a a).setOut 1 epoch rb m.b b
  let s := allChans.foldl (fun s c => if (s.chan c).slip then s.setChan c { s.chan c with slip := false } else s) s
  let r := s.refEpoch epoch a b fix
  let s := s.setGrx fun g => { g with sol := some (s.timeSol epoch m a b), ref := if r.usable then some r else none }
  s.slvRefSet r

/-- REFERENCE_EPOCH (R159–R171): 8 ms after an epoch of the device time grid its sets are ready, formed and handed on. -/
def execReferenceEpoch (m : RefMeas) (s : State) : Result :=
  whileOn s Blk.GRX fun s =>
    let epoch := 100 * (s.devClause / 100)
    if s.devClause < epoch + 8 || s.grx.lastEpoch == some epoch then s else s.epochSets epoch m

/-! ## RTCM (R172, R173) -/

/-- The module may send RTCM (R173). -/
def State.rtcmOn (s : State) : Bool :=
  s.flag F.GRX_RTCM_EN && ((s.blkOn Blk.AUT && s.isActive) || s.flag F.GRX_RTCM_STANDBY_EN)

/-- A message goes to the host ring; one dropped counts, with event 110 on the first drop at a full ring after a second without one. -/
def State.rtcmSend (s : State) (msg : List Byte) : State :=
  let full := s.ringFull (s.fld F.GRX_RTCM_RING)
  match s.ringPut (s.fld F.GRX_RTCM_RING) Blk.GRX (rtcmFrame msg) with
  | (s, true) => s
  | (s, false) =>
    let s := s.bump (grxCnt 2)
    if !full then s
    else
      let due := dueSince s s.grx.lastDrop nsPerSec
      let s := s.setGrx fun g => { g with lastDrop := some s.mono }
      if due then s.raise Ev.GRX_RTCM_DROP 0 else s

/-- Message 1005 or 1006 with a held position; its flags and ITRF year are free. -/
def State.rtcmPosition (s : State) : State :=
  match s.heldPos ((if s.grx.lastAnt = 0 then 1 else s.grx.lastAnt) - 1) with
  | none => s
  | some p =>
    let (v, s) := s.draw
    let tall := s.flag F.GRX_RTCM_POS1006
    let x (i : Nat) : Nat × Nat := (38, encodeSigned 38 (p.getD i 0))
    let f := [(12, if tall then 1006 else 1005), (12, s.fld F.GRX_RTCM_STATION), (10, v), x 0, (2, v / 1024), x 1, (2, v / 4096), x 2]
    (s.rtcmSend (bitBytes (f ++ (if tall then [(16, 0)] else [])))).setGrx fun g => { g with posDue := false }

/-- Field `i` of the POLICY head's descriptors: its length byte and its characters (R172). -/
def rtcmString (head : List Byte) (i : Nat) : List Byte :=
  let n := Bytes.at' head (32 * i) 1
  Bytes.ofNat 1 n ++ Bytes.slice head (32 * i + 1) n

/-- Message 1033. -/
def State.rtcmDescriptors (s : State) : State :=
  let head := match s.sim.applied with
    | some img => (imgSec img Sec.POLICY Blk.GRX).take 168
    | none => []
  let msg := bitBytes [(12, 1033), (12, s.fld F.GRX_RTCM_STATION)] ++ rtcmString head 0 ++ Bytes.ofNat 1 (Bytes.at' head 160 1)
    ++ rtcmString head 1 ++ rtcmString head 2 ++ rtcmString head 3 ++ rtcmString head 4
  s.rtcmSend msg

/-- The systems that are not off, in the order sent, with their message numbers. -/
def State.msmNumbers (s : State) : List (Nat × Nat) :=
  let one (sys : Nat) (f : Fld) (base : Nat) : List (Nat × Nat) := match s.fld f with
    | 1 => [(sys, base + 4)]
    | 2 => [(sys, base + 7)]
    | _ => []
  one 0 F.GRX_RTCM_MSM_GPS 1070 ++ one 1 F.GRX_RTCM_MSM_GALILEO 1090 ++ one 3 F.GRX_RTCM_MSM_QZSS 1110 ++ one 2 F.GRX_RTCM_MSM_BEIDOU 1120

/-- A list in pieces of `n`. -/
def pieces {α : Type} (n : Nat) : (fuel : Nat) → List α → List (List α)
  | 0, _ => []
  | _, [] => []
  | k + 1, l => l.take n :: pieces n k (l.drop n)

/-- The messages a system's observations fill: satellites × signals is at most 64 in each (PRESUMED, log 43). -/
def msmParts (obs : List Obs) : List (List Obs) :=
  (pieces (max 1 (64 / max 1 (msmSigs obs).length)) 64 (msmSats obs)).map fun sats => obs.filter fun o => sats.contains (o.key % 64)

/-- The MSMs of an epoch: system, number and observations of each. A system without a usable signal has none. -/
def State.msmList (s : State) (r : RefEpoch) : List (Nat × Nat × List Obs) :=
  s.msmNumbers.flatMap fun e => (msmParts (r.obs.filter fun o => sigSys (keySig o.key) == e.1)).map fun p => (e.1, e.2, p)

/-- An epoch is one of RATE: on the whole second and its even divisions. -/
def State.onRate (s : State) (epoch : Nat) : Bool := epoch % (1000 / s.fld F.GRX_RTCM_RATE) == 0

/-- RTCM_MSM_OUTPUT (R172, R173): the reference antenna's newest set goes out, where its epoch is one of RATE; a new antenna's position first. -/
def execRtcmMsmOutput (epoch : Nat) (s : State) : Result :=
  whileOn s Blk.GRX fun s =>
    match s.grx.ref with
    | none => s
    | some r =>
      if r.epoch != epoch then s else
      let s := s.setGrx fun g => { g with ref := none }
      if !s.rtcmOn || s.flag F.GRX_STATUS_SPOOF_ALARM || !s.onRate r.epoch then s
      else
        let s := if s.grx.posDue then s.rtcmPosition else s
        let l := s.msmList r
        ((List.range l.length).zip l).foldl (fun s p =>
          s.rtcmSend (msmBytes p.2.2.1 (s.fld F.GRX_RTCM_STATION) (msmEpoch p.2.1 r.epoch s.siteEpoch) s.grx.iods (p.1 + 1 != l.length)
            (p.2.2.1 % 10 == 7) p.2.2.2)) s

/-- RTCM_STATION_OUTPUT (R172, R173): every 10 s. -/
def execRtcmStationOutput (s : State) : Result :=
  whileOn s Blk.GRX fun s =>
    if s.rtcmOn && dueSince s s.grx.stationAt (10 * nsPerSec) then
      (s.setGrx fun g => { g with stationAt := some s.mono }).rtcmPosition.rtcmDescriptors
    else s

/-! ## Starting and stopping -/

/-- GRX is enabled: positions, ephemerides and almanacs are loaded, FIXED channels acquire (R154, R156, R168). KNOWN values written before stand. -/
def State.grxStart (s : State) : State :=
  let eph := s.nand.nav.filterMap fun e => e.2.map fun v => (e.1, [(⟨v.issue, v.content, v.fitFrom, v.fitTo, v.healthy, true, 0⟩ : GrxEph)])
  let g := s.grx
  let s := { s with grx := { GrxSt.reset with
    eph, alm := s.nand.alm, known := g.known, shortAt := g.shortAt, retry := g.retry, setSeq := g.setSeq, iods := g.iods } }
  let s := s.setFld F.GRX_STATUS_POS_OK (b2n s.nand.heldA.isSome)
  (s.chans.filter s.chanFixed).foldl (fun s c => s.chanAssign c (Bytes.at' (s.chanRow c) 2 1) (-9000)) s

/-- GRX is disabled: a survey is aborted, nothing is named any more. -/
def State.grxStop (s : State) : State :=
  let s := s.surveyOver 7
  let s := ((s.setFld F.GRX_STATUS_USABLE_A 0).setFld F.GRX_STATUS_USABLE_B 0).setFld F.GRX_STATUS_REF_ANT 0
  (s.setFld F.GRX_STATUS_B_FIXED 0).setGrx fun g => { g with chans := [], ref := none, sol := none }

end Sys2Proof.Machine
end

