-- ==== Sys2Proof/Machine/Meter.lean ====
section
/-!
DEFINITION. Depot energy metering (R391–R409): samples, accumulators, pulse outputs, faults, saves, records, bays. The commands that end
a session are in Machine/Orders.lean, where its order is.
-/

namespace Sys2Proof.Machine

/-- Change DMU's state, and its meters. -/
def State.setDmu (s : State) (f : DmuSt → DmuSt) : State := { s with dmu := f s.dmu }
def State.setMeters (s : State) (f : DmuMeters → DmuMeters) : State := s.setDmu fun d => { d with m := f d.m }

/-- Counter `n` of DMU (R409). -/
def dmuCnt (n : Nat) : Fld := F.DMU_CNT_COUNT.nth n

/-! ## The METERING section (R394) -/

/-- The section in force. -/
def State.metering (s : State) : List Byte :=
  match s.sim.applied with
  | some img => imgSec img Sec.METERING Blk.DMU
  | none => []

/-- Group, role, INVERT, FS and OFFSET of input `n`. -/
def State.inGroup (s : State) (n : Nat) : Nat := Bytes.at' s.metering (12 * n) 1
def State.inRole (s : State) (n : Nat) : Nat := Bytes.at' s.metering (12 * n + 1) 1
def State.inInvert (s : State) (n : Nat) : Bool := bitOf (Bytes.at' s.metering (12 * n + 3) 1) 0
def State.inFs (s : State) (n : Nat) : Int := Bytes.at' s.metering (12 * n + 4) 4
def State.inOffset (s : State) (n : Nat) : Int := signedOf 32 (Bytes.at' s.metering (12 * n + 8) 4)

/-- KIND and BAY of group `g`. -/
def State.grpKind (s : State) (g : Nat) : Nat := if s.metering = [] then 0 else Bytes.at' s.metering (288 + 4 * g) 1
def State.grpBay (s : State) (g : Nat) : Bool := s.grpKind g != 0 && bitOf (Bytes.at' s.metering (289 + 4 * g) 1) 0

/-- The inputs of a group, its current inputs, and the groups in use. -/
def State.inputsOf (s : State) (g : Nat) : List Nat := (List.range 24).filter fun n => s.inGroup n == g
def State.currentsOf (s : State) (g : Nat) : List Nat :=
  (s.inputsOf g).filter fun n => [4, 5, 6, 8].contains (s.inRole n)
def State.dmuGroups (s : State) : List Nat := (List.range 16).filter fun g => s.grpKind g != 0
def State.bays (s : State) : List Nat := (List.range 16).filter s.grpBay

/-- The pairs of voltage and current roles whose products a KIND sums. -/
def phasesOf (kind : Nat) : List (Nat × Nat) :=
  if kind = 1 then [(1, 4), (2, 5), (3, 6)] else if kind = 2 then [(1, 4)] else if kind = 3 then [(7, 8)] else []

/-! ## Meters -/

/-- A group's meters, a pulse output, a session, and setting them. -/
def State.group (s : State) (g : Nat) : DmuGroup := SMap.get s.dmu.m.groups DmuGroup.zero g
def State.setGroup (s : State) (g : Nat) (v : DmuGroup) : State :=
  s.setMeters fun m => { m with groups := SMap.set m.groups DmuGroup.zero g v }
def State.pulse (s : State) (n : Nat) : DmuPulse := SMap.get s.dmu.m.pulses DmuPulse.zero n
def State.setPulse (s : State) (n : Nat) (v : DmuPulse) : State :=
  s.setMeters fun m => { m with pulses := SMap.set m.pulses DmuPulse.zero n v }
def State.session (s : State) (b : Nat) : Option DmuSession := SMap.get s.dmu.m.sessions none b
def State.setSession (s : State) (b : Nat) (v : Option DmuSession) : State :=
  s.setMeters fun m => { m with sessions := SMap.set m.sessions none b v }

/-- The unit of the accumulators: 2^32 to the mJ (R396). -/
abbrev mj : Nat := 4294967296

/-- An accumulator's mJ count (R396). -/
def mjOf (acc : Nat) : Nat := acc / mj % 2 ^ 64

/-- TAI seconds and operating hours now. -/
def State.rtcSec (s : State) : Nat := (if s.timeValid then s.tai else s.bkp.rtc) / nsPerSec % 2 ^ 32

/-- DMU clocks its modulators (R391). -/
def State.dmuClocks (s : State) : Bool := s.running && s.blkOn Blk.DMU && s.isActive

/-! ## Records (R404) -/

/-- A DMU record goes to the logbook and, with `DMU_OUT.EN`, to its host ring. -/
def State.dmuRecord (s : State) (type unit who fromHrs fromS aux imp exp : Nat) : State :=
  let b := Bytes.ofNat 1 type ++ Bytes.ofNat 1 unit ++ Bytes.ofNat 2 who ++ Bytes.ofNat 4 fromHrs ++ Bytes.ofNat 4 s.bkp.hours
    ++ Bytes.ofNat 4 fromS ++ Bytes.ofNat 4 s.rtcSec ++ Bytes.ofNat 4 aux ++ Bytes.ofNat 8 imp ++ Bytes.ofNat 8 exp
  let s := s.logWrite (s.logMake Blk.DMU 2 type 0 b)
  if s.flag F.DMU_OUT_EN then (s.ringPut (s.fld F.DMU_OUT_RING) Blk.DMU b).1 else s

/-- The mask of the groups in use. -/
def State.groupMask (s : State) : Nat := (s.dmuGroups.map fun g => 2 ^ g).sum

/-! ## Samples and energy (R391, R395–R398) -/

/-- The full scale of d: the sinc filter of third order and ratio 5,000 counts to 5,000³. -/
abbrev dFull : Nat := 125000000000

/-- A sample of input `n` in mV or mA, times `dFull`; `d` counts from −`dFull` to +`dFull`. -/
def State.sampleOf (s : State) (n : Nat) (d : Int) : Int :=
  s.inOffset n * dFull + s.inFs n * (if s.inInvert n then -d else d)

/-- The value of a role of a group at an instant. -/
def State.roleValue (s : State) (g role : Nat) (inst : List (Nat × Int)) : Int :=
  match inst.find? (fun e => s.inGroup e.1 == g && s.inRole e.1 == role) with
  | some e => s.sampleOf e.1 e.2
  | none => 0

/-- The power of an instant, µW times `dFull`². -/
def State.instPower (s : State) (g : Nat) (inst : List (Nat × Int)) : Int :=
  ((phasesOf (s.grpKind g)).map fun p => s.roleValue g p.1 inst * s.roleValue g p.2 inst).sum

/-- The energy of a power sample, 2^-32 mJ with its sign; its rounding to the fraction held is free. -/
def State.sampleEnergy (s : State) (g : Nat) (insts : List (List (Nat × Int))) (dtNs : Nat) : Int :=
  let p := (insts.map (s.instPower g)).sum
  let e := Config.roundQuot (p.natAbs * dtNs * mj) (dFull * dFull * insts.length * 10 ^ 12)
  if p < 0 then -e else e

/-- An input of the group is in fault. -/
def State.groupFault (s : State) (g : Nat) : Bool := (s.inputsOf g).any fun n => (s.fld F.DMU_IN_FAULT_FAULT).testBit n

/-- Samples count for the RMS of their input and, clipped, in `DMU_CNT0` (R393, R409). -/
def State.countSamples (s : State) (inst : List (Nat × Int)) : State :=
  inst.foldl (fun s e =>
    let v := (s.sampleOf e.1 e.2).natAbs
    let old := s.dmu.squares.get (0, 0) e.1
    let s := s.setDmu fun d => { d with squares := d.squares.set (0, 0) e.1 (old.1 + v * v, old.2 + 1) }
    if 19 * dFull ≤ 20 * e.2.natAbs then s.bump (dmuCnt 0) else s) s

/-! ## Pulse outputs (R399, R400) -/

/-- A pulse threshold. -/
def State.pulseWeight (s : State) (n : Nat) : Nat := s.fldB n F.DMU_PO_WEIGHT_WEIGHT_J * 1000 * mj

/-- Thresholds are taken from the spill count while PENDING is below 65,535; a hold counts, with event 211 at most once a minute. -/
def State.pulseSpill (s : State) (n : Nat) : State :=
  let v := s.pulse n
  let w := s.pulseWeight n
  if v.spill < w || w = 0 then s.setPulse n { v with held := false }
  else
    let k := min (v.spill.toNat / w) (65535 - v.pending)
    let v' := { v with spill := v.spill - k * w, pending := v.pending + k }
    let held := decide (v'.pending = 65535) && decide ((w : Int) ≤ v'.spill)
    let s := s.setPulse n { v' with held }
    if held && !v.held then
      let s := s.bump (dmuCnt 2)
      if dueSince s s.dmu.lastHold (60 * nsPerSec) then
        (s.setDmu fun d => { d with lastHold := some s.mono }).raise Ev.DMU_PULSE_HOLD 0
      else s
    else s

/-- What a power sample adds to output `n`. -/
def State.pulseAdd (s : State) (g n : Nat) (e : Int) : State :=
  if !s.flagB n F.DMU_PO_CFG_EN || s.fldB n F.DMU_PO_CFG_GROUP != g then s
  else
    let q := s.fldB n F.DMU_PO_CFG_QTY
    let c : Int := if q = 2 then e else if q = 0 then max e 0 else max (-e) 0
    (s.setPulse n { s.pulse n with spill := (s.pulse n).spill + c }).pulseSpill n

/-- PULSE_EMIT (R400): an output conducts for WIDTH_MS for a pending pulse, and then rests as long. -/
def execPulseEmit (n : Nat) (s : State) : Result :=
  whileRunning s fun s =>
    let v := s.pulse n
    if !s.dmuClocks || !s.flagB n F.DMU_PO_CFG_EN || v.pending = 0 || decide (s.mono < v.busy) then s
    else
      let w := s.fldB n F.DMU_PO_CFG_WIDTH_MS * nsPerMs
      let s := s.setPulse n { v with pending := v.pending - 1, busy := s.mono + 2 * w }
      let s := s.setFldB n F.DMU_PO_STAT_PULSES (s.fldB n F.DMU_PO_STAT_PULSES + 1)
      (s.emit (.pulse (.pulseOut n) w)).pulseSpill n

/-- A write to `DMU_PO_CFG` (R407): a pulse under way completes; the output starts from 0 with the new settings. -/
def State.poCfgWrite (s : State) (w : Word) : State :=
  let n := s.fld F.DMU_PO_IDX_OUTPUT
  thenIf (s.hostReg R.DMU_PO_CFG w) fun s =>
    (s.setPulse n { DmuPulse.zero with busy := (s.pulse n).busy }).setFldB n F.DMU_PO_STAT_PULSES 0

/-- PO_CFG_WRITE (R407). -/
def execPoCfgWrite (value : Word) (s : State) : Result := whileRunning s fun s => s.poCfgWrite value

/-! ## The mirror (R309) and takeovers (R403) -/

/-- A METER message. -/
def State.meterMirror (s : State) (snap : Bool := false) : State := s.mirror 0 (.meter s.dmu.m s.dmu.last) snap

/-- The first sample after a takeover: a TAKEOVER_GAP record, and event 210. -/
def State.takeoverGap (s : State) : State :=
  match s.dmu.gap with
  | none => s
  | some (t, hrs) =>
    let s := s.setDmu fun d => { d with gap := none }
    (s.dmuRecord 3 0 s.groupMask hrs (t / nsPerSec % 2 ^ 32) (saturate 32 ((s.tai - t) / 1000)) 0 0).raise Ev.DMU_ENERGY_GAP 0

/-- POWER_SAMPLE (R391, R395–R399): a group forms a power sample over `insts`, the d of its inputs at each instant, lasting `dtNs`;
`good` counts the AC cycles within 40–70 Hz in a row that it has seen. -/
def execPowerSample (g : Nat) (insts : List (List (Nat × Int))) (dtNs good : Nat) (s : State) : Result :=
  whileRunning s fun s =>
    if !s.dmuClocks || s.grpKind g = 0 then s
    else
      let s := (insts.foldl State.countSamples s).takeoverGap
      let s := s.setDmu fun d => { d with last := s.tai, lastHours := s.bkp.hours }
      let ac := s.grpKind g = 1 || s.grpKind g = 2
      let s := if ac && 10 ≤ good then s.setFldB g F.DMU_GRP_STAT_AC_LOCK 1 else s
      let s := if ac && s.flagB g F.DMU_GRP_STAT_AC_LOCK && dtNs != 0 then s.setFldB g F.DMU_GRP_STAT_FREQ (100000000000 / dtNs) else s
      if s.groupFault g then s
      else
        let e := s.sampleEnergy g insts dtNs
        let v := s.group g
        let s := s.setGroup g { v with
          imp := (v.imp + e.toNat) % 2 ^ 96, exp := (v.exp + (-e).toNat) % 2 ^ 96, second := v.second + e }
        ((List.range 8).foldl (fun s n => s.pulseAdd g n e) s).meterMirror

/-- AC_UNLOCK (R395): no cycle has completed within 100 ms. -/
def execAcUnlock (g : Nat) (s : State) : Result :=
  whileRunning s fun s =>
    if s.dmuClocks && s.flagB g F.DMU_GRP_STAT_AC_LOCK then (s.setFldB g F.DMU_GRP_STAT_AC_LOCK 0).raise Ev.DMU_AC_UNLOCK 0 else s

/-- The figures of the last whole second (R470). -/
def State.dmuSecond (s : State) : State :=
  if !s.blkOn Blk.DMU then s
  else
    let s := (List.range 24).foldl (fun s n =>
      let q := s.dmu.squares.get (0, 0) n
      let w := if q.2 = 0 then 0 else Config.rms q.1 (dFull * dFull * q.2)
      (s.setFldB n F.DMU_IN_RMS_RMS w).setDmu fun d => { d with squares := d.squares.set (0, 0) n (0, 0) }) s
    s.dmuGroups.foldl (fun s g =>
      let v := s.group g
      (s.setFldB g F.DMU_GRP_P_P_W (encodeSigned 32 (Config.roundQuot v.second (1000 * mj)))).setGroup g { v with second := 0 }) s

/-! ## Input faults (R393, R398) -/

/-- INPUT_FAULT (R393): an input's stream has stood still for 1 ms. -/
def execInputFault (n : Nat) (s : State) : Result :=
  whileRunning s fun s =>
    let f := s.fld F.DMU_IN_FAULT_FAULT
    if !s.dmuClocks || f.testBit n || decide (24 ≤ n) || s.inGroup n == 0xFF then s
    else
      let s := s.setFld F.DMU_IN_FAULT_FAULT (f + 2 ^ n)
      (s.setDmu fun d => { d with faults := d.faults.set none n (some (s.mono, s.bkp.hours, s.rtcSec)) }).raise Ev.DMU_INPUT_FAULT 0

/-- INPUT_CLEAR (R393, R398): 100 ms without such a run. -/
def execInputClear (n : Nat) (s : State) : Result :=
  whileRunning s fun s =>
    match s.dmu.faults.get none n with
    | none => s
    | some (t, hrs, sec) =>
      let s := s.setFld F.DMU_IN_FAULT_FAULT (s.fld F.DMU_IN_FAULT_FAULT &&& (2 ^ 24 - 1 - 2 ^ n))
      let s := (s.setDmu fun d => { d with faults := d.faults.set none n none }).bump (dmuCnt 1) ((s.mono - t) / nsPerMs)
      (s.dmuRecord 4 n (2 ^ s.inGroup n) hrs sec 0 0 0).raise Ev.DMU_INPUT_CLEAR 0

/-! ## Saves and starts (R401, R402) -/

/-- A save to NAND, which completes or fails. -/
def State.meterSaveNow (s : State) (final ok : Bool) : State :=
  if !s.blkOn Blk.DMU then s
  else if !ok then (s.bump (dmuCnt 3)).raise Ev.DMU_SAVE_FAIL 0
  else
    let seq := (s.fld F.DMU_SAVE_SEQ + 1) % 2 ^ 32
    ({ s with meterSave := some ⟨s.dmu.m, s.bkp.hours, s.rtcSec, seq, final⟩ }).setFld F.DMU_SAVE_SEQ seq

/-- METER_SAVE (R401): every 10 s. -/
def execMeterSave (ok : Bool) (s : State) : Result := whileOn s Blk.DMU fun s => if s.nandStopped then s else s.meterSaveNow false ok

/-- The MCLK pins follow DMU's enable and the role (R391, R403, R312). -/
def State.dmuClock (s : State) : State :=
  if s.flag F.DMU_STATUS_CLOCKING == s.dmuClocks then s
  else
    let s := s.setFld F.DMU_STATUS_CLOCKING (b2n s.dmuClocks)
    [0, 1, 2].foldl (fun s n => s.emit (.pin (.mclk n) s.dmuClocks)) s

/-- DMU is enabled: the newest save is restored, the figures of the last whole second read 0 (R470); the first enable after a reset writes a start record. -/
def State.dmuStart (s : State) : State :=
  let first := !s.dmu.started
  let m : DmuMeters := match s.meterSave with
    | some v => { v.meters with pulses := v.meters.pulses.map fun p => (p.1, { p.2 with busy := 0, held := false }) }
    | none => DmuMeters.zero
  let final : Bool := match s.meterSave with
    | some v => v.final
    | none => false
  let at' : Nat × Nat × Nat := match s.meterSave with
    | some v => (v.hours, v.sec, v.seq)
    | none => (0, 0, 0)
  let s := { s with dmu := { DmuSt.reset with m, started := true } }
  let s := (List.range 24).foldl (fun s n => s.setFldB n F.DMU_IN_RMS_RMS 0) s
  let s := (List.range 16).foldl (fun s g => s.setFldB g F.DMU_GRP_P_P_W 0) s
  let s := ((s.setFld F.DMU_STATUS_LAST_FINAL (b2n final)).setFld F.DMU_SAVE_SEQ at'.2.2).setFld F.DMU_STATUS_GROUPS s.dmuGroups.length
  let s := s.dmuGroups.foldl (fun s g =>
    (s.setFldB g F.DMU_GRP_STAT_SESSION (b2n (s.session g).isSome)).setFldB g F.DMU_GRP_STAT_AC_LOCK (b2n (s.grpKind g != 3))) s
  let s := s.dmuClock
  if !first then s
  else
    let s := s.dmuRecord (if final then 1 else 2) 0 s.groupMask at'.1 at'.2.1 0 0 0
    if final then s else s.raise Ev.DMU_ENERGY_GAP 0

/-! ## Bays and sessions (R405–R408) -/

/-- A bay becomes free or busy, with event 212. -/
def State.setBayFree (s : State) (b : Nat) (free : Bool) : State :=
  if s.flagB b F.DMU_GRP_STAT_BAY_FREE == free then s
  else (s.setFldB b F.DMU_GRP_STAT_BAY_FREE (b2n free)).raise Ev.DMU_BAY_STATE 0

/-- The second's look at a bay. -/
def State.bayEval (s : State) (b : Nat) : State :=
  let below := (s.currentsOf b).all fun n => decide (s.fldB n F.DMU_IN_RMS_RMS < s.fld F.DMU_BAY_IDLE_MA)
  let run := if below then s.dmu.idle.get 0 b + 1 else 0
  let s := s.setDmu fun d => { d with idle := d.idle.set 0 b run }
  let s := match s.session b with
    | some v => if below then s else s.setSession b (some { v with exceeded := true })
    | none => s
  if s.expert Blk.DMU then s
  else s.setBayFree b ((s.session b).isNone && !s.groupFault b && decide (s.fld F.DMU_BAY_FREE_S ≤ run))

/-- BAY_FREE_EVAL (R405): each second. -/
def execBayFreeEval (s : State) : Result := whileRunning s fun s => if s.dmuClocks then s.bays.foldl State.bayEval s else s

/-- A session opens at DSP's request (R277, R406). -/
def State.sessionOpen (s : State) (b order mi : Nat) : State :=
  if !s.blkOn Blk.DMU || !s.grpBay b || (s.session b).isSome then s
  else
    let g := s.group b
    let s := (s.setSession b (some ⟨order, mi, g.imp, g.exp, s.bkp.hours, s.rtcSec, false⟩)).setFldB b F.DMU_GRP_STAT_SESSION 1
    let s := s.setDmu fun d => { d with idle := d.idle.set 0 b 0 }
    let s := if s.expert Blk.DMU then s else s.setBayFree b false
    s.meterMirror

/-- A session ends: its SESSION record. -/
def State.sessionClose (s : State) (b : Nat) : State :=
  match s.session b with
  | none => s
  | some v =>
    let g := s.group b
    let s := (s.setSession b none).setFldB b F.DMU_GRP_STAT_SESSION 0
    let s := s.dmuRecord 5 b v.mi v.hours v.sec v.order (((g.imp + 2 ^ 96 - v.imp) % 2 ^ 96) / mj) (((g.exp + 2 ^ 96 - v.exp) % 2 ^ 96) / mj)
    s.meterMirror

/-- The current has exceeded IDLE_MA and has then stayed below it for END_S. -/
def State.sessionIdle (s : State) (b : Nat) : Bool :=
  match s.session b with
  | some v => v.exceeded && decide (s.fld F.DMU_BAY_END_S ≤ s.dmu.idle.get 0 b)
  | none => false

/-- The word of a `DMU_BAY_CMD` operation. -/
def bayWord (op bay : Nat) : Word := F.DMU_BAY_CMD_BAY.put (F.DMU_BAY_CMD_OP.put 0 op) bay

/-- FREE and BUSY of `DMU_BAY_CMD`, at expert level (R408). -/
def State.bayOp (s : State) (w : Word) : State :=
  let op := F.DMU_BAY_CMD_OP.get w
  let b := F.DMU_BAY_CMD_BAY.get w
  if !s.blkOn Blk.DMU || !s.expert Blk.DMU || !s.grpBay b then s
  else if op = 1 then s.setBayFree b true
  else if op = 2 then s.setBayFree b false
  else s

/-- BAY_FREE_CMD (R408). -/
def execBayFreeCmd (bay : Nat) (s : State) : Result := whileRunning s fun s => s.bayOp (bayWord 1 bay)

/-- BAY_BUSY_CMD (R408). -/
def execBayBusyCmd (bay : Nat) (s : State) : Result := whileRunning s fun s => s.bayOp (bayWord 2 bay)

/-! ## Accumulators (R409) -/

/-- The selected accumulator, mJ. -/
def State.accValue (s : State) : Nat :=
  let g := s.group (s.fld F.DMU_GRP_IDX_GROUP)
  let q := s.fld F.DMU_GRP_IDX_QTY
  if q = 0 then mjOf g.imp else if q = 1 then mjOf g.exp else (mjOf g.imp + 2 ^ 64 - mjOf g.exp) % 2 ^ 64

/-- ACCUMULATOR_READ (R409): a read of `DMU_ACC_LO`. -/
def execAccumulatorRead (s : State) : Result :=
  whileRead s fun s =>
    let b := s.fldB 0 ⟨R.DMU_GRP_IDX, 5, 0⟩
    let v := s.accValue
    let s := (s.setFldB b F.DMU_ACC_LO_MJ_LO v).setFldB b F.DMU_ACC_HI_MJ_HI (v / 2 ^ 32)
    { s with hostRead := BitVec.ofNat 32 v }

end Sys2Proof.Machine
end

