-- ==== Sys2Proof/Machine/Orders.lean ====
section
/-!
DEFINITION. The Fleet Work Dispatcher (R268–R279, R282–R284): the order table, its commands, release, the choice of a machine, the
RESERVE for an order, the exchange with the machine, returns, charging orders, spill and the trace.
-/

namespace Sys2Proof.Machine

/-! ## The table (R268, R269) -/

/-- The states of R269. -/
abbrev Os.FREE : Nat := 0
abbrev Os.DELAYED : Nat := 1
abbrev Os.READY : Nat := 2
abbrev Os.OFFERED : Nat := 3
abbrev Os.ACCEPTED : Nat := 4
abbrev Os.DONE : Nat := 5
abbrev Os.RETURNED : Nat := 6
abbrev Os.EXPIRED : Nat := 7
abbrev Os.CANCELLED : Nat := 8

/-- The statuses of R270. -/
abbrev Ds.OK : Nat := 0
abbrev Ds.FULL : Nat := 1
abbrev Ds.STALE : Nat := 2
abbrev Ds.INVALID : Nat := 3
abbrev Ds.STATE : Nat := 4

/-- The commands of R270. -/
abbrev DspOp.SUBMIT : Nat := 1
abbrev DspOp.CANCEL : Nat := 2
abbrev DspOp.RETIRE : Nat := 3
abbrev DspOp.QUERY : Nat := 4
abbrev DspOp.ASSIGN : Nat := 5
abbrev DspOp.REQUEUE : Nat := 6

/-- Orders in the table, and on the on-chip delay list (R268, R278). -/
abbrev dspSize : Nat := 65536
abbrev delaySize : Nat := 16384

/-- Change DSP's state. -/
def State.setDsp (s : State) (f : DspSt → DspSt) : State := { s with dsp := f s.dsp }

/-- A counter `DSP_CNT`n. -/
def dspCnt (n : Nat) : Fld := F.DSP_CNT_COUNT.nth n

/-- The order of an index. -/
def State.order (s : State) (i : Nat) : Order := s.dsp.orders.get Order.free i

/-- Set an order; the change is mirrored (R309). -/
def State.setOrder (s : State) (i : Nat) (o : Order) : State :=
  let s := s.setDsp fun d => { d with orders := d.orders.set Order.free i o }
  s.mirror i (.order i o s.dsp.freeNext s.dsp.freeTail)

/-- The handle of an index (R268). -/
def Order.handle (o : Order) (i : Nat) : Nat := i + 65536 * o.gen

/-- A terminal state (R269). -/
def Order.terminal (o : Order) : Bool := decide (Os.DONE ≤ o.state)

/-- The machine in AFF, if it names one. -/
def Order.affMi (o : Order) : Option Nat := if bitOf o.aff 15 then none else some (o.aff % 2048)

/-- The index a handle names, when its generation is current and the index in use (R268). -/
def State.orderRef (s : State) (h : Nat) : Option Nat :=
  let i := h % 65536
  if (s.order i).state ≠ Os.FREE ∧ (s.order i).gen = h / 65536 then some i else none

/-- The indices in a state. -/
def State.ordersIn (s : State) (st : Nat) : List Nat := (s.dsp.orders.filter fun e => e.2.state == st).map Prod.fst

/-- Orders not FREE (`DSP_STATUS.HELD`). -/
def State.ordersHeld (s : State) : Nat := (s.dsp.orders.filter fun e => e.2.state != Os.FREE).length

/-- The index that is taken next (R268): first in, first out. -/
def State.orderNext (s : State) : Option Nat := if s.dsp.freeNext < dspSize then some s.dsp.freeNext else s.dsp.freeTail.head?

/-- The AFF-like word of a machine or none. -/
def miWord (m : Option Nat) : Nat := match m with
  | some mi => mi
  | none => 32768

/-- The 64 bytes of an order (R268). -/
def Order.bytes (o : Order) (i : Nat) : List Byte :=
  Bytes.ofNat 4 (o.handle i) ++ Bytes.ofNat 1 o.state ++ Bytes.ofNat 1 o.prio
    ++ Bytes.ofNat 1 (bitAt o.hard 0 + bitAt o.clauseReq 1 + bitAt o.dir 2 + bitAt o.charge 3) ++ Bytes.ofNat 1 o.bay
    ++ Bytes.ofNat 2 o.aff ++ Bytes.ofNat 2 o.cmask ++ Bytes.ofNat 5 o.notBefore ++ Bytes.ofNat 5 o.deadline
    ++ Bytes.ofNat 2 o.body.length ++ Bytes.ofNat 4 o.bodyOff ++ Bytes.ofNat 4 o.space ++ Bytes.ofNat 4 o.lo ++ Bytes.ofNat 4 o.hi
    ++ Bytes.ofNat 4 o.dur ++ Bytes.ofNat 4 o.clause ++ Bytes.ofNat 2 (miWord o.assigned) ++ Bytes.ofNat 1 o.tries
    ++ Bytes.ofNat 1 o.why ++ Bytes.ofNat 5 o.tOffer ++ Bytes.ofNat 2 (miWord o.excl) ++ Bytes.ofNat 5 0

/-! ## The trace (R279) -/

/-- WHAT of a fleet record. -/
abbrev Tr.SUBMIT : Nat := 1
abbrev Tr.RELEASE : Nat := 2
abbrev Tr.SPILL : Nat := 3
abbrev Tr.OFFER : Nat := 4
abbrev Tr.ACCEPT : Nat := 5
abbrev Tr.REFUSE : Nat := 6
abbrev Tr.TIMEOUT : Nat := 7
abbrev Tr.DONE : Nat := 8
abbrev Tr.RETURN : Nat := 9
abbrev Tr.EXPIRE : Nat := 10
abbrev Tr.CANCEL : Nat := 11
abbrev Tr.CLAUSE_WAIT : Nat := 12
abbrev Tr.NO_MACHINE : Nat := 13

/-- A trace record goes to the ring; a full ring drops it, which counts, event 177 at most once per second. -/
def State.tracePut (s : State) (src what who id when' why prio : Nat) : State :=
  let body := Bytes.ofNat 1 src ++ Bytes.ofNat 1 what ++ Bytes.ofNat 2 who ++ Bytes.ofNat 4 id ++ Bytes.ofNat 4 when' ++ Bytes.ofNat 1 why
    ++ Bytes.ofNat 1 prio ++ Bytes.ofNat 2 s.dsp.tseq
  let s := s.setDsp fun d => { d with tseq := (d.tseq + 1) % 65536 }
  let full := s.ringFull (s.fld F.DSP_TRACE_RING)
  match s.ringPut (s.fld F.DSP_TRACE_RING) Blk.DSP body with
  | (s, true) => s
  | (s, false) =>
    if !full then s else
    let s := s.bump (dspCnt 5)
    if dueSince s s.dsp.lastTrace nsPerSec then (s.setDsp fun d => { d with lastTrace := some s.mono }).raise Ev.DSP_TRACE_DROP 0 else s

/-- A decision of the Fleet Work Dispatcher on order `i`. WHEN is open while clause time is unknown. -/
def State.trace (s : State) (what i : Nat) (who : Option Nat) (why : Nat) : State :=
  if !s.flag F.DSP_TRACE_FLEET_EN then s
  else
    let r := match s.clauseNow with
      | some t => (t, s)
      | none => s.draw
    r.2.tracePut 0 what (miWord who) ((s.order i).handle i) r.1 why (s.order i).prio

/-! ## Machines (R272, R273) -/

/-- Orders in flight: OFFERED or ACCEPTED (`DSP_MACH_CFG.INFLIGHT`). -/
def State.inFlight (s : State) (mi : Nat) : Nat :=
  (s.dsp.orders.filter fun e => (e.2.state == Os.OFFERED || e.2.state == Os.ACCEPTED) && e.2.assigned == some mi).length

/-- What R272 asks of a machine for any order. A RESERVE in flight for it counts as an order in flight. -/
def State.machTakes (s : State) (mi : Nat) : Bool :=
  s.flagB mi F.DSP_MACH_CFG_EN && s.machAwake mi && !s.isRevoked mi
    && decide (s.inFlight mi + (s.dsp.flights.filter fun f => f.mi == mi).length < s.fld F.DSP_CFG_DEPTH)

/-- Eligibility (R272). -/
def State.eligible (s : State) (o : Order) (mi : Nat) : Bool :=
  s.machTakes mi && o.cmask.testBit (s.fldB mi F.DSP_MACH_CFG_CLASS) && o.excl != some mi && (!o.hard || o.affMi == some mi)
    && (!o.charge || s.flagB o.bay F.DMU_GRP_STAT_BAY_FREE)

/-- The start of an order's SPACE in its direction, scaled by the number it is paired with (R273). For a block of cells it is the
south-west corner of its south-west cell. -/
def State.orderStart (s : State) (o : Order) : Option (Int × Int × Int) :=
  if !o.clauseReq then none
  else if spaceIsCell o.space then
    let g := cellGround s.clsMap (spaceLow o.space)
    some (g.1, g.2.1, 1)
  else (mapSeg s.clsMap (spaceLow o.space)).map fun g =>
    let p := segPoint g (if o.dir then o.hi else o.lo)
    (p.1, p.2, g.length)

/-- How far a machine's last solved position lies from a point, squared and scaled; none for a machine never solved. -/
def State.machDist (s : State) (mi : Nat) (p : Int × Int × Int) : Option Nat :=
  (s.slvRate mi).pos.map fun r =>
    let de := r.1 * p.2.2 - p.1
    let dn := r.2 * p.2.2 - p.2.1
    (de * de + dn * dn).toNat

/-- Nearer: a machine never solved comes after every other. -/
def distLt (a b : Option Nat) : Bool :=
  match a, b with
  | some x, some y => decide (x < y)
  | some _, none => true
  | none, _ => false

/-- The machine NONE chooses among candidates: the nearest, then the one with fewer orders in flight, then the lower MI. -/
def State.nearest (s : State) (o : Order) (l : List Nat) : Option Nat :=
  let key (mi : Nat) : Option Nat := (s.orderStart o).bind (s.machDist mi)
  let better (a b : Nat) : Bool :=
    distLt (key a) (key b) || (key a == key b && (decide (s.inFlight a < s.inFlight b) || (s.inFlight a == s.inFlight b && decide (a < b))))
  l.foldl (fun (best : Option Nat) mi => match best with
    | none => some mi
    | some b => some (if better mi b then mi else b)) none

/-- The machine chosen for an order (R273), if any. -/
def State.chooseMachine (s : State) (o : Order) : Option Nat :=
  let any' : Option Nat := s.nearest o ((List.range 2048).filter (s.eligible o))
  match o.affMi with
  | none => any'
  | some a =>
    if s.eligible o a then some a
    else if o.hard then none
    else match s.clauseNow with
      | some now => if o.readyTick + s.fld F.DSP_CFG_AFF_WAIT ≤ now / 10 then any' else none
      | none => none

/-! ## Frames to the machine (R275) -/

/-- The payload of a port 1 frame. -/
def dspFrame (msg handle : Nat) (rest : List Byte) : List Byte := [1#8, 0#8] ++ Bytes.ofNat 1 msg ++ [0#8] ++ Bytes.ofNat 4 handle ++ rest

/-- The ORDER message of an order. -/
def State.sendOrder (s : State) (i : Nat) : State :=
  let o := s.order i
  match o.assigned with
  | some mi => s.airData mi (dspFrame 0x01 (o.handle i) (Bytes.ofNat 4 o.clause ++ Bytes.ofNat 5 o.deadline ++ Bytes.ofNat 1 o.prio
      ++ Bytes.ofNat 2 o.body.length ++ o.body))
  | none => s

/-- WITHDRAW for a handle. -/
def State.sendWithdraw (s : State) (mi handle : Nat) : State := s.airData mi (dspFrame 0x02 handle [])

/-- The order is offered to a machine: `DSP_CNT0`, T_OFFER (open while clause time is unknown), the ORDER frame. -/
def State.dspOffer (s : State) (i mi : Nat) : State :=
  let r := match s.clauseNow with
    | some t => (t, s)
    | none => s.draw
    let s := r.2
  let s := s.setOrder i { s.order i with state := Os.OFFERED, assigned := some mi, tOffer := r.1 % 2 ^ 40, offeredAt := s.mono }
  ((s.bump (dspCnt 0)).trace Tr.OFFER i (some mi) 0).sendOrder i

/-! ## Leaving a machine (R276) -/

/-- The clause of an order is released without FORCE; answers false where CLS says IN_USE. -/
def State.orderRelease (s : State) (i : Nat) : State × Bool :=
  let o := s.order i
  if o.clause = 0 then (s, true)
  else
    let out := s.clsRun ClsOp.RELEASE ⟨false, false, false, false, 0, o.clause, 0, 0, 0, 0, 0, false⟩
    let s := s.clsCommit out
    if out.res.status = Cs.IN_USE then (s, false) else (s.setOrder i { s.order i with clause := 0 }, true)

/-- The order is handed back to host software (`DSP_CNT1`, event 172). -/
def State.orderReturn (s : State) (i why : Nat) : State :=
  let s := s.setOrder i { s.order i with state := Os.RETURNED, why := why % 256 }
  ((s.bump (dspCnt 1)).trace Tr.RETURN i (s.order i).assigned why).raise Ev.DSP_RETURNED why

/-- The order becomes READY now. -/
def State.orderReady (s : State) (i : Nat) (f : Order → Order) : State :=
  let n := s.dsp.seq
  let s := s.setDsp fun d => { d with seq := n + 1 }
  s.setOrder i { f (s.order i) with
    state := Os.READY, assigned := none, seq := n, readyTick := (s.clauseNow.getD 0) / 10, noMach := false, spilled := false }

/-- MAX_TRIES, where 0 acts as 8. -/
def State.maxTries (s : State) : Nat := if s.fld F.DSP_CFG_MAX_TRIES = 0 then 8 else s.fld F.DSP_CFG_MAX_TRIES

/-- A return to READY: TRIES increases; an order whose TRIES reaches MAX_TRIES is RETURNED with WHY 3. -/
def State.orderBack (s : State) (i : Nat) (f : Order → Order) : State :=
  let tries := min 255 ((s.order i).tries + 1)
  if s.maxTries ≤ tries then (s.setOrder i { f (s.order i) with tries := tries }).orderReturn i 3
  else s.orderReady i fun o => { f o with tries := tries }

/-- An order leaves its machine with its clause released, then `k`; where the clause is IN_USE it is RETURNED, with the WHY of its row,
open where the row gives none. -/
def State.orderLeave (s : State) (i : Nat) (why : Option Nat) (k : State → State) : State :=
  match s.orderRelease i with
  | (s, true) => k s
  | (s, false) =>
    match why with
    | some w => s.orderReturn i w
    | none => let r := s.draw; r.2.orderReturn i (r.1 % 256)

/-- Orders in flight on a machine that is revoked (WHY 4), lost or detached (WHY 6) are RETURNED, their clauses kept. -/
def State.dspDrop (s : State) (mi why : Nat) : State :=
  if !s.blkOn Blk.DSP || s.isStandby then s
  else
    (((s.dsp.orders.filter fun e => (e.2.state == Os.OFFERED || e.2.state == Os.ACCEPTED) && e.2.assigned == some mi).map Prod.fst).foldl
      (fun s i => s.orderReturn i why) s)

/-! ## The delay list and its spill (R271, R278) -/

/-- Ascending by release time, then arrival. -/
def State.delayLe (s : State) (a b : Nat) : Bool :=
  decide ((s.order a).notBefore < (s.order b).notBefore)
    || ((s.order a).notBefore == (s.order b).notBefore && decide ((s.order a).seq ≤ (s.order b).seq))

/-- The delay list in order, on chip and in the spill area. -/
def State.delayed (s : State) : List Nat := sortBy s.delayLe (s.ordersIn Os.DELAYED)
def State.delaySpilled (s : State) : List Nat := s.delayed.filter fun i => (s.order i).spilled
def State.delayOnChip (s : State) : List Nat := s.delayed.filter fun i => !(s.order i).spilled

/-- A store begins to spill (event 170), or its spill area has emptied (event 171). -/
def State.spillStart (s : State) (store : Nat) : State :=
  if s.dsp.spilling.contains store then s
  else (s.setDsp fun d => { d with spilling := store :: d.spilling }).raise Ev.DSP_SPILL_START 0
def State.spillEnd (s : State) (store : Nat) : State :=
  if s.dsp.spilling.contains store then (s.setDsp fun d => { d with spilling := d.spilling.erase store }).raise Ev.DSP_SPILL_END 0 else s

/-- While more entries than the list holds are on chip, the one with the latest release goes out. -/
def State.delaySpill (s : State) : State :=
  match s.delayOnChip.getLast? with
  | some i =>
    if s.delayOnChip.length ≤ delaySize then s
    else ((s.spillStart 0).setOrder i { s.order i with spilled := true }).trace Tr.SPILL i none 0
  | none => s

/-- Entries return from spill, the earliest first, as room frees. -/
def State.delayRefill (s : State) : State :=
  let back := s.delaySpilled.take (delaySize - s.delayOnChip.length)
  let s := back.foldl (fun s i => s.setOrder i { s.order i with spilled := false }) s
  if s.delaySpilled.isEmpty then s.spillEnd 0 else s

/-- An order enters the delay list. -/
def State.orderDelay (s : State) (i : Nat) (f : Order → Order) : State :=
  let n := s.dsp.seq
  let s := s.setDsp fun d => { d with seq := n + 1 }
  s.setOrder i { f (s.order i) with state := Os.DELAYED, seq := n, late := false, spilled := false }

/-! ## Commands (R270) -/

/-- The fields of a record image for SUBMIT are in range (R268). -/
def submitOk (b : List Byte) : Bool :=
  let fl := Bytes.at' b 6 1
  decide (Bytes.at' b 5 1 < 32) && decide (fl < 16)
    && (if bitOf fl 3 then decide (Bytes.at' b 7 1 < 16) else Bytes.at' b 7 1 == 0)
    && bitsOf (Bytes.at' b 8 2) 14 11 == 0 && decide (Bytes.at' b 22 2 ≤ 1024) && Bytes.at' b 24 4 % 8 == 0
    && decide (Bytes.at' b 24 4 + Bytes.at' b 22 2 ≤ bar2Size)
    && (!bitOf fl 1 || (decide (1000 ≤ Bytes.at' b 40 4) && decide (Bytes.at' b 40 4 ≤ 86400000)))

/-- The order an image asks for, its body copied from BAR2. -/
def State.orderOf (s : State) (b : List Byte) (gen : Nat) : Order :=
  let fl := Bytes.at' b 6 1
  { Order.free with
    gen := gen, prio := Bytes.at' b 5 1, hard := bitOf fl 0, clauseReq := bitOf fl 1, dir := bitOf fl 2, charge := bitOf fl 3,
    bay := Bytes.at' b 7 1, aff := Bytes.at' b 8 2, cmask := Bytes.at' b 10 2, notBefore := Bytes.at' b 12 5,
    deadline := Bytes.at' b 17 5, body := s.bar2Read (Bytes.at' b 24 4) (Bytes.at' b 22 2), bodyOff := Bytes.at' b 24 4,
    space := Bytes.at' b 28 4, lo := Bytes.at' b 32 4, hi := Bytes.at' b 36 4, dur := Bytes.at' b 40 4 }

/-- The result of a command: RES0 and RES1. -/
structure DspRes where
  status : Nat
  state : Nat
  handle : Nat
  deriving DecidableEq, Repr

/-- The result that names order `i`. -/
def State.dspRes (s : State) (status i : Nat) : DspRes := ⟨status, (s.order i).state, (s.order i).handle i⟩

/-- An order released at `t` waits: NOT_BEFORE has not passed, or clause time is unknown. -/
def State.mustWait (s : State) (t : Nat) : Bool :=
  match s.clauseNow with
  | some now => decide (now < t)
  | none => true

/-- SUBMIT. -/
def State.submit (s : State) (b : List Byte) : State × DspRes :=
  if !submitOk b then (s, ⟨Ds.INVALID, 0, 0⟩)
  else match s.orderNext with
    | none =>
      let was := s.dsp.fullSeen
      let s := s.setDsp fun d => { d with fullSeen := true }
      (if was then s else s.raise Ev.DSP_TABLE_FULL 0, ⟨Ds.FULL, 0, 0⟩)
    | some i =>
      let o := s.orderOf b (((s.order i).gen + 1) % 65536)
      let s := s.setDsp fun d => if d.freeNext < dspSize then { d with freeNext := d.freeNext + 1 } else { d with freeTail := d.freeTail.drop 1 }
      let s := if s.mustWait o.notBefore then (s.orderDelay i fun _ => o).delaySpill else s.orderReady i fun _ => o
      let s := s.trace Tr.SUBMIT i none 0
      let s := if s.ordersHeld = 58982 then s.raise Ev.DSP_NEAR_FULL 0 else s
      (s, s.dspRes Ds.OK i)

/-- CANCEL of a live order. -/
def State.orderCancel (s : State) (i : Nat) : State :=
  let o := s.order i
  let s := match o.assigned with
    | some mi => if o.state = Os.OFFERED ∨ o.state = Os.ACCEPTED then s.sendWithdraw mi (o.handle i) else s
    | none => s
  (s.orderLeave i none fun s => (s.setOrder i { s.order i with state := Os.CANCELLED }).trace Tr.CANCEL i o.assigned 0).delayRefill

/-- RETIRE of a terminal order. -/
def State.orderFree (s : State) (i : Nat) : State :=
  let s := s.setDsp fun d => { d with freeTail := d.freeTail ++ [i], fullSeen := false }
  s.setOrder i { Order.free with gen := (s.order i).gen }

/-- A command on a record image, but for holding. A standby runs QUERY alone (R311). QUERY answers at the host port (`host`) with the
record in `DSP_CMD0`–`DSP_CMD15`. -/
def State.dspRun (s : State) (op : Nat) (b : List Byte) (host : Bool) : State × DspRes :=
  if s.isStandby && op != DspOp.QUERY then (s, ⟨Ds.INVALID, 0, 0⟩)
  else if op = DspOp.SUBMIT then s.submit b
  else if op = DspOp.ASSIGN && !s.expert Blk.DSP then (s, ⟨Ds.INVALID, 0, Bytes.at' b 0 4⟩)
  else match s.orderRef (Bytes.at' b 0 4) with
    | none => (s, ⟨if decide (1 ≤ op ∧ op ≤ 6) then Ds.STALE else Ds.INVALID, 0, Bytes.at' b 0 4⟩)
    | some i =>
      let o := s.order i
      let act (ok : Bool) (f : State → State) : State × DspRes :=
        if ok then (let s := f s; (s, s.dspRes Ds.OK i)) else (s, s.dspRes Ds.STATE i)
      if op = DspOp.CANCEL then act (!o.terminal) fun s => s.orderCancel i
      else if op = DspOp.RETIRE then act o.terminal fun s => s.orderFree i
      else if op = DspOp.QUERY then
        act true fun s => if host then (List.range 16).foldl (fun s n => s.setFld (F.DSP_CMD_WORD.nth n) (Bytes.at' (o.bytes i) (4 * n) 4)) s else s
      else if op = DspOp.ASSIGN then
        let mi := Bytes.at' b 48 2 % 2048
        if o.state != Os.READY then (s, s.dspRes Ds.STATE i)
        else if bitOf (Bytes.at' b 48 2) 15 || !s.eligible o mi then (s, s.dspRes Ds.INVALID i)
        else act true fun s => s.dspOffer i mi
      else if op = DspOp.REQUEUE then
        act (o.state == Os.RETURNED) fun s => s.orderReady i fun o => { o with tries := 0, excl := none }
      else (s, s.dspRes Ds.INVALID i)

/-- The port of the host, beside the intake queues 0–159. -/
abbrev dspHost : Nat := 256

/-- The queue paired with an intake queue (R270): the one the image's QUEUES section pairs with it, which DSP must produce into (log 61). -/
def State.replyQueue (s : State) (q : Nat) : Option Nat :=
  let r := Config.replyQueue (imgSec (s.sim.applied.getD []) Sec.QUEUES Blk.XQ) q
  if s.xqConnected r && (s.xqEntry r).1 / 256 == Blk.DSP then some r else none

/-- The result goes to `DSP_RES0` and `DSP_RES1` with DONE, or as one item to the queue paired with the intake queue. -/
def State.dspReply (s : State) (port : Nat) (r : DspRes) : State :=
  let w := r.status + r.state * 256
  if port = dspHost then
    (((s.setReg R.DSP_RES0 (BitVec.ofNat 32 w)).setReg R.DSP_RES1 (BitVec.ofNat 32 r.handle)).setFld F.DSP_STATUS2_BUSY 0).setFld
      F.DSP_STATUS2_DONE 1
  else
    match s.replyQueue port with
    | some q => s.xqArrive q (w + 2 ^ 32 * r.handle) true
    | none => s

/-- The command of an image at a port: in the image for a queue, in `DSP_GO` for the host, which stands in byte 63 here. -/
def imgOp (b : List Byte) : Nat := Bytes.at' b 63 1

/-- A SUBMIT that meets a full on-chip delay list is held (R278). -/
def State.submitHeld (s : State) (b : List Byte) : Bool :=
  imgOp b == DspOp.SUBMIT && !s.isStandby && submitOk b && s.orderNext.isSome && s.mustWait (Bytes.at' b 12 5)
    && decide (delaySize ≤ s.delayOnChip.length)

/-- A command runs and is answered. -/
def State.dspExec (s : State) (port : Nat) (b : List Byte) : State :=
  let r := s.dspRun (imgOp b) b (port == dspHost)
  r.1.dspReply port r.2

/-- Commands that wait at their ports, in their order, as far as nothing holds them. -/
def State.dspDrain (s : State) : State :=
  let step (acc : State × List DspWait) (e : DspWait) : State × List DspWait :=
    if acc.2.any (fun w => w.port == e.port) || acc.1.submitHeld e.image then (acc.1, acc.2 ++ [e]) else (acc.1.dspExec e.port e.image, acc.2)
  let r := s.dsp.waiting.foldl step (s, [])
  let s := r.1.setDsp fun d => { d with waiting := r.2 }
  (s.dsp.spilling.filter fun st => decide (1 ≤ st) && decide (st < 1000)).foldl
    (fun s st => if (s.dsp.waiting.filter fun w => w.port + 1 == st).length ≤ 256 then s.spillEnd st else s) s

/-- A command arrives at a port. -/
def State.dspArrive (s : State) (port : Nat) (b : List Byte) : State :=
  if s.dsp.waiting.any (fun w => w.port == port) || s.submitHeld b then
    let s := s.setDsp fun d => { d with waiting := d.waiting ++ [⟨port, b, s.mono⟩] }
    if port = dspHost then s.setFld F.DSP_STATUS2_BUSY 1 else s
  else s.dspExec port b

/-- The image in `DSP_CMD0`–`DSP_CMD15` with a command in byte 63. -/
def State.dspImage (s : State) (op : Nat) : List Byte :=
  ((List.range 16).flatMap fun n => Bytes.ofNat 4 (s.fld (F.DSP_CMD_WORD.nth n))).take 63 ++ Bytes.ofNat 1 op

/-- A write to `DSP_GO` (R284). -/
def State.dspGo (s : State) (op : Nat) : State :=
  if !s.blkOn Blk.DSP || s.flag F.DSP_STATUS2_BUSY || op = 0 || decide (6 < op) then s else s.dspArrive dspHost (s.dspImage op)

/-- SUBMIT, CANCEL, RETIRE, QUERY, ASSIGN, REQUEUE (R270): a write of the command to `DSP_GO`. -/
def execSubmit (s : State) : Result := whileRunning s fun s => s.dspGo DspOp.SUBMIT
def execCancel (s : State) : Result := whileRunning s fun s => s.dspGo DspOp.CANCEL
def execRetire (s : State) : Result := whileRunning s fun s => s.dspGo DspOp.RETIRE
def execQuery (s : State) : Result := whileRunning s fun s => s.dspGo DspOp.QUERY
def execAssign (s : State) : Result := whileRunning s fun s => s.dspGo DspOp.ASSIGN
def execRequeue (s : State) : Result := whileRunning s fun s => s.dspGo DspOp.REQUEUE

/-- An intake queue: a connected queue whose consumer is DSP. -/
def State.isIntake (s : State) (q : Nat) : Bool := s.xqConnected q && (s.xqEntry q).2.1 / 256 == Blk.DSP

/-- DSP_INTAKE_ENTRY (R270): a record image arrives on intake queue `q`. -/
def execDspIntakeEntry (q : Nat) (image : List Byte) (s : State) : Result :=
  whileOn s Blk.DSP fun s => if s.isIntake q && image.length == 64 then s.dspArrive q image else s

/-! ## Decisions (R271, R273, R274) -/

/-- CLS can serve a clause order: clause time known, no memory fault. -/
def State.clsServes (s : State) : Bool := s.clauseNow.isSome && !s.flag F.CLS_STATUS_MEM_FAULT

/-- The RESERVE for an order and a machine (R274). -/
def State.orderReserve (s : State) (o : Order) (mi now : Nat) : ClsDesc :=
  let seg : Option Nat := (s.cls.chain mi).find? fun k => (s.cls.clause k).current && !(s.cls.clause k).isCell
  { force := false, link := seg.isSome, dir := o.dir, dry := false, mi := mi, ref := (seg.map s.cls.handle).getD 0, t0 := now,
    t1 := now + o.dur, space := o.space, lo := o.lo, hi := o.hi, bad := false }

/-- No clause order is tried once CLS has answered NO_TIME or FAULT, until it serves again (R274). -/
def State.clsHeld (s : State) : Bool := s.dsp.unserved && !s.clsServes

/-- A decision on a READY order (R273): a machine is chosen, and the order offered or its ground asked for, which CLS cannot give without clause
time. -/
def State.dspDecide (s : State) (i : Nat) : State :=
  let o := s.order i
  if o.state != Os.READY || (s.dsp.flights.any fun f => f.idx == i && f.gen == o.gen) || (o.clauseReq && s.clsHeld) then s
  else match s.chooseMachine o with
    | none => if o.noMach then s else (s.setOrder i { o with noMach := true }).trace Tr.NO_MACHINE i none 0
    | some mi =>
      if !o.clauseReq then s.dspOffer i mi
      else match s.clauseNow with
        | some now => s.setDsp fun d => { d with flights := d.flights ++ [⟨i, o.gen, mi, s.orderReserve o mi now⟩] }
        | none => (s.setDsp fun d => { d with unserved := true }).bump (dspCnt 3)

/-- The READY orders by priority level, then in the order in which they became READY. -/
def State.readyOrders (s : State) : List Nat :=
  sortBy (fun a b => decide ((s.order a).prio < (s.order b).prio)
    || ((s.order a).prio == (s.order b).prio && decide ((s.order a).seq ≤ (s.order b).seq))) (s.ordersIn Os.READY)

/-- At basic level DSP decides, at most 2,048 times in a tick, first on what the last tick left. -/
def State.dspRound (s : State) : State :=
  if s.expert Blk.DSP then s
  else
    let left := s.dsp.rest.filter fun i => (s.order i).state == Os.READY
    let l := if left.isEmpty then s.readyOrders else left
    let n := 2048 - s.dsp.decided
    ((l.take n).foldl State.dspDecide s).setDsp fun d => { d with rest := l.drop n, decided := s.dsp.decided + (l.take n).length }

/-- At a boundary up to 4,096 due orders become READY, earliest first; each beyond that count is a late release. -/
def State.dspReleaseDue (s : State) (boundary : Nat) : State :=
  let due := s.delayed.filter fun i => decide ((s.order i).notBefore ≤ boundary)
  let s := (due.take 4096).foldl (fun s i => (s.orderReady i id).trace Tr.RELEASE i none 0) s
  let excess := (due.drop 4096).filter fun i => !(s.order i).late
  let s := excess.foldl (fun s i => (s.setOrder i { s.order i with late := true }).bump (dspCnt 2)) s
  let s := if due.length ≤ 4096 then s else s.raise Ev.DSP_LATE_RELEASE 0
  s.delayRefill.dspDrain

/-- DISPATCH_TICK (R271, R273): at a boundary of 10 ms of clause time. No tick passes while device time is not valid; a standby changes by
mirror alone (R312). -/
def execDispatchTick (s : State) : Result :=
  whileOn s Blk.DSP fun s =>
    match s.clauseNow with
    | none => s
    | some now =>
      let b := now / 10 * 10
      if s.isStandby || s.dsp.tick == some b then s
      else ((s.setDsp fun d => { d with tick := some b, decided := 0 }).dspReleaseDue b).dspRound

/-- MACHINE_ELIGIBLE (R273): a machine that takes orders again. -/
def execMachineEligible (mi : Nat) (s : State) : Result :=
  whileOn s Blk.DSP fun s => if !s.isStandby && s.machTakes mi then s.dspRound else s

/-- The result of an order's RESERVE (R274); `live`: the order still waits for it, otherwise the clause is released (R282). -/
def State.reserveResult (s : State) (f : Flight) (r : ClsRes) (live : Bool) : State :=
  let i := f.idx
  if r.status = Cs.OK then
    if live then (s.setOrder i { s.order i with clause := r.handle }).dspOffer i f.mi
    else s.clsCommit (s.clsRun ClsOp.RELEASE ⟨false, false, false, false, 0, r.handle, 0, 0, 0, 0, 0, false⟩)
  else if !live then s
  else if r.status = Cs.CONFLICT then
    if r.freeAt = clauseForever then s.orderReturn i 5
    else
      let s := (s.orderDelay i fun o => { o with notBefore := r.freeAt, assigned := none }).delaySpill
      (s.trace Tr.CLAUSE_WAIT i none Cs.CONFLICT).raise Ev.DSP_CLAUSE_WAIT 0
  else if r.status = Cs.FULL ∨ r.status = Cs.LIMIT ∨ r.status = Cs.SPACE_FULL ∨ r.status = Cs.NO_TIME ∨ r.status = Cs.FAULT then
    s.bump (dspCnt 3)
  else s.orderReturn i 5

/-- DSP_RESERVE_RESULT (R274): the oldest RESERVE in flight runs at the dispatcher port of CLS and its result arrives. -/
def execDspReserveResult (s : State) : Result :=
  whileOn s Blk.DSP fun s =>
    match s.dsp.flights with
    | [] => s
    | f :: rest =>
      let s := s.setDsp fun d => { d with flights := rest }
      let out := s.clsDo ClsOp.RESERVE f.desc
      let o := s.order f.idx
      let lost := out.2.1.status == Cs.NO_TIME || out.2.1.status == Cs.FAULT
      (out.1.setDsp fun d => { d with unserved := lost }).reserveResult f out.2.1 (o.state == Os.READY && o.gen == f.gen)

/-! ## What machines answer (R275–R277, R282) -/

/-- The order a machine's message is about, in flight on that machine in one of two states. -/
def State.orderWith (s : State) (mi handle st st' : Nat) : Option Nat :=
  match s.orderRef handle with
  | some i => if ((s.order i).state = st ∨ (s.order i).state = st') ∧ (s.order i).assigned = some mi then some i else none
  | none => none

/-- A late answer (`DSP_CNT4`). -/
def State.lateAnswer (s : State) : State := s.bump (dspCnt 4)

/-- ACCEPT: a charging order opens its session, event 178; an ACCEPT too late is answered with WITHDRAW. -/
def State.orderAccept (s : State) (mi handle : Nat) : State :=
  match s.orderWith mi handle Os.OFFERED Os.OFFERED with
  | none => s.lateAnswer.sendWithdraw mi handle
  | some i =>
    let o := s.order i
    let s := (s.setOrder i { o with state := Os.ACCEPTED }).trace Tr.ACCEPT i (some mi) 0
    if o.charge then (s.sessionOpen o.bay handle mi).raise Ev.DSP_CHARGE_OPEN 0 else s

/-- REFUSE. -/
def State.orderRefuse (s : State) (mi handle : Nat) : State :=
  match s.orderWith mi handle Os.OFFERED Os.OFFERED with
  | none => s.lateAnswer
  | some i =>
    let hard := (s.order i).hard
    let s := s.trace Tr.REFUSE i (some mi) 0
    if hard then s.orderLeave i (some 1) fun s => s.orderReturn i 1
    else s.orderLeave i none fun s => s.orderBack i fun o => { o with excl := some mi }

/-- The order is complete: the machine's DONE count, and a charging order's session is closed, event 179. -/
def State.orderComplete (s : State) (i : Nat) : State :=
  let o := s.order i
  let s := s.setOrder i { o with state := Os.DONE }
  let s := match o.assigned with
    | some mi =>
      let n := (s.fldB mi F.DSP_MACH_CFG_DONE + 1) % 65536
      (s.setFldB mi F.DSP_MACH_CFG_DONE n).mirror mi (.dspList mi (s.regB mi R.DSP_MACH_CFG).toNat n)
    | none => s
  let s := s.trace Tr.DONE i o.assigned 0
  if o.charge && o.state == Os.ACCEPTED then (s.sessionClose o.bay).raise Ev.DSP_CHARGE_END 0 else s

/-- DONE. -/
def State.orderDone (s : State) (mi handle : Nat) : State :=
  match s.orderWith mi handle Os.ACCEPTED Os.OFFERED with
  | none => s.lateAnswer
  | some i => s.orderComplete i

/-- The Fleet Work Dispatcher acts on machines' messages while DSP is enabled on a module that is no standby. -/
def State.dspOn (s : State) (f : State → State) : State := s.on Blk.DSP fun s => if s.isStandby then s else f s

/-- ORDER_ACCEPT (R275, R277). -/
def execOrderAccept (mi handle : Nat) (s : State) : Result := .next (s.dspOn fun s => s.orderAccept mi handle)

/-- ORDER_REFUSE (R276). -/
def execOrderRefuse (mi handle : Nat) (s : State) : Result := .next (s.dspOn fun s => s.orderRefuse mi handle)

/-- ORDER_DONE (R276, R277). -/
def execOrderDone (mi handle : Nat) (s : State) : Result := .next (s.dspOn fun s => s.orderDone mi handle)

/-- WITHDRAWN: the machine holds the order no longer; DSP decides anew if it takes orders again. -/
def State.orderWithdrawn (s : State) (mi : Nat) : State := if s.machTakes mi then s.dspRound else s

/-- ORDER_WITHDRAWN (R275): the order has left the machine's hands already. -/
def execOrderWithdrawn (mi : Nat) (s : State) : Result := .next (s.dspOn fun s => s.orderWithdrawn mi)

/-- ACK_TIMEOUT (R276): no answer within ACK_MS, event 174. -/
def execAckTimeout (idx : Nat) (s : State) : Result :=
  .next (s.dspOn fun s =>
    let o := s.order idx
    if o.state = Os.OFFERED ∧ s.passed o.offeredAt (s.fld F.DSP_CFG_ACK_MS * nsPerMs) then
      let s := (s.trace Tr.TIMEOUT idx o.assigned 2).raise Ev.DSP_ACK_TIMEOUT 0
      if o.hard then s.orderLeave idx (some 2) fun s => s.orderReturn idx 2
      else s.orderLeave idx (some 2) fun s => s.orderBack idx fun o => { o with why := 2 }
    else s)

/-- The order has a deadline, it has passed, and the order is not accepted. -/
def State.orderOver (s : State) (o : Order) : Bool :=
  (o.state == Os.DELAYED || o.state == Os.READY || o.state == Os.OFFERED) && o.deadline != 0 && (match s.clauseNow with
    | some now => decide (o.deadline < now)
    | none => false)

/-- DEADLINE_EXPIRY (R276): EXPIRED, WITHDRAW to a machine it was offered to, event 173. -/
def execDeadlineExpiry (idx : Nat) (s : State) : Result :=
  .next (s.dspOn fun s =>
    let o := s.order idx
    if s.orderOver o then
      let s := match o.assigned with
        | some mi => if o.state = Os.OFFERED then s.sendWithdraw mi (o.handle idx) else s
        | none => s
      (s.orderLeave idx none fun s =>
        ((s.setOrder idx { s.order idx with state := Os.EXPIRED }).trace Tr.EXPIRE idx o.assigned 0).raise Ev.DSP_EXPIRED 0).delayRefill
    else s)

/-! ## Charging orders whose session DMU ends (R277, R406, R408) -/

/-- DMU ends the session of a bay: its record, and the order becomes DONE. -/
def State.sessionOver (s : State) (bay : Nat) : State :=
  match s.session bay with
  | none => s
  | some v =>
    match (if s.blkOn Blk.DSP && !s.isStandby then s.orderWith v.mi v.order Os.ACCEPTED Os.ACCEPTED else none) with
    | some i => s.orderComplete i
    | none => s.sessionClose bay

/-- SESSION_END (R406): the bay's current has stayed below IDLE_MA for END_S. -/
def execSessionEnd (bay : Nat) (s : State) : Result :=
  whileRunning s fun s => if s.dmuClocks && s.sessionIdle bay then s.sessionOver bay else s

/-- A write to `DMU_BAY_CMD` (R408). -/
def State.bayCmdWrite (s : State) (w : Word) : State :=
  if F.DMU_BAY_CMD_OP.get w = 3 then
    if s.blkOn Blk.DMU && s.expert Blk.DMU then s.sessionOver (F.DMU_BAY_CMD_BAY.get w) else s
  else s.bayOp w

/-- BAY_END_CMD (R408). -/
def execBayEndCmd (bay : Nat) (s : State) : Result := whileRunning s fun s => s.bayCmdWrite (bayWord 3 bay)

/-! ## Takeover (R282) -/

/-- A new active module: RESERVEs in flight are lost, OFFERED orders are sent again with a fresh ACK_MS. -/
def State.dspTakeover (s : State) : State :=
  if !s.blkOn Blk.DSP then s
  else
    let s := s.setDsp fun d => { d with flights := [], rest := [], tick := none }
    (s.ordersIn Os.OFFERED).foldl (fun s i => (s.setOrder i { s.order i with offeredAt := s.mono }).sendOrder i) s

/-- A machine joins again (R282): its OFFERED orders are sent again and ACK_MS restarts. -/
def State.dspRejoin (s : State) (mi : Nat) : State :=
  if !s.blkOn Blk.DSP then s
  else
    ((s.ordersIn Os.OFFERED).filter fun i => (s.order i).assigned == some mi).foldl
      (fun s i => (s.setOrder i { s.order i with offeredAt := s.mono }).sendOrder i) s

end Sys2Proof.Machine
end

