-- ==== Sys2Proof/Machine/Cores.lean ====
section
/-!
DEFINITION. The Core Dispatcher (R280–R284): threads, the eight cores, slices, preemption, migration, and the run lists' spill.
STATE, LAST, PRIO, SLICE and MASK of a thread are its `DSP_THR_CFG`.
-/

namespace Sys2Proof.Machine

/-- The states of a thread. -/
abbrev Th.FREE : Nat := 0
abbrev Th.READY : Nat := 1
abbrev Th.RUNNING : Nat := 2
abbrev Th.WAITING : Nat := 3
abbrev Th.SUSPENDED : Nat := 4

/-- A thread's engine part, and setting it. -/
def State.thread (s : State) (t : Nat) : Thread := s.dsp.threads.get Thread.free t
def State.setThread (s : State) (t : Nat) (v : Thread) : State :=
  s.setDsp fun d => { d with threads := d.threads.set Thread.free t v }

/-- The fields of `DSP_THR_CFG`. -/
def State.thrState (s : State) (t : Nat) : Nat := s.fldB t F.DSP_THR_CFG_STATE
def State.thrLast (s : State) (t : Nat) : Nat := s.fldB t F.DSP_THR_CFG_LAST
def State.thrPrio (s : State) (t : Nat) : Nat := s.fldB t F.DSP_THR_CFG_PRIO
def State.thrMask (s : State) (t : Nat) : Nat := s.fldB t F.DSP_THR_CFG_MASK
def State.setThrState (s : State) (t st : Nat) : State := s.setFldB t F.DSP_THR_CFG_STATE st
def State.setThrLast (s : State) (t c : Nat) : State := s.setFldB t F.DSP_THR_CFG_LAST c

/-- The threads that exist, and those in a state. -/
def State.threads (s : State) : List Nat := s.dsp.threads.keys
def State.threadsIn (s : State) (st : Nat) : List Nat := s.threads.filter fun t => s.thrState t == st

/-- The tick of 100 µs of device time (R280). -/
def State.coreNow (s : State) : Nat := s.tai / 100000

/-- The cores a thread may run on. -/
def State.thrCores (s : State) (t : Nat) : List Nat := (List.range 8).filter fun c => (s.thrMask t).testBit c

/-- The thread a core runs. -/
def State.runs (s : State) (c : Nat) : Option Nat := (s.threadsIn Th.RUNNING).find? fun t => s.thrLast t == c

/-- The run list of a core: its ready threads by priority, then arrival. -/
def State.runList (s : State) (c : Nat) : List Nat :=
  sortBy (fun a b => decide (s.thrPrio a < s.thrPrio b) || (s.thrPrio a == s.thrPrio b && decide ((s.thread a).seq ≤ (s.thread b).seq)))
    ((s.threadsIn Th.READY).filter fun t => s.thrLast t == c)

/-- A decision of the Core Dispatcher (R279): 32 RUN, 33 PREEMPT, 34 MIGRATE, 35 BLOCK, 36 WAKE. -/
def State.coreTrace (s : State) (what t : Nat) : State :=
  if s.flag F.DSP_TRACE_CORE_EN then s.tracePut 1 what (s.thrLast t) t s.stamp 0 (s.thrPrio t) else s

/-- A thread becomes ready now, behind the others of its priority. -/
def State.thrReady (s : State) (t : Nat) : State :=
  let n := s.dsp.tseqThr
  let s := s.setDsp fun d => { d with tseqThr := n + 1 }
  (s.setThrState t Th.READY).setThread t ⟨true, none, n, s.coreNow, 0, false⟩

/-- A core runs a ready thread, with a fresh slice unless it still has ticks of one. -/
def State.thrRun (s : State) (t : Nat) : State :=
  let v := s.thread t
  ((s.setThrState t Th.RUNNING).setThread t { v with left := if v.left = 0 then s.fldB t F.DSP_THR_CFG_SLICE else v.left, told := false }).coreTrace 32 t

/-- A running thread gives way to a higher priority; it keeps its place among the ready ones and what is left of its slice. -/
def State.thrPreempt (s : State) (t : Nat) : State :=
  ((s.setThrState t Th.READY).setThread t { s.thread t with readyAt := s.coreNow }).coreTrace 33 t

/-- A core takes the first thread of its run list that its mask allows, if it is idle or runs a lower priority (R281). -/
def State.coreSchedule (s : State) (c : Nat) : State :=
  match (s.runList c).find? fun t => (s.thrMask t).testBit c with
  | none => s
  | some t =>
    match s.runs c with
    | none => s.thrRun t
    | some r => if s.thrPrio t < s.thrPrio r then (s.thrPreempt r).thrRun t else s

/-- A run list no longer than 64 threads has nothing in spill. -/
def State.coreSpillEnd (s : State) (c : Nat) : State := if (s.runList c).length ≤ 64 then s.spillEnd (1000 + c) else s

/-- Every core schedules. -/
def State.coresSchedule (s : State) : State := (List.range 8).foldl (fun s c => (s.coreSchedule c).coreSpillEnd c) s

/-- The slice of a core's thread loses a tick. At its end the thread takes its turn behind one of equal priority; a thread whose mask has
dropped the core moves to the first core it allows (R282). -/
def State.coreSlice (s : State) (c : Nat) : State :=
  match s.runs c with
  | none => s
  | some r =>
    let v := s.thread r
    if 1 < v.left then s.setThread r { v with left := v.left - 1 }
    else if !(s.thrMask r).testBit c then
      match s.expert Blk.DSP, s.thrCores r with
      | false, k :: _ => ((s.thrReady r).setThrLast r k).coreTrace 34 r
      | _, _ => s.thrReady r
    else
      match (s.runList c).find? fun t => (s.thrMask t).testBit c && s.thrPrio t == s.thrPrio r with
      | some t => (s.thrReady r).thrRun t
      | none => s.setThread r { v with left := s.fldB r F.DSP_THR_CFG_SLICE }

/-- A ready thread that has waited MIGRATE_TICKS is taken by another core it allows: an idle one, else one that runs a lower priority. -/
def State.thrMigrate (s : State) (t : Nat) : State :=
  if s.thrState t != Th.READY || decide (s.coreNow < (s.thread t).readyAt + s.fld F.DSP_CORE_CFG_MIGRATE_TICKS) then s
  else
    let others := (s.thrCores t).filter fun c => c != s.thrLast t
    let lower (c : Nat) : Bool := match s.runs c with
      | some r => decide (s.thrPrio t < s.thrPrio r)
      | none => false
    match (others.find? fun c => (s.runs c).isNone).orElse fun _ => others.find? lower with
    | none => s
    | some c =>
      let s := match s.runs c with
        | some r => s.thrPreempt r
        | none => s
      ((s.setThrLast t c).coreTrace 34 t).thrRun t

/-- A thread that has been ready for 1,000 ticks without running raises event 181, once. -/
def State.thrWaited (s : State) (t : Nat) : State :=
  let v := s.thread t
  if s.thrState t == Th.READY && !v.told && decide (v.readyAt + 1000 ≤ s.coreNow) then
    (s.setThread t { v with told := true }).raise Ev.DSP_THREAD_WAIT 0
  else s

/-- CORE_TICK (R281): at each 100 µs. Migration stops at expert level. -/
def execCoreTick (s : State) : Result :=
  whileOn s Blk.DSP fun s =>
    if s.dsp.coreTick = some s.coreNow then s
    else
      let s := s.setDsp fun d => { d with coreTick := some s.coreNow }
      let s := (List.range 8).foldl State.coreSlice s
      let s := s.coresSchedule
      let s := if s.expert Blk.DSP then s else (s.threadsIn Th.READY).foldl State.thrMigrate s
      s.threads.foldl State.thrWaited s

/-- A waiting thread's object is there (R280): the event raised since, an item visible to it, or the tick reached. -/
def State.thrDue (s : State) (w : ThreadWait) : Bool :=
  match w with
  | .event n since => decide (since < s.evt.raisedAt.get 0 n)
  | .queue q => !(s.xqueue q).items.isEmpty
  | .tick t => decide (t ≤ s.coreNow)

/-- THREAD_READY (R280, R281). -/
def execThreadReady (t : Nat) (s : State) : Result :=
  whileOn s Blk.DSP fun s =>
    match (s.thread t).wait with
    | some w => if s.thrState t = Th.WAITING ∧ s.thrDue w then ((s.thrReady t).coreTrace 36 t).coresSchedule else s
    | none => s

/-- A thread stops being ready or running; its core takes the next. -/
def State.thrStop (s : State) (t st : Nat) (wait : Option ThreadWait) : State :=
  let s := (s.setThrState t st).setThread t ⟨true, wait, 0, 0, 0, false⟩
  s.coresSchedule

/-- What a thread waits on, by KIND and ARG. -/
def State.thrWait (s : State) (kind arg : Nat) : Option ThreadWait :=
  if kind = 0 ∧ arg < 256 then some (.event arg s.evt.raises)
  else if kind = 1 ∧ arg < 160 then some (.queue arg)
  else if kind = 2 then some (.tick (s.coreNow + arg))
  else none

/-- A write to `DSP_THR_CMD` (R284), for the thread `DSP_THR_IDX` shows. CREATE asks for a mask and a slice. -/
def State.thrCmd (s : State) (w : Word) : State :=
  let t := s.fld F.DSP_THR_IDX_THREAD
  let op := F.DSP_THR_CMD_OP.get w
  let st := s.thrState t
  if !s.blkOn Blk.DSP then s
  else if op = 1 then
    match st, s.thrCores t with
    | 0, c :: _ => if s.fldB t F.DSP_THR_CFG_SLICE = 0 then s else ((s.thrReady t).setThrLast t c).coresSchedule
    | _, _ => s
  else if st = Th.FREE then s
  else if op = 2 then ((s.setThrState t Th.FREE).setThread t Thread.free).coresSchedule
  else if op = 3 then if st = Th.SUSPENDED then s else s.thrStop t Th.SUSPENDED none
  else if op = 4 then if st = Th.SUSPENDED then (s.thrReady t).coresSchedule else s
  else if op = 5 then
    match s.thrWait (F.DSP_THR_CMD_KIND.get w) (F.DSP_THR_CMD_ARG.get w) with
    | some o => if st = Th.READY ∨ st = Th.RUNNING then (s.coreTrace 35 t).thrStop t Th.WAITING (some o) else s
    | none => s
  else s

/-- The word of a `DSP_THR_CMD` command. -/
def thrWord (op kind arg : Nat) : Word :=
  F.DSP_THR_CMD_ARG.put (F.DSP_THR_CMD_KIND.put (F.DSP_THR_CMD_OP.put 0 op) kind) arg

/-- THREAD_CREATE, THREAD_DESTROY, THREAD_SUSPEND, THREAD_RESUME, THREAD_WAIT (R280, R284). -/
def execThreadCreate (s : State) : Result := whileRunning s fun s => s.thrCmd (thrWord 1 0 0)
def execThreadDestroy (s : State) : Result := whileRunning s fun s => s.thrCmd (thrWord 2 0 0)
def execThreadSuspend (s : State) : Result := whileRunning s fun s => s.thrCmd (thrWord 3 0 0)
def execThreadResume (s : State) : Result := whileRunning s fun s => s.thrCmd (thrWord 4 0 0)
def execThreadWait (kind arg : Nat) (s : State) : Result := whileRunning s fun s => s.thrCmd (thrWord 5 kind arg)

/-! ## Spill (R278) -/

/-- A full spill area holds its producer: event 182, once per second. -/
def State.spillHeld (s : State) (full : Bool) : State :=
  if full && dueSince s s.dsp.lastHeld nsPerSec then (s.setDsp fun d => { d with lastHeld := some s.mono }).raise Ev.DSP_SPILL_HELD 0 else s

/-- The first command that waits for room on the delay list, once HOLD_US has passed, enters it, and the entry with the latest release goes to
spill. -/
def State.delayForce (s : State) : State :=
  match s.dsp.waiting.find? fun w => s.submitHeld w.image && s.passed w.since (s.fld F.DSP_HOLD_HOLD_US * 1000) with
  | none => s
  | some w => ((s.setDsp fun d => { d with waiting := d.waiting.erase w }).dspExec w.port w.image).dspDrain

/-- The commands of an intake queue that wait, and a core's run list, beyond what the store holds on chip. -/
def State.intakeOver (s : State) (q : Nat) : List DspWait := (s.dsp.waiting.filter fun w => w.port == q).drop 256
def State.coreOver (s : State) (c : Nat) : List Nat := (s.runList c).drop 64

/-- SPILL_HOLD_EXPIRY (R278): a store still full after HOLD_US spills. `store` is 0 for the delay list, 1 + q for the intake of queue q,
1000 + c for the run list of core c. -/
def execSpillHoldExpiry (store : Nat) (s : State) : Result :=
  whileOn s Blk.DSP fun s =>
    let held := s.fld F.DSP_HOLD_HOLD_US
    if store = 0 then s.delayForce
    else if store < 1000 then
      let late := s.intakeOver (store - 1)
      if late.any fun w => s.passed w.since (held * 1000) then (s.spillStart store).spillHeld (decide (8192 ≤ late.length)) else s
    else
      let late := s.coreOver (store - 1000)
      if late.any fun t => decide ((s.thread t).readyAt * 100 + held ≤ s.coreNow * 100) then
        let s := if s.dsp.spilling.contains store then s else (s.spillStart store).raise Ev.DSP_CORE_SPILL 0
        s.spillHeld (decide (512 ≤ late.length))
      else s

end Sys2Proof.Machine
end

