-- ==== Sys2Proof/Machine/Fleet.lean ====
section
/-!
DEFINITION. Commands of AUT and AIR that also act on work orders (R105, R226, R233, R234, R276, R282): revocation, joining, losing and
detaching a machine, and the machines' data.
-/

namespace Sys2Proof.Machine

/-- `AUT_REVOKE` operation 1: the machine is revoked, its orders in flight are RETURNED with WHY 4. -/
def State.hostRevokes (s : State) (mi : Nat) : State :=
  let s' := s.hostRevoke mi
  if s'.isRevoked mi && !s.isStandby then s'.dspDrop mi 4 else s'

/-- HOST_REVOKE (R105, R276). -/
def execHostRevoke (mi : Nat) (s : State) : Result := whileOn s Blk.AUT fun s => s.hostRevokes mi

/-- JOIN_REQ_RX (R225, R226, R282). -/
def execJoinReqRx (rx : AirRx) (s : State) : Result :=
  whileOn s Blk.AIR fun s =>
    match s.joinReq rx with
    | (s, some mi) => s.dspRejoin mi
    | (s, none) => s

/-- MACHINE_LOST (R233, R276). -/
def execMachineLost (mi : Nat) (s : State) : Result :=
  whileOn s Blk.AIR fun s => if s.machSilent mi then (s.machLost mi).dspDrop mi 6 else s

/-- DETACH of `AIR_MACH_CMD`: the machine leaves, its orders in flight are RETURNED with WHY 6. -/
def State.airDetaches (s : State) : State :=
  let mi := s.airIdx
  let s' := s.airDetach
  if (s'.airM mi).state == .notJoined then s'.dspDrop mi 6 else s'

/-- MACH_DETACH (R247, R276). -/
def execMachDetach (s : State) : Result := whileOn s Blk.AIR State.airDetaches

/-- A message of a machine on port 1 (R275). -/
def State.orderMessage (s : State) (mi : Nat) (p : List Byte) : State :=
  let handle := Bytes.at' p 4 4
  let msg := Bytes.at' p 2 1
  if p.length < 8 then s
  else if msg = 0x81 then s.orderAccept mi handle
  else if msg = 0x82 then s.orderDone mi handle
  else if msg = 0x83 then s.orderRefuse mi handle
  else if msg = 0x84 then s.orderWithdrawn mi
  else s

/-- DATA_UP_RX (R234): port 0 acknowledges, port 1 carries work orders, ports 16–255 go to a host ring the spec does not name. -/
def execDataUpRx (rx : AirRx) (s : State) : Result :=
  whileOn s Blk.AIR fun s =>
    match s.airFrom Ft.DATA_UP rx with
    | (s, none) => s
    | (s, some mi) =>
      let p := (s.rxFrame rx).payload
      let port := Bytes.at' p 0 1
      if s.isStandby || decide (p.length < 2) then s
      else if port = 0 then
        if Bytes.at' p 2 1 = 0x81 ∧ Bytes.at' p 3 1 = 2 ∧ (s.airM mi).sleepSent then s.setAirM mi { s.airM mi with sleepAcked := true } else s
      else if port = 1 then if s.blkOn Blk.DSP then s.orderMessage mi p else s
      else if 16 ≤ port then
        let r := s.draw
        (r.2.ringPut (r.1 % 1024) Blk.AIR p).1
      else s

/-! ## Quarantine (R445) -/

/-- VALID of a machine in quarantine is 0 in all three tables (R445), so that nothing takes it for an entry in use (log 24). -/
def State.quarantineClear (s : State) (mi : Nat) : State :=
  let was := s.slvValid mi
  let s := (((s.setFldB mi F.AIR_MACH_REG_VALID 0).setFldB mi F.SLV_MACH_CFG_VALID 0)).setFldB mi F.CLS_MACH_DATA_VALID 0
  if was then s.slvForget mi else s

end Sys2Proof.Machine
end

