-- ==== Sys2Proof/Machine/LoopRows.lean ====
section
/-!
DEFINITION. The commands of LPE (R290–R294, R297–R299): triggers, the update queue and what a saturated loop means to its owner, the
host's commands and writes to a slot.
-/

namespace Sys2Proof.Machine

/-- The slot `LPE_SLOT_IDX` shows. -/
def State.slotIdx (s : State) : Nat := s.fld F.LPE_SLOT_IDX_SLOT

/-- A slot has a program. -/
def State.programmed (s : State) (n : Nat) : Bool := decide (n < 2048) && Loop.kind (s.loop n) != 0

/-- A sample for a slot whose owner's rate a register sets: a GRX tracking loop's is due every CARR_MS or CODE_MS (R157); none where it is not. -/
def State.sampleDue (s : State) (n : Nat) : Option State :=
  let kind := Loop.kind (s.loop n)
  if kind = 1 then s.chanSample n false else if kind = 2 then s.chanSample n true else some s

/-- What a slot that has just set SAT means to its owner (R290): a GRX channel restarts LOCK with SLIP, TIM enters holdover. -/
def State.slotFault (s : State) (n : Nat) : State :=
  let kind := Loop.kind (s.loop n)
  if kind = 1 ∨ kind = 2 then
    match s.chanOfSlot n (kind == 2) with
    | some c => s.lockLoss c false
    | none => s
  else if kind = 3 ∨ kind = 4 then s.timLoopSat
  else s

/-- `TIM_FREQ.DAC` follows the frequency slot while TIM disciplines at basic level (R183). -/
def State.dacFollow (s : State) (n : Nat) : State :=
  if s.blkOn Blk.TIM && !s.expert Blk.TIM && s.tim.mode == .disciplined && s.freqSlot == n then
    s.dacSet (s.slotReg n R.LPE_SLOT_OUT)
  else s

/-- An update is served (R293, R294, R297): a GAP update whose entry has ended is discarded. -/
def State.serveUpdate (s : State) (u : LpeUpd) : State :=
  let gap := Loop.kind (s.loop u.slot) == Kind.GAP
  if gap && (u.pair.isNone || (s.slot u.slot).pair != u.pair) then s
  else
    let chain := s.cascadeChain 3 u.slot
    let clear := chain.filter fun n => !s.flagB n F.LPE_SLOT_STAT_SAT
    let s := if gap then (s.setFldB u.slot F.LPE_SLOT_STAT_FORCED 0).setSlot u.slot { s.slot u.slot with forcedSeen := false } else s
    let s := State.cascade 3 s u.slot u.x u.aid
    let s := if gap then s.gapMirror u.slot else s
    let s := (clear.filter fun n => s.flagB n F.LPE_SLOT_STAT_SAT).foldl State.slotFault s
    chain.foldl State.dacFollow s

/-- SLOT_UPDATE (R289–R294): the oldest waiting update is served. -/
def execSlotUpdate (s : State) : Result :=
  whileOn s Blk.LPE fun s =>
    match s.lpe.queue with
    | [] => s
    | u :: rest => ({ s with lpe := { s.lpe with queue := rest } }).serveUpdate u

/-- An update fires; one dropped at a full queue sets SAT of a Class S slot, a fault to its owner (R290, R293). -/
def State.fireOwned (s : State) (u : LpeUpd) : State :=
  let was := s.flagB u.slot F.LPE_SLOT_STAT_SAT
  let s := s.lpeFire u
  if !was && s.flagB u.slot F.LPE_SLOT_STAT_SAT then s.slotFault u.slot else s

/-- SLOT_TRIGGER (R292): the owner of a slot delivers a sample: an OWNER slot fires; a CASCADE slot keeps it for its next firing. GAP slots
are fired by solutions CLS checks. -/
def execSlotTrigger (slot : Nat) (x aid : Int) (s : State) : Result :=
  whileOn s Blk.LPE fun s =>
    let p := s.loop slot
    if !s.programmed slot || Loop.kind p == Kind.GAP then s
    else if Loop.trig p = Trig.OWNER then
      match s.sampleDue slot with
      | some s => s.fireOwned ⟨slot, sat32 x, sat32 aid, none⟩
      | none => s
    else if Loop.trig p = Trig.CASCADE then (s.setSlotReg slot R.LPE_SLOT_IN (sat32 x)).setSlotReg slot R.LPE_SLOT_AID (sat32 aid)
    else s

/-- A PERIODIC or HOST slot fires on its input registers. -/
def State.fireRegs (s : State) (n : Nat) : State :=
  s.fireOwned ⟨n, s.slotReg n R.LPE_SLOT_IN, s.slotReg n R.LPE_SLOT_AID, none⟩

/-- PERIODIC_FIRE (R292): a multiple of the slot's period lies within the present step of the local clock. -/
def execPeriodicFire (slot : Nat) (s : State) : Result :=
  whileOn s Blk.LPE fun s =>
    if s.programmed slot && Loop.trig (s.loop slot) == Trig.PERIODIC && decide (s.tai % (Loop.arg (s.loop slot) * 100000) < 1000) then
      s.fireRegs slot
    else s

/-- A write to `LPE_SLOT_CMD` (R298, R299). -/
def State.slotCmd (s : State) (w : Word) : State :=
  let n := s.slotIdx
  let p := s.loop n
  let op := F.LPE_SLOT_CMD_OP.get w
  let entry := F.LPE_SLOT_CMD_PAIR.get w
  let gap := Loop.kind p == Kind.GAP && s.expert Blk.LPE && !s.isStandby
  if !s.blkOn Blk.LPE then s
  else if op = 1 then if s.programmed n && Loop.trig p == Trig.HOST then s.fireRegs n else s
  else if op = 2 then if Loop.kind p = Kind.GENERAL then s.slotRestart n else s
  else if op = 3 then
    if gap && !s.flagB n F.LPE_SLOT_STAT_ASSIGNED && (s.cls.follow.get none entry).isSome && (s.gapSlotOf entry).isNone then s.gapBind n entry else s
  else if op = 4 then if gap && s.flagB n F.LPE_SLOT_STAT_ASSIGNED then s.gapUnbind n else s
  else s

/-- The word of a `LPE_SLOT_CMD` command. -/
def slotWord (op pair : Nat) : Word := F.LPE_SLOT_CMD_PAIR.put (F.LPE_SLOT_CMD_OP.put 0 op) pair

/-- FIRE (R292), SLOT_RESTART (R299), GAP_ASSIGN_CMD, GAP_FREE_CMD (R298). -/
def execFire (s : State) : Result := whileRunning s fun s => s.slotCmd (slotWord 1 0)
def execSlotRestart (s : State) : Result := whileRunning s fun s => s.slotCmd (slotWord 2 0)
def execGapAssignCmd (pair : Nat) (s : State) : Result := whileRunning s fun s => s.slotCmd (slotWord 3 pair)
def execGapFreeCmd (s : State) : Result := whileRunning s fun s => s.slotCmd (slotWord 4 0)

/-- A write to `LPE_SLOT_STAT` (R298): SAT clears at expert level only; a standby ignores the write (R311). -/
def State.slotStatWrite (s : State) (w : Word) : State :=
  if s.isStandby || s.expert Blk.LPE then (s.hostReg R.LPE_SLOT_STAT w).1 else s

/-- SAT_CLEAR_WRITE (R298). -/
def execSatClearWrite (s : State) : Result := whileRunning s fun s => s.slotStatWrite 0x80000000#32

/-- Whether a write to `LPE_SLOT_IN`, `LPE_SLOT_AID` or `LPE_SLOT_SP` of the slot shown is taken (R297, R299). -/
def State.slotTakes (s : State) (a : Nat) : Bool :=
  let n := s.slotIdx
  let p := s.loop n
  let regs := Loop.trig p == Trig.PERIODIC || Loop.trig p == Trig.HOST
  if a = R.LPE_SLOT_IN then s.programmed n && (regs || (Loop.trig p == Trig.CASCADE && Loop.kind p == Kind.GENERAL))
  else if a = R.LPE_SLOT_AID then s.programmed n && regs
  else Loop.kind p != Kind.GAP && ((s.outerOf n).isNone || s.expert Blk.LPE)

/-- A write to one of them. -/
def State.slotRegWrite (s : State) (a : Nat) (w : Word) : State :=
  if s.isStandby || s.slotTakes a then (s.hostReg a w).1 else s

end Sys2Proof.Machine
end

