-- ==== Sys2Proof/Machine/Mirror.lean ====
section
/-!
DEFINITION. The mirror at both ends (R309–R314): entering SYNC, applying messages on a standby, sending a snapshot. Messages of live
changes are sent by the operations that make them.
-/

namespace Sys2Proof.Machine

/-- A counter `AHN_CNT`n. -/
def ahnCnt (n : Nat) : Fld := F.AHN_CNT_COUNT.nth n

/-! ## Roles that change -/

/-- What follows a change of role in other blocks: DMU's clocks (R312) and the power figures (R362). -/
def State.roleFollow (s : State) : State := s.dmuClock.powerCheck

/-- SLV keeps its lanes asleep on a standby and holds no bundle (R312). -/
def State.slvRest (s : State) : State :=
  (s.lanesAwake.foldl State.laneSleep s).setSlv fun v => { v with intake := [], toCheck := [], awakeWant := 0 }

/-- The GAP slots serve no pair. -/
def State.gapClear (s : State) : State :=
  let s := (s.gapSlots.filter fun n => s.flagB n F.LPE_SLOT_STAT_ASSIGNED).foldl (fun s n =>
    ((((s.setSlotReg n R.LPE_SLOT_ACC 0).setSlotReg n R.LPE_SLOT_OUT 0).setSlot n LpeSlot.idle).setFldB n F.LPE_SLOT_STAT_ASSIGNED 0).setFldB
      n F.LPE_SLOT_STAT_FORCED 0) s
  { s with lpe := { s.lpe with pairs := [], leadSol := [], follSol := [], queue := s.lpe.queue.filter fun u => u.pair.isNone } }

/-- The mirror is discarded (R310): everything of R309 that is no register. -/
def State.mirrorDiscard (s : State) : State :=
  let s := s.gapClear
  let s := { s with cls := ClsSt.reset, air := { s.air with mach := [], dataDn := [], recs := [], holds := [] } }
  let s := s.setAut fun a => { a with mach := [], sealed := none, onAir := none, stopRepeats := [] }
  let s := s.setSlv fun v => { v with filters := [], rates := [], last := [] }
  s.setDsp fun d => { d with orders := [], freeNext := 0, freeTail := [], flights := [], rest := [], waiting := [] }

/-- A standby asks for a snapshot (R314), counted in `AHN_CNT4`. -/
def State.snapAsk (s : State) : State :=
  ((s.setAhn fun a => { a with snapWanted := true, snapDone := false }).bump (ahnCnt 4)).emit .snapRequest

/-- The module takes SYNC (R313, R314) with event 197, and asks for a snapshot. -/
def State.enterSync (s : State) : State :=
  let s := (s.leaveRole .sync).setAhn fun a => { a with relCause := 0, releaseSeen := 0, planned := 0, handover := false, unacked := [], lagHigh := none }
  (s.mirrorDiscard.slvRest.snapAsk.raise Ev.AHN_BECAME_STANDBY 0).roleFollow.sendHeartbeat

/-- A standby starts again in SYNC; from READY with event 199, whose cause has no encoding in the spec. With `ask`, a snapshot is asked
for; otherwise the module waits for RESYNC (R326). -/
def State.resync (s : State) (ask : Bool) : State :=
  let was := s.ahn.role == .ready
  let s := (s.setAhn fun a => { a with role := .sync, snapDone := false, snapWanted := true, planned := 0, handover := false, unacked := [], lagHigh := none }).mirrorDiscard
  let s := if ask then s.snapAsk else s
  let s := if was then (let r := s.draw; r.2.raise Ev.AHN_STANDBY_NOT_READY (r.1 % 2 ^ 32)) else s
  s.sendHeartbeat

/-! ## Lag (R314) -/

/-- `AHN_MIRROR.LAG_MS`: the age of the oldest message sent and not acknowledged. A standby ages those its partner's heartbeats announced. -/
def State.lagNs (s : State) : Nat :=
  match s.ahn.unacked.head? with
  | some e => s.mono - e.2
  | none => 0
def State.lagMs (s : State) : Nat := s.lagNs / nsPerMs

/-- Since when the lag has been above 500 ms. -/
def State.lagHighAt (s : State) : Option Nat :=
  match s.ahn.lagHigh with
  | some t => some t
  | none => s.ahn.unacked.head?.map fun e => e.2 + 500 * nsPerMs

/-- `q` lies after `ack` in the order of MSEQ. -/
def mseqAfter (q ack : Nat) : Bool := decide (0 < (q + 2 ^ 32 - ack) % 2 ^ 32 ∧ (q + 2 ^ 32 - ack) % 2 ^ 32 < 2 ^ 31)

/-- Everything up to `ack` is acknowledged: by the partner, or by this standby as it applies. -/
def State.lagAcked (s : State) (ack : Nat) : State :=
  let rest := s.ahn.unacked.dropWhile fun e => !mseqAfter e.1 ack
  let high : Option Nat := match rest.head? with
    | some e => if s.mono ≤ e.2 + 500 * nsPerMs then none else s.lagHighAt
    | none => none
  s.setAhn fun a => { a with mseqAck := ack, unacked := rest, lagHigh := high }

/-- A heartbeat tells a standby what its partner has sent. -/
def State.lagHeard (s : State) (tx : Nat) : State :=
  let known := (s.ahn.unacked.getLast?.map Prod.fst).getD s.ahn.mseqAck
  if mseqAfter tx known then s.setAhn fun a => { a with unacked := lagSent s.mono tx a.unacked } else s

/-- A standby in SYNC becomes READY (R314), event 198. -/
def State.readyCheck (s : State) : State :=
  if s.ahn.role == .sync && s.ahn.snapDone && decide (s.lagMs ≤ 100) && s.warden.selfTest then
    ((s.setAhn fun a => { a with role := .ready }).raise Ev.AHN_STANDBY_READY 0).sendHeartbeat
  else s

/-! ## Applying messages (R309–R311) -/

/-- What a GAP slot shows of its pair. -/
def State.gapShow (s : State) (n : Nat) : State :=
  match (s.slot n).pair with
  | none => (s.setFldB n F.LPE_SLOT_PAIR_LEADER 0).setFldB n F.LPE_SLOT_PAIR_FOLLOWER 0
  | some entry =>
    let mis := s.followMis entry
    let s := s.setSlotReg n R.LPE_SLOT_SP ((s.cls.follow.get none entry).map (fun f => (f.sepMm : Int)) |>.getD 0)
    (s.setFldB n F.LPE_SLOT_PAIR_LEADER mis.1).setFldB n F.LPE_SLOT_PAIR_FOLLOWER mis.2

/-- AUTSTATE: the fleet state as the active module holds it. -/
def State.applyAut (s : State) (f : AutFleet) : State :=
  let s := s.setFld F.AUT_DISC_DISC (b2n f.disc)
  let keys := s.aut.mach.keys ++ f.revs.map fun e => e.1
  let mach := keys.foldl (fun m k =>
    let v := m.get AutMach.none k
    match f.revs.find? fun e => e.1 == k with
    | some (_, r, w) => m.set AutMach.none k { v with revoked := r, wait := w }
    | none => m.set AutMach.none k { v with revoked := 0, wait := false }) s.aut.mach
  s.setAut fun a => { a with
    fsLatch := f.fsLatch, fcause := f.fcause, ccause := f.ccause, fsAir := f.fsAir, fsStart := f.fsStart, commaPin := f.commaPin,
    commaAge := f.commaAge, commaRearm := f.commaRearm, commaTest := f.commaTest, rearmAt := f.rearmAt, ageOkSince := f.ageOkSince,
    rearmKey := f.rearmKey, mach := mach }

/-- REGWRITE: the fields the host can write take the values they took on the active module (R311). -/
def State.applyReg (s : State) (addr bank value : Nat) : State :=
  match Regs.descAt addr with
  | none => s
  | some d =>
    let w := BitVec.ofNat 32 value
    let s := (d.fieldsAt ((addr - d.addr) / 4)).foldl (fun s fd =>
      if fd.access == .rw || fd.access == .rwl || fd.access == .w1c then s.setFldB bank fd.fld (fd.fld.get w) else s) s
    if d.addr = R.SLV_MACH_CFG ∧ s.slvValid bank = false then s.slvForget bank else s

/-- What a message carries is applied. A record gives no LIMIT_T and no VMAX: until CLS passes them again VALID_UNTIL and VCEIL of the
record bound what AUT writes. -/
def State.applyBody (s : State) (b : MirrorBody) : State :=
  match b with
  | .clause i c fn ft mi chain =>
    { s with cls := ({ s.cls.setClause i c with freeNext := fn, freeTail := ft } : ClsSt).setChain mi chain }
  | .follow k f =>
    let s := { s with cls := { s.cls with follow := s.cls.follow.set none k f } }
    let old := s.lpe.pairs
    let s := { s with lpe := { s.lpe with pairs := if f.isNone then old.erase k else if old.contains k then old else old ++ [k] } }
    match s.gapSlotOf k with
    | some n => s.gapShow n
    | none => s
  | .token t =>
    let s := s.setAhn fun a => { a with seqKnown := max a.seqKnown t.seq }
    { s with air := { s.air with seqRef := some (s.biOfClause t.btime, t.seq) } }
  | .autState f => s.applyAut f
  | .record r t =>
    s.setAutMach r.mi { s.autMach r.mi with record := some r, written := t, limitT := r.validUntil, vmax := r.vceil, noClause := false }
  | .airMach mi m jctr reg lo hi parent quar =>
    let s := s.setJctr (lo + 2 ^ 32 * hi) jctr
    let s := { s with nand := { s.nand with quarantine := s.nand.quarantine.set none mi (quar.map fun n => s.nand.validNs + n) } }
    let s := ((s.setRegB mi R.AIR_MACH_REG (BitVec.ofNat 32 reg)).setRegB mi R.AIR_MACH_SER_LO (BitVec.ofNat 32 lo)).setRegB mi
      R.AIR_MACH_SER_HI (BitVec.ofNat 32 hi)
    let s := if quar.isSome then s.quarantineClear mi else s
    (s.setRegB mi R.AIR_MACH_PARENT (BitVec.ofNat 32 parent)).setAirM mi { m with lastHeard := s.mono, bundleLen := (s.airM mi).bundleLen, lenKnown := (s.airM mi).lenKnown }
  | .airChan fseq mcs sctr duty =>
    let s := mcs.foldl (fun s e => s.setFldB e.1 F.AIR_MOD_WIDE_DL_MCS e.2) s
    { s with nand := { s.nand with sndCtr := sctr }, air := { s.air with fseq := fseq, duty := duty } }
  | .refPos p => if p.length = 6 then s.holdPositions (some (p.take 3)) (some (p.drop 3)) else s.holdPositions none none
  | .regWrite addr bank value => s.applyReg addr bank value
  | .soft bytes => if s.flag F.AHN_SW_EN then (s.ringPut (s.fld F.AHN_SW_RX_RING) Blk.AHN bytes).1 else s
  | .gap n pair acc out =>
    let s := ((s.setSlot n { s.slot n with pair := pair }).setSlotReg n R.LPE_SLOT_ACC acc).setSlotReg n R.LPE_SLOT_OUT out
    (s.setFldB n F.LPE_SLOT_STAT_ASSIGNED (b2n pair.isSome)).gapShow n
  | .filter mi f => s.setFilter mi f
  | .solution r => s.setSlv fun v => { v with last := v.last.set none r.mi (some r) }
  | .rate mi r => s.setSlvRate mi r
  | .meter m t => s.setDmu fun d => { d with m := m, last := t, lastHours := s.bkp.hours }
  | .order i o fn ft => s.setDsp fun d => { d with orders := d.orders.set Order.free i o, freeNext := fn, freeTail := ft, seq := max d.seq (o.seq + 1) }
  | .dspList mi cfg done => (s.applyReg R.DSP_MACH_CFG mi cfg).setFldB mi F.DSP_MACH_CFG_DONE done
  | .snapEnd => s.setAhn fun a => { a with snapDone := true }
  | .handover => s.setAhn fun a => { a with handover := true }

/-- The fleet state follows what was applied; a standby raises none of its events. -/
def State.tenseFollow (s : State) : State := s.setAut fun a => { a with tense := s.fleetState }

/-- A message in its order. -/
def State.mirrorApply (s : State) (m : MirrorMsg) : State :=
  let s := (s.applyBody m.body).tenseFollow
  (s.lagAcked m.mseq).readyCheck

/-- A message at a standby (R310, R326): until the snapshot begins only its MSEQ is taken; afterwards a gap discards the mirror. -/
def State.mirrorRx (s : State) (m : MirrorMsg) : State :=
  if s.ahn.snapWanted then
    if m.snap then (s.setAhn fun a => { a with snapWanted := false }).mirrorApply m
    else s.lagAcked m.mseq
  else if m.mseq = (s.ahn.mseqAck + 1) % 2 ^ 32 then s.mirrorApply m
  else s.resync (!s.expert Blk.AHN)

/-! ## Snapshots (R314) -/

/-- How many entries a register shows: those its index register can name, 1 without one. -/
def RegDesc.entries (d : RegDesc) : Nat :=
  match d.bank with
  | none => 1
  | some f =>
    match (((Regs.descAt f.addr).map RegDesc.fields).getD []).find? fun fd => fd.fld == f with
    | some fd =>
      match fd.range with
      | .within _ hi => hi + 1
      | _ => f.max + 1
    | none => f.max + 1

/-- Every mirrored register, each entry of it, with its value. -/
def State.snapRegs (s : State) : List (Nat × Nat × Nat) :=
  (Regs.table.filter mirroredReg).flatMap fun d => (List.range d.count).flatMap fun n => (List.range d.entries).map fun b =>
    (d.addr + 4 * n, b, (s.regB b (d.addr + 4 * n)).toNat)

/-- Copies of every item of R309 in its present state, with SNAP set, then SNAP_END. -/
def State.snapshot (s : State) : State :=
  let s := s.snapRegs.foldl (fun s e => s.mirror e.1 (.regWrite e.1 e.2.1 e.2.2) true) s
  let s := s.cls.clauses.keys.foldl (fun s i => s.mirrorClause i (s.cls.clause i).mi true) s
  let s := s.cls.follow.keys.foldl (fun s k => s.mirrorFollow k true) s
  let s := (s.slv.filters.map Prod.fst).foldl (fun s mi => s.mirror mi (.filter mi (s.slvFilter mi)) true) s
  let s := s.slv.last.foldl (fun s e => match e.2 with
    | some r => s.mirror e.1 (.solution r) true
    | none => s) s
  let s := (s.slv.rates.map Prod.fst).foldl (fun s mi => s.mirror mi (.rate mi (s.slvRate mi)) true) s
  let s := match s.aut.sealed with
    | some b => s.mirror 0 (.token b) true
    | none => s
  let s := s.autMirror true
  let s := s.aut.mach.foldl (fun s e => match e.2.record with
    | some r => s.mirror e.1 (.record r e.2.written) true
    | none => s) s
  let s := s.airMis.foldl (fun s mi => s.airMachMirror mi true) s
  let s := s.airChanMirror true
  let s := s.dsp.orders.foldl (fun s e => s.mirror e.1 (.order e.1 e.2 s.dsp.freeNext s.dsp.freeTail) true) s
  let s := ((List.range 2048).filter fun mi => s.regB mi R.DSP_MACH_CFG != 0).foldl (fun s mi =>
    s.mirror mi (.dspList mi (s.regB mi R.DSP_MACH_CFG).toNat (s.fldB mi F.DSP_MACH_CFG_DONE)) true) s
  let s := (s.gapSlots.filter fun n => s.flagB n F.LPE_SLOT_STAT_ASSIGNED).foldl (fun s n =>
    s.mirror n (.gap n (s.slot n).pair (s.slotReg n R.LPE_SLOT_ACC) (s.slotReg n R.LPE_SLOT_OUT)) true) s
  let s := s.meterMirror true
  let s := s.mirror 0 (.refPos (s.nand.heldA.getD [] ++ s.nand.heldB.getD [])) true
  s.mirror 0 .snapEnd true

end Sys2Proof.Machine
end

