-- ==== Sys2Proof/Machine/Partner.lean ====
section
/-!
DEFINITION. AHN (R302–R329) with the beacon slot (R82, R217, R224) and the Warden's commands (R101, R102): the link, heartbeats, claims,
takeovers, planned swaps, the token path test.
-/

namespace Sys2Proof.Machine

/-! ## Results of commands (R321) -/

/-- `AHN_SWAP.RESULT`. -/
def State.swapResult (s : State) (r : Nat) : State := s.setFld F.AHN_SWAP_RESULT r

/-- A swap or command is refused: RESULT, event 201, `AHN_CNT3`. -/
def State.swapRefuse (s : State) (r : Nat) : State := ((s.swapResult r).bump (ahnCnt 3)).raise Ev.AHN_SWAP_REFUSED r

/-- The hold after a cooperative swap or refusal still runs (R317). -/
def State.coopHeld (s : State) : Bool :=
  match s.ahn.coopHold with
  | some t => decide (s.mono < t + s.fld F.AHN_CFG_SWAP_HOLD_S * nsPerSec)
  | none => false

/-- The partner's SLOT_ID, as its last heartbeat or HELLO gives it. -/
def State.partnerSlot (s : State) : Option Nat :=
  match s.ahn.hb with
  | some h => some h.slot
  | none => s.ahn.hello.map Hello.slot

/-- The highest SEQ a standby knows goes to its store (R318), where it exceeds what stands there. -/
def State.seqKeep (s : State) : State :=
  if s.keys.seqStore.getD 0 < s.ahn.seqKnown then s.storeSeq s.ahn.seqKnown else s

/-! ## AUT starts (R84, R95) -/

/-- The COMMA source that is active now, by CAUSE (R83), of those no mirror carries. -/
def State.commaLive (s : State) : Nat :=
  if s.flag F.AUT_COMMA_PIN_EN && s.pins.commaLow then 0x10 else if s.flag F.AUT_COMMA_HOST then 0x11 else if s.refTooOld then 0x12 else 0

/-- AUT starts with SEQ `seq`: FULL STOP with CAUSE START. -/
def State.autStart (s : State) (seq : Nat) : State :=
  let s := s.setAut fun a => { AutSt.reset with
    mach := a.mach, takeover := a.takeover, refAt := a.refAt, ageOkSince := a.ageOkSince, lastSeq := a.lastSeq, openSeq := a.openSeq,
    seq := seq % 2 ^ 48, fsLatch := true, fsStart := true, fcause := 5, commaPin := s.flag F.AUT_COMMA_PIN_EN && s.pins.commaLow, commaAge := s.refTooOld,
    ccause := s.commaLive }
  let s := { s with warden := { s.warden with renewed := false, seq := none, strobeFails := 0, lastKick := s.mono } }
  (s.setAut fun a => { a with tense := s.fleetState }).raise Ev.AUT_FULL_STOP 5

/-- The SEQ at which AUT resumes from its store (R84). -/
def State.storedSeq (s : State) : Nat := s.keys.seqStore.getD 0 + 4096

/-! ## Claims (R304, R313) -/

/-- ROLE_OUT_N goes low; the sample comes 2 µs later. `cause`: of the takeover, 0 for a claim by R313. -/
def State.claimRole (s : State) (cause : Nat) : State := (s.driveRole true).setAhn fun a => { a with claim := some (s.mono, cause) }

/-- A claim is held back by ROLE_IN_N: counted, with event 204, once until the line rises. -/
def State.claimHeld (s : State) : State :=
  if s.ahn.interlock then s
  else (((s.setAhn fun a => { a with interlock := true }).bump (ahnCnt 5)).raise Ev.AHN_INTERLOCK 0)

/-- The Ahnob link serves AHN. -/
def State.ahnLink (s : State) : Bool := s.blkOn Blk.AHN && s.ahn.linkUp

/-- A second has passed since AUT was enabled without a valid beacon of the module's own pair. -/
def State.airSilent (s : State) : Bool :=
  s.passed (max s.ahn.roleSince (s.air.pairHeardAt.getD 0)) nsPerSec

/-- The decision of R313; a module that holds a role keeps it. No role is claimed during a whole-module test (R366) or a removal
(R379). -/
def State.roleClaim (s : State) : State :=
  if !s.blkOn Blk.AUT || s.ahn.role != .none || s.ahn.claim.isSome || s.pwr.whole == .running || s.hpg.ejectAt.isSome then s
  else if s.ahnLink then
    match s.ahn.hb with
    | some h =>
      if !s.ahn.hbOk then s
      else if h.role == .active then (s.enterSync).seqKeep
      else if s.ahn.mismatch || h.role == .failed then s
      else if h.slot < s.pins.slotId then s.enterSync.seqKeep
      else if s.pins.roleInLow then s.claimHeld
      else s.claimRole 0
    | none => s
  else if !s.pins.roleInLow && s.airSilent then s.claimRole 0
  else s

/-! ## Becoming active (R316, R318) -/

/-- The module's own stop inputs and sources apply at once. -/
def State.ownSources (s : State) : State :=
  let s := if s.pins.stopALow then s.fsSource 0x01 else s
  let s := if s.pins.stopBLow then s.fsSource 0x02 else s
  let s := if s.flag F.AUT_FSTOP_HOST then s.fsSource 0x03 else s
  let s := if s.flag F.AUT_DISC_DISC && !s.aut.fsLatch then (let r := s.draw; r.2.fsSource (r.1 % 256)) else s
  let s := if s.flag F.AUT_COMMA_PIN_EN && s.pins.commaLow && !s.aut.commaPin then
    s.commaSource 0x10 fun a => { a with commaPin := true } else s
  s.autSettle

/-- What the other blocks do when the module becomes active: lanes wake, OFFERED orders go out again, mirrored records are sent in the
next burst, DMU drives its clocks and owes a TAKEOVER_GAP record. -/
def State.activeBlocks (s : State) (takeover : Bool) : State :=
  let recs := s.aut.mach.filterMap fun e => e.2.record.map fun r => (r, e.2.written)
  let s := if takeover then { s with air := { s.air with recs := recs } } else s
  let s := if s.blkOn Blk.SLV && !s.expert Blk.SLV then s.setSlv fun v => { v with awakeWant := s.awakePlan } else s
  let s := if s.blkOn Blk.SLV then s.slvLanes else s
  let s := if takeover then s.dspTakeover else s
  let s := if takeover && s.blkOn Blk.DMU then s.setDmu fun d => { d with gap := some (d.last, d.lastHours) } else s
  s.roleFollow

/-- The SEQ of the first slot after a takeover (R318). -/
def State.takeoverSeq (s : State) : Nat := max (s.ahn.seqKnown + 1000) s.storedSeq

/-- A standby has taken the role for `cause`. -/
def State.tookOver (s : State) (cause : Nat) (was : Role) : State :=
  let q := s.takeoverSeq
  let s := if was == .ready then s.setAut fun a => { a with seq := q % 2 ^ 48, sealed := none, onAir := none } else s.autStart q
  let s := s.storeSeq q
  let s := (s.setFld F.AHN_SWAP_COUNT (s.fld F.AHN_SWAP_COUNT + 1)).setFld F.AHN_SWAP_LAST_CAUSE cause
  let s := s.setFld F.AHN_SWAP_MISSED (min 15 (s.fld F.AIR_MON_MISS_RUN))
  let s := if s.fld F.AHN_SWAP_RESULT = 1 then s.swapResult 2 else s
  let s := if was == .ready then s.ownSources else s
  let s := s.activeBlocks true
  let s := if cause = 1 || cause = 2 || cause = 7 then s.raise Ev.AHN_SWAP_DONE 0 else s
  if cause = 7 then s.setAhn fun a => { a with coopHold := some s.mono } else s

/-- The sample found ROLE_IN_N high: the role is ACTIVE, event 196. A module that claimed alone runs AUT from FULL STOP with CAUSE START;
its SEQ lies above any it heard. -/
def State.becomeActive (s : State) (cause : Nat) : State :=
  let was := s.ahn.role
  let s := s.setAhn fun a => { a with
    role := .active, roleSince := s.roleTime .active, claim := none, releaseSeen := 0, planned := 0, handover := false, unacked := [], lagHigh := none,
    interlock := false, splitHeard := false, snapWanted := false, swapReq := 0, swapTest := false, swapAck := false, relCause := 0, test := none }
  let s := { s with warden := { s.warden with seq := none } }
  let s := (s.setAut fun a => { a with takeover := true, openSeq := max a.openSeq s.ahn.seqKnown }).raise Ev.AHN_BECAME_ACTIVE cause
  if was == .sync || was == .ready then (s.tookOver cause was).sendHeartbeat
  else
    let s := s.setAut fun a => { a with seq := if s.ahn.seqKnown = 0 then a.seq else max a.seq (s.takeoverSeq % 2 ^ 48) }
    let s := if s.ahnLink then s else ((s.setAut fun a => { a with fsStart := true }).fsSource 5)
    (s.ownSources.activeBlocks false).sendHeartbeat

/-- CLAIM_SAMPLE (R304, R325): with ROLE_IN_N low both have claimed; the higher SLOT_ID, or a module that knows no partner, releases
and takes SYNC, NONE with the link down; the lower keeps the line and samples again. -/
def execClaimSample (s : State) : Result :=
  whileRunning s fun s =>
    match s.ahn.claim with
    | none => s
    | some (t, cause) =>
      if !s.passed t 2000 then s
      else if !s.pins.roleInLow then s.becomeActive cause
      else
        let s := s.claimHeld
        let keep : Bool := match s.partnerSlot with
          | some p => decide (s.pins.slotId < p)
          | none => false
        if keep then s.setAhn fun a => { a with claim := some (s.mono, cause) }
        else if s.ahnLink then s.enterSync.seqKeep
        else (s.leaveRole .none).roleFollow

/-- ROLE_CLAIM (R313). -/
def execRoleClaim (s : State) : Result := whileRunning s fun s => if s.pins.roleInLow then s.roleClaim else (s.setAhn fun a => { a with interlock := false }).roleClaim

/-! ## The link (R306, R307) -/

/-- The module's own HELLO. -/
def State.ownHello (s : State) : Hello :=
  let img := s.sim.applied.getD []
  { slot := s.pins.slotId, serial := (s.reg R.GLB_SERIAL_LO).toNat + 2 ^ 32 * (s.reg R.GLB_SERIAL_HI).toNat, pairTag := s.pairTag,
    pairId := s.fld F.AIR_CFG_PAIR_ID, originX := Bytes.at' img 24 8, originY := Bytes.at' img 32 8, originZ := Bytes.at' img 40 8,
    siteEpoch := imgEpoch img }

/-- A partner's HELLO fails R307: PAIR_TAG, origin or epoch differ, PAIR_ID differs, or the SLOT_ID is the same. -/
def Hello.fails (own h : Hello) : Bool :=
  h.pairTag != own.pairTag || h.originX != own.originX || h.originY != own.originY || h.originZ != own.originZ
    || h.siteEpoch != own.siteEpoch || h.pairId != own.pairId || h.slot == own.slot

/-- The comparisons of R307 with the partner's HELLO, event 206 when MISMATCH is set. -/
def State.helloCompare (s : State) : State :=
  match s.ahn.hello with
  | none => s
  | some h =>
    let bad := s.blkOn Blk.AHN && Hello.fails s.ownHello h
    let was := s.ahn.mismatch
    let s := s.setAhn fun a => { a with mismatch := bad }
    if bad && !was then s.raise Ev.AHN_PARTNER_MISMATCH 0 else s

/-- A key message gives the partner BGEN (R416), under the pair link key. -/
def State.keyTell (s : State) : State :=
  match s.linkSealed (Bytes.ofNat 2 s.keys.bgen) with
  | some m => if s.ahn.linkUp then s.emit (.keyMsg 0 m) else s
  | none => s

/-- AHNOB_LINK_UP (R307): both sides have accepted a HELLO; `hello` is the partner's. A BGEN renewed while the link was down goes to the partner now (R426). -/
def execAhnobLinkUp (hello : Hello) (s : State) : Result :=
  whileRunning s fun s =>
    if s.ahn.linkUp then s
    else
      let s := s.setAhn fun a => { a with linkUp := true, hello := some hello }
      (((s.emit (.hello s.ownHello)).raise Ev.AHN_LINK_UP 0).helloCompare).keyTell

/-- HELLO_RX (R307). -/
def execHelloRx (hello : Hello) (s : State) : Result :=
  whileRunning s fun s => (s.setAhn fun a => { a with hello := some hello }).helloCompare

/-- An enrolment ends (R415): RESULT, BUSY and event 218, with KEY's refusal code where it is refused. -/
def State.enrolEnd (s : State) (refusal : Option Nat) : State :=
  let s := { s with key := { s.key with enrol := none } }
  let s := match refusal with
    | some r => s.refuse Blk.KEY r 0
    | none => s
  let r := if refusal.isNone then 1 else 2
  ((s.setFld F.KEY_STATUS_BUSY 0).setFld F.KEY_STATUS_RESULT r).raise Ev.KEY_PAIR_ENROL r

/-- AHNOB_LINK_DOWN (R307); an enrolment is refused with 0x4821 (R426). -/
def execAhnobLinkDown (s : State) : Result :=
  whileRunning s fun s =>
    if !s.ahn.linkUp then s
    else
      let s := (s.setAhn fun a => { a with linkUp := false, mismatch := false }).raise Ev.AHN_LINK_DOWN 0
      if s.key.enrol.isSome then s.enrolEnd (some 0x21) else s

/-! ## The beacon slot (R82, R217, R224) -/

/-- The quiet window of the present BI has passed: TB + 1 ms (R218). -/
def State.missDue (s : State) : Bool :=
  decide (((s.modemsOf Phy.NARROW).map fun m => s.beaconNs m + nsPerMs).foldl max 0 ≤ s.biPos)

/-- The slot of BI `bi` is counted heard or missed, once (R224); event 146 at three misses on a standby. -/
def State.missSlot (s : State) (bi : Nat) : State :=
  if !s.blkOn Blk.AIR || decide (bi < s.air.missBi) then s
  else
    let heard := s.air.heardNow
    let n := if heard then 0 else min 255 (s.fld F.AIR_MON_MISS_RUN + 1)
    let s := { s with air := { s.air with heardNow := false, missBi := bi + 1 } }
    let s := (s.setFld F.AIR_MON_MISS_RUN n).setFld F.AIR_MON_HEARD (b2n heard)
    if n = 3 && s.isStandby then s.raise Ev.AIR_ACTIVE_BEACON_MISSED 0 else s

/-- The automatic cooperative request (R317, R326). -/
def State.coopAsk (s : State) : State :=
  if s.ahn.role == .ready && !s.expert Blk.AHN && s.flag F.AHN_CFG_COOP_EN && s.ahn.hbOk && decide (3 ≤ s.fld F.AIR_MON_MISS_RUN)
      && !s.coopHeld && s.ahn.swapReq == 0 && s.ahn.planned == 0 then
    (s.setAhn fun a => { a with swapReq := 7, swapTest := false }).sendHeartbeat
  else s

/-- The present slot is counted once its window has closed. -/
def State.missNow (s : State) : State := if s.missDue then (s.missSlot s.biCount).coopAsk else s

/-- The 3 bytes before the token block (R217) on control modem `m`. -/
def State.beaconHead (s : State) (m : Nat) : List Byte :=
  let n := (s.modemsOf Phy.NARROW).length
  Bytes.ofNat 1 (s.modemIndex m % 16 + 16 * (n - 1)) ++ Bytes.ofNat 1 ((s.wideUp.map fun w => 2 ^ w).sum)
    ++ Bytes.ofNat 1 (b2n s.aut.takeover)

/-- The beacon goes out on every control channel, its preamble at the slot opening; one that starts more than 1 µs after it raises event 140. -/
def State.sendBeacon (s : State) (b : TokenBlock) : State :=
  let ms := s.controlUp
  let sent := s.airTransmits && !ms.isEmpty
  let at' := if s.biPos ≤ 1000 then s.tai - s.biPos else align5 s.tai
  let s' := ms.foldl (fun s m => s.airPut m 0 at' (s.airFrame Ft.BEACON none (b.seq % 65536) 0 (s.beaconHead m ++ b.bytes))) s
  let s' := if sent && decide (1000 < s.biPos) then s'.raise Ev.AIR_BEACON_LATE 0 else s'
  let s' := s'.setAut fun a => { a with takeover := a.takeover && !sent }
  if sent && b.tense != Tense.RUN && s'.pwr.whole == .waitBeacon then { s' with pwr := { s'.pwr with whole := .waitSecond s'.mono } } else s'

/-- BEACON_SLOT_OPEN (R217, R224): the slot before is counted, the sealed block goes on air, the permit of the slot is spent. A standby keeps the SEQ it knows every 1,024 slots (R318). -/
def execBeaconSlotOpen (s : State) : Result :=
  whileRunning s fun s =>
    let s := if s.biCount = 0 then s else s.missSlot (s.biCount - 1)
    let s := { s with warden := { s.warden with renewed := false } }
    let s := if s.isStandby && s.biCount % 1024 == 0 then s.seqKeep else s
    if !s.isActive || !s.blkOn Blk.AUT then s
    else
      let b := s.aut.sealed
      let s := s.setAut fun a => { a with openSeq := a.lastSeq, onAir := b, sealed := none }
      let s := { s with air := { s.air with seqRef := some (s.biCount, s.aut.lastSeq), cover := b.map TokenBlock.cover } }
      match b with
      | none => s
      | some b =>
        let s := s.setAut fun a => { a with onAirUntil := s.mono + (s.controlUp.map s.beaconNs).foldl max 0 }
        s.sendBeacon b

/-- PARTNER_BEACON_RX (R224, R318, R323). -/
def execPartnerBeaconRx (rx : AirRx) (s : State) : Result :=
  whileOn s Blk.AIR fun s =>
    let f := s.rxFrame rx
    if f.src = s.airAddr ∨ f.src < 0xFF00 ∨ 0xFF0F < f.src ∨ f.ftype ≠ Ft.BEACON ∨ s.wideRx rx then s
    else
      match s.airCheck rx with
      | (s, false) => s
      | (s, true) =>
        let slot := f.src - 0xFF00
        let seq := Bytes.at' f.payload 5 6
        let s := (({ s with air := { s.air with pairHeardAt := some s.mono, heardNow := true } }).setFld F.AIR_MON_HEARD_SLOT slot)
        let s := s.setAhn fun a => { a with seqKnown := max a.seqKnown seq }
        if s.isActive then
          let s := { s with air := { s.air with splitAt := some s.mono } }
          (s.setAhn fun a => { a with splitHeard := a.splitHeard || decide (slot < s.pins.slotId) }).raise Ev.AIR_SAME_PAIR_BEACON 0
        else { s with air := { s.air with seqRef := some (s.rxBi rx, seq) } }

/-! ## Heartbeats (R308) -/

/-- One message of the software channel goes out: an entry of TX_RING; one longer than 4,096 bytes is taken and not sent. -/
def State.softSend (s : State) : State :=
  if !s.flag F.AHN_SW_EN || !s.ahnLink || s.ahn.mismatch then s
  else
    match s.ringTake (s.fld F.AHN_SW_TX_RING) dirIn with
    | (s, some b) =>
      if 4096 < b.length then s
      else
        let q := (s.ahn.mseqTx + 1) % 2 ^ 32
        (s.setAhn fun a => { a with mseqTx := q, unacked := if s.isActive then lagSent s.mono q a.unacked else a.unacked }).emit
          (.mirror ⟨false, q, 0, .soft b⟩)
    | (s, none) => s

/-- HEARTBEAT_TX (R308). -/
def execHeartbeatTx (s : State) : Result :=
  whileOn s Blk.AHN fun s =>
    (s.missNow.sendHeartbeat.setAhn fun a => { a with swapAck := false, swapNak := false }).softSend

/-- The start of the token path test (R322). -/
def State.tokenTest (s : State) (thenSwap : Bool) : State :=
  if s.ahn.test.isSome then s else s.setAhn fun a => { a with test := some s.mono, testThenSwap := thenSwap }

/-- The active module answers a SWAP_REQ of its standby (R317, R320). -/
def State.swapAsked (s : State) (hb : Heartbeat) : State :=
  if s.ahn.swapNak || hb.role != .ready then s
  else if s.ahn.swap.isSome || s.ahn.swapOk != 0 then s.setAhn fun a => { a with swapAck := true }
  else
    let refuse (s : State) (r : Nat) : State := (s.swapRefuse r).setAhn fun a => { a with swapNak := true, coopHold := if r = 6 then some s.mono else a.coopHold }
    if hb.cause = 7 then
      if s.coopHeld then refuse s 5
      else if hb.ctrlUp < s.controlUp.length then refuse s 6
      else s.setAhn fun a => { a with swapAck := true, swapOk := 7 }
    else s.setAhn fun a => { a with swapAck := true, swapOk := hb.cause }

/-- The active module drops a swap or request whose standby is no longer READY (R325). -/
def State.swapDrop (s : State) (r : Nat) : State :=
  (s.setAhn fun a => { a with swap := none, swapReq := 0, swapTest := false, swapOk := 0 }).swapRefuse r

/-- The swap side of a heartbeat at the active module. -/
def State.swapActive (s : State) (hb : Heartbeat) : State :=
  let s := if hb.swapReq then s.swapAsked hb else s
  let handed : Bool := match s.ahn.swap with
    | some w => w.sent
    | none => false
  if hb.swapNak && s.ahn.swapReq != 0 then s.swapDrop (if s.ahn.swapTest then 4 else 3)
  else if hb.role != .ready && !handed && (s.ahn.swapReq != 0 || s.ahn.swap.isSome || s.ahn.swapOk != 0) then s.swapDrop 3
  else if hb.swapAck && s.ahn.swapReq != 0 then
    s.setAhn fun a => { a with swapOk := if a.swapTest then a.swapReq else a.swapOk, swapReq := 0, swapTest := false }
  else s

/-- The swap side of a heartbeat at a standby. -/
def State.swapStandby (s : State) (hb : Heartbeat) : State :=
  let s :=
    if !hb.swapReq then s
    else if s.ahn.role != .ready then s.setAhn fun a => { a with swapNak := true }
    else if hb.swapTest then (if s.ahn.planned == 0 then s.tokenTest true else s.setAhn fun a => { a with swapAck := true })
    else s.setAhn fun a => { a with swapAck := true, planned := hb.cause }
  if s.ahn.swapReq = 0 then s
  else if hb.swapAck then s.setAhn fun a => { a with planned := a.swapReq, swapReq := 0 }
  else if hb.swapNak then
    let asked := s.ahn.swapReq
    let s := s.setAhn fun a => { a with swapReq := 0, coopHold := if asked = 7 then some s.mono else a.coopHold }
    if s.fld F.AHN_SWAP_RESULT = 1 then s.swapRefuse (if asked = 7 then 6 else 3) else s
  else s

/-- A trigger ends the whole-module test of a standby at once (R366). -/
def State.wholeStop (s : State) : State :=
  if s.isStandby && s.pwr.whole == .running then { s with pwr := { s.pwr with whole := .idle } }.testStat 5 5 0 0 else s

/-- A valid heartbeat is taken. -/
def State.hbTake (s : State) (hb : Heartbeat) : State :=
  let rose := !s.ahn.hbOk
  let old := s.ahn.hb
  let bad (h : Heartbeat) : Bool := h.fault || h.role == .failed
  let wasBad := !rose && (old.map bad).getD false
  let newActive := hb.role == .active && (old.map fun h => h.role != .active).getD true
  let s := s.setAhn fun a => { a with hb := some hb, hbAt := s.mono, hbOk := true, seqKnown := if hb.role == .active then max a.seqKnown hb.seq else a.seqKnown }
  let s := if rose then s.raise Ev.AHN_HB_RESTORED 0 else s
  let s := if bad hb && !wasBad then s.raise Ev.AHN_PARTNER_FAULT 0 else s
  let s := if s.ahn.mismatch then s
    else if s.isStandby then
      let s := if hb.release then (s.setAhn fun a => { a with releaseSeen := hb.cause }).wholeStop else s
      let s := if rose then s.resync true else if newActive && s.ahn.snapWanted then s.snapAsk else s
      ((s.lagHeard hb.mseqTx).readyCheck).swapStandby hb
    else if s.isActive then (s.lagAcked hb.mseqAck).swapActive hb
    else s
  if rose then s.roleClaim else s

/-- HEARTBEAT_RX (R306, R308): `crcOk` is the outcome of the frame's CRC; the CMAC is checked, and the PAIR_ID. -/
def execHeartbeatRx (rx : HeartbeatRx) (crcOk : Bool) (s : State) : Result :=
  whileOn s Blk.AHN fun s =>
    if !s.ahn.linkUp then s
    else match s.heartbeatOf rx.msg rx.test with
      | some hb =>
        if !crcOk then s.bump (ahnCnt 1)
        else if hb.pairId != s.fld F.AIR_CFG_PAIR_ID then s
        else s.hbTake hb
      | none => s.bump (ahnCnt 1)

/-- HEARTBEAT_LOSS (R308): no valid heartbeat for HB_LOSS_MS. -/
def execHeartbeatLoss (s : State) : Result :=
  whileOn s Blk.AHN fun s =>
    if !s.ahn.hbOk || !s.passed s.ahn.hbAt (s.fld F.AHN_CFG_HB_LOSS_MS * nsPerMs) then s
    else
      let s := (((s.setAhn fun a => { a with hbOk := false }).bump (ahnCnt 0)).raise Ev.AHN_HB_LOST 0)
      let s := match s.ahn.swap with
        | some w => if s.isActive && !w.sent then s.swapDrop 3 else s
        | none => s
      s.roleClaim

/-! ## The mirror's commands (R310, R314) -/

/-- MIRROR_MESSAGE_RX (R310): `ok` is the outcome of its CMAC. A standby applies it; a message of the software channel reaches either
module. During a whole-module test a standby receives none (R366). -/
def execMirrorMessageRx (m : MirrorMsg) (ok : Bool) (s : State) : Result :=
  whileOn s Blk.AHN fun s =>
    if !s.ahn.linkUp || s.ahn.mismatch || s.pwr.whole == .running then s
    else if !ok then
      let s := s.bump (ahnCnt 1)
      if s.isStandby then s.resync (!s.expert Blk.AHN) else s
    else if s.isStandby then s.mirrorRx m
    else match m.body with
      | .soft _ => s.applyBody m.body
      | _ => s

/-- SNAPSHOT_REQUEST_RX (R314). -/
def execSnapshotRequestRx (s : State) : Result :=
  whileOn s Blk.AHN fun s => if s.isActive && s.ahn.linkUp && !s.ahn.mismatch then s.snapshot else s

/-- MIRROR_LAG_LIMIT (R314): LAG_MS has been above 500 ms for 1 s. -/
def execMirrorLagLimit (s : State) : Result :=
  whileOn s Blk.AHN fun s =>
    if s.ahn.role == .ready && decide (500 * nsPerMs < s.lagNs) && (match s.lagHighAt with
        | some t => s.passed t nsPerSec
        | none => false) then s.resync true else s

/-! ## Decisions (R315, R316, R323) -/

/-- The trigger that holds on a standby, by LAST_CAUSE; 0 for none. A planned swap holds once the role line has risen, or HANDOVER
has been applied. -/
def State.trigger (s : State) : Nat :=
  if s.ahn.releaseSeen != 0 then s.ahn.releaseSeen
  else if s.ahn.role == .ready && s.ahn.planned != 0 && (s.ahn.handover || !s.pins.roleInLow) then s.ahn.planned
  else if !s.ahn.hbOk && decide (3 ≤ s.fld F.AIR_MON_MISS_RUN) then 6
  else 0

/-- An active module yields (R323). -/
def State.yieldRole (s : State) : State :=
  let s := ((s.setAhn fun a => { a with splitHeard := false }).setFld F.AHN_SWAP_LAST_CAUSE 8).raise Ev.AHN_YIELDED 0
  if s.ahnLink then s.enterSync else ((s.leaveRole .none).roleFollow).sendHeartbeat

/-- DECISION_MOMENT (R316, R323): 2 ms before a slot. -/
def execDecisionMoment (s : State) : Result :=
  whileOn s Blk.AUT fun s =>
    let s := s.missSlot s.biCount
    if s.isActive then if s.ahn.splitHeard then s.yieldRole else s
    else if !s.isStandby || s.ahn.claim.isSome then s
    else
      let t := s.trigger
      let s := if t = 0 then s else s.wholeStop
      if t = 0 then s.coopAsk
      else if s.pins.roleInLow then s.claimHeld
      else (s.setAhn fun a => { a with releaseSeen := 0 }).claimRole t

/-! ## Commands (R315, R320–R322, R326) -/

/-- SWAP. -/
def State.cmdSwap (s : State) (notest : Bool) : State :=
  if s.isActive then
    if s.ahn.swap.isSome || s.ahn.swapOk != 0 || s.ahn.swapReq != 0 then s
    else if !s.partnerReady then s.swapRefuse 3
    else if notest then (s.swapResult 1).setAhn fun a => { a with swapOk := 1 }
    else ((s.swapResult 1).setAhn fun a => { a with swapReq := 1, swapTest := true }).sendHeartbeat
  else if s.ahn.role != .ready then s.swapRefuse 7
  else if s.ahn.swapReq != 0 || s.ahn.planned != 0 || s.ahn.test.isSome then s
  else if s.expert Blk.AHN && s.ahn.hbOk && decide (3 ≤ s.fld F.AIR_MON_MISS_RUN) then
    if s.coopHeld then s.swapRefuse 5 else ((s.swapResult 1).setAhn fun a => { a with swapReq := 7 }).sendHeartbeat
  else if notest then ((s.swapResult 1).setAhn fun a => { a with swapReq := 1 }).sendHeartbeat
  else (s.swapResult 1).tokenTest true

/-- RELEASE. -/
def State.cmdRelease (s : State) : State :=
  if s.isActive && s.partnerStandby then ((s.release 5).swapResult 2).roleFollow else s.swapRefuse 7

/-- RESYNC. -/
def State.cmdResync (s : State) : State := if s.isStandby then (s.resync true).swapResult 2 else s.swapRefuse 7

/-- TEST. -/
def State.cmdTest (s : State) : State :=
  if s.ahn.role != .ready then s.swapRefuse 7
  else if s.ahn.test.isSome then s
  else (s.swapResult 1).tokenTest false

/-- A write to `AHN_CMD`. -/
def State.ahnCmd (s : State) (w : Word) : State :=
  if !s.blkOn Blk.AHN then s
  else
    match F.AHN_CMD_OP.get w with
    | 1 => s.cmdSwap (F.AHN_CMD_NOTEST.get w == 1)
    | 2 => s.cmdRelease
    | 3 => s.cmdResync
    | 4 => s.cmdTest
    | _ => s

/-- AHN_SWAP, AHN_RELEASE, RESYNC and TOKEN_PATH_TEST: operations of `AHN_CMD` (R320, R322, R327). -/
def execAhnSwap (notest : Bool) (s : State) : Result := whileOn s Blk.AHN fun s => s.cmdSwap notest
/-- AHN_RELEASE (R315). -/
def execAhnRelease (s : State) : Result := whileOn s Blk.AHN State.cmdRelease
/-- RESYNC (R326). -/
def execResync (s : State) : Result := whileOn s Blk.AHN State.cmdResync
/-- TOKEN_PATH_TEST (R322). -/
def execTokenPathTest (s : State) : Result := whileOn s Blk.AHN State.cmdTest

/-- The result of a token path test: `AHN_SWAP.TEST` and event 202, logged when it fails. -/
def State.testShow (s : State) (pass : Bool) : State :=
  let r := if pass then 1 else 2
  ((s.setAhn fun a => { a with test := none }).setFld F.AHN_SWAP_TEST r).raiseWith Ev.AHN_TOKEN_TEST r [] (!pass)

/-- The active module has asked for the test. -/
def State.testAsked (s : State) : Bool := (s.ahn.hb.map fun h => h.swapReq && h.swapTest).getD false

/-- TOKEN_TEST_END (R322): three BIs after its start. A failure makes the standby FAILED; a pass lets the swap go on. -/
def execTokenTestEnd (pass : Bool) (s : State) : Result :=
  whileOn s Blk.AHN fun s =>
    match s.ahn.test with
    | none => s
    | some t =>
      if s.isActive || !s.passed t (3 * nsPerBi) then s
      else
        let swap := s.ahn.testThenSwap
        let asked := s.testAsked
        let s := s.testShow pass
        if !pass then
          let s := (s.leaveRole .failed).setAhn fun a => { a with swapNak := asked && swap }
          (if swap && !asked then s.swapRefuse 4 else s.swapResult 2).failUpdate.sendHeartbeat
        else if !swap then s.swapResult 2
        else if s.ahn.role != .ready then s
        else if asked then (s.setAhn fun a => { a with swapAck := true, planned := 1 }).sendHeartbeat
        else (s.setAhn fun a => { a with swapReq := 1 }).sendHeartbeat

/-- The local time at which the first slot at least 8 ms away opens (R320). -/
def State.swapSlot (s : State) : Nat :=
  let left := nsPerBi - s.biPos
  s.mono + (if 8 * nsPerMs ≤ left then left else left + nsPerBi)

/-- Time 0 of a swap for `cause`: refused without a READY partner; a swap already running goes on. -/
def State.swapStart (s : State) (cause : Nat) : State :=
  if s.ahn.swap.isSome then s
  else if !s.partnerReady then s.swapDrop 3
  else (s.setAhn fun a => { a with
    swap := some ⟨cause, s.swapSlot, false⟩, swapOk := 0, swapReq := if cause = 7 then 0 else cause, swapTest := false }).sendHeartbeat

/-- PLANNED_SWAP_ACCEPT (R320): a swap the active module may accept starts. -/
def execPlannedSwapAccept (s : State) : Result :=
  whileOn s Blk.AHN fun s => if s.isActive && s.ahn.swapOk != 0 then s.swapStart s.ahn.swapOk else s

/-- Step 5: the role is given up. -/
def State.swapLeave (s : State) (cause : Nat) : State :=
  let s := if cause = 2 then ((s.leaveRole .none).roleFollow).sendHeartbeat else s.enterSync
  let s := s.setAhn fun a => { a with swapReq := 0, coopHold := if cause = 7 then some s.mono else a.coopHold }
  (s.swapResult 2).raise Ev.AHN_SWAP_DONE 0

/-- Steps 4 and 5 of a planned swap (R320), from 4 ms and from 3 ms before slot s. -/
def State.swapRelease (s : State) : State :=
  match s.ahn.swap with
  | none => s
  | some w =>
    if !s.isActive || decide (s.mono + 4 * nsPerMs < w.slotAt) then s
    else
      let s := if w.sent then s else (s.mirror 0 .handover).setAhn fun a => { a with swap := some { w with sent := true } }
      if s.mono + 3 * nsPerMs < w.slotAt then s else s.swapLeave w.cause

/-- ROLE_IN_N_CHANGE (R303, R305): the permit follows the role level. -/
def execRoleInNChange (low : Bool) (s : State) : Result :=
  .next (({ s with pins := { s.pins with roleInLow := low } }).setAhn fun a => { a with interlock := a.interlock && low })

/-! ## The Warden (R101, R102, R375) -/

/-- WARDEN_RENEWAL (R101). -/
def execWardenRenewal (strobeOk : Bool) (reported : Nat) (s : State) : Result :=
  whileOn s Blk.AUT fun s => (s.wardenRenewal strobeOk reported).roleFollow

/-- LOCKSTEP_MISMATCH (R101, R102): the two controller copies disagree. -/
def execLockstepMismatch (s : State) : Result := whileRunning s fun s => (s.wardenFault 1).roleFollow

/-- KICK_TIMEOUT (R101). -/
def execKickTimeout (s : State) : Result := whileOn s Blk.AUT fun s => if s.kickLate then (s.wardenFault 4).roleFollow else s

/-- WARDEN_SELF_TEST_END (R305, R375). -/
def execWardenSelfTestEnd (pass : Bool) (s : State) : Result := whileRunning s fun s => (s.wardenTested pass).roleFollow

end Sys2Proof.Machine
end

