-- ==== Sys2Proof/Machine/Reset.lean ====
section
/-!
DEFINITION. PWR's tests, power fail, RST and HPG (R364–R390, R464): maintenance and whole-module tests, the power-fail steps, resets, the
option loader, domain release, removal.
-/

namespace Sys2Proof.Machine

/-! ## Maintenance tests (R364, R365) -/

/-- The unit at a position of the rotation: L0–L31, M0–M11, CH0–CH383, XQ0–XQ159. -/
def rotationUnit (n : Nat) : TestUnit × Nat :=
  if n < 32 then (.lane, n) else if n < 44 then (.modem, n - 32) else if n < 428 then (.channel, n - 44) else (.queue, n - 428)

/-- Units in the rotation. -/
abbrev rotationSize : Nat := 588

/-- The leave a test needs (R360). -/
def TestUnit.mw : TestUnit → Nat
  | .lane => 450
  | .modem => 900
  | .channel => 50
  | .queue => 20

/-- The unit of a code of `PWR_TEST_STAT.UNIT`. -/
def TestUnit.ofCode (c : Nat) : TestUnit := if c = 1 then .lane else if c = 2 then .modem else if c = 3 then .channel else .queue

/-- No machine is on the wide channel of modem `m`. -/
def State.wideFree (s : State) (m : Nat) : Bool :=
  !s.airMis.any fun mi => ((s.airM mi).state == .awake || (s.airM mi).state == .asleep) && (s.airM mi).wch == s.modemIndex m

/-- The deferral reason of R365 for a unit, but for its leave; 0 where it can be tested. A module that is not active is taken as a
standby. -/
def State.testBar (s : State) (u : TestUnit) (i : Nat) : Nat :=
  match u with
  | .lane => if s.isActive && decide (2520 * 800 * (s.lanesAwake.filter fun l => l != i).length < s.planned) then 2 else 0
  | .modem =>
    if !s.isActive || s.modemKind i == 0 then 0
    else if s.modemKind i == Phy.NARROW then 4
    else if s.wideFree i then 0 else 3
  | .channel => if s.chanTestable i then 0 else 3
  | .queue => if s.isActive && s.xqConnected i then 3 else 0

/-- A test of a unit starts, or is deferred. -/
def State.testUnit (s : State) (u : TestUnit) (i : Nat) : State :=
  let bar := s.testBar u i
  if bar != 0 then s.testDefer u i bar
  else
    match s.leave .maintenance (2 + u.code) u.mw with
    | (s, false) => s.testDefer u i 1
    | (s, true) =>
      let s := { s with pwr := { s.pwr with test := some ⟨u, i, u.mw, s.mono⟩ } }.testStat u.code 1 0 i
      if u == .channel then s.raise Ev.GRX_CHANNEL_OUT i else s

/-- A test may start now: none runs. -/
def State.testIdle (s : State) : Bool := s.pwr.test.isNone && s.pwr.whole == .idle

/-- MAINTENANCE_TEST_START (R364): the next unit of the rotation, PERIOD_S after the last. -/
def execMaintenanceTestStart (s : State) : Result :=
  whileRunning s fun s =>
    if !s.flag F.PWR_TEST_AUTO || !s.testIdle || !s.passed s.pwr.lastTest (s.fld F.PWR_TEST_PERIOD_S * nsPerSec) then s
    else
      let u := rotationUnit s.pwr.rotation
      let s := { s with pwr := { s.pwr with lastTest := s.mono, rotation := (s.pwr.rotation + 1) % rotationSize } }
      s.testUnit u.1 u.2

/-- A unit has failed: out of service until a reset, event 6. -/
def State.testFail (s : State) (u : TestUnit) (i : Nat) : State :=
  let s := { s with pwr := { s.pwr with
    failed := if s.pwr.failed.contains (u, i) then s.pwr.failed else s.pwr.failed ++ [(u, i)]
    outOfService := if s.pwr.outOfService.contains (u, i) then s.pwr.outOfService else s.pwr.outOfService ++ [(u, i)] } }
  let s := if u == .channel then s.raise Ev.GRX_CHANNEL_OUT i else s
  s.raise Ev.PWR_TEST_FAILED i

/-- A unit has passed: a lane that a fault took out of service returns (R134). -/
def State.testPass (s : State) (u : TestUnit) (i : Nat) : State :=
  if s.pwr.failed.contains (u, i) then s
  else { s with pwr := { s.pwr with outOfService := s.pwr.outOfService.erase (u, i) } }

/-- MAINTENANCE_TEST_END (R364): the unit passes, or stays out of service until a reset. Its leave is returned. -/
def execMaintenanceTestEnd (pass : Bool) (s : State) : Result :=
  whileRunning s fun s =>
    match s.pwr.test with
    | none => s
    | some t =>
      let s := { s with pwr := { s.pwr with test := none } }.testStat t.unit.code (if pass then 2 else 3) 0 t.index
      let s := if pass then (s.testPass t.unit t.index).raise Ev.PWR_TEST_PASSED 0 else s.testFail t.unit t.index
      s.powerCheck

/-- LEAVE_REQUEST (R360, R361): requester 1 a lane SLV wants awake, 2 the host, 3–6 a test of a lane, modem, channel or queue. -/
def execLeaveRequest (requester index : Nat) (s : State) : Result :=
  whileRunning s fun s =>
    if requester = 1 then
      if s.blkOn Blk.SLV && s.lanesWanted.contains index && !s.lanesBase.contains index && !(s.lane index).awake then s.laneLeave index else s
    else if requester = 2 then
      if s.flag F.PWR_HOST_LEAVE_GRANTED || s.fld F.PWR_HOST_LEAVE_MW = 0 then s else s.hostLeave
    else if 3 ≤ requester ∧ requester ≤ 6 then
      if s.testIdle then s.testUnit (TestUnit.ofCode (requester - 2)) index else s
    else s

/-! ## Whole-module tests (R366) -/

/-- The whole-module test begins. A standby discards its mirror and takes SYNC. -/
def State.wholeBegin (s : State) : State :=
  let s := { s with pwr := { s.pwr with whole := .running } }.testStat 5 1 0 0
  if s.isStandby then s.resync false else s

/-- A whole-module test is refused. -/
def State.wholeRefuse (s : State) (reason : Nat) : State := (s.refuse Blk.PWR reason 0).testStat 5 6 0 0

/-- WHOLE, by role. A maintenance test that runs is withdrawn. -/
def State.wholeStart (s : State) : State :=
  if s.pwr.whole != .idle then s
  else if s.isActive then
    if s.partnerStandby then s.wholeRefuse 0x21
    else if !s.flag F.PWR_TEST_FORCE then s.wholeRefuse 0x20
    else
      let s := { s.testWithdraw with pwr := { s.testWithdraw.pwr with whole := .waitBeacon } }.testStat 5 1 0 0
      s.commaSource 0x14 fun a => { a with commaTest := true }
  else s.testWithdraw.wholeBegin

/-- WHOLE (R366): operation 1 of `PWR_TEST`. -/
def execWhole (s : State) : Result := whileRunning s State.wholeStart

/-- FORCED_WHOLE_TEST_BEGIN (R366): 1 s after the first beacon of the TEST source. -/
def execForcedWholeTestBegin (s : State) : Result :=
  whileRunning s fun s =>
    match s.pwr.whole with
    | .waitSecond t => if s.passed t nsPerSec then { s with pwr := { s.pwr with whole := .running } } else s
    | _ => s

/-- The whole-module test is over: TEST ends, a standby asks for a snapshot, a module without a role claims one. -/
def State.wholeOver (s : State) : State :=
  let s := { s with pwr := { s.pwr with whole := .idle } }
  let s := if s.aut.commaTest then s.commaEnd fun a => { a with commaTest := false } else s
  if s.isStandby then s.snapAsk else if s.ahn.role == .none then s.roleClaim else s

/-- WHOLE_TEST_END (R366): `failed` lists the units that failed, by the codes of `PWR_TEST_STAT.UNIT`. A forced test leaves N-PHY
modems out. -/
def execWholeTestEnd (failed : List (Nat × Nat)) (s : State) : Result :=
  whileRunning s fun s =>
    if s.pwr.whole != .running then s
    else
      let bad := failed.filter fun e => !(s.isActive && e.1 == 2 && s.modemKind e.2 == Phy.NARROW)
      let s := bad.foldl (fun s e => s.testFail (TestUnit.ofCode e.1) e.2) s
      (s.testStat 5 (if bad.isEmpty then 2 else 3) 0 0).wholeOver

/-- ABORT ends the test that runs. -/
def State.testAbort (s : State) : State :=
  match s.pwr.test with
  | some t => ({ s with pwr := { s.pwr with test := none } }.testStat t.unit.code 5 0 t.index).powerCheck
  | none => if s.pwr.whole == .idle then s else (s.testStat 5 5 0 0).wholeOver

/-- TEST_ABORT (R386): operation 2 of `PWR_TEST`. -/
def execTestAbort (s : State) : Result := whileRunning s State.testAbort

/-- A write to `PWR_TEST`. -/
def State.testWrite (s : State) (w : Word) : State :=
  thenIf (s.hostReg R.PWR_TEST w) fun s =>
    match F.PWR_TEST_OP.get w with
    | 1 => s.wholeStart
    | 2 => s.testAbort
    | _ => s

/-- TEMP_HIGH (R390): at most once per minute. -/
def execTempHigh (s : State) : Result :=
  whileRunning s fun s =>
    if dueSince s s.pwr.lastHot (60 * nsPerSec) then
      ({ s with pwr := { s.pwr with lastHot := some s.mono } }).raise Ev.PWR_TEMP_HIGH 0
    else s

/-! ## Resets (R369, R370, R377) -/

/-- The states of R377 on the outputs. -/
def State.resetOutputs (s : State) : State :=
  let low : List Pin := [.roleOutN, .failN, .gate0, .gate1, .rhTx 0, .rhTx 1, .ethTx 0, .ethTx 1, .ppsOut, .freqOut, .biasA, .biasB,
    .mclk 0, .mclk 1, .mclk 2] ++ ((List.range 8).map fun n => .pulseOut n) ++ (List.range 8).map fun n => .timedOut n
  low.foldl (fun s p => s.emit (.pin p (p == .roleOutN))) s

/-- The reset sources that hold the module in reset are gone. -/
def Pins.mayStart (p : Pins) : Bool := p.p12v && !p.resetLow && p.presentLow

/-- The RTC as the local clock starts from it: counts of 1/32,768 s (R184, R382). -/
def Backup.start (b : Backup) : Nat := b.rtc * 32768 / nsPerSec * nsPerSec / 32768

/-- The module enters reset with `cause`: the backup domain, the option store and the NAND with its key and firmware stores stay, all
else takes its reset state. It stays in reset while a source holds it. A reset counts against a trial (R425). -/
def State.moduleReset (s : State) (cause : Nat) (phase : RstPhase := .loading) : State :=
  let b := { s.bkp with resets := min (s.bkp.resets + 1) (2 ^ 32 - 1) }
  let n := if s.fw.trial then min 15 (s.fw.trialResets + 1) else s.fw.trialResets
  let r := { State.reset with
    tai := b.start
    regs := []
    log := { LogSt.reset with circ := s.log.circ, perm := s.log.perm, retired := s.log.retired }
    rst := ⟨if phase == RstPhase.loading && !s.pins.mayStart then .held else phase, none, none⟩
    bkp := b
    optA := s.optA, optB := s.optB, pins := s.pins, nand := s.nand, keys := s.keys
    fw := { s.fw with trialResets := n, revert := s.fw.revert || (s.fw.trial && decide (3 ≤ n)) }
    meterSave := s.meterSave
    hostRead := s.hostRead, out := s.out, freeCtr := s.freeCtr, pending := s.pending }
  (r.setFld F.RST_STATUS_CAUSE cause).resetOutputs

/-- What the reset of the LOG keeps of PERM_FULL: the permanent area has stopped for good (R437). -/
def State.keepPermFull (s t : State) : State := if s.flag F.LOG_STATUS_PERM_FULL then t.setFld F.LOG_STATUS_PERM_FULL 1 else t

/-- A module reset. -/
def State.resetWith (s : State) (cause : Nat) (phase : RstPhase := .loading) : State := s.keepPermFull (s.moduleReset cause phase)

/-- A module held in reset starts once nothing holds it. -/
def State.startIfFree (s : State) : State :=
  if s.rst.phase == .held && s.pins.mayStart then { s with rst := { s.rst with phase := .loading } } else s

/-- POWER_ON (R369, R383): P12V becomes valid. `lost`: VBAK was lost too, and the backup domain reads 0. -/
def execPowerOn (lost : Bool) (s : State) : Result :=
  let b := if lost then ⟨0, false, 0, 0, 0, 0, true⟩ else s.bkp
  .next (({ s with
    pins := { s.pins with p12v := true }, bkp := { b with pcycles := min (b.pcycles + 1) (2 ^ 24 - 1) } }).resetWith 1)

/-- BROWN_OUT (R369): an internal rail leaves its limits, with P12V valid or at the end of hold-up. -/
def execBrownOut (s : State) : Result := .next (s.resetWith 2)

/-- RESET_PIN (R369): RESET_N has been low for 10 µs (`low`), or rises again. -/
def execResetPin (low : Bool) (s : State) : Result :=
  let s := { s with pins := { s.pins with resetLow := low } }
  .next (if low then s.resetWith 3 else s.startIfFree)

/-- A write to `RST_CMD` (R387): the two keys, the second within 100 ms of the first. DMU saves (R401) and the write buffer is written between them
(R434). -/
def State.rstCmd (s : State) (key : Nat) : State :=
  let first := match s.rst.key1 with
    | some t => decide (s.mono ≤ t + 100 * nsPerMs)
    | none => false
  let s := { s with rst := { s.rst with key1 := none } }
  if key = 0x52A7 then
    let s := { s with rst := { s.rst with key1 := some s.mono } }
    if s.nandStopped then s else (s.meterSaveNow true true).logFlush (some 3)
  else if key = 0xA725 && first then s.resetWith 4
  else s

/-- HOST_RESET_KEY1 (R387). -/
def execHostResetKey1 (s : State) : Result := whileRunning s fun s => s.rstCmd 0x52A7

/-- HOST_RESET_KEY2 (R387). -/
def execHostResetKey2 (s : State) : Result := whileRunning s fun s => s.rstCmd 0xA725

/-- DEBUG_RESET (R369): in life-cycle states before FIELD. -/
def execDebugReset (s : State) : Result := .next (if s.keys.lc < 2 then s.resetWith 5 else s)

/-- THERMAL_TRIP (R464): the internal rails are removed. -/
def execThermalTrip (s : State) : Result := .next (s.resetWith 2 .tripped)

/-- THERMAL_RECOVERY (R464). -/
def execThermalRecovery (s : State) : Result :=
  .next (if s.rst.phase == .tripped then { s with rst := { s.rst with phase := .held } }.startIfFree else s)

/-- HOURS_TICK (R382, R447): every 115,200 backup cycles while P12V is valid. -/
def execHoursTick (s : State) : Result :=
  .next (if s.pins.p12v then { s with bkp := { s.bkp with hours := (s.bkp.hours + 1) % 2 ^ 32 } } else s)

/-! ## The option loader (R371–R373) -/

/-- The options of R373; MAC addresses with byte 0, the first sent, in the low bits. -/
def OptRec.safe : OptRec := ⟨0, 0x000000000002, 0x010000000002, true, 18000⟩

/-- An option record, where it verifies (R371). -/
def optParse (b : List Byte) : Option OptRec :=
  let budget := Bytes.at' b 32 4
  if b.length = 8192 ∧ Bytes.at' b 0 4 = 0x504F424E ∧ Bytes.at' b 4 2 = 1 ∧ Bytes.at' b 28 1 ≤ 1 ∧ 18000 ≤ budget ∧ budget ≤ 46000
      ∧ Bytes.slice b 8144 48 = sha384 (b.take 8144) then
    some ⟨Bytes.at' b 8 8, Bytes.at' b 16 6, Bytes.at' b 22 6, Bytes.at' b 28 1 == 1, budget⟩
  else none

/-- Options take effect on the registers whose reset values they give. -/
def State.optApply (s : State) (o : OptRec) : State :=
  let s := (s.setReg R.GLB_SERIAL_LO (BitVec.ofNat 32 o.serial)).setReg R.GLB_SERIAL_HI (BitVec.ofNat 32 (o.serial / 2 ^ 32))
  let mac (s : State) (p v : Nat) : State :=
    (s.setRegB p R.ETH_MAC_LO (BitVec.ofNat 32 v)).setFldB p F.ETH_MAC_HI_MAC_HI (v / 2 ^ 32)
  let s := mac (mac s 0 o.mac0) 1 o.mac1
  (s.setFld F.SIM_CTRL_LEVEL (b2n o.simLevel)).setFld F.PWR_BUDGET_BUDGET_MW o.budgetMw

/-- An option copy fails to verify: event 8, whose record carries the 16-byte status of each copy; the spec gives that no layout. -/
def State.optEvent (s : State) (n : Nat) : State :=
  let r := s.drawBytes 32
  r.2.raiseWith n 0 r.1 true

/-- OPTION_LOAD (R372, R373): after three strikes factory-safe options apply; otherwise a strike is counted and the first copy that
verifies applies; with none, the module restarts with CAUSE 6. -/
def execOptionLoad (s : State) : Result :=
  .next (
    if s.rst.phase != .loading then s
    else
      let done (s : State) : State := { s with rst := { s.rst with phase := .releasing } }
      if 3 ≤ s.bkp.strikes then done (((s.optApply OptRec.safe).setFld F.RST_STATUS_SAFE 1).optEvent Ev.RST_FACTORY_SAFE)
      else
        let s := { s with bkp := { s.bkp with strikes := s.bkp.strikes + 1 } }
        match s.optA with
        | some o => done (s.optApply o)
        | none =>
          let s := (s.setFld F.RST_STATUS_A_BAD 1).optEvent Ev.RST_OPTION_FAIL
          match s.optB with
          | some o => done ((s.setFld F.RST_STATUS_COPY 1).optApply o)
          | none => ((s.setFld F.RST_STATUS_B_BAD 1).optEvent Ev.RST_OPTION_FAIL).resetWith 6)

/-! ## Release (R375, R376, R433, R436) -/

/-- DOMAIN_RELEASE (R375): the end of reset. Strikes clear where loaded options apply. -/
def execDomainRelease (s : State) : Result :=
  .next (
    if s.rst.phase != .releasing then s
    else
      let s := { s with rst := { s.rst with phase := .running } }
      let s := if s.flag F.RST_STATUS_SAFE then s else { s with bkp := { s.bkp with strikes := 0 } }
      let s := (s.logStart (s.fld F.RST_STATUS_CAUSE)).raise Ev.RST_STARTED (s.fld F.RST_STATUS_CAUSE)
      if s.bkp.lost && s.fld F.RST_STATUS_CAUSE == 1 then s.raise Ev.RST_BACKUP_LOST 0 else s)

/-! ## The option store (R374) -/

/-- WRITE: refused from FIELD on or where the record does not verify; otherwise copy B is written first, and verifies again only once
the command completes. While no new NAND write may start it is abandoned at once. -/
def State.optionWrite (s : State) : State :=
  if s.rst.optWrite.isSome then s
  else
    let refuse (s : State) (r : Nat) : State := (s.refuse Blk.RST r 0).setFld F.RST_OPT_CMD_RESULT 2
    if 2 ≤ s.keys.lc then refuse s 0x07
    else
      let off := s.fld F.RST_OPT_SRC_OFFSET * 8
      match (if off + 8192 ≤ bar2Size then optParse (s.bar2Read off 8192) else none) with
      | none => refuse s 0x20
      | some o =>
        if s.nandStopped then refuse s 0x21
        else (({ s with rst := { s.rst with optWrite := some o }, optB := none }).setFld F.RST_OPT_CMD_BUSY 1).setFld F.RST_OPT_CMD_RESULT 0

/-- OPTION_WRITE (R374): operation 1 of `RST_OPT_CMD`. -/
def execOptionWrite (s : State) : Result := whileRunning s State.optionWrite

/-- OPTION_WRITE_COMPLETE (R374): both copies hold the record. -/
def execOptionWriteComplete (s : State) : Result :=
  whileRunning s fun s =>
    match s.rst.optWrite with
    | none => s
    | some o =>
      (({ s with rst := { s.rst with optWrite := none }, optA := some o, optB := some o, bkp := { s.bkp with strikes := 0 } }).setFld
        F.RST_OPT_CMD_BUSY 0).setFld F.RST_OPT_CMD_RESULT 1

/-- A WRITE in progress is abandoned: RESULT 2, 0x0421. -/
def State.optionAbandon (s : State) : State :=
  if s.rst.optWrite.isNone then s
  else ((({ s with rst := { s.rst with optWrite := none } }).refuse Blk.RST 0x21 0).setFld F.RST_OPT_CMD_BUSY 0).setFld F.RST_OPT_CMD_RESULT 2

/-- CLEAR_STRIKES, ignored while BUSY. -/
def State.clearStrikes (s : State) : State :=
  if s.rst.optWrite.isSome then s else ({ s with bkp := { s.bkp with strikes := 0 } }).setFld F.RST_OPT_CMD_RESULT 1

/-- CLEAR_STRIKES (R373): operation 2 of `RST_OPT_CMD`. -/
def execClearStrikes (s : State) : Result := whileRunning s State.clearStrikes

/-! ## Power fail (R367, R368) -/

/-- An update transfer in progress is abandoned: it restarts with BEGIN (R423). -/
def State.updAbandon (s : State) : State :=
  if s.fw.receiving.isNone then s
  else { s with fw := { s.fw with receiving := none, received := [] } }

/-- A STORE, an option write or an update transfer in progress is abandoned (R367 step 5). -/
def State.abandonWrites (s : State) : State := s.storeAbandon.optionAbandon.updAbandon

/-- Steps 1 to 5 of R367: event 1, the release with cause 4, FAIL_N, the saves, the write of the buffer with a STOP marker, and what is
abandoned. `stop` is the marker's ARG. -/
def State.failSteps (s : State) (stop : Nat) : State :=
  let s := s.raise Ev.PWR_PFW 0
  let s := if s.isActive && s.partnerStandby then (s.release 4).roleFollow else s
  let s := (s.failUpdate.meterSaveNow true true).logReadAbort.logFlush (some stop)
  s.ephSave.abandonWrites

/-- POWER_FAIL_WARNING (R367). -/
def execPowerFailWarning (s : State) : Result :=
  if !s.pins.p12v then .next s
  else
    let s := { s with pins := { s.pins with p12v := false } }.emit (.pin .pfwN false)
    .next (if s.running then s.failSteps 1 else s)

/-- POWER_RETURN (R368): FAIL_N is released unless a fault holds it, and a role given up is taken again by R313 alone. -/
def execPowerReturn (s : State) : Result :=
  if s.pins.p12v then .next s
  else
    let s := { s with pins := { s.pins with p12v := true } }.emit (.pin .pfwN true)
    .next (if s.running then ((s.raise Ev.PWR_PFW_CLEAR 0).failUpdate).roleClaim else s)

/-! ## Live insertion and removal (R378–R381) -/

/-- INSERTION (R378): PRESENT_N has been low for 10 ms. -/
def execInsertion (s : State) : Result := .next ({ s with pins := { s.pins with presentLow := true } }.startIfFree)

/-- EJECT (R379): EJECT_N is accepted. The active module starts a planned swap, or event 201 says that it has no READY partner; the
logbook and the ephemerides are saved. -/
def execEject (s : State) : Result :=
  let s := { s with pins := { s.pins with ejectLow := true } }
  .next (
    if !s.running || s.hpg.ejectAt.isSome then s
    else
      let s := ((({ s with hpg := { s.hpg with ejectAt := some s.mono } }).setFld F.HPG_STATUS_EJECT 1).setFld F.HPG_STATUS_STATE 1).raise Ev.HPG_EJECT 0
      let s := s.abandonWrites
      let s := if s.isActive then s.swapStart 2 else s.sendHeartbeat
      (s.logReadAbort.logFlush (some 2)).ephSave)

/-- EJECT_CANCEL (R380): EJECT_N rises: before removal-ready the module resumes, after it the module resets with CAUSE 7. -/
def execEjectCancel (s : State) : Result :=
  let s := { s with pins := { s.pins with ejectLow := false } }
  .next (
    if !s.running || s.hpg.ejectAt.isNone then s
    else if s.removalReady then s.resetWith 7
    else
      let s := ((({ s with hpg := HpgSt.reset }).setFld F.HPG_STATUS_EJECT 0).setFld F.HPG_STATUS_STATE 0).raise Ev.HPG_EJECT_CANCEL 0
      s.roleClaim)

/-- REMOVAL_READY (R379, R380): QUIESCE_MS after acceptance. A module that is still active keeps every output. -/
def execRemovalReady (s : State) : Result :=
  whileRunning s fun s =>
    match s.hpg.ejectAt with
    | none => s
    | some t =>
      if s.removalReady || !s.passed t (s.fld F.HPG_CFG_QUIESCE_MS * nsPerMs) then s
      else
        let s := ({ s with hpg := { s.hpg with lone := s.isActive } }.setFld F.HPG_STATUS_STATE 2).raise Ev.HPG_REMOVAL_READY 0
        if s.isActive then s
        else
          let s := { s with ahn := { s.ahn with failN := true, roleOut := false }, tim := { s.tim with outs := [] } }
          s.resetOutputs

/-- SURPRISE_REMOVAL (R381): PRESENT_N goes high; without an accepted EJECT_N event 14 and the power-fail steps come first; the module
enters reset with CAUSE 7. -/
def execSurpriseRemoval (s : State) : Result :=
  let s := { s with pins := { s.pins with presentLow := false } }
  let s := if s.running && s.hpg.ejectAt.isNone then (s.raise Ev.HPG_SURPRISE_REMOVAL 0).failSteps 5 else s
  .next (s.resetWith 7)

end Sys2Proof.Machine
end

