-- ==== Sys2Proof/Machine/Keys.lean ====
section
/-!
DEFINITION. KEY and UPD (R412–R430) and the quarantine of machine indices (R445): the root, the pair subtree, exports, image-signing
keys, the life cycle, firmware transfers, the loader's copy, trials. Secrets are numbers no register shows; Machine/Keyring.lean derives
the keys of R413 from them.
-/

namespace Sys2Proof.Machine

/-! ## KEY commands (R427, R429) -/

/-- A KEY command is refused. -/
def State.keyRefuse (s : State) (reason detail : Nat) : State := (s.refuse Blk.KEY reason detail).setFld F.KEY_STATUS_RESULT 2

/-- A KEY command is done. -/
def State.keyDone (s : State) : State := s.setFld F.KEY_STATUS_RESULT 1

/-- A KEY command runs its checks in ascending order of code: each is a reason, a DETAIL and whether it fails. While a command runs,
another has no effect; while no new NAND write may start it ends with RESULT 2 (R367, R379). -/
def State.keyTry (s : State) (checks : List (Nat × Nat × Bool)) (f : State → State) : State :=
  if s.flag F.KEY_STATUS_BUSY then s
  else match checks.find? fun c => c.2.2 with
    | some c => s.keyRefuse c.1 c.2.1
    | none => if s.nandStopped then s.setFld F.KEY_STATUS_RESULT 2 else f s

/-- Change the key store. -/
def State.setKeys (s : State) (f : KeyStore → KeyStore) : State := { s with keys := f s.keys }

/-- All three draws failed their health tests (R412). -/
def State.trngFail (s : State) : State := (s.setFld F.KEY_STATUS_TRNG_FAIL 1).raise Ev.KEY_TRNG_FAIL 0

/-- KEY's source and destination in BAR2, and its argument. -/
def State.keySrc (s : State) : Nat := s.fld F.KEY_SRC_OFFSET * 8
def State.keyDst (s : State) : Nat := s.fld F.KEY_DST_OFFSET * 8
def State.keyArg (s : State) : Nat := (s.reg R.KEY_ARG_LO).toNat + 2 ^ 32 * (s.reg R.KEY_ARG_HI).toNat

/-- ROOT_GENERATE (R412): `healthy`: one of three draws passed the health tests. After a failure none is made until a reset. -/
def execRootGenerate (healthy : Bool) (s : State) : Result :=
  whileRunning s fun s =>
    if s.keys.root.isSome || !(s.keys.lc == 1 || s.keys.lc == 2) || s.flag F.KEY_STATUS_TRNG_FAIL then s
    else if !healthy then s.trngFail
    else
      let r := s.trng
      (r.2.setKeys fun k => { k with root := some (conditioned r.1) }).raise Ev.KEY_ROOT_GENERATED 0

/-! ## The pair subtree (R414–R416) -/

/-- CREATE_PAIR. -/
def State.createPair (s : State) (healthy : Bool) : State :=
  s.keyTry [(0x06, 2, s.keys.root.isNone), (0x22, 0, s.keys.pairRoot.isSome)] fun s =>
    if !healthy then s.trngFail.setFld F.KEY_STATUS_RESULT 2
    else
      let r := s.trng
      (r.2.setKeys fun k => { k with pairRoot := some (conditioned r.1), bgen := 1 }).keyDone

/-- CREATE_PAIR (R414): `healthy` as for ROOT_GENERATE. -/
def execCreatePair (healthy : Bool) (s : State) : Result := whileRunning s fun s => s.createPair healthy

/-- FORGET_PAIR. -/
def State.forgetPair (s : State) : State :=
  s.keyTry [(0x23, 0, s.blkOn Blk.AUT || s.blkOn Blk.AHN)] fun s => (s.setKeys fun k => { k with pairRoot := none, bgen := 0 }).keyDone

/-- FORGET_PAIR (R414). -/
def execForgetPair (s : State) : Result := whileRunning s State.forgetPair

/-- An enrolment message goes out, with its CMAC under an all-zero key (R415). -/
def State.enrolSend (s : State) (step : Nat) (msg : List Byte) : State := s.emit (.keyMsg step (msg ++ cmac64 (List.replicate 32 0#8) msg))

/-- The module refuses an enrolment on both modules (R415): it tells the partner. -/
def State.enrolRefuse (s : State) (reason : Nat) : State :=
  (if s.ahn.linkUp then s.enrolSend 3 (Bytes.ofNat 1 reason) else s).enrolEnd (some reason)

/-- What a module sends first (R415): its DEVICE_ID public key, its ephemeral one, and its signature over both. -/
def State.enrolOffer (s : State) (eph nonce : Nat) : List Byte :=
  let d := s.deviceId.getD 1
  let both := ecPublic d ++ ecPublic eph
  both ++ ecdsaSign d nonce both

/-- An enrolment begins: the module sends its keys, the ephemeral one fresh. -/
def State.enrolBegin (s : State) (isNew : Bool) : State :=
  let e := s.trng
  let n := e.2.trng
  let eph := ecScalar e.1
  (((({ n.2 with key := { n.2.key with enrol := some ⟨isNew, n.2.mono, eph, Option.none⟩ } }).setFld F.KEY_STATUS_BUSY 1).setFld
    F.KEY_STATUS_RESULT 0)).enrolSend 1 (s.enrolOffer eph (ecScalar n.1))

/-- ENROL_PAIR, on the holder; the Ahnob link stands for its block lock. -/
def State.enrolPair (s : State) : State :=
  s.keyTry [(0x06, 4, s.keys.pairRoot.isNone), (0x21, 0, !s.ahn.linkUp)] fun s => s.enrolBegin false

/-- ACCEPT_PAIR, on the new module. -/
def State.acceptPair (s : State) : State :=
  s.keyTry [(0x06, 2, s.keys.root.isNone), (0x21, 0, !s.ahn.linkUp), (0x22, 0, s.keys.pairRoot.isSome)] fun s => s.enrolBegin true

/-- ENROL_PAIR (R415). -/
def execEnrolPair (s : State) : Result := whileRunning s State.enrolPair

/-- ACCEPT_PAIR (R415). -/
def execAcceptPair (s : State) : Result := whileRunning s State.acceptPair

/-- The digest in `KEY_PEER0`–`KEY_PEER11`. -/
def State.peerDigest (s : State) : List Byte := (List.range 12).flatMap fun n => Bytes.ofNat 4 (s.reg (R.KEY_PEER + 4 * n)).toNat

/-- The key that wraps the pair root: KDF(ECDH secret, "PAIR-WRAP", 0), from the module's ephemeral key and the partner's. -/
def enrolWrapKey (eph : Nat) (peer : List Byte) : List Byte :=
  kdf (ecdhSecret eph peer) ['P', 'A', 'I', 'R', '-', 'W', 'R', 'A', 'P'] 0

/-- What H wraps: PAIR_ROOT and BGEN, filled to whole 8-byte pieces as R418 fills its own (log 73). -/
def pairRootBytes (root bgen : Nat) : List Byte := secretBytes root ++ Bytes.ofNat 2 bgen ++ Bytes.ofNat 6 0

/-- The digest of the partner's DEVICE_ID key is the one in `KEY_PEER`, and its signature over both its keys verifies (R415). -/
def State.peerProven (s : State) (pub epub sig : List Byte) : Bool :=
  sha384 pub == s.peerDigest && ecdsaVerify pub (pub ++ epub) sig

/-- The partner's keys: life-cycle states differ, digest or signature fail, or N holds a PAIR_ROOT; otherwise H sends the wrapped root
and is done, and N waits for it. -/
def State.enrolKeys (s : State) (e : Enrol) (pub epub sig : List Byte) (lc : Nat) (holds : Bool) : State :=
  if lc != s.keys.lc then s.enrolRefuse 0x07
  else if !s.peerProven pub epub sig then s.enrolRefuse 0x20
  else if e.isNew then { s with key := { s.key with enrol := some { e with peer := some epub } } }
  else if holds then s.enrolRefuse 0x22
  else (s.enrolSend 2 (keyWrap (enrolWrapKey e.eph epub) (pairRootBytes (s.keys.pairRoot.getD 0) s.keys.bgen))).enrolEnd none

/-- N unwraps the pair root; one that does not unwrap is refused as the keys are. -/
def State.enrolRoot (s : State) (e : Enrol) (wrapped : List Byte) : State :=
  match e.peer with
  | some epub =>
    if !e.isNew then s
    else match keyUnwrap (enrolWrapKey e.eph epub) wrapped with
      | some b => (s.setKeys fun k => { k with pairRoot := some (Bytes.beNat (b.take 32)), bgen := Bytes.at' b 32 2 }).enrolEnd none
      | none => s.enrolRefuse 0x20
  | none => s

/-- ENROL_EXCHANGE_RX (R415): `cmacOk` is the outcome of the message's CMAC. -/
def execEnrolExchangeRx (rx : EnrolRx) (s : State) : Result :=
  whileRunning s fun s =>
    if !rx.cmacOk then s.bump (ahnCnt 1)
    else match s.key.enrol with
    | none => s
    | some e =>
      match rx.msg with
      | .keys pub epub sig lc holds => s.enrolKeys e pub epub sig lc holds
      | .root wrapped => s.enrolRoot e wrapped
      | .refusal r => s.enrolEnd (some r)

/-- ENROL_WINDOW_EXPIRY (R415): 60 s have passed; the spec gives the refusal no code. -/
def execEnrolWindowExpiry (s : State) : Result :=
  whileRunning s fun s =>
    match s.key.enrol with
    | some e =>
      if s.passed e.since (60 * nsPerSec) then
        let r := s.draw
        r.2.enrolEnd (some (r.1 % 256))
      else s
    | none => s

/-- A new beacon generation (R84, R416): no SEQ of an earlier one counts any more, and SEQ starts again at 4,096. -/
def State.newGeneration (s : State) (g : Nat) : State :=
  let s := (s.setKeys fun k => { k with bgen := g, seqStore := some 0 }).setAhn fun a => { a with seqKnown := 0 }
  let s := s.setAut fun a => { a with seq := s.storedSeq, lastSeq := 0, openSeq := 0 }
  { s with warden := { s.warden with seq := none } }

/-- RENEW_BEACON: AUT is off, and no partner is present or the link is up; BGEN never passes 65,535 (R449). -/
def State.renewBeacon (s : State) : State :=
  s.keyTry [(0x06, 4, s.keys.pairRoot.isNone), (0x09, 0, decide (65535 ≤ s.keys.bgen)), (0x21, 0, !s.ahn.linkUp && s.ahn.hello.isSome), (0x23, 0, s.blkOn Blk.AUT)] fun s =>
    let g := s.keys.bgen + 1
    let s := s.newGeneration g
    (s.keyTell.raise Ev.KEY_BEACON_RENEWED g).keyDone

/-- RENEW_BEACON (R416, R449). -/
def execRenewBeacon (s : State) : Result := whileRunning s State.renewBeacon

/-- PARTNER_KEY_MESSAGE_RX (R416): a higher BGEN is adopted; `ok` is the outcome of the message's CMAC. -/
def execPartnerKeyMessageRx (bgen : Nat) (ok : Bool) (s : State) : Result :=
  whileRunning s fun s =>
    if !ok then s.bump (ahnCnt 1)
    else if s.keys.pairRoot.isNone || decide (bgen ≤ s.keys.bgen) then s
    else (s.newGeneration bgen).raise Ev.KEY_BEACON_RENEWED bgen

/-! ## Exports (R415, R418) -/

/-- What a bundle wraps: a machine's keys with BEACON_SEED and BGEN, or a stop sender's key. -/
def State.bundleKeys (s : State) (machine : Bool) : List Byte :=
  if machine then (s.machineKey s.keyArg).getD [] ++ s.beaconSeed.getD [] ++ Bytes.ofNat 2 s.keys.bgen ++ Bytes.ofNat 6 0
  else (s.senderKey s.keyArg).getD [] ++ Bytes.ofNat 40 0

/-- Bytes 0 to 187 of a bundle for a tool's public key: EPUB, ARG, WRAPPED. -/
def State.bundleBody (s : State) (machine : Bool) (eph : Nat) (tool : List Byte) : List Byte :=
  ecPublic eph ++ Bytes.ofNat 3 0 ++ Bytes.ofNat 8 s.keyArg
    ++ keyWrap (kdf (ecdhSecret eph tool) ['W', 'R', 'A', 'P'] s.keyArg) (s.bundleKeys machine)

/-- A bundle, with a fresh ephemeral key and the signature by DEVICE_ID. -/
def State.bundle (s : State) (machine : Bool) (tool : List Byte) : List Byte × State :=
  let e := s.trng
  let n := e.2.trng
  let body := s.bundleBody machine (ecScalar e.1) tool
  (body ++ ecdsaSign (s.deviceId.getD 1) (ecScalar n.1) body, n.2)

/-- EXPORT_MACHINE and EXPORT_SENDER. -/
def State.exportKeys (s : State) (machine : Bool) : State :=
  let tool := s.bar2Read s.keySrc 97
  s.keyTry [(0x06, 4, s.keys.pairRoot.isNone), (0x07, 0, !(s.keys.lc == 1 || s.keys.lc == 2)), (0x25, 0, (ecPoint tool).isNone)] fun s =>
    let b := s.bundle machine tool
    (b.2.bar2Write s.keyDst b.1).keyDone

/-- EXPORT_MACHINE (R418). -/
def execExportMachine (s : State) : Result := whileRunning s fun s => s.exportKeys true

/-- EXPORT_SENDER (R418). -/
def execExportSender (s : State) : Result := whileRunning s fun s => s.exportKeys false

/-- READ_DEVPUB. -/
def State.readDevpub (s : State) : State :=
  s.keyTry [(0x06, 3, s.keys.root.isNone)] fun s => (s.bar2Write s.keyDst (ecPublic (s.deviceId.getD 1))).keyDone

/-- READ_DEVPUB (R415). -/
def execReadDevpub (s : State) : Result := whileRunning s State.readDevpub

/-! ## Image-signing keys (R419) -/

/-- The enrolled slots. -/
def State.imgSlots (s : State) : List Nat := (List.range 8).filter fun n => (s.keys.imgKeys.get none n).isSome

/-- The endorsement a record needs in FIELD. -/
def State.endorsed (s : State) (b : List Byte) : Bool :=
  match s.keys.imgKeys.get none s.keyArg with
  | some k => decide (s.keyArg < 8) && ecdsaVerify k (b.take 100) (Bytes.slice b 100 96)
  | none => false

/-- ENROL_IMG: a slot above 7 and bytes that are not 0 are out of range. -/
def State.enrolImg (s : State) : State :=
  let b := s.bar2Read s.keySrc 196
  let slot := Bytes.at' b 97 1
  s.keyTry [(0x06, 2, s.keys.root.isNone), (0x09, 0, decide (7 < slot) || Bytes.at' b 98 2 != 0),
      (0x24, 0, s.keys.lc == 2 && !s.endorsed b)] fun s =>
    (s.setKeys fun k => { k with imgKeys := k.imgKeys.set none slot (some (b.take 97)) }).keyDone

/-- ENROL_IMG (R419). -/
def execEnrolImg (s : State) : Result := whileRunning s State.enrolImg

/-- REVOKE_IMG. -/
def State.revokeImg (s : State) : State :=
  s.keyTry [(0x09, 0, decide (7 < s.keyArg)), (0x23, 0, s.keys.lc == 2 && s.imgSlots == [s.keyArg])] fun s =>
    (s.setKeys fun k => { k with imgKeys := k.imgKeys.set none s.keyArg none }).keyDone

/-- REVOKE_IMG (R419). -/
def execRevokeImg (s : State) : Result := whileRunning s State.revokeImg

/-- A write to `KEY_CMD`; whether the TRNG passes its health tests is then an open value. -/
def State.keyCmd (s : State) (w : Word) : State :=
  match F.KEY_CMD_OP.get w with
  | 1 =>
    let r := s.draw
    r.2.createPair (r.1 % 2 == 0)
  | 2 => s.enrolPair
  | 3 => s.acceptPair
  | 4 => s.renewBeacon
  | 5 => s.exportKeys true
  | 6 => s.exportKeys false
  | 7 => s.enrolImg
  | 8 => s.revokeImg
  | 9 => s.readDevpub
  | 10 => s.forgetPair
  | _ => s

/-! ## Life cycle (R420, R421) -/

/-- The keys an advance to `lc` destroys. -/
def KeyStore.advanced (k : KeyStore) (lc : Nat) : KeyStore :=
  { k with lc := lc, root := none, pairRoot := none, bgen := 0, imgKeys := if lc = 2 then k.imgKeys else [], seqStore := none }

/-- The state advances: a staged image is discarded, the buffer written with a STOP marker, keys destroyed, the fuses set, the permanent
area erased on the way to FIELD (R437), and the module reset with CAUSE 4. -/
def State.lcAdvance (s : State) (lc : Nat) : State :=
  let s := { s with fw := { s.fw with stage := none, receiving := none, received := [] } }.raise Ev.KEY_LIFE_CYCLE 0
  let s := (if s.nandStopped then s else s.logFlush (some 4)).setKeys fun k => k.advanced lc
  let s := if lc = 2 then { s with log := { s.log with perm := [] } }.setFld F.LOG_STATUS_PERM_FULL 0 else s
  s.resetWith 4

/-- A write to `KEY_LC` of `target` with `key`: the second key needs the same TARGET within 1,000 ms of the first, with no other write
between. A trial in progress refuses with 0x4A29 (R426). -/
def State.lcWrite (s : State) (target key : Nat) : State :=
  let first : Bool := match s.key.lcKey1 with
    | some (t, at') => t == target && decide (s.mono ≤ at' + 1000 * nsPerMs)
    | none => false
  let s := { s with key := { s.key with lcKey1 := none } }
  if key = 0x9E37 then if target = s.keys.lc + 1 then { s with key := { s.key with lcKey1 := some (target, s.mono) } } else s
  else if key = 0x379E ∧ first then
    if s.blkOn Blk.AUT then s.keyRefuse 0x23 0
    else if target = 2 ∧ s.imgSlots = [] then s.keyRefuse 0x24 0
    else if s.fw.trial then (s.setReg (Blk.parse Blk.KEY) (parseWord Blk.UPD 0x29 0)).setFld F.KEY_STATUS_RESULT 2
    else s.lcAdvance target
  else s

/-- LIFE_CYCLE_KEY1 (R421). -/
def execLifeCycleKey1 (target : Nat) (s : State) : Result := whileRunning s fun s => s.lcWrite (target % 4) 0x9E37

/-- LIFE_CYCLE_KEY2 (R421). -/
def execLifeCycleKey2 (target : Nat) (s : State) : Result := whileRunning s fun s => s.lcWrite (target % 4) 0x379E

/-! ## Firmware images (R422, R423) -/

/-- Fields of a firmware header. -/
def fwVersion (b : List Byte) : Nat := Bytes.at' b 12 4
def fwRollback (b : List Byte) : Nat := Bytes.at' b 10 2
def fwKeyId (b : List Byte) : Nat := Bytes.at' b 28 4

/-- The module's serial. -/
def State.serial (s : State) : Nat := (s.reg R.GLB_SERIAL_LO).toNat + 2 ^ 32 * (s.reg R.GLB_SERIAL_HI).toNat

/-- KEY_ID is permitted by the life cycle (R420) and the signature verifies; an unsigned image has none. -/
def State.fwSigned (s : State) (b : List Byte) : Bool :=
  if fwKeyId b = 0 then s.keys.lc == 0
  else fwKeyId b == 1 && decide (s.keys.lc ≤ 2) && ecdsaVerify Config.fwSignKey (b.take 160) (Bytes.slice b 160 96)

/-- The first of checks 2 to 7 that an image of `total` bytes fails. -/
def State.fwCheck (s : State) (b : List Byte) (total : Nat) : Option Nat :=
  if Bytes.at' b 0 4 != 0x5746424E || Bytes.at' b 4 2 != 1 || Bytes.at' b 24 4 != total || total % 8 != 0 || decide (100663296 < total) then some 0x20
  else if Bytes.at' b 6 2 != 0x7160 || decide (s.siliconRev < Bytes.at' b 8 1) then some 0x21
  else if Bytes.at' b 16 8 != s.serial then some 0x22
  else if !s.fwSigned b then some 0x23
  else if sha384 (b.drop 256) != Bytes.slice b 32 48 then some 0x24
  else if fwRollback b < s.fw.rollback then some 0x26
  else none

/-- Change UPD's store. -/
def State.setFw (s : State) (f : FwStore → FwStore) : State := { s with fw := f s.fw }

/-- A UPD command is refused, or done. -/
def State.updRefuse (s : State) (reason : Nat) : State := (s.refuse Blk.UPD reason 0).setFld F.UPD_STATUS_RESULT 2
def State.updDone (s : State) : State := s.setFld F.UPD_STATUS_RESULT 1

/-- A UPD command that writes NAND: none starts while no new write may (R367, R379). -/
def State.updWrites (s : State) (f : State → State) : State := if s.nandStopped then s.setFld F.UPD_STATUS_RESULT 2 else f s

/-- BEGIN. -/
def State.updBegin (s : State) : State :=
  s.updWrites fun s => (s.setFw fun w => { w with stage := none, received := [], receiving := some (s.reg R.UPD_TOTAL).toNat }).updDone

/-- The units of an image of `total` bytes, and the length of unit `n`. -/
def fwUnits (total : Nat) : Nat := ceilDiv total 65536
def fwUnitLen (total n : Nat) : Nat := min 65536 (total - 65536 * n)

/-- BLOCK. -/
def State.updBlock (s : State) : State :=
  s.updWrites fun s =>
    let n := s.fld F.UPD_OFF_UNIT
    let len := s.fld F.UPD_LEN_LEN
    let b := s.bar2Read (s.fld F.UPD_SRC_OFFSET * 8) len
    if crc32 b != (s.reg R.UPD_CRC).toNat then s.updRefuse 0x27
    else match s.fw.receiving with
      | some total =>
        if fwUnits total ≤ n ∨ len ≠ fwUnitLen total n ∨ len % 8 ≠ 0 ∨ len < 8 then s.updRefuse 0x28
        else (s.setFw fun w => { w with received := w.received.set none n (some b) }).updDone
      | none => s.updRefuse 0x28

/-- The received image, where every unit has come. -/
def FwStore.image (w : FwStore) (total : Nat) : Option (List Byte) :=
  (List.range (fwUnits total)).foldl (fun acc n => match acc, w.received.get none n with
    | some l, some b => some (l ++ b)
    | _, _ => none) (some [])

/-- FINISH: event 221 names RESULT. -/
def State.updFinish (s : State) : State :=
  s.updWrites fun s =>
    let bad (r : Nat) : State := (s.updRefuse r).raise Ev.UPD_STAGE 2
    match s.fw.receiving with
    | none => bad 0x25
    | some total =>
      match s.fw.image total with
      | none => bad 0x25
      | some img =>
        match s.fwCheck img (s.reg R.UPD_TOTAL).toNat with
        | some r => bad r
        | none => ((s.setFw fun w => { w with stage := some img, receiving := none, received := [] }).updDone).raise Ev.UPD_STAGE 1

/-- ABORT. -/
def State.updAbort (s : State) : State := s.updAbandon.updDone

/-- BEGIN (R423). -/
def execBegin (s : State) : Result := whileOn s Blk.UPD State.updBegin

/-- BLOCK (R423). -/
def execBlock (s : State) : Result := whileOn s Blk.UPD State.updBlock

/-- FINISH (R423). -/
def execFinish (s : State) : Result := whileOn s Blk.UPD State.updFinish

/-- UPD_ABORT (R428): a transfer is abandoned. -/
def execUpdAbort (s : State) : Result := whileOn s Blk.UPD State.updAbort

/-! ## Trials (R424, R425) -/

/-- The trial is confirmed: the rollback counter follows the running image, event 223. -/
def State.updConfirm (s : State) : State :=
  if !s.fw.trial then s
  else (s.setFw fun w => { w with
    trial := false, trialResets := 0, revert := false, rollback := max w.rollback ((w.run.map fwRollback).getD 0) }).raise Ev.UPD_END 0

/-- CONFIRM (R425). -/
def execConfirm (s : State) : Result := whileOn s Blk.UPD fun s => s.updConfirm.updDone

/-- A revert that is due: an active module with a READY partner first runs a planned swap; then the module resets, and the loader copies
PREV back. The spec gives that reset no CAUSE. -/
def State.revertNow (s : State) : State :=
  if !s.fw.revert then s
  else if s.isActive && s.partnerReady then s.swapStart 1
  else
    let r := s.draw
    r.2.resetWith (1 + r.1 % 7)

/-- REVERT: refused where the ROLLBACK of PREV is below the counter, or there is no image in PREV. -/
def State.updRevert (s : State) : State :=
  match s.fw.prev with
  | some b =>
    if fwRollback b < s.fw.rollback then s.updRefuse 0x26
    else ((s.setFw fun w => { w with revert := true }).updDone).revertNow
  | none => s.updRefuse 0x26

/-- REVERT (R425). -/
def execRevert (s : State) : Result := whileOn s Blk.UPD State.updRevert

/-- TRIAL_EXPIRY (R425): an unconfirmed trial after TRIAL_S or three resets, or a revert that waited for its swap. -/
def execTrialExpiry (s : State) : Result :=
  whileRunning s fun s =>
    if s.fw.revert then s.revertNow
    else if s.fw.trial && s.passed s.upd.trialAt (s.fld F.UPD_TRIAL_TRIAL_S * nsPerSec) then (s.setFw fun w => { w with revert := true }).revertNow
    else s

/-- AUTO_CONFIRM (R425): at basic level, with every block the applied image makes present enabled and a role other than NONE held for
60 s. -/
def execAutoConfirm (s : State) : Result :=
  whileRunning s fun s =>
    match s.sim.applied with
    | none => s
    | some img =>
      if !s.expert Blk.UPD && (Blk.image.all fun b => !imgPresent img b || s.blkOn b) && s.ahn.role != .none
          && s.passed s.ahn.roleSince (60 * nsPerSec) then s.updConfirm
      else s

/-- The loader puts PREV back. -/
def State.loaderRevert (s : State) : State :=
  let r := s.draw
  (r.2.setFw fun w => { w with run := w.prev, trial := false, trialResets := 0, revert := false, prevDone := false }).raise Ev.UPD_END (r.1 % 2 ^ 32)

/-- UPDATE_COPY (R424): once at the end of a reset. A revert that is due puts PREV back; a staged image that verifies is copied and
starts in trial, event 222. A copy that a reset cuts short (`complete` false) leaves PREV_DONE and a RUN that does not verify. -/
def execUpdateCopy (complete : Bool) (s : State) : Result :=
  whileRunning s fun s =>
    if !s.upd.copyDue then s
    else
      let t := { s with upd := { s.upd with copyDue := false } }
      if s.fw.revert then t.loaderRevert
      else match s.fw.stage with
        | none => t
        | some img =>
          if (s.fwCheck img (Bytes.at' img 24 4)).isSome then
            if s.fw.prevDone then t.setFw fun w => { w with run := w.prev } else t
          else
            let prev := if s.fw.prevDone then s.fw.prev else s.fw.run
            if !complete then s.setFw fun w => { w with prev := prev, prevDone := true, run := none }
            else
              let t := t.setFw fun w => { w with
                prev := prev, run := some img, stage := none, prevDone := false, trial := true, trialResets := 0 }
              { t with upd := { t.upd with trialAt := t.mono } }.raise Ev.UPD_COPIED 0

/-- A write to `UPD_CMD`. -/
def State.updCmd (s : State) (w : Word) : State :=
  if !s.blkOn Blk.UPD then s
  else
    match F.UPD_CMD_OP.get w with
    | 1 => s.updBegin
    | 2 => s.updBlock
    | 3 => s.updFinish
    | 4 => s.updAbort
    | 5 => s.updConfirm.updDone
    | 6 => s.updRevert
    | _ => s

/-- PLANNED_SWAP_RELEASE (R320, R425): a revert that waited for the swap follows it. -/
def execPlannedSwapRelease (s : State) : Result :=
  whileOn s Blk.AHN fun s =>
    let t := s.swapRelease
    if t.isActive then t else t.revertNow

/-! ## Quarantine (R445) -/

/-- 24 h, ns. -/
abbrev quarantineNs : Nat := 86400 * nsPerSec

/-- A machine index enters quarantine. -/
def State.quarantineSet (s : State) (mi : Nat) : State :=
  let s := s.quarantineClear mi
  ({ s with nand := { s.nand with quarantine := s.nand.quarantine.set none mi (some (s.nand.validNs + quarantineNs)) } }).airMachMirror mi

/-- A machine index is in quarantine. -/
def State.quarantined (s : State) (mi : Nat) : Bool := (s.nand.quarantine.get none mi).isSome

/-- QUARANTINE_EXPIRY (R445): 24 h of valid device time have passed. -/
def execQuarantineExpiry (mi : Nat) (s : State) : Result :=
  whileRunning s fun s =>
    match s.nand.quarantine.get none mi with
    | some t =>
      if t ≤ s.nand.validNs then
        ({ s with nand := { s.nand with quarantine := s.nand.quarantine.set none mi none } }).airMachMirror mi
      else s
    | none => s

end Sys2Proof.Machine
end

