-- ==== Sys2Proof/Machine/Second.lean ====
section
/-!
DEFINITION. The whole second (R190, R470): PPS_OUT and the figures that cover the last whole second.
-/

namespace Sys2Proof.Machine

/-- `CLS_BANKLOAD0`–`CLS_BANKLOAD3`: the interval checks each bank made in the last whole second (R73, R74). The errors that ECC corrected
in that second (R76) are a free number. -/
def State.clsSecond (s : State) : State :=
  if !s.blkOn Blk.CLS then s
  else
    let s := (List.range 4).foldl (fun s n => s.setFld (F.CLS_BANKLOAD_RATE.nth n) (saturate 32 (s.cls.load.get 0 n))) s
    let r := { s with cls := { s.cls with load := [] } }.draw
    r.2.setFld F.CLS_ECC_CORRECTED (saturate 16 (s.fld F.CLS_ECC_CORRECTED + r.1))

/-- `SLV_RATE.ACTUAL`: the outcomes of the last whole second. -/
def State.slvSecond (s : State) : State :=
  if !s.blkOn Blk.SLV then s
  else (s.setFld F.SLV_RATE_ACTUAL (saturate 16 s.slv.outcomes)).setSlv fun v => { v with outcomes := 0 }

/-- `LPE_RATE.ACTUAL`, with event 189 when it reaches 1,350,000 (R300). -/
def State.lpeSecond (s : State) : State :=
  if !s.blkOn Blk.LPE then s
  else
    let was := s.fld F.LPE_RATE_ACTUAL
    let n := s.lpe.updates
    let s := (s.setFld F.LPE_RATE_ACTUAL (saturate 21 n))
    let s := { s with lpe := { s.lpe with updates := 0 } }
    if was < 1350000 ∧ 1350000 ≤ n then s.raise Ev.LPE_LOAD_HIGH 0 else s

/-- `AHN_MIRROR.MBPS`: the messages' coding on the link is not given, so the rate is a free value. -/
def State.ahnSecond (s : State) : State :=
  if !s.blkOn Blk.AHN then s else let r := s.draw; r.2.setFld F.AHN_MIRROR_MBPS r.1

/-- A boundary of R470. -/
def State.secondMark (s : State) : State :=
  (s.setTim fun t => { t with second := some s.mono }).clsSecond.slvSecond.lpeSecond.ahnSecond.dmuSecond

/-- PPS_EDGE (R190, R470): the whole second of device time, and the edge of PPS_OUT, each at least 500 ms after the one before. -/
def execPpsEdge (s : State) : Result :=
  whileRunning s fun s =>
    (if s.atSecond 0 && dueSince s s.tim.second 500000000 then s.secondMark else s).ppsPulse

end Sys2Proof.Machine
end

