-- ==== Sys2Proof/Machine/SolutionCheck.lean ====
section
/-!
DEFINITION. The solution check (R64–R69) with what it starts in LPE (R296), AUT and DSP, and the memory fault (R76).
-/

namespace Sys2Proof.Machine

/-! ## The check (R64–R68) -/

/-- The inflated footprint of a solution (R64). -/
def State.inflated (s : State) (r : SolRec) : Footprint :=
  ⟨r.e, r.n, s.fldB r.mi F.CLS_MACH_DATA_RADIUS_MM + r.h3 + s.fld F.CLS_INFL_FIXED_MM⟩

/-- The horizontal speed is at most STANDSTILL (R67). -/
def State.standsStill (s : State) (r : SolRec) : Bool :=
  let v := s.fld F.CLS_INFL_STANDSTILL
  decide (r.ve * r.ve + r.vn * r.vn ≤ ((v * v : Nat) : Int))

/-- The machine's candidate clauses at clause time `t`, in the order of its chain (R64). -/
def ClsSt.candidates (tb : ClsSt) (mi t : Nat) : List Nat :=
  (tb.chain mi).filter fun i => decide ((tb.clause i).t0 ≤ t) && decide (t < (tb.clause i).t1)

/-- The reasons of a solecism (R67). -/
abbrev Solecism.SPACE : Nat := 1
abbrev Solecism.TIME : Nat := 2
abbrev Solecism.UNHELD : Nat := 3
abbrev Solecism.UNCONFIRMABLE : Nat := 4

/-- What the check finds (R67): the clauses that passed, no clause at standstill, or a solecism and its reason. -/
inductive CheckFound where
  | inside (passed : List Nat)
  | noClause
  | outside (reason : Nat)
  deriving DecidableEq, Repr

/-- The check of footprint `f` of machine `mi` at `t` (R65–R68): the first segment clause that passes, or every candidate cell
clause that holds a cell the square touches. -/
def ClsSt.check (tb : ClsSt) (m : List Byte) (mi t : Nat) (f : Footprint) (still : Bool) : CheckFound :=
  let cands := tb.candidates mi t
  if cands.isEmpty then
    if still then .noClause
    else .outside (if (tb.chain mi).isEmpty then Solecism.UNHELD else Solecism.TIME)
  else
    match cands.find? fun i => tb.inSegment m i (tb.clause i) f with
    | some i => .inside [i]
    | none =>
      match cellTest m f (cands.map tb.clause) with
      | some true =>
        let touched := squareCells m f
        .inside (cands.filter fun i => (tb.clause i).isCell
          && (blockCells m (tb.clause i).space (tb.clause i).lo).any fun c => touched.contains c)
      | some false => .outside Solecism.SPACE
      | none => .outside Solecism.UNCONFIRMABLE

/-- CURRENT set in the clauses that passed and cleared in the machine's others (R68). -/
def ClsSt.setCurrent (tb : ClsSt) (mi : Nat) (passed : List Nat) : ClsSt :=
  (tb.chain mi).foldl (fun (tb : ClsSt) i => tb.setClause i { tb.clause i with current := passed.contains i }) tb

/-- The clauses of the walk of R68 from the first of `l`: JOIN_NEXT is followed while the next T0 is not later than the T1 before
it. -/
def ClsSt.walk (tb : ClsSt) : List Nat → List Nat
  | i :: j :: rest =>
    if (tb.clause i).joinNext && decide ((tb.clause j).t0 ≤ (tb.clause i).t1) then i :: tb.walk (j :: rest) else [i]
  | l => l

/-- The end point of a segment clause in whole mm; the spec does not state the rounding (log 30). -/
def endPoint (m : List Byte) (c : Clause) : Int × Int :=
  match mapSeg m c.space with
  | none => (0, 0)
  | some g =>
    let p := segPoint g (if c.dir then c.lo else c.hi)
    (Config.roundQuot p.1 g.length, Config.roundQuot p.2 g.length)

/-- The smallest number of a list that is not 0; 0 where there is none. -/
def leastNonzero (l : List Nat) : Nat := (l.filter (· != 0)).foldl (fun a b => if a = 0 then b else min a b) 0

/-- What CLS passes to AUT for an INSIDE result (R68). -/
def ClsSt.grant (tb : ClsSt) (m : List Byte) (mi : Nat) (f : Footprint) (passed : List Nat) : CheckResult :=
  let t1s (l : List Nat) : Nat := (l.map fun i => (tb.clause i).t1).foldl min clauseForever
  match passed with
  | i :: _ =>
    if (tb.clause i).isCell then .inside true f.e f.n (t1s passed) 0
    else
      let w := tb.walk ((tb.chain mi).dropWhile (· != i))
      let last := tb.clause (w.getLast?.getD i)
      let p := endPoint m last
      .inside false p.1 p.2 (t1s w)
        (leastNonzero (w.map fun j => ((mapSeg m (tb.clause j).space).map (fun g => g.vmax.toNat)).getD 0))
  | [] => .outside Solecism.UNCONFIRMABLE

/-! ## The gap slots (R296) -/

/-- An offset along the shared segment in direction DIR, whole mm (R296). -/
def gapOffset (g : Segment) (dir : Bool) (q : GapSol) : Int :=
  let dx := g.be - g.ae
  let dy := g.bn - g.an
  let o := Config.alongMm ((q.e - g.ae) * dx + (q.n - g.an) * dy) (dx * dx + dy * dy)
  if dir then (g.length : Int) - o else o

/-- The leader's speed along DIR, mm/s, not below 0 (R296). -/
def gapSpeed (g : Segment) (dir : Bool) (q : GapSol) : Int :=
  let dx := g.be - g.ae
  let dy := g.bn - g.an
  let v := Config.alongMm (q.ve * dx + q.vn * dy) (dx * dx + dy * dy)
  max 0 (if dir then -v else v)

/-- The leader's newest outcome is Q3. -/
def State.newestQ3 (s : State) (mi : Nat) : Bool :=
  match s.slv.last.get none mi with
  | some r => r.qclass == 3
  | none => false

/-- While the leader's offset lies beyond LENGTH, the slot gives OUT_MAX and holds its accumulator (R296). -/
def State.gapBeyond (s : State) (n : Nat) : State :=
  ((s.setSlotReg n R.LPE_SLOT_OUT (Loop.outMax (s.loop n))).setFldB n F.LPE_SLOT_STAT_FORCED 0).gapMirror n

/-- GAP slot `n`, which serves follow-table entry `entry`, fires on a solution (R296). -/
def State.gapFire (s : State) (n entry : Nat) : State :=
  match s.cls.follow.get none entry, s.lpe.leadSol.get none n, s.lpe.follSol.get none n with
  | some p, some l, some f =>
    let c := s.cls.clause (p.leader % 2 ^ 18)
    match mapSeg s.clsMap c.space with
    | none => s.gapForce n entry
    | some g =>
      let a := gapSpeed g c.dir l
      let oL := gapOffset g c.dir l + (if l.epoch < f.epoch then Config.roundQuot (a * ((f.epoch - l.epoch : Nat) : Int)) 1000 else 0)
      let d := oL - gapOffset g c.dir f - ((l.r + f.r : Nat) : Int)
      if d ≤ 0 ∨ l.epoch + 1000 < f.epoch ∨ f.epoch + 1000 < l.epoch ∨ s.newestQ3 c.mi = true then s.gapForce n entry
      else if (g.length : Int) < oL then s.gapBeyond n
      else s.lpeFire ⟨n, sat32 d, sat32 a, some entry⟩
  | _, _, _ => s.gapForce n entry

/-- The slots that serve a pair in which machine `mi` leads or follows take its checked solution and fire (R296). -/
def State.gapSolution (s : State) (mi : Nat) (q : GapSol) : State :=
  if !s.blkOn Blk.LPE then s
  else
    s.gapSlots.foldl (fun s n =>
      match (s.slot n).pair with
      | none => s
      | some e =>
        if !s.flagB n F.LPE_SLOT_STAT_ASSIGNED then s
        else
          let m := s.followMis e
          let s := if m.1 = mi then { s with lpe := { s.lpe with leadSol := s.lpe.leadSol.set none n (some q) } } else s
          let s := if m.2 = mi then { s with lpe := { s.lpe with follSol := s.lpe.follSol.set none n (some q) } } else s
          if m.1 = mi ∨ m.2 = mi then s.gapFire n e else s) s

/-! ## The command -/

/-- A solecism: counted, `CLS_LASTSOL`, event 48 (R67, R78). -/
def State.solecism (s : State) (mi reason : Nat) : State :=
  let s := (s.bump F.CLS_SOLCNT_COUNT).setFld F.CLS_LASTSOL_REASON reason
  (s.setFld F.CLS_LASTSOL_MI mi).raise Ev.CLS_SOLECISM (mi + reason * 65536)

/-- The bank of each check a solution check makes (R69, R73): one for each clause of the machine's chain, and one for each cell its square
touches where the cell test is made and its limit not passed (log 76). -/
def ClsSt.solBanks (tb : ClsSt) (m : List Byte) (mi t : Nat) (f : Footprint) : List Nat :=
  let cands := tb.candidates mi t
  let cells := squareCells m f
  (tb.chain mi).map (fun i => (tb.clause i).space % 4)
    ++ (if cands.isEmpty || cands.any (fun i => tb.inSegment m i (tb.clause i) f) || decide (256 < cells.length) then []
      else cells.map fun c => c % 4)

/-- What the check of a solution finds (R67): UNCONFIRMABLE in memory fault (R76), and while device time cannot place the epoch. -/
def State.solFound (s : State) (r : SolRec) : CheckFound :=
  if s.flag F.CLS_STATUS_MEM_FAULT || !s.timeValid then .outside Solecism.UNCONFIRMABLE
  else s.cls.check s.clsMap r.mi r.epoch (s.inflated r) (s.standsStill r)

/-- The result takes effect in CLS, in the gap slots and in AUT, and for a solecism in DSP (R68, R276, R296). -/
def State.solApply (s : State) (r : SolRec) : State :=
  let f := s.inflated r
  let found := s.solFound r
  let s := s.bump F.CLS_CHECKS_COUNT
  let banks := if s.flag F.CLS_STATUS_MEM_FAULT || !s.timeValid then [] else s.cls.solBanks s.clsMap r.mi r.epoch f
  let s := { s with cls := { s.cls.addLoad banks with lastFp := s.cls.lastFp.set none r.mi (some f) } }
  let res : CheckResult := match found with
    | .inside passed => s.cls.grant s.clsMap r.mi f passed
    | .noClause => .noClause
    | .outside reason => .outside reason
  let s := match found with
    | .inside passed => s.setCls (s.cls.setCurrent r.mi passed)
    | .noClause => s
    | .outside reason => s.solecism r.mi reason
  let s := s.gapSolution r.mi ⟨r.epoch, r.e, r.n, r.ve, r.vn, f.r, r.qclass⟩
  let s := if s.blkOn Blk.AUT then s.autCheck r.mi r.qclass r.epoch res else s
  match found with
  | .outside _ => if s.isRevoked r.mi then s.dspDrop r.mi 4 else s
  | _ => s

/-- SOLUTION_CHECK (R64–R68): CLS checks the oldest solution delivered to it. -/
def execSolutionCheck (s : State) : Result :=
  whileOn s Blk.CLS fun s =>
    match s.slv.toCheck with
    | [] => s
    | r :: rest => (s.setSlv fun v => { v with toCheck := rest }).solApply r

/-- CLS_MEM_FAULT (R76, R305, R315): an ECC error. One that is corrected is counted; for one that cannot be, CLS enters memory fault, and
an active module gives up the role to a standby. -/
def execClsMemFault (s : State) : Result :=
  whileOn s Blk.CLS fun s =>
    let s := s.clsFault.failUpdate
    if s.isActive && s.partnerStandby then (s.release 3).roleFollow else s

end Sys2Proof.Machine
end

