-- ==== Sys2Proof/Machine/Parse.lean ====
section
/-!
DEFINITION. The parse check (R35–R39): the common reasons, and the reasons of each block's chapter. Each check gives DETAIL where it
fails; the reasons are tested in ascending order of code.
-/

namespace Sys2Proof.Machine

/-- A check that fails with DETAIL 0, or does not fail. -/
def failsIf (b : Bool) : Option Nat := if b then some 0 else none

/-- The first of numbered checks that fails: its code and DETAIL (R38). -/
def firstReason : List (Nat × Option Nat) → Option (Nat × Nat)
  | [] => none
  | (code, some d) :: _ => some (code, d)
  | (_, none) :: rest => firstReason rest

/-! ## What several blocks share -/

/-- The machine indices. -/
def allMis : List Nat := List.range 2048

/-- The applied image, empty where there is none. -/
def State.img (s : State) : List Byte := s.sim.applied.getD []

/-- With block `b` enabled, one of its outputs would name a ring that another output in use names (R338). -/
def State.outputClash (s : State) (b : Nat) : Bool :=
  let outs := (s.setFld (Blk.en b) 1).outputs
  outs.any fun o => o.1 == b && decide (1 < (outs.filter fun p => p.2 == o.2).length)

/-- Half the width of a modem's occupied channel, kHz (R207, R208). -/
def halfWidth (kind bw : Nat) : Nat :=
  if kind = Phy.NARROW then (if bw = 1 then 200 else 100) else (if bw = 1 then 10000 else 5000)

/-- The edges of modem `m`'s occupied channel, kHz. -/
def State.occupied (s : State) (m : Nat) : Int × Int :=
  let h := halfWidth (s.modemKind m) (s.modemBw m)
  ((s.modemFreq m : Int) - h, (s.modemFreq m : Int) + h)

/-- The modems that are not off. -/
def State.modemsIn (s : State) : List Nat := (List.range 12).filter fun m => s.modemKind m != 0

/-- The first two of a list that `p` holds of, as the later one. -/
def laterOf (l : List Nat) (p : Nat → Nat → Bool) : Option Nat := l.find? fun b => l.any fun a => decide (a < b) && p a b

/-! ## Common reasons (R38, R39) -/

/-- The clock domains a block uses (R11), in ascending order of R39's numbers: where several have stopped, DETAIL names the first, a DESIGN
CHOICE (log 75); the recovered domains of RHL and AHN belong to links that come up after enable (log 60). -/
def Blk.domains (b : Nat) : List Nat :=
  if b = Blk.TIM then [1]
  else if b = Blk.GRX then [2, 3]
  else if b = Blk.SLV || b = Blk.CLS || b = Blk.AIR || b = Blk.DSP || b = Blk.LPE || b = Blk.XQ then [3]
  else if b = Blk.AUT then [3, 12]
  else if b = Blk.PTP then [7]
  else if b = Blk.DMU then [10]
  else []

/-- The resources of R26 that a block's sections use. -/
def Blk.resources (b : Nat) : List Nat :=
  if b = Blk.SLV then [1] else if b = Blk.GRX then [2] else if b = Blk.AIR then [3, 4] else if b = Blk.XQ then [5]
  else if b = Blk.LPE then [6, 7] else if b = Blk.CLS then [8] else if b = Blk.RHL then [9] else []

/-- The resource of a block that the applied image exceeds. -/
def State.overResource (s : State) (b : Nat) : Option Nat :=
  match imgOverRes s.img with
  | some r => if (Blk.resources b).contains r then some r else none
  | none => none

/-- The lowest usage number of a key the block uses and the Key Tree lacks (R413). -/
def State.missingKey (s : State) (b : Nat) : Option Nat :=
  if s.keys.pairRoot.isSome then none
  else if b = Blk.AUT || b = Blk.AIR then some 6
  else if b = Blk.AHN then some 5
  else none

/-- The life cycle forbids the block (R420). -/
def State.lcForbids (s : State) (b : Nat) : Bool :=
  s.keys.lc == 3 && (b == Blk.AUT || b == Blk.AIR || b == Blk.AHN || b == Blk.UPD)

/-- Registers whose range a reason of the block's own checks. -/
def ownReason : List Nat := [R.CLS_POL_DATA, R.CLS_MACH_DATA, R.SLV_RCLASS_DATA]

/-- The entries of a register that may hold more than reset values: entry 0, and those that were written. -/
def State.entriesOf (s : State) (a : Nat) : List Nat :=
  0 :: (s.regs.filter fun e => e.1 % 0x4000000 == a).map fun e => e.1 / 0x4000000

/-- Some field of a register is out of range, at its reset value or as written (R38, 0x09). -/
def State.regBad (s : State) (d : RegDesc) : Bool :=
  (List.range d.count).any fun n => ((d.fieldsAt n).filter fun fd => fd.range != .any).any fun fd =>
    (s.entriesOf (d.addr + 4 * n)).any fun e => !s.inRange e fd

/-- Some field of block `b` is out of range. -/
def State.rangeBad (s : State) (b : Nat) : Bool :=
  Regs.table.any fun d =>
    Blk.at' d.addr == some b && !ownReason.contains d.addr && d.fields.any (fun fd => fd.range != .any) && s.regBad d

/-- The MODEMS entry of a modem holds a value outside the ranges of R207–R209: KIND, BW, DUTY_PM, or a centre frequency off its steps of 12.5 kHz or
5 MHz. -/
def State.modemBad (s : State) (m : Nat) : Bool :=
  let r := s.modemRow m
  decide (2 < s.modemKind m) || (s.modemKind m != 0 && (decide (1 < s.modemBw m) || decide (1000 < Bytes.at' r 10 2)
    || (if s.modemKind m = Phy.NARROW then 2 * Bytes.at' r 4 4 % 25 != 0 else Bytes.at' r 4 4 % 5000 != 0)))

/-- The HEADS section holds a value outside the ranges of R258: PORT, LINK or STREAM. -/
def State.headsBad (s : State) : Bool :=
  ([0, 1].any fun l => (List.range 4).any fun n => decide (3 < s.strPort l n))
    || (List.range 12).any fun m => (decide (1 < s.modemLink m) && s.modemLink m != 0xFF) || decide (3 < s.modemStream m)

/-- Something host-set refers to what the applied image does not create: at expert level a lane that is OFF, a wide channel that no
modem gives; for AHN a partner of another site (R39). -/
def State.mismatch (s : State) (b : Nat) : Bool :=
  if b = Blk.SLV then
    s.expert b && (List.range 32).any fun l => bitOf (s.reg R.SLV_WAKE).toNat l && s.laneRole l == 0
  else if b = Blk.AIR then
    s.expert b && allMis.any fun mi => s.flagB mi F.AIR_MACH_REG_VALID && s.fldB mi F.AIR_MACH_GRANT0_K != 0
      && (s.wideModem (s.fldB mi F.AIR_MACH_GRANT0_WCH)).isNone
  else if b = Blk.AHN then
    match s.ahn.hello with
    | some h =>
      let o := s.ownHello
      s.ahn.linkUp && (h.pairTag != o.pairTag || h.originX != o.originX || h.originY != o.originY || h.originZ != o.originZ
        || h.siteEpoch != o.siteEpoch)
    | none => false
  else false

/-- The common reasons for block `b`; `stopped` are the domains whose clock does not run. No rule gives a configuration that the pair
role forbids, so 0x08 is never found. -/
def State.commonReasons (s : State) (b : Nat) (stopped : List Nat) : List (Nat × Option Nat) := [
  (0x01, failsIf (s.sim.applied.isNone || !imgPresent s.img b)),
  (0x02, failsIf (s.mismatch b)),
  (0x03, s.overResource b),
  (0x04, (Blk.domains b).find? fun d => stopped.contains d),
  (0x05, (Blk.requires b).find? fun r => !s.blkOn r),
  (0x06, s.missingKey b),
  (0x07, failsIf (s.lcForbids b)),
  (0x09, failsIf (s.rangeBad b || (b == Blk.AIR && (List.range 12).any s.modemBad) || (b == Blk.RHL && s.headsBad))),
  (0x0A, failsIf (s.expert b && !bitOf (imgSflags s.img b) 0))]

/-! ## XQ (R358, R469) -/

/-- The domain of an endpoint, by its block and port; none where it does not exist. -/
def endpointDomain (e : Nat) : Option Nat :=
  let b := e / 256
  let p := e % 256
  if b = 0 then (if p < 8 then some 4 else none)
  else if (Blk.base b).isNone then none
  else if b = Blk.GRX then some (if p < 0x80 then 2 else 3)
  else if b = Blk.RHL then some (if p < 0x80 then 5 else 6)
  else if b = Blk.AUT then some (if p < 0x80 then 3 else 12)
  else if b = Blk.AHN then some 9
  else if b = Blk.TIM then some 1
  else if b = Blk.PTP || b = Blk.ETH then some 7
  else if b = Blk.HST then some 8
  else if b = Blk.DMU then some 10
  else some 3

/-- XQ's reasons. An endpoint serves at most one queue (R347), at either end. -/
def State.xqReasons (s : State) : List (Nat × Option Nat) :=
  let qs := (List.range 160).filter s.xqConnected
  let prod (q : Nat) : Nat := (s.xqEntry q).1
  let cons (q : Nat) : Nat := (s.xqEntry q).2.1
  let depth (q : Nat) : Nat := (s.xqEntry q).2.2.1
  [ (0x20, qs.find? fun q => (endpointDomain (prod q)).isNone || (endpointDomain (cons q)).isNone),
    (0x21, qs.find? fun q => endpointDomain (prod q) == endpointDomain (cons q)),
    (0x22, qs.find? fun q => depth q < 4 || 12 < depth q),
    (0x23, laterOf qs fun a q => prod a == prod q || cons a == cons q || prod a == cons q || cons a == prod q),
    (0x24, qs.find? fun q => bitOf (s.xqEntry q).2.2.2 0 && prod q / 256 != Blk.DSP && cons q / 256 != Blk.DSP),
    (0x25, failsIf (decide (131072 < (qs.map fun q => 2 ^ depth q).sum)))]

/-! ## CLS (R79) -/

/-- A segment record obeys R44 in LENGTH, HALF_W and SFLAGS. -/
def segmentOk (g : Segment) : Bool :=
  let d2 := (g.be - g.ae) * (g.be - g.ae) + (g.bn - g.an) * (g.bn - g.an)
  let l : Int := g.length
  decide (1000 ≤ g.length) && decide (g.length ≤ 1000000)
    && decide ((2 * l - 3) * (2 * l - 3) ≤ 4 * d2) && decide (4 * d2 < (2 * l + 3) * (2 * l + 3))
    && decide (500 ≤ g.halfW) && decide (g.halfW ≤ 32000) && decide (g.sflags < 4)

/-- A zone record obeys R45. -/
def zoneOk (z : Zone) : Bool :=
  decide (500 ≤ z.cellMm) && decide (z.cellMm ≤ 50000) && decide (1 ≤ z.cols) && decide (1 ≤ z.rows) && decide (z.cols * z.rows ≤ 65536)

/-- An end of an overlap entry names a space of the map and a range inside it (R46). -/
def ovlEndOk (m : List Byte) (e : OvlEnd) : Bool := spaceOk m e.spaceWord e.lo e.hi && (!spaceIsCell e.spaceWord || e.lo == 0)

/-- `p` fails on some record of an array of the map. -/
def anyRecord {α : Type} (n : Nat) (r : Nat → Option α) (p : α → Bool) : Bool :=
  (List.range n).any fun i => match r i with
    | some x => !p x
    | none => false

/-- CLS's reasons. -/
def State.clsReasons (s : State) : List (Nat × Option Nat) :=
  let m := s.clsMap
  [ (0x20, failsIf (imgSection s.img Sec.MAP Blk.CLS).isNone),
    (0x21, failsIf (anyRecord (mapSegs m) (mapSeg m) segmentOk)),
    (0x22, failsIf (anyRecord (mapZones m) (mapZone m) zoneOk)),
    (0x23, failsIf ((List.range (mapOvls m)).any fun i => !ovlEndOk m (mapOvl m i).1 || !ovlEndOk m (mapOvl m i).2)),
    (0x24, failsIf ((List.range 1024).any fun i => s.fldB i F.CLS_POL_DATA_ACTION == 3)),
    (0x25, failsIf (allMis.any fun mi => s.machValid mi
      && (s.fldB mi F.CLS_MACH_DATA_RADIUS_MM == 0 || decide (20000 < s.fldB mi F.CLS_MACH_DATA_RADIUS_MM)))),
    (0x26, failsIf (decide (256 < mapZones m) || decide (524288 < mapOvls m)))]

/-! ## AUT (R110) -/

/-- AUT's reasons. -/
def State.autReasons (s : State) : List (Nat × Option Nat) := [
  (0x20, (allMis.find? fun mi => s.machValid mi && decide (64 * s.fld F.AUT_LIFE_COVER ≤ mi)).map fun mi => mi / 64),
  (0x21, failsIf (decide (s.fld F.AUT_REC_REC_LIFE_MS < 2 * s.fld F.AUT_REC_REPEAT_MS))),
  (0x22, failsIf (s.modemsOf Phy.NARROW).isEmpty),
  (0x23, failsIf (!s.warden.selfTest || s.warden.fault != 0)),
  (0x24, failsIf s.keys.seqStore.isNone),
  (0x25, failsIf (decide (s.fld F.AUT_QCEIL01_Q0 < s.fld F.AUT_QCEIL01_Q1) || decide (s.fld F.AUT_QCEIL01_Q1 < s.fld F.AUT_QCEIL2_Q2)))]

/-! ## SLV (R148) -/

/-- The lanes of role MACHINE or SHARED. -/
def State.solveLanes (s : State) : List Nat := (List.range 32).filter fun l => s.laneRole l == 1 || s.laneRole l == 2

/-- The entries of `SLV_AUX_CFG` that are enabled. -/
def State.auxOn (s : State) : List Nat := (List.range 5).filter fun n => s.flagB n F.SLV_AUX_CFG_EN

/-- SLV's reasons. -/
def State.slvReasons (s : State) : List (Nat × Option Nat) :=
  let h (f : Fld) : Nat := s.fld f
  [ (0x20, failsIf s.solveLanes.isEmpty),
    (0x21, failsIf s.nand.heldA.isNone),
    (0x22, match Regs.descAt R.SLV_RCLASS_DATA with
      | some d => (List.range 8).find? fun c => d.fields.any fun fd => !s.inRange c fd
      | none => none),
    (0x23, failsIf !(decide (h F.SLV_QBOUND1_H3_FLOOR < h F.SLV_QBOUND0_H3_Q0) && decide (h F.SLV_QBOUND0_H3_Q0 < h F.SLV_QBOUND0_H3_Q1)
      && decide (h F.SLV_QBOUND0_H3_Q1 < h F.SLV_QBOUND1_H3_Q2))),
    (0x24, failsIf ((allMis.any fun mi => s.fldB mi F.SLV_MACH_CFG_REFSEL != 0
        && !s.auxOn.contains (s.fldB mi F.SLV_MACH_CFG_REFSEL - 1))
      || (laterOf s.auxOn fun a b => s.fldB a F.SLV_AUX_CFG_RING == s.fldB b F.SLV_AUX_CFG_RING).isSome)),
    (0x25, failsIf (decide (s.solveLanes.length < s.fld F.SLV_LANES_RESERVE + 1))),
    (0x26, failsIf (decide (256 < (allMis.filter fun mi => s.flagB mi F.SLV_MACH_CFG_LINK_IN).length))),
    (0x27, failsIf (s.outputClash Blk.SLV))]

/-! ## GRX (R178) -/

/-- A channel entry obeys R154. -/
def State.chanEntryOk (s : State) (c : Nat) : Bool :=
  let sig := s.chanSig c
  let sv := Bytes.at' (s.chanRow c) 2 1
  decide (sig ≤ 16) && decide (sv ≤ svidMax sig) && (!s.chanFixed c || sv != 0)

/-- Two FIXED channels have the same signal, satellite and antenna. -/
def State.chanTwin (s : State) (a b : Nat) : Bool :=
  s.chanFixed a && s.chanFixed b && s.chanSig a == s.chanSig b && s.chanAnt a == s.chanAnt b
    && Bytes.at' (s.chanRow a) 2 1 == Bytes.at' (s.chanRow b) 2 1

/-- The slots of the allocated channels are GRX tracking loops, each of one channel. -/
def State.chanSlotsOk (s : State) : Bool :=
  let slots := s.chans.flatMap fun c => [s.chanCarr c, s.chanCode c]
  s.chans.all (fun c => Loop.kind (s.loop (s.chanCarr c)) == 1 && Loop.kind (s.loop (s.chanCode c)) == 2)
    && slots.eraseDups.length == slots.length

/-- GRX's reasons. -/
def State.grxReasons (s : State) : List (Nat × Option Nat) :=
  let head := imgSec s.img Sec.POLICY Blk.GRX
  [ (0x20, failsIf (s.chans.all fun c => s.chanAnt c != 0)),
    (0x21, failsIf (s.chans.any (fun c => !s.chanEntryOk c) || (laterOf s.chans s.chanTwin).isSome)),
    (0x22, failsIf !s.chanSlotsOk),
    (0x23, failsIf (match s.nand.heldA with
      | some p => beyond10km s.siteOrigin p
      | none => false)),
    (0x24, failsIf (match s.nand.heldA, s.nand.heldB with
      | some a, some b => decide (dist2 a b < minBaseline2)
      | _, _ => false)),
    (0x25, failsIf ((s.flag F.GRX_RTCM_EN && s.msmNumbers.isEmpty) || (List.range 5).any fun i => decide (31 < Bytes.at' head (32 * i) 1))),
    (0x26, failsIf (s.fld F.GRX_TRK_CODE_MS % s.fld F.GRX_TRK_CARR_MS != 0)),
    (0x27, failsIf (s.outputClash Blk.GRX))]

/-! ## TIM and PTP (R205) -/

/-- An output preset armed breaks R194 in period or width. -/
def State.outBad (s : State) (n : Nat) : Bool :=
  s.flagB n F.TIM_TO_CFG_ARM && (decide (s.outWidth n < 10)
    || (s.flagB n F.TIM_TO_CFG_PERIODIC && (decide (s.outPeriod n < 100) || decide (s.outPeriod n ≤ s.outWidth n))))

/-- TIM's reasons. -/
def State.timReasons (s : State) : List (Nat × Option Nat) :=
  let f := s.loop s.freqSlot
  let p := s.loop s.phaseSlot
  [ (0x20, failsIf !(Loop.kind f == 3 && Loop.kind p == 4 && Loop.trig p == Trig.CASCADE && Loop.arg p == s.freqSlot
      && Loop.cascadeK p == 10)),
    (0x21, failsIf ((List.range 8).any s.outBad))]

/-- PTP's reasons. -/
def State.ptpReasons (s : State) : List (Nat × Option Nat) :=
  let t (p : Nat) : Bool := s.ptpMode p == PtpMode.TRANSPARENT
  [ (0x20, failsIf (t 0 != t 1)),
    (0x21, failsIf (t 0 && t 1 && s.ptpP2p 0 != s.ptpP2p 1)),
    (0x22, failsIf (s.ptpMode 0 == PtpMode.OFF && s.ptpMode 1 == PtpMode.OFF)),
    (0x23, failsIf (s.outputClash Blk.PTP))]

/-! ## AIR (R248) -/

/-- The bands of R207 and R208, kHz. -/
def bandsOf (kind : Nat) : List (Int × Int) :=
  if kind = Phy.NARROW then [(863000, 870000), (902000, 928000)] else [(2400000, 2483500), (5725000, 5875000)]

/-- INDEX of each kind runs densely from 0. -/
def State.indexDense (s : State) (kind : Nat) : Bool :=
  let ms := s.modemsOf kind
  (List.range ms.length).all fun i => ms.any fun m => s.modemIndex m == i

/-- Two VALID registry entries share an address or a serial. -/
def State.registryTwin (s : State) (a b : Nat) : Bool :=
  s.fldB a F.AIR_MACH_REG_ADDR == s.fldB b F.AIR_MACH_REG_ADDR
    || (s.regB a R.AIR_MACH_SER_LO == s.regB b R.AIR_MACH_SER_LO && s.regB a R.AIR_MACH_SER_HI == s.regB b R.AIR_MACH_SER_HI)

/-- AIR's reasons. -/
def State.airReasons (s : State) : List (Nat × Option Nat) :=
  let pid := s.fld F.AIR_CFG_PAIR_ID
  let valid := allMis.filter fun mi => s.flagB mi F.AIR_MACH_REG_VALID
  let snd := (List.range 64).filter fun n => s.flagB n F.AIR_SND_CFG_EN
  [ (0x20, s.modemsIn.find? fun m => !(bandsOf (s.modemKind m)).any fun b =>
      decide (b.1 ≤ (s.occupied m).1) && decide ((s.occupied m).2 ≤ b.2)),
    (0x21, laterOf s.modemsIn fun a b => decide ((s.occupied a).1 < (s.occupied b).2) && decide ((s.occupied b).1 < (s.occupied a).2)),
    (0x22, failsIf (s.modemsOf Phy.NARROW).isEmpty),
    (0x23, failsIf (pid == 0 || pid == 0xFFFF)),
    (0x24, failsIf (laterOf valid s.registryTwin).isSome),
    (0x25, (s.modemsOf Phy.NARROW).find? fun m => s.fldB m F.AIR_MOD_DUTY_DUTY_PM != 0
      && decide (s.fldB m F.AIR_MOD_DUTY_DUTY_PM * nsPerMs < 20 * s.beaconNs m)),
    (0x26, failsIf (laterOf snd fun a b => s.fldB a F.AIR_SND_CFG_ADDR == s.fldB b F.AIR_SND_CFG_ADDR).isSome),
    (0x27, failsIf !(s.indexDense Phy.NARROW && s.indexDense Phy.WIDE))]

/-! ## RHL (R266) -/

/-- A modem is unmapped, or mapped to a stream that is off. -/
def State.modemUnmapped (s : State) (m : Nat) : Bool := s.modemLink m == 0xFF || s.strRate (s.modemLink m) (s.modemStream m) == 0

/-- A modem's occupied channel leaves the usable band of its stream (R257). -/
def State.modemOutside (s : State) (m : Nat) : Bool :=
  let c : Int := s.strCentre (s.modemLink m) (s.modemStream m)
  let band : Int := 875 * streamRate (s.strRate (s.modemLink m) (s.modemStream m))
  decide (2000 * (c - (s.occupied m).1) > band) || decide (2000 * ((s.occupied m).2 - c) > band)

/-- RHL's reasons. -/
def State.rhlReasons (s : State) : List (Nat × Option Nat) := [
  (0x20, s.modemsIn.find? s.modemUnmapped),
  (0x21, s.modemsIn.find? s.modemOutside),
  (0x22, failsIf ([0, 1].any fun l => (List.range 4).any fun n => decide (9 < s.strRate l n))),
  (0x23, failsIf ([0, 1].any fun l => (laterOf (s.strUsed l) fun a b => s.strPort l a == s.strPort l b).isSome))]

/-! ## DSP (R285) -/

/-- DSP's reasons. -/
def State.dspReasons (s : State) : List (Nat × Option Nat) :=
  let ins := (List.range 160).filter s.isIntake
  [ (0x20, failsIf ins.isEmpty),
    (0x21, failsIf (ins.any fun q => (s.replyQueue q).isNone)),
    (0x22, (allMis.find? fun mi => s.flagB mi F.DSP_MACH_CFG_EN && !s.flagB mi F.AIR_MACH_REG_VALID).map fun mi => mi / 8),
    (0x23, failsIf (s.outputClash Blk.DSP))]

/-! ## LPE (R300) -/

/-- A programmed slot's entry obeys R288. -/
def slotEntryOk (p : List Byte) : Bool :=
  let k := Loop.kind p
  decide (k ≤ 6) && decide (Loop.trig p ≤ 3) && (List.range 4).all (fun i => decide (Loop.shift p i ≤ 62))
    && Loop.order p != 0 && !(Loop.classF p && (decide (k ≤ 4) || Loop.order p == 3))
    && (k != Kind.GAP || (Loop.classF p && Loop.aid p && Loop.coef p 3 == 1 && Loop.shift p 3 == 0))

/-- The slots of the chain that begins at `n` and goes inwards; at most `fuel` of them. -/
def State.innerChain (s : State) : (fuel : Nat) → (n : Nat) → Nat
  | 0, _ => 0
  | fuel + 1, n => if Loop.trig (s.loop n) = Trig.CASCADE then s.innerChain fuel (Loop.arg (s.loop n)) + 1 else 1

/-- A CASCADE slot breaks R294. -/
def State.cascadeBad (s : State) (slots : List Nat) (n : Nat) : Bool :=
  Loop.trig (s.loop n) == Trig.CASCADE && (Loop.arg (s.loop n) == n || !slots.contains (Loop.arg (s.loop n))
    || decide (4 < s.innerChain 5 n)
    || slots.any fun o => o != n && Loop.trig (s.loop o) == Trig.CASCADE && Loop.arg (s.loop o) == Loop.arg (s.loop n))

/-- A slot breaks the limits. -/
def slotLimitsBad (p : List Byte) : Bool :=
  decide (Loop.outMax p < Loop.outMin p) || (Loop.classF p && (decide (0 < Loop.limA p) || decide (Loop.limB p < 0)))

/-- LPE's reasons. -/
def State.lpeReasons (s : State) : List (Nat × Option Nat) :=
  let slots := (List.range 2048).filter fun n => Loop.kind (s.loop n) != 0
  let pol := imgSec s.img Sec.POLICY Blk.CLS
  let detail (o : Option Nat) : Option Nat := o.map fun n => n / 8
  [ (0x20, detail (slots.find? fun n => !slotEntryOk (s.loop n))),
    (0x21, detail (slots.find? (s.cascadeBad slots))),
    (0x22, detail (slots.find? fun n => slotLimitsBad (s.loop n))),
    (0x23, failsIf (!pol.isEmpty && s.gapSlots.isEmpty && (List.range 1024).any fun i => Bytes.at' pol (4 * i) 1 % 4 == 1))]

/-! ## AHN (R328) -/

/-- AHN's reasons; those about the partner need its HELLO. -/
def State.ahnReasons (s : State) : List (Nat × Option Nat) :=
  let partner (p : Hello → Hello → Bool) : Bool := match s.ahn.hello with
    | some h => s.ahn.linkUp && p h s.ownHello
    | none => false
  let rx := s.fld F.AHN_SW_RX_RING
  let tx := s.fld F.AHN_SW_TX_RING
  [ (0x20, failsIf (partner fun h o => h.slot == o.slot)),
    (0x21, failsIf (partner fun h o => h.pairId != o.pairId)),
    (0x22, failsIf (!s.flag F.GRX_ANT_SHARED_A || !s.flag F.GRX_ANT_SHARED_B)),
    (0x23, failsIf (s.flag F.AHN_SW_EN && (rx == tx
      || s.outputs.any fun o => o.1 != Blk.AHN && (o.2 == rx || o.2 == tx))))]

/-! ## DMU (R410) -/

/-- The roles a group of a KIND needs, each once (R394). -/
def rolesOf (kind : Nat) : List Nat :=
  if kind = 1 then [1, 2, 3, 4, 5, 6] else if kind = 2 then [1, 4] else if kind = 3 then [7, 8] else []

/-- A group's inputs are not just those its KIND needs. -/
def State.groupBad (s : State) (g : Nat) : Bool :=
  let roles := (s.inputsOf g).map s.inRole
  !((rolesOf (s.grpKind g)).all (fun r => roles.count r == 1) && roles.all (fun r => (rolesOf (s.grpKind g)).contains r))

/-- DMU's reasons. -/
def State.dmuReasons (s : State) : List (Nat × Option Nat) :=
  let clk (n : Nat) : Nat := Bytes.at' s.metering (12 * n + 2) 1
  [ (0x20, (List.range 24).find? fun n => s.inGroup n != 0xFF
      && (s.inRole n == 0 || decide (8 < s.inRole n) || decide (2 < clk n) || s.inFs n == 0)),
    (0x21, (List.range 16).find? s.groupBad),
    (0x22, ((List.range 8).find? fun n => s.flagB n F.DMU_PO_CFG_EN && s.grpKind (s.fldB n F.DMU_PO_CFG_GROUP) == 0).map fun n =>
      s.fldB n F.DMU_PO_CFG_GROUP),
    (0x23, failsIf (s.outputClash Blk.DMU))]

/-! ## The check -/

/-- The reasons of the block's own chapter. -/
def State.blockReasons (s : State) (b : Nat) : List (Nat × Option Nat) :=
  if b = Blk.XQ then s.xqReasons else if b = Blk.LPE then s.lpeReasons else if b = Blk.TIM then s.timReasons
  else if b = Blk.RHL then s.rhlReasons else if b = Blk.GRX then s.grxReasons else if b = Blk.SLV then s.slvReasons
  else if b = Blk.CLS then s.clsReasons else if b = Blk.AIR then s.airReasons else if b = Blk.AUT then s.autReasons
  else if b = Blk.DSP then s.dspReasons else if b = Blk.AHN then s.ahnReasons else if b = Blk.DMU then s.dmuReasons
  else if b = Blk.PTP then s.ptpReasons else []

/-- The first reason for which the parse check of block `b` refuses: reason and DETAIL (R38). -/
def State.parseReason (s : State) (b : Nat) (stopped : List Nat) : Option (Nat × Nat) :=
  match firstReason (s.commonReasons b stopped) with
  | some r => some r
  | none => firstReason (s.blockReasons b)

end Sys2Proof.Machine
end

