-- ==== Sys2Proof/Machine/Apply.lean ====
section
/-!
DEFINITION. SIM at work on the blocks (R9, R10, R27, R30, R32, R35–R39): writes to CTRL registers, the parse check, what a block does as
it is enabled and disabled, applying an image, the load at start-up.
-/

namespace Sys2Proof.Machine

/-! ## Enabling a block (R36) -/

/-- Every queue the image connects starts empty (R348). -/
def State.xqStart (s : State) : State := { s with xq := [] }

/-- CLS starts: it keeps its clauses (R471), and its figures of the last whole second read 0 (R470). -/
def State.clsStart (s : State) : State :=
  let s := (List.range 4).foldl (fun s n => s.setFld (F.CLS_BANKLOAD_RATE.nth n) 0) s
  { s with cls := { s.cls with load := [], sweptAt := none } }

/-- LPE starts: free slots go to the pairs that wait (R295). -/
def State.lpeStart (s : State) : State :=
  let s := ({ s with lpe := { s.lpe with updates := 0 } }).setFld F.LPE_RATE_ACTUAL 0
  if s.gapAuto then s.gapEnable else s

/-- RHL starts: its transmitters come on, and links bring themselves up (R260). -/
def State.rhlEnable (s : State) : State := ((s.emit (.pin (.rhTx 0) true)).emit (.pin (.rhTx 1) true)).rhlStart

/-- AUT starts at its stored SEQ (R84) and the module may claim a role (R313). -/
def State.autEnable (s : State) : State :=
  let s := if s.ahn.role == .none then s.setAhn fun a => { a with roleSince := s.mono } else s
  (s.autStart s.storedSeq).roleClaim

/-- AHN starts: the partner's HELLO is compared (R307, R39). -/
def State.ahnEnable (s : State) : State := (s.setFld F.AHN_MIRROR_MBPS 0).helloCompare.roleClaim

/-- What a block does as it is enabled. AIR, DSP and UPD start with what they hold. -/
def State.blkStart (s : State) (b : Nat) : State :=
  if b = Blk.XQ then s.xqStart
  else if b = Blk.CLS then s.clsStart
  else if b = Blk.LPE then s.lpeStart
  else if b = Blk.TIM then s.timStart
  else if b = Blk.RHL then s.rhlEnable
  else if b = Blk.GRX then s.grxStart
  else if b = Blk.SLV then (s.setFld F.SLV_RATE_ACTUAL 0).slvStart
  else if b = Blk.AUT then s.autEnable
  else if b = Blk.AHN then s.ahnEnable
  else if b = Blk.DMU then s.dmuStart.dmuClock
  else if b = Blk.PTP then s.ptpStart
  else s

/-! ## Disabling a block (R10) -/

/-- AUT is disabled (log 62): it sends no beacon, and a module that held a role claims it anew. -/
def State.autDisable (s : State) : State :=
  let s := s.setAut fun a => { a with tense := 0, sealed := none, onAir := none, stopRepeats := [] }
  if s.ahn.role == .none || s.ahn.role == .failed then s else ((s.leaveRole .none).roleFollow).sendHeartbeat

/-- AHN is disabled (log 62): no heartbeat is heard, and a standby, which no mirror serves any more, loses its role. -/
def State.ahnDisable (s : State) : State :=
  let s := s.setAhn fun a => { a with hbOk := false, hb := none, mismatch := false }
  if s.isStandby then (s.leaveRole .none).roleFollow else s

/-- RHL is disabled (log 62): links fall to DOWN and the transmitters go off. -/
def State.rhlDisable (s : State) : State :=
  let s := ([0, 1].filter fun l => (s.rhLink l).state != Lk.DOWN).foldl (fun s l => s.linkToDown l) s
  (s.emit (.pin (.rhTx 0) false)).emit (.pin (.rhTx 1) false)

/-- What a block does as it is disabled. The rules give it for few blocks: DESIGN CHOICE (log 62). -/
def State.blkStop (s : State) (b : Nat) : State :=
  if b = Blk.LPE then { s with lpe := { s.lpe with queue := [] } }
  else if b = Blk.RHL then s.rhlDisable
  else if b = Blk.GRX then s.grxStop
  else if b = Blk.SLV then s.slvRest
  else if b = Blk.CLS then s.setSlv fun v => { v with toCheck := [] }
  else if b = Blk.AIR then { s with air := { s.air with waiting := [] } }
  else if b = Blk.AUT then s.autDisable
  else if b = Blk.AHN then s.ahnDisable
  else if b = Blk.DMU then s.dmuClock
  else if b = Blk.PTP then [0, 1].foldl (fun s p => s.ptpEnter p 0) s
  else s

/-! ## Writes to CTRL (R10, R32, R33, R36) -/

/-- An APPLY runs, or waits for the parse checks queued before it. -/
def State.applying (s : State) : Bool := s.sim.cmd == some .applyFull || s.sim.cmd == some .applySections

/-- The first enabled block that requires block `b`, in the enable order. -/
def State.requirer (s : State) (b : Nat) : Option Nat := Blk.image.find? fun q => s.blkOn q && (Blk.requires q).contains b

/-- A disable is refused (R10): `SIM_LASTREF` with KIND 1, event 21. -/
def State.disableRefuse (s : State) (b q : Nat) : State :=
  let arg := q * 65536 + b * 256
  ((s.setReg R.SIM_LASTREF (BitVec.ofNat 32 (arg + 2 ^ 31))).bump F.SIM_REFCNT_COUNT).raise Ev.SIM_DISABLE_REFUSED arg

/-- The fields of a CTRL register beyond EN: LEVEL only while EN is 0 (R33). -/
def State.ctrlFields (s : State) (b : Nat) (w : Word) : State :=
  let s := if s.blkOn b then s else s.setFld (Blk.level b) ((Blk.level b).get w)
  if b = Blk.TIM then s.setFld F.TIM_CTRL_STEP_OK (F.TIM_CTRL_STEP_OK.get w) else s

/-- A write that clears EN of an enabled block (R10): while a block that requires it is enabled the write is ignored, all its fields with
EN. -/
def State.blkDisable (s : State) (b : Nat) (w : Word) : State :=
  match s.requirer b with
  | some q => s.disableRefuse b q
  | none => (((s.ctrlFields b w).setFld (Blk.en b) 0).blkStop b).powerCheck

/-- A CTRL write takes effect (R36): a check is queued, the block disabled, or EN ignored while a check of the block waits. -/
def State.ctrlTake (s : State) (b : Nat) (w : Word) : State :=
  let on := s.blkOn b
  if on && (Blk.en b).get w == 0 then s.blkDisable b w
  else
    let s := s.ctrlFields b w
    if on || (Blk.en b).get w == 0 || s.sim.checks.contains b then s
    else { s with sim := { s.sim with checks := s.sim.checks ++ [b] } }

/-- A host write to the CTRL register of a block: EN of a base block is read-only; an APPLY holds the write (R32). -/
def State.ctrlWrite (s : State) (b : Nat) (w : Word) : State :=
  if !Blk.image.contains b then s
  else if s.applying then { s with sim := { s.sim with heldEn := s.sim.heldEn ++ [(b, w)] } }
  else s.ctrlTake b w

/-- A word with bit 0 as given. -/
def withEn (w : Word) (en : Bool) : Word := (⟨0, 0, 0⟩ : Fld).put w (b2n en)

/-- CTRL_EN_SET (R36): a write to a block's CTRL with EN = 1. -/
def execCtrlEnSet (blk : Nat) (value : Word) (s : State) : Result := whileRunning s fun s => s.ctrlWrite blk (withEn value true)

/-- CTRL_EN_CLEAR (R10): a write to a block's CTRL with EN = 0. -/
def execCtrlEnClear (blk : Nat) (value : Word) (s : State) : Result := whileRunning s fun s => s.ctrlWrite blk (withEn value false)

/-! ## Applying an image (R27, R471) -/

/-- The staged image and the applied one agree where APPLY_SECTIONS needs it: origin, site epoch, PAIR_TAG. -/
def imgSameSite (a b : List Byte) : Bool :=
  [0, 1, 2].all (fun i => imgOrigin a i == imgOrigin b i) && imgEpoch a == imgEpoch b && imgPairTag a == imgPairTag b

/-- A block's sections by type, with their bytes. -/
def imgOf (img : List Byte) (b : Nat) : List (Nat × List Byte) :=
  sortBy (fun x y => decide (x.1 ≤ y.1)) (((imgTable img).filter fun e => e.block == b).map fun e => (e.type, imgBytes img e))

/-- Why an apply is refused now: code and DETAIL. Of several blocks whose sections differ, DETAIL names the first in the enable order, as
0x0228 does: DESIGN CHOICE (log 75). -/
def State.applyBars (s : State) (full : Bool) : Option (Nat × Nat) :=
  match s.sim.staged with
  | none => some (0x2B, 0)
  | some new =>
    if full then (Blk.image.find? s.blkOn).map fun b => (0x28, b)
    else match s.sim.applied with
      | none => some (0x2A, 0)
      | some old =>
        if !imgSameSite new old then some (0x2A, 0)
        else (Blk.image.find? fun b => s.blkOn b && imgOf new b != imgOf old b).map fun b => (0x29, b)

/-- SIM_CMD operation of an apply. -/
def applyOp (full : Bool) : Nat := if full then SimOp.APPLY_FULL else SimOp.APPLY_SECTIONS

/-- CTRL writes an APPLY held take effect in their order (R32). -/
def State.heldRun (s : State) : State :=
  s.sim.heldEn.foldl (fun s e => s.ctrlTake e.1 e.2) { s with sim := { s.sim with heldEn := [] } }

/-- An apply starts once no parse check is queued (R32): it is refused with event 19, and held CTRL writes run, or it runs until
APPLY_COMPLETE. -/
def State.applyStart (s : State) (full : Bool) : State :=
  if !s.sim.checks.isEmpty then s
  else match s.applyBars full with
    | some r => (s.simRefuse (applyOp full) r.1 r.2 (some Ev.SIM_APPLY_REFUSED)).heldRun
    | none => { s with sim := { s.sim with waiting := false } }

/-- An APPLY command (R27, R32). -/
def State.simApply (s : State) (full : Bool) (slot : Nat) : State :=
  s.simCmd (applyOp full) fun s =>
    let s := s.simBegin (applyOp full) slot (some (if full then .applyFull else .applySections))
    ({ s with sim := { s.sim with waiting := true } }).applyStart full

/-- APPLY_FULL (R27). -/
def execApplyFull (slot : Bool) (s : State) : Result := whileRunning s fun s => s.simApply true (b2n slot)

/-- APPLY_SECTIONS (R27). -/
def execApplySections (slot : Bool) (s : State) : Result := whileRunning s fun s => s.simApply false (b2n slot)

/-- The write keeps VALID of a quarantined machine from being set (R445). -/
def State.quarantineBars (s : State) (a b : Nat) (w : Word) : Bool :=
  ((a == R.AIR_MACH_REG && F.AIR_MACH_REG_VALID.get w == 1) || (a == R.SLV_MACH_CFG && F.SLV_MACH_CFG_VALID.get w == 1)
    || (a == R.CLS_MACH_DATA && F.CLS_MACH_DATA_VALID.get w == 1)) && s.quarantined b

/-- A register preset of a block (R467): the RW and RWL fields of the register, whatever their ranges, on the entry its index
register selects. -/
def State.presetApply (s : State) (b : Nat) (p : Nat × Nat) : State :=
  let a := (Blk.base b).getD 0 + p.1
  let w : Word := BitVec.ofNat 32 p.2
  if a = R.GRX_ANT then s.antWrite w
  else if a = R.TIM_OUT then s.timOutWrite w
  else match Regs.descAt a with
    | none => s
    | some d =>
      let e := s.bankOf d
      if s.quarantineBars d.addr e w then s
      else ((d.fieldsAt ((a - d.addr) / 4)).filter fun fd => fd.access == .rw || fd.access == .rwl).foldl
        (fun s fd => s.fieldWrite e false w fd) s

/-- The head of a POLICY section that stands in registers: the conflict policies of CLS and the rate classes of SLV (R467). -/
def State.headApply (s : State) (b : Nat) (sec : List Byte) : State :=
  let put (s : State) (a n : Nat) : State :=
    let mask := ((Regs.descAt a).map RegDesc.shown).getD 0
    (List.range n).foldl (fun s i => s.setRegB i a (BitVec.ofNat 32 (Nat.land (Bytes.at' sec (4 * i) 4) mask))) s
  if b = Blk.CLS then put s R.CLS_POL_DATA 1024 else if b = Blk.SLV then put s R.SLV_RCLASS_DATA 8 else s

/-- The RW and RWL fields of a register's entry at their reset values. -/
def State.entryReset (s : State) (d : RegDesc) (n b : Nat) : State :=
  ((d.fieldsAt n).filter fun fd => fd.access == .rw || fd.access == .rwl).foldl
    (fun s fd => s.setFldB b fd.fld (fd.fld.get (Regs.resetWord fd.fld.addr))) s

/-- A disabled block without a section in the new image is left without configuration (R27): PARSE 0, LEVEL 0, and every RW and RWL field
of its registers and tables at its reset value: DESIGN CHOICE (log 19). -/
def State.blkClear (s : State) (b : Nat) : State :=
  let s := (s.regs.filter fun e => Blk.at' (e.1 % 0x4000000) == some b).foldl (fun s e =>
    let a := e.1 % 0x4000000
    if a = R.GRX_ANT then s.antWrite (Regs.resetWord a)
    else if a = R.TIM_OUT then s.timOutWrite (Regs.resetWord a)
    else match Regs.descAt a with
      | some d => s.entryReset d ((a - d.addr) / 4) (e.1 / 0x4000000)
      | none => s) s
  (s.setFld (Blk.level b) 0).setReg (Blk.parse b) 0

/-- What an apply does to one block of the new image (R27): head, presets, LEVEL, PARSE. -/
def State.blkApply (s : State) (img : List Byte) (b : Nat) : State :=
  let presets (s : State) (type : Nat) : State :=
    match imgSection img type b with
    | some sec => (presetsOf sec (presetStart type b)).foldl (fun s p => s.presetApply b p) (if type = Sec.POLICY then s.headApply b sec else s)
    | none => s
  let s := if b = Blk.AIR then
      (List.range 12).foldl (fun s m => s.setFldB m F.AIR_MOD_DUTY_DUTY_PM (Bytes.at' (s.modemRow m) 10 2)) s else s
  let s := presets (presets s Sec.POLICY) Sec.TIME
  (s.setFld (Blk.level b) (b2n (bitOf (imgSflags img b) 1))).setReg (Blk.parse b) 0

/-- CLS empties its store (R471): records keep their generations, and every pair's GAP slot is freed. -/
def State.clsEmpty (s : State) : State :=
  let s := s.lpe.pairs.foldl (fun s e =>
    match s.gapSlotOf e with
    | some n => s.gapUnbind n
    | none => s) s
  let s := { s with lpe := { s.lpe with pairs := [] } }
  let kept := s.cls.clauses.filterMap fun e => if e.2.gen = 0 then none else some (e.1, { Clause.free with gen := e.2.gen })
  { s with cls := { s.cls with
      clauses := kept, chains := [], freeNext := 0, freeTail := [], follow := [], fullSeen := false, nearSeen := false } }

/-- The apply gives CLS a map that differs from the one it held (R471). -/
def State.newMap (s : State) (new : List Byte) : Bool :=
  !s.blkOn Blk.CLS && (imgSection new Sec.MAP Blk.CLS).isSome
    && imgSection new Sec.MAP Blk.CLS != imgSection (s.sim.applied.getD []) Sec.MAP Blk.CLS

/-- The image takes effect on every disabled block. APPLY_SECTIONS leaves the registers of a block without a section as they are, with
LEVEL 0 (log 19). -/
def State.imgApply (s : State) (new : List Byte) (full : Bool) : State :=
  let s := if s.newMap new then s.clsEmpty else s
  let s := { s with sim := { s.sim with applied := some new, staged := none } }
  (Blk.image.filter fun b => !s.blkOn b).foldl (fun s b =>
    if imgPresent new b then s.blkApply new b else if full then s.blkClear b else s.setFld (Blk.level b) 0) s

/-- An apply ends: the staged image is the applied one, event 18, and held CTRL writes run. -/
def State.applyDone (s : State) : State :=
  match s.sim.staged with
  | none => s
  | some new => (((s.imgApply new (s.sim.cmd == some .applyFull)).simDone).raise Ev.SIM_APPLIED (imgSerial new)).heldRun

/-- APPLY_COMPLETE (R27): the apply in progress ends. -/
def execApplyComplete (s : State) : Result :=
  whileRunning s fun s => if s.applying && !s.sim.waiting then s.applyDone else s

/-! ## The parse check (R36–R39) -/

/-- A block passes its check: EN reads 1 and the block starts. -/
def State.parseAccept (s : State) (b : Nat) : State := ((s.setReg (Blk.parse b) 0).setFld (Blk.en b) 1).blkStart b |>.powerCheck

/-- A block fails its check: PARSE and `SIM_LASTREF` hold the refusal, event 20. -/
def State.parseRefuse (s : State) (b reason detail : Nat) : State :=
  let w := parseWord b reason detail
  (((s.refuse b reason detail).setReg R.SIM_LASTREF w).bump F.SIM_REFCNT_COUNT).raise Ev.SIM_PARSE_REFUSED w.toNat

/-- The check at the head of the queue runs; then an APPLY that waits for the last one starts. -/
def State.parseNext (s : State) (stopped : List Nat) : State :=
  match s.sim.checks with
  | [] => s
  | b :: rest =>
    let s := { s with sim := { s.sim with checks := rest } }
    let s := match s.parseReason b stopped with
      | some r => s.parseRefuse b r.1 r.2
      | none => s.parseAccept b
    if s.sim.waiting then s.applyStart (s.sim.cmd == some .applyFull) else s

/-- PARSE_CHECK (R36, R38): SIM runs the check queued first. `stopped` names the clock domains, as R39 numbers them, that have no
running clock. -/
def execParseCheck (stopped : List Nat) (s : State) : Result := whileRunning s fun s => s.parseNext stopped

/-! ## Start-up (R30) -/

/-- LOAD_FLASH from a slot and APPLY_FULL, to their ends. Answers whether the load succeeded, and whether the apply did. -/
def State.bootFrom (s : State) (slot : Nat) : State × Bool × Bool :=
  let s := (s.setStaged none).simBegin SimOp.LOAD_FLASH slot (some (.loadFlash slot))
  let s := match s.flashSlot slot with
    | some img => s.loadEnd SimOp.LOAD_FLASH img
    | none => s.simRefuse SimOp.LOAD_FLASH 0x2D 0 (some Ev.SIM_LOAD_FAIL)
  if s.sim.staged.isNone then (s, false, false)
  else
    let s := s.simApply true slot
    if s.applying && !s.sim.waiting then (s.applyDone, true, true) else (s, true, false)

/-- The boot slot, then the other where that load fails; where both fail, event 23. -/
def State.startupLoad (s : State) : State :=
  let boot := s.nand.boot
  match s.bootFrom boot with
  | (s, true, _) => s
  | (s, false, _) =>
    match s.bootFrom (1 - boot) with
    | (s, true, true) => (s.setFld F.SIM_STATUS_FALLBACK 1).raise Ev.SIM_BOOT_FALLBACK (1 - boot)
    | (s, true, false) => s
    | (s, false, _) => (s.setReg R.SIM_PARSE (parseWord Blk.SIM 0x30 0)).raise Ev.SIM_NO_IMAGE 0x230

/-- SIM_STARTUP_LOAD (R30): once after each reset, with LEVEL 0 and without factory-safe options. Its apply would start only after the
parse checks queued (R32): while one is queued, as while a command runs, the load stays due (log 16). -/
def execSimStartupLoad (s : State) : Result :=
  whileRunning s fun s =>
    if !s.sim.startup || s.flag F.SIM_STATUS_BUSY || !s.sim.checks.isEmpty then s
    else
      let s := { s with sim := { s.sim with startup := false } }
      if s.flag F.SIM_CTRL_LEVEL || s.flag F.RST_STATUS_SAFE then s else s.startupLoad

end Sys2Proof.Machine
end

