-- ==== Sys2Proof/Machine/Flags.lean ====
section
/-!
DEFINITION. What a host sees in a register (R4): the word held, with every field that reports the state of an engine computed from that
state, as the register tables of the chapters name it.
-/

namespace Sys2Proof.Machine

/-! ## Helpers -/

/-- The mask of those of 32 numbers that have `p`. -/
def mask32 (p : Nat → Bool) : Nat := ((List.range 32).map fun i => bitAt (p i) i).sum

/-- A whole register as one field. -/
def wordFld (a : Nat) : Fld := ⟨a, 31, 0⟩

/-- A figure that nothing in the model fixes: a free value, which advances with each read. -/
def State.openFigure (s : State) : Nat := Config.freeNat s.freeCtr

/-! ## GLB, SIM, PWR, RST, HPG -/

/-- The version word of a firmware image, 0 for an empty slot (R425). -/
def verWord (b : Option (List Byte)) : Nat := (b.map fwVersion).getD 0

/-- Live fields of GLB and SIM at offset `a`, the `n`-th of its run. -/
def State.liveSim (s : State) (a n : Nat) : List (Fld × Nat) :=
  let img := s.sim.applied.getD []
  if a = R.GLB_ID then [(F.GLB_ID_REV, s.siliconRev)]
  else if a = R.GLB_FW then [(wordFld a, verWord s.fw.run)]
  else if a = R.SIM_STATUS then
    [(F.SIM_STATUS_SLOT1_VALID, b2n s.nand.slot1.isSome), (F.SIM_STATUS_SLOT0_VALID, b2n s.nand.slot0.isSome),
      (F.SIM_STATUS_BOOT_SLOT, s.nand.boot), (F.SIM_STATUS_STAGED, b2n s.sim.staged.isSome),
      (F.SIM_STATUS_APPLIED, b2n s.sim.applied.isSome)]
  else if a = R.SIM_APPLIED then [(wordFld a, imgSerial img)]
  else if a = R.SIM_STAGED then [(wordFld a, imgSerial (s.sim.staged.getD []))]
  else if a = R.SIM_TAG then [(F.SIM_TAG_PAIR_TAG, imgPairTag img), (F.SIM_TAG_SEC_COUNT, imgSecCount img)]
  else if a = R.SIM_DIGEST then [((wordFld a).nth n, Bytes.at' (imgDigest img) (4 * n) 4)]
  else []

/-- Live fields of PWR, RST and HPG. The temperature and the measured figures are open. -/
def State.livePower (s : State) (a : Nat) : List (Fld × Nat) :=
  if a = R.PWR_STATUS then
    [(F.PWR_STATUS_TEMP, s.openFigure), (F.PWR_STATUS_TESTING, b2n (s.pwr.test.isSome || s.pwr.whole == .running)),
      (F.PWR_STATUS_P12V_OK, b2n s.pins.p12v), (F.PWR_STATUS_PFW, b2n !s.pins.p12v)]
  else if a = R.PWR_COMMIT then [(F.PWR_COMMIT_GRANTED_MW, s.grantedMw), (F.PWR_COMMIT_BASE_MW, s.baseMw)]
  else if a = R.PWR_MEAS then [(wordFld a, s.openFigure)]
  else if a = R.RST_STATUS then
    [(F.RST_STATUS_STRIKES, s.bkp.strikes), (F.RST_STATUS_BKP_LOST, b2n s.bkp.lost), (F.RST_STATUS_RTC_VALID, b2n s.bkp.rtcValid)]
  else if a = R.RST_RESETS then [(wordFld a, s.bkp.resets)]
  else if a = R.RST_PCYCLES then [(F.RST_PCYCLES_COUNT, s.bkp.pcycles)]
  else if a = R.RST_HOURS then [(wordFld a, s.bkp.hours)]
  else if a = R.RST_RTC_LO then [(wordFld a, s.bkp.rtc / nsPerSec)]
  else if a = R.HPG_STATUS then
    [(F.HPG_STATUS_EJECT_MS, (s.hpg.ejectAt.map fun t => saturate 16 ((s.mono - t) / nsPerMs)).getD 0),
      (F.HPG_STATUS_PRESENT, b2n s.pins.presentLow)]
  else []

/-! ## XQ -/

/-- The queues held after a reset. -/
def State.xqHeld (s : State) : List Nat := (s.xq.filter fun e => e.2.held).map Prod.fst

/-- Live fields of XQ for queue `q`. The two counts of R14 agree once the clock cycles it gives have passed. -/
def State.liveXq (s : State) (a q : Nat) : List (Fld × Nat) :=
  let e := s.xqEntry q
  let x := s.xqueue q
  if a = R.XQ_STATUS then [(F.XQ_STATUS_HELD, s.xqHeld.length), (F.XQ_STATUS_CONNECTED, ((List.range 160).filter s.xqConnected).length)]
  else if a = R.XQ_Q_CFG then [(F.XQ_Q_CFG_PROD, e.1), (F.XQ_Q_CFG_CONS, e.2.1)]
  else if a = R.XQ_Q_GEOM then
    [(F.XQ_Q_GEOM_PDOM, if s.xqConnected q then (endpointDomain e.1).getD 0 else 0),
      (F.XQ_Q_GEOM_CDOM, if s.xqConnected q then (endpointDomain e.2.1).getD 0 else 0),
      (F.XQ_Q_GEOM_PACKET, b2n (bitOf e.2.2.2 1)), (F.XQ_Q_GEOM_SPILL, b2n (bitOf e.2.2.2 0)), (F.XQ_Q_GEOM_DEPTH_LOG2, e.2.2.1)]
  else if a = R.XQ_Q_COUNT then [(F.XQ_Q_COUNT_PCOUNT, x.items.length), (F.XQ_Q_COUNT_CCOUNT, x.items.length)]
  else if a = R.XQ_Q_STAT then [(F.XQ_Q_STAT_HELD, b2n x.held), (F.XQ_Q_STAT_STALLED, b2n x.stalled)]
  else []

/-! ## CLS and AUT -/

/-- VALID of a quarantined machine reads 0 (R445). -/
def State.quarantineView (s : State) (b : Nat) (f : Fld) : List (Fld × Nat) := if s.quarantined b then [(f, 0)] else []

/-- Live fields of CLS for machine `b`. -/
def State.liveCls (s : State) (a b : Nat) : List (Fld × Nat) :=
  if a = R.CLS_STATUS then
    [(F.CLS_STATUS_NEAR_FULL, b2n (s.clsNear s.cls)), (F.CLS_STATUS_FULL, b2n (decide (clsSize ≤ s.cls.held.length))),
      (F.CLS_STATUS_TIME_OK, b2n s.clauseNow.isSome)]
  else if a = R.CLS_COUNT then [(F.CLS_COUNT_HELD, s.cls.held.length)]
  else if a = R.CLS_MACH_DATA then (F.CLS_MACH_DATA_HELD, (s.cls.chain b).length) :: s.quarantineView b F.CLS_MACH_DATA_VALID
  else if a = R.CLS_MAPINFO then [(F.CLS_MAPINFO_ZONES, mapZones s.clsMap), (F.CLS_MAPINFO_SEGS, mapSegs s.clsMap)]
  else []

/-- The active FULL STOP sources, by the bits of `AUT_SOURCES`. -/
def State.fsSrc (s : State) : Nat :=
  bitAt s.pins.stopALow 0 + bitAt s.pins.stopBLow 1 + bitAt (s.flag F.AUT_FSTOP_HOST) 2 + bitAt s.aut.fsAir 3 + bitAt s.aut.fsStart 4
    + bitAt (s.flag F.AUT_DISC_DISC) 5

/-- The active COMMA sources. -/
def State.commaSrc (s : State) : Nat :=
  bitAt s.aut.commaPin 0 + bitAt (s.flag F.AUT_COMMA_HOST) 1 + bitAt s.aut.commaAge 2 + bitAt s.aut.commaRearm 3 + bitAt s.aut.commaTest 4

/-- The position age of a record, in units of 100 ms; the largest value while clause time is not known. -/
def State.recordAge (s : State) (r : AuthRec) : Nat :=
  match s.clauseNow with
  | some w => min 255 ((w - r.posEpoch) / 100)
  | none => 255

/-- Live fields of AUT for machine `b`, the `n`-th of its run. -/
def State.liveAut (s : State) (a n b : Nat) : List (Fld × Nat) :=
  if a = R.AUT_STATUS then
    [(F.AUT_STATUS_ACTIVE, b2n s.isActive), (F.AUT_STATUS_TIME_OK, b2n s.timeValid), (F.AUT_STATUS_WARDEN_FAULT, b2n (s.warden.fault != 0)),
      (F.AUT_STATUS_PERMIT, b2n s.permit), (F.AUT_STATUS_DISC, s.fld F.AUT_DISC_DISC), (F.AUT_STATUS_COMMA_PIN, b2n s.pins.commaLow),
      (F.AUT_STATUS_STOP_B, b2n s.pins.stopBLow), (F.AUT_STATUS_STOP_A, b2n s.pins.stopALow),
      (F.AUT_STATUS_REARM_PEND, b2n s.aut.rearmKey.isSome), (F.AUT_STATUS_FS_LATCH, b2n s.aut.fsLatch),
      (F.AUT_STATUS_TENSE, s.fleetState)]
  else if a = R.AUT_SOURCES then
    [(F.AUT_SOURCES_FCAUSE, s.aut.fcause), (F.AUT_SOURCES_CCAUSE, s.aut.ccause), (F.AUT_SOURCES_COMMA_SRC, s.commaSrc),
      (F.AUT_SOURCES_FS_SRC, s.fsSrc)]
  else if a = R.AUT_COMMA then [(F.AUT_COMMA_TEST, b2n s.aut.commaTest)]
  else if a = R.AUT_REVSTAT then [(F.AUT_REVSTAT_COUNT, (s.aut.mach.filter fun e => e.2.revoked != 0).length)]
  else if a = R.AUT_WARDEN then [(F.AUT_WARDEN_FAULT_REASON, s.warden.fault)]
  else if a = R.AUT_MACH_STAT then
    let v := s.autMach b
    [(F.AUT_MACH_STAT_REVOKED, b2n (v.revoked != 0)), (F.AUT_MACH_STAT_WAIT, b2n v.wait)] ++
      (match v.record with
        | some r => [(F.AUT_MACH_STAT_QCLASS, r.qclass), (F.AUT_MACH_STAT_ZERO, r.zero), (F.AUT_MACH_STAT_AGE, s.recordAge r),
            (F.AUT_MACH_STAT_VCEIL, saturate 16 r.vceil)]
        | none => [])
  else if a = R.AUT_REVBM then [((wordFld a).nth n, mask32 fun i => s.isRevoked (32 * n + i))]
  else []

/-! ## SLV, GRX, TIM -/

/-- The reference age (R139), ms; none before the first usable epoch and while clause time is not known. -/
def State.slvRefAge (s : State) : Option Nat :=
  match s.clauseNow, s.slv.lastOk with
  | some w, some e => some (w - e)
  | _, _ => none

/-- SLV falls back to an auxiliary stream. -/
def RefMode.isFallback : RefMode → Bool
  | .fallback _ => true
  | _ => false

/-- The newest epoch whose set is due, 12 ms after it, has a usable one (R117, R147). -/
def State.newestRefOk (s : State) : Bool :=
  let epoch := 100 * ((s.devClause - 12) / 100)
  s.slv.refs.any (fun r => r.usable && decide (epoch ≤ r.epoch)) || (match s.slv.mode with
    | .fallback n => (s.auxSt n).epochs.any fun r => decide (epoch ≤ r.epoch)
    | _ => false)

/-- Live fields of SLV for entry `b`, the `n`-th of its run. -/
def State.liveSlv (s : State) (a b : Nat) : List (Fld × Nat) :=
  if a = R.SLV_STATUS then
    [(F.SLV_STATUS_AWAKE, (s.slv.lanes.filter fun e => e.2.awake).length), (F.SLV_STATUS_SHEDDING, b2n (s.slv.shed.any fun e => e.2 != 0)),
      (F.SLV_STATUS_LEAVE_PEND, b2n s.slv.refusedAt.isSome), (F.SLV_STATUS_AUX_FB, b2n s.slv.mode.isFallback),
      (F.SLV_STATUS_PRED, b2n (s.slv.mode == .predicted)), (F.SLV_STATUS_ANT_B, b2n (s.slv.mode == .grx && s.slv.ant == 2)),
      (F.SLV_STATUS_REF_OK, b2n s.newestRefOk)]
  else if a = R.SLV_REFAGE then [(F.SLV_REFAGE_AGE_MS, (s.slvRefAge.map (saturate 16)).getD 65535)]
  else if a = R.SLV_AWAKE then [(wordFld a, mask32 fun l => (s.lane l).awake)]
  else if a = R.SLV_LANEOUT then [(wordFld a, mask32 s.laneOut)]
  else if a = R.SLV_MACH_CFG then s.quarantineView b F.SLV_MACH_CFG_VALID
  else if a = R.SLV_MACH_STAT then
    (F.SLV_MACH_STAT_K_GRANTED, (s.slvRate b).granted) ::
      (match s.slv.last.get none b with
        | some r => [(F.SLV_MACH_STAT_QCLASS, r.qclass), (F.SLV_MACH_STAT_FIX, r.fix), (F.SLV_MACH_STAT_PRED, b2n r.pred),
            (F.SLV_MACH_STAT_NSAT, r.nsat), (F.SLV_MACH_STAT_H3, saturate 16 r.h3)]
        | none => [])
  else if a = R.SLV_INTAKE then [(F.SLV_INTAKE_COUNT, s.slv.intake.length)]
  else if a = R.SLV_AUX_STAT then
    [(F.SLV_AUX_STAT_LIVE, b2n (s.auxSt b).live), (F.SLV_AUX_STAT_POS_OK, b2n (s.auxSt b).pos.isSome), (F.SLV_AUX_STAT_LAT_MS, (s.auxSt b).latMs)]
  else if a = R.SLV_ROLE0 then [(wordFld a, ((List.range 16).map fun j => s.laneRole j % 4 * 4 ^ j).sum)]
  else if a = R.SLV_ROLE1 then [(wordFld a, ((List.range 16).map fun j => s.laneRole (16 + j) % 4 * 4 ^ j).sum)]
  else []

/-- A notch in place overlaps a channel's signal. -/
def State.chanNotched (s : State) (c : Nat) : Bool :=
  (List.range 3).any fun path => (List.range 4).any fun n =>
    match s.grx.notches.get none (notchKey (s.chanAnt c) path n) with
    | some k => notchOverlaps (s.chanSig c) path k
    | none => false

/-- Live fields of GRX for entry `b`. -/
def State.liveGrx (s : State) (a b : Nat) : List (Fld × Nat) :=
  if a = R.GRX_ANT then [(F.GRX_ANT_ON_A, b2n (s.biasOn 0)), (F.GRX_ANT_ON_B, b2n (s.biasOn 1))]
  else if a = R.GRX_CH_CFG then
    [(F.GRX_CH_CFG_FIXED, b2n (s.chanFixed b)), (F.GRX_CH_CFG_ANT, s.chanAnt b), (F.GRX_CH_CFG_SIG, s.chanSig b)]
  else if a = R.GRX_CH_STAT then
    let c := s.chan b
    if s.chanOut b then [(F.GRX_CH_STAT_STATE, 5)]
    else if s.chanSig b = 0 then [(F.GRX_CH_STAT_STATE, 0)]
    else [(F.GRX_CH_STAT_STATE, c.state), (F.GRX_CH_STAT_NOTCHED, b2n (s.chanNotched b)), (F.GRX_CH_STAT_HALF, b2n c.half),
      (F.GRX_CH_STAT_SVID, c.svid), (F.GRX_CH_STAT_CN0, c.cn0), (F.GRX_CH_STAT_ELEV, (c.elev / 100).toNat)]
  else if a = R.GRX_NOTCH then
    match s.grx.notches.get none (notchKey (s.fld F.GRX_NOTCH_IDX_ANT) (s.fld F.GRX_NOTCH_IDX_PATH) (s.fld F.GRX_NOTCH_IDX_NOTCH)) with
    | some k => [(F.GRX_NOTCH_ACTIVE, 1), (F.GRX_NOTCH_WIDTH, k.width), (F.GRX_NOTCH_EXCESS, k.excess), (F.GRX_NOTCH_OFFSET, encodeSigned 13 k.offset)]
    | none => []
  else if a = R.GRX_TRACKED then
    [(F.GRX_TRACKED_LOCKED, (s.chans.filter fun c => (s.chan c).state == 4 && !s.chanOut c).length), (F.GRX_TRACKED_ALLOC, s.chans.length)]
  else []

/-- The TIME section of the applied image. -/
def State.timSec (s : State) : List Byte := imgSec (s.sim.applied.getD []) Sec.TIME Blk.TIM

/-- Live fields of TIM. -/
def State.liveTim (s : State) (a : Nat) : List (Fld × Nat) :=
  if a = R.TIM_QUAL then [(F.TIM_QUAL_ACCURACY, s.timAccuracy)]
  else if a = R.TIM_STAMP then [(wordFld a, s.stamp)]
  else if a = R.TIM_ERR then [(wordFld a, (s.timEst.map (saturate 32)).getD 0xFFFFFFFF)]
  else if a = R.TIM_LOOPS then [(F.TIM_LOOPS_PHASE_SLOT, Bytes.at' s.timSec 2 2), (F.TIM_LOOPS_FREQ_SLOT, Bytes.at' s.timSec 0 2)]
  else if a = R.TIM_TC_IDX then [(F.TIM_TC_IDX_COUNT, (s.tim.caps.get [] (s.fld F.TIM_TC_IDX_INPUT)).length)]
  else []

/-! ## AIR and RHL -/

/-- The machines that have joined, awake or asleep. -/
def State.airJoined (s : State) : List Nat :=
  s.air.mach.keys.filter fun mi => (s.airM mi).state == .awake || (s.airM mi).state == .asleep

/-- The mean of the uplink SNRs a machine's state keeps. -/
def meanSnr (l : List Nat) : Nat := if l.isEmpty then 0 else l.sum / l.length

/-- Live fields of AIR for entry `b`. -/
def State.liveAir (s : State) (a b : Nat) : List (Fld × Nat) :=
  if a = R.AIR_STATUS then
    [(F.AIR_STATUS_JOINED, s.airJoined.length), (F.AIR_STATUS_BI, s.biIndex),
      (F.AIR_STATUS_SPLIT, b2n (s.isActive && (match s.air.splitAt with
        | some t => !s.passed t nsPerSec
        | none => false))),
      (F.AIR_STATUS_TX, b2n s.airTransmits)]
  else if a = R.AIR_MOD_CFG then
    [(F.AIR_MOD_CFG_KIND, s.modemKind b), (F.AIR_MOD_CFG_BW, s.modemBw b), (F.AIR_MOD_CFG_INDEX, s.modemIndex b),
      (F.AIR_MOD_CFG_TXPWR, Bytes.at' (s.modemRow b) 8 2)]
  else if a = R.AIR_MOD_FREQ then [(wordFld a, s.modemFreq b)]
  else if a = R.AIR_MOD_DUTY then [(F.AIR_MOD_DUTY_USED_PM, s.dutyUsed b / 3600000000)]
  else if a = R.AIR_MOD_STAT then
    let w := s.modemIndex b
    let wide := s.modemKind b == 2
    [(F.AIR_MOD_STAT_UL_PCT, if wide then s.plannedPct w else 0),
      (F.AIR_MOD_STAT_MACHINES, (s.airJoined.filter fun mi => if wide then (s.airM mi).wch == w else (s.airM mi).ctrl == b).length)]
  else if a = R.AIR_MACH_REG then s.quarantineView b F.AIR_MACH_REG_VALID
  else if a = R.AIR_MACH_STAT0 then
    let m := s.airM b
    [(F.AIR_MACH_STAT0_STATE, m.state.toNat), (F.AIR_MACH_STAT0_WCH, m.wch), (F.AIR_MACH_STAT0_MCS_UL, m.mcsUl),
      (F.AIR_MACH_STAT0_K, m.obs.k), (F.AIR_MACH_STAT0_UL_SNR, meanSnr m.snrs), (F.AIR_MACH_STAT0_DL_SNR, m.dlSnr)]
  else if a = R.AIR_MACH_STAT1 then
    let m := s.airM b
    [(F.AIR_MACH_STAT1_MISSED, saturate 16 m.missed), (F.AIR_MACH_STAT1_ONTIME, m.ontime), (F.AIR_MACH_STAT1_GUARD_100US, m.guard)]
  else if a = R.AIR_SND_CTR then [(wordFld a, s.nand.sndCtr.get 0 b)]
  else []

/-- Live fields of RHL for entry `b`: a link, or for stream registers link + 2 × stream. -/
def State.liveRhl (s : State) (a b : Nat) : List (Fld × Nat) :=
  if a = R.RHL_STATUS then [(F.RHL_STATUS_STATE1, (s.rhLink 1).state), (F.RHL_STATUS_STATE0, (s.rhLink 0).state)]
  else if a = R.RHL_LINK_STAT then [(F.RHL_LINK_STAT_GATE, s.gate (b % 2)), (F.RHL_LINK_STAT_STATE, (s.rhLink (b % 2)).state)]
  else if a = R.RHL_STR_CFG then
    [(F.RHL_STR_CFG_RATE, s.strRate (b % 2) (b / 2)), (F.RHL_STR_CFG_PORT, s.strPort (b % 2) (b / 2)),
      (F.RHL_STR_CFG_MODEMS, ((s.strModems (b % 2) (b / 2)).map fun m => 2 ^ m).sum)]
  else if a = R.RHL_STR_FREQ then [(wordFld a, s.strCentre (b % 2) (b / 2))]
  else []

/-! ## DSP and LPE -/

/-- Threads of core `c` in run-list spill (R278). -/
def State.coreSpilled (s : State) (c : Nat) : Nat :=
  if s.dsp.spilling.contains (1000 + c) then (s.runList c).length - 64 else 0

/-- Live fields of DSP for machine `b`. -/
def State.liveDsp (s : State) (a b : Nat) : List (Fld × Nat) :=
  if a = R.DSP_STATUS then [(F.DSP_STATUS_HELD, s.ordersHeld)]
  else if a = R.DSP_STATUS2 then
    [(F.DSP_STATUS2_READY, saturate 16 (s.ordersIn Os.READY).length), (F.DSP_STATUS2_SPILLING, b2n !s.dsp.spilling.isEmpty),
      (F.DSP_STATUS2_FULL, b2n (s.ordersHeld == 65536))]
  else if a = R.DSP_MACH_CFG then
    [(F.DSP_MACH_CFG_INFLIGHT, ((s.ordersIn Os.OFFERED ++ s.ordersIn Os.ACCEPTED).filter fun i => (s.order i).assigned == some b).length)]
  else if a = R.DSP_CHG then
    [(F.DSP_CHG_OPEN, mask32 fun g => decide (g < 16) && (s.session g).isSome),
      (F.DSP_CHG_FREE, mask32 fun g => decide (g < 16) && s.flagB g F.DMU_GRP_STAT_BAY_FREE)]
  else if a = R.DSP_CORE_STAT then
    [(F.DSP_CORE_STAT_SPILLED, ((List.range 8).map s.coreSpilled).sum), (F.DSP_CORE_STAT_READY, (s.threadsIn Th.READY).length)]
  else []

/-- Live fields of LPE for slot `b`, the `n`-th of its run. -/
def State.liveLpe (s : State) (a n b : Nat) : List (Fld × Nat) :=
  if a = R.LPE_STATUS then
    [(F.LPE_STATUS_GAP_FREE, (s.gapSlots.filter fun i => !s.flagB i F.LPE_SLOT_STAT_ASSIGNED).length), (F.LPE_STATUS_QUEUE, s.lpe.queue.length)]
  else if a = R.LPE_LOAD then
    [(F.LPE_LOAD_DECLARED, ((List.range 2048).map fun i => if Loop.kind (s.loop i) = 0 then 0 else Loop.rate (s.loop i)).sum)]
  else if a = R.LPE_SLOT_CFG then
    let p := s.loop b
    [(F.LPE_SLOT_CFG_KIND, Loop.kind p), (F.LPE_SLOT_CFG_CLASS, b2n (Loop.classF p)), (F.LPE_SLOT_CFG_ORDER, Loop.order p),
      (F.LPE_SLOT_CFG_TRIG, Loop.trig p), (F.LPE_SLOT_CFG_RATE, Loop.rate p)]
  else if a = R.LPE_SAT then [((wordFld a).nth n, mask32 fun i => s.flagB (32 * n + i) F.LPE_SLOT_STAT_SAT)]
  else []

/-! ## AHN, DMU, KEY, UPD, LOG, HST -/

/-- Snapshot progress: whole once applied; open in between (log 63). -/
def State.syncPct (s : State) : Nat :=
  if s.ahn.role == .ready || (s.isStandby && s.ahn.snapDone) then 100 else if s.isStandby && s.ahn.snapWanted then s.openFigure % 100 else 0

/-- Live fields of AHN. -/
def State.liveAhn (s : State) (a : Nat) : List (Fld × Nat) :=
  let hb (f : Heartbeat → Nat) : Nat := (s.ahn.hb.map f).getD 0
  if a = R.AHN_STATUS then
    [(F.AHN_STATUS_SYNC_PCT, s.syncPct), (F.AHN_STATUS_PSLOT, s.partnerSlot.getD 0), (F.AHN_STATUS_PROLE, hb fun h => h.role.toNat),
      (F.AHN_STATUS_MISMATCH, b2n s.ahn.mismatch), (F.AHN_STATUS_FAIL_OUT, b2n s.ahn.failN), (F.AHN_STATUS_ROLE_IN, b2n s.pins.roleInLow),
      (F.AHN_STATUS_ROLE_OUT, b2n s.ahn.roleOut), (F.AHN_STATUS_HB_OK, b2n s.ahn.hbOk), (F.AHN_STATUS_LINK_UP, b2n s.ahn.linkUp),
      (F.AHN_STATUS_ROLE, s.ahn.role.toNat)]
  else if a = R.AHN_CFG then [(F.AHN_CFG_SLOT_ID, s.pins.slotId)]
  else if a = R.AHN_MIRROR then [(F.AHN_MIRROR_LAG_MS, saturate 16 s.lagMs)]
  else if a = R.AHN_MSEQ_TX then [(wordFld a, s.ahn.mseqTx)]
  else if a = R.AHN_MSEQ_ACK then [(wordFld a, s.ahn.mseqAck)]
  else if a = R.AHN_PARTNER then
    [(F.AHN_PARTNER_PTAG, hb Heartbeat.pairTag), (F.AHN_PARTNER_PCTRL_UP, hb Heartbeat.ctrlUp), (F.AHN_PARTNER_PHEALTH, hb Heartbeat.health)]
  else []

/-- `UPD_STATUS.STATE`; verification ends within its command. -/
def State.updState (s : State) : Nat := if s.fw.trial then 4 else if s.fw.stage.isSome then 3 else if s.fw.receiving.isSome then 1 else 0

/-- Live fields of KEY and UPD. -/
def State.liveKey (s : State) (a : Nat) : List (Fld × Nat) :=
  if a = R.KEY_STATUS then
    [(F.KEY_STATUS_LC, s.keys.lc), (F.KEY_STATUS_ROOT, b2n s.keys.root.isSome), (F.KEY_STATUS_PAIR, b2n s.keys.pairRoot.isSome),
      (F.KEY_STATUS_IMG_SLOTS, (s.imgSlots.map fun n => 2 ^ n).sum), (F.KEY_STATUS_BGEN, if s.keys.pairRoot.isSome then s.keys.bgen else 0)]
  else if a = R.UPD_STATUS then
    [(F.UPD_STATUS_STATE, s.updState), (F.UPD_STATUS_RECEIVED, (s.fw.received.filter fun e => e.2.isSome).length)]
  else if a = R.UPD_VER_RUN then [(wordFld a, verWord s.fw.run)]
  else if a = R.UPD_VER_PREV then [(wordFld a, verWord s.fw.prev)]
  else if a = R.UPD_VER_STAGED then [(wordFld a, verWord s.fw.stage)]
  else if a = R.UPD_ROLLBACK then [(F.UPD_ROLLBACK_IMG, (s.fw.run.map fwRollback).getD 0), (F.UPD_ROLLBACK_COUNTER, s.fw.rollback)]
  else if a = R.UPD_TRIAL then
    [(F.UPD_TRIAL_ELAPSED_10S, if s.fw.trial then saturate 8 ((s.mono - s.upd.trialAt) / (10 * nsPerSec)) else 0),
      (F.UPD_TRIAL_RESETS, if s.fw.trial then min 15 s.fw.trialResets else 0)]
  else []

/-- Live fields of LOG, DMU (entry `b`) and HST (the `n`-th of its run). -/
def State.liveLog (s : State) (a n b : Nat) : List (Fld × Nat) :=
  let lseq (r : Option LogRec) (none' : Nat) : Nat := (r.map LogRec.lseq).getD none'
  if a = R.LOG_STATUS then [(F.LOG_STATUS_BUF_FILL, saturate 16 (logFill s.log.buf))]
  else if a = R.LOG_NEXT then [(wordFld a, s.log.next)]
  else if a = R.LOG_OLDEST then [(wordFld a, lseq s.log.circ.flatten.head? s.log.next)]
  else if a = R.LOG_PERM_FIRST then [(wordFld a, lseq s.log.perm.head? 0xFFFFFFFF)]
  else if a = R.LOG_PERM_LAST then [(wordFld a, lseq s.log.perm.getLast? 0xFFFFFFFF)]
  else if a = R.DMU_PO_STAT then [(F.DMU_PO_STAT_PENDING, saturate 16 (s.pulse b).pending)]
  else if a = R.HST_DB then
    let g := s.ring n
    [((wordFld a).nth n, if s.ringDir n == dirIn then g.c else g.p)]
  else []

/-! ## A register as read -/

/-- The live fields of the `n`-th register of a run, entry `b`. -/
def State.live' (s : State) (d : RegDesc) (n b : Nat) : List (Fld × Nat) :=
  let a := d.addr
  let blk := (Blk.at' a).getD 0
  if blk = Blk.GLB || blk = Blk.SIM then s.liveSim a n
  else if blk = Blk.PWR || blk = Blk.RST || blk = Blk.HPG then s.livePower a
  else if blk = Blk.XQ then s.liveXq a b
  else if blk = Blk.CLS then s.liveCls a b
  else if blk = Blk.AUT then s.liveAut a n b
  else if blk = Blk.SLV then s.liveSlv a b
  else if blk = Blk.GRX then s.liveGrx a b
  else if blk = Blk.TIM then s.liveTim a
  else if blk = Blk.AIR then s.liveAir a b
  else if blk = Blk.RHL then s.liveRhl a b
  else if blk = Blk.DSP then s.liveDsp a b
  else if blk = Blk.LPE then s.liveLpe a n b
  else if blk = Blk.AHN then s.liveAhn a
  else if blk = Blk.KEY || blk = Blk.UPD then s.liveKey a
  else s.liveLog a n b

/-- What a read of the `n`-th register of a run returns, entry `b`, before any effect of the read: write-only fields read 0. -/
def State.regView (s : State) (d : RegDesc) (n b : Nat) : Word :=
  let w := s.regB b (d.addr + 4 * n)
  let w := ((d.fieldsAt n).filter fun fd => fd.access == .wo).foldl (fun w fd => fd.fld.put w 0) w
  (s.live' d n b).foldl (fun w e => e.1.put w e.2) w

end Sys2Proof.Machine
end

