-- ==== Sys2Proof/Machine/Registers.lean ====
section
/-!
DEFINITION. Host accesses to BAR0 and BAR2 (R3, R4, R332, R333): which command a write to a register gives, and what a read returns and
clears.
-/

namespace Sys2Proof.Machine

/-! ## Registers whose write is a command -/

/-- What a command leaves of the machine. -/
def leaves (s : State) (r : Result) : State :=
  match r with
  | .next t => t
  | .fault _ | .refused _ => s

/-- A register write that may bring an output of R338 into use. -/
def State.outputWrite (s : State) (a : Nat) (w : Word) : State := s.guardOutputs fun s => (s.hostReg a w).1

/-- The registers that name a ring and the bit that brings it into use (R338), beyond those with a row of their own. -/
def outputRegs : List Nat :=
  [R.GRX_RTCM, R.GRX_OUT, R.SLV_OUT, R.PTP_RING, R.DSP_TRACE, R.DMU_OUT, R.AHN_SW, R.EVT_RING, R.LOG_CFG, R.ETH_PORT_CFG]

/-- A write to a register of SIM, PWR, RST, EVT, XQ, LOG, ETH or HST that is a command; `n` its place in a run. A write to
`SIM_CMD` of OP 0 or 8 to 15 has no effect, while a command runs either: R41's words for it, not R32's, a DESIGN CHOICE (log 75). -/
def State.baseCmd (s : State) (a n : Nat) (w : Word) : Option State :=
  if a = R.SIM_CMD then
    let slot := F.SIM_CMD_SLOT.get w == 1
    match F.SIM_CMD_OP.get w with
    | 1 => some (leaves s (execLoadHost slot s))
    | 2 => some (leaves s (execLoadFlash slot s))
    | 3 => some (leaves s (execApplyFull slot s))
    | 4 => some (leaves s (execApplySections slot s))
    | 5 => some (leaves s (execStore slot s))
    | 6 => some (leaves s (execDiscard slot s))
    | 7 => some (leaves s (execSetBoot slot s))
    | _ => some s
  else if a = R.PWR_HOST_LEAVE then some (s.hostLeaveWrite w)
  else if a = R.PWR_BUDGET then some (s.budgetWrite w)
  else if a = R.PWR_TEST then some (s.testWrite w)
  else if a = R.RST_CMD then some (s.rstCmd (F.RST_CMD_KEY.get w))
  else if a = R.RST_OPT_CMD then
    some (match F.RST_OPT_CMD_OP.get w with
      | 1 => s.optionWrite
      | 2 => s.clearStrikes
      | _ => s)
  else if a = R.EVT_RAISE then some (leaves s (execEvtRaise (F.EVT_RAISE_EVENT.get w) s))
  else if a = R.XQ_Q_CMD then
    some (match F.XQ_Q_CMD_OP.get w with
      | 1 => leaves s (execQueueDrop s)
      | 2 => leaves s (execQueueReset s)
      | 3 => leaves s (execQueueResume s)
      | _ => s)
  else if a = R.LOG_CMD then
    some (match F.LOG_CMD_OP.get w with
      | 1 => leaves s (execReadCirc s)
      | 2 => leaves s (execReadPerm s)
      | 3 => leaves s (execFlush s)
      | _ => s)
  else if a = R.ETH_RULE_ACT then some (s.ruleActWrite w)
  else if a = R.ETH_FWD_CFG then some (s.fwdCfgWrite w)
  else if a = R.HST_RING_CFG then some (s.ringCfgWrite w)
  else if a = R.HST_DB then some (leaves s (execDoorbellWrite n w s))
  else none

/-- A write to a word of the MSI-X table (R342, R351): the vector's entry is the host's since the last PERST_N; unmasking sends a
message that waits. -/
def State.msixWrite (s : State) (n : Nat) (w : Word) : State :=
  let v := n / 4
  let was := s.flag (maskFld v)
  let s := s.setReg (R.HST_MSIX + 4 * n) w
  let s := { s with evt := { s.evt with fresh := s.evt.fresh.set false v true } }
  if n % 4 = 3 && was && !s.flag (maskFld v) then s.vecUnmask v else s

/-- A write to a register of KEY, UPD, TIM, GRX, RHL or AHN that is a command. -/
def State.serviceCmd (s : State) (a : Nat) (w : Word) : Option State :=
  if a = R.KEY_CMD then some (s.keyCmd w)
  else if a = R.KEY_LC then some (s.lcWrite (F.KEY_LC_TARGET.get w) (F.KEY_LC_KEY.get w))
  else if a = R.UPD_CMD then some (s.updCmd w)
  else if a = R.TIM_SET_CMD then some (s.timSetCmd w)
  else if a = R.TIM_OUT then some (s.timOutWrite w)
  else if a = R.TIM_TO_CFG then some (s.outCfgWrite w)
  else if a = R.TIM_FREQ then some (if s.expert Blk.TIM then (s.hostReg a w).1 else s)
  else if a = R.GRX_ANT then some (s.antWrite w)
  else if a = R.GRX_CH_CFG then some (s.chanCfgWrite w)
  else if a = R.GRX_NOTCH_SET then some (s.notchSetWrite w)
  else if a = R.GRX_SPOOF then some (s.spoofWrite w)
  else if a = R.GRX_POS_HI then some (s.posHiWrite w)
  else if a = R.GRX_SURVEY then some (s.surveyWrite w)
  else if a = R.AHN_CMD then some (s.ahnCmd w)
  else if a = R.RHL_CMD then
    let l := F.RHL_CMD_LINK.get w
    some (s.on Blk.RHL fun s => match F.RHL_CMD_OP.get w with
      | 1 => s.rhlBringUp l
      | 2 => s.rhlDown l
      | 3 => s.rhlEcho l
      | _ => s)
  else if a = R.RHL_LINK_CFG then
    let l := s.fld F.RHL_LINK_IDX_LINK
    some (thenIf (s.hostReg a w) fun s => s.on Blk.RHL fun s => if s.linkAuto l then s.linkBringUp l else s)
  else if a = R.RHL_STR_GAIN then
    let l := s.fld F.RHL_LINK_IDX_LINK
    let n := s.fld F.RHL_LINK_IDX_STREAM
    if s.expert Blk.RHL then
      some (thenIf (s.hostReg a w) fun s => s.on Blk.RHL fun s =>
        if (s.rhLink l).state = Lk.UP then s.headCtrl l HeadOp.SET_RXGAIN n (Bytes.ofNat 2 (s.fldB (strBank l n) F.RHL_STR_GAIN_RXGAIN)) else s)
    else some s
  else none

/-- A write to a register of CLS, AUT or SLV that is a command. -/
def State.fleetCmd (s : State) (a : Nat) (w : Word) : Option State :=
  if a = R.CLS_GO then some (if F.CLS_GO_GO.get w = 1 then s.on Blk.CLS State.clsGo else s)
  else if a = R.AUT_FSTOP then some (s.fstopWrite w)
  else if a = R.AUT_COMMA then some (s.commaWrite w)
  else if a = R.AUT_REARM then some (s.rearmWrite (F.AUT_REARM_KEY.get w))
  else if a = R.AUT_LIFE then some (s.lifeWrite w)
  else if a = R.AUT_DISC then some (s.discWrite w)
  else if a = R.AUT_KICK then some (if F.AUT_KICK_KEY.get w = 0x4B1C then s.kick else s)
  else if a = R.AUT_REVOKE then
    let mi := F.AUT_REVOKE_MI.get w
    some (s.on Blk.AUT fun s => match F.AUT_REVOKE_OP.get w with
      | 1 => s.hostRevokes mi
      | 2 => s.reinstate mi
      | _ => s)
  else if a = R.SLV_CMD then
    let mi := F.SLV_CMD_MI.get w
    some (s.on Blk.SLV fun s => match F.SLV_CMD_OP.get w with
      | 1 => s.slvReset mi
      | 2 => s.slvRefix mi
      | _ => s)
  else if a = R.SLV_MACH_CFG then
    let mi := s.fld F.SLV_MACH_IDX_MI
    let was := s.slvValid mi
    if s.quarantineBars a mi w then some s
    else some (thenIf (s.hostReg a w) fun s => if was && !s.slvValid mi then s.slvForget mi else s)
  else if a = R.SLV_WAKE then some (thenIf (s.hostReg a w) fun s => s.on Blk.SLV fun s => if s.expert Blk.SLV then s.slvLanes else s)
  else if a = R.CLS_MACH_DATA then if s.quarantineBars a (s.fld F.CLS_MACH_IDX_MI) w then some s else none
  else none

/-- A write to a register of AIR, DSP, LPE or DMU that is a command. -/
def State.workCmd (s : State) (a : Nat) (w : Word) : Option State :=
  if a = R.AIR_MACH_CMD then
    let g := F.AIR_MACH_CMD_GUARD_100US.get w
    some (s.on Blk.AIR fun s => match F.AIR_MACH_CMD_OP.get w with
      | 1 => s.airSleep g
      | 2 => s.airWake
      | 3 => s.airDetaches
      | 4 => s.airGuard g
      | _ => s)
  else if a = R.AIR_MACH_GRANT0 then some (if s.expert Blk.AIR then (s.hostReg a w).1 else s)
  else if a = R.AIR_MACH_GRANT1 then some (s.grant1Write w)
  else if a = R.AIR_MACH_GRANT2 then some (s.grant2Write w)
  else if a = R.AIR_MOD_WIDE then
    let m := s.fld F.AIR_MOD_IDX_MODEM
    let dl := F.AIR_MOD_WIDE_DL_MCS
    some (s.hostReg a (if s.expert Blk.AIR then w else dl.put w (s.fldB m dl))).1
  else if a = R.AIR_MACH_REG then
    let mi := s.airIdx
    let was := s.flagB mi F.AIR_MACH_REG_VALID
    if s.quarantineBars a mi w then some s
    else some (thenIf (s.hostReg a w) fun s => if was && !s.flagB mi F.AIR_MACH_REG_VALID then s.quarantineSet mi else s)
  else if a = R.DSP_GO then some (s.dspGo (F.DSP_GO_OP.get w))
  else if a = R.DSP_THR_CMD then some (s.thrCmd w)
  else if a = R.LPE_SLOT_CMD then some (s.slotCmd w)
  else if a = R.LPE_SLOT_STAT then some (s.slotStatWrite w)
  else if a = R.LPE_SLOT_IN || a = R.LPE_SLOT_AID || a = R.LPE_SLOT_SP then some (s.slotRegWrite a w)
  else if a = R.DMU_PO_CFG then some (s.poCfgWrite w)
  else if a = R.DMU_BAY_CMD then some (s.bayCmdWrite w)
  else none

/-- The block a CTRL register belongs to. -/
def ctrlBlock (a : Nat) : Option Nat := (Blk.windows.find? fun w => w.2 == a).map Prod.fst

/-- A host write of a register at its place: a command, or its fields by access code. -/
def State.bar0Word (s : State) (d : RegDesc) (n : Nat) (w : Word) : State :=
  let a := d.addr
  match ctrlBlock a with
  | some b => s.ctrlWrite b w
  | none =>
    if a = R.HST_MSIX then s.msixWrite n w
    else match (s.baseCmd a n w).orElse fun _ => (s.serviceCmd a w).orElse fun _ => (s.fleetCmd a w).orElse fun _ => s.workCmd a w with
      | some t => t
      | none => if outputRegs.contains a then s.outputWrite (a + 4 * n) w else (s.hostReg (a + 4 * n) w).1

/-- A write to BAR0: any other width or alignment is discarded (R3); an offset without a register counts in `HST_CNT0` (R332). -/
def State.bar0Write (s : State) (addr width value : Nat) : State :=
  if width != 4 || addr % 4 != 0 then s
  else match Regs.descAt addr with
    | none => s.bump F.HST_CNT_COUNT
    | some d => s.bar0Word d ((addr - d.addr) / 4) (BitVec.ofNat 32 value)

/-- A write the host issues. BAR2 takes 1 to 64 bytes anywhere in the window (R333). -/
def State.hostWrite (s : State) (w : HostWrite) : State :=
  match w with
  | .bar0 addr width value => s.bar0Write addr width value
  | .bar2 offset bytes => if 1 ≤ bytes.length ∧ bytes.length ≤ 64 then s.bar2Write offset bytes else s
  | .msixEnable on => s.setFld F.HST_STATUS_MSIX_EN (b2n on)

/-- REGISTER_WRITE (R4). -/
def execRegisterWrite (w : HostWrite) (s : State) : Result := whileRunning s fun s => s.hostWrite w

/-! ## Reads -/

/-- The RC fields of a register clear (R4). -/
def State.readClears (s : State) (d : RegDesc) (n b : Nat) : State :=
  ((d.fieldsAt n).filter fun fd => fd.access == .rc).foldl (fun s fd => s.setFldB b fd.fld 0) s

/-- A read of the `n`-th register of a run. A figure that is open is drawn anew for each read. -/
def State.bar0Read (s : State) (d : RegDesc) (n : Nat) : State :=
  let a := d.addr
  let b := s.bankOf d
  if a = R.CLS_NOW_LO then leaves s (execClauseTimeNowRead s)
  else if a = R.AUT_SEQ_LO then leaves s (execSeqSnapshotRead s)
  else if a = R.TIM_SEC_LO then leaves s (execTimeSnapshotRead s)
  else if a = R.TIM_TC_SEC then leaves s (execCaptureStampRead s)
  else if a = R.GRX_HELD_LO then leaves s (execHeldPositionRead s)
  else if a = R.DMU_ACC_LO then leaves s (execAccumulatorRead s)
  else
    let s := if a = R.RST_RTC_LO then s.setFld F.RST_RTC_HI_SEC_HI (s.bkp.rtc / nsPerSec / 2 ^ 32) else s
    let v := s.regView d n b
    let s := (s.readClears d n b)
    { s with hostRead := BitVec.ofNat 32 (Nat.land v.toNat d.shown), freeCtr := s.freeCtr + 1 }

/-- READ_CLEAR (R4): a host read of BAR0. Any other width or alignment returns 0 without effect (R3), as does an offset without a
register, which counts in `HST_CNT0` (R332). -/
def execReadClear (addr width : Nat) (s : State) : Result :=
  whileRead s fun s =>
    if width != 4 || addr % 4 != 0 then { s with hostRead := 0 }
    else match Regs.descAt addr with
      | none => { s.bump F.HST_CNT_COUNT with hostRead := 0 }
      | some d => s.bar0Read d ((addr - d.addr) / 4)

end Sys2Proof.Machine
end

