-- ==== Sys2Proof/Machine/Clock.lean ====
section
/-!
DEFINITION. The passage of time: what the clocks do while no command waits.
-/

namespace Sys2Proof.Machine

/-- The step of time of an idle module: 1 µs. DESIGN CHOICE (log 1). -/
def tickNs : Nat := 1000

/-- 1 µs passes: the local clock, device time (R180) and the RTC (R382) advance, and the measure of valid device time where it is valid
(R445). -/
def State.tick (s : State) : State :=
  { s with
    mono := s.mono + tickNs
    tai := s.tai + tickNs
    bkp := { s.bkp with rtc := s.bkp.rtc + tickNs }
    nand := { s.nand with validNs := if s.timeValid then s.nand.validNs + tickNs else s.nand.validNs } }

end Sys2Proof.Machine
end

