-- ==== Sys2Proof/Machine/Dispatch.lean ====
section
/-!
DEFINITION. The commands and their meanings: one arm per constructor of Instr.
-/

namespace Sys2Proof.Machine

def exec (i : Instr) (s : State) : Host.Outcome State Fault Refusal :=
  match i with
  | .registerWrite w => Sys2Proof.Machine.execRegisterWrite w s
  | .readClear addr width => Sys2Proof.Machine.execReadClear addr width s
  | .ctrlEnSet blk value => Sys2Proof.Machine.execCtrlEnSet blk value s
  | .parseCheck stopped => Sys2Proof.Machine.execParseCheck stopped s
  | .ctrlEnClear blk value => Sys2Proof.Machine.execCtrlEnClear blk value s
  | .loadHost slot => Sys2Proof.Machine.execLoadHost slot s
  | .loadFlash slot => Sys2Proof.Machine.execLoadFlash slot s
  | .loadComplete => Sys2Proof.Machine.execLoadComplete s
  | .applyFull slot => Sys2Proof.Machine.execApplyFull slot s
  | .applySections slot => Sys2Proof.Machine.execApplySections slot s
  | .applyComplete => Sys2Proof.Machine.execApplyComplete s
  | .store slot => Sys2Proof.Machine.execStore slot s
  | .storeComplete ok => Sys2Proof.Machine.execStoreComplete ok s
  | .discard slot => Sys2Proof.Machine.execDiscard slot s
  | .setBoot slot => Sys2Proof.Machine.execSetBoot slot s
  | .simStartupLoad => Sys2Proof.Machine.execSimStartupLoad s
  | .reserve p => Sys2Proof.Machine.execReserve p s
  | .clsRelease p => Sys2Proof.Machine.execClsRelease p s
  | .extend p => Sys2Proof.Machine.execExtend p s
  | .shrink p => Sys2Proof.Machine.execShrink p s
  | .clsSwap p => Sys2Proof.Machine.execClsSwap p s
  | .querySpace p => Sys2Proof.Machine.execQuerySpace p s
  | .queryHandle p => Sys2Proof.Machine.execQueryHandle p s
  | .sweep p => Sys2Proof.Machine.execSweep p s
  | .automaticSweep => Sys2Proof.Machine.execAutomaticSweep s
  | .solutionCheck => Sys2Proof.Machine.execSolutionCheck s
  | .clsMemFault => Sys2Proof.Machine.execClsMemFault s
  | .clauseTimeNowRead => Sys2Proof.Machine.execClauseTimeNowRead s
  | .tokenBlockSeal => Sys2Proof.Machine.execTokenBlockSeal s
  | .beaconSlotOpen => Sys2Proof.Machine.execBeaconSlotOpen s
  | .wardenRenewal strobeOk reported => Sys2Proof.Machine.execWardenRenewal strobeOk reported s
  | .lockstepMismatch => Sys2Proof.Machine.execLockstepMismatch s
  | .kickTimeout => Sys2Proof.Machine.execKickTimeout s
  | .kick => Sys2Proof.Machine.execKick s
  | .stopInputAssert b => Sys2Proof.Machine.execStopInputAssert b s
  | .stopFrameRepeat => Sys2Proof.Machine.execStopFrameRepeat s
  | .stopDiscrepancy => Sys2Proof.Machine.execStopDiscrepancy s
  | .stopInputsReleased => Sys2Proof.Machine.execStopInputsReleased s
  | .discClear => Sys2Proof.Machine.execDiscClear s
  | .commaPinAssert => Sys2Proof.Machine.execCommaPinAssert s
  | .commaPinRelease => Sys2Proof.Machine.execCommaPinRelease s
  | .hostFullStop on => Sys2Proof.Machine.execHostFullStop on s
  | .hostComma on => Sys2Proof.Machine.execHostComma on s
  | .commaResume => Sys2Proof.Machine.execCommaResume s
  | .rearmFirstKey => Sys2Proof.Machine.execRearmFirstKey s
  | .rearmSecondKey => Sys2Proof.Machine.execRearmSecondKey s
  | .rearmTimeout => Sys2Proof.Machine.execRearmTimeout s
  | .rearmHoldEnd => Sys2Proof.Machine.execRearmHoldEnd s
  | .referenceAgeExceeded => Sys2Proof.Machine.execReferenceAgeExceeded s
  | .referenceAgeRecovered => Sys2Proof.Machine.execReferenceAgeRecovered s
  | .hostRevoke mi => Sys2Proof.Machine.execHostRevoke mi s
  | .reinstate mi => Sys2Proof.Machine.execReinstate mi s
  | .coverWrite value => Sys2Proof.Machine.execCoverWrite value s
  | .repeatRecord mi => Sys2Proof.Machine.execRepeatRecord mi s
  | .seqSnapshotRead => Sys2Proof.Machine.execSeqSnapshotRead s
  | .obsFrameRx rx => Sys2Proof.Machine.execObsFrameRx rx s
  | .epochMatch mi => Sys2Proof.Machine.execEpochMatch mi s
  | .laneStart lane => Sys2Proof.Machine.execLaneStart lane s
  | .solveComplete lane t => Sys2Proof.Machine.execSolveComplete lane t s
  | .laneFault n e => Sys2Proof.Machine.execLaneFault n e s
  | .planRecompute => Sys2Proof.Machine.execPlanRecompute s
  | .rateRecompute => Sys2Proof.Machine.execRateRecompute s
  | .laneSleep lane => Sys2Proof.Machine.execLaneSleep lane s
  | .laneLeaveRetry => Sys2Proof.Machine.execLaneLeaveRetry s
  | .predictionLimit => Sys2Proof.Machine.execPredictionLimit s
  | .auxRtcmRx n at' len last => Sys2Proof.Machine.execAuxRtcmRx n at' len last s
  | .auxStreamStale n => Sys2Proof.Machine.execAuxStreamStale n s
  | .linkInRx at' len last => Sys2Proof.Machine.execLinkInRx at' len last s
  | .resetFilter mi => Sys2Proof.Machine.execResetFilter mi s
  | .refix mi => Sys2Proof.Machine.execRefix mi s
  | .referenceEpoch m => Sys2Proof.Machine.execReferenceEpoch m s
  | .antShort a => Sys2Proof.Machine.execAntShort a s
  | .antOpen a => Sys2Proof.Machine.execAntOpen a s
  | .biasRetry a short => Sys2Proof.Machine.execBiasRetry a short s
  | .biasRestored a => Sys2Proof.Machine.execBiasRestored a s
  | .channelAssign views => Sys2Proof.Machine.execChannelAssign views s
  | .phaseLockLoss ch lost => Sys2Proof.Machine.execPhaseLockLoss ch lost s
  | .navRecord r => Sys2Proof.Machine.execNavRecord r s
  | .ephemerisSave => Sys2Proof.Machine.execEphemerisSave s
  | .spectrumEstimate ant path peaks => Sys2Proof.Machine.execSpectrumEstimate ant path peaks s
  | .jamLevelChange ant path db most atLimit => Sys2Proof.Machine.execJamLevelChange ant path db most atLimit s
  | .spoofAlarmClear => Sys2Proof.Machine.execSpoofAlarmClear s
  | .spoofAlarmWrite value => Sys2Proof.Machine.execSpoofAlarmWrite value s
  | .commitKnown => Sys2Proof.Machine.execCommitKnown s
  | .selfSurvey durationMin => Sys2Proof.Machine.execSelfSurvey durationMin s
  | .clearPositions => Sys2Proof.Machine.execClearPositions s
  | .quietCal => Sys2Proof.Machine.execQuietCal s
  | .surveyAbort => Sys2Proof.Machine.execSurveyAbort s
  | .surveyEnd vec fixedMin => Sys2Proof.Machine.execSurveyEnd vec fixedMin s
  | .posHiWrite value => Sys2Proof.Machine.execPosHiWrite value s
  | .heldPositionRead => Sys2Proof.Machine.execHeldPositionRead s
  | .notchSetWrite value => Sys2Proof.Machine.execNotchSetWrite value s
  | .rtcmMsmOutput epoch => Sys2Proof.Machine.execRtcmMsmOutput epoch s
  | .rtcmStationOutput => Sys2Proof.Machine.execRtcmStationOutput s
  | .timeSolutionRx epoch => Sys2Proof.Machine.execTimeSolutionRx epoch s
  | .timeSolutionTimeout => Sys2Proof.Machine.execTimeSolutionTimeout s
  | .timeInvalid => Sys2Proof.Machine.execTimeInvalid s
  | .stepApply => Sys2Proof.Machine.execStepApply s
  | .timSet errUs => Sys2Proof.Machine.execTimSet errUs s
  | .ppsEdge => Sys2Proof.Machine.execPpsEdge s
  | .leapSecond => Sys2Proof.Machine.execLeapSecond s
  | .ocxoReady => Sys2Proof.Machine.execOcxoReady s
  | .timeSnapshotRead => Sys2Proof.Machine.execTimeSnapshotRead s
  | .timedOutputArm value => Sys2Proof.Machine.execTimedOutputArm value s
  | .timedOutputEdge n => Sys2Proof.Machine.execTimedOutputEdge n s
  | .captureEdge j rising => Sys2Proof.Machine.execCaptureEdge j rising s
  | .captureStampRead => Sys2Proof.Machine.execCaptureStampRead s
  | .rtcUpdate => Sys2Proof.Machine.execRtcUpdate s
  | .ptpMessageRx rx => Sys2Proof.Machine.execPtpMessageRx rx s
  | .ptpSyncTx port => Sys2Proof.Machine.execPtpSyncTx port s
  | .ptpAnnounceTx port => Sys2Proof.Machine.execPtpAnnounceTx port s
  | .ptpTransparentForward port header body rxAt txAt => Sys2Proof.Machine.execPtpTransparentForward port header body rxAt txAt s
  | .downlinkBurst w => Sys2Proof.Machine.execDownlinkBurst w s
  | .joinReqRx rx => Sys2Proof.Machine.execJoinReqRx rx s
  | .rptRx rx => Sys2Proof.Machine.execRptRx rx s
  | .dataUpRx rx => Sys2Proof.Machine.execDataUpRx rx s
  | .pollRx rx => Sys2Proof.Machine.execPollRx rx s
  | .stopReqRx rx => Sys2Proof.Machine.execStopReqRx rx s
  | .partnerBeaconRx rx => Sys2Proof.Machine.execPartnerBeaconRx rx s
  | .machineLost mi => Sys2Proof.Machine.execMachineLost mi s
  | .lostGrantsWithdraw mi => Sys2Proof.Machine.execLostGrantsWithdraw mi s
  | .superframeStart => Sys2Proof.Machine.execSuperframeStart s
  | .dutyWindowTick => Sys2Proof.Machine.execDutyWindowTick s
  | .pollMissed mi => Sys2Proof.Machine.execPollMissed mi s
  | .lbtBackoffExpiry modem busy => Sys2Proof.Machine.execLbtBackoffExpiry modem busy s
  | .prioWaitExpiry modem => Sys2Proof.Machine.execPrioWaitExpiry modem s
  | .machSleep guard => Sys2Proof.Machine.execMachSleep guard s
  | .machWake => Sys2Proof.Machine.execMachWake s
  | .machDetach => Sys2Proof.Machine.execMachDetach s
  | .machGuard guard => Sys2Proof.Machine.execMachGuard guard s
  | .obsGrantApply value => Sys2Proof.Machine.execObsGrantApply value s
  | .rptGrantApply value => Sys2Proof.Machine.execRptGrantApply value s
  | .iqBlockRx link block crc => Sys2Proof.Machine.execIqBlockRx link block crc s
  | .timeBlockTx => Sys2Proof.Machine.execTimeBlockTx s
  | .linkAligned link => Sys2Proof.Machine.execLinkAligned link s
  | .headStatusRx link header stamp payload crc txAt rxAt => Sys2Proof.Machine.execHeadStatusRx link header stamp payload crc txAt rxAt s
  | .headCapsRx link header stamp payload crc => Sys2Proof.Machine.execHeadCapsRx link header stamp payload crc s
  | .headAlarmRx link block => Sys2Proof.Machine.execHeadAlarmRx link block s
  | .linkStateTimeout link => Sys2Proof.Machine.execLinkStateTimeout link s
  | .linkDown link cause codeErrors => Sys2Proof.Machine.execLinkDown link cause codeErrors s
  | .linkRetry link => Sys2Proof.Machine.execLinkRetry link s
  | .periodicEcho link => Sys2Proof.Machine.execPeriodicEcho link s
  | .agcAdjust link stream busy atLow atHigh => Sys2Proof.Machine.execAgcAdjust link stream busy atLow atHigh s
  | .bringUp link => Sys2Proof.Machine.execBringUp link s
  | .linkDownCmd link => Sys2Proof.Machine.execLinkDownCmd link s
  | .echo link => Sys2Proof.Machine.execEcho link s
  | .submit => Sys2Proof.Machine.execSubmit s
  | .cancel => Sys2Proof.Machine.execCancel s
  | .retire => Sys2Proof.Machine.execRetire s
  | .query => Sys2Proof.Machine.execQuery s
  | .assign => Sys2Proof.Machine.execAssign s
  | .requeue => Sys2Proof.Machine.execRequeue s
  | .dspIntakeEntry q image => Sys2Proof.Machine.execDspIntakeEntry q image s
  | .dispatchTick => Sys2Proof.Machine.execDispatchTick s
  | .machineEligible mi => Sys2Proof.Machine.execMachineEligible mi s
  | .dspReserveResult => Sys2Proof.Machine.execDspReserveResult s
  | .orderAccept mi handle => Sys2Proof.Machine.execOrderAccept mi handle s
  | .orderRefuse mi handle => Sys2Proof.Machine.execOrderRefuse mi handle s
  | .orderDone mi handle => Sys2Proof.Machine.execOrderDone mi handle s
  | .orderWithdrawn mi => Sys2Proof.Machine.execOrderWithdrawn mi s
  | .ackTimeout idx => Sys2Proof.Machine.execAckTimeout idx s
  | .deadlineExpiry idx => Sys2Proof.Machine.execDeadlineExpiry idx s
  | .spillHoldExpiry store => Sys2Proof.Machine.execSpillHoldExpiry store s
  | .coreTick => Sys2Proof.Machine.execCoreTick s
  | .threadReady t => Sys2Proof.Machine.execThreadReady t s
  | .threadCreate => Sys2Proof.Machine.execThreadCreate s
  | .threadDestroy => Sys2Proof.Machine.execThreadDestroy s
  | .threadSuspend => Sys2Proof.Machine.execThreadSuspend s
  | .threadResume => Sys2Proof.Machine.execThreadResume s
  | .threadWait kind arg => Sys2Proof.Machine.execThreadWait kind arg s
  | .slotUpdate => Sys2Proof.Machine.execSlotUpdate s
  | .slotTrigger slot x aid => Sys2Proof.Machine.execSlotTrigger slot x aid s
  | .periodicFire slot => Sys2Proof.Machine.execPeriodicFire slot s
  | .fire => Sys2Proof.Machine.execFire s
  | .slotRestart => Sys2Proof.Machine.execSlotRestart s
  | .gapAssignCmd pair => Sys2Proof.Machine.execGapAssignCmd pair s
  | .gapFreeCmd => Sys2Proof.Machine.execGapFreeCmd s
  | .satClearWrite => Sys2Proof.Machine.execSatClearWrite s
  | .ahnobLinkUp hello => Sys2Proof.Machine.execAhnobLinkUp hello s
  | .helloRx hello => Sys2Proof.Machine.execHelloRx hello s
  | .ahnobLinkDown => Sys2Proof.Machine.execAhnobLinkDown s
  | .heartbeatTx => Sys2Proof.Machine.execHeartbeatTx s
  | .heartbeatRx rx crcOk => Sys2Proof.Machine.execHeartbeatRx rx crcOk s
  | .heartbeatLoss => Sys2Proof.Machine.execHeartbeatLoss s
  | .mirrorMessageRx m ok => Sys2Proof.Machine.execMirrorMessageRx m ok s
  | .snapshotRequestRx => Sys2Proof.Machine.execSnapshotRequestRx s
  | .mirrorLagLimit => Sys2Proof.Machine.execMirrorLagLimit s
  | .roleClaim => Sys2Proof.Machine.execRoleClaim s
  | .claimSample => Sys2Proof.Machine.execClaimSample s
  | .decisionMoment => Sys2Proof.Machine.execDecisionMoment s
  | .ahnSwap notest => Sys2Proof.Machine.execAhnSwap notest s
  | .ahnRelease => Sys2Proof.Machine.execAhnRelease s
  | .resync => Sys2Proof.Machine.execResync s
  | .tokenPathTest => Sys2Proof.Machine.execTokenPathTest s
  | .tokenTestEnd pass => Sys2Proof.Machine.execTokenTestEnd pass s
  | .plannedSwapAccept => Sys2Proof.Machine.execPlannedSwapAccept s
  | .evtRaise event => Sys2Proof.Machine.execEvtRaise event s
  | .pendingClear n mask => Sys2Proof.Machine.execPendingClear n mask s
  | .vectorModerationExpiry v => Sys2Proof.Machine.execVectorModerationExpiry v s
  | .doorbellWrite r value => Sys2Proof.Machine.execDoorbellWrite r value s
  | .ringEnable value => Sys2Proof.Machine.execRingEnable value s
  | .perst => Sys2Proof.Machine.execPerst s
  | .hostLinkDown => Sys2Proof.Machine.execHostLinkDown s
  | .hostLinkUp speed width => Sys2Proof.Machine.execHostLinkUp speed width s
  | .ethFrameRx port frame fcsOk => Sys2Proof.Machine.execEthFrameRx port frame fcsOk s
  | .ethTxRingEntry port => Sys2Proof.Machine.execEthTxRingEntry port s
  | .forwardEntry fwd => Sys2Proof.Machine.execForwardEntry fwd s
  | .ruleEnable value => Sys2Proof.Machine.execRuleEnable value s
  | .forwardEnable value => Sys2Proof.Machine.execForwardEnable value s
  | .queuePointerMismatch q => Sys2Proof.Machine.execQueuePointerMismatch q s
  | .queueDrop => Sys2Proof.Machine.execQueueDrop s
  | .queueReset => Sys2Proof.Machine.execQueueReset s
  | .queueResume => Sys2Proof.Machine.execQueueResume s
  | .leaveRequest requester index => Sys2Proof.Machine.execLeaveRequest requester index s
  | .hostLeaveWrite value => Sys2Proof.Machine.execHostLeaveWrite value s
  | .budgetWrite value => Sys2Proof.Machine.execBudgetWrite value s
  | .maintenanceTestStart => Sys2Proof.Machine.execMaintenanceTestStart s
  | .maintenanceTestEnd pass => Sys2Proof.Machine.execMaintenanceTestEnd pass s
  | .whole => Sys2Proof.Machine.execWhole s
  | .testAbort => Sys2Proof.Machine.execTestAbort s
  | .wholeTestEnd failed => Sys2Proof.Machine.execWholeTestEnd failed s
  | .powerFailWarning => Sys2Proof.Machine.execPowerFailWarning s
  | .powerReturn => Sys2Proof.Machine.execPowerReturn s
  | .brownOut => Sys2Proof.Machine.execBrownOut s
  | .powerOn lost => Sys2Proof.Machine.execPowerOn lost s
  | .resetPin low => Sys2Proof.Machine.execResetPin low s
  | .hostResetKey1 => Sys2Proof.Machine.execHostResetKey1 s
  | .hostResetKey2 => Sys2Proof.Machine.execHostResetKey2 s
  | .debugReset => Sys2Proof.Machine.execDebugReset s
  | .optionLoad => Sys2Proof.Machine.execOptionLoad s
  | .domainRelease => Sys2Proof.Machine.execDomainRelease s
  | .optionWrite => Sys2Proof.Machine.execOptionWrite s
  | .clearStrikes => Sys2Proof.Machine.execClearStrikes s
  | .insertion => Sys2Proof.Machine.execInsertion s
  | .eject => Sys2Proof.Machine.execEject s
  | .ejectCancel => Sys2Proof.Machine.execEjectCancel s
  | .removalReady => Sys2Proof.Machine.execRemovalReady s
  | .surpriseRemoval => Sys2Proof.Machine.execSurpriseRemoval s
  | .thermalTrip => Sys2Proof.Machine.execThermalTrip s
  | .hoursTick => Sys2Proof.Machine.execHoursTick s
  | .powerSample g insts dtNs good => Sys2Proof.Machine.execPowerSample g insts dtNs good s
  | .inputFault n => Sys2Proof.Machine.execInputFault n s
  | .inputClear n => Sys2Proof.Machine.execInputClear n s
  | .acUnlock g => Sys2Proof.Machine.execAcUnlock g s
  | .pulseEmit n => Sys2Proof.Machine.execPulseEmit n s
  | .meterSave ok => Sys2Proof.Machine.execMeterSave ok s
  | .bayFreeEval => Sys2Proof.Machine.execBayFreeEval s
  | .sessionEnd bay => Sys2Proof.Machine.execSessionEnd bay s
  | .bayFreeCmd bay => Sys2Proof.Machine.execBayFreeCmd bay s
  | .bayBusyCmd bay => Sys2Proof.Machine.execBayBusyCmd bay s
  | .bayEndCmd bay => Sys2Proof.Machine.execBayEndCmd bay s
  | .poCfgWrite value => Sys2Proof.Machine.execPoCfgWrite value s
  | .accumulatorRead => Sys2Proof.Machine.execAccumulatorRead s
  | .rootGenerate healthy => Sys2Proof.Machine.execRootGenerate healthy s
  | .createPair healthy => Sys2Proof.Machine.execCreatePair healthy s
  | .enrolPair => Sys2Proof.Machine.execEnrolPair s
  | .acceptPair => Sys2Proof.Machine.execAcceptPair s
  | .enrolExchangeRx rx => Sys2Proof.Machine.execEnrolExchangeRx rx s
  | .enrolWindowExpiry => Sys2Proof.Machine.execEnrolWindowExpiry s
  | .renewBeacon => Sys2Proof.Machine.execRenewBeacon s
  | .exportMachine => Sys2Proof.Machine.execExportMachine s
  | .exportSender => Sys2Proof.Machine.execExportSender s
  | .enrolImg => Sys2Proof.Machine.execEnrolImg s
  | .revokeImg => Sys2Proof.Machine.execRevokeImg s
  | .readDevpub => Sys2Proof.Machine.execReadDevpub s
  | .forgetPair => Sys2Proof.Machine.execForgetPair s
  | .lifeCycleKey1 target => Sys2Proof.Machine.execLifeCycleKey1 target s
  | .lifeCycleKey2 target => Sys2Proof.Machine.execLifeCycleKey2 target s
  | .begin => Sys2Proof.Machine.execBegin s
  | .block => Sys2Proof.Machine.execBlock s
  | .finish => Sys2Proof.Machine.execFinish s
  | .updAbort => Sys2Proof.Machine.execUpdAbort s
  | .confirm => Sys2Proof.Machine.execConfirm s
  | .revert => Sys2Proof.Machine.execRevert s
  | .updateCopy complete => Sys2Proof.Machine.execUpdateCopy complete s
  | .autoConfirm => Sys2Proof.Machine.execAutoConfirm s
  | .trialExpiry => Sys2Proof.Machine.execTrialExpiry s
  | .readCirc => Sys2Proof.Machine.execReadCirc s
  | .readPerm => Sys2Proof.Machine.execReadPerm s
  | .flush => Sys2Proof.Machine.execFlush s
  | .logBufferWrite badPages badUnits => Sys2Proof.Machine.execLogBufferWrite badPages badUnits s
  | .repeatClose => Sys2Proof.Machine.execRepeatClose s
  | .quarantineExpiry mi => Sys2Proof.Machine.execQuarantineExpiry mi s
  | .stopInputRelease b => Sys2Proof.Machine.execStopInputRelease b s
  | .holdoverQualityStep => Sys2Proof.Machine.execHoldoverQualityStep s
  | .roleInNChange low => Sys2Proof.Machine.execRoleInNChange low s
  | .ethLinkChange port up => Sys2Proof.Machine.execEthLinkChange port up s
  | .sfpChange port present los txFault => Sys2Proof.Machine.execSfpChange port present los txFault s
  | .pcieError dmaCompletion => Sys2Proof.Machine.execPcieError dmaCompletion s
  | .floodRelayRx rx => Sys2Proof.Machine.execFloodRelayRx rx s
  | .acquisitionComplete ch => Sys2Proof.Machine.execAcquisitionComplete ch s
  | .announceReceiptTimeout port => Sys2Proof.Machine.execAnnounceReceiptTimeout port s
  | .pdelayReqTx port => Sys2Proof.Machine.execPdelayReqTx port s
  | .wardenSelfTestEnd pass => Sys2Proof.Machine.execWardenSelfTestEnd pass s
  | .plannedSwapRelease => Sys2Proof.Machine.execPlannedSwapRelease s
  | .tempHigh => Sys2Proof.Machine.execTempHigh s
  | .referenceSetTimeout epoch => Sys2Proof.Machine.execReferenceSetTimeout epoch s
  | .followEntryEnd entry => Sys2Proof.Machine.execFollowEntryEnd entry s
  | .logReadComplete overtaken => Sys2Proof.Machine.execLogReadComplete overtaken s
  | .optionWriteComplete => Sys2Proof.Machine.execOptionWriteComplete s
  | .partnerKeyMessageRx bgen ok => Sys2Proof.Machine.execPartnerKeyMessageRx bgen ok s
  | .busMasterEnableChange on => Sys2Proof.Machine.execBusMasterEnableChange on s
  | .msixVectorUnmask v => Sys2Proof.Machine.execMsixVectorUnmask v s
  | .forcedWholeTestBegin => Sys2Proof.Machine.execForcedWholeTestBegin s
  | .thermalRecovery => Sys2Proof.Machine.execThermalRecovery s

end Sys2Proof.Machine
end

