-- ==== Sys2Proof/Machine/Panel.lean ====
section
/-!
DEFINITION. The front panel (R462): what the status LEDs show in a state.
-/

namespace Sys2Proof.Machine

/-- What an LED shows. -/
inductive LedShow where
  | off | green | greenBlink | amber | red | blue
  deriving DecidableEq, Repr

/-- PWR: green while P12V is valid, amber while PFW_N is asserted. -/
def State.ledPwr (s : State) : LedShow := if s.pins.p12v then .green else .amber

/-- ROLE: green steady ACTIVE, green at 1 Hz READY, amber SYNC, off NONE; for FAILED the spec gives nothing. -/
def State.ledRole (s : State) : Option LedShow :=
  match s.ahn.role with
  | .active => some .green
  | .ready => some .greenBlink
  | .sync => some .amber
  | .none => some .off
  | .failed => none

/-- FAULT: red while FAIL_N is asserted. -/
def State.ledFault (s : State) : LedShow := if s.ahn.failN then .red else .off

/-- GNSS: green LOCKED; off NONE or HOST; amber otherwise. -/
def State.ledGnss (s : State) : LedShow :=
  let q := s.fld F.TIM_QUAL_QUAL
  if q = Qual.LOCKED then .green else if q = Qual.NONE || q = Qual.HOST then .off else .amber

/-- EJECT: blue while removal-ready. -/
def State.ledEject (s : State) : LedShow := if s.removalReady then .blue else .off

end Sys2Proof.Machine
end

