-- ==== Sys2Proof/Safety.lean ====
section
/-!
DEFINITION. What statements about whole states rest on: the canonical form of the stored data, what it means that machines may
move, and the frames: what a command leaves as it was.
-/

namespace Sys2Proof.Machine

/-! ## The canonical form -/

/-- BAR2 memory is in canonical form: offsets strictly rising, no byte of value 0 listed. -/
def Memory.wf (m : SMap Byte) : Bool := SMap.wf (fun _ => 0#8) m

/-- The register file is in canonical form: keys strictly rising, no register listed at its reset word. -/
def RegFile.wf (m : SMap Word) : Bool := SMap.wf regDefault m

/-- The stored data of a state is canonical: equal contents are equal data. -/
def State.canonical (s : State) : Prop := Memory.wf s.bar2 = true ∧ RegFile.wf s.regs = true

/-- The module holds every machine still: it is stopped, or not running at all (R94, R376). -/
def State.holdsStill (s : State) : Bool := !s.running || s.fleetState != Tense.RUN

/-- The module runs and a block is enabled: what the rules of an enabled block presuppose (R36, R376). -/
abbrev State.works (s : State) (b : Nat) : Prop := s.running = true ∧ s.blkOn b = true

/-- Event `n` is pending (R340). -/
def State.pend (s : State) (n : Nat) : Bool := s.flag (pendFld n)

/-- A received frame passes the checks of R216 that need nothing but the frame and the keys: heard, its CRC and CMAC good, of the
module's pair, and broadcast or sent to the module. -/
abbrev State.rxGood (s : State) (rx : AirRx) : Prop :=
  s.rxHeard rx = true ∧ s.crcGood rx = true ∧ s.cmacGood rx = true ∧ (s.rxFrame rx).pairId = s.fld F.AIR_CFG_PAIR_ID ∧
    ((s.rxFrame rx).dst = none ∨ (s.rxFrame rx).dst = some s.airAddr)

/-- The sets of `e` may be formed (R159): 8 ms into an epoch of the device time grid for which there are none yet. -/
abbrev State.epochReady (s : State) (e : Nat) : Prop := e = 100 * (s.devClause / 100) ∧ e + 8 ≤ s.devClause ∧ s.grx.lastEpoch ≠ some e

/-- The state once the channels have reported at epoch `e` (R157). -/
abbrev State.reported (s : State) (e : Nat) (m : RefMeas) : State :=
  m.chans.foldl State.chanReport (s.setGrx fun g => { g with lastEpoch := some e })

/-- An epoch's double differences over the baseline, with their pivots; none while a position is not held (R166, R169). -/
abbrev State.epochDds (s : State) (e : Nat) (a b : AntSet) : List BaseDd × List Nat :=
  match s.heldPos 0, s.heldPos 1 with
  | some p, some q => s.baseDds e p q a b
  | _, _ => ([], [])

/-- The fix of an epoch's baseline. -/
abbrev State.epochFix (s : State) (e : Nat) (a b : AntSet) : Option BaseFix := baseFix (s.epochDds e a b).1 (s.epochDds e a b).2

/-- Commands that act while the module is in reset: reset sources, power, presence and the ejector, the backup clock, the loader, the
release (R369–R376, R379, R382), the levels of the stop, comma, role and PERST_N pins, and host reads, which return 0 (R376). -/
def actsInReset (c : Instr) : Bool :=
  match c with
  | .powerOn _ | .brownOut | .resetPin _ | .debugReset | .thermalTrip | .thermalRecovery | .hoursTick | .optionLoad | .domainRelease
  | .powerFailWarning | .powerReturn | .insertion | .eject | .ejectCancel | .surpriseRemoval | .roleInNChange _
  | .stopInputAssert _ | .stopInputRelease _ | .commaPinAssert | .commaPinRelease | .perst | .clauseTimeNowRead | .seqSnapshotRead | .timeSnapshotRead
  | .captureStampRead | .heldPositionRead | .accumulatorRead | .readClear _ _ => true
  | _ => false

/-- `t` is `s` after a module reset recorded with `cause`, `n` resets having been counted before it (R369, R370): registers and latches
at their reset values, the option store, the NAND and the queue as they were. -/
def State.Restarted (s t : State) (cause n : Nat) : Prop :=
  t.fld F.RST_STATUS_CAUSE = cause ∧ t.running = false ∧ t.bkp.resets = min (n + 1) (2 ^ 32 - 1) ∧
    (∀ b a, a < 0x4000000 → a ∉ [R.RST_STATUS, R.LOG_STATUS] → t.regB b a = Regs.resetWord a) ∧
    t.aut = AutSt.reset ∧ t.warden = WardenSt.reset ∧ t.cls = ClsSt.reset ∧
    t.optA = s.optA ∧ t.optB = s.optB ∧ t.nand = s.nand ∧ t.keys = s.keys ∧ t.meterSave = s.meterSave ∧
    t.log.circ = s.log.circ ∧ t.log.perm = s.log.perm ∧ t.pending = s.pending

/-! ## Frames -/

/-- The parts of a state beside its registers and BAR2. -/
inductive Part where
  | mono | tai | evt | log | rings | xq | pwr | rst | hpg | bkp | optA | optB | pins | sim | nand | cls | aut | warden | keys | key | fw | upd | ahn | rhl | air | eth | lpe | slv | tim | ptp | grx | dmu | meterSave | dsp | hostRead | out | freeCtr | pending
  deriving DecidableEq, Repr

/-- A part is the same in two states. -/
def Part.same (p : Part) (s t : State) : Prop :=
  match p with
  | .mono => t.mono = s.mono
  | .tai => t.tai = s.tai
  | .evt => t.evt = s.evt
  | .log => t.log = s.log
  | .rings => t.rings = s.rings
  | .xq => t.xq = s.xq
  | .pwr => t.pwr = s.pwr
  | .rst => t.rst = s.rst
  | .hpg => t.hpg = s.hpg
  | .bkp => t.bkp = s.bkp
  | .optA => t.optA = s.optA
  | .optB => t.optB = s.optB
  | .pins => t.pins = s.pins
  | .sim => t.sim = s.sim
  | .nand => t.nand = s.nand
  | .cls => t.cls = s.cls
  | .aut => t.aut = s.aut
  | .warden => t.warden = s.warden
  | .keys => t.keys = s.keys
  | .key => t.key = s.key
  | .fw => t.fw = s.fw
  | .upd => t.upd = s.upd
  | .ahn => t.ahn = s.ahn
  | .rhl => t.rhl = s.rhl
  | .air => t.air = s.air
  | .eth => t.eth = s.eth
  | .lpe => t.lpe = s.lpe
  | .slv => t.slv = s.slv
  | .tim => t.tim = s.tim
  | .ptp => t.ptp = s.ptp
  | .grx => t.grx = s.grx
  | .dmu => t.dmu = s.dmu
  | .meterSave => t.meterSave = s.meterSave
  | .dsp => t.dsp = s.dsp
  | .hostRead => t.hostRead = s.hostRead
  | .out => t.out = s.out
  | .freeCtr => t.freeCtr = s.freeCtr
  | .pending => t.pending = s.pending

/-- The registers that reporting an event may write (R340–R342, R334–R337, R434): pending bits, the lost count, ring drop counts,
pending vectors and the logbook's counts. -/
def reportReg (a : Nat) : Bool :=
  (decide (R.EVT_PEND ≤ a) && decide (a < R.EVT_PEND + 32)) || a == R.EVT_CNT || a == R.HST_CNT + 4 || a == R.HST_RING_DROP
    || a == R.HST_PBA || a == R.HST_PBA + 4 || a == R.LOG_CNT || a == R.LOG_CNT + 4 || a == R.LOG_CNT + 12

/-- A BAR2 offset lies in the slots of ring `r` (R335); a DMA slot is at least its 16-byte descriptor (R336). -/
def State.inRing (s : State) (r a : Nat) : Bool :=
  decide (s.ringBase r ≤ a) && decide (a < s.ringBase r + s.ringCount r * s.ringSlot r + 16)

/-- A BAR2 offset lies in a ring that takes event or logbook records (R341, R440). -/
def State.inReportRing (s : State) (a : Nat) : Bool :=
  s.inRing (s.fld F.EVT_RING_RING) a || s.inRing (s.fld F.LOG_CFG_RING) a

/-- The parts that reporting an event may change: the event and logbook engines, ring indices, what leaves the module. -/
def reportParts : List Part := [.evt, .log, .rings, .out]

/-- `t` is `s` but for the registers `regs` and the parts `parts`; every byte of BAR2 is the same. -/
def State.Frame (regs : List Nat) (parts : List Part) (s t : State) : Prop :=
  (∀ b a, a < 0x4000000 → a ∉ regs → t.regB b a = s.regB b a) ∧ (∀ a, t.bar2At a = s.bar2At a) ∧
    ∀ p, p ∉ parts → p.same s t

/-- `t` is `s` but for the registers `regs`, the parts `parts`, and what reporting events may change. -/
def State.ReportFrame (regs : List Nat) (parts : List Part) (s t : State) : Prop :=
  (∀ b a, a < 0x4000000 → a ∉ regs → reportReg a = false → t.regB b a = s.regB b a) ∧
    (∀ a, s.inReportRing a = false → t.bar2At a = s.bar2At a) ∧ ∀ p, p ∉ parts → p ∉ reportParts → p.same s t

/-! ## The Clause Table -/

/-- The Clause Table is the same: records, chains, free list and follow table. -/
abbrev State.sameClauses (s t : State) : Prop :=
  t.cls.clauses = s.cls.clauses ∧ t.cls.chains = s.cls.chains ∧ t.cls.freeNext = s.cls.freeNext ∧
    t.cls.freeTail = s.cls.freeTail ∧ t.cls.follow = s.cls.follow

/-- The eight primitives in the order of their OP codes, 1 to 8 (R50). -/
def clsRow (k : Nat) (p : ClsPort) : Instr :=
  match k with
  | 0 => .reserve p
  | 1 => .clsRelease p
  | 2 => .extend p
  | 3 => .shrink p
  | 4 => .clsSwap p
  | 5 => .querySpace p
  | 6 => .queryHandle p
  | _ => .sweep p

/-! ## The dispatcher -/

/-- The host port of DSP takes a command: DSP enabled on a module that is no standby, nothing running or waiting there (R270). -/
abbrev State.dspTakes (s : State) : Prop :=
  s.works Blk.DSP ∧ s.isStandby = false ∧ s.flag F.DSP_STATUS2_BUSY = false ∧ s.dsp.waiting.any (fun w => w.1 == dspHost) = false

/-- The host port answers: status, the state and the handle of order `i` (R270, R284). -/
abbrev State.dspAnswers (t : State) (status i : Nat) : Prop :=
  t.reg R.DSP_RES0 = BitVec.ofNat 32 (status + (t.order i).state * 256) ∧ t.reg R.DSP_RES1 = BitVec.ofNat 32 ((t.order i).handle i) ∧
    t.flag F.DSP_STATUS2_DONE = true ∧ t.flag F.DSP_STATUS2_BUSY = false

/-- An order leaves its machine unhindered: it holds no clause, or CLS does not call the clause IN_USE (R276). -/
abbrev State.orderLoose (s : State) (i : Nat) : Prop :=
  (s.order i).clause = 0 ∨
    (s.clsRun ClsOp.RELEASE ⟨false, false, false, false, 0, (s.order i).clause, 0, 0, 0, 0, 0, false⟩).res.status ≠ Cs.IN_USE

/-- DSP acts on what machines answer: enabled on a running module that is no standby (R275, R312). -/
abbrev State.dspActs (s : State) : Prop := s.works Blk.DSP ∧ s.isStandby = false

end Sys2Proof.Machine
end

