-- ==== Sys2Proof/Certificates/Slice0/Obligations.lean ====
section
/-!
DEFINITION. The statements for the provers: what the module's commands do, by family, from the numbered rules of the spec.
-/

open Sys2Proof Sys2Proof.Machine

/-! ## The queue, the step and reset -/

/-- The step runs the command at the front of the queue on the rest of it. -/
def Obligations.StepRunsFrontCommand : Prop :=
  ∀ (c : Instr) (rest : List Instr) (s : State), s.pending = c :: rest → step s = exec c { s with pending := rest }

/-- With nothing waiting a step is 1 µs of time: DESIGN CHOICE, log 1. Clocks advance; registers, BAR2 and every engine stay. -/
def Obligations.EmptyQueueIdles : Prop :=
  ∀ s : State, s.pending = [] → ∃ t, step s = .next t ∧ t.mono = s.mono + 1000 ∧ t.tai = s.tai + 1000 ∧
    t.bkp.rtc = s.bkp.rtc + 1000 ∧ t.nand.validNs = s.nand.validNs + (if s.timeValid then 1000 else 0) ∧
    State.Frame [] [.mono, .tai, .bkp, .nand] s t ∧ t.regs = s.regs ∧ t.bar2 = s.bar2

/-- Registers after reset (R5 and the register sections): the words their headers give, no authority latch set, nothing queued. -/
def Obligations.ResetRegisters : Prop :=
  (∀ a, a < 0x4000000 → a ≠ R.RST_STATUS → State.reset.reg a = Regs.resetWord a) ∧
    State.reset.fld F.PWR_BUDGET_HEADROOM_MW = 2000 ∧ State.reset.fld F.PWR_TEST_PERIOD_S = 60 ∧
    State.reset.flag F.PWR_TEST_AUTO = true ∧ State.reset.fld F.HPG_CFG_QUIESCE_MS = 80 ∧
    State.reset.reg R.AUT_LIFE = 0x002000FA#32 ∧ State.reset.reg R.CLS_HORIZON = 0x05265C00#32 ∧
    State.reset.reg R.CLS_NOTICE = 0x00001388#32 ∧ State.reset.reg R.EVT_PEND = 0#32 ∧ State.reset.reg R.AIR_CFG = 0#32 ∧
    (∀ b ∈ Blk.image, State.reset.blkOn b = false) ∧ State.reset.sim.applied = none ∧ State.reset.aut.fsLatch = false ∧
    State.reset.pending = []

/-- The stored data of the reset state is canonical. -/
def Obligations.ResetCanonical : Prop := State.reset.canonical

/-- Every step keeps the canonical form of the register file and of BAR2, so equal contents stay equal data. -/
def Obligations.StepKeepsCanonical : Prop := ∀ s t : State, s.canonical → step s = .next t → t.canonical

/-- While the module is in reset, a command changes nothing, but for the sources, pins and steps that reset itself knows (R376). -/
def Obligations.ResetHoldsEverything : Prop :=
  ∀ (c : Instr) (s : State), s.running = false → actsInReset c = false → exec c s = .next s

/-- No command touches the queue: what waits, waits in order until a step takes it. -/
def Obligations.CommandsLeaveQueue : Prop :=
  ∀ (c : Instr) (s : State), ∃ t, exec c s = .next t ∧ t.pending = s.pending

/-! ## PWR, RST, HPG (R360–R390) -/

/-- The reset sources of R369: each restarts the module with its cause, from every state that meets its condition. -/
def Obligations.ResetSources : Prop :=
  (∀ (s : State) (lost : Bool), ∃ t, exec (.powerOn lost) s = .next t ∧
      State.Restarted s t 1 (if lost then 0 else s.bkp.resets) ∧ t.pins.p12v = true ∧
      t.bkp.pcycles = min ((if lost then 0 else s.bkp.pcycles) + 1) (2 ^ 24 - 1) ∧
      (lost = true → t.bkp.hours = 0 ∧ t.bkp.strikes = 0 ∧ t.bkp.rtcValid = false ∧ t.bkp.lost = true)) ∧
  (∀ s : State, ∃ t, exec .brownOut s = .next t ∧ State.Restarted s t 2 s.bkp.resets) ∧
  (∀ s : State, ∃ t, exec (.resetPin true) s = .next t ∧ State.Restarted s t 3 s.bkp.resets ∧
      t.pins.resetLow = true ∧ t.rst.phase = .held) ∧
  (∀ s : State, s.keys.lc < 2 → ∃ t, exec .debugReset s = .next t ∧ State.Restarted s t 5 s.bkp.resets) ∧
  (∀ s : State, 2 ≤ s.keys.lc → exec .debugReset s = .next s) ∧
  (∀ s : State, ∃ t, exec .thermalTrip s = .next t ∧ State.Restarted s t 2 s.bkp.resets ∧ t.rst.phase = .tripped) ∧
  (∀ (s : State) (k : Nat), s.running = true → s.rst.key1 = some k → s.mono ≤ k + 100000000 →
      ∃ t, exec .hostResetKey2 s = .next t ∧ State.Restarted s t 4 s.bkp.resets)

/-- The loader and the release (R372, R373, R375): which options apply, what counts as a strike, when the module runs. -/
def Obligations.LoaderAndRelease : Prop :=
  (∀ (s : State) (o : OptRec), s.rst.phase = .loading → s.bkp.strikes < 3 → s.optA = some o → ∃ t, exec .optionLoad s = .next t ∧
      t.rst.phase = .releasing ∧ t.bkp.strikes = s.bkp.strikes + 1 ∧ t.reg R.GLB_SERIAL_LO = BitVec.ofNat 32 o.serial ∧
      t.fld F.PWR_BUDGET_BUDGET_MW = o.budgetMw % 65536 ∧ t.flag F.SIM_CTRL_LEVEL = o.simLevel ∧
      State.Frame [R.GLB_SERIAL_LO, R.GLB_SERIAL_HI, R.ETH_MAC_LO, R.ETH_MAC_HI, R.SIM_CTRL, R.PWR_BUDGET] [.bkp, .rst] s t) ∧
  (∀ (s : State) (o : OptRec), s.rst.phase = .loading → s.bkp.strikes < 3 → s.optA = none → s.optB = some o →
      ∃ t, exec .optionLoad s = .next t ∧ t.rst.phase = .releasing ∧ t.bkp.strikes = s.bkp.strikes + 1 ∧
      t.flag F.RST_STATUS_A_BAD = true ∧ t.flag F.RST_STATUS_COPY = true ∧ t.fld F.PWR_BUDGET_BUDGET_MW = o.budgetMw % 65536 ∧
      t.pend Ev.RST_OPTION_FAIL = true) ∧
  (∀ s : State, s.rst.phase = .loading → s.bkp.strikes < 3 → s.optA = none → s.optB = none → ∃ t, exec .optionLoad s = .next t ∧
      State.Restarted s t 6 s.bkp.resets ∧ t.bkp.strikes = s.bkp.strikes + 1) ∧
  (∀ s : State, s.rst.phase = .loading → 3 ≤ s.bkp.strikes → ∃ t, exec .optionLoad s = .next t ∧ t.rst.phase = .releasing ∧
      t.bkp.strikes = s.bkp.strikes ∧ t.reg R.GLB_SERIAL_LO = 0#32 ∧ t.fld F.PWR_BUDGET_BUDGET_MW = 18000 ∧
      t.flag F.SIM_CTRL_LEVEL = true ∧ t.flag F.RST_STATUS_SAFE = true ∧ t.pend Ev.RST_FACTORY_SAFE = true) ∧
  (∀ s : State, s.rst.phase = .releasing → ∃ t, exec .domainRelease s = .next t ∧ t.running = true ∧
      t.bkp.strikes = (if s.flag F.RST_STATUS_SAFE then s.bkp.strikes else 0) ∧ t.pend Ev.RST_STARTED = true ∧
      (s.bkp.lost = true → s.fld F.RST_STATUS_CAUSE = 1 → t.pend Ev.RST_BACKUP_LOST = true) ∧
      State.ReportFrame [R.LOG_STATUS] [.rst, .bkp] s t) ∧
  (∀ s : State, s.rst.phase = .tripped → ∃ t, exec .thermalRecovery s = .next t ∧ State.Frame [] [.rst] s t ∧
      t.rst.phase = (if s.pins.mayStart then .loading else .held)) ∧
  (∀ s : State, s.rst.phase = .held → s.pins.p12v = true → s.pins.presentLow = true → ∃ t, exec (.resetPin false) s = .next t ∧
      t.rst.phase = .loading ∧ t.pins = { s.pins with resetLow := false } ∧ State.Frame [] [.rst, .pins] s t) ∧
  (∀ s : State, s.rst.phase = .held → s.pins.p12v = true → s.pins.resetLow = false → ∃ t, exec .insertion s = .next t ∧
      t.rst.phase = .loading ∧ t.pins = { s.pins with presentLow := true } ∧ State.Frame [] [.rst, .pins] s t)

/-- Power fail, removal, and the clocks and limits PWR watches (R367, R368, R379–R382, R390). -/
def Obligations.PowerFailAndRemoval : Prop :=
  (∀ s : State, s.running = true → s.pins.p12v = true → ∃ t, exec .powerFailWarning s = .next t ∧ t.pins.p12v = false ∧
      t.ledPwr = .amber ∧ t.ledFault = .red ∧ t.pend Ev.PWR_PFW = true ∧ t.ahn.failN = true ∧ t.rst.optWrite = none ∧ t.fw.receiving = none ∧
      Emit.pin .pfwN false ∈ t.out) ∧
  (∀ s : State, s.running = true → s.pins.p12v = false → ∃ t, exec .powerReturn s = .next t ∧ t.pins.p12v = true ∧ t.ledPwr = .green ∧
      t.pend Ev.PWR_PFW_CLEAR = true ∧ Emit.pin .pfwN true ∈ t.out ∧ t.rst = s.rst ∧ t.keys = s.keys) ∧
  (∀ s : State, s.running = true → s.hpg.ejectAt = none → ∃ t, exec .eject s = .next t ∧ t.hpg.ejectAt = some s.mono ∧
      t.flag F.HPG_STATUS_EJECT = true ∧ t.fld F.HPG_STATUS_STATE = 1 ∧ t.pend Ev.HPG_EJECT = true ∧ t.rst.optWrite = none ∧
      t.fw.receiving = none) ∧
  (∀ (s : State) (k : Nat), s.running = true → s.hpg.ejectAt = some k → s.removalReady = false → ∃ t, exec .ejectCancel s = .next t ∧
      t.hpg.ejectAt = none ∧ t.flag F.HPG_STATUS_EJECT = false ∧ t.fld F.HPG_STATUS_STATE = 0 ∧ t.pend Ev.HPG_EJECT_CANCEL = true) ∧
  (∀ (s : State) (k : Nat), s.running = true → s.hpg.ejectAt = some k → s.removalReady = true → ∃ t, exec .ejectCancel s = .next t ∧
      State.Restarted s t 7 s.bkp.resets) ∧
  (∀ (s : State) (k : Nat), s.running = true → s.hpg.ejectAt = some k → s.removalReady = false →
      k + s.fld F.HPG_CFG_QUIESCE_MS * 1000000 ≤ s.mono → ∃ t, exec .removalReady s = .next t ∧ t.removalReady = true ∧ t.ledEject = .blue ∧
      t.pend Ev.HPG_REMOVAL_READY = true ∧ (s.isActive = true → t.ahn = s.ahn ∧ t.tim = s.tim) ∧
      (s.isActive = false → t.ahn.failN = true ∧ t.ahn.roleOut = false ∧ t.tim.outs = []) ∧
      State.ReportFrame [R.HPG_STATUS] [.hpg, .ahn, .tim] s t) ∧
  (∀ s : State, s.hpg.ejectAt ≠ none → ∃ t, exec .surpriseRemoval s = .next t ∧ State.Restarted s t 7 s.bkp.resets ∧
      t.pins.presentLow = false ∧ t.rst.phase = .held) ∧
  (∀ s : State, s.pins.p12v = true → ∃ t, exec .hoursTick s = .next t ∧ t.bkp = { s.bkp with hours := (s.bkp.hours + 1) % 2 ^ 32 } ∧
      State.Frame [] [.bkp] s t) ∧
  (∀ s : State, s.running = true → (∀ k, s.pwr.lastHot = some k → k + 60000000000 ≤ s.mono) → ∃ t, exec .tempHigh s = .next t ∧
      t.pend Ev.PWR_TEMP_HIGH = true ∧ State.ReportFrame [] [.pwr] s t) ∧
  (∀ (s : State) (k : Nat), s.running = true → s.pwr.lastHot = some k → s.mono < k + 60000000000 → exec .tempHigh s = .next s)

/-- The leave arbiter (R360, R361, R363, R386): grants, refusals and returns of host leaves, lane leaves and the budget. -/
def Obligations.LeaveArbiter : Prop :=
  (∀ (s : State) (w : Word), s.running = true → s.flag F.PWR_HOST_LEAVE_GRANTED = false → F.PWR_HOST_LEAVE_MW.get w ≠ 0 →
      (F.PWR_HOST_LEAVE_CLASS.get w = 1 ∨ F.PWR_HOST_LEAVE_CLASS.get w = 2) →
      s.committed + F.PWR_HOST_LEAVE_MW.get w ≤ s.budget → ∃ t, exec (.hostLeaveWrite w) s = .next t ∧
      t.flag F.PWR_HOST_LEAVE_GRANTED = true ∧ t.fld F.PWR_HOST_LEAVE_RESULT = 1 ∧
      t.fld F.PWR_HOST_LEAVE_MW = F.PWR_HOST_LEAVE_MW.get w ∧ State.Frame [R.PWR_HOST_LEAVE, R.PWR_CNT] [] s t) ∧
  (∀ (s : State) (w : Word), s.running = true → s.flag F.PWR_HOST_LEAVE_GRANTED = false → F.PWR_HOST_LEAVE_MW.get w ≠ 0 →
      F.PWR_HOST_LEAVE_CLASS.get w = 2 → s.budget < s.committed + F.PWR_HOST_LEAVE_MW.get w →
      ∃ t, exec (.hostLeaveWrite w) s = .next t ∧ t.flag F.PWR_HOST_LEAVE_GRANTED = false ∧ t.fld F.PWR_HOST_LEAVE_RESULT = 2 ∧
      State.ReportFrame [R.PWR_HOST_LEAVE, R.PWR_CNT + 4] [.pwr] s t) ∧
  (∀ (s : State) (w : Word), s.running = true → s.flag F.PWR_HOST_LEAVE_GRANTED = true → F.PWR_HOST_LEAVE_MW.get w = 0 →
      ∃ t, exec (.hostLeaveWrite w) s = .next t ∧ t.flag F.PWR_HOST_LEAVE_GRANTED = false ∧ t.fld F.PWR_HOST_LEAVE_MW = 0) ∧
  (∀ (s : State) (w : Word), s.running = true → 18000 ≤ F.PWR_BUDGET_BUDGET_MW.get w → F.PWR_BUDGET_BUDGET_MW.get w ≤ 46000 →
      F.PWR_BUDGET_HEADROOM_MW.get w ≤ 10000 → s.committed ≤ F.PWR_BUDGET_BUDGET_MW.get w → ∃ t, exec (.budgetWrite w) s = .next t ∧
      t.reg R.PWR_BUDGET = w ∧ t.flag F.PWR_STATUS_OVER = false ∧ State.Frame [R.PWR_BUDGET, R.PWR_STATUS] [] s t) ∧
  (∀ (s : State) (w : Word), s.running = true → 18000 ≤ F.PWR_BUDGET_BUDGET_MW.get w → F.PWR_BUDGET_BUDGET_MW.get w ≤ 46000 →
      F.PWR_BUDGET_HEADROOM_MW.get w ≤ 10000 → F.PWR_BUDGET_BUDGET_MW.get w < s.committed → s.flag F.PWR_STATUS_OVER = false →
      ∃ t, exec (.budgetWrite w) s = .next t ∧ t.budget = F.PWR_BUDGET_BUDGET_MW.get w ∧ t.flag F.PWR_STATUS_OVER = true ∧
      t.pwr.test = none ∧ t.pend Ev.PWR_BUDGET_OVER = true) ∧
  (∀ (s : State) (l : Nat), s.running = true → s.blkOn Blk.SLV = true → s.lanesWanted.contains l = true →
      s.lanesBase.contains l = false → (s.lane l).awake = false → s.committed + 450 ≤ s.budget →
      ∃ t, exec (.leaveRequest 1 l) s = .next t ∧ l ∈ t.pwr.laneLeaves)

/-- Maintenance and whole-module tests (R364–R366, R386): which unit starts, what defers it, how it ends. -/
def Obligations.MaintenanceAndWholeTests : Prop :=
  (∀ (s : State) (u : TestUnit) (i : Nat), s.running = true → s.flag F.PWR_TEST_AUTO = true → s.testIdle = true →
      s.pwr.lastTest + s.fld F.PWR_TEST_PERIOD_S * 1000000000 ≤ s.mono → rotationUnit s.pwr.rotation = (u, i) → i < 512 →
      s.testBar u i = 0 → s.committed + u.mw + s.fld F.PWR_BUDGET_HEADROOM_MW ≤ s.budget →
      ∃ t, exec .maintenanceTestStart s = .next t ∧ t.pwr.test = some ⟨u, i, u.mw, s.mono⟩ ∧
      t.pwr.rotation = (s.pwr.rotation + 1) % 588 ∧ t.pwr.lastTest = s.mono ∧ t.fld F.PWR_TEST_STAT_UNIT = u.code ∧
      t.fld F.PWR_TEST_STAT_RESULT = 1 ∧ t.fld F.PWR_TEST_STAT_INDEX = i ∧
      State.ReportFrame [R.PWR_TEST_STAT, R.PWR_CNT] [.pwr] s t) ∧
  (∀ (s : State) (u : TestUnit) (i : Nat), s.running = true → s.flag F.PWR_TEST_AUTO = true → s.testIdle = true →
      s.pwr.lastTest + s.fld F.PWR_TEST_PERIOD_S * 1000000000 ≤ s.mono → rotationUnit s.pwr.rotation = (u, i) →
      s.testBar u i ≠ 0 → ∃ t, exec .maintenanceTestStart s = .next t ∧ t.pwr.test = none ∧
      t.fld F.PWR_TEST_STAT_RESULT = 4 ∧ t.fld F.PWR_TEST_STAT_DEFER = s.testBar u i ∧ t.pend Ev.PWR_TEST_DEFERRED = true ∧
      State.ReportFrame [R.PWR_TEST_STAT, R.PWR_CNT + 8] [.pwr] s t) ∧
  (∀ (s : State) (m : MaintTest), s.running = true → s.pwr.test = some m → ∃ t, exec (.maintenanceTestEnd true) s = .next t ∧
      t.pwr.test = none ∧ t.fld F.PWR_TEST_STAT_RESULT = 2 ∧ t.pend Ev.PWR_TEST_PASSED = true) ∧
  (∀ (s : State) (m : MaintTest), s.running = true → s.pwr.test = some m → ∃ t, exec (.maintenanceTestEnd false) s = .next t ∧
      t.pwr.test = none ∧ (m.unit, m.index) ∈ t.pwr.outOfService ∧ t.fld F.PWR_TEST_STAT_RESULT = 3 ∧
      t.pend Ev.PWR_TEST_FAILED = true) ∧
  (∀ s : State, s.running = true → s.pwr.whole = .idle → s.isActive = true → s.partnerStandby = true →
      ∃ t, exec .whole s = .next t ∧ t.reg R.PWR_PARSE = 0x00000321#32 ∧ t.fld F.PWR_TEST_STAT_RESULT = 6 ∧ t.pwr = s.pwr) ∧
  (∀ s : State, s.running = true → s.pwr.whole = .idle → s.isActive = true → s.partnerStandby = false →
      s.flag F.PWR_TEST_FORCE = false → ∃ t, exec .whole s = .next t ∧ t.reg R.PWR_PARSE = 0x00000320#32 ∧ t.pwr = s.pwr ∧
      State.Frame [R.PWR_PARSE, R.PWR_TEST_STAT] [] s t) ∧
  (∀ s : State, s.running = true → s.pwr.whole = .idle → s.isActive = true → s.partnerStandby = false →
      s.flag F.PWR_TEST_FORCE = true → ∃ t, exec .whole s = .next t ∧ t.pwr.whole = .waitBeacon ∧ t.pwr.test = none ∧
      t.aut.commaTest = true) ∧
  (∀ s : State, s.running = true → s.pwr.whole = .idle → s.isActive = false → s.isStandby = false →
      ∃ t, exec .whole s = .next t ∧ t.pwr.whole = .running ∧ t.pwr.test = none ∧ t.fld F.PWR_TEST_STAT_UNIT = 5 ∧
      t.fld F.PWR_TEST_STAT_RESULT = 1) ∧
  (∀ (s : State) (k : Nat), s.running = true → s.pwr.whole = .waitSecond k → k + 1000000000 ≤ s.mono →
      ∃ t, exec .forcedWholeTestBegin s = .next t ∧ t.pwr.whole = .running ∧ State.Frame [] [.pwr] s t) ∧
  (∀ (s : State) (failed : List (Nat × Nat)), s.running = true → s.pwr.whole = .running → ∃ t, exec (.wholeTestEnd failed) s = .next t ∧
      t.pwr.whole = .idle ∧ t.aut.commaTest = false) ∧
  (∀ (s : State) (m : MaintTest), s.running = true → s.pwr.test = some m → ∃ t, exec .testAbort s = .next t ∧ t.pwr.test = none ∧
      t.fld F.PWR_TEST_STAT_RESULT = 5 ∧ t.fld F.PWR_TEST_STAT_UNIT = m.unit.code)

/-- The option store and the host reset's first key (R373, R374, R387, R434). -/
def Obligations.OptionStoreCommands : Prop :=
  (∀ s : State, s.running = true → s.rst.optWrite = none → s.keys.lc < 2 → s.nandStopped = false →
      s.fld F.RST_OPT_SRC_OFFSET * 8 + 8192 ≤ bar2Size → ∃ t, exec .optionWrite s = .next t ∧ t.optA = s.optA ∧
      ((optParse (s.bar2Read (s.fld F.RST_OPT_SRC_OFFSET * 8) 8192)).isSome = true →
        t.rst = { s.rst with optWrite := optParse (s.bar2Read (s.fld F.RST_OPT_SRC_OFFSET * 8) 8192) } ∧ t.optB = none ∧
        t.flag F.RST_OPT_CMD_BUSY = true ∧ State.Frame [R.RST_OPT_CMD] [.rst, .optB] s t)) ∧
  (∀ s : State, s.running = true → s.rst.optWrite = none → 2 ≤ s.keys.lc → ∃ t, exec .optionWrite s = .next t ∧
      t.reg R.RST_PARSE = 0x00000407#32 ∧ t.fld F.RST_OPT_CMD_RESULT = 2 ∧ State.Frame [R.RST_PARSE, R.RST_OPT_CMD] [] s t) ∧
  (∀ s : State, s.running = true → s.rst.optWrite = none → s.keys.lc < 2 →
      s.fld F.RST_OPT_SRC_OFFSET * 8 + 8192 ≤ bar2Size → optParse (s.bar2Read (s.fld F.RST_OPT_SRC_OFFSET * 8) 8192) = none →
      ∃ t, exec .optionWrite s = .next t ∧ t.reg R.RST_PARSE = 0x00000420#32 ∧ t.fld F.RST_OPT_CMD_RESULT = 2 ∧
      State.Frame [R.RST_PARSE, R.RST_OPT_CMD] [] s t) ∧
  (∀ (s : State) (o : OptRec), s.running = true → s.rst.optWrite = some o → ∃ t, exec .optionWriteComplete s = .next t ∧
      t.rst.optWrite = none ∧ t.optA = some o ∧ t.optB = some o ∧ t.fld F.RST_OPT_CMD_RESULT = 1 ∧
      t.flag F.RST_OPT_CMD_BUSY = false ∧ State.Frame [R.RST_OPT_CMD] [.rst, .optA, .optB, .bkp] s t) ∧
  (∀ s : State, s.running = true → s.rst.optWrite = none → ∃ t, exec .clearStrikes s = .next t ∧
      t.bkp = { s.bkp with strikes := 0 } ∧ t.fld F.RST_OPT_CMD_RESULT = 1 ∧ State.Frame [R.RST_OPT_CMD] [.bkp] s t) ∧
  (∀ s : State, s.running = true → ∃ t, exec .hostResetKey1 s = .next t ∧ t.rst.key1 = some s.mono ∧
      (s.nandStopped = true → State.Frame [] [.rst] s t)) ∧
  (∀ (s : State) (k : Nat), s.running = true → s.rst.key1 = some k → k + 100000000 < s.mono → ∃ t, exec .hostResetKey2 s = .next t ∧
      t.rst.key1 = none ∧ State.Frame [] [.rst] s t)

/-! ## AUT (R81–R111) -/

/-- Every FULL STOP source sets the latch, and its end does not clear it (R94–R96). -/
def Obligations.FullStopSources : Prop :=
  (∀ (s : State) (b : Bool), s.works Blk.AUT → s.aut.fsLatch = false → ∃ t, exec (.stopInputAssert b) s = .next t ∧
      t.aut.fsLatch = true ∧ t.fleetState = Tense.FULL_STOP ∧ t.aut.fcause = (if b then 2 else 1) ∧
      (if b then t.pins.stopBLow else t.pins.stopALow) = true ∧ t.flag F.AUT_DISC_RELEASED = false ∧
      t.pend Ev.AUT_FULL_STOP = true ∧
      State.ReportFrame [R.AUT_DISC, R.AUT_BEACON, R.AIR_CNT + 8] [.pins, .aut, .air, .ahn, .freeCtr] s t) ∧
  (∀ (s : State) (b : Bool), s.works Blk.AUT → s.aut.fsLatch = true → ∃ t, exec (.stopInputAssert b) s = .next t ∧
      t.aut.fsLatch = true ∧ t.aut.fcause = s.aut.fcause ∧ t.aut.rearmKey = none ∧
      State.Frame [R.AUT_DISC] [.pins, .aut, .ahn, .out] s t) ∧
  (∀ (s : State) (b : Bool), s.works Blk.AUT → ∃ t, exec (.stopInputRelease b) s = .next t ∧
      (if b then t.pins.stopBLow else t.pins.stopALow) = false ∧ t.aut = s.aut ∧ State.Frame [] [.pins, .ahn, .out] s t) ∧
  (∀ s : State, s.works Blk.AUT → s.aut.fsLatch = false → s.pins.stopALow ≠ s.pins.stopBLow →
      ∃ t, exec .stopDiscrepancy s = .next t ∧ t.flag F.AUT_DISC_DISC = true ∧
      t.fld F.AUT_DISC_COUNT = min (s.fld F.AUT_DISC_COUNT + 1) 65535 ∧ t.aut.fsLatch = true ∧ t.pend Ev.AUT_STOP_DISC = true ∧
      State.ReportFrame [R.AUT_DISC, R.AUT_BEACON, R.AIR_CNT + 8] [.aut, .air, .ahn, .freeCtr] s t) ∧
  (∀ s : State, s.works Blk.AUT → s.pins.stopALow = false → s.pins.stopBLow = false → ∃ t, exec .stopInputsReleased s = .next t ∧
      t.flag F.AUT_DISC_RELEASED = true ∧ t.flag F.AUT_DISC_DISC = s.flag F.AUT_DISC_DISC ∧ State.Frame [R.AUT_DISC] [] s t) ∧
  (∀ s : State, s.works Blk.AUT → s.isStandby = false → s.flag F.AUT_DISC_RELEASED = true → ∃ t, exec .discClear s = .next t ∧
      t.flag F.AUT_DISC_DISC = false ∧ t.aut = s.aut ∧ State.Frame [R.AUT_DISC] [.ahn, .out] s t) ∧
  (∀ s : State, s.works Blk.AUT → s.isStandby = false → s.flag F.AUT_DISC_RELEASED = false → exec .discClear s = .next s) ∧
  (∀ s : State, s.works Blk.AUT → s.aut.fsLatch = false → s.flag F.AUT_FSTOP_HOST = false → ∃ t, exec (.hostFullStop true) s = .next t ∧
      t.flag F.AUT_FSTOP_HOST = true ∧ t.aut.fsLatch = true ∧ t.aut.fcause = 3 ∧ t.pend Ev.AUT_FULL_STOP = true) ∧
  (∀ s : State, s.works Blk.AUT → ∃ t, exec (.hostFullStop false) s = .next t ∧ t.flag F.AUT_FSTOP_HOST = false ∧ t.aut = s.aut)

/-- COMMA sources start, end at basic level by themselves and at expert level by RESUME (R94, R98). -/
def Obligations.CommaSources : Prop :=
  (∀ s : State, s.works Blk.AUT → s.flag F.AUT_COMMA_PIN_EN = true → s.aut.commaPin = false → ∃ t, exec .commaPinAssert s = .next t ∧
      t.aut.commaPin = true ∧ t.pins.commaLow = true ∧ t.aut.ccause = (if s.aut.ccause = 0 then 0x10 else s.aut.ccause) ∧
      t.fleetState = (if s.aut.fsLatch then Tense.FULL_STOP else Tense.COMMA) ∧
      State.ReportFrame [R.AUT_BEACON, R.AIR_CNT + 8] [.pins, .aut, .air, .ahn, .freeCtr] s t) ∧
  (∀ s : State, s.works Blk.AUT → s.expert Blk.AUT = false → s.aut.commaPin = true → ∃ t, exec .commaPinRelease s = .next t ∧
      t.aut.commaPin = false ∧ t.pins.commaLow = false ∧ t.aut.fsLatch = s.aut.fsLatch) ∧
  (∀ s : State, s.works Blk.AUT → s.expert Blk.AUT = true → ∃ t, exec .commaPinRelease s = .next t ∧ t.aut = s.aut ∧
      t.pins.commaLow = false ∧ State.Frame [] [.pins] s t) ∧
  (∀ s : State, s.works Blk.AUT → s.isStandby = false → 1000 ≤ s.fld F.AUT_COMMA_REARM_HOLD_MS →
      s.fld F.AUT_COMMA_REARM_HOLD_MS ≤ 60000 → ∃ t, exec (.hostComma true) s = .next t ∧ t.flag F.AUT_COMMA_HOST = true ∧
      t.aut.fsLatch = s.aut.fsLatch ∧ t.fleetState = (if s.aut.fsLatch then Tense.FULL_STOP else Tense.COMMA)) ∧
  (∀ s : State, s.works Blk.AUT → s.isStandby = false → 1000 ≤ s.fld F.AUT_COMMA_REARM_HOLD_MS →
      s.fld F.AUT_COMMA_REARM_HOLD_MS ≤ 60000 → ∃ t, exec (.hostComma false) s = .next t ∧ t.flag F.AUT_COMMA_HOST = false ∧
      t.aut.fsLatch = s.aut.fsLatch) ∧
  (∀ s : State, s.works Blk.AUT → s.isStandby = false → s.expert Blk.AUT = true → 1000 ≤ s.fld F.AUT_COMMA_REARM_HOLD_MS →
      s.fld F.AUT_COMMA_REARM_HOLD_MS ≤ 60000 → s.pins.commaLow = false → ∃ t, exec .commaResume s = .next t ∧
      t.aut.commaPin = false ∧ t.aut.commaRearm = false ∧ t.aut.commaAge = (s.aut.commaAge && s.refTooOld)) ∧
  (∀ s : State, s.works Blk.AUT → s.isStandby = false → s.refTooOld = true → s.aut.commaAge = false →
      ∃ t, exec .referenceAgeExceeded s = .next t ∧ t.aut.commaAge = true ∧ t.aut.ageOkSince = none ∧
      t.aut.ccause = (if s.aut.ccause = 0 then 0x12 else s.aut.ccause) ∧
      State.ReportFrame [R.AUT_BEACON, R.AIR_CNT + 8] [.aut, .air, .ahn, .freeCtr] s t) ∧
  (∀ (s : State) (k : Nat), s.works Blk.AUT → s.isStandby = false → s.expert Blk.AUT = false → s.aut.commaAge = true →
      s.refTooOld = false → s.aut.ageOkSince = some k → k + s.fld F.AUT_AGE_RESUME_MS * 1000000 ≤ s.mono →
      ∃ t, exec .referenceAgeRecovered s = .next t ∧ t.aut.commaAge = false)

/-- The re-arm (R97, R98, R107): two keys within 1,000 ms clear the latch and start REARM, unless R97 refuses it. -/
def Obligations.RearmRules : Prop :=
  (∀ s : State, s.works Blk.AUT → ∃ t, exec .rearmFirstKey s = .next t ∧ t.aut.rearmKey = some s.mono ∧ t.aut.rearmVoid = false ∧
      t.aut.fsLatch = s.aut.fsLatch ∧ State.Frame [] [.aut, .ahn, .out] s t) ∧
  (∀ (s : State) (k : Nat), s.works Blk.AUT → s.aut.rearmKey = some k → s.mono ≤ k + 1000000000 → s.aut.rearmVoid = false →
      s.fsLasting = false → s.warden.fault = 0 → s.isActive = true → s.timeValid = true → ∃ t, exec .rearmSecondKey s = .next t ∧
      t.aut.fsLatch = false ∧ t.aut.fsAir = false ∧ t.aut.fsStart = false ∧ t.aut.fcause = 0 ∧ t.aut.commaRearm = true ∧
      t.aut.rearmAt = s.mono ∧ t.aut.rearmKey = none ∧ t.fleetState = Tense.COMMA ∧ t.pend Ev.AUT_REARMED = true) ∧
  (∀ (s : State) (k : Nat), s.works Blk.AUT → s.aut.rearmKey = some k → s.mono ≤ k + 1000000000 →
      (s.fsLasting = true ∨ s.warden.fault ≠ 0 ∨ s.isActive = false ∨ s.timeValid = false) → ∃ t, exec .rearmSecondKey s = .next t ∧
      t.aut = { s.aut with rearmKey := none, rearmVoid := false } ∧ t.pend Ev.AUT_REARM_REFUSED = true ∧
      State.ReportFrame [] [.aut, .ahn] s t) ∧
  (∀ s : State, s.works Blk.AUT → s.aut.rearmVoid = true → ∃ t, exec .rearmSecondKey s = .next t ∧
      t.aut = { s.aut with rearmKey := none, rearmVoid := false } ∧ t.pend Ev.AUT_REARM_REFUSED = true) ∧
  (∀ (s : State) (k : Nat), s.works Blk.AUT → s.aut.rearmKey = some k → k + 1000000000 ≤ s.mono → ∃ t, exec .rearmTimeout s = .next t ∧
      t.aut = { s.aut with rearmKey := none } ∧ State.Frame [] [.aut, .ahn, .out] s t) ∧
  (∀ s : State, s.works Blk.AUT → s.aut.commaRearm = true → s.expert Blk.AUT = false → s.isStandby = false →
      s.aut.rearmAt + s.fld F.AUT_COMMA_REARM_HOLD_MS * 1000000 ≤ s.mono → ∃ t, exec .rearmHoldEnd s = .next t ∧
      t.aut.commaRearm = false ∧ t.aut.fsLatch = s.aut.fsLatch) ∧
  (∀ s : State, s.running = true → ∃ t, exec .kick s = .next t ∧ t.warden = { s.warden with lastKick := s.mono } ∧
      State.Frame [] [.warden] s t)

/-- Token blocks (R82–R86): what is sealed, when a slot is skipped, SEQ, stop-frame repeats and COVER. -/
def Obligations.TokenBlocks : Prop :=
  (∀ s : State, s.works Blk.AUT → s.isActive = true → s.fleetState = Tense.RUN → s.permit = false →
      ∃ t, exec .tokenBlockSeal s = .next t ∧ t.aut.sealed = none ∧ t.fld F.AUT_BEACON_TENSE = 0 ∧
      t.flag F.AUT_BEACON_PERMIT = false ∧
      t.fld F.AUT_BEACON_SLOTS_SKIPPED = min (s.fld F.AUT_BEACON_SLOTS_SKIPPED + 1) 65535 ∧ t.aut.seq = (s.aut.seq + 1) % 2 ^ 48 ∧
      t.pend Ev.AUT_BEACON_SKIPPED = true ∧ State.ReportFrame [R.AUT_BEACON] [.aut, .warden, .keys] s t) ∧
  (∀ s : State, s.works Blk.AUT → s.isActive = true → (s.fleetState ≠ Tense.RUN ∨ s.permit = true) →
      ∃ t, exec .tokenBlockSeal s = .next t ∧ t.aut.sealed = some s.tokenBlock ∧ t.aut.seq = (s.aut.seq + 1) % 2 ^ 48 ∧
      t.aut.lastSeq = s.aut.seq ∧ t.fld F.AUT_BEACON_TENSE = s.fleetState ∧ t.flag F.AUT_BEACON_PERMIT = s.permit ∧
      t.keys.seqStore = (if s.aut.seq % 1024 = 0 ∧ s.nandStopped = false then some s.aut.seq else s.keys.seqStore) ∧
      State.Frame [R.AUT_BEACON] [.aut, .warden, .keys, .ahn, .out] s t) ∧
  (∀ s : State, s.tokenBlock.tense = s.fleetState ∧ s.tokenBlock.seq = s.aut.seq ∧
      s.tokenBlock.lifeMs = s.fld F.AUT_LIFE_LIFETIME_MS ∧ s.tokenBlock.cover = s.fld F.AUT_LIFE_COVER ∧
      s.tokenBlock.bytes.length = 16 + 8 * s.fld F.AUT_LIFE_COVER) ∧
  (∀ (s : State) (r : StopRepeat), s.works Blk.AUT → s.airTransmits = true → s.aut.stopRepeats = [r] → r.bi < s.biCount →
      s.biCount ≤ r.bi + 2 → r.last < s.biCount →
      (s.controlUp.any fun m => decide (max 25000000 (s.quietNs m) ≤ s.biPos)) = true → ∃ t, exec .stopFrameRepeat s = .next t ∧
      (t.aut.stopRepeats.map fun q => (q.tense, q.cause, q.seq, q.bi, q.last)) = [(r.tense, r.cause, r.seq, r.bi, s.biCount)] ∧
      t.pend Ev.AIR_STOP_SENT = true ∧ State.ReportFrame [R.AIR_CNT + 8] [.aut, .air, .freeCtr] s t) ∧
  (∀ (s : State) (w : Word), s.works Blk.AUT → s.isStandby = false →
      (∀ i ∈ List.range 2048, 64 * F.AUT_LIFE_COVER.get w ≤ i → s.machValid i = false) → 100 ≤ F.AUT_LIFE_LIFETIME_MS.get w →
      F.AUT_LIFE_LIFETIME_MS.get w ≤ 1000 → 1 ≤ F.AUT_LIFE_COVER.get w → F.AUT_LIFE_COVER.get w ≤ 32 →
      ∃ t, exec (.coverWrite w) s = .next t ∧ t.fld F.AUT_LIFE_COVER = F.AUT_LIFE_COVER.get w ∧
      t.fld F.AUT_LIFE_LIFETIME_MS = F.AUT_LIFE_LIFETIME_MS.get w ∧ State.Frame [R.AUT_LIFE] [.ahn, .out] s t) ∧
  (∀ (s : State) (w : Word) (mi : Nat), s.works Blk.AUT → s.isStandby = false → mi < 2048 → 64 * F.AUT_LIFE_COVER.get w ≤ mi →
      s.machValid mi = true → ∃ t, exec (.coverWrite w) s = .next t ∧ t.fld F.AUT_LIFE_COVER = s.fld F.AUT_LIFE_COVER ∧
      t.pend Ev.AUT_COVER_REFUSED = true ∧ State.ReportFrame [R.AUT_LIFE] [.ahn] s t) ∧
  (∀ s : State, s.running = true → ∃ t, exec .seqSnapshotRead s = .next t ∧ t.hostRead = BitVec.ofNat 32 s.aut.lastSeq ∧
      t.fld F.AUT_SEQ_HI_SEQ_HI = s.aut.lastSeq / 2 ^ 32 % 65536 ∧ State.Frame [R.AUT_SEQ_HI] [.hostRead] s t)

/-- Revocation, reinstatement and authority records (R87–R89, R104, R105). -/
def Obligations.RevocationAndRecords : Prop :=
  (∀ (s : State) (mi : Nat), s.works Blk.AUT → s.isStandby = false → mi < 2048 → (s.autMach mi).revoked = 0 →
      ∃ t, exec (.hostRevoke mi) s = .next t ∧ (t.autMach mi).revoked = 2 ∧ (t.autMach mi).wait = false ∧
      t.fld F.AUT_REVSTAT_LASTMI = mi ∧ t.pend Ev.AUT_REVOKED = true ∧ (∀ k, k ≠ mi → t.autMach k = s.autMach k) ∧
      State.ReportFrame [R.AUT_REVSTAT] [.aut, .cls, .ahn] s t) ∧
  (∀ (s : State) (mi : Nat), s.works Blk.AUT → s.isStandby = false → mi < 2048 → (s.autMach mi).revoked ≠ 0 →
      ∃ t, exec (.reinstate mi) s = .next t ∧ t.autMach mi = { s.autMach mi with revoked := 0, wait := true } ∧
      t.pend Ev.AUT_REINSTATED = true ∧ (∀ k, k ≠ mi → t.autMach k = s.autMach k) ∧ State.ReportFrame [] [.aut, .ahn] s t) ∧
  (∀ (s : State) (mi : Nat) (r : AuthRec), s.works Blk.AUT → s.isStandby = false → (s.autMach mi).record = some r →
      (s.autMach mi).written + s.fld F.AUT_REC_REPEAT_MS * 1000000 ≤ s.tai → ∃ t n, exec (.repeatRecord mi) s = .next t ∧
      (t.autMach mi).record = some n ∧ n.rep = true ∧ n.mi = mi ∧ n.limE = r.limE ∧ n.limN = r.limN ∧ n.limR = r.limR ∧
      n.posEpoch = r.posEpoch ∧ n.revoked = ((s.autMach mi).revoked != 0) ∧ (n.zero ≠ 0 → n.vceil = 0) ∧
      n.validUntil = min (s.autMach mi).limitT (min (s.devClause + s.fld F.AUT_REC_REC_LIFE_MS) (r.posEpoch + s.fld F.AUT_AGE_POS_AGE_MS)) ∧
      (t.autMach mi).written = s.tai ∧ t.air.recs = s.air.recs ++ [(n, s.tai)] ∧
      ((s.autMach mi).written + (s.fld F.AUT_REC_REPEAT_MS + 50) * 1000000 < s.tai → t.pend Ev.AUT_RECORD_LATE = true) ∧
      (∀ k, k ≠ mi → t.autMach k = s.autMach k) ∧ State.ReportFrame [R.AUT_RECLATE, R.AUT_RECCNT] [.aut, .air, .ahn] s t) ∧
  (∀ (s : State) (v : AutMach) (q e w : Nat), v.revoked = 1 → s.zeroOf v q e w = 1) ∧
  (∀ (s : State) (v : AutMach) (q e w : Nat), v.revoked = 2 → s.zeroOf v q e w = 2) ∧
  (∀ (s : State) (v : AutMach) (q e w : Nat), v.revoked = 0 → v.wait = true → s.zeroOf v q e w = 3) ∧
  (∀ (s : State) (v : AutMach) (q e w : Nat), v.revoked = 0 → v.wait = false → v.noClause = true → s.zeroOf v q e w = 4) ∧
  (∀ (s : State) (v : AutMach) (e w : Nat), v.revoked = 0 → v.wait = false → v.noClause = false → s.zeroOf v 3 e w = 5) ∧
  (∀ (s : State) (v : AutMach) (q e w : Nat), v.revoked = 0 → v.wait = false → v.noClause = false → q ≠ 3 →
      w - e ≤ s.fld F.AUT_AGE_POS_AGE_MS → w < v.limitT → s.zeroOf v q e w = 0)

/-! ## CLS (R43–R80) -/

/-- Requests that meet no refused conflict (R49, R54): the record, the place in the chain, the free list and the result. -/
def Obligations.ClauseRequests : Prop :=
  (∀ (s : State) (p : ClsPort) (d : ClsDesc) (now i : Nat), s.works Blk.CLS → s.flag F.CLS_STATUS_MEM_FAULT = false →
      s.isStandby = false → (p = .core d ∨ p = .dispatcher d) → s.clauseNow = some now →
      fieldsOk s.clsEnv now d (s.clsMach d.mi) = true → (d.force = true → s.isRevoked d.mi = true) →
      (s.cls.chain d.mi).length < s.fld F.CLS_LIMITS_PER_MI →
      (d.link = true → ((s.cls.ref d.ref).map fun r => (s.cls.clause r).mi) = some d.mi) → s.cls.nextFree = some i →
      s.cls.roomFor s.clsMap (pieceOf s.clsMap (spaceIsCell d.space) (spaceLow d.space) d.lo d.hi (max d.t0 now) d.t1) = true →
      (d.force = true ∨ s.cls.conflicts s.clsMap (s.clsPolicy (s.clsMach d.mi).pclass) d.mi
        [pieceOf s.clsMap (spaceIsCell d.space) (spaceLow d.space) d.lo d.hi (max d.t0 now) d.t1] = []) →
      s.cls.follow.length ≤ 4096 → d.dry = false → d.bad = false → ∃ t, exec (.reserve p) s = .next t ∧
      { t.cls.clause i with joinNext := false } =
        clauseFor d (((s.cls.clause i).gen + 1) % 16384) (s.clsMach d.mi).pclass (max d.t0 now) d.force ∧
      t.cls.chain d.mi = chainInsert (s.cls.chain d.mi) (if d.link then s.cls.ref d.ref else none) i ∧
      t.cls.freeNext = s.cls.takeFree.freeNext ∧ t.cls.freeTail = s.cls.takeFree.freeTail ∧ t.cls.follow = s.cls.follow ∧
      (d.link = false → t.cls.clause i =
        clauseFor d (((s.cls.clause i).gen + 1) % 16384) (s.clsMach d.mi).pclass (max d.t0 now) d.force) ∧
      (∀ k, k ≠ i → s.cls.ref d.ref ≠ some k → t.cls.clause k = s.cls.clause k) ∧
      t.out.head? = some (.clsResult (p == .dispatcher d)
        ((ClsRes.ok (i + 2 ^ 18 * (((s.cls.clause i).gen + 1) % 16384))).bytes t.cls (s.cls.primBanks s.clsMap 1 d Cs.OK).length)) ∧
      State.ReportFrame [] [.cls, .ahn, .freeCtr] s t) ∧
  (∀ (s : State) (p : ClsPort) (d : ClsDesc) (i : Nat), s.works Blk.CLS → s.flag F.CLS_STATUS_MEM_FAULT = false →
      s.isStandby = false → (p = .core d ∨ p = .dispatcher d) → s.cls.ref d.ref = some i →
      ((s.cls.clause i).current = false ∨ d.force = true) → d.dry = false → d.bad = false → ∃ t, exec (.clsRelease p) s = .next t ∧
      t.cls.clause i = { Clause.free with gen := (s.cls.clause i).gen } ∧
      t.cls.chain (s.cls.clause i).mi = (s.cls.chain (s.cls.clause i).mi).erase i ∧ t.cls.freeNext = s.cls.freeNext ∧
      t.cls.freeTail = s.cls.freeTail ++ [i] ∧ t.out.head? = some (.clsResult (p == .dispatcher d) ((ClsRes.ok d.ref).bytes t.cls 0)) ∧
      (s.cls.entriesOf i = [] → State.ReportFrame [] [.cls, .ahn, .freeCtr] s t)) ∧
  (∀ (s : State) (p : ClsPort) (d : ClsDesc) (now i : Nat), s.works Blk.CLS → s.flag F.CLS_STATUS_MEM_FAULT = false →
      s.isStandby = false → (p = .core d ∨ p = .dispatcher d) → s.clauseNow = some now → s.cls.ref d.ref = some i →
      extendOk s.clsMap (s.cls.clause i) d = true →
      s.cls.conflicts s.clsMap (s.clsPolicy (s.clsMach (s.cls.clause i).mi).pclass) (s.cls.clause i).mi
        (extendPieces s.clsMap (s.cls.clause i) d.lo d.hi d.t1) = [] → s.cls.follow.length ≤ 4096 → d.dry = false → d.bad = false →
      ∃ t, exec (.extend p) s = .next t ∧
      t.cls.clause i = { s.cls.clause i with lo := d.lo, hi := d.hi, t1 := d.t1 } ∧
      (∀ k, k ≠ i → t.cls.clause k = s.cls.clause k) ∧ t.cls.chains = s.cls.chains ∧ t.cls.follow = s.cls.follow ∧
      t.out.head? = some (.clsResult (p == .dispatcher d) ((ClsRes.ok d.ref).bytes t.cls (s.cls.primBanks s.clsMap 3 d Cs.OK).length)) ∧
      State.ReportFrame [] [.cls, .ahn, .freeCtr] s t) ∧
  (∀ (s : State) (p : ClsPort) (d : ClsDesc) (i : Nat), s.works Blk.CLS → s.flag F.CLS_STATUS_MEM_FAULT = false →
      s.isStandby = false → (p = .core d ∨ p = .dispatcher d) → s.cls.ref d.ref = some i →
      shrinkOk s.clsMap (s.cls.clause i) d = true → ((s.cls.clause i).current = false ∨ d.force = true) → d.dry = false → d.bad = false →
      ∃ t, exec (.shrink p) s = .next t ∧
      t.cls.clause i = { s.cls.clause i with t0 := d.t0, t1 := d.t1, space := spaceLow d.space, lo := d.lo, hi := d.hi } ∧
      (∀ k, k ≠ i → t.cls.clause k = s.cls.clause k) ∧ t.cls.chains = s.cls.chains ∧ t.cls.follow = s.cls.follow ∧
      t.out.head? = some (.clsResult (p == .dispatcher d) ((ClsRes.ok d.ref).bytes t.cls 0)) ∧
      State.ReportFrame [] [.cls, .ahn, .freeCtr] s t) ∧
  (∀ (s : State) (p : ClsPort) (d : ClsDesc) (now i : Nat), s.works Blk.CLS → s.flag F.CLS_STATUS_MEM_FAULT = false →
      s.isStandby = false → (p = .core d ∨ p = .dispatcher d) → s.clauseNow = some now → s.cls.ref d.ref = some i →
      (s.cls.clause i).mi = d.mi → fieldsOk s.clsEnv now d (s.clsMach d.mi) = true →
      ((s.cls.clause i).current = false ∨ d.force = true) →
      s.cls.conflicts s.clsMap (s.clsPolicy (s.clsMach d.mi).pclass) d.mi
        [pieceOf s.clsMap (spaceIsCell d.space) (spaceLow d.space) d.lo d.hi d.t0 d.t1] = [] →
      s.cls.follow.length ≤ 4096 → d.dry = false → d.bad = false → ∃ t, exec (.clsSwap p) s = .next t ∧
      { t.cls.clause i with joinNext := false, follow := false } =
        { clauseFor d (((s.cls.clause i).gen + 1) % 16384) (s.cls.clause i).pclass d.t0 (s.cls.clause i).hold with
          current := (s.cls.clause i).current } ∧ t.cls.chains = s.cls.chains ∧ t.cls.freeNext = s.cls.freeNext ∧
      t.cls.freeTail = s.cls.freeTail ∧
      t.out.head? = some (.clsResult (p == .dispatcher d)
        ((ClsRes.ok (i + 2 ^ 18 * (((s.cls.clause i).gen + 1) % 16384))).bytes t.cls (s.cls.primBanks s.clsMap 5 d Cs.OK).length)) ∧
      (s.cls.entriesOf i = [] → State.ReportFrame [] [.cls, .ahn, .freeCtr] s t))

/-- What refuses a primitive (R51, R54, R76, R311), and that a refusal changes no record, chain, free list or follow entry. -/
def Obligations.ClauseRefusals : Prop :=
  (∀ (s : State) (d : ClsDesc) (k : Nat), s.works Blk.CLS → s.flag F.CLS_STATUS_MEM_FAULT = true → k < 8 →
      ∃ t, exec (clsRow k (.core d)) s = .next t ∧ State.sameClauses s t ∧
      t.out.head? = some (.clsResult false ((ClsRes.of Cs.FAULT).bytes t.cls 0)) ∧
      State.ReportFrame [] [.cls, .freeCtr] s t) ∧
  (∀ (s : State) (d : ClsDesc) (k : Nat), s.works Blk.CLS → s.flag F.CLS_STATUS_MEM_FAULT = false → s.isStandby = true →
      k ∈ [0, 1, 2, 3, 4, 7] → ∃ t, exec (clsRow k (.core d)) s = .next t ∧ State.sameClauses s t ∧
      t.out.head? = some (.clsResult false ((ClsRes.of Cs.INVALID).bytes t.cls 0))) ∧
  (∀ (s : State) (d : ClsDesc) (k : Nat), s.works Blk.CLS → s.flag F.CLS_STATUS_MEM_FAULT = false → s.isStandby = false →
      s.clauseNow = none → k ∈ [0, 2, 4, 7] → ∃ t, exec (clsRow k (.core d)) s = .next t ∧ State.sameClauses s t ∧
      t.out.head? = some (.clsResult false ((ClsRes.of Cs.NO_TIME).bytes t.cls 0))) ∧
  (∀ (s : State) (d : ClsDesc) (k : Nat), s.works Blk.CLS → s.flag F.CLS_STATUS_MEM_FAULT = false → s.isStandby = false →
      s.clauseNow.isSome = true → s.cls.ref d.ref = none → k ∈ [1, 2, 3, 4, 6] → ∃ t, exec (clsRow k (.core d)) s = .next t ∧
      State.sameClauses s t ∧ t.out.head? = some (.clsResult false ((ClsRes.of Cs.STALE).bytes t.cls 0))) ∧
  (∀ (s : State) (d : ClsDesc) (i : Nat), s.works Blk.CLS → s.flag F.CLS_STATUS_MEM_FAULT = false → s.isStandby = false →
      s.cls.ref d.ref = some i → (s.cls.clause i).current = true → d.force = false → d.bad = false → ∃ t, exec (.clsRelease (.core d)) s = .next t ∧
      State.sameClauses s t ∧ t.out.head? = some (.clsResult false ((ClsRes.of Cs.IN_USE).bytes t.cls 0))) ∧
  (∀ (s : State) (d : ClsDesc) (now i : Nat), s.works Blk.CLS → s.flag F.CLS_STATUS_MEM_FAULT = false → s.isStandby = false →
      s.clauseNow = some now → s.cls.ref d.ref = some i → (s.cls.clause i).mi ≠ d.mi → ∃ t, exec (.clsSwap (.core d)) s = .next t ∧
      State.sameClauses s t ∧ t.out.head? = some (.clsResult false ((ClsRes.of Cs.NOT_OWNER).bytes t.cls 0))) ∧
  (∀ (s : State) (d : ClsDesc) (now : Nat), s.works Blk.CLS → s.flag F.CLS_STATUS_MEM_FAULT = false → s.isStandby = false →
      s.clauseNow = some now → (now + s.fld F.CLS_HORIZON_HORIZON_MS < d.t0 ∨ d.t1 ≤ d.t0 ∨ d.t1 ≤ now ∨ s.machValid d.mi = false ∨ d.bad = true) →
      ∃ t, exec (.reserve (.core d)) s = .next t ∧ State.sameClauses s t ∧
      t.out.head? = some (.clsResult false ((ClsRes.of Cs.INVALID).bytes t.cls 0))) ∧
  (∀ (s : State) (d : ClsDesc) (now : Nat) (h : Nat) (q : Conflict) (l : List Conflict), s.works Blk.CLS →
      s.flag F.CLS_STATUS_MEM_FAULT = false → s.isStandby = false → s.clauseNow = some now →
      fieldsOk s.clsEnv now d (s.clsMach d.mi) = true → d.bad = false → d.force = false → (s.cls.chain d.mi).length < s.fld F.CLS_LIMITS_PER_MI →
      d.link = false → s.cls.nextFree = some h →
      s.cls.roomFor s.clsMap (pieceOf s.clsMap (spaceIsCell d.space) (spaceLow d.space) d.lo d.hi (max d.t0 now) d.t1) = true →
      s.cls.conflicts s.clsMap (s.clsPolicy (s.clsMach d.mi).pclass) d.mi
        [pieceOf s.clsMap (spaceIsCell d.space) (spaceLow d.space) d.lo d.hi (max d.t0 now) d.t1] = q :: l → q.pol.action = 0 →
      ∃ t, exec (.reserve (.core d)) s = .next t ∧ State.sameClauses s t ∧
      t.out.head? = some (.clsResult false ((⟨Cs.CONFLICT, s.cls.freeAt (q :: l), 0, s.cls.handle q.idx, [], none, 0⟩ : ClsRes).bytes t.cls (s.cls.primBanks s.clsMap 1 d Cs.CONFLICT).length)))

/-- Queries, sweeps, the end of follow entries, the host port, the read of clause time (R50, R51, R54, R58, R62, R77, R78). -/
def Obligations.ClauseQueriesAndSweeps : Prop :=
  (∀ (s : State) (p : ClsPort) (d : ClsDesc), s.works Blk.CLS → s.flag F.CLS_STATUS_MEM_FAULT = false →
      (p = .core d ∨ p = .dispatcher d) → spaceInMap s.clsMap d.space d.lo = true → d.bad = false → (d.ref ≠ 0 → (s.cls.ref d.ref).isSome = true) →
      ∃ t, exec (.querySpace p) s = .next t ∧ State.sameClauses s t ∧
      t.out.head? = some (.clsResult (p == .dispatcher d) ((⟨Cs.OK, 0, 0, 0,
        (((s.cls.onRange s.clsMap d).filter fun i => d.ref == 0 || s.cls.after i (d.ref % 2 ^ 18)).take 8).map s.cls.handle, none,
        (s.cls.onRange s.clsMap d).length⟩ : ClsRes).bytes t.cls (s.cls.primBanks s.clsMap 6 d Cs.OK).length)) ∧ State.ReportFrame [] [.cls, .freeCtr] s t) ∧
  (∀ (s : State) (p : ClsPort) (d : ClsDesc) (i : Nat), s.works Blk.CLS → s.flag F.CLS_STATUS_MEM_FAULT = false →
      (p = .core d ∨ p = .dispatcher d) → s.cls.ref d.ref = some i → d.bad = false → ∃ t, exec (.queryHandle p) s = .next t ∧
      State.sameClauses s t ∧
      t.out.head? = some (.clsResult (p == .dispatcher d) ((⟨Cs.OK, 0, d.ref, 0, [], some i, 0⟩ : ClsRes).bytes s.cls 0)) ∧
      State.ReportFrame [] [.cls, .freeCtr] s t) ∧
  (∀ (s : State) (p : ClsPort) (d : ClsDesc) (now : Nat), s.works Blk.CLS → s.flag F.CLS_STATUS_MEM_FAULT = false →
      s.isStandby = false → (p = .core d ∨ p = .dispatcher d) → s.clauseNow = some now → d.t1 ≤ now → d.dry = false → d.bad = false →
      ∃ t, exec (.sweep p) s = .next t ∧ t.cls.freeTail = s.cls.freeTail ++ s.cls.sweepable d.t1 ∧
      (∀ i ∈ s.cls.sweepable d.t1, t.cls.clause i = { Clause.free with gen := (s.cls.clause i).gen }) ∧
      (s.cls.sweepable d.t1 ≠ [] → t.pend Ev.CLS_SWEEP_DONE = true) ∧ (s.cls.sweepable d.t1 = [] → State.sameClauses s t)) ∧
  (∀ (s : State) (now : Nat), s.works Blk.CLS → s.flag F.CLS_STATUS_MEM_FAULT = false → s.isStandby = false →
      s.expert Blk.CLS = false → s.clauseNow = some now →
      (∀ k, s.cls.sweptAt = some k → k + s.fld F.CLS_SWEEP_PERIOD_MS * 1000000 ≤ s.mono) → ∃ t, exec .automaticSweep s = .next t ∧
      t.cls.freeTail = s.cls.freeTail ++ s.cls.sweepable (now - s.fld F.CLS_RETAIN_RETAIN_MS) ∧
      (∀ i ∈ s.cls.sweepable (now - s.fld F.CLS_RETAIN_RETAIN_MS),
        t.cls.clause i = { Clause.free with gen := (s.cls.clause i).gen })) ∧
  (∀ (s : State) (k : Nat), s.works Blk.CLS → (s.expert Blk.CLS = true ∨
      (s.cls.sweptAt = some k ∧ s.mono < k + s.fld F.CLS_SWEEP_PERIOD_MS * 1000000)) → exec .automaticSweep s = .next s) ∧
  (∀ (s : State) (k now : Nat) (f : FollowPair), s.works Blk.CLS → s.isStandby = false → s.clauseNow = some now →
      s.cls.follow.get none k = some f →
      ((s.cls.clause (f.leader % 2 ^ 18)).t1 ≤ now ∨ (s.cls.clause (f.follower % 2 ^ 18)).t1 ≤ now) →
      ∃ t, exec (.followEntryEnd k) s = .next t ∧ t.cls.follow.get none k = none ∧ t.cls.chains = s.cls.chains ∧
      (∀ k, k ≠ f.leader % 2 ^ 18 → k ≠ f.follower % 2 ^ 18 → t.cls.clause k = s.cls.clause k) ∧
      { t.cls.clause (f.leader % 2 ^ 18) with follow := false } = { s.cls.clause (f.leader % 2 ^ 18) with follow := false } ∧
      { t.cls.clause (f.follower % 2 ^ 18) with follow := false } = { s.cls.clause (f.follower % 2 ^ 18) with follow := false }) ∧
  (∀ (s : State) (k : Nat), s.works Blk.CLS → k < 8 → Bytes.at' s.clsHostBytes 0 1 = k + 1 → ∃ t, exec (clsRow k .host) s = .next t ∧
      t.cls = (s.clsCommit (s.clsRun (k + 1) (clsDescOf s.clsHostBytes))).cls.addLoad (s.cls.primBanks s.clsMap (k + 1)
        (clsDescOf s.clsHostBytes) (s.clsRun (k + 1) (clsDescOf s.clsHostBytes)).res.status) ∧ t.flag F.CLS_STATUS_DONE = true ∧
      (∀ j ∈ List.range 16, t.fld (F.CLS_RES_WORD.nth j) =
        Bytes.at' ((s.clsRun (k + 1) (clsDescOf s.clsHostBytes)).res.bytes t.cls (s.cls.primBanks s.clsMap (k + 1)
          (clsDescOf s.clsHostBytes) (s.clsRun (k + 1) (clsDescOf s.clsHostBytes)).res.status).length) (4 * j) 4)) ∧
  (∀ (s : State) (now : Nat), s.running = true → s.clauseNow = some now → ∃ t, exec .clauseTimeNowRead s = .next t ∧
      t.hostRead = BitVec.ofNat 32 now ∧ t.fld F.CLS_NOW_HI_NOW_HI = now / 2 ^ 32 % 256 ∧
      State.Frame [R.CLS_NOW_HI] [.hostRead] s t)

/-- The solution check, the memory fault and the whole second (R64–R68, R76, R190, R470). -/
def Obligations.SolutionChecks : Prop :=
  (∀ (s : State) (r : SolRec) (rest : List SolRec) (passed : List Nat), s.works Blk.CLS → s.slv.toCheck = r :: rest →
      s.flag F.CLS_STATUS_MEM_FAULT = false → s.timeValid = true →
      s.cls.check s.clsMap r.mi r.epoch (s.inflated r) (s.standsStill r) = .inside passed →
      ∃ t, exec .solutionCheck s = .next t ∧ t.slv.toCheck = rest ∧
      t.fld F.CLS_CHECKS_COUNT = min (s.fld F.CLS_CHECKS_COUNT + 1) (2 ^ 32 - 1) ∧
      t.cls.lastFp.get none r.mi = some (s.inflated r) ∧
      (∀ i ∈ s.cls.chain r.mi, t.cls.clause i = { s.cls.clause i with current := passed.contains i }) ∧
      t.fld F.CLS_SOLCNT_COUNT = s.fld F.CLS_SOLCNT_COUNT ∧ t.cls.follow = s.cls.follow ∧ t.cls.chains = s.cls.chains) ∧
  (∀ (s : State) (r : SolRec) (rest : List SolRec) (why : Nat), s.works Blk.CLS → s.slv.toCheck = r :: rest →
      s.solFound r = .outside why → r.mi < 2048 → why < 16 → ∃ t, exec .solutionCheck s = .next t ∧ t.slv.toCheck = rest ∧
      t.fld F.CLS_SOLCNT_COUNT = min (s.fld F.CLS_SOLCNT_COUNT + 1) (2 ^ 32 - 1) ∧ t.fld F.CLS_LASTSOL_REASON = why ∧
      t.fld F.CLS_LASTSOL_MI = r.mi ∧ t.pend Ev.CLS_SOLECISM = true ∧
      (s.blkOn Blk.AUT = true → s.isActive = true → (t.autMach r.mi).revoked ≠ 0)) ∧
  (∀ (s : State) (r : SolRec), (s.flag F.CLS_STATUS_MEM_FAULT = true ∨ s.timeValid = false) →
      s.solFound r = .outside Solecism.UNCONFIRMABLE) ∧
  (∀ s : State, s.works Blk.CLS → ∃ t, exec .clsMemFault s = .next t ∧ t.flag F.CLS_STATUS_MEM_FAULT = true ∧
      t.fld F.CLS_ECC_UNCORRECTED = min (s.fld F.CLS_ECC_UNCORRECTED + 1) 65535 ∧ t.cls.clauses = s.cls.clauses ∧
      (s.flag F.CLS_STATUS_MEM_FAULT = false → t.pend Ev.CLS_MEM_FAULT = true)) ∧
  (∀ (s : State) (k : Nat), s.running = true → s.atSecond 0 = true → s.tim.second = some k → k + 500000000 ≤ s.mono → ∃ t n,
      exec .ppsEdge s = .next t ∧
      t.tim.second = some s.mono ∧
      (s.blkOn Blk.CLS = true → t.cls.load = [] ∧ ∀ n ∈ List.range 4, t.fld (F.CLS_BANKLOAD_RATE.nth n) = min (s.cls.load.get 0 n) (2 ^ 32 - 1)) ∧
      (s.blkOn Blk.CLS = true → t.fld F.CLS_ECC_CORRECTED = min (s.fld F.CLS_ECC_CORRECTED + n) 65535 ∧
        t.fld F.CLS_ECC_UNCORRECTED = s.fld F.CLS_ECC_UNCORRECTED) ∧
      (s.blkOn Blk.SLV = true → t.fld F.SLV_RATE_ACTUAL = min s.slv.outcomes 65535 ∧ t.slv.outcomes = 0) ∧
      (s.blkOn Blk.LPE = true → t.fld F.LPE_RATE_ACTUAL = min s.lpe.updates (2 ^ 21 - 1) ∧ t.lpe.updates = 0))

/-! ## AIR (R205–R247) -/

/-- Channel access, stop requests and floods heard, and the downlink burst (R219–R223, R212, R231, R232, R242). -/
def Obligations.AirAccess : Prop :=
  (∀ (s : State) (m : Nat) (w : AirWait), s.works Blk.AIR → (s.airQueue m false).head? = some w → w.until' ≤ s.mono →
      s.dutyFull m = false → s.mayStart m (s.airStart m 160000) (s.frameNs m 0 w.frame) = true → w.busy < 4 →
      ∃ t r, exec (.lbtBackoffExpiry m true) s = .next t ∧ r < 2 ^ w.be ∧
      t.air = { s.air with waiting := ⟨w.modem, w.frame, w.prio, w.busy + 1, min (w.be + 1) (s.fld F.AIR_LBT_BE_MAX), w.since,
        s.mono + 160000 + r * 320000, w.deferred⟩ :: s.air.waiting.erase w } ∧ State.Frame [] [.air, .freeCtr] s t) ∧
  (∀ (s : State) (m : Nat) (w : AirWait), s.works Blk.AIR → (s.airQueue m false).head? = some w → w.until' ≤ s.mono →
      s.dutyFull m = false → s.mayStart m (s.airStart m 160000) (s.frameNs m 0 w.frame) = true → 4 ≤ w.busy →
      ∃ t, exec (.lbtBackoffExpiry m true) s = .next t ∧
      t.air = { s.air with waiting := s.air.waiting.erase w } ∧ State.Frame [] [.air] s t) ∧
  (∀ (s : State) (m : Nat) (w : AirWait), s.works Blk.AIR → s.isActive = true → s.modemUp m = true →
      (s.airQueue m false).head? = some w → w.until' ≤ s.mono → s.dutyFull m = false →
      s.mayStart m (s.airStart m 160000) (s.frameNs m 0 w.frame) = true → (s.airKey w.frame).isSome = true →
      ∃ t, exec (.lbtBackoffExpiry m false) s = .next t ∧
      (t.out.any fun e => match e with
        | .air k f _ => k == m && f == w.frame.stamp (s.airStart m 160000)
        | _ => false) = true ∧
      t.air.waiting = s.air.waiting.erase w ∧ State.Frame [R.AIR_CNT + 8] [.air, .out, .freeCtr] s t) ∧
  (∀ (s : State) (m : Nat) (w : AirWait), s.works Blk.AIR → (s.airQueue m false).head? = some w → w.until' ≤ s.mono →
      s.dutyFull m = true → w.deferred = false → ∃ t, exec (.lbtBackoffExpiry m false) s = .next t ∧
      t.air.waiting = { w with deferred := true } :: s.air.waiting.erase w ∧
      t.fld (F.AIR_CNT_COUNT.nth 7) = min (s.fld (F.AIR_CNT_COUNT.nth 7) + 1) (2 ^ 32 - 1) ∧
      (s.air.lastDefer = none → t.pend Ev.AIR_DUTY_DEFER = true) ∧ State.ReportFrame [R.AIR_CNT + 28] [.air] s t) ∧
  (∀ (s : State) (m : Nat) (w : AirWait), s.works Blk.AIR → (s.airQueue m true).head? = some w → w.until' ≤ s.mono →
      w.since + s.fld F.AIR_LBT_PRIO_WAIT_MS * 1000000 ≤ s.mono →
      ∃ t, exec (.prioWaitExpiry m) s = .next t ∧ t.air = { s.air with waiting := s.air.waiting.erase w } ∧
      t.fld (F.AIR_CNT_COUNT.nth 6) = min (s.fld (F.AIR_CNT_COUNT.nth 6) + 1) (2 ^ 32 - 1) ∧ t.pend Ev.AIR_PRIO_DROPPED = true ∧
      State.ReportFrame [R.AIR_CNT + 24] [.air] s t) ∧
  (∀ (s : State) (m : Nat), s.works Blk.AIR → ∃ t, exec .dutyWindowTick s = .next t ∧
      (t.air.duty.get [] m).all (fun e => decide (s.tai / 1000000000 < e.1 + 3600)) = true ∧
      (s.air.duty.get [] m).all (fun e => decide (e.1 + 3600 ≤ s.tai / 1000000000) || (t.air.duty.get [] m).contains e) = true ∧
      t.air = { s.air with duty := t.air.duty } ∧ State.Frame [] [.air, .ahn, .out] s t) ∧
  (∀ (s : State) (w : Nat), s.works Blk.AIR → s.isActive = true → s.wideUp.contains w = true → s.beaconKey.isSome = true →
      ∃ t, exec (.downlinkBurst w) s = .next t ∧
      (t.out.any fun e => match e with
        | .air m f _ => m == s.wideM w && f.ftype == Ft.GRANT && f.dst == none
        | _ => false) = true ∧
      (t.air.recs.all fun e => s.air.recs.contains e && s.machAwake e.1.mi) = true ∧
      (s.air.recs.all fun e => !s.machAwake e.1.mi || (s.airM e.1.mi).wch == w || t.air.recs.contains e) = true) ∧
  (∀ (s : State) (w : Nat), s.works Blk.AIR → s.isActive = false → exec (.downlinkBurst w) s = .next s) ∧
  (∀ (s : State) (rx : AirRx) (n : Nat), s.works Blk.AIR → s.blkOn Blk.AUT = true → s.isStandby = false → s.rxGood rx →
      s.flag F.AUT_FSTOP_AIR_EN = true → s.wideRx rx = false →
      s.air.seen.contains ((s.rxFrame rx).src, (s.rxFrame rx).fseq) = false →
      (s.rxFrame rx).ftype = Ft.STOP_REQ → s.senderOf (s.rxFrame rx).src = some n → (s.rxFrame rx).payload.length = 8 →
      Bytes.at' (s.rxFrame rx).payload 4 1 = 1 → s.nand.sndCtr.get 0 n < Bytes.at' (s.rxFrame rx).payload 0 4 →
      ∃ t, exec (.stopReqRx rx) s = .next t ∧
      t.nand = { s.nand with sndCtr := s.nand.sndCtr.set 0 n (Bytes.at' (s.rxFrame rx).payload 0 4) } ∧ t.aut.fsLatch = true ∧
      t.aut.fsAir = true ∧ (s.aut.fsLatch = false → t.aut.fcause = 4 ∧ t.pend Ev.AUT_FULL_STOP = true) ∧
      t.pend Ev.AUT_AIR_STOP_RX = true ∧ t.air.seen.contains ((s.rxFrame rx).src, (s.rxFrame rx).fseq) = true) ∧
  (∀ (s : State) (rx : AirRx), s.works Blk.AIR → s.isStandby = false → s.rxHeard rx = true → s.crcGood rx = true →
      s.forUs (s.rxFrame rx) = true → s.cmacGood rx = false → s.wideRx rx = false →
      s.air.seen.contains ((s.rxFrame rx).src, (s.rxFrame rx).fseq) = false → (s.rxFrame rx).ftype = Ft.STOP_REQ →
      ∃ t, exec (.stopReqRx rx) s = .next t ∧ t.aut = s.aut ∧ t.nand = s.nand ∧ t.pend Ev.AIR_STOP_REQ_INVALID = true ∧
      t.fld (F.AIR_CNT_COUNT.nth 1) = min (s.fld (F.AIR_CNT_COUNT.nth 1) + 1) (2 ^ 32 - 1) ∧
      (s.air.lastCmac = none → t.pend Ev.AIR_CMAC_FAIL = true) ∧ State.ReportFrame [R.AIR_CNT + 4] [.air] s t) ∧
  (∀ (s : State) (rx : AirRx), s.works Blk.AIR → s.rxGood rx → s.wideRx rx = false → (s.rxFrame rx).relayed = true →
      (s.rxFrame rx).ftype = Ft.STOP → (s.rxFrame rx).src = s.airAddr → ∃ t, exec (.floodRelayRx rx) s = .next t ∧
      t.fld (F.AIR_CNT_COUNT.nth 3) = min (s.fld (F.AIR_CNT_COUNT.nth 3) + 1) (2 ^ 32 - 1) ∧ State.Frame [R.AIR_CNT + 12] [] s t)

/-- Awake machines: reports, lost machines, superframes, and the host's grants at expert level (R228, R233–R236, R246). -/
def Obligations.AirMachines : Prop :=
  (∀ (s : State) (rx : AirRx) (mi : Nat), s.works Blk.AIR → s.rxGood rx → s.wideRx rx = true →
      s.airSeen (s.rxFrame rx) = false → s.miOfAddr (s.rxFrame rx).src = some mi → (s.rxFrame rx).ftype = Ft.RPT →
      (s.rxFrame rx).payload.length = 8 → ∃ t, exec (.rptRx rx) s = .next t ∧
      (t.airM mi).dlSnr = Bytes.at' (s.rxFrame rx).payload 0 1 ∧ (t.airM mi).upPend = Bytes.at' (s.rxFrame rx).payload 2 2 ∧
      (t.airM mi).lastHeard = s.mono ∧ (∀ k, k ≠ mi → t.airM k = s.airM k)) ∧
  (∀ (s : State) (mi : Nat), s.works Blk.AIR → s.isStandby = false → (s.airM mi).state = .lost →
      (s.airM mi).lostAt + 20000000000 ≤ s.mono → ∃ t, exec (.lostGrantsWithdraw mi) s = .next t ∧ (t.airM mi).obs = Grant.none ∧
      (t.airM mi).rpt = Grant.none ∧ (t.airM mi).state = .lost ∧ (∀ k, k ≠ mi → t.airM k = s.airM k)) ∧
  (∀ (s : State) (mi w k : Nat), s.works Blk.AIR → s.isStandby = false → (s.airM mi).move = some (w, k) → k ≤ s.devClause →
      mi ∈ s.airMis → ∃ t, exec .superframeStart s = .next t ∧ (t.airM mi).wch = w ∧ t.pend Ev.AIR_CH_MOVE = true) ∧
  (∀ (s : State) (mi : Nat), s.works Blk.AIR → s.isStandby = false → (s.airM mi).move = none → (s.airM mi).sleepAcked = true →
      (s.airM mi).state = .awake → mi ∈ s.airMis → ∃ t, exec .superframeStart s = .next t ∧ (t.airM mi).state = .asleep ∧
      (t.airM mi).missed = 0 ∧ (t.airM mi).ontime = 0 ∧ t.pend Ev.AIR_SLEEP = true) ∧
  (∀ (s : State) (w : Word) (mi : Nat), s.works Blk.AIR → s.expert Blk.AIR = true → s.isStandby = false → mi = s.airIdx →
      ((s.airM mi).state = .awake ∨ (s.airM mi).state = .lost) → s.fldB mi F.AIR_MACH_GRANT0_WCH = (s.airM mi).wch →
      1 ≤ F.AIR_MACH_GRANT1_LEN.get w → F.AIR_MACH_GRANT1_LEN.get w ≤ 500 → F.AIR_MACH_GRANT1_START.get w ≤ 2479 →
      s.inRegion (s.airM mi).wch (F.AIR_MACH_GRANT1_START.get w) (F.AIR_MACH_GRANT1_LEN.get w) = true →
      ∃ t, exec (.obsGrantApply w) s = .next t ∧
      (t.airM mi).obs = (if s.fldB mi F.AIR_MACH_GRANT0_K = 0 then Grant.none else
        ⟨s.fldB mi F.AIR_MACH_GRANT0_K, s.fldB mi F.AIR_MACH_GRANT0_OFS, s.fldB mi F.AIR_MACH_GRANT0_HALF, 0,
          F.AIR_MACH_GRANT1_START.get w, F.AIR_MACH_GRANT1_LEN.get w⟩) ∧
      (t.airM mi).mcsUl = s.fldB mi F.AIR_MACH_GRANT0_MCS_UL ∧ (t.airM mi).rpt = (s.airM mi).rpt ∧ (t.airM mi).resend = 3 ∧
      (∀ k, k ≠ mi → t.airM k = s.airM k)) ∧
  (∀ (s : State) (w : Word) (mi : Nat), s.works Blk.AIR → s.expert Blk.AIR = true → s.isStandby = false → mi = s.airIdx →
      ((s.airM mi).state = .awake ∨ (s.airM mi).state = .lost) → F.AIR_MACH_GRANT2_RPT_SET.get w = 1 →
      F.AIR_MACH_GRANT2_BI.get w % 2 = 1 → F.AIR_MACH_GRANT2_BI.get w ≤ 19 → 1 ≤ F.AIR_MACH_GRANT2_LEN.get w →
      F.AIR_MACH_GRANT2_LEN.get w ≤ 500 → F.AIR_MACH_GRANT2_START.get w ≤ 2479 →
      s.inRegion (s.airM mi).wch (F.AIR_MACH_GRANT2_START.get w) (F.AIR_MACH_GRANT2_LEN.get w) = true → ∃ t, exec (.rptGrantApply w) s = .next t ∧
      (t.airM mi).rpt = ⟨1, 0, F.AIR_MACH_GRANT2_HALF.get w, F.AIR_MACH_GRANT2_BI.get w, F.AIR_MACH_GRANT2_START.get w,
        F.AIR_MACH_GRANT2_LEN.get w⟩ ∧ (t.airM mi).rptSet = true ∧ (t.airM mi).obs = (s.airM mi).obs ∧
      (∀ k, k ≠ mi → t.airM k = s.airM k)) ∧
  (∀ (s : State) (w : Word), s.running = true → s.expert Blk.AIR = false → exec (.obsGrantApply w) s = .next s) ∧
  (∀ (s : State) (w : Word), s.running = true → s.expert Blk.AIR = false → exec (.rptGrantApply w) s = .next s)

/-- Sleeping machines: SLEEP, WAKE, GUARD, polls and missed polls (R236–R239, R247). -/
def Obligations.AirSleep : Prop :=
  (∀ (s : State) (g mi k : Nat), s.works Blk.AIR → s.isStandby = false → mi = s.airIdx → s.machAwake mi = true → s.cmdGuard g = some k →
      ∃ t, exec (.machSleep g) s = .next t ∧ (t.airM mi).sleepSent = true ∧ (t.airM mi).guard = k ∧ (t.airM mi).obs = Grant.none ∧
      (t.airM mi).rpt = Grant.none ∧ (t.airM mi).state = .awake ∧
      t.air.dataDn = s.air.dataDn ++ [⟨mi, [0#8, 0#8, 2#8] ++ Bytes.ofNat 1 (s.fldB mi F.AIR_MACH_PARENT_WAKE_SF)
        ++ Bytes.ofNat 1 (s.fldB mi F.AIR_MACH_PARENT_WAKE_BI) ++ Bytes.ofNat 2 k ++ Bytes.ofNat 2 (s.fldB mi F.AIR_MACH_PARENT_PARENT), false⟩] ∧
      (∀ j, j ≠ mi → t.airM j = s.airM j)) ∧
  (∀ (s : State) (g : Nat), s.expert Blk.AIR = false → s.cmdGuard g = some (s.fld F.AIR_GUARD_MIN_100US)) ∧
  (∀ (s : State) (g : Nat), s.works Blk.AIR → s.cmdGuard g = none → exec (.machSleep g) s = .next s) ∧
  (∀ (s : State) (mi : Nat), s.works Blk.AIR → s.isStandby = false → mi = s.airIdx → (s.airM mi).state = .asleep →
      ∃ t, exec .machWake s = .next t ∧ t.airM mi = { s.airM mi with wakeHeld := true } ∧ (∀ j, j ≠ mi → t.airM j = s.airM j) ∧
      State.Frame [] [.air, .ahn, .out] s t) ∧
  (∀ (s : State) (g mi k : Nat), s.works Blk.AIR → s.isStandby = false → s.expert Blk.AIR = true → mi = s.airIdx →
      s.cmdGuard g = some k → ∃ t, exec (.machGuard g) s = .next t ∧ t.airM mi = { s.airM mi with guard := k } ∧
      (∀ j, j ≠ mi → t.airM j = s.airM j) ∧ State.Frame [] [.air, .ahn, .out] s t) ∧
  (∀ (s : State) (rx : AirRx) (mi : Nat), s.works Blk.AIR → s.isActive = true → s.rxHeard rx = true → s.crcGood rx = true →
      s.cmacGood rx = true → s.forUs (s.rxFrame rx) = true → s.airSeen (s.rxFrame rx) = false →
      s.miOfAddr (s.rxFrame rx).src = some mi → (s.rxFrame rx).ftype = Ft.POLL → (s.rxFrame rx).payload.length = 4 →
      s.modemKind rx.modem = Phy.NARROW → s.expert Blk.AIR = false →
      (s.airM mi).state = .asleep → ∃ t, exec (.pollRx rx) s = .next t ∧ (t.airM mi).polled = true ∧
      (t.airM mi).lastHeard = s.mono ∧
      (t.airM mi).state = (if (s.airM mi).wakeHeld then .notJoined else .asleep) ∧
      ((s.rxFrame rx).late = true → (t.airM mi).guard = min (2 * (s.airM mi).guard) (s.fld F.AIR_GUARD_MAX_100US) ∧ (t.airM mi).ontime = 0 ∧
        t.pend Ev.AIR_POLL_LATE = true) ∧
      ((s.rxFrame rx).late = false → (s.airM mi).ontime + 1 < 16 → (t.airM mi).guard = (s.airM mi).guard ∧
        (t.airM mi).ontime = (s.airM mi).ontime + 1) ∧
      ((s.rxFrame rx).late = false → 16 ≤ (s.airM mi).ontime + 1 → (t.airM mi).guard = max (s.fld F.AIR_GUARD_MIN_100US) ((s.airM mi).guard / 2) ∧
        (t.airM mi).ontime = 0) ∧
      ((s.airM mi).wakeHeld = true → t.pend Ev.AIR_WAKE = true) ∧ (∀ j, j ≠ mi → t.airM j = s.airM j)) ∧
  (∀ (s : State) (mi : Nat), s.works Blk.AIR → s.isStandby = false → (s.airM mi).state = .asleep → s.pollDue mi = true →
      (s.airM mi).polled = false → ∃ t, exec (.pollMissed mi) s = .next t ∧ (t.airM mi).missed = min 65535 ((s.airM mi).missed + 1) ∧
      t.fld (F.AIR_CNT_COUNT.nth 4) = min (s.fld (F.AIR_CNT_COUNT.nth 4) + 1) (2 ^ 32 - 1) ∧
      ((s.airM mi).missEvent = none → t.pend Ev.AIR_POLL_MISSED = true ∧ (t.airM mi).missEvent = some s.mono) ∧
      (∀ j, j ≠ mi → t.airM j = s.airM j) ∧ State.ReportFrame [R.AIR_CNT + 16] [.air, .ahn] s t)

/-! ## SIM (R20–R42) -/

/-- Loads, stores, DISCARD and SET_BOOT (R25, R29, R32, R41). -/
def Obligations.StructureCommands : Prop :=
  (∀ (s : State) (b : Bool), s.running = true → s.flag F.SIM_STATUS_BUSY = false →
      s.fld F.SIM_SRC_OFFSET * 8 + s.fld F.SIM_LEN_LEN ≤ bar2Size → ∃ t, exec (.loadHost b) s = .next t ∧
      t.sim.cmd = some (.loadHost (some (s.bar2Read (s.fld F.SIM_SRC_OFFSET * 8) (s.fld F.SIM_LEN_LEN))) (s.fld F.SIM_LEN_LEN)) ∧
      t.sim = { s.sim with staged := none, slot := b2n b, cmd := t.sim.cmd } ∧
      t.flag F.SIM_STATUS_BUSY = true ∧ t.fld F.SIM_STATUS_OP = 1 ∧ State.Frame [R.SIM_STATUS] [.sim] s t) ∧
  (∀ (s : State) (b : Bool), s.running = true → s.flag F.SIM_STATUS_BUSY = false → ∃ t, exec (.loadFlash b) s = .next t ∧
      t.sim = { s.sim with staged := none, slot := b2n b, cmd := some (.loadFlash (b2n b)) } ∧
      t.flag F.SIM_STATUS_BUSY = true ∧ t.fld F.SIM_STATUS_OP = 2 ∧ State.Frame [R.SIM_STATUS] [.sim] s t) ∧
  (∀ (s : State) (img : List Byte) (n : Nat), s.running = true → s.sim.cmd = some (.loadHost (some img) n) → imgLen img = n →
      s.simVerify img = none → ∃ t, exec .loadComplete s = .next t ∧
      t.sim = { s.sim with staged := some img, cmd := none, waiting := false } ∧ t.flag F.SIM_STATUS_BUSY = false ∧
      t.flag F.SIM_STATUS_DONE = true ∧ t.reg R.SIM_PARSE = 0#32 ∧ t.pend Ev.SIM_LOAD_DONE = true ∧
      State.ReportFrame [R.SIM_STATUS, R.SIM_PARSE] [.sim] s t) ∧
  (∀ (s : State) (n code detail : Nat) (img : List Byte), s.running = true → s.sim.cmd = some (.loadFlash n) → s.flashSlot n = some img →
      s.simVerify img = some (code, detail) → ∃ t, exec .loadComplete s = .next t ∧
      t.sim = { s.sim with cmd := none, waiting := false } ∧ t.flag F.SIM_STATUS_BUSY = false ∧ t.flag F.SIM_STATUS_DONE = true ∧
      t.reg R.SIM_PARSE = parseWord Blk.SIM code detail ∧ t.pend Ev.SIM_LOAD_FAIL = true ∧
      State.ReportFrame [R.SIM_STATUS, R.SIM_PARSE] [.sim] s t) ∧
  (∀ (s : State) (b : Bool), s.running = true → s.flag F.SIM_STATUS_BUSY = false → s.nand.boot ≠ b2n b → s.sim.staged.isSome = true →
      s.nandStopped = false → ∃ t, exec (.store b) s = .next t ∧
      t.sim = { s.sim with slot := b2n b, cmd := some (.store (b2n b)) } ∧ t.flashSlot (b2n b) = none ∧
      t.flashSlot (1 - b2n b) = s.flashSlot (1 - b2n b) ∧ t.nand.boot = s.nand.boot ∧ t.flag F.SIM_STATUS_BUSY = true ∧
      State.Frame [R.SIM_STATUS] [.sim, .nand] s t) ∧
  (∀ (s : State) (b : Bool), s.running = true → s.flag F.SIM_STATUS_BUSY = false → s.nand.boot = b2n b →
      ∃ t, exec (.store b) s = .next t ∧ t.nand = s.nand ∧ t.sim.staged = s.sim.staged ∧
      t.reg R.SIM_PARSE = parseWord Blk.SIM 0x2E 0 ∧ t.pend Ev.SIM_STORE_FAIL = true ∧ t.flag F.SIM_STATUS_BUSY = false) ∧
  (∀ (s : State) (n : Nat), s.running = true → s.sim.cmd = some (.store n) → ∃ t, exec (.storeComplete true) s = .next t ∧
      t.flashSlot n = s.sim.staged ∧ t.sim = { s.sim with cmd := none, waiting := false } ∧ t.reg R.SIM_PARSE = 0#32 ∧
      t.flag F.SIM_STATUS_DONE = true ∧ t.flag F.SIM_STATUS_BUSY = false ∧ t.pend Ev.SIM_STORE_DONE = true ∧
      State.ReportFrame [R.SIM_STATUS, R.SIM_PARSE] [.sim, .nand] s t) ∧
  (∀ (s : State) (n : Nat), s.running = true → s.sim.cmd = some (.store n) → ∃ t, exec (.storeComplete false) s = .next t ∧
      t.nand = s.nand ∧ t.reg R.SIM_PARSE = parseWord Blk.SIM 0x2F 0 ∧ t.sim.staged = s.sim.staged ∧ t.pend Ev.SIM_STORE_FAIL = true) ∧
  (∀ (s : State) (b : Bool), s.running = true → s.flag F.SIM_STATUS_BUSY = false → ∃ t, exec (.discard b) s = .next t ∧
      t.sim.staged = none ∧ t.sim.applied = s.sim.applied ∧ t.sim.cmd = none ∧ t.flag F.SIM_STATUS_DONE = true ∧
      t.reg R.SIM_PARSE = 0#32 ∧ State.Frame [R.SIM_STATUS, R.SIM_PARSE] [.sim] s t) ∧
  (∀ (s : State) (b : Bool), s.running = true → s.flag F.SIM_STATUS_BUSY = false → (s.flashSlot (b2n b)).isSome = true →
      s.nandStopped = false → ∃ t, exec (.setBoot b) s = .next t ∧ t.nand = { s.nand with boot := b2n b } ∧
      t.reg R.SIM_PARSE = 0#32 ∧ t.pend Ev.SIM_STORE_DONE = true ∧ State.ReportFrame [R.SIM_STATUS, R.SIM_PARSE] [.sim, .nand] s t) ∧
  (∀ (s : State) (b : Bool), s.running = true → s.flag F.SIM_STATUS_BUSY = false → s.flashSlot (b2n b) = none →
      ∃ t, exec (.setBoot b) s = .next t ∧ t.nand = s.nand ∧ t.reg R.SIM_PARSE = parseWord Blk.SIM 0x2D 0)

/-- CTRL writes, the parse check and applies (R10, R27, R30, R32, R33, R35, R36, R38). -/
def Obligations.EnableAndApply : Prop :=
  (∀ (s : State) (b : Nat) (w : Word), s.running = true → b ∈ Blk.image → s.applying = false → s.blkOn b = false →
      s.sim.checks.contains b = false → ∃ t, exec (.ctrlEnSet b w) s = .next t ∧
      t.sim = { s.sim with checks := s.sim.checks ++ [b] } ∧ t.blkOn b = false ∧ t.fld (Blk.level b) = (Blk.level b).get w ∧
      State.Frame [(Blk.en b).addr] [.sim] s t) ∧
  (∀ (s : State) (b : Nat) (w : Word), s.running = true → b ∈ Blk.image → s.applying = true → ∃ t, exec (.ctrlEnSet b w) s = .next t ∧
      t.sim = { s.sim with heldEn := s.sim.heldEn ++ [(b, withEn w true)] } ∧ State.Frame [] [.sim] s t) ∧
  (∀ (s : State) (b q : Nat) (w : Word), s.running = true → b ∈ Blk.image → s.applying = false → s.blkOn b = true →
      s.sim.checks.contains b = false → s.requirer b = some q → ∃ t, exec (.ctrlEnClear b w) s = .next t ∧ t.blkOn b = true ∧
      t.reg R.SIM_LASTREF = BitVec.ofNat 32 (q * 65536 + b * 256 + 2 ^ 31) ∧ t.pend Ev.SIM_DISABLE_REFUSED = true ∧
      State.ReportFrame [(Blk.en b).addr, R.SIM_LASTREF, R.SIM_REFCNT] [] s t) ∧
  (∀ (s : State) (b : Nat) (w : Word), s.running = true → b ∈ Blk.image → s.applying = false → s.blkOn b = true →
      s.sim.checks.contains b = false → s.requirer b = none → ∃ t, exec (.ctrlEnClear b w) s = .next t ∧ t.blkOn b = false ∧
      t.sim = s.sim) ∧
  (∀ (s : State) (b : Nat) (rest stopped : List Nat), s.running = true → s.sim.checks = b :: rest → b ∈ Blk.image → s.sim.waiting = false →
      ({ s with sim := { s.sim with checks := rest } } : State).parseReason b stopped = none →
      ∃ t, exec (.parseCheck stopped) s = .next t ∧ t.blkOn b = true ∧ t.reg (Blk.parse b) = 0#32 ∧ t.sim = { s.sim with checks := rest }) ∧
  (∀ (s : State) (b r d : Nat) (rest stopped : List Nat), s.running = true → s.sim.checks = b :: rest → b ∈ Blk.image → s.sim.waiting = false →
      ({ s with sim := { s.sim with checks := rest } } : State).parseReason b stopped = some (r, d) →
      ∃ t, exec (.parseCheck stopped) s = .next t ∧ t.blkOn b = s.blkOn b ∧ t.reg (Blk.parse b) = parseWord b r d ∧
      t.reg R.SIM_LASTREF = parseWord b r d ∧ t.fld F.SIM_REFCNT_COUNT = min (s.fld F.SIM_REFCNT_COUNT + 1) (2 ^ 32 - 1) ∧
      t.sim = { s.sim with checks := rest } ∧ t.pend Ev.SIM_PARSE_REFUSED = true ∧
      State.ReportFrame [Blk.parse b, R.SIM_LASTREF, R.SIM_REFCNT] [.sim] s t) ∧
  (∀ (s : State) (b : Bool) (new : List Byte), s.running = true → s.flag F.SIM_STATUS_BUSY = false → s.sim.staged = some new →
      s.sim.checks = [] → (∀ k ∈ Blk.image, s.blkOn k = false) → ∃ t, exec (.applyFull b) s = .next t ∧ t.applying = true ∧
      t.sim.waiting = false ∧ t.flag F.SIM_STATUS_BUSY = true ∧ t.fld F.SIM_STATUS_OP = 3 ∧ State.Frame [R.SIM_STATUS] [.sim] s t) ∧
  (∀ (s : State) (b : Bool) (k : Nat), s.running = true → s.flag F.SIM_STATUS_BUSY = false → s.sim.staged.isSome = true →
      s.sim.checks = [] → Blk.image.find? s.blkOn = some k → ∃ t, exec (.applyFull b) s = .next t ∧ t.applying = false ∧
      t.reg R.SIM_PARSE = parseWord Blk.SIM 0x28 k ∧ t.pend Ev.SIM_APPLY_REFUSED = true ∧ t.sim.staged = s.sim.staged ∧
      t.sim.applied = s.sim.applied) ∧
  (∀ (s : State) (b : Bool) (new old : List Byte), s.running = true → s.flag F.SIM_STATUS_BUSY = false → s.sim.staged = some new →
      s.sim.applied = some old → imgSameSite new old = true → (∀ k ∈ Blk.image, s.blkOn k = true → imgOf new k = imgOf old k) →
      s.sim.checks = [] → ∃ t, exec (.applySections b) s = .next t ∧ t.applying = true ∧ t.sim.waiting = false ∧
      t.flag F.SIM_STATUS_BUSY = true ∧ t.fld F.SIM_STATUS_OP = 4 ∧ State.Frame [R.SIM_STATUS] [.sim] s t) ∧
  (∀ (s : State) (new : List Byte), s.running = true → s.applying = true → s.sim.waiting = false → s.sim.staged = some new →
      s.sim.heldEn = [] → ∃ t, exec .applyComplete s = .next t ∧
      t.sim = { s.sim with applied := some new, staged := none, cmd := none } ∧ t.pend Ev.SIM_APPLIED = true ∧
      t.flag F.SIM_STATUS_BUSY = false ∧ t.flag F.SIM_STATUS_DONE = true ∧ t.nand = s.nand ∧ t.fw = s.fw) ∧
  (∀ s : State, s.running = true → s.sim.startup = true → s.flag F.SIM_STATUS_BUSY = false → s.flag F.SIM_CTRL_LEVEL = false →
      s.flag F.RST_STATUS_SAFE = false → s.nand.slot0 = none → s.nand.slot1 = none → s.nand.boot < 2 →
      ∃ t, exec .simStartupLoad s = .next t ∧ t.sim.startup = false ∧ t.sim.applied = s.sim.applied ∧
      t.reg R.SIM_PARSE = parseWord Blk.SIM 0x30 0 ∧ t.pend Ev.SIM_NO_IMAGE = true) ∧
  (∀ (s : State) (img : List Byte), s.running = true → s.sim.startup = true → s.flag F.SIM_STATUS_BUSY = false →
      s.flag F.SIM_CTRL_LEVEL = false → s.flag F.RST_STATUS_SAFE = false → s.flashSlot s.nand.boot = some img → s.simVerify img = none →
      s.sim.checks = [] → s.sim.heldEn = [] → (∀ k ∈ Blk.image, s.blkOn k = false) → ∃ t, exec .simStartupLoad s = .next t ∧
      t.sim.startup = false ∧ t.sim.applied = some img ∧ t.pend Ev.SIM_LOAD_DONE = true ∧ t.pend Ev.SIM_APPLIED = true)

/-! ## DSP (R268–R285) -/

/-- The commands at the host port (R268–R270): SUBMIT, CANCEL, RETIRE, QUERY, ASSIGN, REQUEUE. -/
def Obligations.OrderCommands : Prop :=
  (∀ (s : State) (b : List Byte) (i : Nat), s.dspTakes → b = s.dspImage 1 → submitOk b = true → s.orderNext = some i →
      s.submitHeld b = false → ∃ t, exec .submit s = .next t ∧
      { t.order i with state := 0, seq := 0, readyTick := 0, spilled := false } = s.orderOf b (((s.order i).gen + 1) % 65536) ∧
      (t.order i).state = (if s.mustWait (Bytes.at' b 12 5) then 1 else 2) ∧
      t.dsp.freeNext = (if s.dsp.freeNext < 65536 then s.dsp.freeNext + 1 else s.dsp.freeNext) ∧
      t.dsp.freeTail = (if s.dsp.freeNext < 65536 then s.dsp.freeTail else s.dsp.freeTail.drop 1) ∧ t.dspAnswers 0 i) ∧
  (∀ (s : State) (i : Nat), s.dspTakes → s.orderRef (Bytes.at' (s.dspImage 2) 0 4) = some i → (s.order i).state < 5 → s.orderLoose i →
      ∃ t, exec .cancel s = .next t ∧ { t.order i with spilled := false } = { s.order i with state := 8, clause := 0, spilled := false } ∧ t.dspAnswers 0 i) ∧
  (∀ (s : State) (i : Nat), s.dspTakes → s.orderRef (Bytes.at' (s.dspImage 2) 0 4) = some i → 5 ≤ (s.order i).state →
      ∃ t, exec .cancel s = .next t ∧ t.dsp = s.dsp ∧ t.dspAnswers 4 i) ∧
  (∀ (s : State) (i : Nat), s.dspTakes → s.orderRef (Bytes.at' (s.dspImage 3) 0 4) = some i → 5 ≤ (s.order i).state →
      ∃ t, exec .retire s = .next t ∧ t.order i = { Order.free with gen := (s.order i).gen } ∧
      t.dsp.freeTail = s.dsp.freeTail ++ [i] ∧ (∀ k, k ≠ i → t.order k = s.order k) ∧ t.dspAnswers 0 i) ∧
  (∀ (s : State) (i : Nat), s.works Blk.DSP → s.flag F.DSP_STATUS2_BUSY = false → s.dsp.waiting.any (fun w => w.1 == dspHost) = false →
      s.orderRef (Bytes.at' (s.dspImage 4) 0 4) = some i → ∃ t, exec .query s = .next t ∧ t.dsp = s.dsp ∧
      (∀ n ∈ List.range 16, t.fld (F.DSP_CMD_WORD.nth n) = Bytes.at' ((s.order i).bytes i) (4 * n) 4) ∧ t.dspAnswers 0 i) ∧
  (∀ (s : State) (i mi : Nat), s.dspTakes → s.expert Blk.DSP = true → s.orderRef (Bytes.at' (s.dspImage 5) 0 4) = some i →
      (s.order i).state = 2 → Bytes.at' (s.dspImage 5) 48 2 = mi → mi < 2048 → s.eligible (s.order i) mi = true →
      ∃ t, exec .assign s = .next t ∧
      { t.order i with tOffer := 0 } = { s.order i with state := 3, assigned := some mi, offeredAt := s.mono, tOffer := 0 } ∧
      t.fld (F.DSP_CNT_COUNT.nth 0) = min (s.fld (F.DSP_CNT_COUNT.nth 0) + 1) (2 ^ 32 - 1) ∧
      t.air.dataDn = s.air.dataDn ++ [⟨mi, dspFrame 0x01 ((s.order i).handle i) (Bytes.ofNat 4 (s.order i).clause
        ++ Bytes.ofNat 5 (s.order i).deadline ++ Bytes.ofNat 1 (s.order i).prio ++ Bytes.ofNat 2 (s.order i).body.length
        ++ (s.order i).body), false⟩] ∧ (∀ k, k ≠ i → t.order k = s.order k) ∧ t.dspAnswers 0 i) ∧
  (∀ (s : State) (i : Nat), s.dspTakes → s.orderRef (Bytes.at' (s.dspImage 6) 0 4) = some i → (s.order i).state = 6 →
      ∃ t, exec .requeue s = .next t ∧ (t.order i).state = 2 ∧ (t.order i).tries = 0 ∧ (t.order i).excl = none ∧
      (t.order i).assigned = none ∧ (t.order i).clause = (s.order i).clause ∧ (t.order i).body = (s.order i).body ∧
      (∀ k, k ≠ i → t.order k = s.order k) ∧ t.dspAnswers 0 i) ∧
  (∀ s : State, s.dspTakes → s.orderRef (Bytes.at' (s.dspImage 3) 0 4) = none → ∃ t, exec .retire s = .next t ∧ t.dsp = s.dsp ∧
      t.reg R.DSP_RES0 = 2#32 ∧ t.flag F.DSP_STATUS2_DONE = true) ∧
  (∀ s : State, s.dspTakes → s.expert Blk.DSP = false → ∃ t, exec .assign s = .next t ∧ t.dsp = s.dsp ∧ t.reg R.DSP_RES0 = 3#32)

/-- What machines answer, and times that run out (R270, R274–R277). -/
def Obligations.OrderAnswers : Prop :=
  (∀ (s : State) (q i : Nat) (b : List Byte), s.dspActs → s.isIntake q = true → b.length = 64 → s.dsp.waiting.any (fun w => w.1 == q) = false →
      imgOp b = 1 → submitOk b = true → s.orderNext = some i → s.submitHeld b = false → ∃ t, exec (.dspIntakeEntry q b) s = .next t ∧
      { t.order i with state := 0, seq := 0, readyTick := 0, spilled := false } = s.orderOf b (((s.order i).gen + 1) % 65536) ∧
      (t.order i).state = (if s.mustWait (Bytes.at' b 12 5) then 1 else 2)) ∧
  (∀ (s : State) (mi h i : Nat), s.dspActs → s.orderWith mi h 3 3 = some i → ∃ t, exec (.orderAccept mi h) s = .next t ∧
      t.order i = { s.order i with state := 4 } ∧ (∀ k, k ≠ i → t.order k = s.order k) ∧
      ((s.order i).charge = true → t.pend Ev.DSP_CHARGE_OPEN = true) ∧ ((s.order i).charge = false → t.dmu = s.dmu)) ∧
  (∀ (s : State) (mi h : Nat), s.dspActs → s.orderWith mi h 3 3 = none → s.machAwake mi = true → ∃ t, exec (.orderAccept mi h) s = .next t ∧
      t.dsp = s.dsp ∧ t.fld (F.DSP_CNT_COUNT.nth 4) = min (s.fld (F.DSP_CNT_COUNT.nth 4) + 1) (2 ^ 32 - 1) ∧
      t.air = { s.air with dataDn := s.air.dataDn ++ [⟨mi, dspFrame 0x02 h [], false⟩] } ∧ State.Frame [R.DSP_CNT + 16] [.air] s t) ∧
  (∀ (s : State) (mi h i : Nat), s.dspActs → s.orderWith mi h 3 3 = some i → (s.order i).hard = true → s.orderLoose i →
      ∃ t, exec (.orderRefuse mi h) s = .next t ∧ t.order i = { s.order i with state := 6, why := 1, clause := 0 } ∧
      t.pend Ev.DSP_RETURNED = true ∧ t.fld (F.DSP_CNT_COUNT.nth 1) = min (s.fld (F.DSP_CNT_COUNT.nth 1) + 1) (2 ^ 32 - 1)) ∧
  (∀ (s : State) (mi h i : Nat), s.dspActs → s.orderWith mi h 3 3 = some i → (s.order i).hard = false → s.orderLoose i →
      (s.order i).tries + 1 < s.maxTries → ∃ t, exec (.orderRefuse mi h) s = .next t ∧ (t.order i).state = 2 ∧
      (t.order i).excl = some mi ∧ (t.order i).tries = min 255 ((s.order i).tries + 1) ∧ (t.order i).assigned = none ∧ (t.order i).clause = 0) ∧
  (∀ (s : State) (mi h i : Nat), s.dspActs → s.orderWith mi h 4 3 = some i → mi < 2048 → ∃ t, exec (.orderDone mi h) s = .next t ∧
      t.order i = { s.order i with state := 5 } ∧ t.fldB mi F.DSP_MACH_CFG_DONE = (s.fldB mi F.DSP_MACH_CFG_DONE + 1) % 65536 ∧
      (∀ k, k ≠ i → t.order k = s.order k)) ∧
  (∀ (s : State) (i : Nat), s.dspActs → (s.order i).state = 3 → (s.order i).offeredAt + s.fld F.DSP_CFG_ACK_MS * 1000000 ≤ s.mono →
      (s.order i).hard = true → s.orderLoose i → ∃ t, exec (.ackTimeout i) s = .next t ∧
      t.order i = { s.order i with state := 6, why := 2, clause := 0 } ∧ t.pend Ev.DSP_ACK_TIMEOUT = true) ∧
  (∀ (s : State) (i : Nat), s.dspActs → (s.order i).state = 3 → (s.order i).offeredAt + s.fld F.DSP_CFG_ACK_MS * 1000000 ≤ s.mono →
      (s.order i).hard = false → s.orderLoose i → (s.order i).tries + 1 < s.maxTries → ∃ t, exec (.ackTimeout i) s = .next t ∧
      (t.order i).state = 2 ∧ (t.order i).why = 2 ∧ (t.order i).tries = min 255 ((s.order i).tries + 1) ∧ (t.order i).assigned = none ∧
      t.pend Ev.DSP_ACK_TIMEOUT = true) ∧
  (∀ (s : State) (i : Nat), s.dspActs → s.orderOver (s.order i) = true → s.orderLoose i → ∃ t, exec (.deadlineExpiry i) s = .next t ∧
      { t.order i with spilled := false } = { s.order i with state := 7, clause := 0, spilled := false } ∧ t.pend Ev.DSP_EXPIRED = true) ∧
  (∀ (s : State) (f : Flight) (rest : List Flight) (r : ClsRes), s.works Blk.DSP → s.dsp.flights = f :: rest → (s.order f.idx).state = 2 →
      (s.order f.idx).gen = f.gen → r = (s.clsRun ClsOp.RESERVE f.desc).res → r.status = 0 → ∃ t, exec .dspReserveResult s = .next t ∧
      t.dsp.flights = rest ∧ (t.order f.idx).state = 3 ∧ (t.order f.idx).assigned = some f.mi ∧ (t.order f.idx).clause = r.handle ∧
      (t.order f.idx).offeredAt = s.mono) ∧
  (∀ (s : State) (f : Flight) (rest : List Flight) (r : ClsRes), s.works Blk.DSP → s.dsp.flights = f :: rest → (s.order f.idx).state = 2 →
      (s.order f.idx).gen = f.gen → r = (s.clsRun ClsOp.RESERVE f.desc).res → r.status = 2 → r.freeAt ≠ clauseForever →
      ∃ t, exec .dspReserveResult s = .next t ∧ t.dsp.flights = rest ∧ (t.order f.idx).state = 1 ∧ (t.order f.idx).notBefore = r.freeAt ∧
      t.pend Ev.DSP_CLAUSE_WAIT = true ∧ State.sameClauses s t)

/-- Ticks, decisions and the ends of charging sessions (R271–R273, R277, R406, R408). -/
def Obligations.OrderDecisions : Prop :=
  (∀ (s : State) (now : Nat), s.works Blk.DSP → s.isStandby = false → s.expert Blk.DSP = true → s.clauseNow = some now →
      s.dsp.tick ≠ some (now / 10 * 10) → s.dsp.waiting = [] →
      (s.delayed.filter fun i => decide ((s.order i).notBefore ≤ now / 10 * 10)).length ≤ 4096 → ∃ t, exec .dispatchTick s = .next t ∧
      t.dsp.tick = some (now / 10 * 10) ∧
      (∀ i ∈ s.delayed, (s.order i).notBefore ≤ now / 10 * 10 → (t.order i).state = 2 ∧ (t.order i).readyTick = now / 10) ∧
      (∀ i ∈ s.delayed, (s.order i).state = 1 → now / 10 * 10 < (s.order i).notBefore → (t.order i).state = 1)) ∧
  (∀ (s : State) (now : Nat), s.works Blk.DSP → s.clauseNow = some now → s.dsp.tick = some (now / 10 * 10) → exec .dispatchTick s = .next s) ∧
  (∀ (s : State) (mi m i : Nat), s.dspActs → s.expert Blk.DSP = false → s.machTakes mi = true → s.dsp.rest = [] → s.readyOrders = [i] → (s.order i).state = 2 →
      (s.order i).clauseReq = false → (s.dsp.flights.any fun f => f.idx == i && f.gen == (s.order i).gen) = false →
      s.chooseMachine (s.order i) = some m → ∃ t, exec (.machineEligible mi) s = .next t ∧ (t.order i).state = 3 ∧
      (t.order i).assigned = some m ∧ (t.order i).offeredAt = s.mono ∧ (∀ k, k ≠ i → t.order k = s.order k)) ∧
  (∀ (s : State) (mi m i : Nat), s.dspActs → s.expert Blk.DSP = false → s.machTakes mi = true → s.dsp.rest = [] → s.readyOrders = [i] → (s.order i).state = 2 →
      (s.order i).clauseReq = false → (s.dsp.flights.any fun f => f.idx == i && f.gen == (s.order i).gen) = false →
      s.chooseMachine (s.order i) = some m → ∃ t, exec (.orderWithdrawn mi) s = .next t ∧ (t.order i).state = 3 ∧
      (t.order i).assigned = some m ∧ (t.order i).offeredAt = s.mono ∧ (∀ k, k ≠ i → t.order k = s.order k)) ∧
  (∀ (s : State) (mi : Nat), s.works Blk.DSP → s.machTakes mi = false → exec (.machineEligible mi) s = .next s) ∧
  (∀ (s : State) (o : Order) (mi : Nat), s.eligible o mi = true → s.flagB mi F.DSP_MACH_CFG_EN = true ∧ s.machAwake mi = true ∧
      s.isRevoked mi = false ∧ o.cmask.testBit (s.fldB mi F.DSP_MACH_CFG_CLASS) = true ∧ o.excl ≠ some mi ∧
      (o.hard = true → o.affMi = some mi) ∧ (o.charge = true → s.flagB o.bay F.DMU_GRP_STAT_BAY_FREE = true)) ∧
  (∀ (s : State) (b : Nat) (v : DmuSession), s.dmuClocks = true → s.session b = some v → s.sessionIdle b = true → s.blkOn Blk.DSP = false →
      b < 16 → ∃ t, exec (.sessionEnd b) s = .next t ∧ t.session b = none ∧ t.flagB b F.DMU_GRP_STAT_SESSION = false ∧ t.dsp = s.dsp) ∧
  (∀ (s : State) (b i : Nat) (v : DmuSession), s.dmuClocks = true → s.session b = some v → s.sessionIdle b = true → s.blkOn Blk.DSP = true →
      s.isStandby = false → s.orderWith v.mi v.order 4 4 = some i → (s.order i).charge = true → (s.order i).bay = b → b < 16 →
      ∃ t, exec (.sessionEnd b) s = .next t ∧ (t.order i).state = 5 ∧ t.session b = none ∧ t.pend Ev.DSP_CHARGE_END = true) ∧
  (∀ (s : State) (b : Nat) (v : DmuSession), s.works Blk.DMU → s.expert Blk.DMU = true → b < 16 → s.session b = some v →
      s.blkOn Blk.DSP = false → ∃ t, exec (.bayEndCmd b) s = .next t ∧ t.session b = none ∧
      t.flagB b F.DMU_GRP_STAT_SESSION = false ∧ t.dsp = s.dsp) ∧
  (∀ (s : State) (b : Nat), s.running = true → b < 16 → s.expert Blk.DMU = false → exec (.bayEndCmd b) s = .next s)

/-- Threads and cores (R280–R284), and spill (R278). -/
def Obligations.CoreDispatcher : Prop :=
  (∀ (s : State) (k c : Nat) (l : List Nat), s.works Blk.DSP → k = s.fld F.DSP_THR_IDX_THREAD → s.thrState k = 0 → s.thrCores k = c :: l →
      s.fldB k F.DSP_THR_CFG_SLICE ≠ 0 → ∃ t, exec .threadCreate s = .next t ∧ (t.thrState k = 1 ∨ t.thrState k = 2) ∧
      t.thrLast k = c ∧ (t.thread k).wait = none) ∧
  (∀ (s : State) (k : Nat), s.works Blk.DSP → k = s.fld F.DSP_THR_IDX_THREAD → s.thrState k ≠ 0 → ∃ t, exec .threadDestroy s = .next t ∧
      t.thrState k = 0 ∧ t.thread k = Thread.free) ∧
  (∀ (s : State) (k : Nat), s.works Blk.DSP → k = s.fld F.DSP_THR_IDX_THREAD → s.thrState k ≠ 0 → s.thrState k ≠ 4 →
      ∃ t, exec .threadSuspend s = .next t ∧ t.thrState k = 4) ∧
  (∀ (s : State) (k : Nat), s.works Blk.DSP → k = s.fld F.DSP_THR_IDX_THREAD → s.thrState k = 4 → ∃ t, exec .threadResume s = .next t ∧
      (t.thrState k = 1 ∨ t.thrState k = 2) ∧ (t.thread k).wait = none) ∧
  (∀ (s : State) (k kind arg : Nat) (w : ThreadWait), s.works Blk.DSP → k = s.fld F.DSP_THR_IDX_THREAD →
      (s.thrState k = 1 ∨ s.thrState k = 2) → kind < 4 → arg < 2 ^ 26 → s.thrWait kind arg = some w → ∃ t, exec (.threadWait kind arg) s = .next t ∧
      t.thrState k = 3 ∧ (t.thread k).wait = some w) ∧
  (∀ (s : State) (k : Nat) (w : ThreadWait), s.works Blk.DSP → (s.thread k).wait = some w → s.thrState k = 3 → s.thrDue w = true →
      ∃ t, exec (.threadReady k) s = .next t ∧ (t.thrState k = 1 ∨ t.thrState k = 2) ∧ (t.thread k).wait = none) ∧
  (∀ (s : State) (k : Nat) (w : ThreadWait), s.works Blk.DSP → (s.thread k).wait = some w → s.thrDue w = false →
      exec (.threadReady k) s = .next s) ∧
  (∀ (s : State) (c r : Nat), s.works Blk.DSP → s.dsp.coreTick ≠ some s.coreNow → s.threadsIn 1 = [] → c < 8 → s.runs c = some r →
      1 < (s.thread r).left → (∀ k ∈ List.range 8, (s.runs k).all fun x => decide (1 < (s.thread x).left)) → ∃ t, exec .coreTick s = .next t ∧
      t.thread r = { s.thread r with left := (s.thread r).left - 1 } ∧ t.thrState r = 2 ∧ t.dsp.coreTick = some s.coreNow) ∧
  (∀ s : State, s.works Blk.DSP → s.dsp.coreTick = some s.coreNow → exec .coreTick s = .next s) ∧
  (∀ (s : State) (c : Nat), s.works Blk.DSP → c < 8 →
      ((s.coreOver c).any fun k => decide ((s.thread k).readyAt * 100 + s.fld F.DSP_HOLD_HOLD_US ≤ s.coreNow * 100)) = true →
      s.dsp.spilling.contains (1000 + c) = false → ∃ t, exec (.spillHoldExpiry (1000 + c)) s = .next t ∧
      t.dsp.spilling.contains (1000 + c) = true ∧ t.pend Ev.DSP_CORE_SPILL = true ∧ t.pend Ev.DSP_SPILL_START = true) ∧
  (∀ (s : State) (q : Nat), s.works Blk.DSP → q < 160 →
      ((s.intakeOver q).any fun w => s.passed w.since (s.fld F.DSP_HOLD_HOLD_US * 1000)) = true →
      s.dsp.spilling.contains (q + 1) = false → ∃ t, exec (.spillHoldExpiry (q + 1)) s = .next t ∧
      t.dsp.spilling.contains (q + 1) = true ∧ t.pend Ev.DSP_SPILL_START = true) ∧
  (∀ s : State, s.works Blk.DSP → (s.dsp.waiting.find? fun w => s.submitHeld w.image && s.passed w.since (s.fld F.DSP_HOLD_HOLD_US * 1000)) = none →
      exec (.spillHoldExpiry 0) s = .next s)

/-- Joining, losing and detaching a machine, and its data (R225, R226, R233, R234, R247, R275, R276, R282). -/
def Obligations.FleetMembership : Prop :=
  (∀ (s : State) (rx : AirRx) (mi : Nat), s.works Blk.AIR → s.isActive = true → s.rxGood rx → s.airSeen (s.rxFrame rx) = false →
      (s.rxFrame rx).ftype = Ft.JOIN_REQ → (s.rxFrame rx).payload.length = 16 → s.modemKind rx.modem = Phy.NARROW →
      s.miOfSerial (Bytes.at' (s.rxFrame rx).payload 0 8) = some mi → s.lastJctr (Bytes.at' (s.rxFrame rx).payload 0 8) ≤ Bytes.at' (s.rxFrame rx).payload 8 4 →
      (s.joinChannel mi (Bytes.at' (s.rxFrame rx).payload 12 1) (s.airM mi).bundleLen).1 = 0 → ∃ t, exec (.joinReqRx rx) s = .next t ∧
      (t.airM mi).state = .awake ∧ t.lastJctr (Bytes.at' (s.rxFrame rx).payload 0 8) = Bytes.at' (s.rxFrame rx).payload 8 4 + 1 ∧
      (t.airM mi).caps = Bytes.at' (s.rxFrame rx).payload 12 1 ∧
      (t.airM mi).wch = (s.joinChannel mi (Bytes.at' (s.rxFrame rx).payload 12 1) (s.airM mi).bundleLen).2 ∧ (t.airM mi).lastHeard = s.mono ∧
      t.pend Ev.AIR_JOIN_OK = true ∧ (∀ k, k ≠ mi → t.airM k = s.airM k)) ∧
  (∀ (s : State) (rx : AirRx), s.works Blk.AIR → s.isActive = true → s.rxGood rx → s.airSeen (s.rxFrame rx) = false →
      (s.rxFrame rx).ftype = Ft.JOIN_REQ → (s.rxFrame rx).payload.length = 16 → s.modemKind rx.modem = Phy.NARROW →
      s.miOfSerial (Bytes.at' (s.rxFrame rx).payload 0 8) = none → ∃ t, exec (.joinReqRx rx) s = .next t ∧ t.air.mach = s.air.mach ∧
      t.pend Ev.AIR_JOIN_REFUSED = true) ∧
  (∀ (s : State) (mi : Nat), s.works Blk.AIR → s.isStandby = false → (s.airM mi).state = .awake → (s.airM mi).lastHeard + 10000000000 ≤ s.mono →
      ∃ t, exec (.machineLost mi) s = .next t ∧ t.airM mi = { s.airM mi with state := .lost, lostAt := s.mono } ∧
      t.pend Ev.AIR_MACH_LOST = true ∧ (∀ k, k ≠ mi → t.airM k = s.airM k) ∧
      (s.blkOn Blk.DSP = true → ∀ i ∈ s.dsp.orders.keys, ((s.order i).state = 3 ∨ (s.order i).state = 4) → (s.order i).assigned = some mi →
        (t.order i).state = 6 ∧ (t.order i).why = 6)) ∧
  (∀ (s : State) (mi : Nat), s.works Blk.AIR → mi = s.airIdx → s.isStandby = false → (s.airM mi).state ≠ .notJoined →
      ∃ t, exec .machDetach s = .next t ∧ (t.airM mi).state = .notJoined ∧ (t.airM mi).obs = Grant.none ∧ (t.airM mi).rpt = Grant.none ∧
      (t.airM mi).heldFrames = [] ∧ (∀ k, k ≠ mi → t.airM k = s.airM k)) ∧
  (∀ (s : State) (rx : AirRx) (mi : Nat), s.works Blk.AIR → s.isStandby = false → s.rxGood rx → s.wideRx rx = true →
      s.airSeen (s.rxFrame rx) = false → s.miOfAddr (s.rxFrame rx).src = some mi → (s.rxFrame rx).ftype = Ft.DATA_UP → 4 ≤ (s.rxFrame rx).payload.length →
      Bytes.at' (s.rxFrame rx).payload 0 1 = 0 → Bytes.at' (s.rxFrame rx).payload 2 1 = 0x81 → Bytes.at' (s.rxFrame rx).payload 3 1 = 2 →
      (s.airM mi).sleepSent = true → ∃ t, exec (.dataUpRx rx) s = .next t ∧ (t.airM mi).sleepAcked = true ∧
      (t.airM mi).lastHeard = s.mono ∧ (∀ k, k ≠ mi → t.airM k = s.airM k)) ∧
  (∀ (s : State) (rx : AirRx) (mi i : Nat), s.works Blk.AIR → s.blkOn Blk.DSP = true → s.isStandby = false → s.rxGood rx → s.wideRx rx = true →
      s.airSeen (s.rxFrame rx) = false → s.miOfAddr (s.rxFrame rx).src = some mi → (s.rxFrame rx).ftype = Ft.DATA_UP → 8 ≤ (s.rxFrame rx).payload.length →
      Bytes.at' (s.rxFrame rx).payload 0 1 = 1 → Bytes.at' (s.rxFrame rx).payload 2 1 = 0x81 →
      s.orderWith mi (Bytes.at' (s.rxFrame rx).payload 4 4) 3 3 = some i → ∃ t, exec (.dataUpRx rx) s = .next t ∧
      t.order i = { s.order i with state := 4 })

/-! ## DMU (R391–R410) and LPE (R287–R300) -/

/-- Samples, accumulators, pulses, input faults, saves and bays (R391, R393, R395–R401, R405, R407–R409). -/
def Obligations.EnergyMetering : Prop :=
  (∀ (s : State) (g dt good : Nat) (x : List (List (Nat × Int))), s.dmuClocks = true → s.grpKind g ≠ 0 → s.groupFault g = false →
      ∃ t, exec (.powerSample g x dt good) s = .next t ∧ (t.group g).imp = ((s.group g).imp + (s.sampleEnergy g x dt).toNat) % 2 ^ 96 ∧
      (t.group g).exp = ((s.group g).exp + (-(s.sampleEnergy g x dt)).toNat) % 2 ^ 96 ∧ t.dmu.last = s.tai ∧
      (∀ k, k ≠ g → t.group k = s.group k) ∧ t.dmu.m.sessions = s.dmu.m.sessions) ∧
  (∀ (s : State) (g dt good : Nat) (x : List (List (Nat × Int))), s.dmuClocks = true → s.grpKind g ≠ 0 → s.groupFault g = true →
      ∃ t, exec (.powerSample g x dt good) s = .next t ∧ t.dmu.m = s.dmu.m ∧ t.dmu.last = s.tai) ∧
  (∀ (s : State) (n : Nat), s.dmuClocks = true → n < 8 → s.flagB n F.DMU_PO_CFG_EN = true → 0 < (s.pulse n).pending →
      (s.pulse n).busy ≤ s.mono → (s.pulse n).spill < s.pulseWeight n → ∃ t, exec (.pulseEmit n) s = .next t ∧
      (t.pulse n).pending = (s.pulse n).pending - 1 ∧ (t.pulse n).spill = (s.pulse n).spill ∧
      (t.pulse n).busy = s.mono + 2 * (s.fldB n F.DMU_PO_CFG_WIDTH_MS * 1000000) ∧
      t.fldB n F.DMU_PO_STAT_PULSES = (s.fldB n F.DMU_PO_STAT_PULSES + 1) % 65536 ∧
      t.out = .pulse (.pulseOut n) (s.fldB n F.DMU_PO_CFG_WIDTH_MS * 1000000) :: s.out ∧ State.Frame [R.DMU_PO_STAT] [.dmu, .out] s t) ∧
  (∀ (s : State) (w : Word) (n : Nat), s.running = true → n = s.fld F.DMU_PO_IDX_OUTPUT → F.DMU_PO_CFG_QTY.get w ≤ 2 →
      1 ≤ F.DMU_PO_CFG_WIDTH_MS.get w → ∃ t, exec (.poCfgWrite w) s = .next t ∧
      t.pulse n = { DmuPulse.zero with busy := (s.pulse n).busy } ∧ t.fldB n F.DMU_PO_STAT_PULSES = 0 ∧
      t.fldB n F.DMU_PO_CFG_EN = F.DMU_PO_CFG_EN.get w ∧ t.fldB n F.DMU_PO_CFG_QTY = F.DMU_PO_CFG_QTY.get w ∧
      t.fldB n F.DMU_PO_CFG_GROUP = F.DMU_PO_CFG_GROUP.get w ∧ t.fldB n F.DMU_PO_CFG_WIDTH_MS = F.DMU_PO_CFG_WIDTH_MS.get w ∧
      State.Frame [R.DMU_PO_CFG, R.DMU_PO_STAT] [.dmu] s t) ∧
  (∀ (s : State) (g : Nat), s.dmuClocks = true → s.flagB g F.DMU_GRP_STAT_AC_LOCK = true → ∃ t, exec (.acUnlock g) s = .next t ∧
      t.flagB g F.DMU_GRP_STAT_AC_LOCK = false ∧ t.pend Ev.DMU_AC_UNLOCK = true ∧ State.ReportFrame [R.DMU_GRP_STAT] [] s t) ∧
  (∀ (s : State) (n : Nat), s.dmuClocks = true → n < 24 → (s.fld F.DMU_IN_FAULT_FAULT).testBit n = false → s.inGroup n ≠ 0xFF →
      ∃ t, exec (.inputFault n) s = .next t ∧ t.fld F.DMU_IN_FAULT_FAULT = s.fld F.DMU_IN_FAULT_FAULT + 2 ^ n ∧
      (t.dmu.faults.get none n).map Prod.fst = some s.mono ∧ t.dmu.m = s.dmu.m ∧ t.pend Ev.DMU_INPUT_FAULT = true ∧
      State.ReportFrame [R.DMU_IN_FAULT] [.dmu] s t) ∧
  (∀ (s : State) (n k h c : Nat), s.running = true → n < 24 → s.dmu.faults.get none n = some (k, h, c) → ∃ t, exec (.inputClear n) s = .next t ∧
      (t.fld F.DMU_IN_FAULT_FAULT).testBit n = false ∧ t.dmu.faults.get none n = none ∧ t.dmu.m = s.dmu.m ∧
      t.fld (F.DMU_CNT_COUNT.nth 1) = min (s.fld (F.DMU_CNT_COUNT.nth 1) + (s.mono - k) / 1000000) (2 ^ 32 - 1) ∧
      t.pend Ev.DMU_INPUT_CLEAR = true) ∧
  (∀ s : State, s.works Blk.DMU → s.nandStopped = false → ∃ t v, exec (.meterSave true) s = .next t ∧ t.meterSave = some v ∧
      v.meters = s.dmu.m ∧ v.seq = (s.fld F.DMU_SAVE_SEQ + 1) % 2 ^ 32 ∧ v.final = false ∧ v.hours = s.bkp.hours ∧ t.fld F.DMU_SAVE_SEQ = v.seq ∧
      State.Frame [R.DMU_SAVE] [.meterSave] s t) ∧
  (∀ s : State, s.works Blk.DMU → s.nandStopped = false → ∃ t, exec (.meterSave false) s = .next t ∧ t.meterSave = s.meterSave ∧
      t.fld (F.DMU_CNT_COUNT.nth 3) = min (s.fld (F.DMU_CNT_COUNT.nth 3) + 1) (2 ^ 32 - 1) ∧ t.pend Ev.DMU_SAVE_FAIL = true ∧
      State.ReportFrame [R.DMU_CNT + 12] [] s t) ∧
  (∀ (s : State) (b run : Nat), s.dmuClocks = true → s.expert Blk.DMU = false → s.bays.contains b = true →
      run = (if (s.currentsOf b).all (fun n => decide (s.fldB n F.DMU_IN_RMS_RMS < s.fld F.DMU_BAY_IDLE_MA)) then s.dmu.idle.get 0 b + 1 else 0) →
      ∃ t, exec .bayFreeEval s = .next t ∧ t.dmu.idle.get 0 b = run ∧
      t.flagB b F.DMU_GRP_STAT_BAY_FREE = ((s.session b).isNone && !s.groupFault b && decide (s.fld F.DMU_BAY_FREE_S ≤ run)) ∧
      (t.session b).isNone = (s.session b).isNone) ∧
  (∀ (s : State) (b : Nat), s.works Blk.DMU → s.expert Blk.DMU = true → b < 16 → s.grpBay b = true → ∃ t, exec (.bayFreeCmd b) s = .next t ∧
      t.flagB b F.DMU_GRP_STAT_BAY_FREE = true ∧ State.ReportFrame [R.DMU_GRP_STAT] [] s t) ∧
  (∀ (s : State) (b : Nat), s.works Blk.DMU → s.expert Blk.DMU = true → b < 16 → s.grpBay b = true → ∃ t, exec (.bayBusyCmd b) s = .next t ∧
      t.flagB b F.DMU_GRP_STAT_BAY_FREE = false ∧ State.ReportFrame [R.DMU_GRP_STAT] [] s t) ∧
  (∀ s : State, s.running = true → ∃ t, exec .accumulatorRead s = .next t ∧ t.hostRead = BitVec.ofNat 32 s.accValue ∧
      t.fldB (s.fld F.DMU_GRP_IDX_GROUP + 16 * s.fld F.DMU_GRP_IDX_QTY) F.DMU_ACC_HI_MJ_HI = s.accValue / 2 ^ 32 % 2 ^ 32 ∧
      State.Frame [R.DMU_ACC_LO, R.DMU_ACC_HI] [.hostRead] s t)

/-- The Loop Engine: the update and its limits, triggers, the queue, and the host's commands (R289–R294, R297–R299). -/
def Obligations.LoopEngine : Prop :=
  (∀ (p : List Byte) (x sp aid a b : Int), Loop.outMin p ≤ Loop.outMax p → Loop.outMin p ≤ (loopUpdate p x sp aid a b).out ∧
      (loopUpdate p x sp aid a b).out ≤ Loop.outMax p) ∧
  (∀ (p : List Byte) (x sp aid a b : Int), Loop.classF p = true → Loop.limA p ≤ Loop.limB p → Loop.limA p ≤ (loopUpdate p x sp aid a b).acc1 ∧
      (loopUpdate p x sp aid a b).acc1 ≤ Loop.limB p) ∧
  (∀ (s : State) (u : LpeUpd) (rest : List LpeUpd) (r : LoopOut), s.works Blk.LPE → s.lpe.queue = u :: rest →
      Loop.kind (s.loop u.slot) ≠ Kind.GAP → s.outerOf u.slot = none →
      r = loopUpdate (s.loop u.slot) u.x (s.slotReg u.slot R.LPE_SLOT_SP) u.aid (s.slotReg u.slot R.LPE_SLOT_ACC) (s.slot u.slot).acc2 →
      (Loop.classF (s.loop u.slot) = true ∨ (r.sat = false ∧ r.outClamp = false)) → ∃ t, exec .slotUpdate s = .next t ∧
      t.lpe.queue = rest ∧ t.slotReg u.slot R.LPE_SLOT_OUT = r.out ∧ t.slotReg u.slot R.LPE_SLOT_ACC = r.acc1 ∧
      t.slot u.slot = { s.slot u.slot with acc2 := r.acc2 } ∧
      t.fldB u.slot F.LPE_SLOT_STAT_COUNT = (s.fldB u.slot F.LPE_SLOT_STAT_COUNT + 1) % 2 ^ 28 ∧ t.lpe.updates = s.lpe.updates + 1 ∧
      t.flagB u.slot F.LPE_SLOT_STAT_SAT = s.flagB u.slot F.LPE_SLOT_STAT_SAT) ∧
  (∀ (s : State) (u : LpeUpd) (rest : List LpeUpd) (r : LoopOut), s.works Blk.LPE → s.lpe.queue = u :: rest →
      Loop.kind (s.loop u.slot) = Kind.GENERAL → s.outerOf u.slot = none →
      r = loopUpdate (s.loop u.slot) u.x (s.slotReg u.slot R.LPE_SLOT_SP) u.aid (s.slotReg u.slot R.LPE_SLOT_ACC) (s.slot u.slot).acc2 →
      Loop.classF (s.loop u.slot) = false → (r.sat = true ∨ r.outClamp = true) → ∃ t, exec .slotUpdate s = .next t ∧
      t.lpe.queue = rest ∧ t.slotReg u.slot R.LPE_SLOT_OUT = r.out ∧ t.slotReg u.slot R.LPE_SLOT_ACC = r.acc1 ∧
      t.flagB u.slot F.LPE_SLOT_STAT_SAT = true ∧
      (s.flagB u.slot F.LPE_SLOT_STAT_SAT = false → t.pend Ev.LPE_SLOT_SAT = true)) ∧
  (∀ (s : State) (n : Nat) (x aid : Int), s.works Blk.LPE → s.programmed n = true → Loop.kind (s.loop n) ≠ Kind.GAP →
      Loop.trig (s.loop n) = Trig.OWNER → s.lpe.queue.length < 4096 → ∃ t, exec (.slotTrigger n x aid) s = .next t ∧
      t.lpe = { s.lpe with queue := s.lpe.queue ++ [⟨n, sat32 x, sat32 aid, none⟩] } ∧ State.Frame [] [.lpe] s t) ∧
  (∀ (s : State) (n : Nat) (x aid : Int), s.works Blk.LPE → s.programmed n = true → Loop.kind (s.loop n) ≠ Kind.GAP →
      Loop.trig (s.loop n) = Trig.OWNER → 4096 ≤ s.lpe.queue.length → ∃ t, exec (.slotTrigger n x aid) s = .next t ∧
      t.lpe.queue = s.lpe.queue ∧ t.fld (F.LPE_CNT_COUNT.nth 0) = min (s.fld (F.LPE_CNT_COUNT.nth 0) + 1) (2 ^ 32 - 1) ∧
      (Loop.classF (s.loop n) = false → t.flagB n F.LPE_SLOT_STAT_SAT = true)) ∧
  (∀ (s : State) (n : Nat) (x aid : Int), s.works Blk.LPE → s.programmed n = true → Loop.kind (s.loop n) ≠ Kind.GAP →
      Loop.trig (s.loop n) = Trig.CASCADE → ∃ t, exec (.slotTrigger n x aid) s = .next t ∧ t.slotReg n R.LPE_SLOT_IN = sat32 x ∧
      t.slotReg n R.LPE_SLOT_AID = sat32 aid ∧ State.Frame [R.LPE_SLOT_IN, R.LPE_SLOT_AID] [] s t) ∧
  (∀ (s : State) (n : Nat), s.works Blk.LPE → s.programmed n = true → Loop.trig (s.loop n) = Trig.PERIODIC →
      s.tai % (Loop.arg (s.loop n) * 100000) < 1000 → s.lpe.queue.length < 4096 → ∃ t, exec (.periodicFire n) s = .next t ∧
      t.lpe.queue = s.lpe.queue ++ [⟨n, s.slotReg n R.LPE_SLOT_IN, s.slotReg n R.LPE_SLOT_AID, none⟩] ∧ State.Frame [] [.lpe] s t) ∧
  (∀ (s : State) (n : Nat), s.works Blk.LPE → n = s.slotIdx → s.programmed n = true → Loop.trig (s.loop n) = Trig.HOST →
      s.lpe.queue.length < 4096 → ∃ t, exec .fire s = .next t ∧
      t.lpe.queue = s.lpe.queue ++ [⟨n, s.slotReg n R.LPE_SLOT_IN, s.slotReg n R.LPE_SLOT_AID, none⟩] ∧ State.Frame [] [.lpe] s t) ∧
  (∀ (s : State) (n : Nat), s.works Blk.LPE → n = s.slotIdx → Loop.kind (s.loop n) = Kind.GENERAL → ∃ t, exec .slotRestart s = .next t ∧
      t.slotReg n R.LPE_SLOT_ACC = 0 ∧ t.slotReg n R.LPE_SLOT_OUT = 0 ∧ t.slot n = { s.slot n with acc2 := 0 } ∧
      (s.expert Blk.LPE = false → t.flagB n F.LPE_SLOT_STAT_SAT = false) ∧
      State.Frame [R.LPE_SLOT_ACC, R.LPE_SLOT_OUT, R.LPE_SLOT_STAT] [.lpe] s t) ∧
  (∀ (s : State) (n k : Nat), s.works Blk.LPE → s.isStandby = false → s.expert Blk.LPE = true → n = s.slotIdx → k < 4096 →
      Loop.kind (s.loop n) = Kind.GAP → s.flagB n F.LPE_SLOT_STAT_ASSIGNED = false → (s.cls.follow.get none k).isSome = true →
      s.gapSlotOf k = none → ∃ t, exec (.gapAssignCmd k) s = .next t ∧ t.flagB n F.LPE_SLOT_STAT_ASSIGNED = true ∧
      t.flagB n F.LPE_SLOT_STAT_FORCED = true ∧ (t.slot n).pair = some k ∧ t.slotReg n R.LPE_SLOT_OUT = 0 ∧
      t.slotReg n R.LPE_SLOT_ACC = 0 ∧ t.pend Ev.LPE_GAP_ASSIGNED = true) ∧
  (∀ (s : State) (n : Nat), s.works Blk.LPE → s.isStandby = false → s.expert Blk.LPE = true → n = s.slotIdx →
      Loop.kind (s.loop n) = Kind.GAP → s.flagB n F.LPE_SLOT_STAT_ASSIGNED = true → ∃ t, exec .gapFreeCmd s = .next t ∧
      t.flagB n F.LPE_SLOT_STAT_ASSIGNED = false ∧ (t.slot n).pair = none ∧ t.slotReg n R.LPE_SLOT_OUT = 0 ∧
      t.pend Ev.LPE_GAP_RELEASED = true) ∧
  (∀ (s : State) (n : Nat), s.running = true → s.isStandby = false → s.expert Blk.LPE = true → n = s.slotIdx → ∃ t, exec .satClearWrite s = .next t ∧
      t.flagB n F.LPE_SLOT_STAT_SAT = false ∧ t.fldB n F.LPE_SLOT_STAT_COUNT = s.fldB n F.LPE_SLOT_STAT_COUNT ∧
      State.Frame [R.LPE_SLOT_STAT] [.ahn, .out] s t) ∧
  (∀ s : State, s.running = true → s.isStandby = false → s.expert Blk.LPE = false → exec .satClearWrite s = .next s)

/-! ## TIM and PTP (R180–R200) -/

/-- Disciplining, holdover, the first setting, loss of validity, steps, host sets, leap seconds, the oven (R183–R186, R188–R192). -/
def Obligations.TimeKeeping : Prop :=
  (∀ (s : State) (sol : TimeSol) (e : Int), s.works Blk.TIM → s.grx.sol = some sol → s.flag F.GRX_STATUS_SPOOF_ALARM = false →
      sol.usable = true → sol.fromRef = true → s.tim.mode = .disciplined → e = sol.offset - s.fld F.TIM_CAL_ANT_NS →
      (s.expert Blk.TIM = true ∨ s.lpe.queue.length < 4096) → ∃ t, exec (.timeSolutionRx sol.epoch) s = .next t ∧
      t.flag F.TIM_STATUS_GNSS_OK = true ∧ t.reg R.TIM_OFFSET = BitVec.ofNat 32 (encodeSigned 32 (sat32 e)) ∧ t.tim.mode = .disciplined ∧
      t.tim.offset = e ∧ t.tim.inside = (if e.natAbs ≤ 40 then s.tim.inside + 1 else 0) ∧ t.tai = s.tai ∧
      t.grx = { s.grx with sol := none } ∧
      (s.expert Blk.TIM = false → t.lpe.queue = s.lpe.queue ++ [⟨s.freqSlot, sat32 sol.drift, 0, none⟩]) ∧
      (s.tim.pend = some .step → t.tim.pend = if e.natAbs ≤ 1000 then none else some .step)) ∧
  (∀ (s : State) (sol : TimeSol), s.works Blk.TIM → s.grx.sol = some sol → s.tim.mode = .disciplined → s.timeValid = true →
      (s.flag F.GRX_STATUS_SPOOF_ALARM = true ∨ sol.usable = false) → ∃ t, exec (.timeSolutionRx sol.epoch) s = .next t ∧
      t.flag F.TIM_STATUS_GNSS_OK = false ∧ t.flag F.TIM_STATUS_HOLDOVER = true ∧ t.tim.mode = .holdover ∧
      t.tim.est0 = s.tim.offset.natAbs + 20 ∧ t.tim.estAt = s.mono ∧ t.timeValid = true ∧ t.tai = s.tai ∧ t.pend Ev.TIM_HOLDOVER = true) ∧
  (∀ (s : State) (sol : TimeSol), s.works Blk.TIM → s.grx.sol = some sol → s.flag F.GRX_STATUS_SPOOF_ALARM = false →
      sol.usable = true → s.tim.mode = .none → s.tim.everValid = false → s.expert Blk.TIM = false → 100 ≤ s.tim.run →
      ∃ t, exec (.timeSolutionRx sol.epoch) s = .next t ∧ t.timeValid = true ∧
      t.tai = taiPlus s.tai (-(sol.offset - s.fld F.TIM_CAL_ANT_NS)) ∧ t.tim.mode = .disciplined ∧ t.tim.everValid = true ∧
      t.fld F.TIM_STEP_COUNT = s.fld F.TIM_STEP_COUNT) ∧
  (∀ (s : State) (epoch : Nat), s.grx.sol.all (fun x => x.epoch != epoch) = true → exec (.timeSolutionRx epoch) s = .next s) ∧
  (∀ s : State, s.running = true → (∀ e, s.tim.lastEpoch = some e → e < 100 * ((s.devClause - 12) / 100)) → s.tim.mode = .disciplined →
      s.timeValid = true →
      ∃ t, exec .timeSolutionTimeout s = .next t ∧ t.flag F.TIM_STATUS_GNSS_OK = false ∧ t.flag F.TIM_STATUS_HOLDOVER = true ∧
      t.tim.mode = .holdover ∧ t.tim.est0 = s.tim.offset.natAbs + 20 ∧ t.tim.estAt = s.mono ∧ t.tai = s.tai) ∧
  (∀ (s : State) (e : Nat), s.running = true → s.timEst = some e → s.fld F.TIM_DISC_INV_10US * 10000 < e → ∃ t, exec .timeInvalid s = .next t ∧
      t.timeValid = false ∧ t.clauseNow = none ∧ t.tim.mode = .none ∧ t.fld F.TIM_QUAL_QUAL = 0 ∧ t.flag F.TIM_STATUS_HOLDOVER = false ∧
      t.pend Ev.TIM_TIME_INVALID = true ∧ .pin .ppsOut false ∈ t.out) ∧
  (∀ (s : State) (e : Nat), s.running = true → s.timEst = some e → s.tim.mode = .holdover → ∃ t, exec .holdoverQualityStep s = .next t ∧
      t.fld F.TIM_QUAL_QUAL = (if e ≤ 100 then 3 else if e ≤ 1000 then 4 else if e ≤ 10000 then 5 else 6) ∧
      (t.fld F.TIM_QUAL_QUAL ≠ s.fld F.TIM_QUAL_QUAL → t.pend Ev.TIM_QUAL_CHANGE = true ∧
        t.fld F.TIM_QUAL_CLASS = (if e ≤ 1000 then 7 else if e ≤ 10000 then 52 else 187)) ∧
      State.ReportFrame [R.TIM_QUAL, R.TIM_STATUS] [] s t) ∧
  (∀ (s : State) (at' : Nat), s.running = true → s.tim.pend = some .step → s.tim.edge = some at' → s.passed at' 500000000 = true →
      1000 < s.tim.offset.natAbs → s.stepBlocked (-s.tim.offset) = false → ∃ t, exec .stepApply s = .next t ∧
      t.tai = taiPlus s.tai (-s.tim.offset) ∧ t.tim.offset = 0 ∧ t.tim.pend = none ∧ t.flag F.TIM_STATUS_STEP_PEND = false ∧
      t.fld F.TIM_STEP_COUNT = (s.fld F.TIM_STEP_COUNT + 1) % 256 ∧
      t.fld F.TIM_STEP_LAST_NS = encodeSigned 24 (clampInt (-8388608) 8388607 (-s.tim.offset)) ∧ t.pend Ev.TIM_STEPPED = true) ∧
  (∀ (s : State) (at' : Nat), s.running = true → s.tim.pend = some .step → s.tim.edge = some at' → s.passed at' 500000000 = true →
      1000000 ≤ s.tim.offset.natAbs → s.blkOn Blk.AUT = true → s.fleetState = Tense.RUN → ∃ t, exec .stepApply s = .next t ∧ t.tai = s.tai ∧
      t.tim = s.tim ∧ t.flag F.TIM_STATUS_STEP_PEND = true ∧
      (s.flag F.TIM_STATUS_STEP_PEND = false → t.pend Ev.TIM_STEP_DEFERRED = true)) ∧
  (∀ (s : State) (at' : Nat), s.running = true → s.tim.pend = some .step → s.tim.edge = some at' → s.passed at' 500000000 = true →
      s.tim.offset.natAbs ≤ 1000 → ∃ t, exec .stepApply s = .next t ∧ t.tim.pend = none ∧ t.flag F.TIM_STATUS_STEP_PEND = false ∧
      State.Frame [R.TIM_STATUS] [.tim] s t) ∧
  (∀ (s : State) (errUs now : Nat), s.works Blk.TIM → 0 < errUs → errUs < 2 ^ 24 → s.setPermitted = true →
      now = s.fld F.TIM_SET_SEC_SEC * nsPerSec + s.fld F.TIM_SET_NS_NS → s.stepBlocked ((now : Int) - s.tai) = false →
      ∃ t, exec (.timSet errUs) s = .next t ∧ t.tai = now ∧ t.timeValid = true ∧ t.fld F.TIM_SET_CMD_RESULT = 1 ∧ t.fld F.TIM_QUAL_QUAL = 7 ∧
      t.timEst = some (errUs * 1000) ∧ t.tim.pend = none ∧ t.flag F.TIM_STATUS_STEP_PEND = false ∧
      t.fld F.TIM_STEP_COUNT = (s.fld F.TIM_STEP_COUNT + 1) % 256 ∧ t.pend Ev.TIM_STEPPED = true) ∧
  (∀ (s : State) (errUs : Nat), s.works Blk.TIM → errUs < 2 ^ 24 → (errUs = 0 ∨ s.setPermitted = false) →
      ∃ t, exec (.timSet errUs) s = .next t ∧ t.fld F.TIM_SET_CMD_RESULT = 2 ∧ State.Frame [R.TIM_SET_CMD] [] s t) ∧
  (∀ (s : State) (errUs now : Nat), s.works Blk.TIM → 0 < errUs → errUs < 2 ^ 24 → s.setPermitted = true →
      now = s.fld F.TIM_SET_SEC_SEC * nsPerSec + s.fld F.TIM_SET_NS_NS → s.stepBlocked ((now : Int) - s.tai) = true →
      ∃ t, exec (.timSet errUs) s = .next t ∧ t.tai = s.tai ∧ t.fld F.TIM_SET_CMD_RESULT = 3 ∧ t.flag F.TIM_STATUS_STEP_PEND = true ∧
      t.tim = { s.tim with pend := some (.set now s.mono errUs) } ∧ t.pend Ev.TIM_STEP_DEFERRED = true) ∧
  (∀ (s : State) (at' now p errUs : Nat), s.running = true → s.tim.pend = some (.set now p errUs) → s.tim.edge = some at' → p ≤ s.mono →
      s.passed at' 500000000 = true → s.stepBlocked (((now + (s.mono - p) : Nat) : Int) - s.tai) = false → ∃ t, exec .stepApply s = .next t ∧
      t.tai = now + (s.mono - p) ∧ t.timeValid = true ∧ t.fld F.TIM_SET_CMD_RESULT = 1 ∧ t.fld F.TIM_QUAL_QUAL = 7 ∧
      t.timEst = some (errUs * 1000)) ∧
  (∀ s : State, s.running = true → s.flag F.TIM_UTC_LEAP_PEND = true → s.fld F.TIM_LEAP_SEC ≤ s.tai / nsPerSec → ∃ t, exec .leapSecond s = .next t ∧
      t.fld F.TIM_UTC_OFFSET_S = (if s.flag F.TIM_UTC_LEAP_DIR then s.fld F.TIM_UTC_OFFSET_S + 255 else s.fld F.TIM_UTC_OFFSET_S + 1) % 256 ∧
      t.flag F.TIM_UTC_LEAP_PEND = false ∧ t.nand.utc = t.reg R.TIM_UTC ∧ t.pend Ev.TIM_UTC_CHANGE = true ∧
      State.ReportFrame [R.TIM_UTC] [.nand] s t) ∧
  (∀ s : State, s.running = true → s.flag F.TIM_STATUS_OCXO_READY = false → ∃ t, exec .ocxoReady s = .next t ∧
      t.flag F.TIM_STATUS_OCXO_READY = true ∧ t.pend Ev.TIM_OCXO_READY = true ∧ t.freqOn = s.flag F.TIM_OUT_FREQ_EN ∧
      (s.flag F.TIM_OUT_FREQ_EN = true → .pin .freqOut true ∈ t.out) ∧ State.ReportFrame [R.TIM_STATUS] [] s t)

/-- Reading time, the RTC, timed outputs and captures (R181, R194, R195, R203, R382). The age of a snapshot is a free value. -/
def Obligations.TimeEdges : Prop :=
  (∀ s : State, s.running = true → ∃ t d, exec .timeSnapshotRead s = .next t ∧ 30 ≤ d ∧ d ≤ 60 ∧
      t.hostRead = BitVec.ofNat 32 ((s.tai - d) / nsPerSec) ∧ t.reg R.TIM_SEC_LO = t.hostRead ∧
      t.fld F.TIM_SEC_HI_SEC_HI = (s.tai - d) / nsPerSec / 2 ^ 32 % 65536 ∧ t.fld F.TIM_NS_NS = (s.tai - d) % nsPerSec ∧
      State.Frame [R.TIM_SEC_LO, R.TIM_SEC_HI, R.TIM_NS] [.hostRead, .freeCtr] s t) ∧
  (∀ s : State, s.running = true → s.timeValid = true → s.passed s.tim.rtcAt (1024 * nsPerSec) = true → ∃ t, exec .rtcUpdate s = .next t ∧
      t.bkp = { s.bkp with rtc := s.tai, rtcValid := true } ∧ State.Frame [] [.bkp, .tim] s t) ∧
  (∀ (s : State) (w : Word) (n : Nat), s.works Blk.TIM → n = s.fld F.TIM_TO_IDX_OUTPUT → s.flagB n F.TIM_TO_CFG_ARM = false →
      F.TIM_TO_CFG_ARM.get w = 1 → s.tai ≤ s.outStart n → ∃ t, exec (.timedOutputArm w) s = .next t ∧ t.flagB n F.TIM_TO_CFG_ARM = true ∧
      t.fldB n F.TIM_TO_CFG_PERIODIC = F.TIM_TO_CFG_PERIODIC.get w ∧ t.fldB n F.TIM_TO_CFG_INVERT = F.TIM_TO_CFG_INVERT.get w ∧
      t.tim.outs.get none n = some ⟨s.outStart n, true, false⟩ ∧ (∀ k, k ≠ n → t.tim.outs.get none k = s.tim.outs.get none k) ∧
      t.out = (if F.TIM_TO_CFG_INVERT.get w = 1 then [.pin (.timedOut n) true] else []) ++ s.out ∧
      State.Frame [R.TIM_TO_CFG] [.tim, .out] s t) ∧
  (∀ (s : State) (w : Word) (n : Nat), s.works Blk.TIM → n = s.fld F.TIM_TO_IDX_OUTPUT → s.flagB n F.TIM_TO_CFG_ARM = false →
      F.TIM_TO_CFG_ARM.get w = 1 → s.outStart n < s.tai → ∃ t, exec (.timedOutputArm w) s = .next t ∧ t.flagB n F.TIM_TO_CFG_ARM = false ∧
      t.flagB n F.TIM_TO_CFG_LATE = true ∧ t.pend Ev.TIM_TO_LATE = true ∧ t.tim = s.tim ∧ State.ReportFrame [R.TIM_TO_CFG] [] s t) ∧
  (∀ (s : State) (w : Word) (n : Nat), s.running = true → n = s.fld F.TIM_TO_IDX_OUTPUT → F.TIM_TO_CFG_ARM.get w = 0 →
      ∃ t, exec (.timedOutputArm w) s = .next t ∧ t.flagB n F.TIM_TO_CFG_ARM = false ∧ t.tim.outs.get none n = none ∧
      State.Frame [R.TIM_TO_CFG] [.tim, .out] s t) ∧
  (∀ (s : State) (n : Nat) (o : TimedOut), s.running = true → s.tim.outs.get none n = some o → o.next ≤ s.tai → o.rising = true →
      ∃ t, exec (.timedOutputEdge n) s = .next t ∧ t.out = .pin (.timedOut n) (!s.flagB n F.TIM_TO_CFG_INVERT) :: s.out ∧
      t.tim.outs.get none n = some ⟨o.next + s.outWidth n, false, true⟩ ∧ State.Frame [] [.tim, .out] s t) ∧
  (∀ (s : State) (n : Nat) (o : TimedOut), s.running = true → s.tim.outs.get none n = some o → o.next ≤ s.tai → o.rising = false →
      s.outPeriodic n = true → ∃ t, exec (.timedOutputEdge n) s = .next t ∧ t.out = .pin (.timedOut n) (s.flagB n F.TIM_TO_CFG_INVERT) :: s.out ∧
      t.tim.outs.get none n = some ⟨o.next - s.outWidth n + s.outPeriod n, true, false⟩ ∧ State.Frame [] [.tim, .out] s t) ∧
  (∀ (s : State) (n : Nat) (o : TimedOut), s.running = true → s.tim.outs.get none n = some o → o.next ≤ s.tai → o.rising = false →
      s.outPeriodic n = false → ∃ t, exec (.timedOutputEdge n) s = .next t ∧
      t.out = (if s.flagB n F.TIM_TO_CFG_INVERT then [.pin (.timedOut n) false] else []) ++
        .pin (.timedOut n) (s.flagB n F.TIM_TO_CFG_INVERT) :: s.out ∧
      t.tim.outs.get none n = none ∧ t.flagB n F.TIM_TO_CFG_ARM = false ∧ State.Frame [R.TIM_TO_CFG] [.tim, .out] s t) ∧
  (∀ (s : State) (j : Nat) (rising : Bool), s.works Blk.TIM → j < 8 → (s.fld F.TIM_TC_CFG_EDGE).testBit (2 * j + (if rising then 0 else 1)) = true →
      (s.tim.caps.get [] j).length < 16 → ∃ t, exec (.captureEdge j rising) s = .next t ∧
      t.tim.caps.get [] j = s.tim.caps.get [] j ++ [(s.tai, rising)] ∧ (∀ k, k ≠ j → t.tim.caps.get [] k = s.tim.caps.get [] k) ∧
      State.Frame [] [.tim] s t) ∧
  (∀ (s : State) (j : Nat) (rising : Bool), s.works Blk.TIM → j < 8 → (s.fld F.TIM_TC_CFG_EDGE).testBit (2 * j + (if rising then 0 else 1)) = true →
      16 ≤ (s.tim.caps.get [] j).length → ∃ t, exec (.captureEdge j rising) s = .next t ∧ t.tim = s.tim ∧
      t.fld F.TIM_TC_CFG_OVF = s.fld F.TIM_TC_CFG_OVF ||| 2 ^ j ∧ t.pend Ev.TIM_TC_OVERFLOW = true ∧ State.ReportFrame [R.TIM_TC_CFG] [] s t) ∧
  (∀ (s : State) (j : Nat) (rising : Bool), s.works Blk.TIM → j < 8 → (s.fld F.TIM_TC_CFG_EDGE).testBit (2 * j + (if rising then 0 else 1)) = false →
      exec (.captureEdge j rising) s = .next s) ∧
  (∀ (s : State) (at' : Nat) (rising : Bool) (rest : List (Nat × Bool)), s.running = true →
      s.tim.caps.get [] (s.fld F.TIM_TC_IDX_INPUT) = (at', rising) :: rest → ∃ t, exec .captureStampRead s = .next t ∧
      t.hostRead = BitVec.ofNat 32 (at' / nsPerSec) ∧ t.fldB (s.fld F.TIM_TC_IDX_INPUT) F.TIM_TC_NS_NS = at' % nsPerSec ∧
      t.flagB (s.fld F.TIM_TC_IDX_INPUT) F.TIM_TC_NS_VALID = true ∧ t.flagB (s.fld F.TIM_TC_IDX_INPUT) F.TIM_TC_NS_RISING = rising ∧ t.tim.caps.get [] (s.fld F.TIM_TC_IDX_INPUT) = rest ∧
      State.Frame [R.TIM_TC_NS] [.tim, .hostRead] s t)

/-- PTP ports at basic level: Announce, Sync, the answers to delay requests, the best master, forwarding (R196–R199). -/
def Obligations.NetworkTime : Prop :=
  (∀ (s : State) (p : Nat), s.works Blk.PTP → s.ptpMaster p = true → s.ptpState p = 6 → s.betterMaster p = false → s.ethCanSend p = true →
      dueSince s (s.ptpPort p).annAt (s.announceNs p) = true → ∃ t a, exec (.ptpAnnounceTx p) s = .next t ∧
      t.out = .ptp p (s.flagB p F.PTP_PORT_CFG_UDP) false ({ s.ptpMsg p .announce (s.ptpPort p).seqAnn
        (s.fldB p F.PTP_PORT_CFG_LOG_ANN) 0 with announce := some a } : PtpMsg).bytes :: s.out ∧
      a.clockClass = qualClass (s.fld F.TIM_QUAL_QUAL) ∧ a.timeSource = (if s.fld F.TIM_QUAL_QUAL = 1 ∨ s.fld F.TIM_QUAL_QUAL = 2 then 0x20 else 0xA0) ∧
      a.utcOffset = s.fld F.TIM_UTC_OFFSET_S ∧ a.prio1 = s.fld F.PTP_CLOCK_PRIO1 ∧
      a.prio2 = (if s.blkOn Blk.AUT = true ∧ s.isActive = true then s.fld F.PTP_CLOCK_PRIO2 else min 255 (s.fld F.PTP_CLOCK_PRIO2 + 1)) ∧
      (t.ptpPort p).seqAnn = ((s.ptpPort p).seqAnn + 1) % 65536 ∧ (t.ptpPort p).annAt = some s.mono ∧ State.Frame [] [.ptp, .out] s t) ∧
  (∀ (s : State) (p : Nat), s.works Blk.PTP → s.ptpMaster p = true → s.ptpState p = 6 → s.betterMaster p = true →
      ∃ t, exec (.ptpAnnounceTx p) s = .next t ∧ t.ptpState p = 7 ∧ t.pend Ev.PTP_PORT_STATE = true ∧ t.pend Ev.PTP_BETTER_MASTER = true ∧
      State.ReportFrame [R.PTP_PORT_STAT] [] s t) ∧
  (∀ (s : State) (p : Nat), s.works Blk.PTP → s.ptpMaster p = true → s.ptpState p = 7 → s.betterMaster p = false →
      ∃ t, exec (.announceReceiptTimeout p) s = .next t ∧ t.ptpState p = 6 ∧ t.pend Ev.PTP_PORT_STATE = true ∧
      State.ReportFrame [R.PTP_PORT_STAT] [] s t) ∧
  (∀ (s : State) (p : Nat) (m : PtpMsg), s.works Blk.PTP → s.ptpMaster p = true → s.ptpState p = 6 → s.ethCanSend p = true →
      dueSince s (s.ptpPort p).syncAt (logNs (s.logSync p)) = true → s.flagB p F.PTP_PORT_CFG_TWO_STEP = true →
      m = s.ptpMsg p .sync (s.ptpPort p).seqSync (s.logSync p) (s.tai + s.fldB p F.PTP_PORT_LAT_TX_NS) →
      ∃ t, exec (.ptpSyncTx p) s = .next t ∧
      t.out = .ptp p (s.flagB p F.PTP_PORT_CFG_UDP) false ({ m with kind := .followUp } : PtpMsg).bytes ::
        .ptp p (s.flagB p F.PTP_PORT_CFG_UDP) false ({ m with twoStep := true, time := 0 } : PtpMsg).bytes :: s.out ∧
      t.fldB p (ptpCnt 0) = min (s.fldB p (ptpCnt 0) + 1) (2 ^ 32 - 1) ∧
      (t.ptpPort p).seqSync = ((s.ptpPort p).seqSync + 1) % 65536 ∧ State.Frame [R.PTP_CNT] [.ptp, .out] s t) ∧
  (∀ (s : State) (p : Nat), s.works Blk.PTP → s.ptpMaster p = true → s.ptpState p = 6 → s.ethCanSend p = true →
      dueSince s (s.ptpPort p).syncAt (logNs (s.logSync p)) = true → s.flagB p F.PTP_PORT_CFG_TWO_STEP = false →
      ∃ t, exec (.ptpSyncTx p) s = .next t ∧
      t.out = .ptp p (s.flagB p F.PTP_PORT_CFG_UDP) false
        (s.ptpMsg p .sync (s.ptpPort p).seqSync (s.logSync p) (s.tai + s.fldB p F.PTP_PORT_LAT_TX_NS)).bytes :: s.out ∧
      t.fldB p (ptpCnt 0) = min (s.fldB p (ptpCnt 0) + 1) (2 ^ 32 - 1) ∧ State.Frame [R.PTP_CNT] [.ptp, .out] s t) ∧
  (∀ (s : State) (p : Nat) (b : List Byte), s.works Blk.PTP → ptpKindOf b = some .delayReq → ptpMalformed b = false →
      ptpDomain b = s.fld F.PTP_CLOCK_DOMAIN → s.ptpMaster p = true → s.ptpP2p p = false → s.ptpState p = 6 → s.ethCanSend p = true →
      ∃ t, exec (.ptpMessageRx ⟨p, b⟩) s = .next t ∧
      t.out = .ptp p (s.flagB p F.PTP_PORT_CFG_UDP) false ({ s.ptpMsg p .delayResp (ptpSeq b)
        (signedOf 4 (s.fldB p F.PTP_PORT_CFG_LOG_DREQ)) (s.tai - s.fldB p F.PTP_PORT_LAT_RX_NS) with
          req := ptpSrc b, corr := ptpCorrNs b } : PtpMsg).bytes :: s.out ∧
      t.fldB p (ptpCnt 1) = min (s.fldB p (ptpCnt 1) + 1) (2 ^ 32 - 1) ∧ State.Frame [R.PTP_CNT + 4] [.out] s t) ∧
  (∀ (s : State) (p : Nat) (b : List Byte) (f : PtpForeign), s.works Blk.PTP → ptpKindOf b = some .announce → ptpMalformed b = false →
      ptpDomain b = s.fld F.PTP_CLOCK_DOMAIN → s.ptpMaster p = true → 1 ≤ s.fldB p F.PTP_PORT_CFG_ANN_TO →
      ptpSrc b / 65536 ≠ Bytes.toNat s.clockId.reverse → (announceData b).getLastD 0 < 255 → f ∈ (s.ptpPort p).foreign → f.id = ptpSrc b →
      s.mono < f.last + 4 * s.announceNs p → dataBetter (announceData b) s.ownData = true → ∃ t, exec (.ptpMessageRx ⟨p, b⟩) s = .next t ∧
      t.betterMaster p = true ∧ State.Frame [] [.ptp] s t) ∧
  (∀ (s : State) (p : Nat) (b : List Byte), s.works Blk.PTP → s.ptpMode p ≠ 0 →
      (ptpMalformed b = true ∨ ptpDomain b ≠ s.fld F.PTP_CLOCK_DOMAIN) → ∃ t, exec (.ptpMessageRx ⟨p, b⟩) s = .next t ∧
      t.fldB p (ptpCnt 3) = min (s.fldB p (ptpCnt 3) + 1) (2 ^ 32 - 1) ∧ State.Frame [R.PTP_CNT + 12] [] s t) ∧
  (∀ (s : State) (p : Nat) (b : List Byte), s.works Blk.PTP → s.ptpMode p = 0 → exec (.ptpMessageRx ⟨p, b⟩) s = .next s) ∧
  (∀ (s : State) (p seq t1 t4 t2 : Nat) (c : Int) (b : List Byte), s.works Blk.PTP → ptpKindOf b = some .pdelayRespFollowUp →
      ptpMalformed b = false → ptpDomain b = s.fld F.PTP_CLOCK_DOMAIN → s.ptpMode p ≠ 0 → s.ptpPeer p = true → (s.ptpPort p).asked = some (seq, t1) →
      (s.ptpPort p).answer = some (t4, t2, c) → ptpSeq b = seq → ptpReq b = s.portId p → ∃ t, exec (.ptpMessageRx ⟨p, b⟩) s = .next t ∧
      t.fldB p F.PTP_PORT_STAT_LINK_NS =
        min (Config.roundQuot ((t4 : Int) - t1 - ((ptpStampOf b : Int) - t2 + c + ptpCorrNs b)) 2).toNat (2 ^ 28 - 1) ∧
      (t.ptpPort p).asked = none ∧ t.ptpState p = s.ptpState p ∧ State.Frame [R.PTP_PORT_STAT] [.ptp] s t) ∧
  (∀ (s : State) (p : Nat), s.works Blk.PTP → s.expert Blk.PTP = false → s.ptpPeer p = true → s.ethCanSend p = true →
      dueSince s (s.ptpPort p).pdelayAt (logNs (s.logPdelay p)) = true → ∃ t, exec (.pdelayReqTx p) s = .next t ∧
      t.out = .ptp p (s.flagB p F.PTP_PORT_CFG_UDP) false (s.ptpMsg p .pdelayReq (s.ptpPort p).seqPdelay 0x7F 0).bytes :: s.out ∧
      (t.ptpPort p).seqPdelay = ((s.ptpPort p).seqPdelay + 1) % 65536 ∧
      (t.ptpPort p).asked = some ((s.ptpPort p).seqPdelay, s.tai + s.fldB p F.PTP_PORT_LAT_TX_NS) ∧
      State.Frame [R.PTP_CNT] [.ptp, .out] s t) ∧
  (∀ (s : State) (p rxAt txAt : Nat) (h q b : List Byte), s.works Blk.PTP → b = h ++ q → rxAt ≤ txAt → p < 2 → s.ptpMode p = 2 → s.ptpMode (1 - p) = 2 →
      s.expert Blk.PTP = false → s.ethCanSend (1 - p) = true → ptpKindOf b = some .sync → ptpMalformed b = false →
      ptpDomain b = s.fld F.PTP_CLOCK_DOMAIN → ptpTwoStep b = false → ∃ t, exec (.ptpTransparentForward p h q rxAt txAt) s = .next t ∧
      t.out = .ptp (1 - p) (s.flagB (1 - p) F.PTP_PORT_CFG_UDP) (s.flagB (1 - p) F.PTP_PORT_CFG_UDP) (ptpCorrected b
        ((txAt - rxAt + s.fldB p F.PTP_PORT_LAT_RX_NS + s.fldB (1 - p) F.PTP_PORT_LAT_TX_NS : Nat) +
          (if s.ptpP2p p then (s.fldB p F.PTP_PORT_STAT_LINK_NS : Int) + signedOf 32 (s.fldB p F.PTP_PORT_ASYM_ASYM_NS) else 0))) :: s.out ∧
      t.fldB (1 - p) (ptpCnt 2) = min (s.fldB (1 - p) (ptpCnt 2) + 1) (2 ^ 32 - 1) ∧ State.Frame [R.PTP_CNT + 8] [.out] s t) ∧
  (∀ (s : State) (p rxAt txAt : Nat) (h q b : List Byte) (c : Int), s.works Blk.PTP → b = h ++ q → p < 2 → s.ptpMode p = 2 → s.ptpMode (1 - p) = 2 →
      s.expert Blk.PTP = false → s.ethCanSend (1 - p) = true → ptpKindOf b = some .followUp → ptpMalformed b = false →
      ptpDomain b = s.fld F.PTP_CLOCK_DOMAIN →
      ((s.ptpPort p).fwd.find? fun e => e.1 == ptpSrc b && e.2.1 == ptpSeq b) = some (ptpSrc b, ptpSeq b, c) →
      ∃ t, exec (.ptpTransparentForward p h q rxAt txAt) s = .next t ∧
      t.out = .ptp (1 - p) (s.flagB (1 - p) F.PTP_PORT_CFG_UDP) (s.flagB (1 - p) F.PTP_PORT_CFG_UDP) (ptpCorrected b c) :: s.out ∧
      State.Frame [R.PTP_CNT + 8] [.ptp, .out] s t) ∧
  (∀ (s : State) (p rxAt txAt : Nat) (h q b : List Byte) (k : PtpKind), s.works Blk.PTP → b = h ++ q → s.ptpP2p p = true → ptpKindOf b = some k → k.peer = true →
      exec (.ptpTransparentForward p h q rxAt txAt) s = .next s)

/-! ## GRX (R150–R178) -/

/-- Antenna bias, held and KNOWN positions, surveys (R152, R153, R165, R168, R175, R177). A
survey ends where ANT_A lies within 10 km of the site origin, the baseline is 10 m or more, and the measured vector agrees. -/
def Obligations.AntennasAndSurveys : Prop :=
  (∀ (s : State) (a : Nat), a < 2 → s.biasOn a = true → s.flag (antShort a) = false → s.grx.survey = none → ∃ t, exec (.antShort a) s = .next t ∧
      t.flag (antShort a) = true ∧ t.biasOn a = false ∧ t.flag (antOpen a) = s.flag (antOpen a) ∧ t.pend Ev.GRX_ANT_SHORT = true ∧
      State.ReportFrame [R.GRX_ANT] [.grx] s t) ∧
  (∀ (s : State) (a : Nat), a < 2 → s.biasOn a = true → s.flag (antShort a) = true → ∃ t, exec (.antShort a) s = .next t ∧
      t.biasOn a = false ∧ t.fld (antRetry a) = min (s.fld (antRetry a) + 1) 255 ∧ State.Frame [R.GRX_ANT] [.grx] s t) ∧
  (∀ (s : State) (a : Nat), a < 2 → s.biasOn a = false → exec (.antShort a) s = .next s) ∧
  (∀ (s : State) (a : Nat), a < 2 → s.biasOn a = false → exec (.antOpen a) s = .next s) ∧
  (∀ (s : State) (a : Nat), a < 2 → s.biasOn a = true → s.flag (antOpen a) = false → ∃ t, exec (.antOpen a) s = .next t ∧
      t.flag (antOpen a) = true ∧ t.biasOn a = true ∧ (s.flag (antShared a) = false → t.pend Ev.GRX_ANT_OPEN = true) ∧
      (s.flag (antShared a) = true → t.out = s.out) ∧ State.ReportFrame [R.GRX_ANT] [] s t) ∧
  (∀ (s : State) (a : Nat), a < 2 → s.running = true → s.expert Blk.GRX = false → s.flag (antShort a) = true → s.flag (antBiasEn a) = true →
      dueSince s (s.grx.shortAt.get none a) (10 * nsPerSec) = true → s.grx.retry.get none a = none →
      ∃ t, exec (.biasRetry a false) s = .next t ∧ t.biasOn a = true ∧ t.flag (antShort a) = true ∧ State.Frame [R.GRX_ANT] [.grx] s t) ∧
  (∀ (s : State) (a : Nat), a < 2 → s.running = true → s.expert Blk.GRX = false → s.flag (antShort a) = true → s.flag (antBiasEn a) = true →
      dueSince s (s.grx.shortAt.get none a) (10 * nsPerSec) = true → s.grx.retry.get none a = none →
      ∃ t, exec (.biasRetry a true) s = .next t ∧ t.biasOn a = false ∧ t.fld (antRetry a) = min (s.fld (antRetry a) + 1) 255 ∧
      t.grx.shortAt.get none a = some s.mono ∧ State.Frame [R.GRX_ANT] [.grx] s t) ∧
  (∀ (s : State) (a at' : Nat), a < 2 → s.running = true → s.grx.retry.get none a = some at' → s.passed at' nsPerSec = true →
      ∃ t, exec (.biasRestored a) s = .next t ∧ t.flag (antShort a) = false ∧ t.grx.retry.get none a = none ∧
      t.pend Ev.GRX_BIAS_RESTORED = true ∧ State.ReportFrame [R.GRX_ANT] [.grx] s t) ∧
  (∀ (s : State) (p : List Int) (v : Int), s.running = true → s.heldPos (s.fld F.GRX_POS_SEL_ANT) = some p →
      v = p.getD (s.fld F.GRX_POS_SEL_AXIS) 0 → ∃ t, exec .heldPositionRead s = .next t ∧ t.hostRead = BitVec.ofNat 32 (encodeSigned 64 v) ∧
      t.fldB (s.fld ⟨R.GRX_POS_SEL, 2, 0⟩) F.GRX_HELD_HI_HELD_HI = encodeSigned 64 v / 2 ^ 32 % 2 ^ 32 ∧
      State.Frame [R.GRX_HELD_LO, R.GRX_HELD_HI] [.hostRead] s t) ∧
  (∀ (s : State) (w : Word) (b : Nat), s.running = true → b = s.fld ⟨R.GRX_POS_SEL, 2, 0⟩ → ∃ t, exec (.posHiWrite w) s = .next t ∧
      t.grx.known.get none b = some (signedOf 64 (s.fldB b F.GRX_POS_LO_VAL_LO + 2 ^ 32 * w.toNat)) ∧
      (∀ k, k ≠ b → t.grx.known.get none k = s.grx.known.get none k) ∧ State.Frame [R.GRX_POS_HI] [.grx] s t) ∧
  (∀ s : State, s.works Blk.GRX → 10 ≤ s.fld F.GRX_SURVEY_DURATION_MIN → s.fld F.GRX_SURVEY_DURATION_MIN ≤ 1440 →
      ∃ t, exec .clearPositions s = .next t ∧ t.nand.heldA = none ∧ t.nand.heldB = none ∧ t.flag F.GRX_STATUS_POS_OK = false ∧
      State.Frame [R.GRX_SURVEY, R.GRX_STATUS] [.nand, .ahn, .out] s t) ∧
  (∀ s : State, s.works Blk.GRX → s.blkOn Blk.SLV = false → s.grx.survey = none → 10 ≤ s.fld F.GRX_SURVEY_DURATION_MIN →
      s.fld F.GRX_SURVEY_DURATION_MIN ≤ 1440 → ∃ t, exec .commitKnown s = .next t ∧ t.grx = { s.grx with survey := some ⟨false, s.mono, 0, 0, [0, 0, 0]⟩ } ∧
      t.flag F.GRX_STATUS_SURVEYING = true ∧ t.fld F.GRX_SURVEY_RESULT = 1 ∧ State.Frame [R.GRX_SURVEY, R.GRX_STATUS] [.grx] s t) ∧
  (∀ (s : State) (d : Nat), s.works Blk.GRX → s.blkOn Blk.SLV = false → s.grx.survey = none → 10 ≤ d → d ≤ 1440 →
      ∃ t, exec (.selfSurvey d) s = .next t ∧ t.grx = { s.grx with survey := some ⟨true, s.mono, 0, 0, [0, 0, 0]⟩ } ∧
      t.fld F.GRX_SURVEY_DURATION_MIN = d ∧ t.flag F.GRX_STATUS_SURVEYING = true ∧ t.fld F.GRX_SURVEY_RESULT = 1 ∧
      State.Frame [R.GRX_SURVEY, R.GRX_STATUS] [.grx] s t) ∧
  (∀ (s : State) (d : Nat), s.works Blk.GRX → s.blkOn Blk.SLV = true → s.grx.survey = none → 10 ≤ d → d ≤ 1440 →
      ∃ t, exec (.selfSurvey d) s = .next t ∧ t.fld F.GRX_SURVEY_RESULT = 3 ∧ State.Frame [R.GRX_SURVEY] [] s t) ∧
  (∀ s : State, s.works Blk.GRX → s.grx.survey.isSome = true → 10 ≤ s.fld F.GRX_SURVEY_DURATION_MIN → s.fld F.GRX_SURVEY_DURATION_MIN ≤ 1440 →
      ∃ t, exec .surveyAbort s = .next t ∧ t.grx = { s.grx with survey := none } ∧ t.fld F.GRX_SURVEY_RESULT = 7 ∧
      t.flag F.GRX_STATUS_SURVEYING = false ∧ t.pend Ev.GRX_SURVEY_END = true ∧ State.ReportFrame [R.GRX_SURVEY, R.GRX_STATUS] [.grx] s t) ∧
  (∀ s : State, s.works Blk.GRX → 10 ≤ s.fld F.GRX_SURVEY_DURATION_MIN → s.fld F.GRX_SURVEY_DURATION_MIN ≤ 1440 →
      ∃ t, exec .quietCal s = .next t ∧ (∀ p ∈ List.range 6, t.grx.quiet.get 0 p = Config.freeNat (s.freeCtr + p)) ∧
      State.Frame [R.GRX_SURVEY] [.grx, .freeCtr] s t) ∧
  (∀ (s : State) (v : GrxSurvey) (fixedMin : Nat) (vec a b m : List Int), s.works Blk.GRX → 10 ≤ fixedMin → s.grx.survey = some v →
      s.passed v.since (((if v.self then s.fld F.GRX_SURVEY_DURATION_MIN else 0) + 10) * 60 * nsPerSec) = true →
      a = (if v.self then v.mean else (s.knownPos 0).getD [0, 0, 0]) → m = (a.zip vec).map (fun c => c.1 + c.2) → b = (s.knownPos 1).getD m →
      beyond10km s.siteOrigin a = false → minBaseline2 ≤ dist2 a b →
      dist2 b m ≤ (10 * s.fld F.GRX_BASE_TOL_MM : Int) * (10 * s.fld F.GRX_BASE_TOL_MM : Int) →
      ∃ t, exec (.surveyEnd vec fixedMin) s = .next t ∧ t.grx.survey = none ∧ t.flag F.GRX_STATUS_SURVEYING = false ∧
      t.pend Ev.GRX_SURVEY_END = true ∧ t.fld F.GRX_SURVEY_RESULT = 2 ∧ t.nand.heldA = some a ∧ t.nand.heldB = some b ∧
      t.flag F.GRX_STATUS_POS_OK = true ∧ t.flag F.GRX_STATUS_BASE_ALARM = false ∧
      (∀ p ∈ List.range 6, t.grx.quiet.get 0 p = Config.freeNat (s.freeCtr + p))) ∧
  (∀ (s : State) (v : GrxSurvey) (fixedMin : Nat) (vec a b m : List Int), s.works Blk.GRX → 10 ≤ fixedMin → s.grx.survey = some v →
      s.passed v.since (((if v.self then s.fld F.GRX_SURVEY_DURATION_MIN else 0) + 10) * 60 * nsPerSec) = true →
      a = (if v.self then v.mean else (s.knownPos 0).getD [0, 0, 0]) → m = (a.zip vec).map (fun c => c.1 + c.2) → b = (s.knownPos 1).getD m →
      ∃ t, exec (.surveyEnd vec fixedMin) s = .next t ∧ t.grx.survey = none ∧ t.pend Ev.GRX_SURVEY_END = true ∧
      (beyond10km s.siteOrigin a = true → t.fld F.GRX_SURVEY_RESULT = 4 ∧ t.nand = s.nand) ∧
      (beyond10km s.siteOrigin a = false ∧ dist2 a b < minBaseline2 → t.fld F.GRX_SURVEY_RESULT = 5 ∧ t.nand = s.nand) ∧
      (beyond10km s.siteOrigin a = false ∧ minBaseline2 ≤ dist2 a b ∧
        (10 * s.fld F.GRX_BASE_TOL_MM : Int) * (10 * s.fld F.GRX_BASE_TOL_MM : Int) < dist2 b m →
        t.fld F.GRX_SURVEY_RESULT = 6 ∧ t.nand = s.nand)) ∧
  (∀ (s : State) (vec : List Int) (fixedMin : Nat) (v : GrxSurvey), s.grx.survey = some v →
      (fixedMin < 10 ∨ s.passed v.since (((if v.self then s.fld F.GRX_SURVEY_DURATION_MIN else 0) + 10) * 60 * nsPerSec) = false) →
      exec (.surveyEnd vec fixedMin) s = .next s)

/-- Reference epochs, the monitors' alarms, and RTCM output (R159, R160, R166, R167, R169–R173, R176). -/
def Obligations.ReferenceEpochs : Prop :=
  (∀ (s u : State) (m : RefMeas) (e bad : Nat) (a b : AntSet), s.works Blk.GRX → s.epochReady e → u = s.reported e m →
      a = u.antSet 0 e m.a m.chans → b = u.antSet 1 e m.b m.chans →
      bad = u.failingChecks m a b (u.epochDds e a b).1 &&& s.fld F.GRX_SPOOF_CHK_EN → ∃ t, exec (.referenceEpoch m) s = .next t ∧
      t.grx.lastEpoch = some e ∧ t.fld F.GRX_SPOOF_FAILED = bad ∧
      t.flag F.GRX_STATUS_SPOOF_ALARM = (s.flag F.GRX_STATUS_SPOOF_ALARM || bad != 0) ∧
      t.fld F.GRX_STATUS_NSAT_A = a.nsat ∧ t.fld F.GRX_STATUS_NSAT_B = b.nsat ∧
      (u.epochFix e a b = none → t.flag F.GRX_STATUS_B_FIXED = false ∧ t.fld F.GRX_BASE_DEV_MM = 65535) ∧
      ((u.epochFix e a b).any (fun f => decide (f.sumSq ≤ ((25 * f.count : Nat) : Rat))) = true → 9 ≤ s.grx.rmsRun →
        t.flag F.GRX_STATUS_B_FIXED = true) ∧
      ((u.epochFix e a b).any (fun f => decide (((s.fld F.GRX_BASE_TOL_MM * s.fld F.GRX_BASE_TOL_MM : Nat) : Rat) < f.dev2)) = true →
        9 ≤ s.grx.devRun → s.flag F.GRX_STATUS_BASE_ALARM = false → t.flag F.GRX_STATUS_BASE_ALARM = true ∧
        t.pend Ev.GRX_BASELINE_ALARM = true ∧ t.flag F.GRX_STATUS_USABLE_A = false ∧ t.flag F.GRX_STATUS_USABLE_B = false) ∧
      (s.nand.heldA = none ∨ t.flag F.GRX_STATUS_SPOOF_ALARM = true ∨ a.nsat < 5 ∨ s.timeValid = false →
        t.flag F.GRX_STATUS_USABLE_A = false) ∧
      (∃ x, t.grx.sol = some x ∧ x.epoch = e ∧ x.offset = (ofAnt t.timeAnt m.a m.b).offset ∧ x.nsat = (ofAnt t.timeAnt a b).nsat ∧
        x.usable = (decide (5 ≤ x.nsat) && !t.flag F.GRX_STATUS_SPOOF_ALARM)) ∧ t.tai = s.tai ∧ t.nand = s.nand) ∧
  (∀ (s u : State) (m : RefMeas) (e : Nat) (a b : AntSet), s.works Blk.GRX → s.epochReady e → u = s.reported e m →
      a = u.antSet 0 e m.a m.chans → b = u.antSet 1 e m.b m.chans → s.expert Blk.GRX = false → s.grx.survey = none →
      u.failingChecks m a b (u.epochDds e a b).1 &&& s.fld F.GRX_SPOOF_CHK_EN = 0 →
      s.flag F.GRX_STATUS_SPOOF_ALARM = false → s.flag F.GRX_STATUS_BASE_ALARM = false → u.epochFix e a b = none → s.nand.heldA.isSome = true →
      s.biasOn 0 = true → s.flag (antShort 0) = false → s.flag (antOpen 0) = false → s.timeValid = true →
      m.a.clkOff.natAbs ≤ 1000000 → s.grx.aNamed = false → s.flag F.GRX_OUT_SET_EN = false → ∃ t, exec (.referenceEpoch m) s = .next t ∧
      (5 ≤ a.nsat → t.flag F.GRX_STATUS_USABLE_A = true ∧ t.fld F.GRX_STATUS_REF_ANT = 1 ∧ t.grx.aNamed = true) ∧
      (a.nsat < 5 → t.flag F.GRX_STATUS_USABLE_A = false ∧ t.fld F.GRX_STATUS_REF_ANT ≠ 1) ∧
      t.grx.setSeq.get 0 0 = (s.grx.setSeq.get 0 0 + 1) % 256 ∧ t.grx.setSeq.get 0 1 = (s.grx.setSeq.get 0 1 + 1) % 256 ∧
      (5 ≤ a.nsat → ∃ r, t.grx.ref = some r ∧ r.epoch = e ∧ r.ant = 1 ∧ r.sats = a.sats ∧ r.obs = a.obs ∧
        (s.blkOn Blk.SLV = true → r ∈ t.slv.refs))) ∧
  (∀ (s u : State) (m : RefMeas) (e : Nat) (a b : AntSet), s.works Blk.GRX → s.epochReady e → u = s.reported e m →
      a = u.antSet 0 e m.a m.chans → b = u.antSet 1 e m.b m.chans → s.flag F.GRX_STATUS_SPOOF_ALARM = false →
      u.failingChecks m a b (u.epochDds e a b).1 &&& s.fld F.GRX_SPOOF_CHK_EN ≠ 0 →
      ∃ t, exec (.referenceEpoch m) s = .next t ∧ t.flag F.GRX_SPOOF_ALARM = true ∧ t.pend Ev.GRX_SPOOF_ALARM = true ∧
      t.flag F.GRX_STATUS_USABLE_A = false ∧ t.flag F.GRX_STATUS_USABLE_B = false ∧ t.grx.survey = none) ∧
  (∀ (s : State) (m : RefMeas), (s.devClause < 100 * (s.devClause / 100) + 8 ∨ s.grx.lastEpoch = some (100 * (s.devClause / 100))) →
      exec (.referenceEpoch m) s = .next s) ∧
  (∀ s : State, s.works Blk.GRX → s.flag F.GRX_STATUS_SPOOF_ALARM = true → s.expert Blk.GRX = false →
      dueSince s s.grx.badAt (s.fld F.GRX_SPOOF_HOLD_S * nsPerSec) = true → ∃ t, exec .spoofAlarmClear s = .next t ∧
      t.flag F.GRX_STATUS_SPOOF_ALARM = false ∧ t.flag F.GRX_SPOOF_ALARM = false ∧ t.pend Ev.GRX_SPOOF_CLEAR = true ∧
      State.ReportFrame [R.GRX_STATUS, R.GRX_SPOOF] [] s t) ∧
  (∀ s : State, (s.flag F.GRX_STATUS_SPOOF_ALARM = false ∨ s.expert Blk.GRX = true ∨
      dueSince s s.grx.badAt (s.fld F.GRX_SPOOF_HOLD_S * nsPerSec) = false) → exec .spoofAlarmClear s = .next s) ∧
  (∀ (s : State) (w : Word), s.works Blk.GRX → s.flag F.GRX_STATUS_SPOOF_ALARM = true → F.GRX_SPOOF_ALARM.get w = 1 →
      10 ≤ F.GRX_SPOOF_HOLD_S.get w → s.fld F.GRX_SPOOF_FAILED &&& F.GRX_SPOOF_CHK_EN.get w = 0 → s.expert Blk.GRX = true →
      ∃ t, exec (.spoofAlarmWrite w) s = .next t ∧ t.flag F.GRX_STATUS_SPOOF_ALARM = false ∧ t.flag F.GRX_SPOOF_ALARM = false ∧
      t.fld F.GRX_SPOOF_HOLD_S = F.GRX_SPOOF_HOLD_S.get w ∧ t.fld F.GRX_SPOOF_CHK_EN = F.GRX_SPOOF_CHK_EN.get w ∧
      t.pend Ev.GRX_SPOOF_CLEAR = true ∧ State.ReportFrame [R.GRX_STATUS, R.GRX_SPOOF] [] s t) ∧
  (∀ (s : State) (w : Word), s.works Blk.GRX → 10 ≤ F.GRX_SPOOF_HOLD_S.get w →
      (s.expert Blk.GRX = false ∨ s.fld F.GRX_SPOOF_FAILED &&& F.GRX_SPOOF_CHK_EN.get w ≠ 0) → ∃ t, exec (.spoofAlarmWrite w) s = .next t ∧
      t.flag F.GRX_SPOOF_ALARM = s.flag F.GRX_SPOOF_ALARM ∧ t.fld F.GRX_SPOOF_CHK_EN = F.GRX_SPOOF_CHK_EN.get w ∧
      t.fld F.GRX_SPOOF_HOLD_S = F.GRX_SPOOF_HOLD_S.get w ∧ State.Frame [R.GRX_SPOOF] [] s t) ∧
  (∀ (s : State) (v : RefEpoch) (r : Nat), s.works Blk.GRX → s.grx.ref = some v → s.rtcmOn = true → s.onRate v.epoch = true →
      s.flag F.GRX_STATUS_SPOOF_ALARM = false → s.grx.posDue = false → s.flag F.EVT_RING_EN = false →
      s.flag F.LOG_CFG_OUT_EN = false → r = s.fld F.GRX_RTCM_RING → ∃ t, exec (.rtcmMsmOutput v.epoch) s = .next t ∧ t.grx.ref = none ∧
      (t.ring r).rseq = ((s.ring r).rseq + (s.msmList v).length) % 2 ^ 32) ∧
  (∀ (s : State) (v : RefEpoch), s.works Blk.GRX → s.grx.ref = some v →
      (s.rtcmOn = false ∨ s.onRate v.epoch = false ∨ s.flag F.GRX_STATUS_SPOOF_ALARM = true) →
      ∃ t, exec (.rtcmMsmOutput v.epoch) s = .next t ∧ t.grx = { s.grx with ref := none } ∧ State.Frame [] [.grx] s t) ∧
  (∀ (s : State) (epoch : Nat), s.grx.ref.all (fun v => v.epoch != epoch) = true → exec (.rtcmMsmOutput epoch) s = .next s) ∧
  (∀ (s : State) (r : Nat), s.works Blk.GRX → s.rtcmOn = true → dueSince s s.grx.stationAt (10 * nsPerSec) = true → s.grx.lastAnt = 0 →
      s.nand.heldA.isSome = true → s.flag F.EVT_RING_EN = false → s.flag F.LOG_CFG_OUT_EN = false → r = s.fld F.GRX_RTCM_RING →
      ∃ t, exec .rtcmStationOutput s = .next t ∧ (t.ring r).rseq = ((s.ring r).rseq + 2) % 2 ^ 32 ∧ t.grx.posDue = false ∧
      t.grx.stationAt = some s.mono) ∧
  (∀ s : State, (s.rtcmOn = false ∨ dueSince s s.grx.stationAt (10 * nsPerSec) = false) → exec .rtcmStationOutput s = .next s)

/-- Tracking channels, navigation records, notches and jamming levels (R154–R157, R161–R165, R174, R176). -/
def Obligations.Tracking : Prop :=
  (∀ (s : State) (views : List SatView) (c sig : Nat) (cs : List Nat) (v : SatView) (rest : List SatView), s.works Blk.GRX →
      s.expert Blk.GRX = false → s.chans.filter (fun c => (s.chan c).svid != 0) = [] → 1 ≤ sig → sig ≤ 16 → s.freeChans sig 0 = c :: cs →
      s.assignable views sig 0 = v :: rest → ∃ t, exec (.channelAssign views) s = .next t ∧
      t.chan c = { GrxChan.idle with state := 2, svid := v.svid, since := s.mono, lockAt := s.mono, elev := v.elev } ∧
      State.Frame [] [.grx] s t) ∧
  (∀ (s : State) (views : List SatView) (c : Nat), s.works Blk.GRX → s.expert Blk.GRX = false → c < 384 → s.chanSig c ≠ 0 → s.chanSig c ≤ 16 →
      s.chanFixed c = false → (s.chan c).svid ≠ 0 → (s.chan c).state < 3 → s.passed (s.chan c).since (60 * nsPerSec) = true →
      ∃ t, exec (.channelAssign views) s = .next t ∧ (t.chan c).svid ≠ (s.chan c).svid ∧ State.Frame [] [.grx] s t) ∧
  (∀ (s : State) (ch : Nat), s.works Blk.GRX → (s.chan ch).state = 2 → ∃ t, exec (.acquisitionComplete ch) s = .next t ∧
      t.chan ch = { s.chan ch with state := 3, lockAt := s.mono } ∧ (∀ k, k ≠ ch → t.chan k = s.chan k) ∧ State.Frame [] [.grx] s t) ∧
  (∀ (s : State) (ch : Nat) (lost : Bool), s.works Blk.GRX → 3 ≤ (s.chan ch).state → ∃ t, exec (.phaseLockLoss ch lost) s = .next t ∧
      t.chan ch = { s.chan ch with state := if lost then 2 else 3, since := if lost then s.mono else (s.chan ch).since, slip := true, lockAt := s.mono } ∧
      (∀ k, k ≠ ch → t.chan k = s.chan k) ∧ t.slotReg (s.chanCarr ch) R.LPE_SLOT_ACC = 0 ∧ t.slotReg (s.chanCode ch) R.LPE_SLOT_OUT = 0 ∧
      t.fld (grxCnt 3) = min (s.fld (grxCnt 3) + 1) (2 ^ 32 - 1) ∧
      State.Frame [R.LPE_SLOT_ACC, R.LPE_SLOT_OUT, R.LPE_SLOT_STAT, R.GRX_CNT + 12] [.grx, .lpe] s t) ∧
  (∀ (s : State) (r : NavRec), s.navPossible r = false → exec (.navRecord r) s = .next s) ∧
  (∀ (s : State) (r : NavRec), s.works Blk.GRX → s.navPossible r = true → s.flag F.GRX_OUT_NAV_EN = false → r.passed = false →
      ∃ t, exec (.navRecord r) s = .next t ∧ t.fld (grxCnt 1) = min (s.fld (grxCnt 1) + 1) (2 ^ 32 - 1) ∧ State.Frame [R.GRX_CNT + 4] [] s t) ∧
  (∀ (s : State) (r : NavRec), s.works Blk.GRX → s.flag F.GRX_OUT_NAV_EN = false → r.passed = true → r.fec = 2 →
      exec (.navRecord r) s = .next s) ∧
  (∀ (s : State) (r : NavRec), s.works Blk.GRX → s.navPossible r = true → s.flag F.GRX_OUT_NAV_EN = false → r.passed = true → r.fec < 2 →
      s.flag F.GRX_STATUS_SPOOF_ALARM = true → r.eph = none → ∃ t, exec (.navRecord r) s = .next t ∧
      t.grx = { s.grx with dataBad := s.grx.dataBad || s.timeOff r } ∧ State.Frame [] [.grx] s t) ∧
  (∀ (s : State) (r : NavRec) (e c : NavEph) (k : Nat), s.works Blk.GRX → s.navPossible r = true → s.flag F.GRX_OUT_NAV_EN = false →
      r.passed = true → r.fec < 2 → s.flag F.GRX_STATUS_SPOOF_ALARM = false → r.eph = some e → r.utc = none → k = sigSys r.sig * 64 + r.svid →
      s.grx.once.get none k = some c → c.issue = e.issue → c.content = e.content →
      ∃ t, exec (.navRecord r) s = .next t ∧ t.grx.once.get none k = none ∧
      (Config.orbitGapM e.content (s.grx.alm.get none k) ≤ 5000 →
        (t.grx.eph.get [] k).head? = some ⟨e.issue, e.content, e.fitFrom, e.fitTo, e.healthy, false, s.tai⟩ ∧ State.Frame [] [.grx] s t) ∧
      (5000 < Config.orbitGapM e.content (s.grx.alm.get none k) → t.fld (grxCnt 0) = min (s.fld (grxCnt 0) + 1) (2 ^ 32 - 1) ∧
        t.pend Ev.GRX_EPH_REJECT = true ∧ State.ReportFrame [R.GRX_CNT] [.grx] s t)) ∧
  (∀ (s : State) (r : NavRec) (e : NavEph) (g : GrxEph) (l : List GrxEph) (k : Nat), s.works Blk.GRX → s.navPossible r = true →
      s.flag F.GRX_OUT_NAV_EN = false → r.passed = true → r.fec < 2 → r.eph = some e → r.utc = none → k = sigSys r.sig * 64 + r.svid →
      s.grx.eph.get [] k = g :: l → g.issue = e.issue → g.content ≠ e.content → g.stored = false →
      ∃ t, exec (.navRecord r) s = .next t ∧ t.grx.dataBad = true ∧ State.ReportFrame [R.GRX_CNT] [.grx] s t) ∧
  (∀ (s : State) (r : NavRec) (o : Nat), s.works Blk.GRX → s.blkOn Blk.TIM = true → s.navPossible r = true → s.flag F.GRX_OUT_NAV_EN = false →
      r.passed = true → r.fec < 2 → s.flag F.GRX_STATUS_SPOOF_ALARM = false → r.eph = none → r.utc = some (o, none) → o < 256 →
      ∃ t, exec (.navRecord r) s = .next t ∧ t.fld F.TIM_UTC_OFFSET_S = o ∧ t.flag F.TIM_UTC_VALID = true ∧ t.nand.utc = t.reg R.TIM_UTC ∧
      State.Frame [R.TIM_UTC] [.nand, .grx] s t) ∧
  (∀ s : State, s.works Blk.GRX → ∃ t, exec .ephemerisSave s = .next t ∧
      t.nand.nav = s.grx.eph.filterMap (fun e => e.2.head?.map fun v => (e.1, some ⟨v.issue, v.content, v.fitFrom, v.fitTo, v.healthy⟩)) ∧
      t.nand.alm = s.grx.alm ∧ State.Frame [] [.nand] s t) ∧
  (∀ (s : State) (ant path : Nat) (p : SpecPeak), s.works Blk.GRX → s.expert Blk.GRX = false → s.fld F.GRX_JAM_NOTCH_THR ≤ p.db → p.kHz ≤ 2000 →
      inBand path p.offset = true →
      s.grx.peaks.get [] (pathKey ant path) = [(p.offset, 4)] →
      (∀ n ∈ List.range 4, s.grx.notches.get none (notchKey ant path n) = none) → ∃ t, exec (.spectrumEstimate ant path [p]) s = .next t ∧
      t.grx.notches.get none (notchKey ant path 0) = some p.notch ∧ t.pend Ev.GRX_NOTCH_CHANGE = true ∧
      State.ReportFrame [R.GRX_CNT + 12] [.grx] s t) ∧
  (∀ (s : State) (ant path : Nat) (peaks : List SpecPeak), s.works Blk.GRX → s.expert Blk.GRX = true →
      exec (.spectrumEstimate ant path peaks) s = .next s) ∧
  (∀ (s : State) (w : Word) (k : Nat), s.works Blk.GRX → s.expert Blk.GRX = true →
      k = notchKey (s.fld F.GRX_NOTCH_IDX_ANT) (s.fld F.GRX_NOTCH_IDX_PATH) (s.fld F.GRX_NOTCH_IDX_NOTCH) →
      F.GRX_NOTCH_SET_ACTIVE.get w = 1 → (signedOf 13 (F.GRX_NOTCH_SET_OFFSET.get w)).natAbs ≤ 3900 → ∃ t x, exec (.notchSetWrite w) s = .next t ∧
      t.grx.notches.get none k = some ⟨signedOf 13 (F.GRX_NOTCH_SET_OFFSET.get w), F.GRX_NOTCH_SET_WIDTH.get w, x, none⟩ ∧
      t.pend Ev.GRX_NOTCH_CHANGE = true ∧ State.ReportFrame [R.GRX_NOTCH_SET, R.GRX_CNT + 12] [.grx, .freeCtr] s t) ∧
  (∀ (s : State) (w : Word), s.works Blk.GRX → s.expert Blk.GRX = false →
      (signedOf 13 (F.GRX_NOTCH_SET_OFFSET.get w)).natAbs ≤ 3900 → ∃ t, exec (.notchSetWrite w) s = .next t ∧
      State.Frame [R.GRX_NOTCH_SET] [] s t) ∧
  (∀ (s : State) (ant path db most : Nat) (atLimit : Bool), s.works Blk.GRX → ant < 2 → path < 3 →
      s.fld (jamFld ant path) < jamLevel db atLimit → ∃ t, exec (.jamLevelChange ant path db most atLimit) s = .next t ∧
      t.fld (jamFld ant path) = jamLevel db atLimit ∧ t.pend Ev.GRX_JAM_LEVEL = true ∧ t.fld F.GRX_JAM_NOTCH_THR = s.fld F.GRX_JAM_NOTCH_THR ∧
      State.ReportFrame [R.GRX_JAM] [.grx] s t) ∧
  (∀ (s : State) (ant path db most : Nat), s.works Blk.GRX → ant < 2 → path < 3 → jamLevel db false ≤ s.fld (jamFld ant path) →
      ∃ t, exec (.jamLevelChange ant path db most false) s = .next t ∧
      t.fld (jamFld ant path) = min (s.fld (jamFld ant path)) (max (jamLevel db false) (jamLevel (most + 1) false)) ∧
      State.ReportFrame [R.GRX_JAM] [.grx] s t)

/-! ## SLV (R112–R146) -/

/-- Intake, references, streams, matching and lane starts (R112, R115, R117, R132, R139–R143, R230). -/
def Obligations.SolveIntake : Prop :=
  (∀ (s : State) (rx : AirRx) (mi : Nat) (p : List Byte), s.works Blk.AIR → s.slvSolves = true → (s.airFrom Ft.OBS rx).2 = some mi →
      p = (s.rxFrame rx).payload → s.bundleOk mi p = true → s.slv.intake.find? (fun c => c.mi == mi) = none →
      ∃ t b, exec (.obsFrameRx rx) s = .next t ∧ t.slv.intake = s.slv.intake ++ [b] ∧ b.mi = mi ∧ b.epoch = Bytes.at' p 4 5 ∧
      b.restart = bitOf (Bytes.at' p 2 1) 0 ∧ b.static = bitOf (Bytes.at' p 2 1) 1 ∧ b.bseq = Bytes.at' p 13 1 ∧ b.link = false ∧
      b.matched = none ∧ some b.obs = (satBlocks (Bytes.at' p 3 1) (p.drop 16)).map (bundleObs (signedOf 32 (Bytes.at' p 9 4))) ∧
      (t.airM mi).bundleLen = p.length ∧
      (s.slv.intake.length + 1 < 4096 → s.slv.intake.length + 1 ≤ t.fld F.SLV_INTAKE_HIGHWATER)) ∧
  (∀ (s : State) (rx : AirRx) (mi : Nat), s.works Blk.AIR → s.slvSolves = true → (s.airFrom Ft.OBS rx).2 = some mi →
      s.bundleOk mi (s.rxFrame rx).payload = false → ∃ t, exec (.obsFrameRx rx) s = .next t ∧ t.slv.intake = s.slv.intake ∧
      t.fld (slvCnt 3) = min (s.fld (slvCnt 3) + 1) (2 ^ 32 - 1) ∧
      (dueSince s s.slv.lastInvalid nsPerSec = true → t.pend Ev.SLV_BUNDLE_INVALID = true)) ∧
  (∀ (s : State) (rx : AirRx), s.slvSolves = false → ∃ t, exec (.obsFrameRx rx) s = .next t ∧ t.slv.intake = s.slv.intake ∧
      t.slv.filters = s.slv.filters ∧ t.slv.last = s.slv.last) ∧
  (∀ (s : State) (at' len : Nat) (last : Bool) (msg : List Byte) (m : MsmRead) (epoch : Nat), s.works Blk.SLV → s.isStandby = false → (s.auxTake 4 at' len last).2 = some msg →
      msmRead msg = some m → epoch = msmClause m.sys m.tow s.devClause s.siteEpoch → m.station < 2048 → s.slvValid m.station = true →
      s.flagB m.station F.SLV_MACH_CFG_LINK_IN = true → epoch % 100 = 0 → m.more = false →
      s.slv.intake.find? (fun c => c.mi == m.station) = none → ∃ t b, exec (.linkInRx at' len last) s = .next t ∧ b.bseq < 256 ∧
      t.slv.intake = s.slv.intake ++ [b] ∧ b.mi = m.station ∧ b.epoch = epoch ∧ b.link = true ∧ b.restart = false ∧ b.matched = none ∧
      b.obs = joinObs (s.slv.links.get none m.station) epoch m.obs) ∧
  (∀ (s : State) (at' len : Nat) (last : Bool) (msg : List Byte) (m : MsmRead) (epoch : Nat), s.works Blk.SLV → s.isStandby = false → (s.auxTake 4 at' len last).2 = some msg →
      msmRead msg = some m → epoch = msmClause m.sys m.tow s.devClause s.siteEpoch → m.station < 2048 → s.slvValid m.station = true →
      s.flagB m.station F.SLV_MACH_CFG_LINK_IN = true → epoch % 100 = 0 → m.more = true → ∃ t, exec (.linkInRx at' len last) s = .next t ∧
      t.slv.intake = s.slv.intake ∧
      t.slv.links.get none m.station = some (epoch, joinObs (s.slv.links.get none m.station) epoch m.obs)) ∧
  (∀ (s : State) (at' len : Nat) (last : Bool), s.works Blk.SLV → s.isStandby = false → (s.auxTake 4 at' len last).2 = none → exec (.linkInRx at' len last) s = .next s) ∧
  (∀ (s : State) (epoch : Nat), s.works Blk.SLV → s.slv.refs.any (fun r => r.epoch == epoch && r.usable) = false → s.slv.mode = .grx →
      epoch + 12 ≤ s.devClause → s.fld F.SLV_PRED_PRED_MS ≠ 0 → ∃ t, exec (.referenceSetTimeout epoch) s = .next t ∧
      t.slv = { s.slv with mode := .predicted } ∧ t.pend Ev.SLV_REF_PREDICT = true ∧ State.ReportFrame [] [.slv] s t) ∧
  (∀ (s : State) (epoch : Nat), s.works Blk.SLV → s.slv.refs.any (fun r => r.epoch == epoch && r.usable) = true →
      exec (.referenceSetTimeout epoch) s = .next s) ∧
  (∀ (s : State) (at' : Nat), s.works Blk.SLV → s.slv.mode = .predicted → s.slv.lastOkAt = some at' →
      s.passed at' (s.fld F.SLV_PRED_PRED_MS * nsPerMs) = true → s.auxFallback = none → ∃ t, exec .predictionLimit s = .next t ∧
      t.slv = { s.slv with mode := .none } ∧ t.pend Ev.SLV_REF_NONE = true ∧ State.ReportFrame [] [.slv] s t) ∧
  (∀ (s : State) (at' n : Nat), s.works Blk.SLV → s.slv.mode = .predicted → s.slv.lastOkAt = some at' →
      s.passed at' (s.fld F.SLV_PRED_PRED_MS * nsPerMs) = true → s.auxFallback = some n → ∃ t, exec .predictionLimit s = .next t ∧
      t.slv = { s.slv with mode := .fallback n } ∧ t.pend Ev.SLV_AUX_FALLBACK = true ∧ State.ReportFrame [] [.slv] s t) ∧
  (∀ (s : State) (n at' len : Nat) (last : Bool) (msg : List Byte) (m : MsmRead) (epoch : Nat), s.works Blk.SLV → s.isStandby = false → s.auxLane = true → n < 4 →
      (s.auxTake n at' len last).2 = some msg → msmRead msg = some m → m.station = s.fldB n F.SLV_AUX_CFG_STATION → m.more = false →
      epoch = msmClause m.sys m.tow s.devClause s.siteEpoch → ∃ t, exec (.auxRtcmRx n at' len last) s = .next t ∧
      (t.auxSt n).live = (s.auxSt n).pos.isSome ∧ (t.auxSt n).at' = some s.mono ∧ (t.auxSt n).epochs.any (fun e => e.epoch == epoch) = true ∧
      t.fldB n F.SLV_AUX_STAT_LAT_MS = min 65535 (s.devClause - epoch) ∧
      (s.slv.mode = .fallback n → t.slv.lastOk = some (max (s.slv.lastOk.getD 0) epoch))) ∧
  (∀ (s : State) (n at' len : Nat) (last : Bool) (msg : List Byte) (m : MsmRead) (epoch : Nat), s.works Blk.SLV → s.isStandby = false → s.auxLane = true → n < 4 →
      (s.auxTake n at' len last).2 = some msg → msmRead msg = some m → m.station = s.fldB n F.SLV_AUX_CFG_STATION → m.more = true →
      epoch = msmClause m.sys m.tow s.devClause s.siteEpoch → ∃ t, exec (.auxRtcmRx n at' len last) s = .next t ∧
      t.auxSt n = { s.auxSt n with part := some (epoch, joinObs (s.auxSt n).part epoch m.obs) } ∧ t.slv.mode = s.slv.mode) ∧
  (∀ (s : State) (n at' len : Nat) (last : Bool) (station : Nat) (msg : List Byte) (p : List Int), s.works Blk.SLV → s.isStandby = false → s.auxLane = true → n < 4 →
      (s.auxTake n at' len last).2 = some msg → stationRead msg = some (station, p) → station = s.fldB n F.SLV_AUX_CFG_STATION →
      ∃ t, exec (.auxRtcmRx n at' len last) s = .next t ∧ (t.auxSt n).pos = some p ∧ (t.auxSt n).epochs = (s.auxSt n).epochs ∧ t.slv.mode = s.slv.mode) ∧
  (∀ (s : State) (n at' : Nat), s.works Blk.SLV → (s.auxSt n).live = true → (s.auxSt n).at' = some at' → s.passed at' (2 * nsPerSec) = true →
      s.slv.mode ≠ .fallback n → ∃ t, exec (.auxStreamStale n) s = .next t ∧ t.auxSt n = { s.auxSt n with live := false, epochs := [] } ∧
      t.slv.mode = s.slv.mode ∧ (s.flagB n F.SLV_AUX_CFG_EN = true → t.pend Ev.SLV_AUX_STALE = true) ∧ State.ReportFrame [] [.slv] s t) ∧
  (∀ (s : State) (mi : Nat) (b : Bundle), s.works Blk.SLV → s.isStandby = false →
      s.slv.intake.find? (fun b => b.mi == mi && b.matched.isNone) = some b → s.bundleStale b = true → ∃ t, exec (.epochMatch mi) s = .next t ∧
      t.slv = { s.slv with intake := s.slv.intake.erase b } ∧ t.fld (slvCnt 0) = min (s.fld (slvCnt 0) + 1) (2 ^ 32 - 1) ∧
      State.Frame [R.SLV_CNT] [.slv] s t) ∧
  (∀ (s : State) (mi : Nat) (b : Bundle), s.works Blk.SLV → s.isStandby = false →
      s.slv.intake.find? (fun b => b.mi == mi && b.matched.isNone) = some b → s.bundleStale b = false → b.epoch + 2000 < s.devClause →
      ∃ t, exec (.epochMatch mi) s = .next t ∧ t.slv = { s.slv with intake := s.slv.intake.erase b } ∧
      t.fld (slvCnt 1) = min (s.fld (slvCnt 1) + 1) (2 ^ 32 - 1) ∧ State.Frame [R.SLV_CNT + 4] [.slv] s t) ∧
  (∀ (s : State) (mi : Nat) (b : Bundle) (r : RefEpoch), s.works Blk.SLV → s.isStandby = false →
      s.slv.intake.find? (fun b => b.mi == mi && b.matched.isNone) = some b → s.bundleStale b = false → s.devClause ≤ b.epoch + 2000 →
      s.fldB b.mi F.SLV_MACH_CFG_REFSEL = 0 → s.slv.refs.find? (fun r => r.epoch == b.epoch && r.usable) = some r →
      ∃ t, exec (.epochMatch mi) s = .next t ∧
      t.slv = { s.slv with intake := s.slv.intake.replace b { b with matched := some ⟨r.ant - 1, false, 0⟩, ref := some r } } ∧ State.Frame [] [.slv] s t) ∧
  (∀ (s : State) (lane : Nat) (b : Bundle), s.works Blk.SLV → s.isStandby = false → s.nextBundle = some b → s.lanesAwake.contains lane = true →
      (s.lane lane).busy = none → ∃ t, exec (.laneStart lane) s = .next t ∧ t.slv.intake = s.slv.intake.erase b ∧
      t.slv.retry = s.slv.retry.erase b ∧
      t.lane lane = { s.lane lane with busy := some { b with restart := b.restart || (s.slvFilter b.mi).reset } } ∧
      t.slvFilter b.mi = (s.slvFilter b.mi).begin b ∧
      ((b.restart || (s.slvFilter b.mi).reset) = true → b.noSearch = false → t.pend Ev.SLV_FILTER_RESET = true) ∧
      (b.epoch + 64 < s.devClause → t.fld (slvCnt 4) = min (s.fld (slvCnt 4) + 1) (2 ^ 32 - 1) ∧ t.pend Ev.SLV_LATE_START = true) ∧
      State.ReportFrame [R.SLV_CNT + 16] [.slv] s t) ∧
  (∀ (s : State) (lane : Nat), s.works Blk.SLV → (s.nextBundle = none ∨ (s.lane lane).busy.isSome = true) → exec (.laneStart lane) s = .next s)

/-- Outcomes, quality classes, lane faults, rates, the plan, lanes asleep and `SLV_CMD` (R122–R129, R134–R138, R145, R146). The
time a lane takes is an operand; the rounding of P is a free value. -/
def Obligations.SolveOutcomes : Prop :=
  (∀ (s : State) (lane : Nat) (b : Bundle) (u : RefUse) (re : RefEpoch) (r : FloatSol) (v : LaneTime) (g : SlvFilter), s.works Blk.SLV →
      s.isStandby = false → (s.lane lane).busy = some b → b.void = false → s.slvValid b.mi = true → b.matched = some u → b.ref = some re →
      (s.slvFilter b.mi).float s.laneCfg b u.src re (siteEnu s.siteOrigin re.pos) = some r → g = (r.fixing s.laneCfg b v.searchUs).1 →
      ∃ t o, exec (.solveComplete lane v) s = .next t ∧
      (t.lane lane).busy = none ∧ t.slv.last.get none b.mi = some o ∧ o.epoch = b.epoch ∧ o.fix = g.fix ∧ o.nfix = g.fixed.length ∧
      o.ratio = g.ratio ∧ o.nsat = r.sats.length ∧ o.nstate = g.lay.size ∧ o.solveUs = v.solveUs ∧ o.refSrc = u.src ∧
      o.e = wholeOf (g.output.x.getD 0 0) ∧ o.n = wholeOf (g.output.x.getD 1 0) ∧ o.u = wholeOf (g.output.x.getD 2 0) ∧
      o.pred = u.pred ∧ o.h3 = s.solH3 g.output u ∧ s.fld F.SLV_QBOUND1_H3_FLOOR ≤ o.h3 ∧
      (o.qclass = 0 → o.fix = 3 ∧ u.pred = false ∧ o.h3 ≤ s.fld F.SLV_QBOUND0_H3_Q0 ∧ o.qreason = 0) ∧
      (o.qclass = 1 → 2 ≤ o.fix ∧ o.h3 ≤ s.fld F.SLV_QBOUND0_H3_Q1) ∧ (o.qclass = 2 → 1 ≤ o.fix ∧ o.h3 ≤ s.fld F.SLV_QBOUND1_H3_Q2) ∧
      (o.qclass ≠ 0 → o.qreason ≠ 0) ∧ (o.qclass ≠ 3 → s.blkOn Blk.CLS = true → t.slv.toCheck = s.slv.toCheck ++ [o]) ∧
      (t.slvFilter b.mi).lastEpoch = some b.epoch ∧ t.slv.outcomes = s.slv.outcomes + 1) ∧
  (∀ (s : State) (lane : Nat) (b : Bundle) (u : RefUse) (v : LaneTime), s.works Blk.SLV → s.isStandby = false → (s.lane lane).busy = some b →
      b.void = false → s.slvValid b.mi = true → b.matched = some u → b.ref = none → ∃ t, exec (.solveComplete lane v) s = .next t ∧
      (t.lane lane).busy = none ∧ t.slv.last.get none b.mi = some (noSolution b u lane 1 v.solveUs (s.slvFilter b.mi)) ∧
      t.slv.toCheck = s.slv.toCheck ∧ t.slvFilter b.mi = { s.slvFilter b.mi with lastEpoch := some b.epoch }) ∧
  (∀ (s : State) (lane : Nat) (b : Bundle) (u : RefUse) (re : RefEpoch) (v : LaneTime), s.works Blk.SLV → s.isStandby = false →
      (s.lane lane).busy = some b → b.void = false → s.slvValid b.mi = true → b.matched = some u → b.ref = some re →
      geometryOk (sdsOf b.obs re (solutionSats b.obs re (s.fld F.SLV_MODEL_ELEV_MASK))) = false →
      ∃ t, exec (.solveComplete lane v) s = .next t ∧
      (t.lane lane).busy = none ∧ t.slv.last.get none b.mi = some (noSolution b u lane 2 v.solveUs (s.slvFilter b.mi)) ∧
      t.slv.toCheck = s.slv.toCheck ∧ t.slvFilter b.mi = { s.slvFilter b.mi with lastEpoch := some b.epoch }) ∧
  (∀ (s : State) (lane : Nat) (b : Bundle) (v : LaneTime), s.works Blk.SLV → s.isStandby = false → (s.lane lane).busy = some b →
      (b.void = true ∨ s.slvValid b.mi = false) → ∃ t, exec (.solveComplete lane v) s = .next t ∧
      t.lane lane = { s.lane lane with busy := none, idleAt := s.mono } ∧ t.slv.last = s.slv.last ∧ State.Frame [] [.slv] s t) ∧
  (∀ (s : State) (lane : Nat) (v : LaneTime), s.works Blk.SLV → s.isStandby = false → (s.lane lane).busy = none →
      exec (.solveComplete lane v) s = .next s) ∧
  (∀ (s : State) (lane : Nat) (b : Bundle), s.works Blk.SLV → lane < 32 → s.pwr.outOfService.contains (TestUnit.lane, lane) = false →
      (s.lane lane).busy = some b → b.void = false → ∃ t, exec (.laneFault lane .residue) s = .next t ∧
      t.pwr.outOfService.contains (TestUnit.lane, lane) = true ∧ t.lane lane = SlvLane.asleep ∧
      t.slv.retry = s.slv.retry ++ [{ b with noSearch := true }] ∧ t.pend Ev.SLV_LANE_FAULT = true ∧
      t.fld F.SLV_ECC_UNCORRECTED = s.fld F.SLV_ECC_UNCORRECTED) ∧
  (∀ (s : State) (lane : Nat), s.works Blk.SLV → lane < 32 → s.pwr.outOfService.contains (TestUnit.lane, lane) = false →
      (s.lane lane).busy = none → ∃ t, exec (.laneFault lane .scratch) s = .next t ∧
      t.pwr.outOfService.contains (TestUnit.lane, lane) = true ∧ t.lane lane = SlvLane.asleep ∧ t.slv.retry = s.slv.retry ∧
      t.pend Ev.SLV_LANE_FAULT = true ∧ t.fld F.SLV_ECC_UNCORRECTED = min (s.fld F.SLV_ECC_UNCORRECTED + 1) 65535) ∧
  (∀ (s : State) (lane : Nat), s.works Blk.SLV → s.pwr.outOfService.contains (TestUnit.lane, lane) = true →
      exec (.laneFault lane .residue) s = .next s) ∧
  (∀ (s : State) (n : Nat), s.works Blk.SLV → ∃ t, exec (.laneFault n .corrected) s = .next t ∧
      t.fld F.SLV_ECC_CORRECTED = min (s.fld F.SLV_ECC_CORRECTED + 1) 65535 ∧ State.Frame [R.SLV_ECC] [] s t) ∧
  (∀ (s : State) (n : Nat), s.works Blk.SLV → ∃ t, exec (.laneFault n .cache) s = .next t ∧
      t.fld F.SLV_ECC_UNCORRECTED = min (s.fld F.SLV_ECC_UNCORRECTED + 1) 65535 ∧ State.Frame [R.SLV_ECC] [] s t) ∧
  (∀ (s : State) (mi : Nat), s.works Blk.SLV → ∃ t, exec (.laneFault mi .stored) s = .next t ∧
      (t.slvFilter mi).est = ⟨[], []⟩ ∧ (t.slvFilter mi).fix = 0 ∧ (∀ k, k ≠ mi → t.slvFilter k = s.slvFilter k) ∧
      t.pend Ev.SLV_FILTER_RESET = true ∧ State.ReportFrame [R.SLV_ECC] [.slv] s t) ∧
  (∀ (s : State) (mi : Nat), s.works Blk.SLV → s.isStandby = false → s.slvMis = [mi] → (s.slvRate mi).req = 0 → s.rateWant mi ≠ 0 →
      ∃ t, exec .rateRecompute s = .next t ∧ (t.slvRate mi).req = s.rateWant mi) ∧
  (∀ (s : State) (mi k since : Nat), s.works Blk.SLV → s.isStandby = false → s.expert Blk.SLV = false → s.slvMis = [mi] → s.rateWant mi = k →
      (s.slvRate mi).req < k → (s.slvRate mi).req ≠ 0 → (s.slvRate mi).larger = some (k, since) → s.passed since (5 * nsPerSec) = false →
      exec .rateRecompute s = .next s) ∧
  (∀ s : State, s.works Blk.SLV → s.isStandby = false → s.expert Blk.SLV = false → ∃ t, exec .planRecompute s = .next t ∧
      t.fld F.SLV_RATE_PLANNED = (Config.roundQuot s.planned 2520).toNat % 65536 ∧
      t.slv.awakeWant = min s.lanesIn.length (ceilDiv s.planned (2520 * s.fld F.SLV_LANES_PLAN_RATE) + s.fld F.SLV_LANES_RESERVE)) ∧
  (∀ (s : State) (lane : Nat), s.works Blk.SLV → (s.lane lane).awake = true → s.lanesWanted.contains lane = false → (s.lane lane).busy = none →
      s.passed (s.lane lane).idleAt (10 * nsPerSec) = true → ∃ t, exec (.laneSleep lane) s = .next t ∧ t.lane lane = SlvLane.asleep ∧
      t.pwr.laneLeaves = s.pwr.laneLeaves.erase lane) ∧
  (∀ (s : State) (lane : Nat), s.works Blk.SLV → (s.lanesWanted.contains lane = true ∨ (s.lane lane).busy.isSome = true) →
      exec (.laneSleep lane) s = .next s) ∧
  (∀ (s : State) (at' : Nat), s.works Blk.SLV → s.slv.refusedAt = some at' → s.passed at' (100 * nsPerMs) = true →
      ∃ t, exec .laneLeaveRetry s = .next t ∧
      (t.slv.refusedAt = none ∨ (t.slv.refusedAt = some s.mono ∧ t.pend Ev.SLV_LEAVE_REFUSED = true))) ∧
  (∀ (s : State) (mi : Nat), s.works Blk.SLV → s.isStandby = false → ∃ t, exec (.resetFilter mi) s = .next t ∧
      t.slvFilter mi = { s.slvFilter mi with reset := true } ∧ (∀ k, k ≠ mi → t.slvFilter k = s.slvFilter k) ∧ State.Frame [] [.slv] s t) ∧
  (∀ (s : State) (mi : Nat), s.works Blk.SLV → s.isStandby = false → ∃ t, exec (.refix mi) s = .next t ∧
      t.slvFilter mi = { s.slvFilter mi with refix := true } ∧ (∀ k, k ≠ mi → t.slvFilter k = s.slvFilter k) ∧ State.Frame [] [.slv] s t) ∧
  (∀ (f : SlvFilter) (b : Bundle), f.reset = true → (f.begin b).fix ≤ 1 ∧ (f.begin b).lastSearch = none ∧ (f.begin b).reset = false)

/-! ## RHL (R250–R267) -/

/-- Bring-up and loss of a link to a radio head (R255, R256, R260–R262, R265). TAGs and the rounding of the delay are free values. -/
def Obligations.HeadLinks : Prop :=
  (∀ (s : State) (l : Nat), s.works Blk.RHL → l < 2 → s.linkAuto l = true → (s.rhLink l).state = 0 → s.passed (s.rhLink l).since nsPerSec = true →
      ∃ t, exec (.linkRetry l) s = .next t ∧ t.rhLink l = { s.rhLink l with state := 1, since := s.mono } ∧
      (∀ k, k ≠ l → t.rhLink k = s.rhLink k) ∧ State.Frame [] [.rhl] s t) ∧
  (∀ (s : State) (l : Nat), s.works Blk.RHL → l < 2 → s.expert Blk.RHL = true → (s.rhLink l).state = 0 → ∃ t, exec (.bringUp l) s = .next t ∧
      t.rhLink l = { s.rhLink l with state := 1, since := s.mono } ∧ State.Frame [] [.rhl] s t) ∧
  (∀ (s : State) (l : Nat), s.works Blk.RHL → (s.expert Blk.RHL = false ∨ (s.rhLink l).state ≠ 0) → exec (.bringUp l) s = .next s) ∧
  (∀ (s : State) (l : Nat), s.works Blk.RHL → (s.rhLink l).state = 1 → ∃ t x, exec (.linkAligned l) s = .next t ∧ x < 65536 ∧
      (t.rhLink l).state = 2 ∧ (t.rhLink l).since = s.mono ∧ (t.rhLink l).answers = (s.rhLink l).answers ++ [(6, x)] ∧
      t.out = .head l [s.idleWord l ++ headBlock BlockType.CTRL 0 s.stamp (Bytes.padTo ([6#8, 0#8] ++ Bytes.ofNat 2 x) 16)] :: s.out ∧ State.Frame [] [.rhl, .out, .freeCtr] s t) ∧
  (∀ (s : State) (l n st h c : Nat) (p : List Byte), s.works Blk.RHL → (s.rhLink l).state = 2 →
      readBlock (blockOf h st p c) = some (BlockType.STATUS, n, st, p) → Bytes.at' p 0 1 = 0x90 →
      (s.strUsed l).all (fun k => decide (k < Bytes.at' p 8 1) && bandCovers (Bytes.at' p 9 1) (s.strCentre l k)) = true →
      ∃ t, exec (.headCapsRx l h st p c) s = .next t ∧ (t.rhLink l).state = 3 ∧ t.fldB l F.RHL_CAPS_STREAMS = Bytes.at' p 8 1 % 8 ∧
      t.fldB l F.RHL_CAPS_BANDS = Bytes.at' p 9 1 ∧ t.fldB l F.RHL_HEAD_ID_ID = Bytes.at' p 4 4 ∧
      t.fldB l F.RHL_CAPS_MAXREF = Bytes.at' p 10 2 ∧ State.Frame [R.RHL_HEAD_ID, R.RHL_CAPS] [.rhl, .out, .freeCtr] s t) ∧
  (∀ (s : State) (l n st h c : Nat) (p : List Byte), s.works Blk.RHL → (s.rhLink l).state = 2 →
      readBlock (blockOf h st p c) = some (BlockType.STATUS, n, st, p) → Bytes.at' p 0 1 = 0x90 →
      (s.strUsed l).all (fun k => decide (k < Bytes.at' p 8 1) && bandCovers (Bytes.at' p 9 1) (s.strCentre l k)) = false →
      ∃ t, exec (.headCapsRx l h st p c) s = .next t ∧ (t.rhLink l).state = 0 ∧ (t.rhLink l).since = s.mono ∧
      t.fldB l (rhlCnt 2) = min (s.fldB l (rhlCnt 2) + 1) (2 ^ 32 - 1) ∧ t.pend Ev.RHL_HEAD_UNFIT = true) ∧
  (∀ (s : State) (l n st h c txAt rxAt : Nat) (p : List Byte), s.works Blk.RHL → (s.rhLink l).state = 3 →
      readBlock (blockOf h st p c) = some (BlockType.STATUS, n, st, p) → Bytes.at' p 0 1 = 0x85 → Bytes.at' p 4 1 = 0 →
      (s.rhLink l).answers.contains (5 + 256 * Bytes.at' p 1 1, Bytes.at' p 2 2) = true → (s.rhLink l).delays.length < 7 →
      ∃ t, exec (.headStatusRx l h st p c txAt rxAt) s = .next t ∧ (t.rhLink l).state = 3 ∧
      (t.rhLink l).delays = (s.rhLink l).delays ++ [rxAt - txAt - Bytes.at' p 8 4] ∧ State.Frame [] [.rhl, .out, .freeCtr] s t) ∧
  (∀ (s : State) (l n st h c txAt rxAt : Nat) (p : List Byte), s.works Blk.RHL → (s.rhLink l).state = 3 →
      readBlock (blockOf h st p c) = some (BlockType.STATUS, n, st, p) → Bytes.at' p 0 1 = 0x85 → Bytes.at' p 4 1 = 0 →
      (s.rhLink l).answers.contains (5 + 256 * Bytes.at' p 1 1, Bytes.at' p 2 2) = true → (s.rhLink l).delays.length = 7 → s.strUsed l = [] →
      (s.rhLink l).answers.length = 1 → ∃ t, exec (.headStatusRx l h st p c txAt rxAt) s = .next t ∧ (t.rhLink l).state = 5 ∧
      t.fldB l F.RHL_DELAY_DELAY_NS = (max 0 (Config.roundQuot (((s.rhLink l).delays ++ [rxAt - txAt - Bytes.at' p 8 4]).sum : Nat) 16)).toNat % 65536 ∧
      t.pend Ev.RHL_LINK_UP = true) ∧
  (∀ (s : State) (l n st h c txAt rxAt op : Nat) (p : List Byte), s.works Blk.RHL → (s.rhLink l).state = 4 →
      readBlock (blockOf h st p c) = some (BlockType.STATUS, n, st, p) → Bytes.at' p 0 1 = op + 128 → op ≠ 5 → Bytes.at' p 4 1 = 0 →
      (s.rhLink l).answers = [(op + 256 * Bytes.at' p 1 1, Bytes.at' p 2 2)] → ∃ t, exec (.headStatusRx l h st p c txAt rxAt) s = .next t ∧
      t.rhLink l = { s.rhLink l with state := 5, since := s.mono, crcRun := 0, answers := [], alarmAt := s.mono } ∧
      t.pend Ev.RHL_LINK_UP = true ∧ State.ReportFrame [] [.rhl] s t) ∧
  (∀ (s : State) (l n st h c txAt rxAt op : Nat) (p : List Byte), s.works Blk.RHL → (s.rhLink l).state = 4 →
      readBlock (blockOf h st p c) = some (BlockType.STATUS, n, st, p) → Bytes.at' p 0 1 = op + 128 → op ≠ 5 → Bytes.at' p 4 1 ≠ 0 →
      (s.rhLink l).answers.contains (op + 256 * Bytes.at' p 1 1, Bytes.at' p 2 2) = true → ∃ t, exec (.headStatusRx l h st p c txAt rxAt) s = .next t ∧
      (t.rhLink l).state = 0 ∧ t.pend Ev.RHL_HEAD_UNFIT = true ∧ t.fldB l (rhlCnt 2) = min (s.fldB l (rhlCnt 2) + 1) (2 ^ 32 - 1)) ∧
  (∀ (s : State) (l ms : Nat), s.works Blk.RHL → linkBound (s.rhLink l).state = some ms → s.passed (s.rhLink l).since (ms * nsPerMs) = true →
      ∃ t, exec (.linkStateTimeout l) s = .next t ∧ (t.rhLink l).state = 0 ∧ (t.rhLink l).since = s.mono ∧
      t.fldB l (rhlCnt 2) = min (s.fldB l (rhlCnt 2) + 1) (2 ^ 32 - 1) ∧ State.Frame [R.RHL_CNT + 8] [.rhl, .out] s t) ∧
  (∀ (s : State) (l cause codeErrors : Nat), s.works Blk.RHL → s.rhUp l = true → 
      (cause = 1 ∨ (cause = 4 ∧ s.passed (s.rhLink l).alarmAt (5 * nsPerMs) = true) ∨ (cause = 2 ∧ 64 ≤ codeErrors)) →
      ∃ t, exec (.linkDown l cause codeErrors) s = .next t ∧ (t.rhLink l).state = 0 ∧ (t.rhLink l).since = s.mono ∧
      t.fldB l F.RHL_LINK_STAT_CAUSE = cause ∧ t.fldB l (rhlCnt 0) = min (s.fldB l (rhlCnt 0) + codeErrors) (2 ^ 32 - 1) ∧
      t.fldB l (rhlCnt 2) = min (s.fldB l (rhlCnt 2) + 1) (2 ^ 32 - 1) ∧ t.pend Ev.RHL_LINK_DOWN = true ∧
      State.ReportFrame [R.RHL_CNT, R.RHL_CNT + 8, R.RHL_LINK_STAT] [.rhl] s t) ∧
  (∀ (s : State) (l codeErrors : Nat), s.works Blk.RHL → codeErrors < 64 → ∃ t, exec (.linkDown l 2 codeErrors) s = .next t ∧
      t.fldB l (rhlCnt 0) = min (s.fldB l (rhlCnt 0) + codeErrors) (2 ^ 32 - 1) ∧ State.Frame [R.RHL_CNT] [] s t) ∧
  (∀ (s : State) (l : Nat), s.works Blk.RHL → l < 2 → (s.rhLink l).state ≠ 0 → ∃ t, exec (.linkDownCmd l) s = .next t ∧
      (t.rhLink l).state = 0 ∧ t.fldB l F.RHL_LINK_STAT_CAUSE = 6 ∧ t.pend Ev.RHL_LINK_DOWN = true ∧
      State.ReportFrame [R.RHL_CNT + 8, R.RHL_LINK_STAT] [.rhl] s t)

/-- Blocks, alarms, echoes and receive gain (R252–R256, R261–R263, R265). The size of a gain step is a free value from 1 to 6. -/
def Obligations.HeadTraffic : Prop :=
  (∀ (s : State) (l c : Nat) (b : List Byte), s.works Blk.RHL → readBlock (b ++ Bytes.ofNat 4 c) = none → s.rhUp l = true → 7 ≤ (s.rhLink l).crcRun →
      ∃ t, exec (.iqBlockRx l b c) s = .next t ∧
      (t.rhLink l).state = 0 ∧ t.fldB l F.RHL_LINK_STAT_CAUSE = 3 ∧ t.fldB l (rhlCnt 1) = min (s.fldB l (rhlCnt 1) + 1) (2 ^ 32 - 1) ∧
      t.pend Ev.RHL_LINK_DOWN = true) ∧
  (∀ (s : State) (l c : Nat) (b : List Byte), s.works Blk.RHL → readBlock (b ++ Bytes.ofNat 4 c) = none → s.linkAligned l = true → (s.rhLink l).crcRun < 7 →
      ∃ t, exec (.iqBlockRx l b c) s = .next t ∧ t.rhLink l = { s.rhLink l with crcRun := (s.rhLink l).crcRun + 1 } ∧
      t.fldB l (rhlCnt 1) = min (s.fldB l (rhlCnt 1) + 1) (2 ^ 32 - 1) ∧ State.Frame [R.RHL_CNT + 4] [.rhl] s t) ∧
  (∀ (s : State) (l n st c : Nat) (b p : List Byte), s.works Blk.RHL → s.rhUp l = true → readBlock (b ++ Bytes.ofNat 4 c) = some (BlockType.IQ, n, st, p) →
      s.strRate l n ≠ 0 → ∃ t, exec (.iqBlockRx l b c) s = .next t ∧ t.rhLink l = { s.rhLink l with crcRun := 0 } ∧
      t.strRx l n = ⟨some st, (s.strRx l n).count + p.length / 4, (s.strRx l n).power + ((samplesOf p).map samplePower).sum⟩ ∧
      State.Frame [] [.rhl] s t) ∧
  (∀ (s : State) (l n type st c : Nat) (b p : List Byte), s.works Blk.RHL → s.linkAligned l = true → readBlock (b ++ Bytes.ofNat 4 c) = some (type, n, st, p) →
      (type ≠ BlockType.IQ ∨ s.rhUp l = false ∨ s.strRate l n = 0) → ∃ t, exec (.iqBlockRx l b c) s = .next t ∧
      t.rhLink l = { s.rhLink l with crcRun := 0 } ∧ (∀ k, k ≠ l → t.rhLink k = s.rhLink k) ∧ t.rhl.rx = s.rhl.rx ∧ State.Frame [] [.rhl] s t) ∧
  (∀ s : State, s.works Blk.RHL → ∃ t, exec .timeBlockTx s = .next t ∧
      t.out = (((List.range 2).filter s.linkAligned).reverse.map fun l => Emit.head l
        [s.idleWord l ++ headBlock BlockType.TIME 0 ((s.tai + s.fldB l F.RHL_DELAY_DELAY_NS) % 2 ^ 32) (Bytes.ofNat 4 0)]) ++ s.out ∧
      State.Frame [] [.out] s t) ∧
  (∀ (s : State) (l n st bits : Nat) (b p : List Byte), s.works Blk.RHL → readBlock b = some (BlockType.STATUS, n, st, p) → Bytes.at' p 0 1 = 0x91 →
      bits = Bytes.at' p 4 1 → bits < 32 → s.rhUp l = true → (bits.testBit 0 = true ∨ bits.testBit 2 = true) →
      ∃ t, exec (.headAlarmRx l b) s = .next t ∧ (t.rhLink l).state = 0 ∧ t.fldB l F.RHL_LINK_STAT_CAUSE = 5 ∧
      t.fldB l F.RHL_LINK_STAT_ALARM = bits ∧ t.pend Ev.RHL_LINK_DOWN = true) ∧
  (∀ (s : State) (l n st bits : Nat) (b p : List Byte), s.works Blk.RHL → readBlock b = some (BlockType.STATUS, n, st, p) → Bytes.at' p 0 1 = 0x91 →
      bits = Bytes.at' p 4 1 → bits < 32 → s.linkAligned l = true → bits.testBit 0 = false → bits.testBit 2 = false → bits.testBit 3 = false →
      ∃ t, exec (.headAlarmRx l b) s = .next t ∧ (t.rhLink l).state = (s.rhLink l).state ∧ (t.rhLink l).alarmAt = s.mono ∧
      t.fldB l F.RHL_LINK_STAT_ALARM = bits ∧ ((s.fldB l F.RHL_LINK_STAT_ALARM ^^^ bits) &&& 0x17 ≠ 0 → t.pend Ev.RHL_HEAD_ALARM = true) ∧
      State.ReportFrame [R.RHL_LINK_STAT] [.rhl] s t) ∧
  (∀ (s : State) (l n st : Nat) (b p : List Byte), s.works Blk.RHL → s.rhUp l = true → readBlock b = some (BlockType.STATUS, n, st, p) →
      Bytes.at' p 0 1 = 0x91 → Bytes.at' p 4 1 = 8 → ∃ t, exec (.headAlarmRx l b) s = .next t ∧ (t.rhLink l).state = 5 ∧
      t.fldB l (rhlCnt 3) = min (s.fldB l (rhlCnt 3) + 1) (2 ^ 32 - 1) ∧
      (dueSince s (s.rhLink l).lastTxLate nsPerSec = true → t.pend Ev.RHL_TX_LATE = true)) ∧
  (∀ (s : State) (l : Nat), s.works Blk.RHL → s.rhUp l = true → ∃ t x, exec (.periodicEcho l) s = .next t ∧ x < 65536 ∧
      t.out = .head l [s.idleWord l ++ headBlock BlockType.CTRL 0 s.stamp (Bytes.padTo ([5#8, 0#8] ++ Bytes.ofNat 2 x) 16)] :: s.out ∧ (t.rhLink l).answers = (s.rhLink l).answers ++ [(5, x)] ∧
      (t.rhLink l).state = 5 ∧ State.Frame [] [.rhl, .out, .freeCtr] s t) ∧
  (∀ (s : State) (l : Nat), s.works Blk.RHL → s.linkAligned l = true → ∃ t x, exec (.echo l) s = .next t ∧ x < 65536 ∧
      t.out = .head l [s.idleWord l ++ headBlock BlockType.CTRL 0 s.stamp (Bytes.padTo ([5#8, 0#8] ++ Bytes.ofNat 2 x) 16)] :: s.out ∧ (t.rhLink l).answers = (s.rhLink l).answers ++ [(5, x)] ∧
      State.Frame [] [.rhl, .out, .freeCtr] s t) ∧
  (∀ (s : State) (l n : Nat) (busy : Bool), s.works Blk.RHL → s.rhUp l = true → s.strRate l n ≠ 0 → (s.strRx l n).count ≠ 0 →
      (s.expert Blk.RHL = true ∨ busy = true) → ∃ t rms, exec (.agcAdjust l n busy false false) s = .next t ∧
      rmsFloor (s.strRx l n).count (s.strRx l n).power ≤ rms ∧ rms ≤ rmsFloor (s.strRx l n).count (s.strRx l n).power + 1 ∧
      t.fldB (strBank l n) F.RHL_STR_GAIN_RMS = encodeSigned 8 rms ∧ (t.strRx l n).count = 0 ∧
      t.fldB (strBank l n) F.RHL_STR_GAIN_RXGAIN = s.fldB (strBank l n) F.RHL_STR_GAIN_RXGAIN ∧
      State.Frame [R.RHL_STR_GAIN] [.rhl, .freeCtr] s t) ∧
  (∀ (s : State) (l n : Nat), s.works Blk.RHL → s.rhUp l = true → s.strRate l n ≠ 0 → (s.strRx l n).count ≠ 0 →
      -15 < rmsFloor (s.strRx l n).count (s.strRx l n).power → s.expert Blk.RHL = false →
      ∃ t d, exec (.agcAdjust l n false false false) s = .next t ∧ 1 ≤ d ∧ d ≤ 6 ∧
      t.fldB (strBank l n) F.RHL_STR_GAIN_RXGAIN = encodeSigned 16 (signedOf 16 (s.fldB (strBank l n) F.RHL_STR_GAIN_RXGAIN) - (d : Nat)) ∧
      State.Frame [R.RHL_STR_GAIN] [.rhl, .out, .freeCtr] s t) ∧
  (∀ (s : State) (l n : Nat), s.works Blk.RHL → s.rhUp l = true → s.strRate l n ≠ 0 → (s.strRx l n).count ≠ 0 →
      -21 ≤ rmsFloor (s.strRx l n).count (s.strRx l n).power → rmsFloor (s.strRx l n).count (s.strRx l n).power < -15 →
      ∃ t, exec (.agcAdjust l n false false false) s = .next t ∧
      t.fldB (strBank l n) F.RHL_STR_GAIN_RXGAIN = s.fldB (strBank l n) F.RHL_STR_GAIN_RXGAIN ∧ t.out = s.out) ∧
  (∀ (s : State) (l n : Nat) (busy low high : Bool), (s.strRx l n).count = 0 → exec (.agcAdjust l n busy low high) s = .next s) ∧
  (∀ (s : State) (l n : Nat) (low high : Bool), s.works Blk.RHL → s.rhUp l = true → s.strRate l n ≠ 0 → (s.strRx l n).count ≠ 0 →
      s.expert Blk.RHL = false → (low = true ∨ high = true) → dueSince s (s.rhl.gainEvent.get none (strBank l n)) (60 * nsPerSec) = true →
      ∃ t, exec (.agcAdjust l n true low high) s = .next t ∧ t.pend Ev.RHL_AGC_LIMIT = true ∧
      t.rhl.gainEvent.get none (strBank l n) = some s.mono ∧ State.ReportFrame [R.RHL_STR_GAIN] [.rhl, .freeCtr] s t)

/-! ## AHN and the Warden (R101–R103, R302–R326) -/

/-- The Ahnob link, heartbeats and the mirror (R306–R310, R314). -/
def Obligations.PairLink : Prop :=
  (∀ (s : State) (h : Hello), s.running = true → s.ahn.linkUp = false → ∃ t, exec (.ahnobLinkUp h) s = .next t ∧ t.ahn.linkUp = true ∧
      t.ahn.hello = some h ∧ t.ahn.mismatch = (s.blkOn Blk.AHN && Hello.fails s.ownHello h) ∧ t.ahn.role = s.ahn.role ∧
      t.pend Ev.AHN_LINK_UP = true ∧ .hello s.ownHello ∈ t.out ∧ State.ReportFrame [] [.ahn] s t) ∧
  (∀ (s : State) (h : Hello), s.running = true → ∃ t, exec (.helloRx h) s = .next t ∧ t.ahn.hello = some h ∧
      t.ahn.mismatch = (s.blkOn Blk.AHN && Hello.fails s.ownHello h) ∧
      (t.ahn.mismatch = true → s.ahn.mismatch = false → t.pend Ev.AHN_PARTNER_MISMATCH = true) ∧ State.ReportFrame [] [.ahn] s t) ∧
  (∀ s : State, s.running = true → s.ahn.linkUp = true → s.key.enrol = none → ∃ t, exec .ahnobLinkDown s = .next t ∧
      t.ahn = { s.ahn with linkUp := false, mismatch := false } ∧ t.pend Ev.AHN_LINK_DOWN = true ∧ State.ReportFrame [] [.ahn] s t) ∧
  (∀ (s : State) (m : List Byte), s.works Blk.AHN → s.ahn.linkUp = true → s.flag F.AHN_SW_EN = false →
      (s.missDue = false ∨ s.biCount < s.air.missBi ∧ s.ahn.role ≠ .ready) →
      s.linkSealed s.heartbeat.bytes = some m → ∃ t, exec .heartbeatTx s = .next t ∧
      t.out = .heartbeat m s.heartbeat.swapTest :: s.out ∧ m.length = 48 ∧ m.take 40 = s.heartbeat.bytes ∧
      t.ahn = { s.ahn with swapAck := false, swapNak := false } ∧ State.Frame [] [.ahn, .out] s t) ∧
  (∀ s : State, s.heartbeat.role = s.ahn.role ∧ (s.ahn.relCause ≠ 0 → s.heartbeat.release = true ∧ s.heartbeat.cause = s.ahn.relCause) ∧
      (s.isActive = true → s.heartbeat.seq = s.aut.lastSeq ∧ s.heartbeat.missRun = 0) ∧ s.heartbeat.mseqAck = s.ahn.mseqAck) ∧
  (∀ (s : State) (msg : List Byte) (test : Bool) (h : Heartbeat), s.works Blk.AHN → s.ahn.linkUp = true → s.heartbeatOf msg test = some h →
      h.pairId = s.fld F.AIR_CFG_PAIR_ID → ∃ t, exec (.heartbeatRx ⟨msg, test⟩ true) s = .next t ∧ t.ahn.hb = some h ∧ t.ahn.hbOk = true ∧
      t.ahn.hbAt = s.mono ∧ (h.role = .active → h.seq ≤ t.ahn.seqKnown) ∧ (s.ahn.hbOk = false → t.pend Ev.AHN_HB_RESTORED = true)) ∧
  (∀ (s : State) (msg : List Byte) (test ok : Bool), s.works Blk.AHN → s.ahn.linkUp = true → (s.heartbeatOf msg test = none ∨ ok = false) →
      ∃ t, exec (.heartbeatRx ⟨msg, test⟩ ok) s = .next t ∧
      t.fld (ahnCnt 1) = min (s.fld (ahnCnt 1) + 1) (2 ^ 32 - 1) ∧ State.Frame [R.AHN_CNT + 4] [] s t) ∧
  (∀ (s : State) (msg : List Byte) (test : Bool) (h : Heartbeat), s.works Blk.AHN → s.heartbeatOf msg test = some h →
      h.pairId ≠ s.fld F.AIR_CFG_PAIR_ID → exec (.heartbeatRx ⟨msg, test⟩ true) s = .next s) ∧
  (∀ (s : State) (msg : List Byte) (test ok : Bool), s.works Blk.AHN → s.ahn.linkUp = false → exec (.heartbeatRx ⟨msg, test⟩ ok) s = .next s) ∧
  (∀ s : State, s.works Blk.AHN → s.ahn.hbOk = true → s.passed s.ahn.hbAt (s.fld F.AHN_CFG_HB_LOSS_MS * nsPerMs) = true → s.ahn.swap = none →
      s.ahn.role ≠ .none → ∃ t, exec .heartbeatLoss s = .next t ∧ t.ahn = { s.ahn with hbOk := false } ∧
      t.fld (ahnCnt 0) = min (s.fld (ahnCnt 0) + 1) (2 ^ 32 - 1) ∧ t.pend Ev.AHN_HB_LOST = true ∧ State.ReportFrame [R.AHN_CNT] [.ahn] s t) ∧
  (∀ (s : State) (keyf i fn mi : Nat) (c : Clause) (ft chain : List Nat), s.works Blk.AHN → s.ahn.linkUp = true → s.ahn.mismatch = false →
      s.pwr.whole ≠ .running → s.isStandby = true → s.ahn.snapWanted = false → ∃ t,
      exec (.mirrorMessageRx ⟨false, (s.ahn.mseqAck + 1) % 2 ^ 32, keyf, .clause i c fn ft mi chain⟩ true) s = .next t ∧
      t.cls.clause i = c ∧ t.cls.chain mi = chain ∧ t.cls.freeNext = fn ∧ t.cls.freeTail = ft ∧
      t.ahn.mseqAck = (s.ahn.mseqAck + 1) % 2 ^ 32 ∧ (∀ k, k ≠ i → t.cls.clause k = s.cls.clause k)) ∧
  (∀ (s : State) (keyf : Nat) (b : TokenBlock), s.works Blk.AHN → s.ahn.linkUp = true → s.ahn.mismatch = false →
      s.pwr.whole ≠ .running → s.isStandby = true → s.ahn.snapWanted = false → ∃ t,
      exec (.mirrorMessageRx ⟨false, (s.ahn.mseqAck + 1) % 2 ^ 32, keyf, .token b⟩ true) s = .next t ∧
      t.ahn.seqKnown = max s.ahn.seqKnown b.seq ∧ t.ahn.mseqAck = (s.ahn.mseqAck + 1) % 2 ^ 32) ∧
  (∀ (s : State) (m : MirrorMsg), s.works Blk.AHN → s.ahn.linkUp = true → s.ahn.mismatch = false → s.pwr.whole ≠ .running →
      s.isStandby = true → s.ahn.snapWanted = false → m.mseq ≠ (s.ahn.mseqAck + 1) % 2 ^ 32 → s.expert Blk.AHN = false →
      ∃ t, exec (.mirrorMessageRx m true) s = .next t ∧ t.ahn.role = .sync ∧ t.ahn.snapWanted = true ∧ t.cls = ClsSt.reset ∧ t.dsp.orders = [] ∧
      t.fld (ahnCnt 4) = min (s.fld (ahnCnt 4) + 1) (2 ^ 32 - 1) ∧ .snapRequest ∈ t.out ∧
      (s.ahn.role = .ready → t.pend Ev.AHN_STANDBY_NOT_READY = true)) ∧
  (∀ (s : State) (m : MirrorMsg), s.works Blk.AHN → s.ahn.linkUp = true → s.ahn.mismatch = false → s.pwr.whole ≠ .running →
      s.isStandby = true → ∃ t, exec (.mirrorMessageRx m false) s = .next t ∧ t.ahn.role = .sync ∧ t.cls = ClsSt.reset ∧
      t.fld (ahnCnt 1) = min (s.fld (ahnCnt 1) + 1) (2 ^ 32 - 1)) ∧
  (∀ s : State, s.works Blk.AHN → s.isActive = true → s.ahn.linkUp = true → s.ahn.mismatch = false → s.partnerStandby = true →
      ∃ t, exec .snapshotRequestRx s = .next t ∧ t.out.head? = some (.mirror ⟨true, t.ahn.mseqTx, 0, .snapEnd⟩) ∧ t.ahn.role = .active ∧
      State.Frame [] [.ahn, .out] s t) ∧
  (∀ (s : State) (at' : Nat), s.works Blk.AHN → s.ahn.role = .ready → 500 * nsPerMs < s.lagNs → s.lagHighAt = some at' →
      s.passed at' nsPerSec = true → ∃ t, exec .mirrorLagLimit s = .next t ∧ t.ahn.role = .sync ∧
      t.ahn.snapWanted = true ∧ t.cls = ClsSt.reset ∧ t.pend Ev.AHN_STANDBY_NOT_READY = true)

/-- Claims, decision moments, beacons of the pair, the slot, releases (R82, R217, R224, R302–R304, R313–R318, R323). -/
def Obligations.PairRoles : Prop :=
  (∀ (s : State) (at' c : Nat), s.running = true → s.ahn.claim = some (at', c) → s.passed at' 2000 = true → s.pins.roleInLow = false →
      ∃ t, exec .claimSample s = .next t ∧ t.ahn.role = .active ∧ t.ahn.claim = none ∧ t.aut.takeover = true ∧
      t.pend Ev.AHN_BECAME_ACTIVE = true) ∧
  (∀ (s : State) (at' c : Nat), s.running = true → s.ahn.claim = some (at', c) → s.passed at' 2000 = true → s.pins.roleInLow = false →
      c < 9 → s.ahn.role = .ready → s.nandStopped = false → ∃ t, exec .claimSample s = .next t ∧
      t.aut.seq = max (s.ahn.seqKnown + 1000) (s.keys.seqStore.getD 0 + 4096) % 2 ^ 48 ∧
      t.keys.seqStore = some (max (s.ahn.seqKnown + 1000) (s.keys.seqStore.getD 0 + 4096)) ∧
      t.fld F.AHN_SWAP_COUNT = (s.fld F.AHN_SWAP_COUNT + 1) % 256 ∧ t.fld F.AHN_SWAP_LAST_CAUSE = c) ∧
  (∀ (s : State) (at' c p : Nat), s.running = true → s.ahn.claim = some (at', c) → s.passed at' 2000 = true → s.pins.roleInLow = true →
      s.partnerSlot = some p → s.pins.slotId < p → ∃ t, exec .claimSample s = .next t ∧ t.ahn.claim = some (s.mono, c) ∧
      t.ahn.role = s.ahn.role ∧ t.ahn.roleOut = s.ahn.roleOut ∧ State.ReportFrame [R.AHN_CNT + 20] [.ahn] s t) ∧
  (∀ (s : State) (at' c p : Nat), s.running = true → s.ahn.claim = some (at', c) → s.passed at' 2000 = true → s.pins.roleInLow = true →
      s.partnerSlot = some p → p < s.pins.slotId → ∃ t, exec .claimSample s = .next t ∧ t.ahn.claim = none ∧ t.ahn.roleOut = false ∧
      t.ahn.role = (if s.ahnLink then .sync else .none)) ∧
  (∀ s : State, s.running = true → s.ahn.claim = none → exec .claimSample s = .next s) ∧
  (∀ (s : State) (h : Heartbeat), s.running = true → s.blkOn Blk.AUT = true → s.ahn.role = .none → s.ahn.claim = none → s.pwr.whole ≠ .running →
      s.hpg.ejectAt = none → s.ahnLink = true → s.ahn.hb = some h → s.ahn.hbOk = true → h.role = .active → ∃ t, exec .roleClaim s = .next t ∧
      t.ahn.role = .sync ∧ t.ahn.snapWanted = true ∧ t.ahn.roleOut = false ∧ t.pend Ev.AHN_BECAME_STANDBY = true) ∧
  (∀ (s : State) (h : Heartbeat), s.running = true → s.blkOn Blk.AUT = true → s.ahn.role = .none → s.ahn.claim = none → s.pwr.whole ≠ .running →
      s.hpg.ejectAt = none → s.ahnLink = true → s.ahn.hb = some h → s.ahn.hbOk = true → h.role ≠ .active → h.role ≠ .failed →
      s.ahn.mismatch = false → s.pins.slotId < h.slot → s.pins.roleInLow = false → ∃ t, exec .roleClaim s = .next t ∧
      t.ahn.claim = some (s.mono, 0) ∧ t.ahn.roleOut = true ∧ t.ahn.role = .none ∧ State.Frame [] [.ahn, .out] s t) ∧
  (∀ (s : State) (h : Heartbeat), s.running = true → s.blkOn Blk.AUT = true → s.ahn.role = .none → s.ahn.claim = none → s.pwr.whole ≠ .running →
      s.hpg.ejectAt = none → s.ahnLink = true → s.ahn.hb = some h → s.ahn.hbOk = true → h.role ≠ .active → h.role ≠ .failed →
      s.ahn.mismatch = false → h.slot < s.pins.slotId → ∃ t, exec .roleClaim s = .next t ∧ t.ahn.role = .sync ∧ t.ahn.roleOut = false) ∧
  (∀ s : State, s.running = true → (s.blkOn Blk.AUT = false ∨ s.ahn.role ≠ .none) → ∃ t, exec .roleClaim s = .next t ∧
      t.ahn = { s.ahn with interlock := s.ahn.interlock && s.pins.roleInLow } ∧ State.Frame [] [.ahn] s t) ∧
  (∀ s : State, s.works Blk.AUT → s.isStandby = true → s.ahn.claim = none → s.ahn.releaseSeen ≠ 0 → s.pins.roleInLow = false →
      ∃ t, exec .decisionMoment s = .next t ∧ t.ahn.claim = some (s.mono, s.ahn.releaseSeen) ∧ t.ahn.roleOut = true ∧
      t.ahn.releaseSeen = 0 ∧ t.ahn.role = s.ahn.role) ∧
  (∀ s : State, s.works Blk.AUT → s.isStandby = true → s.ahn.claim = none → s.ahn.releaseSeen = 0 → s.ahn.planned = 0 → s.ahn.hbOk = false →
      s.biCount < s.air.missBi → 3 ≤ s.fld F.AIR_MON_MISS_RUN → s.pins.roleInLow = false → ∃ t, exec .decisionMoment s = .next t ∧
      t.ahn.claim = some (s.mono, 6) ∧ t.ahn.roleOut = true) ∧
  (∀ s : State, s.works Blk.AUT → s.isStandby = true → s.ahn.claim = none → s.ahn.releaseSeen ≠ 0 → s.pins.roleInLow = true →
      s.ahn.interlock = false → ∃ t, exec .decisionMoment s = .next t ∧ t.ahn.claim = none ∧ t.ahn.role = s.ahn.role ∧
      t.fld (ahnCnt 5) = min (s.fld (ahnCnt 5) + 1) (2 ^ 32 - 1) ∧ t.pend Ev.AHN_INTERLOCK = true) ∧
  (∀ s : State, s.works Blk.AUT → s.isActive = true → s.ahn.splitHeard = true → ∃ t, exec .decisionMoment s = .next t ∧
      t.ahn.role = (if s.ahnLink then .sync else .none) ∧ t.ahn.roleOut = false ∧ t.fld F.AHN_SWAP_LAST_CAUSE = 8 ∧
      t.pend Ev.AHN_YIELDED = true) ∧
  (∀ s : State, s.works Blk.AUT → s.isActive = true → s.ahn.splitHeard = false → ∃ t, exec .decisionMoment s = .next t ∧ t.ahn = s.ahn ∧
      (s.blkOn Blk.AIR = true → s.biCount < t.air.missBi) ∧ State.Frame [R.AIR_MON] [.air] s t) ∧
  (∀ (s : State) (rx : AirRx) (slot : Nat), s.works Blk.AIR → (s.rxFrame rx).src = 0xFF00 + slot → slot < 16 → (s.rxFrame rx).src ≠ s.airAddr →
      (s.rxFrame rx).ftype = Ft.BEACON → s.wideRx rx = false → (s.airCheck rx).2 = true → ∃ t, exec (.partnerBeaconRx rx) s = .next t ∧
      t.fld F.AIR_MON_HEARD_SLOT = slot ∧ t.ahn.seqKnown = max s.ahn.seqKnown (Bytes.at' (s.rxFrame rx).payload 5 6) ∧
      t.air.pairHeardAt = some s.mono ∧ t.air.heardNow = true ∧
      (s.isActive = false → t.air.seqRef = some (s.rxBi rx, Bytes.at' (s.rxFrame rx).payload 5 6)) ∧
      (s.isActive = true → t.ahn.splitHeard = (s.ahn.splitHeard || decide (slot < s.pins.slotId)) ∧ t.pend Ev.AIR_SAME_PAIR_BEACON = true)) ∧
  (∀ (s : State) (b : TokenBlock), s.running = true → s.isActive = true → s.blkOn Blk.AUT = true → s.aut.sealed = some b →
      ∃ t, exec .beaconSlotOpen s = .next t ∧ t.aut.onAir = some b ∧ t.aut.sealed = none ∧ t.aut.openSeq = s.aut.lastSeq ∧
      t.warden.renewed = false ∧ t.aut.seq = s.aut.seq) ∧
  (∀ s : State, s.running = true → s.isActive = true → s.blkOn Blk.AUT = true → s.aut.sealed = none → ∃ t, exec .beaconSlotOpen s = .next t ∧
      t.aut = { s.aut with openSeq := s.aut.lastSeq, onAir := none } ∧ t.warden = { s.warden with renewed := false } ∧
      State.Frame [R.AIR_MON] [.aut, .warden, .air] s t) ∧
  (∀ (s : State) (low : Bool), ∃ t, exec (.roleInNChange low) s = .next t ∧ t.pins = { s.pins with roleInLow := low } ∧
      t.ahn = { s.ahn with interlock := s.ahn.interlock && low } ∧ t.roleLevel = (s.ahn.roleOut && !low) ∧ State.Frame [] [.pins, .ahn] s t) ∧
  (∀ s : State, s.works Blk.AHN → s.isActive = true → s.partnerStandby = true → ∃ t, exec .ahnRelease s = .next t ∧ t.ahn.role = .none ∧
      t.ahn.roleOut = false ∧ t.ahn.relCause = 5 ∧ t.fld F.AHN_SWAP_RESULT = 2) ∧
  (∀ s : State, s.works Blk.AHN → (s.isActive = false ∨ s.partnerStandby = false) → ∃ t, exec .ahnRelease s = .next t ∧ t.ahn = s.ahn ∧
      t.fld F.AHN_SWAP_RESULT = 7 ∧ t.fld (ahnCnt 3) = min (s.fld (ahnCnt 3) + 1) (2 ^ 32 - 1) ∧ t.pend Ev.AHN_SWAP_REFUSED = true ∧
      State.ReportFrame [R.AHN_SWAP, R.AHN_CNT + 12] [] s t) ∧
  (∀ s : State, s.works Blk.AHN → s.isStandby = true → ∃ t, exec .resync s = .next t ∧ t.ahn.role = .sync ∧ t.ahn.snapWanted = true ∧
      t.cls = ClsSt.reset ∧ t.fld F.AHN_SWAP_RESULT = 2 ∧ .snapRequest ∈ t.out) ∧
  (∀ s : State, s.works Blk.AHN → s.isStandby = false → ∃ t, exec .resync s = .next t ∧ t.ahn = s.ahn ∧ t.fld F.AHN_SWAP_RESULT = 7 ∧
      t.pend Ev.AHN_SWAP_REFUSED = true)

/-- Planned swaps, the token path test, and the Warden (R101, R102, R305, R320–R322, R375). -/
def Obligations.SwapsAndWarden : Prop :=
  (∀ s : State, s.works Blk.AHN → s.isActive = true → s.ahn.swap = none → s.ahn.swapOk = 0 → s.ahn.swapReq = 0 → s.partnerReady = true →
      ∃ t, exec (.ahnSwap true) s = .next t ∧ t.fld F.AHN_SWAP_RESULT = 1 ∧ t.ahn = { s.ahn with swapOk := 1 } ∧
      State.Frame [R.AHN_SWAP] [.ahn] s t) ∧
  (∀ s : State, s.works Blk.AHN → s.isActive = true → s.ahn.swap = none → s.ahn.swapOk = 0 → s.ahn.swapReq = 0 → s.partnerReady = true →
      ∃ t, exec (.ahnSwap false) s = .next t ∧ t.fld F.AHN_SWAP_RESULT = 1 ∧ t.ahn = { s.ahn with swapReq := 1, swapTest := true } ∧
      State.Frame [R.AHN_SWAP] [.ahn, .out] s t) ∧
  (∀ (s : State) (notest : Bool), s.works Blk.AHN → s.isActive = true → s.ahn.swap = none → s.ahn.swapOk = 0 → s.ahn.swapReq = 0 →
      s.partnerReady = false → ∃ t, exec (.ahnSwap notest) s = .next t ∧ t.fld F.AHN_SWAP_RESULT = 3 ∧ t.ahn = s.ahn ∧
      t.pend Ev.AHN_SWAP_REFUSED = true ∧ State.ReportFrame [R.AHN_SWAP, R.AHN_CNT + 12] [] s t) ∧
  (∀ (s : State) (notest : Bool), s.works Blk.AHN → s.isActive = false → s.ahn.role ≠ .ready → ∃ t, exec (.ahnSwap notest) s = .next t ∧
      t.fld F.AHN_SWAP_RESULT = 7 ∧ t.ahn = s.ahn ∧ t.pend Ev.AHN_SWAP_REFUSED = true) ∧
  (∀ s : State, s.works Blk.AHN → s.ahn.role = .ready → s.ahn.swapReq = 0 → s.ahn.planned = 0 → s.ahn.test = none → s.expert Blk.AHN = false →
      ∃ t, exec (.ahnSwap false) s = .next t ∧ t.fld F.AHN_SWAP_RESULT = 1 ∧
      t.ahn = { s.ahn with test := some s.mono, testThenSwap := true } ∧ State.Frame [R.AHN_SWAP] [.ahn] s t) ∧
  (∀ s : State, s.works Blk.AHN → s.ahn.role = .ready → s.ahn.test = none → ∃ t, exec .tokenPathTest s = .next t ∧ t.fld F.AHN_SWAP_RESULT = 1 ∧
      t.ahn = { s.ahn with test := some s.mono, testThenSwap := false } ∧ State.Frame [R.AHN_SWAP] [.ahn] s t) ∧
  (∀ s : State, s.works Blk.AHN → s.ahn.role ≠ .ready → ∃ t, exec .tokenPathTest s = .next t ∧ t.fld F.AHN_SWAP_RESULT = 7 ∧
      t.ahn = s.ahn ∧ t.pend Ev.AHN_SWAP_REFUSED = true) ∧
  (∀ (s : State) (at' : Nat), s.works Blk.AHN → s.ahn.test = some at' → s.passed at' (3 * nsPerBi) = true → s.isActive = false →
      s.ahn.testThenSwap = false →
      ∃ t, exec (.tokenTestEnd true) s = .next t ∧ t.ahn = { s.ahn with test := none } ∧ t.fld F.AHN_SWAP_TEST = 1 ∧
      t.fld F.AHN_SWAP_RESULT = 2 ∧ t.pend Ev.AHN_TOKEN_TEST = true ∧ State.ReportFrame [R.AHN_SWAP] [.ahn] s t) ∧
  (∀ (s : State) (at' : Nat), s.works Blk.AHN → s.ahn.test = some at' → s.passed at' (3 * nsPerBi) = true → s.isActive = false →
      ∃ t, exec (.tokenTestEnd false) s = .next t ∧ t.ahn.role = .failed ∧ t.ahn.roleOut = false ∧ t.ahn.failN = true ∧ t.ahn.test = none ∧
      t.fld F.AHN_SWAP_TEST = 2 ∧ t.pend Ev.AHN_TOKEN_TEST = true) ∧
  (∀ s : State, s.works Blk.AHN → s.isActive = true → s.ahn.swapOk ≠ 0 → s.ahn.swap = none → s.partnerReady = true → ∃ t w,
      exec .plannedSwapAccept s = .next t ∧ t.ahn.swap = some w ∧ w.cause = s.ahn.swapOk ∧ w.sent = false ∧
      s.mono + 8000000 ≤ w.slotAt ∧ w.slotAt ≤ s.mono + 58000000 ∧ t.ahn.swapOk = 0 ∧ t.ahn.role = .active ∧
      State.Frame [] [.ahn, .out] s t) ∧
  (∀ s : State, s.works Blk.AHN → s.isActive = true → s.ahn.swapOk ≠ 0 → s.ahn.swap = none → s.partnerReady = false → ∃ t,
      exec .plannedSwapAccept s = .next t ∧ t.ahn.swap = none ∧ t.ahn.swapOk = 0 ∧ t.ahn.role = .active ∧ t.fld F.AHN_SWAP_RESULT = 3 ∧
      t.pend Ev.AHN_SWAP_REFUSED = true) ∧
  (∀ (s : State) (n : Nat), s.works Blk.AUT → s.warden.fault = 0 → (s.warden.seq = none ∨ s.warden.seq = some n ∨ s.isActive = false) →
      s.kickLate = false →
      s.pins.stopALow = false → s.pins.stopBLow = false → s.roleLevel = true → s.aut.fsLatch = false → ∃ t, exec (.wardenRenewal true n) s = .next t ∧
      t.warden.renewed = true ∧ t.warden.fault = 0 ∧ t.warden.strobeFails = 0 ∧ t.fld F.AUT_WARDEN_WITHHELD = s.fld F.AUT_WARDEN_WITHHELD) ∧
  (∀ (s : State) (n : Nat), s.works Blk.AUT → s.warden.fault = 0 → (s.warden.seq = none ∨ s.warden.seq = some n ∨ s.isActive = false) →
      s.kickLate = false →
      (s.pins.stopALow = true ∨ s.pins.stopBLow = true ∨ s.aut.fsLatch = true) → ∃ t, exec (.wardenRenewal true n) s = .next t ∧
      t.warden.renewed = false ∧ t.warden.fault = 0 ∧ t.fld F.AUT_WARDEN_WITHHELD = min (s.fld F.AUT_WARDEN_WITHHELD + 1) (2 ^ 15 - 1) ∧
      t.pend Ev.AUT_WARDEN_WITHHELD = true) ∧
  (∀ (s : State) (n : Nat), s.works Blk.AUT → s.warden.fault = 0 → s.warden.strobeFails ≠ 0 → ∃ t, exec (.wardenRenewal false n) s = .next t ∧
      t.warden.fault = 2 ∧ t.warden.renewed = false ∧ t.ahn.role = .failed ∧ t.ahn.failN = true ∧ t.pend Ev.AUT_WARDEN_FAULT = true) ∧
  (∀ (s : State) (n m : Nat), s.works Blk.AUT → s.warden.fault = 0 → s.isActive = true → s.warden.seq = some m → m ≠ n → ∃ t,
      exec (.wardenRenewal true n) s = .next t ∧ t.warden.fault = 3 ∧ t.warden.renewed = false ∧ t.ahn.role = .failed ∧ t.ahn.roleOut = false) ∧
  (∀ s : State, s.running = true → s.warden.fault = 0 → ∃ t, exec .lockstepMismatch s = .next t ∧ t.warden.fault = 1 ∧ t.warden.renewed = false ∧
      t.ahn.role = .failed ∧ t.ahn.roleOut = false ∧ t.ahn.relCause = 3 ∧ t.ahn.failN = true ∧ t.pend Ev.AUT_WARDEN_FAULT = true) ∧
  (∀ s : State, s.works Blk.AUT → s.kickLate = true → s.warden.fault = 0 → ∃ t, exec .kickTimeout s = .next t ∧ t.warden.fault = 4 ∧
      t.ahn.role = .failed ∧ t.ahn.failN = true ∧ t.pend Ev.AUT_WARDEN_FAULT = true) ∧
  (∀ s : State, s.works Blk.AUT → s.kickLate = false → exec .kickTimeout s = .next s) ∧
  (∀ s : State, s.running = true → ∃ t, exec (.wardenSelfTestEnd true) s = .next t ∧ t.warden = { s.warden with selfTest := true } ∧
      t.ahn.role = s.ahn.role ∧ t.ahn.failN = t.failWanted) ∧
  (∀ s : State, s.running = true → s.warden.fault = 0 → ∃ t, exec (.wardenSelfTestEnd false) s = .next t ∧ t.warden.fault = 5 ∧
      t.ahn.role = .failed ∧ t.ahn.failN = true)

/-! ## KEY, UPD and the quarantine (R412–R430, R445) -/

/-- The root, the pair subtree, enrolment and beacon generations (R412, R414–R416, R426). -/
def Obligations.PairKeys : Prop :=
  (∀ s : State, s.running = true → s.keys.root = none → (s.keys.lc = 1 ∨ s.keys.lc = 2) → s.flag F.KEY_STATUS_TRNG_FAIL = false →
      ∃ t, exec (.rootGenerate true) s = .next t ∧ t.keys = { s.keys with root := some (conditioned (Config.trng s.freeCtr)) } ∧
      t.pend Ev.KEY_ROOT_GENERATED = true ∧ State.ReportFrame [] [.keys, .freeCtr] s t) ∧
  (∀ s : State, s.running = true → s.keys.root = none → (s.keys.lc = 1 ∨ s.keys.lc = 2) → s.flag F.KEY_STATUS_TRNG_FAIL = false →
      ∃ t, exec (.rootGenerate false) s = .next t ∧ t.flag F.KEY_STATUS_TRNG_FAIL = true ∧ t.pend Ev.KEY_TRNG_FAIL = true ∧
      State.ReportFrame [R.KEY_STATUS] [] s t) ∧
  (∀ (s : State) (h : Bool), s.running = true → (s.keys.root.isSome = true ∨ s.keys.lc = 0 ∨ s.keys.lc = 3 ∨ s.flag F.KEY_STATUS_TRNG_FAIL = true) →
      exec (.rootGenerate h) s = .next s) ∧
  (∀ s : State, s.running = true → s.flag F.KEY_STATUS_BUSY = false → s.nandStopped = false → s.keys.root.isSome = true →
      s.keys.pairRoot = none → ∃ t, exec (.createPair true) s = .next t ∧
      t.keys = { s.keys with pairRoot := some (conditioned (Config.trng s.freeCtr)), bgen := 1 } ∧ t.fld F.KEY_STATUS_RESULT = 1 ∧
      State.Frame [R.KEY_STATUS] [.keys, .freeCtr] s t) ∧
  (∀ (s : State) (h : Bool), s.running = true → s.flag F.KEY_STATUS_BUSY = false → s.keys.root.isSome = true → s.keys.pairRoot.isSome = true →
      ∃ t, exec (.createPair h) s = .next t ∧ t.reg R.KEY_PARSE = parseWord Blk.KEY 0x22 0 ∧ t.fld F.KEY_STATUS_RESULT = 2 ∧
      State.Frame [R.KEY_STATUS, R.KEY_PARSE] [] s t) ∧
  (∀ s : State, s.running = true → s.flag F.KEY_STATUS_BUSY = false → s.nandStopped = false → s.blkOn Blk.AUT = false →
      s.blkOn Blk.AHN = false → ∃ t, exec .forgetPair s = .next t ∧ t.keys = { s.keys with pairRoot := none, bgen := 0 } ∧
      t.fld F.KEY_STATUS_RESULT = 1 ∧ State.Frame [R.KEY_STATUS] [.keys] s t) ∧
  (∀ s : State, s.running = true → s.flag F.KEY_STATUS_BUSY = false → (s.blkOn Blk.AUT = true ∨ s.blkOn Blk.AHN = true) →
      ∃ t, exec .forgetPair s = .next t ∧ t.reg R.KEY_PARSE = parseWord Blk.KEY 0x23 0 ∧ t.fld F.KEY_STATUS_RESULT = 2 ∧
      State.Frame [R.KEY_STATUS, R.KEY_PARSE] [] s t) ∧
  (∀ (s : State) (m : List Byte), s.running = true → s.flag F.KEY_STATUS_BUSY = false → s.nandStopped = false →
      s.keys.pairRoot.isSome = true → s.ahn.linkUp = true →
      m = s.enrolOffer (ecScalar (Config.trng s.freeCtr)) (ecScalar (Config.trng (s.freeCtr + 1))) → ∃ t, exec .enrolPair s = .next t ∧
      t.key = { s.key with enrol := some ⟨false, s.mono, ecScalar (Config.trng s.freeCtr), none⟩ } ∧ t.flag F.KEY_STATUS_BUSY = true ∧
      t.out = .keyMsg 1 (m ++ cmac64 (List.replicate 32 0#8) m) :: s.out ∧ State.Frame [R.KEY_STATUS] [.key, .out, .freeCtr] s t) ∧
  (∀ (s : State) (m : List Byte), s.running = true → s.flag F.KEY_STATUS_BUSY = false → s.nandStopped = false → s.keys.root.isSome = true →
      s.keys.pairRoot = none → s.ahn.linkUp = true →
      m = s.enrolOffer (ecScalar (Config.trng s.freeCtr)) (ecScalar (Config.trng (s.freeCtr + 1))) → ∃ t, exec .acceptPair s = .next t ∧
      t.key = { s.key with enrol := some ⟨true, s.mono, ecScalar (Config.trng s.freeCtr), none⟩ } ∧ t.flag F.KEY_STATUS_BUSY = true ∧
      t.out = .keyMsg 1 (m ++ cmac64 (List.replicate 32 0#8) m) :: s.out ∧ State.Frame [R.KEY_STATUS] [.key, .out, .freeCtr] s t) ∧
  (∀ s : State, s.running = true → s.flag F.KEY_STATUS_BUSY = false → s.keys.pairRoot.isSome = true → s.ahn.linkUp = false →
      ∃ t, exec .enrolPair s = .next t ∧ t.reg R.KEY_PARSE = parseWord Blk.KEY 0x21 0 ∧ t.fld F.KEY_STATUS_RESULT = 2 ∧ t.key = s.key) ∧
  (∀ (s : State) (e : Enrol) (pub epub sig w : List Byte) (holds : Bool), s.running = true → s.key.enrol = some e → e.isNew = false →
      w = keyWrap (enrolWrapKey e.eph epub) (pairRootBytes (s.keys.pairRoot.getD 0) s.keys.bgen) →
      ∃ t, exec (.enrolExchangeRx ⟨.keys pub epub sig s.keys.lc holds, true⟩) s = .next t ∧
      t.key = { s.key with enrol := none } ∧ t.keys = s.keys ∧ t.flag F.KEY_STATUS_BUSY = false ∧ t.pend Ev.KEY_PAIR_ENROL = true ∧
      (s.peerProven pub epub sig = false → t.fld F.KEY_STATUS_RESULT = 2 ∧ t.reg R.KEY_PARSE = parseWord Blk.KEY 0x20 0) ∧
      (s.peerProven pub epub sig = true ∧ holds = true → t.fld F.KEY_STATUS_RESULT = 2 ∧ t.reg R.KEY_PARSE = parseWord Blk.KEY 0x22 0) ∧
      (s.peerProven pub epub sig = true ∧ holds = false → t.fld F.KEY_STATUS_RESULT = 1 ∧
        .keyMsg 2 (w ++ cmac64 (List.replicate 32 0#8) w) ∈ t.out)) ∧
  (∀ (s : State) (e : Enrol) (pub epub sig : List Byte) (holds : Bool), s.running = true → s.key.enrol = some e → e.isNew = true →
      s.peerProven pub epub sig = true → ∃ t, exec (.enrolExchangeRx ⟨.keys pub epub sig s.keys.lc holds, true⟩) s = .next t ∧
      t.key = { s.key with enrol := some { e with peer := some epub } } ∧ State.Frame [] [.key] s t) ∧
  (∀ (s : State) (e : Enrol) (pub epub sig : List Byte) (lc : Nat) (holds : Bool), s.running = true → s.key.enrol = some e →
      lc ≠ s.keys.lc → ∃ t, exec (.enrolExchangeRx ⟨.keys pub epub sig lc holds, true⟩) s = .next t ∧ t.key = { s.key with enrol := none } ∧
      t.keys = s.keys ∧ t.fld F.KEY_STATUS_RESULT = 2 ∧ t.reg R.KEY_PARSE = parseWord Blk.KEY 0x07 0 ∧ t.pend Ev.KEY_PAIR_ENROL = true) ∧
  (∀ (s : State) (e : Enrol) (epub wrapped b : List Byte), s.running = true → s.key.enrol = some e → e.isNew = true → e.peer = some epub →
      keyUnwrap (enrolWrapKey e.eph epub) wrapped = some b → ∃ t, exec (.enrolExchangeRx ⟨.root wrapped, true⟩) s = .next t ∧
      t.keys = { s.keys with pairRoot := some (Bytes.beNat (b.take 32)), bgen := Bytes.at' b 32 2 } ∧
      t.key = { s.key with enrol := none } ∧ t.flag F.KEY_STATUS_BUSY = false ∧ t.fld F.KEY_STATUS_RESULT = 1 ∧
      t.pend Ev.KEY_PAIR_ENROL = true ∧ State.ReportFrame [R.KEY_STATUS] [.keys, .key] s t) ∧
  (∀ (s : State) (e : Enrol) (epub wrapped : List Byte), s.running = true → s.key.enrol = some e → e.isNew = true → e.peer = some epub →
      keyUnwrap (enrolWrapKey e.eph epub) wrapped = none → ∃ t, exec (.enrolExchangeRx ⟨.root wrapped, true⟩) s = .next t ∧ t.keys = s.keys ∧
      t.key = { s.key with enrol := none } ∧ t.fld F.KEY_STATUS_RESULT = 2 ∧ t.reg R.KEY_PARSE = parseWord Blk.KEY 0x20 0) ∧
  (∀ (s : State) (e : Enrol) (wrapped : List Byte), s.running = true → s.key.enrol = some e → (e.peer = none ∨ e.isNew = false) →
      exec (.enrolExchangeRx ⟨.root wrapped, true⟩) s = .next s) ∧
  (∀ (s : State) (msg : EnrolMsg), s.running = true → ∃ t, exec (.enrolExchangeRx ⟨msg, false⟩) s = .next t ∧
      t.fld (ahnCnt 1) = min (s.fld (ahnCnt 1) + 1) (2 ^ 32 - 1) ∧ State.Frame [R.AHN_CNT + 4] [] s t) ∧
  (∀ (s : State) (e : Enrol), s.running = true → s.key.enrol = some e → s.passed e.since (60 * nsPerSec) = true →
      ∃ t, exec .enrolWindowExpiry s = .next t ∧ t.keys = s.keys ∧ t.key = { s.key with enrol := none } ∧
      t.flag F.KEY_STATUS_BUSY = false ∧ t.fld F.KEY_STATUS_RESULT = 2 ∧ t.pend Ev.KEY_PAIR_ENROL = true) ∧
  (∀ s : State, s.running = true → s.flag F.KEY_STATUS_BUSY = false → s.nandStopped = false → s.keys.pairRoot.isSome = true →
      s.ahn.linkUp = true → s.blkOn Blk.AUT = false → s.keys.bgen < 65535 → ∃ t m, exec .renewBeacon s = .next t ∧
      t.keys = { s.keys with bgen := s.keys.bgen + 1, seqStore := some 0 } ∧ t.fld F.KEY_STATUS_RESULT = 1 ∧
      t.linkSealed (Bytes.ofNat 2 (s.keys.bgen + 1)) = some m ∧ .keyMsg 0 m ∈ t.out ∧ t.pend Ev.KEY_BEACON_RENEWED = true ∧
      t.aut.seq = 4096 ∧ t.ahn.seqKnown = 0 ∧ State.ReportFrame [R.KEY_STATUS] [.keys, .aut, .ahn, .warden] s t) ∧
  (∀ s : State, s.running = true → s.flag F.KEY_STATUS_BUSY = false → s.keys.pairRoot.isSome = true → s.keys.bgen = 65535 →
      ∃ t, exec .renewBeacon s = .next t ∧ t.reg R.KEY_PARSE = parseWord Blk.KEY 0x09 0 ∧ t.fld F.KEY_STATUS_RESULT = 2 ∧
      State.Frame [R.KEY_STATUS, R.KEY_PARSE] [] s t) ∧
  (∀ s : State, s.running = true → s.flag F.KEY_STATUS_BUSY = false → s.keys.pairRoot.isSome = true → s.ahn.linkUp = true →
      s.keys.bgen < 65535 → s.blkOn Blk.AUT = true → ∃ t, exec .renewBeacon s = .next t ∧ t.keys = s.keys ∧ t.reg R.KEY_PARSE = parseWord Blk.KEY 0x23 0 ∧
      t.fld F.KEY_STATUS_RESULT = 2) ∧
  (∀ (s : State) (g : Nat), s.running = true → s.keys.pairRoot.isSome = true → s.keys.bgen < g → ∃ t,
      exec (.partnerKeyMessageRx g true) s = .next t ∧ t.keys = { s.keys with bgen := g, seqStore := some 0 } ∧
      t.pend Ev.KEY_BEACON_RENEWED = true ∧ t.aut.seq = 4096 ∧ t.ahn.seqKnown = 0 ∧
      State.ReportFrame [] [.keys, .aut, .ahn, .warden] s t) ∧
  (∀ (s : State) (g : Nat), s.running = true → g ≤ s.keys.bgen → exec (.partnerKeyMessageRx g true) s = .next s) ∧
  (∀ (s : State) (g : Nat), s.running = true → ∃ t, exec (.partnerKeyMessageRx g false) s = .next t ∧
      t.fld (ahnCnt 1) = min (s.fld (ahnCnt 1) + 1) (2 ^ 32 - 1) ∧ State.Frame [R.AHN_CNT + 4] [] s t)

/-- Exports, image-signing keys and the life cycle (R415, R418–R421, R426, R445). -/
def Obligations.KeyExportsAndLifeCycle : Prop :=
  (∀ s : State, s.running = true → s.flag F.KEY_STATUS_BUSY = false → s.nandStopped = false → s.keys.pairRoot.isSome = true →
      (s.keys.lc = 1 ∨ s.keys.lc = 2) → s.keyDst + 284 ≤ bar2Size → ∃ t, exec .exportMachine s = .next t ∧ t.keys = s.keys ∧
      ((ecPoint (s.bar2Read s.keySrc 97)).isSome = true → t.fld F.KEY_STATUS_RESULT = 1 ∧
        t.bar2Read s.keyDst 188 = s.bundleBody true (ecScalar (Config.trng s.freeCtr)) (s.bar2Read s.keySrc 97)) ∧
      (ecPoint (s.bar2Read s.keySrc 97) = none → t.fld F.KEY_STATUS_RESULT = 2 ∧ t.reg R.KEY_PARSE = parseWord Blk.KEY 0x25 0) ∧
      (∀ a, a < s.keyDst ∨ s.keyDst + 284 ≤ a → t.bar2At a = s.bar2At a)) ∧
  (∀ s : State, s.running = true → s.flag F.KEY_STATUS_BUSY = false → s.nandStopped = false → s.keys.pairRoot.isSome = true →
      (s.keys.lc = 1 ∨ s.keys.lc = 2) → s.keyDst + 284 ≤ bar2Size → ∃ t, exec .exportSender s = .next t ∧ t.keys = s.keys ∧
      ((ecPoint (s.bar2Read s.keySrc 97)).isSome = true → t.fld F.KEY_STATUS_RESULT = 1 ∧
        t.bar2Read s.keyDst 188 = s.bundleBody false (ecScalar (Config.trng s.freeCtr)) (s.bar2Read s.keySrc 97)) ∧
      (ecPoint (s.bar2Read s.keySrc 97) = none → t.fld F.KEY_STATUS_RESULT = 2 ∧ t.reg R.KEY_PARSE = parseWord Blk.KEY 0x25 0) ∧
      (∀ a, a < s.keyDst ∨ s.keyDst + 284 ≤ a → t.bar2At a = s.bar2At a)) ∧
  (∀ s : State, s.running = true → s.flag F.KEY_STATUS_BUSY = false → s.keys.pairRoot = none → ∃ t, exec .exportMachine s = .next t ∧
      t.fld F.KEY_STATUS_RESULT = 2 ∧ t.reg R.KEY_PARSE = parseWord Blk.KEY 0x06 4 ∧ State.Frame [R.KEY_STATUS, R.KEY_PARSE] [] s t) ∧
  (∀ s : State, s.running = true → s.flag F.KEY_STATUS_BUSY = true → exec .exportSender s = .next s) ∧
  (∀ (s : State) (d : Nat), s.running = true → s.flag F.KEY_STATUS_BUSY = false → s.nandStopped = false → s.deviceId = some d →
      s.keyDst + 97 ≤ bar2Size → ∃ t, exec .readDevpub s = .next t ∧ t.bar2Read s.keyDst 97 = ecPublic d ∧
      (∀ a, a < s.keyDst ∨ s.keyDst + 97 ≤ a → t.bar2At a = s.bar2At a) ∧ t.fld F.KEY_STATUS_RESULT = 1 ∧ t.keys = s.keys) ∧
  (∀ s : State, s.running = true → s.flag F.KEY_STATUS_BUSY = false → s.keys.root = none → ∃ t, exec .readDevpub s = .next t ∧
      t.fld F.KEY_STATUS_RESULT = 2 ∧ t.reg R.KEY_PARSE = parseWord Blk.KEY 0x06 3 ∧ State.Frame [R.KEY_STATUS, R.KEY_PARSE] [] s t) ∧
  (∀ s : State, s.running = true → s.flag F.KEY_STATUS_BUSY = false → s.nandStopped = false → s.keys.root.isSome = true →
      s.bar2Read (s.keySrc + 98) 2 = [0#8, 0#8] → (s.bar2At (s.keySrc + 97)).toNat < 8 → s.keySrc + 196 ≤ bar2Size →
      ∃ t, exec .enrolImg s = .next t ∧
      (s.keys.lc ≠ 2 ∨ s.endorsed (s.bar2Read s.keySrc 196) = true → t.fld F.KEY_STATUS_RESULT = 1 ∧
        t.keys.imgKeys.get none (s.bar2At (s.keySrc + 97)).toNat = some (s.bar2Read s.keySrc 97) ∧
        (∀ k, k ≠ (s.bar2At (s.keySrc + 97)).toNat → t.keys.imgKeys.get none k = s.keys.imgKeys.get none k) ∧
        State.Frame [R.KEY_STATUS] [.keys] s t) ∧
      (s.keys.lc = 2 → s.endorsed (s.bar2Read s.keySrc 196) = false → t.fld F.KEY_STATUS_RESULT = 2 ∧ t.keys = s.keys ∧
        t.reg R.KEY_PARSE = parseWord Blk.KEY 0x24 0)) ∧
  (∀ s : State, s.running = true → s.flag F.KEY_STATUS_BUSY = false → s.nandStopped = false → s.keyArg < 8 →
      (s.keys.lc ≠ 2 ∨ s.imgSlots ≠ [s.keyArg]) → ∃ t, exec .revokeImg s = .next t ∧ t.keys.imgKeys.get none s.keyArg = none ∧
      (∀ k, k ≠ s.keyArg → t.keys.imgKeys.get none k = s.keys.imgKeys.get none k) ∧ t.fld F.KEY_STATUS_RESULT = 1 ∧
      State.Frame [R.KEY_STATUS] [.keys] s t) ∧
  (∀ s : State, s.running = true → s.flag F.KEY_STATUS_BUSY = false → s.keyArg < 8 → s.keys.lc = 2 → s.imgSlots = [s.keyArg] →
      ∃ t, exec .revokeImg s = .next t ∧ t.reg R.KEY_PARSE = parseWord Blk.KEY 0x23 0 ∧ t.fld F.KEY_STATUS_RESULT = 2 ∧
      State.Frame [R.KEY_STATUS, R.KEY_PARSE] [] s t) ∧
  (∀ (s : State) (n : Nat), s.running = true → n < 4 → n = s.keys.lc + 1 → ∃ t, exec (.lifeCycleKey1 n) s = .next t ∧
      t.key = { s.key with lcKey1 := some (n, s.mono) } ∧ State.Frame [] [.key] s t) ∧
  (∀ (s : State) (n : Nat), s.running = true → n % 4 ≠ s.keys.lc + 1 → ∃ t, exec (.lifeCycleKey1 n) s = .next t ∧
      t.key = { s.key with lcKey1 := none } ∧ State.Frame [] [.key] s t) ∧
  (∀ (s : State) (n at' : Nat), s.running = true → n < 4 → s.key.lcKey1 = some (n, at') → s.mono ≤ at' + 1000000000 → s.blkOn Blk.AUT = false →
      (n = 2 → s.imgSlots ≠ []) → s.fw.trial = false → ∃ t, exec (.lifeCycleKey2 n) s = .next t ∧
      t.keys = { s.keys with lc := n, root := none, pairRoot := none, bgen := 0, imgKeys := if n = 2 then s.keys.imgKeys else [], seqStore := none } ∧
      t.fw.stage = none ∧ t.fw.receiving = none ∧ t.fw.run = s.fw.run ∧ t.running = false ∧ t.fld F.RST_STATUS_CAUSE = 4 ∧
      (n = 2 → t.log.perm = [])) ∧
  (∀ (s : State) (n at' : Nat), s.running = true → n < 4 → s.key.lcKey1 = some (n, at') → s.mono ≤ at' + 1000000000 → s.blkOn Blk.AUT = true →
      ∃ t, exec (.lifeCycleKey2 n) s = .next t ∧ t.keys = s.keys ∧ t.running = true ∧ t.reg R.KEY_PARSE = parseWord Blk.KEY 0x23 0 ∧
      t.key.lcKey1 = none) ∧
  (∀ (s : State) (at' : Nat), s.running = true → s.key.lcKey1 = some (2, at') → s.mono ≤ at' + 1000000000 → s.blkOn Blk.AUT = false →
      s.imgSlots = [] → ∃ t, exec (.lifeCycleKey2 2) s = .next t ∧ t.keys = s.keys ∧ t.running = true ∧
      t.reg R.KEY_PARSE = parseWord Blk.KEY 0x24 0) ∧
  (∀ (s : State) (n at' : Nat), s.running = true → n < 4 → n ≠ 2 → s.key.lcKey1 = some (n, at') → s.mono ≤ at' + 1000000000 →
      s.blkOn Blk.AUT = false → s.fw.trial = true → ∃ t, exec (.lifeCycleKey2 n) s = .next t ∧ t.keys = s.keys ∧ t.running = true ∧
      t.reg R.KEY_PARSE = parseWord Blk.UPD 0x29 0) ∧
  (∀ (s : State) (n at' : Nat), s.running = true → s.key.lcKey1 = some (n, at') → at' + 1000000000 < s.mono → ∃ t,
      exec (.lifeCycleKey2 n) s = .next t ∧ t.key = { s.key with lcKey1 := none } ∧ State.Frame [] [.key] s t) ∧
  (∀ (s : State) (mi e : Nat), s.running = true → s.nand.quarantine.get none mi = some e → e ≤ s.nand.validNs → ∃ t,
      exec (.quarantineExpiry mi) s = .next t ∧ t.quarantined mi = false ∧ (∀ k, k ≠ mi → t.quarantined k = s.quarantined k) ∧
      t.nand = { s.nand with quarantine := t.nand.quarantine } ∧ State.Frame [] [.nand, .ahn, .out] s t) ∧
  (∀ (s : State) (mi e : Nat), s.running = true → s.nand.quarantine.get none mi = some e → s.nand.validNs < e →
      exec (.quarantineExpiry mi) s = .next s)

/-- Firmware transfers, the loader's copy and trials (R320, R422–R425, R428). -/
def Obligations.FirmwareUpdate : Prop :=
  (∀ s : State, s.works Blk.UPD → s.nandStopped = false → ∃ t, exec .begin s = .next t ∧
      t.fw = { s.fw with stage := none, received := [], receiving := some (s.reg R.UPD_TOTAL).toNat } ∧ t.fld F.UPD_STATUS_RESULT = 1 ∧
      State.Frame [R.UPD_STATUS] [.fw] s t) ∧
  (∀ (s : State) (b : List Byte) (total : Nat), s.works Blk.UPD → s.nandStopped = false → s.fw.receiving = some total →
      b = s.bar2Read (s.fld F.UPD_SRC_OFFSET * 8) (s.fld F.UPD_LEN_LEN) → crc32 b = (s.reg R.UPD_CRC).toNat →
      s.fld F.UPD_OFF_UNIT < fwUnits total → s.fld F.UPD_LEN_LEN = fwUnitLen total (s.fld F.UPD_OFF_UNIT) →
      s.fld F.UPD_LEN_LEN % 8 = 0 → 8 ≤ s.fld F.UPD_LEN_LEN → ∃ t, exec .block s = .next t ∧
      t.fw = { s.fw with received := t.fw.received } ∧ t.fw.received.get none (s.fld F.UPD_OFF_UNIT) = some b ∧
      (∀ k, k ≠ s.fld F.UPD_OFF_UNIT → t.fw.received.get none k = s.fw.received.get none k) ∧ t.fld F.UPD_STATUS_RESULT = 1 ∧
      State.Frame [R.UPD_STATUS] [.fw] s t) ∧
  (∀ (s : State) (b : List Byte), s.works Blk.UPD → s.nandStopped = false → b = s.bar2Read (s.fld F.UPD_SRC_OFFSET * 8) (s.fld F.UPD_LEN_LEN) →
      crc32 b ≠ (s.reg R.UPD_CRC).toNat → ∃ t, exec .block s = .next t ∧ t.reg R.UPD_PARSE = parseWord Blk.UPD 0x27 0 ∧
      t.fld F.UPD_STATUS_RESULT = 2 ∧ State.Frame [R.UPD_STATUS, R.UPD_PARSE] [] s t) ∧
  (∀ (s : State) (b : List Byte) (total : Nat), s.works Blk.UPD → s.nandStopped = false → s.fw.receiving = some total →
      b = s.bar2Read (s.fld F.UPD_SRC_OFFSET * 8) (s.fld F.UPD_LEN_LEN) → crc32 b = (s.reg R.UPD_CRC).toNat →
      (fwUnits total ≤ s.fld F.UPD_OFF_UNIT ∨ s.fld F.UPD_LEN_LEN ≠ fwUnitLen total (s.fld F.UPD_OFF_UNIT)) → ∃ t,
      exec .block s = .next t ∧ t.reg R.UPD_PARSE = parseWord Blk.UPD 0x28 0 ∧ t.fld F.UPD_STATUS_RESULT = 2 ∧
      State.Frame [R.UPD_STATUS, R.UPD_PARSE] [] s t) ∧
  (∀ (s : State) (img : List Byte) (total : Nat), s.works Blk.UPD → s.nandStopped = false → s.fw.receiving = some total →
      s.fw.image total = some img → s.fwCheck img (s.reg R.UPD_TOTAL).toNat = none → ∃ t, exec .finish s = .next t ∧
      t.fw = { s.fw with stage := some img, receiving := none, received := [] } ∧ t.fld F.UPD_STATUS_RESULT = 1 ∧
      t.pend Ev.UPD_STAGE = true ∧ State.ReportFrame [R.UPD_STATUS] [.fw] s t) ∧
  (∀ (s : State) (img : List Byte) (total r : Nat), s.works Blk.UPD → s.nandStopped = false → s.fw.receiving = some total →
      s.fw.image total = some img → s.fwCheck img (s.reg R.UPD_TOTAL).toNat = some r → ∃ t, exec .finish s = .next t ∧ t.fw = s.fw ∧
      t.reg R.UPD_PARSE = parseWord Blk.UPD r 0 ∧ t.fld F.UPD_STATUS_RESULT = 2 ∧ t.pend Ev.UPD_STAGE = true) ∧
  (∀ (s : State) (total n : Nat), s.works Blk.UPD → s.nandStopped = false → s.fw.receiving = some total → n < fwUnits total →
      s.fw.received.get none n = none → ∃ t, exec .finish s = .next t ∧ t.fw = s.fw ∧ t.reg R.UPD_PARSE = parseWord Blk.UPD 0x25 0 ∧
      t.fld F.UPD_STATUS_RESULT = 2 ∧ t.pend Ev.UPD_STAGE = true) ∧
  (∀ (s : State) (total : Nat), s.works Blk.UPD → s.fw.receiving = some total → ∃ t, exec .updAbort s = .next t ∧
      t.fw = { s.fw with receiving := none, received := [] } ∧ t.fld F.UPD_STATUS_RESULT = 1 ∧ State.Frame [R.UPD_STATUS] [.fw] s t) ∧
  (∀ (s : State) (img : List Byte), s.works Blk.UPD → s.fw.trial = true → s.fw.run = some img → ∃ t, exec .confirm s = .next t ∧
      t.fw = { s.fw with trial := false, trialResets := 0, revert := false, rollback := max s.fw.rollback (fwRollback img) } ∧
      t.fld F.UPD_STATUS_RESULT = 1 ∧ t.pend Ev.UPD_END = true ∧ State.ReportFrame [R.UPD_STATUS] [.fw] s t) ∧
  (∀ (s : State) (prev : List Byte), s.works Blk.UPD → s.fw.prev = some prev → fwRollback prev < s.fw.rollback → ∃ t,
      exec .revert s = .next t ∧ t.reg R.UPD_PARSE = parseWord Blk.UPD 0x26 0 ∧ t.fld F.UPD_STATUS_RESULT = 2 ∧
      State.Frame [R.UPD_STATUS, R.UPD_PARSE] [] s t) ∧
  (∀ (s : State) (prev : List Byte), s.works Blk.UPD → s.fw.prev = some prev → s.fw.rollback ≤ fwRollback prev →
      (s.isActive = false ∨ s.partnerReady = false) → ∃ t, exec .revert s = .next t ∧ t.running = false ∧ t.fw.revert = true ∧
      t.fw.prev = s.fw.prev ∧ t.fw.run = s.fw.run ∧ t.upd.copyDue = true) ∧
  (∀ (s : State) (prev : List Byte), s.works Blk.UPD → s.fw.prev = some prev → s.fw.rollback ≤ fwRollback prev → s.isActive = true →
      s.partnerReady = true → ∃ t, exec .revert s = .next t ∧ t.running = true ∧ t.isActive = true ∧ t.ahn.swap.isSome = true ∧
      t.fw = { s.fw with revert := true } ∧ t.fld F.UPD_STATUS_RESULT = 1) ∧
  (∀ s : State, s.running = true → s.fw.revert = false → s.fw.trial = true →
      s.passed s.upd.trialAt (s.fld F.UPD_TRIAL_TRIAL_S * nsPerSec) = true → (s.isActive = false ∨ s.partnerReady = false) → ∃ t,
      exec .trialExpiry s = .next t ∧ t.running = false ∧ t.fw.revert = true ∧ t.fw.trial = true ∧ t.fw.prev = s.fw.prev) ∧
  (∀ s : State, s.running = true → s.fw.revert = false → s.fw.trial = false → exec .trialExpiry s = .next s) ∧
  (∀ (s : State) (img run : List Byte), s.running = true → s.sim.applied = some img → s.expert Blk.UPD = false →
      (∀ b ∈ Blk.image, imgPresent img b = true → s.blkOn b = true) → s.ahn.role ≠ .none → s.passed s.ahn.roleSince (60 * nsPerSec) = true →
      s.fw.trial = true → s.fw.run = some run → ∃ t, exec .autoConfirm s = .next t ∧
      t.fw = { s.fw with trial := false, trialResets := 0, revert := false, rollback := max s.fw.rollback (fwRollback run) } ∧
      t.pend Ev.UPD_END = true ∧ State.ReportFrame [] [.fw] s t) ∧
  (∀ s : State, s.running = true → (s.expert Blk.UPD = true ∨ s.ahn.role = .none) → exec .autoConfirm s = .next s) ∧
  (∀ (s : State) (img : List Byte), s.running = true → s.upd.copyDue = true → s.fw.revert = false → s.fw.stage = some img →
      s.fwCheck img (Bytes.at' img 24 4) = none → s.fw.prevDone = false → ∃ t, exec (.updateCopy true) s = .next t ∧
      t.fw = { s.fw with run := some img, prev := s.fw.run, stage := none, trial := true, trialResets := 0 } ∧
      t.upd = ⟨s.mono, false⟩ ∧ t.pend Ev.UPD_COPIED = true ∧ State.ReportFrame [] [.fw, .upd] s t) ∧
  (∀ (s : State) (img : List Byte), s.running = true → s.upd.copyDue = true → s.fw.revert = false → s.fw.stage = some img →
      s.fwCheck img (Bytes.at' img 24 4) = none → ∃ t, exec (.updateCopy false) s = .next t ∧ t.fw.stage = some img ∧
      t.fw.prevDone = true ∧ t.fw.trial = s.fw.trial ∧ t.fw.prev = (if s.fw.prevDone then s.fw.prev else s.fw.run)) ∧
  (∀ (s : State) (c : Bool) (img : List Byte) (r : Nat), s.running = true → s.upd.copyDue = true → s.fw.revert = false → s.fw.stage = some img →
      s.fwCheck img (Bytes.at' img 24 4) = some r → ∃ t, exec (.updateCopy c) s = .next t ∧ t.fw.trial = s.fw.trial ∧
      t.fw.run = (if s.fw.prevDone then s.fw.prev else s.fw.run) ∧ State.Frame [] [.fw, .upd] s t) ∧
  (∀ (s : State) (c : Bool), s.running = true → s.upd.copyDue = true → s.fw.revert = true → ∃ t, exec (.updateCopy c) s = .next t ∧
      t.fw = { s.fw with run := s.fw.prev, trial := false, trialResets := 0, revert := false, prevDone := false } ∧
      t.pend Ev.UPD_END = true ∧ State.ReportFrame [] [.fw, .upd, .freeCtr] s t) ∧
  (∀ (s : State) (c : Bool), s.running = true → s.upd.copyDue = false → exec (.updateCopy c) s = .next s) ∧
  (∀ (s : State) (w : Swap), s.works Blk.AHN → s.isActive = true → s.ahn.swap = some w → w.slotAt ≤ s.mono + 3000000 → w.cause ≠ 2 →
      s.fw.revert = false → ∃ t, exec .plannedSwapRelease s = .next t ∧ t.isActive = false ∧ t.ahn.roleOut = false ∧
      t.fld F.AHN_SWAP_RESULT = 2 ∧ t.pend Ev.AHN_SWAP_DONE = true) ∧
  (∀ (s : State) (w : Swap), s.works Blk.AHN → s.isActive = true → s.ahn.swap = some w → s.mono + 3000000 < w.slotAt →
      w.slotAt ≤ s.mono + 4000000 → ∃ t, exec .plannedSwapRelease s = .next t ∧ t.ahn.role = .active ∧
      t.ahn.swap = some { w with sent := true } ∧ State.Frame [] [.ahn, .out] s t) ∧
  (∀ (s : State) (w : Swap), s.works Blk.AHN → s.isActive = true → s.ahn.swap = some w → s.mono + 4000000 < w.slotAt →
      exec .plannedSwapRelease s = .next s)

/-! ## EVT, HST and XQ (R330–R343, R347–R352) -/

/-- Events, vectors and the PCIe link (R331, R336, R340, R342, R343, R351, R359). -/
def Obligations.EventsAndVectors : Prop :=
  (∀ (s : State) (n : Nat), s.running = true → 240 ≤ n → n < 256 → ∃ t, exec (.evtRaise n) s = .next t ∧ t.pend n = true ∧
      State.ReportFrame [] [] s t) ∧
  (∀ (s : State) (n : Nat), s.running = true → (n < 240 ∨ 256 ≤ n) → exec (.evtRaise n) s = .next s) ∧
  (∀ (s : State) (n v : Nat), s.running = true → 240 ≤ n → n < 256 → s.flagB n F.EVT_ROUTE_HOST_EN = true → s.flagB n F.EVT_ROUTE_REC_EN = false →
      v = s.fldB n F.EVT_ROUTE_VEC → s.pend n = false → s.msixLive = true → s.evt.fresh.get false v = true → s.flag (maskFld v) = false →
      s.evt.vecLast.get none v = none → ∃ t, exec (.evtRaise n) s = .next t ∧ t.pend n = true ∧
      t.out = .msix v ((s.reg (R.HST_MSIX + 16 * v)).toNat + 2 ^ 32 * (s.reg (R.HST_MSIX + 16 * v + 4)).toNat)
        (s.reg (R.HST_MSIX + 16 * v + 8)).toNat :: s.out ∧ t.evt.vecLast.get none v = some s.mono) ∧
  (∀ (s : State) (n : Nat), s.running = true → 240 ≤ n → n < 256 → s.flagB n F.EVT_ROUTE_REC_EN = false → s.pend n = true →
      ∃ t, exec (.evtRaise n) s = .next t ∧ t.evt = { s.evt with raises := s.evt.raises + 1, raisedAt := s.evt.raisedAt.set 0 n (s.evt.raises + 1) } ∧
      State.Frame [] [.evt] s t) ∧
  (∀ (s : State) (n : Nat) (m : Word), s.running = true → n < 8 → ∃ t, exec (.pendingClear n m) s = .next t ∧
      t.reg (R.EVT_PEND + 4 * n) = s.reg (R.EVT_PEND + 4 * n) &&& ~~~m ∧ State.Frame [R.EVT_PEND + 4 * n] [] s t) ∧
  (∀ (s : State) (v at' : Nat), s.running = true → s.evt.vecWait.get false v = true → s.evt.vecLast.get none v = some at' →
      s.passed at' (s.fldB v F.EVT_VEC_MOD_MOD_US * 1000) = true → s.msixLive = true → s.evt.fresh.get false v = true →
      s.flag (maskFld v) = false → ∃ t, exec (.vectorModerationExpiry v) s = .next t ∧ t.evt.vecWait.get false v = false ∧
      t.evt.vecLast.get none v = some s.mono ∧ t.out.length = s.out.length + 1 ∧ State.Frame [] [.evt, .out] s t) ∧
  (∀ (s : State) (v : Nat), s.running = true → s.evt.vecWait.get false v = false → exec (.vectorModerationExpiry v) s = .next s) ∧
  (∀ (s : State) (v : Nat), s.running = true → v < 64 → s.flag (pbaFld v) = true → s.msixLive = true → s.evt.fresh.get false v = true →
      ∃ t, exec (.msixVectorUnmask v) s = .next t ∧ t.flag (maskFld v) = false ∧ t.flag (pbaFld v) = false ∧
      t.out = .msix v ((s.reg (R.HST_MSIX + 16 * v)).toNat + 2 ^ 32 * (s.reg (R.HST_MSIX + 16 * v + 4)).toNat)
        (s.reg (R.HST_MSIX + 16 * v + 8)).toNat :: s.out) ∧
  (∀ (s : State) (v : Nat), s.running = true → v < 64 → s.flag (pbaFld v) = false → ∃ t, exec (.msixVectorUnmask v) s = .next t ∧
      t.flag (maskFld v) = false ∧ State.Frame [R.HST_MSIX + 16 * v + 12] [] s t) ∧
  (∀ s : State, s.running = true → ∃ t, exec .perst s = .next t ∧ t.pins = { s.pins with perstHigh := false } ∧
      t.flag F.HST_STATUS_LINK_UP = false ∧ t.flag F.HST_STATUS_BME = false ∧ t.pend Ev.HST_HOST_LINK_DOWN = true ∧
      (∀ n ∈ List.range 256, t.reg (R.HST_MSIX + 4 * n) = Regs.resetWord (R.HST_MSIX + 4 * n)) ∧
      State.ReportFrame (R.HST_STATUS :: (List.range 258).map fun i => R.HST_MSIX + 4 * i) [.pins] s t) ∧
  (∀ s : State, s.running = false → ∃ t, exec .perst s = .next t ∧ t.pins = { s.pins with perstHigh := false } ∧ State.Frame [] [.pins] s t) ∧
  (∀ s : State, s.running = true → s.flag F.HST_STATUS_LINK_UP = true → ∃ t, exec .hostLinkDown s = .next t ∧
      t.flag F.HST_STATUS_LINK_UP = false ∧ t.flag F.HST_STATUS_BME = false ∧ t.pend Ev.HST_HOST_LINK_DOWN = true ∧
      State.ReportFrame (R.HST_STATUS :: (List.range 258).map fun i => R.HST_MSIX + 4 * i) [] s t) ∧
  (∀ s : State, s.running = true → s.flag F.HST_STATUS_LINK_UP = false → exec .hostLinkDown s = .next s) ∧
  (∀ (s : State) (sp w : Nat), s.running = true → s.flag F.HST_STATUS_LINK_UP = false → sp ≤ F.HST_STATUS_SPEED.max → w ≤ F.HST_STATUS_WIDTH.max →
      ∃ t, exec (.hostLinkUp sp w) s = .next t ∧ t.flag F.HST_STATUS_LINK_UP = true ∧ t.fld F.HST_STATUS_SPEED = sp ∧
      t.fld F.HST_STATUS_WIDTH = w ∧ t.pins = { s.pins with perstHigh := true } ∧ t.pend Ev.HST_HOST_LINK_UP = true ∧
      State.ReportFrame [R.HST_STATUS] [.pins] s t) ∧
  (∀ (s : State) (b : Bool), s.running = true → ∃ t, exec (.busMasterEnableChange b) s = .next t ∧ t.flag F.HST_STATUS_BME = b ∧
      t.flag F.HST_STATUS_LINK_UP = s.flag F.HST_STATUS_LINK_UP ∧ State.Frame [R.HST_STATUS] [] s t) ∧
  (∀ s : State, s.running = true → ∃ t, exec (.pcieError true) s = .next t ∧ t.pend Ev.HST_PCIE_ERROR = true ∧
      t.fld (F.HST_CNT_COUNT.nth 3) = min (s.fld (F.HST_CNT_COUNT.nth 3) + 1) (2 ^ 32 - 1) ∧ State.ReportFrame [R.HST_CNT + 12] [] s t) ∧
  (∀ s : State, s.running = true → ∃ t, exec (.pcieError false) s = .next t ∧ t.pend Ev.HST_PCIE_ERROR = true ∧ State.ReportFrame [] [] s t)

/-- Doorbells, ring enable and the crossing queues (R334, R335, R349, R350, R352). -/
def Obligations.RingsAndQueues : Prop :=
  (∀ (s : State) (r : Nat) (v : Word) (g : Ring), s.running = true → s.ringEn r = true → s.ringDir r = dirOut →
      g = { s.ring r with c := F.HST_DB_INDEX.get v } → g.used ≤ s.ringCount r → ∃ t, exec (.doorbellWrite r v) s = .next t ∧
      t.ring r = { g with armed := (s.ring r).armed || F.HST_DB_ARM.get v == 1 } ∧ (∀ k, k ≠ r → t.ring k = s.ring k) ∧
      State.Frame [] [.rings] s t) ∧
  (∀ (s : State) (r : Nat) (v : Word) (g : Ring), s.running = true → s.ringEn r = true → s.ringDir r = dirIn →
      g = { s.ring r with p := F.HST_DB_INDEX.get v } → g.used ≤ s.ringCount r → ∃ t, exec (.doorbellWrite r v) s = .next t ∧
      t.ring r = { g with armed := (s.ring r).armed || F.HST_DB_ARM.get v == 1 } ∧ (∀ k, k ≠ r → t.ring k = s.ring k) ∧
      State.Frame [] [.rings] s t) ∧
  (∀ (s : State) (r : Nat) (v : Word), s.running = true → (s.ringEn r = false ∨ s.ringDir r = dirLocal ∨
        (s.ringDir r = dirOut ∧ s.ringCount r < ({ s.ring r with c := F.HST_DB_INDEX.get v } : Ring).used) ∨
        (s.ringDir r = dirIn ∧ s.ringCount r < ({ s.ring r with p := F.HST_DB_INDEX.get v } : Ring).used)) →
      ∃ t, exec (.doorbellWrite r v) s = .next t ∧
      t.fld (F.HST_CNT_COUNT.nth 2) = min (s.fld (F.HST_CNT_COUNT.nth 2) + 1) (2 ^ 32 - 1) ∧ State.Frame [R.HST_CNT + 8] [] s t) ∧
  (∀ (s : State) (v : Word) (r : Nat), s.running = true → r = s.fld F.HST_RING_IDX_RING → s.ringEn r = false → F.HST_RING_CFG_DIR.get v ≤ 2 →
      F.HST_RING_CFG_LOG2_COUNT.get v ≤ 12 → 4 ≤ F.HST_RING_CFG_SLOT_LOG2.get v → F.HST_RING_CFG_SLOT_LOG2.get v ≤ 12 →
      F.HST_RING_CFG_MODE.get v = 0 →
      s.ringBase r + 2 ^ (F.HST_RING_CFG_LOG2_COUNT.get v + 4) * 2 ^ F.HST_RING_CFG_SLOT_LOG2.get v ≤ bar2Size →
      (∀ k ∈ List.range 1024, s.ringEn k = false) → ∃ t, exec (.ringEnable v) s = .next t ∧ t.ringEn r = true ∧
      t.ringDir r = F.HST_RING_CFG_DIR.get v ∧ t.ringCount r = 2 ^ (F.HST_RING_CFG_LOG2_COUNT.get v + 4) ∧
      t.ringSlot r = 2 ^ F.HST_RING_CFG_SLOT_LOG2.get v ∧ t.ring r = { s.ring r with p := 0, c := 0 } ∧
      (∀ k, k ≠ r → t.ring k = s.ring k ∧ t.ringEn k = s.ringEn k) ∧ State.Frame [R.HST_RING_CFG] [.rings] s t) ∧
  (∀ (s : State) (v : Word) (r : Nat), s.running = true → r = s.fld F.HST_RING_IDX_RING → s.ringEn r = false → F.HST_RING_CFG_DIR.get v ≤ 2 →
      F.HST_RING_CFG_LOG2_COUNT.get v ≤ 12 → 4 ≤ F.HST_RING_CFG_SLOT_LOG2.get v → F.HST_RING_CFG_SLOT_LOG2.get v ≤ 12 →
      bar2Size < s.ringBase r + 2 ^ (F.HST_RING_CFG_LOG2_COUNT.get v + 4) * 2 ^ F.HST_RING_CFG_SLOT_LOG2.get v →
      ∃ t, exec (.ringEnable v) s = .next t ∧ t.ringEn r = false ∧ t.reg R.HST_PARSE = parseWord Blk.HST 0x20 (r % 256) ∧
      t.pend Ev.HST_RING_REFUSED = true ∧ State.ReportFrame [R.HST_RING_CFG, R.HST_PARSE] [] s t) ∧
  (∀ (s : State) (v : Word) (r k : Nat), s.running = true → r = s.fld F.HST_RING_IDX_RING → s.ringEn r = false → F.HST_RING_CFG_DIR.get v ≤ 2 →
      F.HST_RING_CFG_LOG2_COUNT.get v ≤ 12 → 4 ≤ F.HST_RING_CFG_SLOT_LOG2.get v → F.HST_RING_CFG_SLOT_LOG2.get v ≤ 12 →
      s.ringBase r + 2 ^ (F.HST_RING_CFG_LOG2_COUNT.get v + 4) * 2 ^ F.HST_RING_CFG_SLOT_LOG2.get v ≤ bar2Size →
      k < 1024 → k ≠ r → s.ringEn k = true → s.ringBase k = s.ringBase r → ∃ t, exec (.ringEnable v) s = .next t ∧ t.ringEn r = false ∧
      t.reg R.HST_PARSE = parseWord Blk.HST 0x21 (r % 256) ∧ t.pend Ev.HST_RING_REFUSED = true) ∧
  (∀ (s : State) (v : Word) (r : Nat), s.running = true → r = s.fld F.HST_RING_IDX_RING → s.ringEn r = true → ∃ t,
      exec (.ringEnable v) s = .next t ∧ t.ringEn r = true ∧ t.ringDir r = s.ringDir r ∧ t.ringCount r = s.ringCount r ∧
      t.ringSlot r = s.ringSlot r ∧ t.fldB r F.HST_RING_CFG_VEC = F.HST_RING_CFG_VEC.get v ∧ State.Frame [R.HST_RING_CFG] [] s t) ∧
  (∀ (s : State) (q : Nat), s.works Blk.XQ → s.xqConnected q = true → s.expert Blk.XQ = false → ∃ t,
      exec (.queuePointerMismatch q) s = .next t ∧ t.xqueue q = { s.xqueue q with items := [], dropping := false } ∧
      (∀ k, k ≠ q → t.xqueue k = s.xqueue k) ∧ t.fldB q F.XQ_Q_STAT_RESETS = (s.fldB q F.XQ_Q_STAT_RESETS + 1) % 256 ∧
      (t.reg (R.XQ_RST + 4 * (q / 32))).getLsbD (q % 32) = true ∧ t.pend Ev.XQ_RESET = true) ∧
  (∀ (s : State) (q : Nat), s.works Blk.XQ → s.xqConnected q = true → s.expert Blk.XQ = true → ∃ t,
      exec (.queuePointerMismatch q) s = .next t ∧ t.xqueue q = { s.xqueue q with items := [], dropping := false, held := true } ∧
      (∀ k, k ≠ q → t.xqueue k = s.xqueue k) ∧ t.pend Ev.XQ_RESET = true ∧ t.pend Ev.XQ_HELD = true) ∧
  (∀ (s : State) (q : Nat), s.works Blk.XQ → s.xqConnected q = false → exec (.queuePointerMismatch q) s = .next s) ∧
  (∀ (s : State) (q : Nat), s.works Blk.XQ → q = s.fld F.XQ_Q_IDX_QUEUE → s.xqConnected q = true → s.xqPacket q = false →
      ∃ t, exec .queueDrop s = .next t ∧ t.xqueue q = { s.xqueue q with items := [] } ∧
      t.fldB q F.XQ_Q_STAT_DROPS = min (s.fldB q F.XQ_Q_STAT_DROPS + (s.xqueue q).items.length) F.XQ_Q_STAT_DROPS.max ∧
      (∀ k, k ≠ q → t.xqueue k = s.xqueue k) ∧ State.Frame [R.XQ_Q_STAT] [.xq] s t) ∧
  (∀ (s : State) (q n : Nat) (rest : List (Nat × Bool)), s.works Blk.XQ → q = s.fld F.XQ_Q_IDX_QUEUE → s.xqConnected q = true →
      s.xqPacket q = true → splitPacket (s.xqueue q).items = some (n, rest) → ∃ t, exec .queueDrop s = .next t ∧
      t.xqueue q = { s.xqueue q with items := rest } ∧
      t.fldB q F.XQ_Q_STAT_DROPS = min (s.fldB q F.XQ_Q_STAT_DROPS + n) F.XQ_Q_STAT_DROPS.max ∧ State.Frame [R.XQ_Q_STAT] [.xq] s t) ∧
  (∀ (s : State) (q : Nat), s.works Blk.XQ → q = s.fld F.XQ_Q_IDX_QUEUE → s.xqConnected q = true → s.xqPacket q = true →
      (∀ i ∈ (s.xqueue q).items, i.2 = false) → ∃ t, exec .queueDrop s = .next t ∧
      t.xqueue q = { s.xqueue q with items := [], dropping := true } ∧
      t.fldB q F.XQ_Q_STAT_DROPS = min (s.fldB q F.XQ_Q_STAT_DROPS + (s.xqueue q).items.length) F.XQ_Q_STAT_DROPS.max ∧
      State.Frame [R.XQ_Q_STAT] [.xq] s t) ∧
  (∀ (s : State) (q : Nat), s.works Blk.XQ → q = s.fld F.XQ_Q_IDX_QUEUE → s.xqConnected q = true → s.expert Blk.XQ = true → ∃ t,
      exec .queueReset s = .next t ∧ t.xqueue q = { s.xqueue q with items := [], dropping := false, held := true } ∧
      t.fldB q F.XQ_Q_STAT_RESETS = (s.fldB q F.XQ_Q_STAT_RESETS + 1) % 256 ∧ t.pend Ev.XQ_RESET = true ∧ t.pend Ev.XQ_HELD = true) ∧
  (∀ s : State, s.works Blk.XQ → s.expert Blk.XQ = false → exec .queueReset s = .next s) ∧
  (∀ (s : State) (q : Nat), s.works Blk.XQ → q = s.fld F.XQ_Q_IDX_QUEUE → s.expert Blk.XQ = true → ∃ t, exec .queueResume s = .next t ∧
      t.xqueue q = { s.xqueue q with held := false } ∧ (∀ k, k ≠ q → t.xqueue k = s.xqueue k) ∧ State.Frame [] [.xq] s t) ∧
  (∀ s : State, s.works Blk.XQ → s.expert Blk.XQ = false → exec .queueResume s = .next s)

/-! ## ETH and LOG (R344–R346, R357–R359, R431–R443) -/

/-- The packet engine, transmit rings, forward entries, rules (R344–R346, R351, R357–R359). -/
def Obligations.PacketEngine : Prop :=
  (∀ (s : State) (p : Nat) (f : List Byte) (r ring : Nat), s.running = true → s.flagB p F.ETH_PORT_STAT_LINK = true → 60 ≤ f.length →
      f.length ≤ 9212 → frameDst f = s.mac p → s.ptpTakes p f = false → s.arpForUs p f = false → (isIpv4 f && ipv4Bad f) = false →
      s.firstRule p f = some r → ring = s.fldB r F.ETH_RULE_ACT_RING → s.ringEn ring = true → s.ringDir ring = dirLocal →
      s.ringDma ring = false → (s.ring ring).used ≠ s.ringCount ring → (s.rulePayload r f).length + 8 ≤ s.ringSlot ring →
      s.slotAt ring (s.ring ring).p + s.ringSlot ring ≤ bar2Size → (s.ring ring).armed = false → ∃ t,
      exec (.ethFrameRx p f true) s = .next t ∧
      t.bar2Read (s.slotAt ring (s.ring ring).p + 8) (s.rulePayload r f).length = s.rulePayload r f ∧
      t.ring ring = { s.ring ring with p := ((s.ring ring).p + 1) % 2 ^ 24, rseq := ((s.ring ring).rseq + 1) % 2 ^ 32 } ∧
      t.fldB p (ethCnt 0) = min (s.fldB p (ethCnt 0) + 1) (2 ^ 32 - 1) ∧
      (∀ a, a < s.slotAt ring (s.ring ring).p ∨ s.slotAt ring (s.ring ring).p + s.ringSlot ring ≤ a → t.bar2At a = s.bar2At a)) ∧
  (∀ (s : State) (p : Nat) (f : List Byte), s.running = true → s.flagB p F.ETH_PORT_STAT_LINK = true → 60 ≤ f.length → f.length ≤ 9212 →
      frameDst f = s.mac p → s.ptpTakes p f = false → s.arpForUs p f = false → (isIpv4 f && ipv4Bad f) = false →
      s.firstRule p f = none → s.flagB p F.ETH_PORT_CFG_DEF_EN = false → ∃ t, exec (.ethFrameRx p f true) s = .next t ∧ State.ReportFrame [R.ETH_CNT, R.ETH_CNT + 8] [.eth] s t ∧
      t.fldB p (ethCnt 0) = min (s.fldB p (ethCnt 0) + 1) (2 ^ 32 - 1) ∧ t.fldB p (ethCnt 2) = min (s.fldB p (ethCnt 2) + 1) (2 ^ 32 - 1)) ∧
  (∀ (s : State) (p : Nat) (f : List Byte), s.running = true → s.flagB p F.ETH_PORT_STAT_LINK = true → 60 ≤ f.length → f.length ≤ 9212 →
      frameDst f = s.mac p → s.ptpTakes p f = false → s.arpForUs p f = true → s.ethCanSend p = true → ∃ t,
      exec (.ethFrameRx p f true) s = .next t ∧ t.out.head? = some (.eth p (s.arpReply p f ++ List.replicate (60 - (s.arpReply p f).length) 0#8)) ∧
      t.fldB p (ethCnt 1) = min (s.fldB p (ethCnt 1) + 1) (2 ^ 32 - 1) ∧ State.Frame [R.ETH_CNT, R.ETH_CNT + 4] [.out] s t) ∧
  (∀ (s : State) (p : Nat) (f : List Byte), s.running = true → s.flagB p F.ETH_PORT_STAT_LINK = true → 60 ≤ f.length → f.length ≤ 9212 →
      frameDst f ∉ [s.mac p, macBroadcast, macPtp, macPtpPeer] → ∃ t, exec (.ethFrameRx p f true) s = .next t ∧
      State.Frame [R.ETH_CNT] [] s t) ∧
  (∀ (s : State) (p : Nat) (f : List Byte), s.running = true → s.flagB p F.ETH_PORT_STAT_LINK = true → 60 ≤ f.length → f.length ≤ 9212 →
      ∃ t, exec (.ethFrameRx p f false) s = .next t ∧ t.fldB p (ethCnt 3) = min (s.fldB p (ethCnt 3) + 1) (2 ^ 32 - 1) ∧
      State.Frame [R.ETH_CNT + 12] [] s t) ∧
  (∀ (s : State) (p : Nat) (f : List Byte) (ok : Bool), s.running = true → s.flagB p F.ETH_PORT_STAT_LINK = true → 9212 < f.length →
      ∃ t, exec (.ethFrameRx p f ok) s = .next t ∧ t.fldB p (ethCnt 5) = min (s.fldB p (ethCnt 5) + 1) (2 ^ 32 - 1) ∧
      State.Frame [R.ETH_CNT + 20] [] s t) ∧
  (∀ (s : State) (p ring : Nat) (f : List Byte), s.running = true → s.flagB p F.ETH_PORT_CFG_TXR_EN = true → s.ethCanSend p = true →
      ring = s.fldB p F.ETH_PORT_CFG_TX_RING → s.ringEn ring = true → s.ringDir ring = dirIn → s.ringDma ring = false →
      (s.ring ring).used ≠ 0 → (s.ring ring).armed = false →
      f = s.bar2Read (s.slotAt ring (s.ring ring).c + 8) (Bytes.toNat (s.bar2Read (s.slotAt ring (s.ring ring).c) 2)) →
      f.length ≤ 9212 → s.blkOn Blk.PTP = false → ∃ t, exec (.ethTxRingEntry p) s = .next t ∧
      t.out = .eth p (f ++ List.replicate (60 - f.length) 0#8) :: s.out ∧
      t.ring ring = { s.ring ring with c := ((s.ring ring).c + 1) % 2 ^ 24 } ∧ State.Frame [R.ETH_CNT + 4] [.rings, .out] s t) ∧
  (∀ (s : State) (p : Nat), s.running = true → s.ethCanSend p = false → exec (.ethTxRingEntry p) s = .next s) ∧
  (∀ (s : State) (w ring p : Nat), s.running = true → s.flagB w F.ETH_FWD_CFG_EN = true → p = s.fldB w F.ETH_FWD_CFG_PORT →
      s.ethCanSend p = true → ring = s.fldB w F.ETH_FWD_CFG_RING → s.ringEn ring = true → s.ringDir ring = dirLocal →
      s.ringDma ring = false → (s.ring ring).used ≠ 0 → (s.ring ring).armed = false → ∃ t f, exec (.forwardEntry w) s = .next t ∧
      t.out = .eth p f :: s.out ∧ f.take 14 = (s.bar2Read (s.fldB w F.ETH_FWD_TPL_OFFSET * 64) 42).take 14 ∧
      t.ring ring = { s.ring ring with c := ((s.ring ring).c + 1) % 2 ^ 24 } ∧
      t.fldB p (ethCnt 4) = min (s.fldB p (ethCnt 4) + 1) (2 ^ 32 - 1) ∧
      State.Frame [R.ETH_CNT + 4, R.ETH_CNT + 16] [.rings, .out, .freeCtr] s t) ∧
  (∀ (s : State) (w : Nat), s.running = true → s.ethCanSend (s.fldB w F.ETH_FWD_CFG_PORT) = false → exec (.forwardEntry w) s = .next s) ∧
  (∀ (s : State) (v : Word) (r : Nat), s.running = true → r = s.fld F.ETH_RULE_IDX_RULE → s.flagB r F.ETH_RULE_ACT_EN = false →
      s.ringEn (F.ETH_RULE_ACT_RING.get v) = true → s.ringDir (F.ETH_RULE_ACT_RING.get v) = dirLocal → F.ETH_RULE_ACT_UDP.get v = 0 →
      (∀ o ∈ s.outputs, o.2 ≠ F.ETH_RULE_ACT_RING.get v) → ringClash s.outputs = none → ∃ t, exec (.ruleEnable v) s = .next t ∧
      t.flagB r F.ETH_RULE_ACT_EN = true ∧ t.fldB r F.ETH_RULE_ACT_RING = F.ETH_RULE_ACT_RING.get v ∧
      t.fldB r F.ETH_RULE_ACT_PORTS = F.ETH_RULE_ACT_PORTS.get v ∧ State.Frame [R.ETH_RULE_ACT] [] s t) ∧
  (∀ (s : State) (v : Word) (r : Nat), s.running = true → r = s.fld F.ETH_RULE_IDX_RULE → s.flagB r F.ETH_RULE_ACT_EN = false →
      s.ringEn (F.ETH_RULE_ACT_RING.get v) = false → ∃ t, exec (.ruleEnable v) s = .next t ∧ t.flagB r F.ETH_RULE_ACT_EN = false ∧
      t.reg R.ETH_PARSE = parseWord Blk.ETH 0x20 0 ∧ t.pend Ev.HST_RING_REFUSED = true) ∧
  (∀ (s : State) (v : Word) (w : Nat), s.running = true → w = s.fld F.ETH_FWD_IDX_FWD → s.flagB w F.ETH_FWD_CFG_EN = false →
      s.ringEn (F.ETH_FWD_CFG_RING.get v) = true → s.ringDir (F.ETH_FWD_CFG_RING.get v) = dirLocal →
      s.fldB w F.ETH_FWD_TPL_OFFSET * 64 + 42 ≤ bar2Size → ∃ t, exec (.forwardEnable v) s = .next t ∧ t.flagB w F.ETH_FWD_CFG_EN = true ∧
      t.fldB w F.ETH_FWD_CFG_RING = F.ETH_FWD_CFG_RING.get v ∧ t.fldB w F.ETH_FWD_CFG_PORT = F.ETH_FWD_CFG_PORT.get v ∧
      State.Frame [R.ETH_FWD_CFG] [] s t) ∧
  (∀ (s : State) (p : Nat) (up : Bool), s.running = true → s.flagB p F.ETH_PORT_STAT_LINK = !up → ∃ t, exec (.ethLinkChange p up) s = .next t ∧
      t.flagB p F.ETH_PORT_STAT_LINK = up ∧ t.pend Ev.ETH_LINK = true ∧ State.ReportFrame [R.ETH_PORT_STAT] [] s t) ∧
  (∀ (s : State) (p : Nat) (up : Bool), s.running = true → s.flagB p F.ETH_PORT_STAT_LINK = up → exec (.ethLinkChange p up) s = .next s) ∧
  (∀ (s : State) (p : Nat) (a b c : Bool), s.running = true → ∃ t, exec (.sfpChange p a b c) s = .next t ∧
      t.flagB p F.ETH_PORT_STAT_SFP_PRESENT = a ∧ t.flagB p F.ETH_PORT_STAT_LOS = b ∧ t.flagB p F.ETH_PORT_STAT_TX_FAULT = c ∧
      t.pend Ev.ETH_SFP_CHANGE = true ∧ State.ReportFrame [R.ETH_PORT_STAT] [] s t)

/-- Reads of the logbook, writes of its buffer, repeat entries (R434, R435, R438, R439, R442, R443). -/
def Obligations.LogbookCommands : Prop :=
  (∀ s : State, s.running = true → s.flag F.LOG_STATUS_BUSY = false → s.log.circRecs ++ s.log.buf ≠ [] →
      seqGe s.log.next (s.fld F.LOG_RD_SEQ_SEQ) = true → s.fld F.LOG_DST_OFFSET * 8 + s.fld F.LOG_RD_MAX_BYTES ≤ bar2Size → ∃ t,
      exec .readCirc s = .next t ∧
      t.log = { s.log with read := some ⟨false, s.fld F.LOG_RD_SEQ_SEQ, s.fld F.LOG_RD_MAX_BYTES, s.fld F.LOG_DST_OFFSET * 8⟩ } ∧
      t.flag F.LOG_STATUS_BUSY = true ∧ State.Frame [R.LOG_STATUS] [.log] s t) ∧
  (∀ s : State, s.running = true → s.flag F.LOG_STATUS_BUSY = false → s.log.perm ≠ [] →
      seqGe s.log.next (s.fld F.LOG_RD_SEQ_SEQ) = true → s.fld F.LOG_DST_OFFSET * 8 + s.fld F.LOG_RD_MAX_BYTES ≤ bar2Size → ∃ t,
      exec .readPerm s = .next t ∧
      t.log = { s.log with read := some ⟨true, s.fld F.LOG_RD_SEQ_SEQ, s.fld F.LOG_RD_MAX_BYTES, s.fld F.LOG_DST_OFFSET * 8⟩ } ∧
      t.flag F.LOG_STATUS_BUSY = true ∧ State.Frame [R.LOG_STATUS] [.log] s t) ∧
  (∀ s : State, s.running = true → s.flag F.LOG_STATUS_BUSY = false →
      (s.log.circRecs ++ s.log.buf = [] ∨ seqGe s.log.next (s.fld F.LOG_RD_SEQ_SEQ) = false) → ∃ t, exec .readCirc s = .next t ∧
      t.reg R.LOG_PARSE = parseWord Blk.LOG 0x20 0 ∧ t.flag F.LOG_STATUS_DONE = true ∧ t.flag F.LOG_STATUS_BUSY = false ∧
      State.Frame [R.LOG_STATUS, R.LOG_PARSE] [] s t) ∧
  (∀ s : State, s.running = true → s.flag F.LOG_STATUS_BUSY = false → s.log.perm ≠ [] →
      seqGe s.log.next (s.fld F.LOG_RD_SEQ_SEQ) = true → bar2Size < s.fld F.LOG_DST_OFFSET * 8 + s.fld F.LOG_RD_MAX_BYTES → ∃ t,
      exec .readPerm s = .next t ∧ t.reg R.LOG_PARSE = parseWord Blk.LOG 0x21 0 ∧ State.Frame [R.LOG_STATUS, R.LOG_PARSE] [] s t) ∧
  (∀ s : State, s.running = true → s.flag F.LOG_STATUS_BUSY = true → exec .readCirc s = .next s) ∧
  (∀ (s : State) (rd : LogRead) (recs : List LogRec) (bytes : List Byte), s.running = true → s.log.read = some rd →
      recs = takeRecs rd.maxBytes ((s.logArea rd.perm).filter fun r => seqGe r.lseq rd.seq) → bytes = (recs.map LogRec.bytes).flatten →
      rd.dst + bytes.length ≤ bar2Size → ∃ t, exec (.logReadComplete none) s = .next t ∧ t.log = { s.log with read := none } ∧
      t.bar2Read rd.dst bytes.length = bytes ∧
      t.flag F.LOG_STATUS_BUSY = false ∧ t.fld F.LOG_STATUS_RESULT = 1 ∧ t.flag F.LOG_STATUS_DONE = true ∧
      t.reg R.LOG_RD_COUNT = BitVec.ofNat 32 bytes.length ∧ t.reg R.LOG_RD_RECS = BitVec.ofNat 32 recs.length ∧
      (∀ a, a < rd.dst ∨ rd.dst + bytes.length ≤ a → t.bar2At a = s.bar2At a)) ∧
  (∀ (s : State) (rd : LogRead) (n : Nat), s.running = true → s.log.read = some rd → rd.perm = false → ∃ t,
      exec (.logReadComplete (some n)) s = .next t ∧ t.log = { s.log with read := none } ∧ t.fld F.LOG_STATUS_RESULT = 3 ∧
      t.flag F.LOG_STATUS_BUSY = false ∧ t.flag F.LOG_STATUS_DONE = true ∧ (∀ a, a < rd.dst → t.bar2At a = s.bar2At a)) ∧
  (∀ (s : State) (o : Option Nat), s.running = true → s.log.read = none → exec (.logReadComplete o) s = .next s) ∧
  (∀ s : State, s.running = true → s.flag F.LOG_STATUS_BUSY = false → s.nandStopped = false → s.log.repeats = [] → s.log.dropped = 0 →
      (s.keys.lc < 2 ∨ s.flag F.LOG_STATUS_PERM_FULL = true) → ∃ t, exec .flush s = .next t ∧ t.log.buf = [] ∧ t.log.next = s.log.next ∧ t.fld F.LOG_STATUS_RESULT = 1 ∧
      t.flag F.LOG_STATUS_DONE = true) ∧
  (∀ s : State, s.running = true → s.flag F.LOG_STATUS_BUSY = true → exec .flush s = .next s) ∧
  (∀ (s : State), s.running = true → s.nandStopped = false → s.log.repeats = [] → s.log.dropped = 0 → s.log.buf = [] →
      ∃ t, exec (.logBufferWrite 0 0) s = .next t ∧ t.log.circ = s.log.circ ∧ t.log.perm = s.log.perm ∧ t.log.buf = [] ∧
      State.Frame [R.LOG_CNT + 8] [.log] s t) ∧
  (∀ (s : State) (p u : Nat), s.running = true → s.nandStopped = false → 0 < p + u → s.log.repeats = [] → s.log.dropped = 0 → s.log.buf = [] → ∃ t,
      exec (.logBufferWrite p u) s = .next t ∧ t.pend Ev.LOG_NAND_FAULT = true ∧ t.log.retired = min (s.log.retired + u) circUnits ∧
      t.fld (F.LOG_CNT_COUNT.nth 2) = min (s.fld (F.LOG_CNT_COUNT.nth 2) + (p + u)) (2 ^ 32 - 1)) ∧
  (∀ (s : State) (p u : Nat), s.running = true → s.nandStopped = true → exec (.logBufferWrite p u) s = .next s) ∧
  (∀ s : State, s.running = true → (∀ e ∈ s.log.repeats, s.passed e.first (s.fld F.LOG_CFG_REPEAT_S * nsPerSec) = false) →
      exec .repeatClose s = .next s) ∧
  (∀ (s : State) (e : LogRepeat), s.running = true → s.log.repeats = [e] → s.passed e.first (s.fld F.LOG_CFG_REPEAT_S * nsPerSec) = true →
      s.log.buf = [] → s.flag F.LOG_CFG_OUT_EN = false → ∃ t, exec .repeatClose s = .next t ∧ t.log.repeats = [] ∧
      t.log.next = (s.log.next + 1) % 2 ^ 32 ∧ t.log.buf.length = 1 ∧
      (∀ r ∈ t.log.buf, r.kind = 3 ∧ r.block = e.block ∧ r.evno = e.evno ∧ r.arg = e.arg ∧ r.rep = e.count ∧ r.sec = e.lastSec))

/-! ## Host accesses (R3, R4, R311, R332, R333, R376) and counters that end (R447) -/

/-- R3: an access of another width or alignment does nothing, a read of it returns 0; an aligned word write stores 32 bits. -/
def Obligations.MisalignedAccess : Prop :=
  (∀ (s : State) (a w v : Nat), (w ≠ 4 ∨ a % 4 ≠ 0) → exec (.registerWrite (.bar0 a w v)) s = .next s) ∧
  (∀ (s : State) (a w : Nat), (w ≠ 4 ∨ a % 4 ≠ 0) → ∃ t, exec (.readClear a w) s = .next t ∧ t.hostRead = 0#32 ∧
      State.Frame [] [.hostRead] s t ∧ t.regs = s.regs) ∧
  (∀ (s : State) (v : Nat), s.running = true → ∃ t, exec (.registerWrite (.bar0 R.GLB_SCRATCH 4 v)) s = .next t ∧
      t.reg R.GLB_SCRATCH = BitVec.ofNat 32 v ∧ State.Frame [R.GLB_SCRATCH] [] s t)

/-- R376: until the end of reset every read of BAR0 returns 0 and every write is discarded. -/
def Obligations.ResetReadsZero : Prop :=
  (∀ (s : State) (a w : Nat), s.running = false → ∃ t, exec (.readClear a w) s = .next t ∧ t.hostRead = 0#32 ∧ State.Frame [] [.hostRead] s t) ∧
  (∀ s : State, s.running = false → ∃ t, exec .clauseTimeNowRead s = .next t ∧ t.hostRead = 0#32 ∧ State.Frame [] [.hostRead] s t) ∧
  (∀ s : State, s.running = false → ∃ t, exec .seqSnapshotRead s = .next t ∧ t.hostRead = 0#32 ∧ State.Frame [] [.hostRead] s t) ∧
  (∀ s : State, s.running = false → ∃ t, exec .timeSnapshotRead s = .next t ∧ t.hostRead = 0#32 ∧ State.Frame [] [.hostRead] s t) ∧
  (∀ s : State, s.running = false → ∃ t, exec .captureStampRead s = .next t ∧ t.hostRead = 0#32 ∧ State.Frame [] [.hostRead] s t) ∧
  (∀ s : State, s.running = false → ∃ t, exec .heldPositionRead s = .next t ∧ t.hostRead = 0#32 ∧ State.Frame [] [.hostRead] s t) ∧
  (∀ s : State, s.running = false → ∃ t, exec .accumulatorRead s = .next t ∧ t.hostRead = 0#32 ∧ State.Frame [] [.hostRead] s t) ∧
  (∀ (s : State) (w : HostWrite), s.running = false → exec (.registerWrite w) s = .next s)

/-- R414: CREATE_PAIR draws a PAIR_ROOT as a root is drawn and sets BGEN to 1, FORGET_PAIR destroys both; when each is refused. -/
def Obligations.PairRootRule : Prop :=
  (∀ s : State, s.running = true → s.flag F.KEY_STATUS_BUSY = false → s.nandStopped = false → s.keys.root.isSome = true →
      s.keys.pairRoot = none → ∃ t, exec (.createPair true) s = .next t ∧
      t.keys = { s.keys with pairRoot := some (conditioned (Config.trng s.freeCtr)), bgen := 1 } ∧ t.fld F.KEY_STATUS_RESULT = 1) ∧
  (∀ s : State, s.running = true → s.keys.root = none → (s.keys.lc = 1 ∨ s.keys.lc = 2) → s.flag F.KEY_STATUS_TRNG_FAIL = false →
      ∃ t, exec (.rootGenerate true) s = .next t ∧ t.keys = { s.keys with root := some (conditioned (Config.trng s.freeCtr)) }) ∧
  (∀ s : State, s.running = true → s.flag F.KEY_STATUS_BUSY = false → s.nandStopped = false → s.keys.root.isSome = true →
      s.keys.pairRoot = none → ∃ t, exec (.createPair false) s = .next t ∧ t.keys = s.keys ∧ t.flag F.KEY_STATUS_TRNG_FAIL = true ∧
      t.pend Ev.KEY_TRNG_FAIL = true) ∧
  (∀ (s : State) (h : Bool), s.running = true → s.flag F.KEY_STATUS_BUSY = false → s.keys.root.isSome = true → s.keys.pairRoot.isSome = true →
      ∃ t, exec (.createPair h) s = .next t ∧ t.keys = s.keys ∧ t.reg R.KEY_PARSE = 0x00004822#32 ∧ t.fld F.KEY_STATUS_RESULT = 2) ∧
  (∀ s : State, s.running = true → s.flag F.KEY_STATUS_BUSY = false → s.nandStopped = false → s.blkOn Blk.AUT = false →
      s.blkOn Blk.AHN = false → ∃ t, exec .forgetPair s = .next t ∧ t.keys = { s.keys with pairRoot := none, bgen := 0 } ∧
      t.fld F.KEY_STATUS_RESULT = 1) ∧
  (∀ s : State, s.running = true → s.flag F.KEY_STATUS_BUSY = false → (s.blkOn Blk.AUT = true ∨ s.blkOn Blk.AHN = true) →
      ∃ t, exec .forgetPair s = .next t ∧ t.keys = s.keys ∧ t.reg R.KEY_PARSE = 0x00004823#32 ∧ t.fld F.KEY_STATUS_RESULT = 2)

/-- R447: the power-cycle count and the reset counter saturate; operating hours, in 1/1,024 h, wrap after 4,194,304 h. -/
def Obligations.BackupCountersEnd : Prop :=
  (∀ s : State, ∃ t, exec (.powerOn false) s = .next t ∧ t.bkp.pcycles = min (s.bkp.pcycles + 1) 16777215 ∧
      t.bkp.resets = min (s.bkp.resets + 1) 4294967295 ∧ t.bkp.hours = s.bkp.hours) ∧
  (∀ s : State, ∃ t, exec .brownOut s = .next t ∧ t.bkp.resets = min (s.bkp.resets + 1) 4294967295 ∧ t.bkp.pcycles = s.bkp.pcycles) ∧
  (∀ s : State, s.pins.p12v = true → ∃ t, exec .hoursTick s = .next t ∧ t.bkp = { s.bkp with hours := (s.bkp.hours + 1) % (4194304 * 1024) } ∧
      State.Frame [] [.bkp] s t)

/-- Host accesses to BAR0 and BAR2 by access code (R4, R311, R332, R333, R340). -/
def Obligations.RegisterAccess : Prop :=
  (∀ (s : State) (a v : Nat), s.running = true → a % 4 = 0 → Regs.descAt a = none → ∃ t, exec (.registerWrite (.bar0 a 4 v)) s = .next t ∧
      t.fld F.HST_CNT_COUNT = min (s.fld F.HST_CNT_COUNT + 1) (2 ^ 32 - 1) ∧ State.Frame [R.HST_CNT] [] s t) ∧
  (∀ (s : State) (a : Nat), s.running = true → a % 4 = 0 → Regs.descAt a = none → ∃ t, exec (.readClear a 4) s = .next t ∧ t.hostRead = 0#32 ∧
      t.fld F.HST_CNT_COUNT = min (s.fld F.HST_CNT_COUNT + 1) (2 ^ 32 - 1) ∧ State.Frame [R.HST_CNT] [.hostRead] s t) ∧
  (∀ (s : State) (v : Nat), s.running = true → exec (.registerWrite (.bar0 R.GLB_ID 4 v)) s = .next s) ∧
  (∀ s : State, s.running = true → ∃ t, exec (.readClear R.GLB_SCRATCH 4) s = .next t ∧ t.hostRead = s.reg R.GLB_SCRATCH ∧
      State.Frame [] [.hostRead, .freeCtr] s t) ∧
  (∀ (s : State) (n : Nat), s.running = true → n < 4 → ∃ t, exec (.readClear (R.HST_CNT + 4 * n) 4) s = .next t ∧
      t.hostRead = s.reg (R.HST_CNT + 4 * n) ∧ t.reg (R.HST_CNT + 4 * n) = 0#32 ∧ State.Frame [R.HST_CNT + 4 * n] [.hostRead, .freeCtr] s t) ∧
  (∀ s : State, s.running = true → ∃ t, exec (.readClear R.KEY_CMD 4) s = .next t ∧ t.hostRead = 0#32 ∧ State.Frame [] [.hostRead, .freeCtr] s t) ∧
  (∀ (s : State) (n v : Nat), s.running = true → n < 8 → ∃ t, exec (.registerWrite (.bar0 (R.EVT_PEND + 4 * n) 4 v)) s = .next t ∧
      t.reg (R.EVT_PEND + 4 * n) = s.reg (R.EVT_PEND + 4 * n) &&& ~~~(BitVec.ofNat 32 v) ∧ State.Frame [R.EVT_PEND + 4 * n] [] s t) ∧
  (∀ (s : State) (v : Nat), s.running = true → s.isStandby = false → s.blkOn Blk.AIR = false → ∃ t,
      exec (.registerWrite (.bar0 R.AIR_CFG 4 v)) s = .next t ∧ t.fld F.AIR_CFG_PAIR_ID = v % 65536 ∧
      State.Frame [R.AIR_CFG] [.ahn, .out] s t) ∧
  (∀ (s : State) (v : Nat), s.running = true → s.isActive = false → s.isStandby = false → s.blkOn Blk.AIR = true → exec (.registerWrite (.bar0 R.AIR_CFG 4 v)) s = .next s) ∧
  (∀ (s : State) (v : Nat), s.running = true → s.isStandby = true → ∃ t, exec (.registerWrite (.bar0 R.CLS_NOTICE 4 v)) s = .next t ∧
      t.reg R.CLS_NOTICE = s.reg R.CLS_NOTICE ∧ t.fld (ahnCnt 2) = min (s.fld (ahnCnt 2) + 1) (2 ^ 32 - 1) ∧
      State.Frame [R.AHN_CNT + 8] [] s t) ∧
  (∀ (s : State) (v : Nat), s.running = true → s.isActive = true → s.ahn.linkUp = true → s.ahn.mismatch = false → s.partnerStandby = true →
      v ≤ 3600000 → ∃ t, exec (.registerWrite (.bar0 R.CLS_NOTICE 4 v)) s = .next t ∧ t.reg R.CLS_NOTICE = BitVec.ofNat 32 v ∧
      t.out = .mirror ⟨false, t.ahn.mseqTx, R.CLS_NOTICE, .regWrite R.CLS_NOTICE 0 v⟩ :: s.out ∧
      t.ahn = { s.ahn with mseqTx := (s.ahn.mseqTx + 1) % 2 ^ 32, unacked := lagSent s.mono ((s.ahn.mseqTx + 1) % 2 ^ 32) s.ahn.unacked } ∧ State.Frame [R.CLS_NOTICE] [.ahn, .out] s t) ∧
  (∀ (s : State) (v : Nat), s.running = true → s.isStandby = false → s.blkOn Blk.CLS = true → 3600000 < v → v < 2 ^ 32 →
      exec (.registerWrite (.bar0 R.CLS_NOTICE 4 v)) s = .next s) ∧
  (∀ (s : State) (off : Nat) (b : List Byte), s.running = true → 1 ≤ b.length → b.length ≤ 64 → off + b.length ≤ bar2Size → ∃ t,
      exec (.registerWrite (.bar2 off b)) s = .next t ∧ t.bar2Read off b.length = b ∧ t.regs = s.regs ∧
      (∀ a, a < off ∨ off + b.length ≤ a → t.bar2At a = s.bar2At a)) ∧
  (∀ (s : State) (off : Nat) (b : List Byte), s.running = true → (b.length = 0 ∨ 64 < b.length) → exec (.registerWrite (.bar2 off b)) s = .next s) ∧
  (∀ (s : State) (on : Bool), s.running = true → ∃ t, exec (.registerWrite (.msixEnable on)) s = .next t ∧
      t.flag F.HST_STATUS_MSIX_EN = on ∧ State.Frame [R.HST_STATUS] [] s t)

/-! ## The main effect of the rows that access the channel, meter and update (R212, R216, R221–R223, R391–R409, R422–R428) -/

/-- Each of these rows completes under the conditions its rule gives, with the effect that names it. -/
def Obligations.AccessMeterAndUpdateRows : Prop :=
  (∀ (s : State) (w : Nat), s.works Blk.AIR → s.isActive = true → s.wideUp.contains w = true → s.beaconKey.isSome = true →
      ∃ t, exec (.downlinkBurst w) s = .next t ∧ s.out.length < t.out.length) ∧
  (∀ (s : State) (rx : AirRx) (n : Nat), s.works Blk.AIR → s.blkOn Blk.AUT = true → s.isStandby = false → s.rxGood rx →
      s.flag F.AUT_FSTOP_AIR_EN = true → s.wideRx rx = false → s.air.seen.contains ((s.rxFrame rx).src, (s.rxFrame rx).fseq) = false →
      (s.rxFrame rx).ftype = Ft.STOP_REQ → s.senderOf (s.rxFrame rx).src = some n → (s.rxFrame rx).payload.length = 8 →
      Bytes.at' (s.rxFrame rx).payload 4 1 = 1 → s.nand.sndCtr.get 0 n < Bytes.at' (s.rxFrame rx).payload 0 4 →
      ∃ t, exec (.stopReqRx rx) s = .next t ∧ t.aut.fsLatch = true) ∧
  (∀ (s : State) (m : Nat), s.works Blk.AIR → ∃ t, exec .dutyWindowTick s = .next t ∧ t.air.waiting = s.air.waiting ∧
      (t.air.duty.get [] m).all (fun e => decide (s.tai / 1000000000 < e.1 + 3600)) = true) ∧
  (∀ (s : State) (m : Nat) (w : AirWait), s.works Blk.AIR → (s.airQueue m false).head? = some w → w.until' ≤ s.mono →
      s.dutyFull m = false → s.mayStart m (s.airStart m 160000) (s.frameNs m 0 w.frame) = true → 4 ≤ w.busy →
      ∃ t, exec (.lbtBackoffExpiry m true) s = .next t ∧ t.air.waiting = s.air.waiting.erase w) ∧
  (∀ (s : State) (m : Nat) (w : AirWait), s.works Blk.AIR → (s.airQueue m true).head? = some w → w.until' ≤ s.mono →
      w.since + s.fld F.AIR_LBT_PRIO_WAIT_MS * 1000000 ≤ s.mono → ∃ t, exec (.prioWaitExpiry m) s = .next t ∧
      t.air.waiting = s.air.waiting.erase w ∧ t.pend Ev.AIR_PRIO_DROPPED = true) ∧
  (∀ (s : State) (rx : AirRx), s.works Blk.AIR → s.rxGood rx → s.wideRx rx = false → (s.rxFrame rx).relayed = true →
      (s.rxFrame rx).ftype = Ft.STOP → (s.rxFrame rx).src = s.airAddr → ∃ t, exec (.floodRelayRx rx) s = .next t ∧
      t.fld (F.AIR_CNT_COUNT.nth 3) = min (s.fld (F.AIR_CNT_COUNT.nth 3) + 1) (2 ^ 32 - 1)) ∧
  (∀ (s : State) (g dt good : Nat) (x : List (List (Nat × Int))), s.dmuClocks = true → s.grpKind g ≠ 0 → s.groupFault g = false →
      ∃ t, exec (.powerSample g x dt good) s = .next t ∧ (t.group g).second = (s.group g).second + s.sampleEnergy g x dt) ∧
  (∀ (s : State) (n : Nat), s.dmuClocks = true → n < 8 → s.flagB n F.DMU_PO_CFG_EN = true → 0 < (s.pulse n).pending →
      (s.pulse n).busy ≤ s.mono → ∃ t, exec (.pulseEmit n) s = .next t ∧
      t.out = .pulse (.pulseOut n) (s.fldB n F.DMU_PO_CFG_WIDTH_MS * 1000000) :: s.out) ∧
  (∀ (s : State) (w : Word) (n : Nat), s.running = true → n = s.fld F.DMU_PO_IDX_OUTPUT → F.DMU_PO_CFG_QTY.get w ≤ 2 →
      1 ≤ F.DMU_PO_CFG_WIDTH_MS.get w → ∃ t, exec (.poCfgWrite w) s = .next t ∧
      (t.pulse n).pending = 0 ∧ t.fldB n F.DMU_PO_STAT_PULSES = 0) ∧
  (∀ (s : State) (g : Nat), s.dmuClocks = true → s.flagB g F.DMU_GRP_STAT_AC_LOCK = true → ∃ t, exec (.acUnlock g) s = .next t ∧
      t.flagB g F.DMU_GRP_STAT_AC_LOCK = false) ∧
  (∀ (s : State) (n : Nat), s.dmuClocks = true → n < 24 → (s.fld F.DMU_IN_FAULT_FAULT).testBit n = false → s.inGroup n ≠ 0xFF →
      ∃ t, exec (.inputFault n) s = .next t ∧ (t.fld F.DMU_IN_FAULT_FAULT).testBit n = true) ∧
  (∀ (s : State) (n : Nat), s.running = true → n < 24 → (s.dmu.faults.get none n).isSome = true → ∃ t, exec (.inputClear n) s = .next t ∧
      (t.fld F.DMU_IN_FAULT_FAULT).testBit n = false) ∧
  (∀ s : State, s.works Blk.DMU → s.nandStopped = false → ∃ t, exec (.meterSave true) s = .next t ∧
      t.meterSave.map MeterSave.meters = some s.dmu.m ∧ t.fld F.DMU_SAVE_SEQ = (s.fld F.DMU_SAVE_SEQ + 1) % 2 ^ 32) ∧
  (∀ (s : State) (b : Nat), s.dmuClocks = true → s.expert Blk.DMU = false → s.bays.contains b = true →
      (s.currentsOf b).all (fun n => decide (s.fldB n F.DMU_IN_RMS_RMS < s.fld F.DMU_BAY_IDLE_MA)) = true →
      ∃ t, exec .bayFreeEval s = .next t ∧ t.dmu.idle.get 0 b = s.dmu.idle.get 0 b + 1) ∧
  (∀ (s : State) (b : Nat), s.works Blk.DMU → s.expert Blk.DMU = true → b < 16 → s.grpBay b = true → ∃ t,
      exec (.bayFreeCmd b) s = .next t ∧ t.flagB b F.DMU_GRP_STAT_BAY_FREE = true) ∧
  (∀ (s : State) (b : Nat), s.works Blk.DMU → s.expert Blk.DMU = true → b < 16 → s.grpBay b = true → ∃ t,
      exec (.bayBusyCmd b) s = .next t ∧ t.flagB b F.DMU_GRP_STAT_BAY_FREE = false) ∧
  (∀ s : State, s.works Blk.UPD → s.nandStopped = false → ∃ t, exec .begin s = .next t ∧
      t.fw.receiving = some (s.reg R.UPD_TOTAL).toNat ∧ t.fw.stage = none) ∧
  (∀ (s : State) (total : Nat), s.works Blk.UPD → s.nandStopped = false → s.fw.receiving = some total →
      crc32 (s.bar2Read (s.fld F.UPD_SRC_OFFSET * 8) (s.fld F.UPD_LEN_LEN)) = (s.reg R.UPD_CRC).toNat →
      s.fld F.UPD_OFF_UNIT < fwUnits total → s.fld F.UPD_LEN_LEN = fwUnitLen total (s.fld F.UPD_OFF_UNIT) →
      s.fld F.UPD_LEN_LEN % 8 = 0 → 8 ≤ s.fld F.UPD_LEN_LEN → ∃ t, exec .block s = .next t ∧
      t.fw.received.get none (s.fld F.UPD_OFF_UNIT) = some (s.bar2Read (s.fld F.UPD_SRC_OFFSET * 8) (s.fld F.UPD_LEN_LEN))) ∧
  (∀ (s : State) (img : List Byte) (total : Nat), s.works Blk.UPD → s.nandStopped = false → s.fw.receiving = some total →
      s.fw.image total = some img → s.fwCheck img (s.reg R.UPD_TOTAL).toNat = none → ∃ t, exec .finish s = .next t ∧
      t.fw.stage = some img ∧ t.fw.receiving = none) ∧
  (∀ (s : State) (total : Nat), s.works Blk.UPD → s.fw.receiving = some total → ∃ t, exec .updAbort s = .next t ∧
      t.fw.receiving = none ∧ t.fw.received = []) ∧
  (∀ (s : State) (img : List Byte), s.works Blk.UPD → s.fw.trial = true → s.fw.run = some img → ∃ t, exec .confirm s = .next t ∧
      t.fw.trial = false ∧ t.fw.rollback = max s.fw.rollback (fwRollback img)) ∧
  (∀ (s : State) (prev : List Byte), s.works Blk.UPD → s.fw.prev = some prev → s.fw.rollback ≤ fwRollback prev → ∃ t,
      exec .revert s = .next t ∧ t.fw.revert = true) ∧
  (∀ s : State, s.running = true → s.fw.revert = false → s.fw.trial = true →
      s.passed s.upd.trialAt (s.fld F.UPD_TRIAL_TRIAL_S * nsPerSec) = true → ∃ t, exec .trialExpiry s = .next t ∧ t.fw.revert = true) ∧
  (∀ (s : State) (img : List Byte), s.running = true → s.sim.applied = some img → s.expert Blk.UPD = false →
      (∀ b ∈ Blk.image, imgPresent img b = true → s.blkOn b = true) → s.ahn.role ≠ .none → s.passed s.ahn.roleSince (60 * nsPerSec) = true →
      s.fw.trial = true → s.fw.run.isSome = true → ∃ t, exec .autoConfirm s = .next t ∧ t.fw.trial = false) ∧
  (∀ (s : State) (img : List Byte), s.running = true → s.upd.copyDue = true → s.fw.revert = false → s.fw.stage = some img →
      s.fwCheck img (Bytes.at' img 24 4) = none → s.fw.prevDone = false → ∃ t, exec (.updateCopy true) s = .next t ∧
      t.fw.run = some img ∧ t.fw.prev = s.fw.run ∧ t.fw.trial = true) ∧
  (∀ (s : State) (w : Swap), s.works Blk.AHN → s.isActive = true → s.ahn.swap = some w → s.mono + 3000000 < w.slotAt →
      w.slotAt ≤ s.mono + 4000000 → ∃ t, exec .plannedSwapRelease s = .next t ∧ t.ahn.swap = some { w with sent := true })
end

