-- ==== Sys2Proof/Laws/Sparse.lean ====
section
/-!
SUPPORT. Sparse tables: what a read gives after a write, and that every write keeps the canonical form.
-/

namespace Sys2Proof.Machine

variable {α : Type}

theorem SMap.get_erase_same (m : SMap α) (d : α) (k : Nat) : (m.erase k).get d k = d := by
  induction m with
  | nil => rfl
  | cons e m ih =>
    obtain ⟨k', v⟩ := e
    simp only [SMap.erase]
    split
    · exact ih
    · simp [SMap.get, *]

theorem SMap.get_erase_other (m : SMap α) (d : α) {k k' : Nat} (h : k' ≠ k) : (m.erase k).get d k' = m.get d k' := by
  induction m with
  | nil => rfl
  | cons e m ih =>
    obtain ⟨j, v⟩ := e
    simp only [SMap.erase]
    split
    · subst j; simp [SMap.get, h, ih]
    · simp [SMap.get, ih]

theorem SMap.get_insert_same (m : SMap α) (d v : α) (k : Nat) : (m.insert k v).get d k = v := by
  induction m with
  | nil => simp [SMap.insert, SMap.get]
  | cons e m ih =>
    obtain ⟨j, u⟩ := e
    simp only [SMap.insert]
    split
    · simp [SMap.get]
    · split
      · simp [SMap.get]
      · simp [SMap.get, ih, *]

theorem SMap.get_insert_other (m : SMap α) (d v : α) {k k' : Nat} (h : k' ≠ k) : (m.insert k v).get d k' = m.get d k' := by
  induction m with
  | nil => simp [SMap.insert, SMap.get, h]
  | cons e m ih =>
    obtain ⟨j, u⟩ := e
    simp only [SMap.insert]
    split
    · subst j; simp [SMap.get, h]
    · split
      · simp [SMap.get, h]
      · simp [SMap.get, ih]

/-- A read of the key just written. -/
@[simp] theorem SMap.get_set_same [DecidableEq α] (m : SMap α) (d v : α) (k : Nat) : (m.set d k v).get d k = v := by
  unfold SMap.set
  split
  · rename_i h; rw [h]; exact SMap.get_erase_same m d k
  · exact SMap.get_insert_same m d v k

/-- A read of any other key, whatever the unlisted value there. -/
theorem SMap.get_set_other [DecidableEq α] (m : SMap α) (d d' v : α) {k k' : Nat} (h : k' ≠ k) :
    (m.set d k v).get d' k' = m.get d' k' := by
  unfold SMap.set
  split
  · exact SMap.get_erase_other m d' h
  · exact SMap.get_insert_other m d' v h

/-- A read after a write. -/
theorem SMap.get_set [DecidableEq α] (m : SMap α) (d v : α) (k k' : Nat) :
    (m.set d k v).get d k' = if k' = k then v else m.get d k' := by
  split
  · rename_i h; subst h; simp
  · rename_i h; exact SMap.get_set_other m d d v h

theorem SMap.above_of_lt {k j : Nat} {m : SMap α} (h : k < j) (ha : SMap.above j m = true) : SMap.above k m = true := by
  cases m with
  | nil => rfl
  | cons e m => obtain ⟨i, v⟩ := e; simp [SMap.above] at *; omega

theorem SMap.above_erase [DecidableEq α] {d : Nat → α} {j : Nat} (k : Nat) {m : SMap α} (hw : SMap.wf d m = true)
    (ha : SMap.above j m = true) : SMap.above j (m.erase k) = true := by
  induction m generalizing j with
  | nil => rfl
  | cons e m ih =>
    obtain ⟨i, v⟩ := e
    simp only [SMap.wf, Bool.and_eq_true] at hw
    simp only [SMap.erase]
    split
    · exact ih hw.2 (SMap.above_of_lt (by simpa [SMap.above] using ha) hw.1.2)
    · simpa [SMap.above] using ha

theorem SMap.wf_erase [DecidableEq α] {d : Nat → α} (k : Nat) {m : SMap α} (h : SMap.wf d m = true) :
    SMap.wf d (m.erase k) = true := by
  induction m with
  | nil => rfl
  | cons e m ih =>
    obtain ⟨i, v⟩ := e
    have h' := h
    simp only [SMap.wf, Bool.and_eq_true] at h
    simp only [SMap.erase]
    split
    · exact ih h.2
    · simp only [SMap.wf, Bool.and_eq_true]
      exact ⟨⟨h.1.1, SMap.above_erase k h.2 h.1.2⟩, ih h.2⟩

theorem SMap.above_insert {j k : Nat} (v : α) {m : SMap α} (hj : j < k) (ha : SMap.above j m = true) :
    SMap.above j (m.insert k v) = true := by
  cases m with
  | nil => simpa [SMap.insert, SMap.above] using hj
  | cons e m =>
    obtain ⟨i, u⟩ := e
    simp only [SMap.insert]
    split
    · simpa [SMap.above] using hj
    · split
      · simpa [SMap.above] using hj
      · simpa [SMap.above] using ha

theorem SMap.wf_insert [DecidableEq α] {d : Nat → α} {k : Nat} {v : α} {m : SMap α} (hv : v ≠ d k)
    (h : SMap.wf d m = true) : SMap.wf d (m.insert k v) = true := by
  induction m with
  | nil => simp [SMap.insert, SMap.wf, SMap.above, hv]
  | cons e m ih =>
    obtain ⟨i, u⟩ := e
    have h' := h
    simp only [SMap.wf, Bool.and_eq_true] at h
    simp only [SMap.insert]
    split
    · rename_i e; subst e
      simp [SMap.wf, hv, h.1.2, h.2]
    · split
      · rename_i hlt
        simp only [SMap.wf, Bool.and_eq_true]
        exact ⟨⟨by simpa using hv, by simpa [SMap.above] using hlt⟩, h⟩
      · rename_i hne hnl
        simp only [SMap.wf, Bool.and_eq_true]
        exact ⟨⟨h.1.1, SMap.above_insert v (by omega) h.1.2⟩, ih h.2⟩

/-- Every write keeps the canonical form. -/
theorem SMap.wf_set [DecidableEq α] {d : Nat → α} (k : Nat) (v : α) {m : SMap α} (h : SMap.wf d m = true) :
    SMap.wf d (m.set (d k) k v) = true := by
  unfold SMap.set
  split
  · exact SMap.wf_erase k h
  · rename_i hv; exact SMap.wf_insert hv h

end Sys2Proof.Machine
end

