-- ==== Sys2Proof/Laws/Fields.lean ====
section
/-!
SUPPORT. Registers and their fields: what a read of a register or a field gives after a write of one, and that register and
BAR2 writes keep the canonical form.
-/

namespace Sys2Proof.Machine

/-! ## Fields of a word -/

theorem bitsOf_eq (w hi lo : Nat) : bitsOf w hi lo = w / 2 ^ lo % 2 ^ (hi - lo + 1) := by
  simp [bitsOf, Nat.shiftRight_eq_div_pow]

theorem Fld.get_lt (f : Fld) (w : Word) : f.get w < 2 ^ (f.hi - f.lo + 1) := by
  rw [Fld.get, bitsOf_eq]; exact Nat.mod_lt _ (by positivity)

/-- The number a word holds after a field of it is set. -/
theorem Fld.put_toNat (f : Fld) (w : Word) (v : Nat) (hlo : f.lo ≤ f.hi) (hhi : f.hi < 32) :
    (f.put w v).toNat = w.toNat / 2 ^ (f.hi + 1) * 2 ^ (f.hi + 1) + v % 2 ^ (f.hi - f.lo + 1) * 2 ^ f.lo + w.toNat % 2 ^ f.lo := by
  unfold Fld.put
  rw [BitVec.toNat_ofNat]
  apply Nat.mod_eq_of_lt
  have hw := w.isLt
  have h1 : v % 2 ^ (f.hi - f.lo + 1) < 2 ^ (f.hi - f.lo + 1) := Nat.mod_lt _ (by positivity)
  have h2 : w.toNat % 2 ^ f.lo < 2 ^ f.lo := Nat.mod_lt _ (by positivity)
  have e1 : (2:Nat) ^ (f.hi + 1) = 2 ^ (f.hi - f.lo + 1) * 2 ^ f.lo := by rw [← pow_add]; congr 1; omega
  have e2 : (2:Nat) ^ 32 = 2 ^ (31 - f.hi) * 2 ^ (f.hi + 1) := by rw [← pow_add]; congr 1; omega
  have h3 : w.toNat / 2 ^ (f.hi + 1) < 2 ^ (31 - f.hi) := by
    rw [Nat.div_lt_iff_lt_mul (by positivity), ← e2]; exact hw
  have h4 : v % 2 ^ (f.hi - f.lo + 1) * 2 ^ f.lo + w.toNat % 2 ^ f.lo < 2 ^ (f.hi + 1) := by
    rw [e1]
    calc _ < v % 2 ^ (f.hi - f.lo + 1) * 2 ^ f.lo + 2 ^ f.lo := by omega
      _ = (v % 2 ^ (f.hi - f.lo + 1) + 1) * 2 ^ f.lo := by ring
      _ ≤ _ := Nat.mul_le_mul_right _ h1
  calc _ = w.toNat / 2 ^ (f.hi + 1) * 2 ^ (f.hi + 1) + (v % 2 ^ (f.hi - f.lo + 1) * 2 ^ f.lo + w.toNat % 2 ^ f.lo) := by ring
    _ < w.toNat / 2 ^ (f.hi + 1) * 2 ^ (f.hi + 1) + 2 ^ (f.hi + 1) := by omega
    _ = (w.toNat / 2 ^ (f.hi + 1) + 1) * 2 ^ (f.hi + 1) := by ring
    _ ≤ 2 ^ (31 - f.hi) * 2 ^ (f.hi + 1) := Nat.mul_le_mul_right _ h3
    _ = 2 ^ 32 := e2.symm

/-- A field reads what was put into it, cut to its width. -/
theorem Fld.get_put_same (f : Fld) (w : Word) (v : Nat) (hlo : f.lo ≤ f.hi) (hhi : f.hi < 32) :
    f.get (f.put w v) = v % 2 ^ (f.hi - f.lo + 1) := by
  rw [Fld.get, bitsOf_eq, Fld.put_toNat f w v hlo hhi]
  have h2 : w.toNat % 2 ^ f.lo < 2 ^ f.lo := Nat.mod_lt _ (by positivity)
  have e1 : (2:Nat) ^ (f.hi + 1) = 2 ^ (f.hi - f.lo + 1) * 2 ^ f.lo := by rw [← pow_add]; congr 1; omega
  have : w.toNat / 2 ^ (f.hi + 1) * 2 ^ (f.hi + 1) + v % 2 ^ (f.hi - f.lo + 1) * 2 ^ f.lo + w.toNat % 2 ^ f.lo =
      w.toNat % 2 ^ f.lo + 2 ^ f.lo * (w.toNat / 2 ^ (f.hi + 1) * 2 ^ (f.hi - f.lo + 1) + v % 2 ^ (f.hi - f.lo + 1)) := by
    rw [e1]; ring
  rw [this, Nat.add_mul_div_left _ _ (by positivity), Nat.div_eq_of_lt h2, Nat.zero_add, Nat.mul_add_mod_self_right, Nat.mod_mod]

/-- A field that lies apart from the one put reads as before. -/
theorem Fld.get_put_other (f g : Fld) (w : Word) (v : Nat) (hlo : f.lo ≤ f.hi) (hhi : f.hi < 32)
    (h : g.hi < f.lo ∨ f.hi < g.lo) (hg : g.lo ≤ g.hi) : g.get (f.put w v) = g.get w := by
  simp only [Fld.get, bitsOf_eq, Fld.put_toNat f w v hlo hhi]
  have h2 : w.toNat % 2 ^ f.lo < 2 ^ f.lo := Nat.mod_lt _ (by positivity)
  have h1 : v % 2 ^ (f.hi - f.lo + 1) < 2 ^ (f.hi - f.lo + 1) := Nat.mod_lt _ (by positivity)
  have e1 : (2:Nat) ^ (f.hi + 1) = 2 ^ (f.hi - f.lo + 1) * 2 ^ f.lo := by rw [← pow_add]; congr 1; omega
  rcases h with h | h
  · -- below
    set A := w.toNat / 2 ^ (f.hi + 1)
    set B := v % 2 ^ (f.hi - f.lo + 1)
    have e : A * 2 ^ (f.hi + 1) + B * 2 ^ f.lo + w.toNat % 2 ^ f.lo =
        w.toNat % 2 ^ f.lo + 2 ^ f.lo * (A * 2 ^ (f.hi - f.lo + 1) + B) := by rw [e1]; ring
    have key : ∀ n : Nat, n / 2 ^ g.lo % 2 ^ (g.hi - g.lo + 1) = n % 2 ^ f.lo / 2 ^ g.lo % 2 ^ (g.hi - g.lo + 1) := by
      intro n
      have e3 : (2:Nat) ^ f.lo = 2 ^ g.lo * (2 ^ (g.hi - g.lo + 1) * 2 ^ (f.lo - g.hi - 1)) := by
        rw [← pow_add, ← pow_add]; congr 1; omega
      rw [e3, Nat.mod_mul_right_div_self, Nat.mod_mul_right_mod]
    rw [key, e, Nat.add_mul_mod_self_left, Nat.mod_mod, ← key]
  · have e2 : (2:Nat) ^ g.lo = 2 ^ (f.hi + 1) * 2 ^ (g.lo - f.hi - 1) := by rw [← pow_add]; congr 1; omega
    have h4 : v % 2 ^ (f.hi - f.lo + 1) * 2 ^ f.lo + w.toNat % 2 ^ f.lo < 2 ^ (f.hi + 1) := by
      rw [e1]
      calc _ < v % 2 ^ (f.hi - f.lo + 1) * 2 ^ f.lo + 2 ^ f.lo := by omega
        _ = (v % 2 ^ (f.hi - f.lo + 1) + 1) * 2 ^ f.lo := by ring
        _ ≤ _ := Nat.mul_le_mul_right _ h1
    have : (w.toNat / 2 ^ (f.hi + 1) * 2 ^ (f.hi + 1) + v % 2 ^ (f.hi - f.lo + 1) * 2 ^ f.lo + w.toNat % 2 ^ f.lo) / 2 ^ (f.hi + 1)
        = w.toNat / 2 ^ (f.hi + 1) := by
      rw [Nat.add_assoc, Nat.add_comm, Nat.add_mul_div_right _ _ (by positivity), Nat.div_eq_of_lt h4, Nat.zero_add]
    rw [e2, ← Nat.div_div_eq_div_mul, this, Nat.div_div_eq_div_mul]

/-! ## The register file -/

/-- Keys of the register file tell offsets and entries apart. -/
theorem regKey_inj {b b' a a' : Nat} (ha : a < 0x4000000) (ha' : a' < 0x4000000) :
    regKey b a = regKey b' a' ↔ b = b' ∧ a = a' := by
  unfold regKey; omega

@[simp] theorem regDefault_regKey {b a : Nat} (ha : a < 0x4000000) : regDefault (regKey b a) = Regs.resetWord a := by
  unfold regDefault regKey; congr 1; omega

@[simp] theorem State.regB_setRegB_same (s : State) (b : Nat) {a : Nat} (w : Word) (ha : a < 0x4000000) :
    (s.setRegB b a w).regB b a = w := by
  simp [State.regB, State.setRegB, ha]

theorem State.regB_setRegB_other (s : State) {b b' a a' : Nat} (w : Word) (ha : a < 0x4000000) (ha' : a' < 0x4000000)
    (h : ¬(b' = b ∧ a' = a)) : (s.setRegB b a w).regB b' a' = s.regB b' a' := by
  simp only [State.regB, State.setRegB, ha, if_true]
  exact SMap.get_set_other _ _ _ _ (by rw [Ne, regKey_inj ha' ha]; exact h)

/-- A register read after a register write. -/
theorem State.regB_setRegB (s : State) {b b' a a' : Nat} (w : Word) (ha : a < 0x4000000) (ha' : a' < 0x4000000) :
    (s.setRegB b a w).regB b' a' = if b' = b ∧ a' = a then w else s.regB b' a' := by
  split
  · rename_i h; obtain ⟨rfl, rfl⟩ := h; simp [ha]
  · rename_i h; exact s.regB_setRegB_other w ha ha' h

/-- A field just set reads the value, cut to its width. -/
theorem State.fldB_setFldB_same (s : State) (b : Nat) (f : Fld) (v : Nat) (hf : f.addr < 0x4000000) (hlo : f.lo ≤ f.hi)
    (hhi : f.hi < 32) : (s.setFldB b f v).fldB b f = v % 2 ^ (f.hi - f.lo + 1) := by
  simp only [State.fldB, State.setFldB, State.regB_setRegB_same _ _ _ hf]
  exact Fld.get_put_same f _ v hlo hhi

/-- A field of another register or entry reads as before. -/
theorem State.fldB_setFldB_addr (s : State) {b b' : Nat} {f g : Fld} (v : Nat) (hf : f.addr < 0x4000000)
    (hg : g.addr < 0x4000000) (h : ¬(b' = b ∧ g.addr = f.addr)) : (s.setFldB b f v).fldB b' g = s.fldB b' g := by
  simp only [State.fldB, State.setFldB]
  rw [s.regB_setRegB_other _ hf hg h]

/-- A field apart in the same register reads as before. -/
theorem State.fldB_setFldB_apart (s : State) {b : Nat} {f g : Fld} (v : Nat) (hf : f.addr < 0x4000000) (ha : g.addr = f.addr)
    (hlo : f.lo ≤ f.hi) (hhi : f.hi < 32) (h : g.hi < f.lo ∨ f.hi < g.lo) (hg : g.lo ≤ g.hi) : (s.setFldB b f v).fldB b g = s.fldB b g := by
  simp only [State.fldB, State.setFldB, ha, State.regB_setRegB_same _ _ _ hf]
  exact Fld.get_put_other f g _ v hlo hhi h hg

/-- Setting a register keeps the register file canonical. -/
theorem State.regs_setRegB_wf (s : State) (b a : Nat) (w : Word) (h : SMap.wf regDefault s.regs = true) :
    SMap.wf regDefault (s.setRegB b a w).regs = true := by
  unfold State.setRegB
  split
  · rename_i ha; rw [← regDefault_regKey (b := b) ha]; exact SMap.wf_set _ _ h
  · exact h

/-! ## The BAR2 window -/

/-- A write to the window leaves the bytes it does not store to. -/
theorem bar2Put_other (bytes : List Byte) (m : SMap Byte) (a x : Nat) (h : x < a ∨ a + bytes.length ≤ x) :
    (bar2Put m a bytes).get 0 x = m.get 0 x := by
  induction bytes generalizing m a with
  | nil => rfl
  | cons b bs ih =>
    simp only [List.length_cons] at h
    simp only [bar2Put]
    rw [ih _ _ (by omega)]
    split
    · exact SMap.get_set_other _ _ _ _ (by omega)
    · rfl

/-- A write to the window stores its bytes. -/
theorem bar2Put_at (bytes : List Byte) (m : SMap Byte) (a i : Nat) (hi : i < bytes.length) (h : a + i < bar2Size) :
    (bar2Put m a bytes).get 0 (a + i) = bytes[i] := by
  induction bytes generalizing m a i with
  | nil => simp at hi
  | cons b bs ih =>
    simp only [bar2Put]
    cases i with
    | zero =>
      rw [bar2Put_other _ _ _ _ (by omega)]
      simp [show a < bar2Size by omega]
    | succ j =>
      have := ih (if a < bar2Size then m.set 0 a b else m) (a + 1) j (by simpa using hi) (by omega)
      rw [show a + (j + 1) = a + 1 + j by omega]
      simpa using this

theorem bar2Put_wf (bytes : List Byte) (m : SMap Byte) (a : Nat) (h : SMap.wf (fun _ => 0#8) m = true) :
    SMap.wf (fun _ => 0#8) (bar2Put m a bytes) = true := by
  induction bytes generalizing m a with
  | nil => exact h
  | cons b bs ih =>
    simp only [bar2Put]
    apply ih
    split
    · exact SMap.wf_set (d := fun _ => 0#8) a b h
    · exact h

@[simp] theorem State.bar2At_bar2Write_other (s : State) (off x : Nat) (bytes : List Byte)
    (h : x < off ∨ off + bytes.length ≤ x) : (s.bar2Write off bytes).bar2At x = s.bar2At x :=
  bar2Put_other bytes s.bar2 off x h

theorem State.bar2At_bar2Write (s : State) (off i : Nat) (bytes : List Byte) (hi : i < bytes.length)
    (h : off + i < bar2Size) : (s.bar2Write off bytes).bar2At (off + i) = bytes[i] :=
  bar2Put_at bytes s.bar2 off i hi h

end Sys2Proof.Machine
end

