-- ==== Sys2Proof/Laws/State.lean ====
section
/-!
SUPPORT. One lemma per field of the state for each shared update, true by unfolding, so that no later proof unfolds a record update.
-/

namespace Sys2Proof.Machine

/-! ## `setRegB` -/

@[simp] theorem State.setRegB_mono (s : State) (b a : Nat) (w : Word) : (s.setRegB b a w).mono = s.mono := rfl
@[simp] theorem State.setRegB_tai (s : State) (b a : Nat) (w : Word) : (s.setRegB b a w).tai = s.tai := rfl
@[simp] theorem State.setRegB_bar2 (s : State) (b a : Nat) (w : Word) : (s.setRegB b a w).bar2 = s.bar2 := rfl
@[simp] theorem State.setRegB_evt (s : State) (b a : Nat) (w : Word) : (s.setRegB b a w).evt = s.evt := rfl
@[simp] theorem State.setRegB_log (s : State) (b a : Nat) (w : Word) : (s.setRegB b a w).log = s.log := rfl
@[simp] theorem State.setRegB_rings (s : State) (b a : Nat) (w : Word) : (s.setRegB b a w).rings = s.rings := rfl
@[simp] theorem State.setRegB_xq (s : State) (b a : Nat) (w : Word) : (s.setRegB b a w).xq = s.xq := rfl
@[simp] theorem State.setRegB_pwr (s : State) (b a : Nat) (w : Word) : (s.setRegB b a w).pwr = s.pwr := rfl
@[simp] theorem State.setRegB_rst (s : State) (b a : Nat) (w : Word) : (s.setRegB b a w).rst = s.rst := rfl
@[simp] theorem State.setRegB_hpg (s : State) (b a : Nat) (w : Word) : (s.setRegB b a w).hpg = s.hpg := rfl
@[simp] theorem State.setRegB_bkp (s : State) (b a : Nat) (w : Word) : (s.setRegB b a w).bkp = s.bkp := rfl
@[simp] theorem State.setRegB_optA (s : State) (b a : Nat) (w : Word) : (s.setRegB b a w).optA = s.optA := rfl
@[simp] theorem State.setRegB_optB (s : State) (b a : Nat) (w : Word) : (s.setRegB b a w).optB = s.optB := rfl
@[simp] theorem State.setRegB_pins (s : State) (b a : Nat) (w : Word) : (s.setRegB b a w).pins = s.pins := rfl
@[simp] theorem State.setRegB_sim (s : State) (b a : Nat) (w : Word) : (s.setRegB b a w).sim = s.sim := rfl
@[simp] theorem State.setRegB_nand (s : State) (b a : Nat) (w : Word) : (s.setRegB b a w).nand = s.nand := rfl
@[simp] theorem State.setRegB_cls (s : State) (b a : Nat) (w : Word) : (s.setRegB b a w).cls = s.cls := rfl
@[simp] theorem State.setRegB_aut (s : State) (b a : Nat) (w : Word) : (s.setRegB b a w).aut = s.aut := rfl
@[simp] theorem State.setRegB_warden (s : State) (b a : Nat) (w : Word) : (s.setRegB b a w).warden = s.warden := rfl
@[simp] theorem State.setRegB_keys (s : State) (b a : Nat) (w : Word) : (s.setRegB b a w).keys = s.keys := rfl
@[simp] theorem State.setRegB_key (s : State) (b a : Nat) (w : Word) : (s.setRegB b a w).key = s.key := rfl
@[simp] theorem State.setRegB_fw (s : State) (b a : Nat) (w : Word) : (s.setRegB b a w).fw = s.fw := rfl
@[simp] theorem State.setRegB_upd (s : State) (b a : Nat) (w : Word) : (s.setRegB b a w).upd = s.upd := rfl
@[simp] theorem State.setRegB_ahn (s : State) (b a : Nat) (w : Word) : (s.setRegB b a w).ahn = s.ahn := rfl
@[simp] theorem State.setRegB_rhl (s : State) (b a : Nat) (w : Word) : (s.setRegB b a w).rhl = s.rhl := rfl
@[simp] theorem State.setRegB_air (s : State) (b a : Nat) (w : Word) : (s.setRegB b a w).air = s.air := rfl
@[simp] theorem State.setRegB_eth (s : State) (b a : Nat) (w : Word) : (s.setRegB b a w).eth = s.eth := rfl
@[simp] theorem State.setRegB_lpe (s : State) (b a : Nat) (w : Word) : (s.setRegB b a w).lpe = s.lpe := rfl
@[simp] theorem State.setRegB_slv (s : State) (b a : Nat) (w : Word) : (s.setRegB b a w).slv = s.slv := rfl
@[simp] theorem State.setRegB_tim (s : State) (b a : Nat) (w : Word) : (s.setRegB b a w).tim = s.tim := rfl
@[simp] theorem State.setRegB_ptp (s : State) (b a : Nat) (w : Word) : (s.setRegB b a w).ptp = s.ptp := rfl
@[simp] theorem State.setRegB_grx (s : State) (b a : Nat) (w : Word) : (s.setRegB b a w).grx = s.grx := rfl
@[simp] theorem State.setRegB_dmu (s : State) (b a : Nat) (w : Word) : (s.setRegB b a w).dmu = s.dmu := rfl
@[simp] theorem State.setRegB_meterSave (s : State) (b a : Nat) (w : Word) : (s.setRegB b a w).meterSave = s.meterSave := rfl
@[simp] theorem State.setRegB_dsp (s : State) (b a : Nat) (w : Word) : (s.setRegB b a w).dsp = s.dsp := rfl
@[simp] theorem State.setRegB_hostRead (s : State) (b a : Nat) (w : Word) : (s.setRegB b a w).hostRead = s.hostRead := rfl
@[simp] theorem State.setRegB_out (s : State) (b a : Nat) (w : Word) : (s.setRegB b a w).out = s.out := rfl
@[simp] theorem State.setRegB_freeCtr (s : State) (b a : Nat) (w : Word) : (s.setRegB b a w).freeCtr = s.freeCtr := rfl
@[simp] theorem State.setRegB_pending (s : State) (b a : Nat) (w : Word) : (s.setRegB b a w).pending = s.pending := rfl

/-! ## `setReg` -/

@[simp] theorem State.setReg_mono (s : State) (a : Nat) (w : Word) : (s.setReg a w).mono = s.mono := rfl
@[simp] theorem State.setReg_tai (s : State) (a : Nat) (w : Word) : (s.setReg a w).tai = s.tai := rfl
@[simp] theorem State.setReg_bar2 (s : State) (a : Nat) (w : Word) : (s.setReg a w).bar2 = s.bar2 := rfl
@[simp] theorem State.setReg_evt (s : State) (a : Nat) (w : Word) : (s.setReg a w).evt = s.evt := rfl
@[simp] theorem State.setReg_log (s : State) (a : Nat) (w : Word) : (s.setReg a w).log = s.log := rfl
@[simp] theorem State.setReg_rings (s : State) (a : Nat) (w : Word) : (s.setReg a w).rings = s.rings := rfl
@[simp] theorem State.setReg_xq (s : State) (a : Nat) (w : Word) : (s.setReg a w).xq = s.xq := rfl
@[simp] theorem State.setReg_pwr (s : State) (a : Nat) (w : Word) : (s.setReg a w).pwr = s.pwr := rfl
@[simp] theorem State.setReg_rst (s : State) (a : Nat) (w : Word) : (s.setReg a w).rst = s.rst := rfl
@[simp] theorem State.setReg_hpg (s : State) (a : Nat) (w : Word) : (s.setReg a w).hpg = s.hpg := rfl
@[simp] theorem State.setReg_bkp (s : State) (a : Nat) (w : Word) : (s.setReg a w).bkp = s.bkp := rfl
@[simp] theorem State.setReg_optA (s : State) (a : Nat) (w : Word) : (s.setReg a w).optA = s.optA := rfl
@[simp] theorem State.setReg_optB (s : State) (a : Nat) (w : Word) : (s.setReg a w).optB = s.optB := rfl
@[simp] theorem State.setReg_pins (s : State) (a : Nat) (w : Word) : (s.setReg a w).pins = s.pins := rfl
@[simp] theorem State.setReg_sim (s : State) (a : Nat) (w : Word) : (s.setReg a w).sim = s.sim := rfl
@[simp] theorem State.setReg_nand (s : State) (a : Nat) (w : Word) : (s.setReg a w).nand = s.nand := rfl
@[simp] theorem State.setReg_cls (s : State) (a : Nat) (w : Word) : (s.setReg a w).cls = s.cls := rfl
@[simp] theorem State.setReg_aut (s : State) (a : Nat) (w : Word) : (s.setReg a w).aut = s.aut := rfl
@[simp] theorem State.setReg_warden (s : State) (a : Nat) (w : Word) : (s.setReg a w).warden = s.warden := rfl
@[simp] theorem State.setReg_keys (s : State) (a : Nat) (w : Word) : (s.setReg a w).keys = s.keys := rfl
@[simp] theorem State.setReg_key (s : State) (a : Nat) (w : Word) : (s.setReg a w).key = s.key := rfl
@[simp] theorem State.setReg_fw (s : State) (a : Nat) (w : Word) : (s.setReg a w).fw = s.fw := rfl
@[simp] theorem State.setReg_upd (s : State) (a : Nat) (w : Word) : (s.setReg a w).upd = s.upd := rfl
@[simp] theorem State.setReg_ahn (s : State) (a : Nat) (w : Word) : (s.setReg a w).ahn = s.ahn := rfl
@[simp] theorem State.setReg_rhl (s : State) (a : Nat) (w : Word) : (s.setReg a w).rhl = s.rhl := rfl
@[simp] theorem State.setReg_air (s : State) (a : Nat) (w : Word) : (s.setReg a w).air = s.air := rfl
@[simp] theorem State.setReg_eth (s : State) (a : Nat) (w : Word) : (s.setReg a w).eth = s.eth := rfl
@[simp] theorem State.setReg_lpe (s : State) (a : Nat) (w : Word) : (s.setReg a w).lpe = s.lpe := rfl
@[simp] theorem State.setReg_slv (s : State) (a : Nat) (w : Word) : (s.setReg a w).slv = s.slv := rfl
@[simp] theorem State.setReg_tim (s : State) (a : Nat) (w : Word) : (s.setReg a w).tim = s.tim := rfl
@[simp] theorem State.setReg_ptp (s : State) (a : Nat) (w : Word) : (s.setReg a w).ptp = s.ptp := rfl
@[simp] theorem State.setReg_grx (s : State) (a : Nat) (w : Word) : (s.setReg a w).grx = s.grx := rfl
@[simp] theorem State.setReg_dmu (s : State) (a : Nat) (w : Word) : (s.setReg a w).dmu = s.dmu := rfl
@[simp] theorem State.setReg_meterSave (s : State) (a : Nat) (w : Word) : (s.setReg a w).meterSave = s.meterSave := rfl
@[simp] theorem State.setReg_dsp (s : State) (a : Nat) (w : Word) : (s.setReg a w).dsp = s.dsp := rfl
@[simp] theorem State.setReg_hostRead (s : State) (a : Nat) (w : Word) : (s.setReg a w).hostRead = s.hostRead := rfl
@[simp] theorem State.setReg_out (s : State) (a : Nat) (w : Word) : (s.setReg a w).out = s.out := rfl
@[simp] theorem State.setReg_freeCtr (s : State) (a : Nat) (w : Word) : (s.setReg a w).freeCtr = s.freeCtr := rfl
@[simp] theorem State.setReg_pending (s : State) (a : Nat) (w : Word) : (s.setReg a w).pending = s.pending := rfl

/-! ## `setFldB` -/

@[simp] theorem State.setFldB_mono (s : State) (b : Nat) (f : Fld) (v : Nat) : (s.setFldB b f v).mono = s.mono := rfl
@[simp] theorem State.setFldB_tai (s : State) (b : Nat) (f : Fld) (v : Nat) : (s.setFldB b f v).tai = s.tai := rfl
@[simp] theorem State.setFldB_bar2 (s : State) (b : Nat) (f : Fld) (v : Nat) : (s.setFldB b f v).bar2 = s.bar2 := rfl
@[simp] theorem State.setFldB_evt (s : State) (b : Nat) (f : Fld) (v : Nat) : (s.setFldB b f v).evt = s.evt := rfl
@[simp] theorem State.setFldB_log (s : State) (b : Nat) (f : Fld) (v : Nat) : (s.setFldB b f v).log = s.log := rfl
@[simp] theorem State.setFldB_rings (s : State) (b : Nat) (f : Fld) (v : Nat) : (s.setFldB b f v).rings = s.rings := rfl
@[simp] theorem State.setFldB_xq (s : State) (b : Nat) (f : Fld) (v : Nat) : (s.setFldB b f v).xq = s.xq := rfl
@[simp] theorem State.setFldB_pwr (s : State) (b : Nat) (f : Fld) (v : Nat) : (s.setFldB b f v).pwr = s.pwr := rfl
@[simp] theorem State.setFldB_rst (s : State) (b : Nat) (f : Fld) (v : Nat) : (s.setFldB b f v).rst = s.rst := rfl
@[simp] theorem State.setFldB_hpg (s : State) (b : Nat) (f : Fld) (v : Nat) : (s.setFldB b f v).hpg = s.hpg := rfl
@[simp] theorem State.setFldB_bkp (s : State) (b : Nat) (f : Fld) (v : Nat) : (s.setFldB b f v).bkp = s.bkp := rfl
@[simp] theorem State.setFldB_optA (s : State) (b : Nat) (f : Fld) (v : Nat) : (s.setFldB b f v).optA = s.optA := rfl
@[simp] theorem State.setFldB_optB (s : State) (b : Nat) (f : Fld) (v : Nat) : (s.setFldB b f v).optB = s.optB := rfl
@[simp] theorem State.setFldB_pins (s : State) (b : Nat) (f : Fld) (v : Nat) : (s.setFldB b f v).pins = s.pins := rfl
@[simp] theorem State.setFldB_sim (s : State) (b : Nat) (f : Fld) (v : Nat) : (s.setFldB b f v).sim = s.sim := rfl
@[simp] theorem State.setFldB_nand (s : State) (b : Nat) (f : Fld) (v : Nat) : (s.setFldB b f v).nand = s.nand := rfl
@[simp] theorem State.setFldB_cls (s : State) (b : Nat) (f : Fld) (v : Nat) : (s.setFldB b f v).cls = s.cls := rfl
@[simp] theorem State.setFldB_aut (s : State) (b : Nat) (f : Fld) (v : Nat) : (s.setFldB b f v).aut = s.aut := rfl
@[simp] theorem State.setFldB_warden (s : State) (b : Nat) (f : Fld) (v : Nat) : (s.setFldB b f v).warden = s.warden := rfl
@[simp] theorem State.setFldB_keys (s : State) (b : Nat) (f : Fld) (v : Nat) : (s.setFldB b f v).keys = s.keys := rfl
@[simp] theorem State.setFldB_key (s : State) (b : Nat) (f : Fld) (v : Nat) : (s.setFldB b f v).key = s.key := rfl
@[simp] theorem State.setFldB_fw (s : State) (b : Nat) (f : Fld) (v : Nat) : (s.setFldB b f v).fw = s.fw := rfl
@[simp] theorem State.setFldB_upd (s : State) (b : Nat) (f : Fld) (v : Nat) : (s.setFldB b f v).upd = s.upd := rfl
@[simp] theorem State.setFldB_ahn (s : State) (b : Nat) (f : Fld) (v : Nat) : (s.setFldB b f v).ahn = s.ahn := rfl
@[simp] theorem State.setFldB_rhl (s : State) (b : Nat) (f : Fld) (v : Nat) : (s.setFldB b f v).rhl = s.rhl := rfl
@[simp] theorem State.setFldB_air (s : State) (b : Nat) (f : Fld) (v : Nat) : (s.setFldB b f v).air = s.air := rfl
@[simp] theorem State.setFldB_eth (s : State) (b : Nat) (f : Fld) (v : Nat) : (s.setFldB b f v).eth = s.eth := rfl
@[simp] theorem State.setFldB_lpe (s : State) (b : Nat) (f : Fld) (v : Nat) : (s.setFldB b f v).lpe = s.lpe := rfl
@[simp] theorem State.setFldB_slv (s : State) (b : Nat) (f : Fld) (v : Nat) : (s.setFldB b f v).slv = s.slv := rfl
@[simp] theorem State.setFldB_tim (s : State) (b : Nat) (f : Fld) (v : Nat) : (s.setFldB b f v).tim = s.tim := rfl
@[simp] theorem State.setFldB_ptp (s : State) (b : Nat) (f : Fld) (v : Nat) : (s.setFldB b f v).ptp = s.ptp := rfl
@[simp] theorem State.setFldB_grx (s : State) (b : Nat) (f : Fld) (v : Nat) : (s.setFldB b f v).grx = s.grx := rfl
@[simp] theorem State.setFldB_dmu (s : State) (b : Nat) (f : Fld) (v : Nat) : (s.setFldB b f v).dmu = s.dmu := rfl
@[simp] theorem State.setFldB_meterSave (s : State) (b : Nat) (f : Fld) (v : Nat) : (s.setFldB b f v).meterSave = s.meterSave := rfl
@[simp] theorem State.setFldB_dsp (s : State) (b : Nat) (f : Fld) (v : Nat) : (s.setFldB b f v).dsp = s.dsp := rfl
@[simp] theorem State.setFldB_hostRead (s : State) (b : Nat) (f : Fld) (v : Nat) : (s.setFldB b f v).hostRead = s.hostRead := rfl
@[simp] theorem State.setFldB_out (s : State) (b : Nat) (f : Fld) (v : Nat) : (s.setFldB b f v).out = s.out := rfl
@[simp] theorem State.setFldB_freeCtr (s : State) (b : Nat) (f : Fld) (v : Nat) : (s.setFldB b f v).freeCtr = s.freeCtr := rfl
@[simp] theorem State.setFldB_pending (s : State) (b : Nat) (f : Fld) (v : Nat) : (s.setFldB b f v).pending = s.pending := rfl

/-! ## `setFld` -/

@[simp] theorem State.setFld_mono (s : State) (f : Fld) (v : Nat) : (s.setFld f v).mono = s.mono := rfl
@[simp] theorem State.setFld_tai (s : State) (f : Fld) (v : Nat) : (s.setFld f v).tai = s.tai := rfl
@[simp] theorem State.setFld_bar2 (s : State) (f : Fld) (v : Nat) : (s.setFld f v).bar2 = s.bar2 := rfl
@[simp] theorem State.setFld_evt (s : State) (f : Fld) (v : Nat) : (s.setFld f v).evt = s.evt := rfl
@[simp] theorem State.setFld_log (s : State) (f : Fld) (v : Nat) : (s.setFld f v).log = s.log := rfl
@[simp] theorem State.setFld_rings (s : State) (f : Fld) (v : Nat) : (s.setFld f v).rings = s.rings := rfl
@[simp] theorem State.setFld_xq (s : State) (f : Fld) (v : Nat) : (s.setFld f v).xq = s.xq := rfl
@[simp] theorem State.setFld_pwr (s : State) (f : Fld) (v : Nat) : (s.setFld f v).pwr = s.pwr := rfl
@[simp] theorem State.setFld_rst (s : State) (f : Fld) (v : Nat) : (s.setFld f v).rst = s.rst := rfl
@[simp] theorem State.setFld_hpg (s : State) (f : Fld) (v : Nat) : (s.setFld f v).hpg = s.hpg := rfl
@[simp] theorem State.setFld_bkp (s : State) (f : Fld) (v : Nat) : (s.setFld f v).bkp = s.bkp := rfl
@[simp] theorem State.setFld_optA (s : State) (f : Fld) (v : Nat) : (s.setFld f v).optA = s.optA := rfl
@[simp] theorem State.setFld_optB (s : State) (f : Fld) (v : Nat) : (s.setFld f v).optB = s.optB := rfl
@[simp] theorem State.setFld_pins (s : State) (f : Fld) (v : Nat) : (s.setFld f v).pins = s.pins := rfl
@[simp] theorem State.setFld_sim (s : State) (f : Fld) (v : Nat) : (s.setFld f v).sim = s.sim := rfl
@[simp] theorem State.setFld_nand (s : State) (f : Fld) (v : Nat) : (s.setFld f v).nand = s.nand := rfl
@[simp] theorem State.setFld_cls (s : State) (f : Fld) (v : Nat) : (s.setFld f v).cls = s.cls := rfl
@[simp] theorem State.setFld_aut (s : State) (f : Fld) (v : Nat) : (s.setFld f v).aut = s.aut := rfl
@[simp] theorem State.setFld_warden (s : State) (f : Fld) (v : Nat) : (s.setFld f v).warden = s.warden := rfl
@[simp] theorem State.setFld_keys (s : State) (f : Fld) (v : Nat) : (s.setFld f v).keys = s.keys := rfl
@[simp] theorem State.setFld_key (s : State) (f : Fld) (v : Nat) : (s.setFld f v).key = s.key := rfl
@[simp] theorem State.setFld_fw (s : State) (f : Fld) (v : Nat) : (s.setFld f v).fw = s.fw := rfl
@[simp] theorem State.setFld_upd (s : State) (f : Fld) (v : Nat) : (s.setFld f v).upd = s.upd := rfl
@[simp] theorem State.setFld_ahn (s : State) (f : Fld) (v : Nat) : (s.setFld f v).ahn = s.ahn := rfl
@[simp] theorem State.setFld_rhl (s : State) (f : Fld) (v : Nat) : (s.setFld f v).rhl = s.rhl := rfl
@[simp] theorem State.setFld_air (s : State) (f : Fld) (v : Nat) : (s.setFld f v).air = s.air := rfl
@[simp] theorem State.setFld_eth (s : State) (f : Fld) (v : Nat) : (s.setFld f v).eth = s.eth := rfl
@[simp] theorem State.setFld_lpe (s : State) (f : Fld) (v : Nat) : (s.setFld f v).lpe = s.lpe := rfl
@[simp] theorem State.setFld_slv (s : State) (f : Fld) (v : Nat) : (s.setFld f v).slv = s.slv := rfl
@[simp] theorem State.setFld_tim (s : State) (f : Fld) (v : Nat) : (s.setFld f v).tim = s.tim := rfl
@[simp] theorem State.setFld_ptp (s : State) (f : Fld) (v : Nat) : (s.setFld f v).ptp = s.ptp := rfl
@[simp] theorem State.setFld_grx (s : State) (f : Fld) (v : Nat) : (s.setFld f v).grx = s.grx := rfl
@[simp] theorem State.setFld_dmu (s : State) (f : Fld) (v : Nat) : (s.setFld f v).dmu = s.dmu := rfl
@[simp] theorem State.setFld_meterSave (s : State) (f : Fld) (v : Nat) : (s.setFld f v).meterSave = s.meterSave := rfl
@[simp] theorem State.setFld_dsp (s : State) (f : Fld) (v : Nat) : (s.setFld f v).dsp = s.dsp := rfl
@[simp] theorem State.setFld_hostRead (s : State) (f : Fld) (v : Nat) : (s.setFld f v).hostRead = s.hostRead := rfl
@[simp] theorem State.setFld_out (s : State) (f : Fld) (v : Nat) : (s.setFld f v).out = s.out := rfl
@[simp] theorem State.setFld_freeCtr (s : State) (f : Fld) (v : Nat) : (s.setFld f v).freeCtr = s.freeCtr := rfl
@[simp] theorem State.setFld_pending (s : State) (f : Fld) (v : Nat) : (s.setFld f v).pending = s.pending := rfl

/-! ## `bumpB` -/

@[simp] theorem State.bumpB_mono (s : State) (b : Nat) (f : Fld) (n : Nat) : (s.bumpB b f n).mono = s.mono := rfl
@[simp] theorem State.bumpB_tai (s : State) (b : Nat) (f : Fld) (n : Nat) : (s.bumpB b f n).tai = s.tai := rfl
@[simp] theorem State.bumpB_bar2 (s : State) (b : Nat) (f : Fld) (n : Nat) : (s.bumpB b f n).bar2 = s.bar2 := rfl
@[simp] theorem State.bumpB_evt (s : State) (b : Nat) (f : Fld) (n : Nat) : (s.bumpB b f n).evt = s.evt := rfl
@[simp] theorem State.bumpB_log (s : State) (b : Nat) (f : Fld) (n : Nat) : (s.bumpB b f n).log = s.log := rfl
@[simp] theorem State.bumpB_rings (s : State) (b : Nat) (f : Fld) (n : Nat) : (s.bumpB b f n).rings = s.rings := rfl
@[simp] theorem State.bumpB_xq (s : State) (b : Nat) (f : Fld) (n : Nat) : (s.bumpB b f n).xq = s.xq := rfl
@[simp] theorem State.bumpB_pwr (s : State) (b : Nat) (f : Fld) (n : Nat) : (s.bumpB b f n).pwr = s.pwr := rfl
@[simp] theorem State.bumpB_rst (s : State) (b : Nat) (f : Fld) (n : Nat) : (s.bumpB b f n).rst = s.rst := rfl
@[simp] theorem State.bumpB_hpg (s : State) (b : Nat) (f : Fld) (n : Nat) : (s.bumpB b f n).hpg = s.hpg := rfl
@[simp] theorem State.bumpB_bkp (s : State) (b : Nat) (f : Fld) (n : Nat) : (s.bumpB b f n).bkp = s.bkp := rfl
@[simp] theorem State.bumpB_optA (s : State) (b : Nat) (f : Fld) (n : Nat) : (s.bumpB b f n).optA = s.optA := rfl
@[simp] theorem State.bumpB_optB (s : State) (b : Nat) (f : Fld) (n : Nat) : (s.bumpB b f n).optB = s.optB := rfl
@[simp] theorem State.bumpB_pins (s : State) (b : Nat) (f : Fld) (n : Nat) : (s.bumpB b f n).pins = s.pins := rfl
@[simp] theorem State.bumpB_sim (s : State) (b : Nat) (f : Fld) (n : Nat) : (s.bumpB b f n).sim = s.sim := rfl
@[simp] theorem State.bumpB_nand (s : State) (b : Nat) (f : Fld) (n : Nat) : (s.bumpB b f n).nand = s.nand := rfl
@[simp] theorem State.bumpB_cls (s : State) (b : Nat) (f : Fld) (n : Nat) : (s.bumpB b f n).cls = s.cls := rfl
@[simp] theorem State.bumpB_aut (s : State) (b : Nat) (f : Fld) (n : Nat) : (s.bumpB b f n).aut = s.aut := rfl
@[simp] theorem State.bumpB_warden (s : State) (b : Nat) (f : Fld) (n : Nat) : (s.bumpB b f n).warden = s.warden := rfl
@[simp] theorem State.bumpB_keys (s : State) (b : Nat) (f : Fld) (n : Nat) : (s.bumpB b f n).keys = s.keys := rfl
@[simp] theorem State.bumpB_key (s : State) (b : Nat) (f : Fld) (n : Nat) : (s.bumpB b f n).key = s.key := rfl
@[simp] theorem State.bumpB_fw (s : State) (b : Nat) (f : Fld) (n : Nat) : (s.bumpB b f n).fw = s.fw := rfl
@[simp] theorem State.bumpB_upd (s : State) (b : Nat) (f : Fld) (n : Nat) : (s.bumpB b f n).upd = s.upd := rfl
@[simp] theorem State.bumpB_ahn (s : State) (b : Nat) (f : Fld) (n : Nat) : (s.bumpB b f n).ahn = s.ahn := rfl
@[simp] theorem State.bumpB_rhl (s : State) (b : Nat) (f : Fld) (n : Nat) : (s.bumpB b f n).rhl = s.rhl := rfl
@[simp] theorem State.bumpB_air (s : State) (b : Nat) (f : Fld) (n : Nat) : (s.bumpB b f n).air = s.air := rfl
@[simp] theorem State.bumpB_eth (s : State) (b : Nat) (f : Fld) (n : Nat) : (s.bumpB b f n).eth = s.eth := rfl
@[simp] theorem State.bumpB_lpe (s : State) (b : Nat) (f : Fld) (n : Nat) : (s.bumpB b f n).lpe = s.lpe := rfl
@[simp] theorem State.bumpB_slv (s : State) (b : Nat) (f : Fld) (n : Nat) : (s.bumpB b f n).slv = s.slv := rfl
@[simp] theorem State.bumpB_tim (s : State) (b : Nat) (f : Fld) (n : Nat) : (s.bumpB b f n).tim = s.tim := rfl
@[simp] theorem State.bumpB_ptp (s : State) (b : Nat) (f : Fld) (n : Nat) : (s.bumpB b f n).ptp = s.ptp := rfl
@[simp] theorem State.bumpB_grx (s : State) (b : Nat) (f : Fld) (n : Nat) : (s.bumpB b f n).grx = s.grx := rfl
@[simp] theorem State.bumpB_dmu (s : State) (b : Nat) (f : Fld) (n : Nat) : (s.bumpB b f n).dmu = s.dmu := rfl
@[simp] theorem State.bumpB_meterSave (s : State) (b : Nat) (f : Fld) (n : Nat) : (s.bumpB b f n).meterSave = s.meterSave := rfl
@[simp] theorem State.bumpB_dsp (s : State) (b : Nat) (f : Fld) (n : Nat) : (s.bumpB b f n).dsp = s.dsp := rfl
@[simp] theorem State.bumpB_hostRead (s : State) (b : Nat) (f : Fld) (n : Nat) : (s.bumpB b f n).hostRead = s.hostRead := rfl
@[simp] theorem State.bumpB_out (s : State) (b : Nat) (f : Fld) (n : Nat) : (s.bumpB b f n).out = s.out := rfl
@[simp] theorem State.bumpB_freeCtr (s : State) (b : Nat) (f : Fld) (n : Nat) : (s.bumpB b f n).freeCtr = s.freeCtr := rfl
@[simp] theorem State.bumpB_pending (s : State) (b : Nat) (f : Fld) (n : Nat) : (s.bumpB b f n).pending = s.pending := rfl

/-! ## `bump` -/

@[simp] theorem State.bump_mono (s : State) (f : Fld) (n : Nat) : (s.bump f n).mono = s.mono := rfl
@[simp] theorem State.bump_tai (s : State) (f : Fld) (n : Nat) : (s.bump f n).tai = s.tai := rfl
@[simp] theorem State.bump_bar2 (s : State) (f : Fld) (n : Nat) : (s.bump f n).bar2 = s.bar2 := rfl
@[simp] theorem State.bump_evt (s : State) (f : Fld) (n : Nat) : (s.bump f n).evt = s.evt := rfl
@[simp] theorem State.bump_log (s : State) (f : Fld) (n : Nat) : (s.bump f n).log = s.log := rfl
@[simp] theorem State.bump_rings (s : State) (f : Fld) (n : Nat) : (s.bump f n).rings = s.rings := rfl
@[simp] theorem State.bump_xq (s : State) (f : Fld) (n : Nat) : (s.bump f n).xq = s.xq := rfl
@[simp] theorem State.bump_pwr (s : State) (f : Fld) (n : Nat) : (s.bump f n).pwr = s.pwr := rfl
@[simp] theorem State.bump_rst (s : State) (f : Fld) (n : Nat) : (s.bump f n).rst = s.rst := rfl
@[simp] theorem State.bump_hpg (s : State) (f : Fld) (n : Nat) : (s.bump f n).hpg = s.hpg := rfl
@[simp] theorem State.bump_bkp (s : State) (f : Fld) (n : Nat) : (s.bump f n).bkp = s.bkp := rfl
@[simp] theorem State.bump_optA (s : State) (f : Fld) (n : Nat) : (s.bump f n).optA = s.optA := rfl
@[simp] theorem State.bump_optB (s : State) (f : Fld) (n : Nat) : (s.bump f n).optB = s.optB := rfl
@[simp] theorem State.bump_pins (s : State) (f : Fld) (n : Nat) : (s.bump f n).pins = s.pins := rfl
@[simp] theorem State.bump_sim (s : State) (f : Fld) (n : Nat) : (s.bump f n).sim = s.sim := rfl
@[simp] theorem State.bump_nand (s : State) (f : Fld) (n : Nat) : (s.bump f n).nand = s.nand := rfl
@[simp] theorem State.bump_cls (s : State) (f : Fld) (n : Nat) : (s.bump f n).cls = s.cls := rfl
@[simp] theorem State.bump_aut (s : State) (f : Fld) (n : Nat) : (s.bump f n).aut = s.aut := rfl
@[simp] theorem State.bump_warden (s : State) (f : Fld) (n : Nat) : (s.bump f n).warden = s.warden := rfl
@[simp] theorem State.bump_keys (s : State) (f : Fld) (n : Nat) : (s.bump f n).keys = s.keys := rfl
@[simp] theorem State.bump_key (s : State) (f : Fld) (n : Nat) : (s.bump f n).key = s.key := rfl
@[simp] theorem State.bump_fw (s : State) (f : Fld) (n : Nat) : (s.bump f n).fw = s.fw := rfl
@[simp] theorem State.bump_upd (s : State) (f : Fld) (n : Nat) : (s.bump f n).upd = s.upd := rfl
@[simp] theorem State.bump_ahn (s : State) (f : Fld) (n : Nat) : (s.bump f n).ahn = s.ahn := rfl
@[simp] theorem State.bump_rhl (s : State) (f : Fld) (n : Nat) : (s.bump f n).rhl = s.rhl := rfl
@[simp] theorem State.bump_air (s : State) (f : Fld) (n : Nat) : (s.bump f n).air = s.air := rfl
@[simp] theorem State.bump_eth (s : State) (f : Fld) (n : Nat) : (s.bump f n).eth = s.eth := rfl
@[simp] theorem State.bump_lpe (s : State) (f : Fld) (n : Nat) : (s.bump f n).lpe = s.lpe := rfl
@[simp] theorem State.bump_slv (s : State) (f : Fld) (n : Nat) : (s.bump f n).slv = s.slv := rfl
@[simp] theorem State.bump_tim (s : State) (f : Fld) (n : Nat) : (s.bump f n).tim = s.tim := rfl
@[simp] theorem State.bump_ptp (s : State) (f : Fld) (n : Nat) : (s.bump f n).ptp = s.ptp := rfl
@[simp] theorem State.bump_grx (s : State) (f : Fld) (n : Nat) : (s.bump f n).grx = s.grx := rfl
@[simp] theorem State.bump_dmu (s : State) (f : Fld) (n : Nat) : (s.bump f n).dmu = s.dmu := rfl
@[simp] theorem State.bump_meterSave (s : State) (f : Fld) (n : Nat) : (s.bump f n).meterSave = s.meterSave := rfl
@[simp] theorem State.bump_dsp (s : State) (f : Fld) (n : Nat) : (s.bump f n).dsp = s.dsp := rfl
@[simp] theorem State.bump_hostRead (s : State) (f : Fld) (n : Nat) : (s.bump f n).hostRead = s.hostRead := rfl
@[simp] theorem State.bump_out (s : State) (f : Fld) (n : Nat) : (s.bump f n).out = s.out := rfl
@[simp] theorem State.bump_freeCtr (s : State) (f : Fld) (n : Nat) : (s.bump f n).freeCtr = s.freeCtr := rfl
@[simp] theorem State.bump_pending (s : State) (f : Fld) (n : Nat) : (s.bump f n).pending = s.pending := rfl

/-! ## `refuse` -/

@[simp] theorem State.refuse_mono (s : State) (b r d : Nat) : (s.refuse b r d).mono = s.mono := rfl
@[simp] theorem State.refuse_tai (s : State) (b r d : Nat) : (s.refuse b r d).tai = s.tai := rfl
@[simp] theorem State.refuse_bar2 (s : State) (b r d : Nat) : (s.refuse b r d).bar2 = s.bar2 := rfl
@[simp] theorem State.refuse_evt (s : State) (b r d : Nat) : (s.refuse b r d).evt = s.evt := rfl
@[simp] theorem State.refuse_log (s : State) (b r d : Nat) : (s.refuse b r d).log = s.log := rfl
@[simp] theorem State.refuse_rings (s : State) (b r d : Nat) : (s.refuse b r d).rings = s.rings := rfl
@[simp] theorem State.refuse_xq (s : State) (b r d : Nat) : (s.refuse b r d).xq = s.xq := rfl
@[simp] theorem State.refuse_pwr (s : State) (b r d : Nat) : (s.refuse b r d).pwr = s.pwr := rfl
@[simp] theorem State.refuse_rst (s : State) (b r d : Nat) : (s.refuse b r d).rst = s.rst := rfl
@[simp] theorem State.refuse_hpg (s : State) (b r d : Nat) : (s.refuse b r d).hpg = s.hpg := rfl
@[simp] theorem State.refuse_bkp (s : State) (b r d : Nat) : (s.refuse b r d).bkp = s.bkp := rfl
@[simp] theorem State.refuse_optA (s : State) (b r d : Nat) : (s.refuse b r d).optA = s.optA := rfl
@[simp] theorem State.refuse_optB (s : State) (b r d : Nat) : (s.refuse b r d).optB = s.optB := rfl
@[simp] theorem State.refuse_pins (s : State) (b r d : Nat) : (s.refuse b r d).pins = s.pins := rfl
@[simp] theorem State.refuse_sim (s : State) (b r d : Nat) : (s.refuse b r d).sim = s.sim := rfl
@[simp] theorem State.refuse_nand (s : State) (b r d : Nat) : (s.refuse b r d).nand = s.nand := rfl
@[simp] theorem State.refuse_cls (s : State) (b r d : Nat) : (s.refuse b r d).cls = s.cls := rfl
@[simp] theorem State.refuse_aut (s : State) (b r d : Nat) : (s.refuse b r d).aut = s.aut := rfl
@[simp] theorem State.refuse_warden (s : State) (b r d : Nat) : (s.refuse b r d).warden = s.warden := rfl
@[simp] theorem State.refuse_keys (s : State) (b r d : Nat) : (s.refuse b r d).keys = s.keys := rfl
@[simp] theorem State.refuse_key (s : State) (b r d : Nat) : (s.refuse b r d).key = s.key := rfl
@[simp] theorem State.refuse_fw (s : State) (b r d : Nat) : (s.refuse b r d).fw = s.fw := rfl
@[simp] theorem State.refuse_upd (s : State) (b r d : Nat) : (s.refuse b r d).upd = s.upd := rfl
@[simp] theorem State.refuse_ahn (s : State) (b r d : Nat) : (s.refuse b r d).ahn = s.ahn := rfl
@[simp] theorem State.refuse_rhl (s : State) (b r d : Nat) : (s.refuse b r d).rhl = s.rhl := rfl
@[simp] theorem State.refuse_air (s : State) (b r d : Nat) : (s.refuse b r d).air = s.air := rfl
@[simp] theorem State.refuse_eth (s : State) (b r d : Nat) : (s.refuse b r d).eth = s.eth := rfl
@[simp] theorem State.refuse_lpe (s : State) (b r d : Nat) : (s.refuse b r d).lpe = s.lpe := rfl
@[simp] theorem State.refuse_slv (s : State) (b r d : Nat) : (s.refuse b r d).slv = s.slv := rfl
@[simp] theorem State.refuse_tim (s : State) (b r d : Nat) : (s.refuse b r d).tim = s.tim := rfl
@[simp] theorem State.refuse_ptp (s : State) (b r d : Nat) : (s.refuse b r d).ptp = s.ptp := rfl
@[simp] theorem State.refuse_grx (s : State) (b r d : Nat) : (s.refuse b r d).grx = s.grx := rfl
@[simp] theorem State.refuse_dmu (s : State) (b r d : Nat) : (s.refuse b r d).dmu = s.dmu := rfl
@[simp] theorem State.refuse_meterSave (s : State) (b r d : Nat) : (s.refuse b r d).meterSave = s.meterSave := rfl
@[simp] theorem State.refuse_dsp (s : State) (b r d : Nat) : (s.refuse b r d).dsp = s.dsp := rfl
@[simp] theorem State.refuse_hostRead (s : State) (b r d : Nat) : (s.refuse b r d).hostRead = s.hostRead := rfl
@[simp] theorem State.refuse_out (s : State) (b r d : Nat) : (s.refuse b r d).out = s.out := rfl
@[simp] theorem State.refuse_freeCtr (s : State) (b r d : Nat) : (s.refuse b r d).freeCtr = s.freeCtr := rfl
@[simp] theorem State.refuse_pending (s : State) (b r d : Nat) : (s.refuse b r d).pending = s.pending := rfl

/-! ## `bar2Write` -/

@[simp] theorem State.bar2Write_mono (s : State) (a : Nat) (bs : List Byte) : (s.bar2Write a bs).mono = s.mono := rfl
@[simp] theorem State.bar2Write_tai (s : State) (a : Nat) (bs : List Byte) : (s.bar2Write a bs).tai = s.tai := rfl
@[simp] theorem State.bar2Write_regs (s : State) (a : Nat) (bs : List Byte) : (s.bar2Write a bs).regs = s.regs := rfl
@[simp] theorem State.bar2Write_evt (s : State) (a : Nat) (bs : List Byte) : (s.bar2Write a bs).evt = s.evt := rfl
@[simp] theorem State.bar2Write_log (s : State) (a : Nat) (bs : List Byte) : (s.bar2Write a bs).log = s.log := rfl
@[simp] theorem State.bar2Write_rings (s : State) (a : Nat) (bs : List Byte) : (s.bar2Write a bs).rings = s.rings := rfl
@[simp] theorem State.bar2Write_xq (s : State) (a : Nat) (bs : List Byte) : (s.bar2Write a bs).xq = s.xq := rfl
@[simp] theorem State.bar2Write_pwr (s : State) (a : Nat) (bs : List Byte) : (s.bar2Write a bs).pwr = s.pwr := rfl
@[simp] theorem State.bar2Write_rst (s : State) (a : Nat) (bs : List Byte) : (s.bar2Write a bs).rst = s.rst := rfl
@[simp] theorem State.bar2Write_hpg (s : State) (a : Nat) (bs : List Byte) : (s.bar2Write a bs).hpg = s.hpg := rfl
@[simp] theorem State.bar2Write_bkp (s : State) (a : Nat) (bs : List Byte) : (s.bar2Write a bs).bkp = s.bkp := rfl
@[simp] theorem State.bar2Write_optA (s : State) (a : Nat) (bs : List Byte) : (s.bar2Write a bs).optA = s.optA := rfl
@[simp] theorem State.bar2Write_optB (s : State) (a : Nat) (bs : List Byte) : (s.bar2Write a bs).optB = s.optB := rfl
@[simp] theorem State.bar2Write_pins (s : State) (a : Nat) (bs : List Byte) : (s.bar2Write a bs).pins = s.pins := rfl
@[simp] theorem State.bar2Write_sim (s : State) (a : Nat) (bs : List Byte) : (s.bar2Write a bs).sim = s.sim := rfl
@[simp] theorem State.bar2Write_nand (s : State) (a : Nat) (bs : List Byte) : (s.bar2Write a bs).nand = s.nand := rfl
@[simp] theorem State.bar2Write_cls (s : State) (a : Nat) (bs : List Byte) : (s.bar2Write a bs).cls = s.cls := rfl
@[simp] theorem State.bar2Write_aut (s : State) (a : Nat) (bs : List Byte) : (s.bar2Write a bs).aut = s.aut := rfl
@[simp] theorem State.bar2Write_warden (s : State) (a : Nat) (bs : List Byte) : (s.bar2Write a bs).warden = s.warden := rfl
@[simp] theorem State.bar2Write_keys (s : State) (a : Nat) (bs : List Byte) : (s.bar2Write a bs).keys = s.keys := rfl
@[simp] theorem State.bar2Write_key (s : State) (a : Nat) (bs : List Byte) : (s.bar2Write a bs).key = s.key := rfl
@[simp] theorem State.bar2Write_fw (s : State) (a : Nat) (bs : List Byte) : (s.bar2Write a bs).fw = s.fw := rfl
@[simp] theorem State.bar2Write_upd (s : State) (a : Nat) (bs : List Byte) : (s.bar2Write a bs).upd = s.upd := rfl
@[simp] theorem State.bar2Write_ahn (s : State) (a : Nat) (bs : List Byte) : (s.bar2Write a bs).ahn = s.ahn := rfl
@[simp] theorem State.bar2Write_rhl (s : State) (a : Nat) (bs : List Byte) : (s.bar2Write a bs).rhl = s.rhl := rfl
@[simp] theorem State.bar2Write_air (s : State) (a : Nat) (bs : List Byte) : (s.bar2Write a bs).air = s.air := rfl
@[simp] theorem State.bar2Write_eth (s : State) (a : Nat) (bs : List Byte) : (s.bar2Write a bs).eth = s.eth := rfl
@[simp] theorem State.bar2Write_lpe (s : State) (a : Nat) (bs : List Byte) : (s.bar2Write a bs).lpe = s.lpe := rfl
@[simp] theorem State.bar2Write_slv (s : State) (a : Nat) (bs : List Byte) : (s.bar2Write a bs).slv = s.slv := rfl
@[simp] theorem State.bar2Write_tim (s : State) (a : Nat) (bs : List Byte) : (s.bar2Write a bs).tim = s.tim := rfl
@[simp] theorem State.bar2Write_ptp (s : State) (a : Nat) (bs : List Byte) : (s.bar2Write a bs).ptp = s.ptp := rfl
@[simp] theorem State.bar2Write_grx (s : State) (a : Nat) (bs : List Byte) : (s.bar2Write a bs).grx = s.grx := rfl
@[simp] theorem State.bar2Write_dmu (s : State) (a : Nat) (bs : List Byte) : (s.bar2Write a bs).dmu = s.dmu := rfl
@[simp] theorem State.bar2Write_meterSave (s : State) (a : Nat) (bs : List Byte) : (s.bar2Write a bs).meterSave = s.meterSave := rfl
@[simp] theorem State.bar2Write_dsp (s : State) (a : Nat) (bs : List Byte) : (s.bar2Write a bs).dsp = s.dsp := rfl
@[simp] theorem State.bar2Write_hostRead (s : State) (a : Nat) (bs : List Byte) : (s.bar2Write a bs).hostRead = s.hostRead := rfl
@[simp] theorem State.bar2Write_out (s : State) (a : Nat) (bs : List Byte) : (s.bar2Write a bs).out = s.out := rfl
@[simp] theorem State.bar2Write_freeCtr (s : State) (a : Nat) (bs : List Byte) : (s.bar2Write a bs).freeCtr = s.freeCtr := rfl
@[simp] theorem State.bar2Write_pending (s : State) (a : Nat) (bs : List Byte) : (s.bar2Write a bs).pending = s.pending := rfl

/-! ## `emit` -/

@[simp] theorem State.emit_mono (s : State) (e : Emit) : (s.emit e).mono = s.mono := rfl
@[simp] theorem State.emit_tai (s : State) (e : Emit) : (s.emit e).tai = s.tai := rfl
@[simp] theorem State.emit_regs (s : State) (e : Emit) : (s.emit e).regs = s.regs := rfl
@[simp] theorem State.emit_bar2 (s : State) (e : Emit) : (s.emit e).bar2 = s.bar2 := rfl
@[simp] theorem State.emit_evt (s : State) (e : Emit) : (s.emit e).evt = s.evt := rfl
@[simp] theorem State.emit_log (s : State) (e : Emit) : (s.emit e).log = s.log := rfl
@[simp] theorem State.emit_rings (s : State) (e : Emit) : (s.emit e).rings = s.rings := rfl
@[simp] theorem State.emit_xq (s : State) (e : Emit) : (s.emit e).xq = s.xq := rfl
@[simp] theorem State.emit_pwr (s : State) (e : Emit) : (s.emit e).pwr = s.pwr := rfl
@[simp] theorem State.emit_rst (s : State) (e : Emit) : (s.emit e).rst = s.rst := rfl
@[simp] theorem State.emit_hpg (s : State) (e : Emit) : (s.emit e).hpg = s.hpg := rfl
@[simp] theorem State.emit_bkp (s : State) (e : Emit) : (s.emit e).bkp = s.bkp := rfl
@[simp] theorem State.emit_optA (s : State) (e : Emit) : (s.emit e).optA = s.optA := rfl
@[simp] theorem State.emit_optB (s : State) (e : Emit) : (s.emit e).optB = s.optB := rfl
@[simp] theorem State.emit_pins (s : State) (e : Emit) : (s.emit e).pins = s.pins := rfl
@[simp] theorem State.emit_sim (s : State) (e : Emit) : (s.emit e).sim = s.sim := rfl
@[simp] theorem State.emit_nand (s : State) (e : Emit) : (s.emit e).nand = s.nand := rfl
@[simp] theorem State.emit_cls (s : State) (e : Emit) : (s.emit e).cls = s.cls := rfl
@[simp] theorem State.emit_aut (s : State) (e : Emit) : (s.emit e).aut = s.aut := rfl
@[simp] theorem State.emit_warden (s : State) (e : Emit) : (s.emit e).warden = s.warden := rfl
@[simp] theorem State.emit_keys (s : State) (e : Emit) : (s.emit e).keys = s.keys := rfl
@[simp] theorem State.emit_key (s : State) (e : Emit) : (s.emit e).key = s.key := rfl
@[simp] theorem State.emit_fw (s : State) (e : Emit) : (s.emit e).fw = s.fw := rfl
@[simp] theorem State.emit_upd (s : State) (e : Emit) : (s.emit e).upd = s.upd := rfl
@[simp] theorem State.emit_ahn (s : State) (e : Emit) : (s.emit e).ahn = s.ahn := rfl
@[simp] theorem State.emit_rhl (s : State) (e : Emit) : (s.emit e).rhl = s.rhl := rfl
@[simp] theorem State.emit_air (s : State) (e : Emit) : (s.emit e).air = s.air := rfl
@[simp] theorem State.emit_eth (s : State) (e : Emit) : (s.emit e).eth = s.eth := rfl
@[simp] theorem State.emit_lpe (s : State) (e : Emit) : (s.emit e).lpe = s.lpe := rfl
@[simp] theorem State.emit_slv (s : State) (e : Emit) : (s.emit e).slv = s.slv := rfl
@[simp] theorem State.emit_tim (s : State) (e : Emit) : (s.emit e).tim = s.tim := rfl
@[simp] theorem State.emit_ptp (s : State) (e : Emit) : (s.emit e).ptp = s.ptp := rfl
@[simp] theorem State.emit_grx (s : State) (e : Emit) : (s.emit e).grx = s.grx := rfl
@[simp] theorem State.emit_dmu (s : State) (e : Emit) : (s.emit e).dmu = s.dmu := rfl
@[simp] theorem State.emit_meterSave (s : State) (e : Emit) : (s.emit e).meterSave = s.meterSave := rfl
@[simp] theorem State.emit_dsp (s : State) (e : Emit) : (s.emit e).dsp = s.dsp := rfl
@[simp] theorem State.emit_hostRead (s : State) (e : Emit) : (s.emit e).hostRead = s.hostRead := rfl
@[simp] theorem State.emit_freeCtr (s : State) (e : Emit) : (s.emit e).freeCtr = s.freeCtr := rfl
@[simp] theorem State.emit_pending (s : State) (e : Emit) : (s.emit e).pending = s.pending := rfl

/-! ## `setRing` -/

@[simp] theorem State.setRing_mono (s : State) (r : Nat) (g : Ring) : (s.setRing r g).mono = s.mono := rfl
@[simp] theorem State.setRing_tai (s : State) (r : Nat) (g : Ring) : (s.setRing r g).tai = s.tai := rfl
@[simp] theorem State.setRing_regs (s : State) (r : Nat) (g : Ring) : (s.setRing r g).regs = s.regs := rfl
@[simp] theorem State.setRing_bar2 (s : State) (r : Nat) (g : Ring) : (s.setRing r g).bar2 = s.bar2 := rfl
@[simp] theorem State.setRing_evt (s : State) (r : Nat) (g : Ring) : (s.setRing r g).evt = s.evt := rfl
@[simp] theorem State.setRing_log (s : State) (r : Nat) (g : Ring) : (s.setRing r g).log = s.log := rfl
@[simp] theorem State.setRing_xq (s : State) (r : Nat) (g : Ring) : (s.setRing r g).xq = s.xq := rfl
@[simp] theorem State.setRing_pwr (s : State) (r : Nat) (g : Ring) : (s.setRing r g).pwr = s.pwr := rfl
@[simp] theorem State.setRing_rst (s : State) (r : Nat) (g : Ring) : (s.setRing r g).rst = s.rst := rfl
@[simp] theorem State.setRing_hpg (s : State) (r : Nat) (g : Ring) : (s.setRing r g).hpg = s.hpg := rfl
@[simp] theorem State.setRing_bkp (s : State) (r : Nat) (g : Ring) : (s.setRing r g).bkp = s.bkp := rfl
@[simp] theorem State.setRing_optA (s : State) (r : Nat) (g : Ring) : (s.setRing r g).optA = s.optA := rfl
@[simp] theorem State.setRing_optB (s : State) (r : Nat) (g : Ring) : (s.setRing r g).optB = s.optB := rfl
@[simp] theorem State.setRing_pins (s : State) (r : Nat) (g : Ring) : (s.setRing r g).pins = s.pins := rfl
@[simp] theorem State.setRing_sim (s : State) (r : Nat) (g : Ring) : (s.setRing r g).sim = s.sim := rfl
@[simp] theorem State.setRing_nand (s : State) (r : Nat) (g : Ring) : (s.setRing r g).nand = s.nand := rfl
@[simp] theorem State.setRing_cls (s : State) (r : Nat) (g : Ring) : (s.setRing r g).cls = s.cls := rfl
@[simp] theorem State.setRing_aut (s : State) (r : Nat) (g : Ring) : (s.setRing r g).aut = s.aut := rfl
@[simp] theorem State.setRing_warden (s : State) (r : Nat) (g : Ring) : (s.setRing r g).warden = s.warden := rfl
@[simp] theorem State.setRing_keys (s : State) (r : Nat) (g : Ring) : (s.setRing r g).keys = s.keys := rfl
@[simp] theorem State.setRing_key (s : State) (r : Nat) (g : Ring) : (s.setRing r g).key = s.key := rfl
@[simp] theorem State.setRing_fw (s : State) (r : Nat) (g : Ring) : (s.setRing r g).fw = s.fw := rfl
@[simp] theorem State.setRing_upd (s : State) (r : Nat) (g : Ring) : (s.setRing r g).upd = s.upd := rfl
@[simp] theorem State.setRing_ahn (s : State) (r : Nat) (g : Ring) : (s.setRing r g).ahn = s.ahn := rfl
@[simp] theorem State.setRing_rhl (s : State) (r : Nat) (g : Ring) : (s.setRing r g).rhl = s.rhl := rfl
@[simp] theorem State.setRing_air (s : State) (r : Nat) (g : Ring) : (s.setRing r g).air = s.air := rfl
@[simp] theorem State.setRing_eth (s : State) (r : Nat) (g : Ring) : (s.setRing r g).eth = s.eth := rfl
@[simp] theorem State.setRing_lpe (s : State) (r : Nat) (g : Ring) : (s.setRing r g).lpe = s.lpe := rfl
@[simp] theorem State.setRing_slv (s : State) (r : Nat) (g : Ring) : (s.setRing r g).slv = s.slv := rfl
@[simp] theorem State.setRing_tim (s : State) (r : Nat) (g : Ring) : (s.setRing r g).tim = s.tim := rfl
@[simp] theorem State.setRing_ptp (s : State) (r : Nat) (g : Ring) : (s.setRing r g).ptp = s.ptp := rfl
@[simp] theorem State.setRing_grx (s : State) (r : Nat) (g : Ring) : (s.setRing r g).grx = s.grx := rfl
@[simp] theorem State.setRing_dmu (s : State) (r : Nat) (g : Ring) : (s.setRing r g).dmu = s.dmu := rfl
@[simp] theorem State.setRing_meterSave (s : State) (r : Nat) (g : Ring) : (s.setRing r g).meterSave = s.meterSave := rfl
@[simp] theorem State.setRing_dsp (s : State) (r : Nat) (g : Ring) : (s.setRing r g).dsp = s.dsp := rfl
@[simp] theorem State.setRing_hostRead (s : State) (r : Nat) (g : Ring) : (s.setRing r g).hostRead = s.hostRead := rfl
@[simp] theorem State.setRing_out (s : State) (r : Nat) (g : Ring) : (s.setRing r g).out = s.out := rfl
@[simp] theorem State.setRing_freeCtr (s : State) (r : Nat) (g : Ring) : (s.setRing r g).freeCtr = s.freeCtr := rfl
@[simp] theorem State.setRing_pending (s : State) (r : Nat) (g : Ring) : (s.setRing r g).pending = s.pending := rfl

end Sys2Proof.Machine
end

