-- ==== Sys2Proof/Laws/Frame.lean ====
section
/-!
SUPPORT. Frames: how they compose, and what each shared operation leaves as it was. The main lemma is `State.raise_frame`: an
event's report touches nothing but the report registers, rings, engines and outputs.
-/

namespace Sys2Proof.Machine

/-! ## Parts and frames -/

@[simp] theorem Part.same_refl (p : Part) (s : State) : p.same s s := by cases p <;> rfl

theorem Part.same_trans {p : Part} {s t u : State} (h : p.same s t) (k : p.same t u) : p.same s u := by
  cases p <;> exact Eq.trans k h

/-- A register write changes no part. -/
@[simp] theorem Part.same_setRegB (p : Part) (s : State) (b a : Nat) (w : Word) : p.same s (s.setRegB b a w) := by
  cases p <;> rfl

@[simp] theorem Part.same_setFldB (p : Part) (s : State) (b : Nat) (f : Fld) (v : Nat) : p.same s (s.setFldB b f v) :=
  Part.same_setRegB p s b _ _

/-- A write to BAR2 changes no part. -/
@[simp] theorem Part.same_bar2Write (p : Part) (s : State) (a : Nat) (bs : List Byte) : p.same s (s.bar2Write a bs) := by
  cases p <;> rfl

theorem State.Frame.refl (regs : List Nat) (parts : List Part) (s : State) : State.Frame regs parts s s :=
  ⟨fun _ _ _ _ => rfl, fun _ => rfl, fun p _ => Part.same_refl p s⟩

theorem State.Frame.trans {regs : List Nat} {parts : List Part} {s t u : State} (h : State.Frame regs parts s t)
    (k : State.Frame regs parts t u) : State.Frame regs parts s u :=
  ⟨fun b a ha hr => (k.1 b a ha hr).trans (h.1 b a ha hr), fun a => (k.2.1 a).trans (h.2.1 a),
    fun p hp => Part.same_trans (h.2.2 p hp) (k.2.2 p hp)⟩

/-- A frame that allows more. -/
theorem State.Frame.mono {regs regs' : List Nat} {parts parts' : List Part} {s t : State} (h : State.Frame regs parts s t)
    (hr : ∀ a ∈ regs, a ∈ regs') (hp : ∀ p ∈ parts, p ∈ parts') : State.Frame regs' parts' s t :=
  ⟨fun b a ha hn => h.1 b a ha (fun hm => hn (hr a hm)), h.2.1, fun p hn => h.2.2 p (fun hm => hn (hp p hm))⟩

/-- The registers that place the report rings. -/
def ringCfgRegs : List Nat := [R.EVT_RING, R.LOG_CFG, R.HST_RING_CFG, R.HST_RING_BASE]

/-- Where the report rings lie depends on their configuration registers alone. -/
theorem State.inReportRing_congr {s t : State} (h : ∀ b, ∀ a ∈ ringCfgRegs, t.regB b a = s.regB b a) (a : Nat) :
    t.inReportRing a = s.inReportRing a := by
  have hr : ∀ r, t.inRing r a = s.inRing r a := by
    intro r
    have e3 := h r R.HST_RING_CFG (by decide)
    have e4 := h r R.HST_RING_BASE (by decide)
    have b1 : t.ringBase r = s.ringBase r := by simp only [State.ringBase, State.fldB, e4]
    have b2 : t.ringCount r = s.ringCount r := by simp only [State.ringCount, State.fldB, e3]
    have b3 : t.ringSlot r = s.ringSlot r := by simp only [State.ringSlot, State.fldB, e3]
    unfold State.inRing
    rw [b1, b2, b3]
  have e1 : t.fld F.EVT_RING_RING = s.fld F.EVT_RING_RING := by
    simp only [State.fld, State.fldB, h 0 R.EVT_RING (by decide)]
  have e2 : t.fld F.LOG_CFG_RING = s.fld F.LOG_CFG_RING := by
    simp only [State.fld, State.fldB, h 0 R.LOG_CFG (by decide)]
  unfold State.inReportRing
  rw [e1, e2, hr, hr]

theorem State.ReportFrame.refl (regs : List Nat) (parts : List Part) (s : State) : State.ReportFrame regs parts s s :=
  ⟨fun _ _ _ _ _ => rfl, fun _ _ => rfl, fun p _ _ => Part.same_refl p s⟩

/-- A frame is a report frame. -/
theorem State.Frame.report {regs : List Nat} {parts : List Part} {s t : State} (h : State.Frame regs parts s t) :
    State.ReportFrame regs parts s t :=
  ⟨fun b a ha hr _ => h.1 b a ha hr, fun a _ => h.2.1 a, fun p hp _ => h.2.2 p hp⟩

theorem State.ReportFrame.trans {regs : List Nat} {parts : List Part} {s t u : State}
    (hc : ∀ a ∈ ringCfgRegs, a ∉ regs) (h : State.ReportFrame regs parts s t) (k : State.ReportFrame regs parts t u) :
    State.ReportFrame regs parts s u := by
  refine ⟨fun b a ha hr hn => (k.1 b a ha hr hn).trans (h.1 b a ha hr hn), fun a ha => ?_,
    fun p hp hq => Part.same_trans (h.2.2 p hp hq) (k.2.2 p hp hq)⟩
  have e : t.inReportRing a = s.inReportRing a := State.inReportRing_congr (fun b x hx => h.1 b x
    (by revert hx; revert x; decide) (hc x hx) (by revert hx; revert x; decide)) a
  exact (k.2.1 a (e.trans ha)).trans (h.2.1 a ha)

theorem State.ReportFrame.mono {regs regs' : List Nat} {parts parts' : List Part} {s t : State}
    (h : State.ReportFrame regs parts s t) (hr : ∀ a ∈ regs, a ∈ regs') (hp : ∀ p ∈ parts, p ∈ parts') :
    State.ReportFrame regs' parts' s t :=
  ⟨fun b a ha hn => h.1 b a ha (fun hm => hn (hr a hm)), h.2.1, fun p hn => h.2.2 p (fun hm => hn (hp p hm))⟩

/-! ## The shared writes -/

theorem State.setRegB_frame (s : State) (b : Nat) {a : Nat} (w : Word) (ha : a < 0x4000000) :
    State.Frame [a] [] s (s.setRegB b a w) :=
  ⟨fun _ _ ha' hr => s.regB_setRegB_other w ha ha' (fun h => hr (by simp [h.2])), fun _ => rfl,
    fun p _ => Part.same_setRegB p s b a w⟩

theorem State.setFldB_frame (s : State) (b : Nat) {f : Fld} (v : Nat) (ha : f.addr < 0x4000000) :
    State.Frame [f.addr] [] s (s.setFldB b f v) := s.setRegB_frame b _ ha

theorem State.bumpB_frame (s : State) (b : Nat) {f : Fld} (n : Nat) (ha : f.addr < 0x4000000) :
    State.Frame [f.addr] [] s (s.bumpB b f n) := s.setFldB_frame b _ ha

theorem State.emit_frame (s : State) (e : Emit) : State.Frame [] [.out] s (s.emit e) :=
  ⟨fun _ _ _ _ => rfl, fun _ => rfl, fun p hp => by cases p <;> first | rfl | exact absurd (by simp) hp⟩

/-- The report registers but for the pending bits. -/
def plumbReg (a : Nat) : Bool :=
  a == R.EVT_CNT || a == R.HST_CNT + 4 || a == R.HST_RING_DROP || a == R.HST_PBA || a == R.HST_PBA + 4 || a == R.LOG_CNT
    || a == R.LOG_CNT + 4 || a == R.LOG_CNT + 12

theorem reportReg_of_plumbReg {a : Nat} (h : reportReg a = false) : plumbReg a = false := by
  simp only [reportReg, Bool.or_eq_false_iff] at h
  simp only [plumbReg, Bool.or_eq_false_iff]
  tauto

/-- What reporting an event does beside its pending bit, and nothing else: the frame of every operation of this section. -/
def State.Plumbed (s t : State) : Prop :=
  (∀ b a, a < 0x4000000 → plumbReg a = false → t.regB b a = s.regB b a) ∧
    (∀ a, s.inReportRing a = false → t.bar2At a = s.bar2At a) ∧ ∀ p, p ∉ reportParts → p.same s t

theorem State.Plumbed.refl (s : State) : s.Plumbed s := ⟨fun _ _ _ _ => rfl, fun _ _ => rfl, fun p _ => Part.same_refl p s⟩

theorem State.Plumbed.trans {s t u : State} (h : s.Plumbed t) (k : t.Plumbed u) : s.Plumbed u := by
  refine ⟨fun b a ha hn => (k.1 b a ha hn).trans (h.1 b a ha hn), fun a ha => ?_,
    fun p hq => Part.same_trans (h.2.2 p hq) (k.2.2 p hq)⟩
  have e : t.inReportRing a = s.inReportRing a := State.inReportRing_congr (fun b x hx => h.1 b x
    (by revert hx; revert x; decide) (by revert hx; revert x; decide)) a
  exact (k.2.1 a (e.trans ha)).trans (h.2.1 a ha)

theorem State.plumbed_parts {s t : State} (hr : t.regs = s.regs) (hb : t.bar2 = s.bar2)
    (hp : ∀ p, p ∉ reportParts → p.same s t) : s.Plumbed t :=
  ⟨fun b a _ _ => by simp [State.regB, hr], fun a _ => by simp [State.bar2At, hb], fun p h => hp p h⟩

/-- A change of report parts alone is reported. -/
theorem State.plumbed_of_parts (s : State) (e : EvtSt) (l : LogSt) (r : SMap Ring) (o : List Emit) :
    s.Plumbed { s with evt := e, log := l, rings := r, out := o } :=
  State.plumbed_parts rfl rfl (fun p h => by cases p <;> first | rfl | exact absurd (by decide) h)

theorem State.plumbed_setFldB (s : State) (b : Nat) {f : Fld} (v : Nat) (ha : f.addr < 0x4000000)
    (h : plumbReg f.addr = true) : s.Plumbed (s.setFldB b f v) :=
  ⟨fun _ _ ha' hn => s.regB_setRegB_other _ ha ha' (fun h' => by rw [h'.2, h] at hn; cases hn), fun _ _ => rfl,
    fun p _ => Part.same_setFldB p s b f v⟩

theorem State.plumbed_bumpB (s : State) (b : Nat) {f : Fld} (n : Nat) (ha : f.addr < 0x4000000)
    (h : plumbReg f.addr = true) : s.Plumbed (s.bumpB b f n) := s.plumbed_setFldB b _ ha h

theorem State.fldB_le (s : State) (b : Nat) (f : Fld) : s.fldB b f < 2 ^ (f.hi - f.lo + 1) := Fld.get_lt f _

theorem State.plumbed_sendVec (s : State) {v : Nat} (hv : v < 64) : s.Plumbed (s.sendVec v) := by
  unfold State.sendVec
  split
  · exact State.Plumbed.refl s
  · split
    · refine s.plumbed_setFldB 0 1 ?_ ?_ <;>
        · have : v / 32 = 0 ∨ v / 32 = 1 := by omega
          rcases this with h | h <;> simp only [pbaFld, h] <;> decide
    · exact s.plumbed_of_parts _ s.log s.rings _

theorem State.plumbed_signalVec (s : State) {v : Nat} (hv : v < 64) : s.Plumbed (s.signalVec v) := by
  unfold State.signalVec
  split
  · split
    · exact s.plumbed_of_parts _ s.log s.rings s.out
    · exact s.plumbed_sendVec hv
  · exact s.plumbed_sendVec hv

theorem State.plumbed_setRing (s : State) (r : Nat) (g : Ring) : s.Plumbed (s.setRing r g) :=
  s.plumbed_of_parts s.evt s.log _ s.out

theorem State.plumbed_ringNotify (s : State) (r : Nat) : s.Plumbed (s.ringNotify r) := by
  unfold State.ringNotify
  split
  · exact (s.plumbed_setRing r _).trans (State.plumbed_signalVec _ (by simpa using s.fldB_le r F.HST_RING_CFG_VEC))
  · exact State.Plumbed.refl s

/-- A write that stays in a slot of a report ring is reported. -/
theorem State.plumbed_slotWrite (s : State) {r : Nat} (i : Nat) {off : Nat} {bs : List Byte}
    (hr : ∀ a, s.inReportRing a = false → s.inRing r a = false)
    (hlen : off + bs.length ≤ 16 ∨ off + bs.length ≤ s.ringSlot r) : s.Plumbed (s.bar2Write (s.slotAt r i + off) bs) := by
  refine ⟨fun _ _ _ _ => rfl, fun a ha => ?_, fun p _ => Part.same_bar2Write p s _ bs⟩
  have h := hr a ha
  apply State.bar2At_bar2Write_other
  by_contra hc
  have hlt : i % s.ringCount r < s.ringCount r := Nat.mod_lt _ (by unfold State.ringCount; positivity)
  have hm : (i % s.ringCount r + 1) * s.ringSlot r ≤ s.ringCount r * s.ringSlot r := Nat.mul_le_mul_right _ hlt
  have hpos : 0 < s.ringSlot r := by unfold State.ringSlot; positivity
  simp only [State.inRing, Bool.and_eq_false_iff, decide_eq_false_iff_not] at h
  simp only [State.slotAt] at hc
  rw [Nat.add_mul, Nat.one_mul] at hm
  omega

/-- An entry offered to a report ring (R336, R337) touches that ring and the reports alone. -/
theorem State.plumbed_ringPut (s : State) (r src : Nat) (payload : List Byte) (o : Bool)
    (hr : ∀ a, s.inReportRing a = false → s.inRing r a = false) : s.Plumbed (s.ringPut r src payload o).1 := by
  unfold State.ringPut
  have h0 : s.Plumbed (s.setRing r { s.ring r with rseq := ((s.ring r).rseq + 1) % 2 ^ 32 }) := s.plumbed_setRing r _
  generalize hs1 : s.setRing r { s.ring r with rseq := ((s.ring r).rseq + 1) % 2 ^ 32 } = s1 at h0
  have hr1 : ∀ a, s1.inReportRing a = false → s1.inRing r a = false := by subst hs1; exact hr
  have adv : ∀ (u : State) (g : Ring), s1.Plumbed u → s1.Plumbed ((u.setRing r g).ringNotify r) := fun u g hu =>
    (hu.trans (u.plumbed_setRing r g)).trans (State.plumbed_ringNotify _ r)
  simp only []
  rw [hs1]
  split
  · exact h0.trans (s1.plumbed_bumpB 0 1 (by decide) (by decide))
  split
  · exact h0.trans (s1.plumbed_bumpB r 1 (by decide) (by decide))
  split
  · exact h0.trans (s1.plumbed_bumpB r 1 (by decide) (by decide))
  split
  · split
    · exact h0.trans (s1.plumbed_bumpB r 1 (by decide) (by decide))
    · refine h0.trans (adv _ _ ?_)
      have he : s1.Plumbed (s1.emit (.dma (Bytes.toNat (s1.bar2Read (s1.slotAt r (s.ring r).p) 8)) payload)) :=
        s1.plumbed_of_parts s1.evt s1.log s1.rings _
      refine he.trans (State.plumbed_slotWrite _ (r := r) (s.ring r).p ?_ (Or.inl ?_))
      · exact hr1
      · simp [Bytes.ofNat]
  · split
    · exact h0.trans (s1.plumbed_bumpB r 1 (by decide) (by decide))
    · rename_i hlen
      refine h0.trans (adv _ _ ?_)
      have := State.plumbed_slotWrite s1 (r := r) (s.ring r).p (off := 0)
        (bs := Bytes.ofNat 2 payload.length ++ [BitVec.ofNat 8 src, 0#8] ++ Bytes.ofNat 4 (s.ring r).rseq ++ payload) hr1
        (Or.inr (by simp [Bytes.ofNat]; omega))
      simpa using this

/-! ## Events and their records -/

theorem State.inRing_evt {s : State} (a : Nat) (h : s.inReportRing a = false) : s.inRing (s.fld F.EVT_RING_RING) a = false := by
  simp only [State.inReportRing, Bool.or_eq_false_iff] at h; exact h.1

theorem State.inRing_log {s : State} (a : Nat) (h : s.inReportRing a = false) : s.inRing (s.fld F.LOG_CFG_RING) a = false := by
  simp only [State.inReportRing, Bool.or_eq_false_iff] at h; exact h.2

theorem State.plumbed_log (s : State) (l : LogSt) : s.Plumbed { s with log := l } := s.plumbed_of_parts s.evt l s.rings s.out

theorem State.plumbed_evt (s : State) (e : EvtSt) : s.Plumbed { s with evt := e } := s.plumbed_of_parts e s.log s.rings s.out

theorem State.plumbed_logEnter (s : State) (r : LogRec) : s.Plumbed (s.logEnter r).1 := by
  unfold State.logEnter
  simp only []
  split
  · exact (s.plumbed_log _).trans (State.plumbed_bumpB _ 0 1 (f := F.LOG_CNT_COUNT.nth 3) (by decide) (by decide))
  · exact (s.plumbed_log _).trans (State.plumbed_bumpB _ 0 1 (f := F.LOG_CNT_COUNT.nth 0) (by decide) (by decide))

theorem State.plumbed_logOut (s : State) (r : LogRec) : s.Plumbed (s.logOut r) := by
  unfold State.logOut
  split
  · exact State.plumbed_ringPut _ _ _ _ _ State.inRing_log
  · exact State.Plumbed.refl s

theorem State.plumbed_logWrite (s : State) (r : LogRec) : s.Plumbed (s.logWrite r) := by
  have h := s.plumbed_logEnter r
  unfold State.logWrite
  split <;> rename_i heq <;> rw [heq] at h
  · exact h.trans (State.plumbed_logOut _ _)
  · exact h

theorem State.plumbed_logClose (s : State) (e : LogRepeat) : s.Plumbed (s.logClose e) := by
  unfold State.logClose
  exact (s.plumbed_log _).trans (State.plumbed_logWrite _ _)

theorem State.plumbed_logEvent (s : State) (b n a : Nat) (p : List Byte) : s.Plumbed (s.logEvent b n a p) := by
  unfold State.logEvent
  split
  · have hb : s.Plumbed (s.bump (F.LOG_CNT_COUNT.nth 1)) := s.plumbed_bumpB 0 1 (by decide) (by decide)
    refine hb.trans ?_
    simp only []
    split
    · split
      · exact (State.plumbed_log _ _).trans (State.plumbed_logClose _ _)
      · exact State.plumbed_log _ _
    · split
      · split
        · exact State.plumbed_log _ _
        · exact (State.plumbed_logClose _ _).trans (State.plumbed_log _ _)
      · exact State.plumbed_log _ _
  · exact (s.plumbed_log _).trans (State.plumbed_logWrite _ _)

theorem State.plumbed_evtRecord (s : State) (n a : Nat) : s.Plumbed (s.evtRecord n a).1 := by
  unfold State.evtRecord
  split
  · exact State.Plumbed.refl s
  · have h1 := (s.plumbed_evt { s.evt with eseq := (s.evt.eseq + 1) % 2 ^ 32 }).trans
      (State.plumbed_ringPut _ (s.fld F.EVT_RING_RING) Blk.EVT (evtBytes n a s.stamp s.evt.eseq s.evt.lost) true State.inRing_evt)
    simp only []
    split <;> rename_i heq <;> replace h1 := Eq.mp (congrArg s.Plumbed (congrArg Prod.fst heq)) h1
    · exact h1.trans (State.plumbed_evt _ _)
    · exact (h1.trans (State.plumbed_evt _ _)).trans (State.plumbed_bumpB _ 0 1 (f := F.EVT_CNT_LOST) (by decide) (by decide))

/-- What reporting events does, and nothing else. -/
abbrev State.Reported (s t : State) : Prop := State.ReportFrame [] [] s t

theorem State.Plumbed.reported {s t : State} (h : s.Plumbed t) : s.Reported t :=
  ⟨fun b a ha _ hn => h.1 b a ha (reportReg_of_plumbReg hn), h.2.1, fun p _ hp => h.2.2 p hp⟩

theorem State.Reported.trans {s t u : State} (h : s.Reported t) (k : t.Reported u) : s.Reported u :=
  State.ReportFrame.trans (by simp) h k

/-- The pending bit of an event lies in the pending registers. -/
theorem pendFld_addr {n : Nat} (hn : n < 256) :
    (pendFld n).addr < 0x4000000 ∧ reportReg (pendFld n).addr = true ∧ plumbReg (pendFld n).addr = false := by
  have : n / 32 = 0 ∨ n / 32 = 1 ∨ n / 32 = 2 ∨ n / 32 = 3 ∨ n / 32 = 4 ∨ n / 32 = 5 ∨ n / 32 = 6 ∨ n / 32 = 7 := by omega
  rcases this with h | h | h | h | h | h | h | h <;> simp only [pendFld, h] <;> decide

/-- One report of an event: its pending bit is set, and the rest is plumbing. -/
theorem State.plumbed_raiseOnce (s : State) (n a : Nat) (p : List Byte) (l : Bool) :
    (s.setFld (pendFld n) 1).Plumbed (s.raiseOnce n a p l).1 := by
  unfold State.raiseOnce
  simp only []
  have h0 : (s.setFld (pendFld n) 1).Plumbed ((s.setFld (pendFld n) 1).noteRaise n) := State.plumbed_evt _ _
  refine h0.trans ?_
  generalize (s.setFld (pendFld n) 1).noteRaise n = u
  have h1 : u.Plumbed (if u.flagB n F.EVT_ROUTE_REC_EN then u.evtRecord n a else (u, false)).1 := by
    split
    · exact u.plumbed_evtRecord n a
    · exact State.Plumbed.refl u
  refine h1.trans ?_
  generalize (if u.flagB n F.EVT_ROUTE_REC_EN then u.evtRecord n a else (u, false)).1 = v
  have h2 : v.Plumbed (if (v.flagB n F.EVT_ROUTE_HOST_EN && !s.flag (pendFld n)) = true then v.signalVec (v.fldB n F.EVT_ROUTE_VEC) else v) := by
    split
    · exact v.plumbed_signalVec (by simpa using v.fldB_le n F.EVT_ROUTE_VEC)
    · exact State.Plumbed.refl v
  refine h2.trans ?_
  generalize (if (v.flagB n F.EVT_ROUTE_HOST_EN && !s.flag (pendFld n)) = true then v.signalVec (v.fldB n F.EVT_ROUTE_VEC) else v) = w
  cases l
  · exact State.Plumbed.refl w
  · exact w.plumbed_logEvent _ _ _ _

theorem State.reported_setPend (s : State) {n : Nat} (hn : n < 256) : s.Reported (s.setFld (pendFld n) 1) :=
  ⟨fun _ _ ha' _ hf => s.regB_setRegB_other _ (pendFld_addr hn).1 ha' (fun h' => by
    rw [h'.2, (pendFld_addr hn).2.1] at hf; cases hf), fun _ _ => rfl, fun p _ _ => Part.same_setFldB p s 0 _ _⟩

theorem State.reported_raiseOnce (s : State) {n : Nat} (a : Nat) (p : List Byte) (l : Bool) (hn : n < 256) :
    s.Reported (s.raiseOnce n a p l).1 :=
  (s.reported_setPend hn).trans (s.plumbed_raiseOnce n a p l).reported

/-- A raised event touches the reports alone (R340, R341, R434). -/
theorem State.raiseWith_frame (s : State) {n : Nat} (a : Nat) (p : List Byte) (l : Bool) (hn : n < 256) :
    s.Reported (s.raiseWith n a p l) := by
  have h := s.reported_raiseOnce a p l hn
  unfold State.raiseWith
  split <;> rename_i u heq <;> rw [heq] at h
  · exact h
  · have again := (h.trans ((State.plumbed_evt _ { u.evt with lastLost := some u.mono }).reported)).trans
      (State.reported_raiseOnce _ 0 [] false (by decide : Ev.EVT_RECORD_LOST < 256))
    simp only []
    split <;> (try split) <;> first | exact again | exact h

/-- A raised event touches the reports alone. -/
theorem State.raise_frame (s : State) {n : Nat} (a : Nat) (hn : n < 256) : s.Reported (s.raise n a) :=
  s.raiseWith_frame a [] _ hn

end Sys2Proof.Machine
end

