-- ==== Sys2Proof/Laws/Parts.lean ====
section
/-!
SUPPORT. What the update of one block's part leaves: its own part is the function's value, the shared parts are as they were.
-/

namespace Sys2Proof.Machine

/-! ## `setAut` -/

@[simp] theorem State.setAut_aut (s : State) (f : AutSt → AutSt) : (s.setAut f).aut = f s.aut := rfl
@[simp] theorem State.setAut_mono (s : State) (f : AutSt → AutSt) : (s.setAut f).mono = s.mono := rfl
@[simp] theorem State.setAut_tai (s : State) (f : AutSt → AutSt) : (s.setAut f).tai = s.tai := rfl
@[simp] theorem State.setAut_regs (s : State) (f : AutSt → AutSt) : (s.setAut f).regs = s.regs := rfl
@[simp] theorem State.setAut_bar2 (s : State) (f : AutSt → AutSt) : (s.setAut f).bar2 = s.bar2 := rfl
@[simp] theorem State.setAut_evt (s : State) (f : AutSt → AutSt) : (s.setAut f).evt = s.evt := rfl
@[simp] theorem State.setAut_log (s : State) (f : AutSt → AutSt) : (s.setAut f).log = s.log := rfl
@[simp] theorem State.setAut_rings (s : State) (f : AutSt → AutSt) : (s.setAut f).rings = s.rings := rfl
@[simp] theorem State.setAut_nand (s : State) (f : AutSt → AutSt) : (s.setAut f).nand = s.nand := rfl
@[simp] theorem State.setAut_cls (s : State) (f : AutSt → AutSt) : (s.setAut f).cls = s.cls := rfl
@[simp] theorem State.setAut_air (s : State) (f : AutSt → AutSt) : (s.setAut f).air = s.air := rfl
@[simp] theorem State.setAut_out (s : State) (f : AutSt → AutSt) : (s.setAut f).out = s.out := rfl
@[simp] theorem State.setAut_freeCtr (s : State) (f : AutSt → AutSt) : (s.setAut f).freeCtr = s.freeCtr := rfl
@[simp] theorem State.setAut_pending (s : State) (f : AutSt → AutSt) : (s.setAut f).pending = s.pending := rfl

/-! ## `setAhn` -/

@[simp] theorem State.setAhn_ahn (s : State) (f : AhnSt → AhnSt) : (s.setAhn f).ahn = f s.ahn := rfl
@[simp] theorem State.setAhn_mono (s : State) (f : AhnSt → AhnSt) : (s.setAhn f).mono = s.mono := rfl
@[simp] theorem State.setAhn_tai (s : State) (f : AhnSt → AhnSt) : (s.setAhn f).tai = s.tai := rfl
@[simp] theorem State.setAhn_regs (s : State) (f : AhnSt → AhnSt) : (s.setAhn f).regs = s.regs := rfl
@[simp] theorem State.setAhn_bar2 (s : State) (f : AhnSt → AhnSt) : (s.setAhn f).bar2 = s.bar2 := rfl
@[simp] theorem State.setAhn_evt (s : State) (f : AhnSt → AhnSt) : (s.setAhn f).evt = s.evt := rfl
@[simp] theorem State.setAhn_log (s : State) (f : AhnSt → AhnSt) : (s.setAhn f).log = s.log := rfl
@[simp] theorem State.setAhn_rings (s : State) (f : AhnSt → AhnSt) : (s.setAhn f).rings = s.rings := rfl
@[simp] theorem State.setAhn_nand (s : State) (f : AhnSt → AhnSt) : (s.setAhn f).nand = s.nand := rfl
@[simp] theorem State.setAhn_cls (s : State) (f : AhnSt → AhnSt) : (s.setAhn f).cls = s.cls := rfl
@[simp] theorem State.setAhn_air (s : State) (f : AhnSt → AhnSt) : (s.setAhn f).air = s.air := rfl
@[simp] theorem State.setAhn_out (s : State) (f : AhnSt → AhnSt) : (s.setAhn f).out = s.out := rfl
@[simp] theorem State.setAhn_freeCtr (s : State) (f : AhnSt → AhnSt) : (s.setAhn f).freeCtr = s.freeCtr := rfl
@[simp] theorem State.setAhn_pending (s : State) (f : AhnSt → AhnSt) : (s.setAhn f).pending = s.pending := rfl

/-! ## `setSlv` -/

@[simp] theorem State.setSlv_slv (s : State) (f : SlvSt → SlvSt) : (s.setSlv f).slv = f s.slv := rfl
@[simp] theorem State.setSlv_mono (s : State) (f : SlvSt → SlvSt) : (s.setSlv f).mono = s.mono := rfl
@[simp] theorem State.setSlv_tai (s : State) (f : SlvSt → SlvSt) : (s.setSlv f).tai = s.tai := rfl
@[simp] theorem State.setSlv_regs (s : State) (f : SlvSt → SlvSt) : (s.setSlv f).regs = s.regs := rfl
@[simp] theorem State.setSlv_bar2 (s : State) (f : SlvSt → SlvSt) : (s.setSlv f).bar2 = s.bar2 := rfl
@[simp] theorem State.setSlv_evt (s : State) (f : SlvSt → SlvSt) : (s.setSlv f).evt = s.evt := rfl
@[simp] theorem State.setSlv_log (s : State) (f : SlvSt → SlvSt) : (s.setSlv f).log = s.log := rfl
@[simp] theorem State.setSlv_rings (s : State) (f : SlvSt → SlvSt) : (s.setSlv f).rings = s.rings := rfl
@[simp] theorem State.setSlv_nand (s : State) (f : SlvSt → SlvSt) : (s.setSlv f).nand = s.nand := rfl
@[simp] theorem State.setSlv_cls (s : State) (f : SlvSt → SlvSt) : (s.setSlv f).cls = s.cls := rfl
@[simp] theorem State.setSlv_air (s : State) (f : SlvSt → SlvSt) : (s.setSlv f).air = s.air := rfl
@[simp] theorem State.setSlv_out (s : State) (f : SlvSt → SlvSt) : (s.setSlv f).out = s.out := rfl
@[simp] theorem State.setSlv_freeCtr (s : State) (f : SlvSt → SlvSt) : (s.setSlv f).freeCtr = s.freeCtr := rfl
@[simp] theorem State.setSlv_pending (s : State) (f : SlvSt → SlvSt) : (s.setSlv f).pending = s.pending := rfl

/-! ## `setTim` -/

@[simp] theorem State.setTim_tim (s : State) (f : TimSt → TimSt) : (s.setTim f).tim = f s.tim := rfl
@[simp] theorem State.setTim_mono (s : State) (f : TimSt → TimSt) : (s.setTim f).mono = s.mono := rfl
@[simp] theorem State.setTim_tai (s : State) (f : TimSt → TimSt) : (s.setTim f).tai = s.tai := rfl
@[simp] theorem State.setTim_regs (s : State) (f : TimSt → TimSt) : (s.setTim f).regs = s.regs := rfl
@[simp] theorem State.setTim_bar2 (s : State) (f : TimSt → TimSt) : (s.setTim f).bar2 = s.bar2 := rfl
@[simp] theorem State.setTim_evt (s : State) (f : TimSt → TimSt) : (s.setTim f).evt = s.evt := rfl
@[simp] theorem State.setTim_log (s : State) (f : TimSt → TimSt) : (s.setTim f).log = s.log := rfl
@[simp] theorem State.setTim_rings (s : State) (f : TimSt → TimSt) : (s.setTim f).rings = s.rings := rfl
@[simp] theorem State.setTim_nand (s : State) (f : TimSt → TimSt) : (s.setTim f).nand = s.nand := rfl
@[simp] theorem State.setTim_cls (s : State) (f : TimSt → TimSt) : (s.setTim f).cls = s.cls := rfl
@[simp] theorem State.setTim_air (s : State) (f : TimSt → TimSt) : (s.setTim f).air = s.air := rfl
@[simp] theorem State.setTim_out (s : State) (f : TimSt → TimSt) : (s.setTim f).out = s.out := rfl
@[simp] theorem State.setTim_freeCtr (s : State) (f : TimSt → TimSt) : (s.setTim f).freeCtr = s.freeCtr := rfl
@[simp] theorem State.setTim_pending (s : State) (f : TimSt → TimSt) : (s.setTim f).pending = s.pending := rfl

/-! ## `setGrx` -/

@[simp] theorem State.setGrx_grx (s : State) (f : GrxSt → GrxSt) : (s.setGrx f).grx = f s.grx := rfl
@[simp] theorem State.setGrx_mono (s : State) (f : GrxSt → GrxSt) : (s.setGrx f).mono = s.mono := rfl
@[simp] theorem State.setGrx_tai (s : State) (f : GrxSt → GrxSt) : (s.setGrx f).tai = s.tai := rfl
@[simp] theorem State.setGrx_regs (s : State) (f : GrxSt → GrxSt) : (s.setGrx f).regs = s.regs := rfl
@[simp] theorem State.setGrx_bar2 (s : State) (f : GrxSt → GrxSt) : (s.setGrx f).bar2 = s.bar2 := rfl
@[simp] theorem State.setGrx_evt (s : State) (f : GrxSt → GrxSt) : (s.setGrx f).evt = s.evt := rfl
@[simp] theorem State.setGrx_log (s : State) (f : GrxSt → GrxSt) : (s.setGrx f).log = s.log := rfl
@[simp] theorem State.setGrx_rings (s : State) (f : GrxSt → GrxSt) : (s.setGrx f).rings = s.rings := rfl
@[simp] theorem State.setGrx_nand (s : State) (f : GrxSt → GrxSt) : (s.setGrx f).nand = s.nand := rfl
@[simp] theorem State.setGrx_cls (s : State) (f : GrxSt → GrxSt) : (s.setGrx f).cls = s.cls := rfl
@[simp] theorem State.setGrx_air (s : State) (f : GrxSt → GrxSt) : (s.setGrx f).air = s.air := rfl
@[simp] theorem State.setGrx_out (s : State) (f : GrxSt → GrxSt) : (s.setGrx f).out = s.out := rfl
@[simp] theorem State.setGrx_freeCtr (s : State) (f : GrxSt → GrxSt) : (s.setGrx f).freeCtr = s.freeCtr := rfl
@[simp] theorem State.setGrx_pending (s : State) (f : GrxSt → GrxSt) : (s.setGrx f).pending = s.pending := rfl

/-! ## `setDmu` -/

@[simp] theorem State.setDmu_dmu (s : State) (f : DmuSt → DmuSt) : (s.setDmu f).dmu = f s.dmu := rfl
@[simp] theorem State.setDmu_mono (s : State) (f : DmuSt → DmuSt) : (s.setDmu f).mono = s.mono := rfl
@[simp] theorem State.setDmu_tai (s : State) (f : DmuSt → DmuSt) : (s.setDmu f).tai = s.tai := rfl
@[simp] theorem State.setDmu_regs (s : State) (f : DmuSt → DmuSt) : (s.setDmu f).regs = s.regs := rfl
@[simp] theorem State.setDmu_bar2 (s : State) (f : DmuSt → DmuSt) : (s.setDmu f).bar2 = s.bar2 := rfl
@[simp] theorem State.setDmu_evt (s : State) (f : DmuSt → DmuSt) : (s.setDmu f).evt = s.evt := rfl
@[simp] theorem State.setDmu_log (s : State) (f : DmuSt → DmuSt) : (s.setDmu f).log = s.log := rfl
@[simp] theorem State.setDmu_rings (s : State) (f : DmuSt → DmuSt) : (s.setDmu f).rings = s.rings := rfl
@[simp] theorem State.setDmu_nand (s : State) (f : DmuSt → DmuSt) : (s.setDmu f).nand = s.nand := rfl
@[simp] theorem State.setDmu_cls (s : State) (f : DmuSt → DmuSt) : (s.setDmu f).cls = s.cls := rfl
@[simp] theorem State.setDmu_air (s : State) (f : DmuSt → DmuSt) : (s.setDmu f).air = s.air := rfl
@[simp] theorem State.setDmu_out (s : State) (f : DmuSt → DmuSt) : (s.setDmu f).out = s.out := rfl
@[simp] theorem State.setDmu_freeCtr (s : State) (f : DmuSt → DmuSt) : (s.setDmu f).freeCtr = s.freeCtr := rfl
@[simp] theorem State.setDmu_pending (s : State) (f : DmuSt → DmuSt) : (s.setDmu f).pending = s.pending := rfl

/-! ## `setDsp` -/

@[simp] theorem State.setDsp_dsp (s : State) (f : DspSt → DspSt) : (s.setDsp f).dsp = f s.dsp := rfl
@[simp] theorem State.setDsp_mono (s : State) (f : DspSt → DspSt) : (s.setDsp f).mono = s.mono := rfl
@[simp] theorem State.setDsp_tai (s : State) (f : DspSt → DspSt) : (s.setDsp f).tai = s.tai := rfl
@[simp] theorem State.setDsp_regs (s : State) (f : DspSt → DspSt) : (s.setDsp f).regs = s.regs := rfl
@[simp] theorem State.setDsp_bar2 (s : State) (f : DspSt → DspSt) : (s.setDsp f).bar2 = s.bar2 := rfl
@[simp] theorem State.setDsp_evt (s : State) (f : DspSt → DspSt) : (s.setDsp f).evt = s.evt := rfl
@[simp] theorem State.setDsp_log (s : State) (f : DspSt → DspSt) : (s.setDsp f).log = s.log := rfl
@[simp] theorem State.setDsp_rings (s : State) (f : DspSt → DspSt) : (s.setDsp f).rings = s.rings := rfl
@[simp] theorem State.setDsp_nand (s : State) (f : DspSt → DspSt) : (s.setDsp f).nand = s.nand := rfl
@[simp] theorem State.setDsp_cls (s : State) (f : DspSt → DspSt) : (s.setDsp f).cls = s.cls := rfl
@[simp] theorem State.setDsp_air (s : State) (f : DspSt → DspSt) : (s.setDsp f).air = s.air := rfl
@[simp] theorem State.setDsp_out (s : State) (f : DspSt → DspSt) : (s.setDsp f).out = s.out := rfl
@[simp] theorem State.setDsp_freeCtr (s : State) (f : DspSt → DspSt) : (s.setDsp f).freeCtr = s.freeCtr := rfl
@[simp] theorem State.setDsp_pending (s : State) (f : DspSt → DspSt) : (s.setDsp f).pending = s.pending := rfl

/-! ## `setKeys` -/

@[simp] theorem State.setKeys_keys (s : State) (f : KeyStore → KeyStore) : (s.setKeys f).keys = f s.keys := rfl
@[simp] theorem State.setKeys_mono (s : State) (f : KeyStore → KeyStore) : (s.setKeys f).mono = s.mono := rfl
@[simp] theorem State.setKeys_tai (s : State) (f : KeyStore → KeyStore) : (s.setKeys f).tai = s.tai := rfl
@[simp] theorem State.setKeys_regs (s : State) (f : KeyStore → KeyStore) : (s.setKeys f).regs = s.regs := rfl
@[simp] theorem State.setKeys_bar2 (s : State) (f : KeyStore → KeyStore) : (s.setKeys f).bar2 = s.bar2 := rfl
@[simp] theorem State.setKeys_evt (s : State) (f : KeyStore → KeyStore) : (s.setKeys f).evt = s.evt := rfl
@[simp] theorem State.setKeys_log (s : State) (f : KeyStore → KeyStore) : (s.setKeys f).log = s.log := rfl
@[simp] theorem State.setKeys_rings (s : State) (f : KeyStore → KeyStore) : (s.setKeys f).rings = s.rings := rfl
@[simp] theorem State.setKeys_nand (s : State) (f : KeyStore → KeyStore) : (s.setKeys f).nand = s.nand := rfl
@[simp] theorem State.setKeys_cls (s : State) (f : KeyStore → KeyStore) : (s.setKeys f).cls = s.cls := rfl
@[simp] theorem State.setKeys_air (s : State) (f : KeyStore → KeyStore) : (s.setKeys f).air = s.air := rfl
@[simp] theorem State.setKeys_out (s : State) (f : KeyStore → KeyStore) : (s.setKeys f).out = s.out := rfl
@[simp] theorem State.setKeys_freeCtr (s : State) (f : KeyStore → KeyStore) : (s.setKeys f).freeCtr = s.freeCtr := rfl
@[simp] theorem State.setKeys_pending (s : State) (f : KeyStore → KeyStore) : (s.setKeys f).pending = s.pending := rfl

/-! ## `setFw` -/

@[simp] theorem State.setFw_fw (s : State) (f : FwStore → FwStore) : (s.setFw f).fw = f s.fw := rfl
@[simp] theorem State.setFw_mono (s : State) (f : FwStore → FwStore) : (s.setFw f).mono = s.mono := rfl
@[simp] theorem State.setFw_tai (s : State) (f : FwStore → FwStore) : (s.setFw f).tai = s.tai := rfl
@[simp] theorem State.setFw_regs (s : State) (f : FwStore → FwStore) : (s.setFw f).regs = s.regs := rfl
@[simp] theorem State.setFw_bar2 (s : State) (f : FwStore → FwStore) : (s.setFw f).bar2 = s.bar2 := rfl
@[simp] theorem State.setFw_evt (s : State) (f : FwStore → FwStore) : (s.setFw f).evt = s.evt := rfl
@[simp] theorem State.setFw_log (s : State) (f : FwStore → FwStore) : (s.setFw f).log = s.log := rfl
@[simp] theorem State.setFw_rings (s : State) (f : FwStore → FwStore) : (s.setFw f).rings = s.rings := rfl
@[simp] theorem State.setFw_nand (s : State) (f : FwStore → FwStore) : (s.setFw f).nand = s.nand := rfl
@[simp] theorem State.setFw_cls (s : State) (f : FwStore → FwStore) : (s.setFw f).cls = s.cls := rfl
@[simp] theorem State.setFw_air (s : State) (f : FwStore → FwStore) : (s.setFw f).air = s.air := rfl
@[simp] theorem State.setFw_out (s : State) (f : FwStore → FwStore) : (s.setFw f).out = s.out := rfl
@[simp] theorem State.setFw_freeCtr (s : State) (f : FwStore → FwStore) : (s.setFw f).freeCtr = s.freeCtr := rfl
@[simp] theorem State.setFw_pending (s : State) (f : FwStore → FwStore) : (s.setFw f).pending = s.pending := rfl

end Sys2Proof.Machine
end

