-- ==== Sys2Proof/Laws/Reports.lean ====
section
/-!
SUPPORT. What an event, a mirror message and the outer form of a command do, said once: what they leave, and what they set.
-/

namespace Sys2Proof.Machine

/-! ## Pending bits -/

theorem State.Plumbed.pend {s t : State} (h : s.Plumbed t) {n : Nat} (hn : n < 256) :
    t.flag (pendFld n) = s.flag (pendFld n) := by
  simp only [State.flag, State.fld, State.fldB, h.1 0 _ (pendFld_addr hn).1 (pendFld_addr hn).2.2]

/-- Setting one pending bit sets it and leaves those that are set. -/
theorem State.pend_setPend (s : State) {n m : Nat} (hn : n < 256) (hm : m < 256) :
    (s.setFld (pendFld n) 1).flag (pendFld m) = (decide (m = n) || s.flag (pendFld m)) := by
  by_cases h : m = n
  · subst h
    have := s.fldB_setFldB_same 0 (pendFld m) 1 (pendFld_addr hm).1 (by simp [pendFld]) (by simp [pendFld]; omega)
    simp only [State.flag, State.fld, State.setFld, this]
    simp [pendFld]
  · simp only [h, decide_false, Bool.false_or, State.flag, State.fld, State.setFld]
    by_cases ha : (pendFld m).addr = (pendFld n).addr
    · rw [s.fldB_setFldB_apart 1 (pendFld_addr hn).1 ha (by simp [pendFld]) (by simp [pendFld]; omega) (by simp [pendFld] at *; omega) (by simp [pendFld])]
    · rw [s.fldB_setFldB_addr 1 (pendFld_addr hn).1 (pendFld_addr hm).1 (by simp [ha])]

theorem State.pend_raiseOnce (s : State) {n m : Nat} (a : Nat) (p : List Byte) (l : Bool) (hn : n < 256) (hm : m < 256) :
    (s.raiseOnce n a p l).1.flag (pendFld m) = (decide (m = n) || s.flag (pendFld m)) :=
  ((s.plumbed_raiseOnce n a p l).pend hm).trans (s.pend_setPend hn hm)

/-- An event once pending stays so while others are raised (R340). -/
theorem State.pend_raiseWith_of (s : State) {n m : Nat} (a : Nat) (p : List Byte) (l : Bool) (hn : n < 256) (hm : m < 256)
    (h : m = n ∨ s.flag (pendFld m) = true) : (s.raiseWith n a p l).flag (pendFld m) = true := by
  have h1 : (s.raiseOnce n a p l).1.flag (pendFld m) = true := by
    rw [s.pend_raiseOnce a p l hn hm]; rcases h with h | h <;> simp [h]
  unfold State.raiseWith
  split <;> rename_i u heq <;> rw [heq] at h1
  · exact h1
  · have again : (({ u with evt := { u.evt with lastLost := some u.mono } }).raiseOnce Ev.EVT_RECORD_LOST 0 [] false).1.flag (pendFld m)
        = true := by
      rw [State.pend_raiseOnce _ 0 [] false (by decide) hm]
      have : ({ u with evt := { u.evt with lastLost := some u.mono } } : State).flag (pendFld m) = u.flag (pendFld m) := rfl
      rw [this, h1]; simp
    simp only []
    split <;> (try split) <;> first | exact again | exact h1

/-- Raising an event sets its pending bit (R340). -/
theorem State.raise_pend (s : State) {n : Nat} (a : Nat) (hn : n < 256) : (s.raise n a).flag (pendFld n) = true :=
  s.pend_raiseWith_of a [] _ hn hn (Or.inl rfl)

/-- Raising an event leaves the pending bits that are set. -/
theorem State.raise_pend_keeps (s : State) {n m : Nat} (a : Nat) (hn : n < 256) (hm : m < 256)
    (h : s.flag (pendFld m) = true) : (s.raise n a).flag (pendFld m) = true :=
  s.pend_raiseWith_of a [] _ hn hm (Or.inr h)

/-! ## What a raised event leaves -/

theorem State.raiseWith_regB (s : State) {n : Nat} (x : Nat) (p : List Byte) (l : Bool) (hn : n < 256) (b : Nat) {a : Nat}
    (ha : a < 0x4000000) (hr : reportReg a = false) : (s.raiseWith n x p l).regB b a = s.regB b a :=
  (s.raiseWith_frame x p l hn).1 b a ha (by simp) hr

theorem State.raise_regB (s : State) {n : Nat} (x : Nat) (hn : n < 256) (b : Nat) {a : Nat} (ha : a < 0x4000000)
    (hr : reportReg a = false) : (s.raise n x).regB b a = s.regB b a := s.raiseWith_regB x [] _ hn b ha hr

theorem State.raise_fldB (s : State) {n : Nat} (x : Nat) (hn : n < 256) (b : Nat) {f : Fld} (ha : f.addr < 0x4000000)
    (hr : reportReg f.addr = false) : (s.raise n x).fldB b f = s.fldB b f := by
  simp only [State.fldB, s.raise_regB x hn b ha hr]

theorem State.raise_bar2 (s : State) {n : Nat} (x : Nat) (hn : n < 256) {a : Nat} (h : s.inReportRing a = false) :
    (s.raise n x).bar2At a = s.bar2At a := (s.raise_frame x hn).2.1 a h

@[simp] theorem State.raise_mono (s : State) {n : Nat} (x : Nat) (hn : n < 256) : (s.raise n x).mono = s.mono :=
  (s.raise_frame x hn).2.2 .mono (by decide) (by decide)
@[simp] theorem State.raiseWith_mono (s : State) {n : Nat} (x : Nat) (p : List Byte) (l : Bool) (hn : n < 256) :
    (s.raiseWith n x p l).mono = s.mono := (s.raiseWith_frame x p l hn).2.2 .mono (by decide) (by decide)
@[simp] theorem State.raise_tai (s : State) {n : Nat} (x : Nat) (hn : n < 256) : (s.raise n x).tai = s.tai :=
  (s.raise_frame x hn).2.2 .tai (by decide) (by decide)
@[simp] theorem State.raiseWith_tai (s : State) {n : Nat} (x : Nat) (p : List Byte) (l : Bool) (hn : n < 256) :
    (s.raiseWith n x p l).tai = s.tai := (s.raiseWith_frame x p l hn).2.2 .tai (by decide) (by decide)
@[simp] theorem State.raise_xq (s : State) {n : Nat} (x : Nat) (hn : n < 256) : (s.raise n x).xq = s.xq :=
  (s.raise_frame x hn).2.2 .xq (by decide) (by decide)
@[simp] theorem State.raiseWith_xq (s : State) {n : Nat} (x : Nat) (p : List Byte) (l : Bool) (hn : n < 256) :
    (s.raiseWith n x p l).xq = s.xq := (s.raiseWith_frame x p l hn).2.2 .xq (by decide) (by decide)
@[simp] theorem State.raise_pwr (s : State) {n : Nat} (x : Nat) (hn : n < 256) : (s.raise n x).pwr = s.pwr :=
  (s.raise_frame x hn).2.2 .pwr (by decide) (by decide)
@[simp] theorem State.raiseWith_pwr (s : State) {n : Nat} (x : Nat) (p : List Byte) (l : Bool) (hn : n < 256) :
    (s.raiseWith n x p l).pwr = s.pwr := (s.raiseWith_frame x p l hn).2.2 .pwr (by decide) (by decide)
@[simp] theorem State.raise_rst (s : State) {n : Nat} (x : Nat) (hn : n < 256) : (s.raise n x).rst = s.rst :=
  (s.raise_frame x hn).2.2 .rst (by decide) (by decide)
@[simp] theorem State.raiseWith_rst (s : State) {n : Nat} (x : Nat) (p : List Byte) (l : Bool) (hn : n < 256) :
    (s.raiseWith n x p l).rst = s.rst := (s.raiseWith_frame x p l hn).2.2 .rst (by decide) (by decide)
@[simp] theorem State.raise_hpg (s : State) {n : Nat} (x : Nat) (hn : n < 256) : (s.raise n x).hpg = s.hpg :=
  (s.raise_frame x hn).2.2 .hpg (by decide) (by decide)
@[simp] theorem State.raiseWith_hpg (s : State) {n : Nat} (x : Nat) (p : List Byte) (l : Bool) (hn : n < 256) :
    (s.raiseWith n x p l).hpg = s.hpg := (s.raiseWith_frame x p l hn).2.2 .hpg (by decide) (by decide)
@[simp] theorem State.raise_bkp (s : State) {n : Nat} (x : Nat) (hn : n < 256) : (s.raise n x).bkp = s.bkp :=
  (s.raise_frame x hn).2.2 .bkp (by decide) (by decide)
@[simp] theorem State.raiseWith_bkp (s : State) {n : Nat} (x : Nat) (p : List Byte) (l : Bool) (hn : n < 256) :
    (s.raiseWith n x p l).bkp = s.bkp := (s.raiseWith_frame x p l hn).2.2 .bkp (by decide) (by decide)
@[simp] theorem State.raise_optA (s : State) {n : Nat} (x : Nat) (hn : n < 256) : (s.raise n x).optA = s.optA :=
  (s.raise_frame x hn).2.2 .optA (by decide) (by decide)
@[simp] theorem State.raiseWith_optA (s : State) {n : Nat} (x : Nat) (p : List Byte) (l : Bool) (hn : n < 256) :
    (s.raiseWith n x p l).optA = s.optA := (s.raiseWith_frame x p l hn).2.2 .optA (by decide) (by decide)
@[simp] theorem State.raise_optB (s : State) {n : Nat} (x : Nat) (hn : n < 256) : (s.raise n x).optB = s.optB :=
  (s.raise_frame x hn).2.2 .optB (by decide) (by decide)
@[simp] theorem State.raiseWith_optB (s : State) {n : Nat} (x : Nat) (p : List Byte) (l : Bool) (hn : n < 256) :
    (s.raiseWith n x p l).optB = s.optB := (s.raiseWith_frame x p l hn).2.2 .optB (by decide) (by decide)
@[simp] theorem State.raise_pins (s : State) {n : Nat} (x : Nat) (hn : n < 256) : (s.raise n x).pins = s.pins :=
  (s.raise_frame x hn).2.2 .pins (by decide) (by decide)
@[simp] theorem State.raiseWith_pins (s : State) {n : Nat} (x : Nat) (p : List Byte) (l : Bool) (hn : n < 256) :
    (s.raiseWith n x p l).pins = s.pins := (s.raiseWith_frame x p l hn).2.2 .pins (by decide) (by decide)
@[simp] theorem State.raise_sim (s : State) {n : Nat} (x : Nat) (hn : n < 256) : (s.raise n x).sim = s.sim :=
  (s.raise_frame x hn).2.2 .sim (by decide) (by decide)
@[simp] theorem State.raiseWith_sim (s : State) {n : Nat} (x : Nat) (p : List Byte) (l : Bool) (hn : n < 256) :
    (s.raiseWith n x p l).sim = s.sim := (s.raiseWith_frame x p l hn).2.2 .sim (by decide) (by decide)
@[simp] theorem State.raise_nand (s : State) {n : Nat} (x : Nat) (hn : n < 256) : (s.raise n x).nand = s.nand :=
  (s.raise_frame x hn).2.2 .nand (by decide) (by decide)
@[simp] theorem State.raiseWith_nand (s : State) {n : Nat} (x : Nat) (p : List Byte) (l : Bool) (hn : n < 256) :
    (s.raiseWith n x p l).nand = s.nand := (s.raiseWith_frame x p l hn).2.2 .nand (by decide) (by decide)
@[simp] theorem State.raise_cls (s : State) {n : Nat} (x : Nat) (hn : n < 256) : (s.raise n x).cls = s.cls :=
  (s.raise_frame x hn).2.2 .cls (by decide) (by decide)
@[simp] theorem State.raiseWith_cls (s : State) {n : Nat} (x : Nat) (p : List Byte) (l : Bool) (hn : n < 256) :
    (s.raiseWith n x p l).cls = s.cls := (s.raiseWith_frame x p l hn).2.2 .cls (by decide) (by decide)
@[simp] theorem State.raise_aut (s : State) {n : Nat} (x : Nat) (hn : n < 256) : (s.raise n x).aut = s.aut :=
  (s.raise_frame x hn).2.2 .aut (by decide) (by decide)
@[simp] theorem State.raiseWith_aut (s : State) {n : Nat} (x : Nat) (p : List Byte) (l : Bool) (hn : n < 256) :
    (s.raiseWith n x p l).aut = s.aut := (s.raiseWith_frame x p l hn).2.2 .aut (by decide) (by decide)
@[simp] theorem State.raise_warden (s : State) {n : Nat} (x : Nat) (hn : n < 256) : (s.raise n x).warden = s.warden :=
  (s.raise_frame x hn).2.2 .warden (by decide) (by decide)
@[simp] theorem State.raiseWith_warden (s : State) {n : Nat} (x : Nat) (p : List Byte) (l : Bool) (hn : n < 256) :
    (s.raiseWith n x p l).warden = s.warden := (s.raiseWith_frame x p l hn).2.2 .warden (by decide) (by decide)
@[simp] theorem State.raise_keys (s : State) {n : Nat} (x : Nat) (hn : n < 256) : (s.raise n x).keys = s.keys :=
  (s.raise_frame x hn).2.2 .keys (by decide) (by decide)
@[simp] theorem State.raiseWith_keys (s : State) {n : Nat} (x : Nat) (p : List Byte) (l : Bool) (hn : n < 256) :
    (s.raiseWith n x p l).keys = s.keys := (s.raiseWith_frame x p l hn).2.2 .keys (by decide) (by decide)
@[simp] theorem State.raise_key (s : State) {n : Nat} (x : Nat) (hn : n < 256) : (s.raise n x).key = s.key :=
  (s.raise_frame x hn).2.2 .key (by decide) (by decide)
@[simp] theorem State.raiseWith_key (s : State) {n : Nat} (x : Nat) (p : List Byte) (l : Bool) (hn : n < 256) :
    (s.raiseWith n x p l).key = s.key := (s.raiseWith_frame x p l hn).2.2 .key (by decide) (by decide)
@[simp] theorem State.raise_fw (s : State) {n : Nat} (x : Nat) (hn : n < 256) : (s.raise n x).fw = s.fw :=
  (s.raise_frame x hn).2.2 .fw (by decide) (by decide)
@[simp] theorem State.raiseWith_fw (s : State) {n : Nat} (x : Nat) (p : List Byte) (l : Bool) (hn : n < 256) :
    (s.raiseWith n x p l).fw = s.fw := (s.raiseWith_frame x p l hn).2.2 .fw (by decide) (by decide)
@[simp] theorem State.raise_upd (s : State) {n : Nat} (x : Nat) (hn : n < 256) : (s.raise n x).upd = s.upd :=
  (s.raise_frame x hn).2.2 .upd (by decide) (by decide)
@[simp] theorem State.raiseWith_upd (s : State) {n : Nat} (x : Nat) (p : List Byte) (l : Bool) (hn : n < 256) :
    (s.raiseWith n x p l).upd = s.upd := (s.raiseWith_frame x p l hn).2.2 .upd (by decide) (by decide)
@[simp] theorem State.raise_ahn (s : State) {n : Nat} (x : Nat) (hn : n < 256) : (s.raise n x).ahn = s.ahn :=
  (s.raise_frame x hn).2.2 .ahn (by decide) (by decide)
@[simp] theorem State.raiseWith_ahn (s : State) {n : Nat} (x : Nat) (p : List Byte) (l : Bool) (hn : n < 256) :
    (s.raiseWith n x p l).ahn = s.ahn := (s.raiseWith_frame x p l hn).2.2 .ahn (by decide) (by decide)
@[simp] theorem State.raise_rhl (s : State) {n : Nat} (x : Nat) (hn : n < 256) : (s.raise n x).rhl = s.rhl :=
  (s.raise_frame x hn).2.2 .rhl (by decide) (by decide)
@[simp] theorem State.raiseWith_rhl (s : State) {n : Nat} (x : Nat) (p : List Byte) (l : Bool) (hn : n < 256) :
    (s.raiseWith n x p l).rhl = s.rhl := (s.raiseWith_frame x p l hn).2.2 .rhl (by decide) (by decide)
@[simp] theorem State.raise_air (s : State) {n : Nat} (x : Nat) (hn : n < 256) : (s.raise n x).air = s.air :=
  (s.raise_frame x hn).2.2 .air (by decide) (by decide)
@[simp] theorem State.raiseWith_air (s : State) {n : Nat} (x : Nat) (p : List Byte) (l : Bool) (hn : n < 256) :
    (s.raiseWith n x p l).air = s.air := (s.raiseWith_frame x p l hn).2.2 .air (by decide) (by decide)
@[simp] theorem State.raise_eth (s : State) {n : Nat} (x : Nat) (hn : n < 256) : (s.raise n x).eth = s.eth :=
  (s.raise_frame x hn).2.2 .eth (by decide) (by decide)
@[simp] theorem State.raiseWith_eth (s : State) {n : Nat} (x : Nat) (p : List Byte) (l : Bool) (hn : n < 256) :
    (s.raiseWith n x p l).eth = s.eth := (s.raiseWith_frame x p l hn).2.2 .eth (by decide) (by decide)
@[simp] theorem State.raise_lpe (s : State) {n : Nat} (x : Nat) (hn : n < 256) : (s.raise n x).lpe = s.lpe :=
  (s.raise_frame x hn).2.2 .lpe (by decide) (by decide)
@[simp] theorem State.raiseWith_lpe (s : State) {n : Nat} (x : Nat) (p : List Byte) (l : Bool) (hn : n < 256) :
    (s.raiseWith n x p l).lpe = s.lpe := (s.raiseWith_frame x p l hn).2.2 .lpe (by decide) (by decide)
@[simp] theorem State.raise_slv (s : State) {n : Nat} (x : Nat) (hn : n < 256) : (s.raise n x).slv = s.slv :=
  (s.raise_frame x hn).2.2 .slv (by decide) (by decide)
@[simp] theorem State.raiseWith_slv (s : State) {n : Nat} (x : Nat) (p : List Byte) (l : Bool) (hn : n < 256) :
    (s.raiseWith n x p l).slv = s.slv := (s.raiseWith_frame x p l hn).2.2 .slv (by decide) (by decide)
@[simp] theorem State.raise_tim (s : State) {n : Nat} (x : Nat) (hn : n < 256) : (s.raise n x).tim = s.tim :=
  (s.raise_frame x hn).2.2 .tim (by decide) (by decide)
@[simp] theorem State.raiseWith_tim (s : State) {n : Nat} (x : Nat) (p : List Byte) (l : Bool) (hn : n < 256) :
    (s.raiseWith n x p l).tim = s.tim := (s.raiseWith_frame x p l hn).2.2 .tim (by decide) (by decide)
@[simp] theorem State.raise_ptp (s : State) {n : Nat} (x : Nat) (hn : n < 256) : (s.raise n x).ptp = s.ptp :=
  (s.raise_frame x hn).2.2 .ptp (by decide) (by decide)
@[simp] theorem State.raiseWith_ptp (s : State) {n : Nat} (x : Nat) (p : List Byte) (l : Bool) (hn : n < 256) :
    (s.raiseWith n x p l).ptp = s.ptp := (s.raiseWith_frame x p l hn).2.2 .ptp (by decide) (by decide)
@[simp] theorem State.raise_grx (s : State) {n : Nat} (x : Nat) (hn : n < 256) : (s.raise n x).grx = s.grx :=
  (s.raise_frame x hn).2.2 .grx (by decide) (by decide)
@[simp] theorem State.raiseWith_grx (s : State) {n : Nat} (x : Nat) (p : List Byte) (l : Bool) (hn : n < 256) :
    (s.raiseWith n x p l).grx = s.grx := (s.raiseWith_frame x p l hn).2.2 .grx (by decide) (by decide)
@[simp] theorem State.raise_dmu (s : State) {n : Nat} (x : Nat) (hn : n < 256) : (s.raise n x).dmu = s.dmu :=
  (s.raise_frame x hn).2.2 .dmu (by decide) (by decide)
@[simp] theorem State.raiseWith_dmu (s : State) {n : Nat} (x : Nat) (p : List Byte) (l : Bool) (hn : n < 256) :
    (s.raiseWith n x p l).dmu = s.dmu := (s.raiseWith_frame x p l hn).2.2 .dmu (by decide) (by decide)
@[simp] theorem State.raise_meterSave (s : State) {n : Nat} (x : Nat) (hn : n < 256) : (s.raise n x).meterSave = s.meterSave :=
  (s.raise_frame x hn).2.2 .meterSave (by decide) (by decide)
@[simp] theorem State.raiseWith_meterSave (s : State) {n : Nat} (x : Nat) (p : List Byte) (l : Bool) (hn : n < 256) :
    (s.raiseWith n x p l).meterSave = s.meterSave := (s.raiseWith_frame x p l hn).2.2 .meterSave (by decide) (by decide)
@[simp] theorem State.raise_dsp (s : State) {n : Nat} (x : Nat) (hn : n < 256) : (s.raise n x).dsp = s.dsp :=
  (s.raise_frame x hn).2.2 .dsp (by decide) (by decide)
@[simp] theorem State.raiseWith_dsp (s : State) {n : Nat} (x : Nat) (p : List Byte) (l : Bool) (hn : n < 256) :
    (s.raiseWith n x p l).dsp = s.dsp := (s.raiseWith_frame x p l hn).2.2 .dsp (by decide) (by decide)
@[simp] theorem State.raise_hostRead (s : State) {n : Nat} (x : Nat) (hn : n < 256) : (s.raise n x).hostRead = s.hostRead :=
  (s.raise_frame x hn).2.2 .hostRead (by decide) (by decide)
@[simp] theorem State.raiseWith_hostRead (s : State) {n : Nat} (x : Nat) (p : List Byte) (l : Bool) (hn : n < 256) :
    (s.raiseWith n x p l).hostRead = s.hostRead := (s.raiseWith_frame x p l hn).2.2 .hostRead (by decide) (by decide)
@[simp] theorem State.raise_freeCtr (s : State) {n : Nat} (x : Nat) (hn : n < 256) : (s.raise n x).freeCtr = s.freeCtr :=
  (s.raise_frame x hn).2.2 .freeCtr (by decide) (by decide)
@[simp] theorem State.raiseWith_freeCtr (s : State) {n : Nat} (x : Nat) (p : List Byte) (l : Bool) (hn : n < 256) :
    (s.raiseWith n x p l).freeCtr = s.freeCtr := (s.raiseWith_frame x p l hn).2.2 .freeCtr (by decide) (by decide)
@[simp] theorem State.raise_pending (s : State) {n : Nat} (x : Nat) (hn : n < 256) : (s.raise n x).pending = s.pending :=
  (s.raise_frame x hn).2.2 .pending (by decide) (by decide)
@[simp] theorem State.raiseWith_pending (s : State) {n : Nat} (x : Nat) (p : List Byte) (l : Bool) (hn : n < 256) :
    (s.raiseWith n x p l).pending = s.pending := (s.raiseWith_frame x p l hn).2.2 .pending (by decide) (by decide)

/-! ## The mirror (R309) -/

/-- A mirror message changes the mirror's sequence and what leaves the module, nothing else. -/
theorem State.mirror_frame (s : State) (k : Nat) (b : MirrorBody) (snap : Bool) :
    State.Frame [] [.ahn, .out] s (s.mirror k b snap) := by
  unfold State.mirror
  split
  · exact ⟨fun _ _ _ _ => rfl, fun _ => rfl, fun p hp => by cases p <;> first | rfl | exact absurd (by decide) hp⟩
  · exact State.Frame.refl _ _ s

@[simp] theorem State.mirror_regB (s : State) (k : Nat) (m : MirrorBody) (snap : Bool) (b a : Nat) :
    (s.mirror k m snap).regB b a = s.regB b a := by unfold State.mirror; split <;> rfl
@[simp] theorem State.mirror_mono (s : State) (k : Nat) (m : MirrorBody) (snap : Bool) : (s.mirror k m snap).mono = s.mono := by
  unfold State.mirror; split <;> rfl
@[simp] theorem State.mirror_tai (s : State) (k : Nat) (m : MirrorBody) (snap : Bool) : (s.mirror k m snap).tai = s.tai := by
  unfold State.mirror; split <;> rfl
@[simp] theorem State.mirror_regs (s : State) (k : Nat) (m : MirrorBody) (snap : Bool) : (s.mirror k m snap).regs = s.regs := by
  unfold State.mirror; split <;> rfl
@[simp] theorem State.mirror_bar2 (s : State) (k : Nat) (m : MirrorBody) (snap : Bool) : (s.mirror k m snap).bar2 = s.bar2 := by
  unfold State.mirror; split <;> rfl
@[simp] theorem State.mirror_evt (s : State) (k : Nat) (m : MirrorBody) (snap : Bool) : (s.mirror k m snap).evt = s.evt := by
  unfold State.mirror; split <;> rfl
@[simp] theorem State.mirror_log (s : State) (k : Nat) (m : MirrorBody) (snap : Bool) : (s.mirror k m snap).log = s.log := by
  unfold State.mirror; split <;> rfl
@[simp] theorem State.mirror_rings (s : State) (k : Nat) (m : MirrorBody) (snap : Bool) : (s.mirror k m snap).rings = s.rings := by
  unfold State.mirror; split <;> rfl
@[simp] theorem State.mirror_xq (s : State) (k : Nat) (m : MirrorBody) (snap : Bool) : (s.mirror k m snap).xq = s.xq := by
  unfold State.mirror; split <;> rfl
@[simp] theorem State.mirror_pwr (s : State) (k : Nat) (m : MirrorBody) (snap : Bool) : (s.mirror k m snap).pwr = s.pwr := by
  unfold State.mirror; split <;> rfl
@[simp] theorem State.mirror_rst (s : State) (k : Nat) (m : MirrorBody) (snap : Bool) : (s.mirror k m snap).rst = s.rst := by
  unfold State.mirror; split <;> rfl
@[simp] theorem State.mirror_hpg (s : State) (k : Nat) (m : MirrorBody) (snap : Bool) : (s.mirror k m snap).hpg = s.hpg := by
  unfold State.mirror; split <;> rfl
@[simp] theorem State.mirror_bkp (s : State) (k : Nat) (m : MirrorBody) (snap : Bool) : (s.mirror k m snap).bkp = s.bkp := by
  unfold State.mirror; split <;> rfl
@[simp] theorem State.mirror_optA (s : State) (k : Nat) (m : MirrorBody) (snap : Bool) : (s.mirror k m snap).optA = s.optA := by
  unfold State.mirror; split <;> rfl
@[simp] theorem State.mirror_optB (s : State) (k : Nat) (m : MirrorBody) (snap : Bool) : (s.mirror k m snap).optB = s.optB := by
  unfold State.mirror; split <;> rfl
@[simp] theorem State.mirror_pins (s : State) (k : Nat) (m : MirrorBody) (snap : Bool) : (s.mirror k m snap).pins = s.pins := by
  unfold State.mirror; split <;> rfl
@[simp] theorem State.mirror_sim (s : State) (k : Nat) (m : MirrorBody) (snap : Bool) : (s.mirror k m snap).sim = s.sim := by
  unfold State.mirror; split <;> rfl
@[simp] theorem State.mirror_nand (s : State) (k : Nat) (m : MirrorBody) (snap : Bool) : (s.mirror k m snap).nand = s.nand := by
  unfold State.mirror; split <;> rfl
@[simp] theorem State.mirror_cls (s : State) (k : Nat) (m : MirrorBody) (snap : Bool) : (s.mirror k m snap).cls = s.cls := by
  unfold State.mirror; split <;> rfl
@[simp] theorem State.mirror_aut (s : State) (k : Nat) (m : MirrorBody) (snap : Bool) : (s.mirror k m snap).aut = s.aut := by
  unfold State.mirror; split <;> rfl
@[simp] theorem State.mirror_warden (s : State) (k : Nat) (m : MirrorBody) (snap : Bool) : (s.mirror k m snap).warden = s.warden := by
  unfold State.mirror; split <;> rfl
@[simp] theorem State.mirror_keys (s : State) (k : Nat) (m : MirrorBody) (snap : Bool) : (s.mirror k m snap).keys = s.keys := by
  unfold State.mirror; split <;> rfl
@[simp] theorem State.mirror_key (s : State) (k : Nat) (m : MirrorBody) (snap : Bool) : (s.mirror k m snap).key = s.key := by
  unfold State.mirror; split <;> rfl
@[simp] theorem State.mirror_fw (s : State) (k : Nat) (m : MirrorBody) (snap : Bool) : (s.mirror k m snap).fw = s.fw := by
  unfold State.mirror; split <;> rfl
@[simp] theorem State.mirror_upd (s : State) (k : Nat) (m : MirrorBody) (snap : Bool) : (s.mirror k m snap).upd = s.upd := by
  unfold State.mirror; split <;> rfl
@[simp] theorem State.mirror_rhl (s : State) (k : Nat) (m : MirrorBody) (snap : Bool) : (s.mirror k m snap).rhl = s.rhl := by
  unfold State.mirror; split <;> rfl
@[simp] theorem State.mirror_air (s : State) (k : Nat) (m : MirrorBody) (snap : Bool) : (s.mirror k m snap).air = s.air := by
  unfold State.mirror; split <;> rfl
@[simp] theorem State.mirror_eth (s : State) (k : Nat) (m : MirrorBody) (snap : Bool) : (s.mirror k m snap).eth = s.eth := by
  unfold State.mirror; split <;> rfl
@[simp] theorem State.mirror_lpe (s : State) (k : Nat) (m : MirrorBody) (snap : Bool) : (s.mirror k m snap).lpe = s.lpe := by
  unfold State.mirror; split <;> rfl
@[simp] theorem State.mirror_slv (s : State) (k : Nat) (m : MirrorBody) (snap : Bool) : (s.mirror k m snap).slv = s.slv := by
  unfold State.mirror; split <;> rfl
@[simp] theorem State.mirror_tim (s : State) (k : Nat) (m : MirrorBody) (snap : Bool) : (s.mirror k m snap).tim = s.tim := by
  unfold State.mirror; split <;> rfl
@[simp] theorem State.mirror_ptp (s : State) (k : Nat) (m : MirrorBody) (snap : Bool) : (s.mirror k m snap).ptp = s.ptp := by
  unfold State.mirror; split <;> rfl
@[simp] theorem State.mirror_grx (s : State) (k : Nat) (m : MirrorBody) (snap : Bool) : (s.mirror k m snap).grx = s.grx := by
  unfold State.mirror; split <;> rfl
@[simp] theorem State.mirror_dmu (s : State) (k : Nat) (m : MirrorBody) (snap : Bool) : (s.mirror k m snap).dmu = s.dmu := by
  unfold State.mirror; split <;> rfl
@[simp] theorem State.mirror_meterSave (s : State) (k : Nat) (m : MirrorBody) (snap : Bool) : (s.mirror k m snap).meterSave = s.meterSave := by
  unfold State.mirror; split <;> rfl
@[simp] theorem State.mirror_dsp (s : State) (k : Nat) (m : MirrorBody) (snap : Bool) : (s.mirror k m snap).dsp = s.dsp := by
  unfold State.mirror; split <;> rfl
@[simp] theorem State.mirror_hostRead (s : State) (k : Nat) (m : MirrorBody) (snap : Bool) : (s.mirror k m snap).hostRead = s.hostRead := by
  unfold State.mirror; split <;> rfl
@[simp] theorem State.mirror_freeCtr (s : State) (k : Nat) (m : MirrorBody) (snap : Bool) : (s.mirror k m snap).freeCtr = s.freeCtr := by
  unfold State.mirror; split <;> rfl
@[simp] theorem State.mirror_pending (s : State) (k : Nat) (m : MirrorBody) (snap : Bool) : (s.mirror k m snap).pending = s.pending := by
  unfold State.mirror; split <;> rfl

/-! ## The outer form of a command (R35, R376) -/

/-- On a running module a command does what its rule says. -/
theorem whileRunning_eq {s : State} (f : State → State) (h : s.running = true) : whileRunning s f = .next (f s) := by
  simp [whileRunning, State.live, h]

/-- While the module is in reset the command does nothing (R376). -/
theorem whileRunning_idle {s : State} (f : State → State) (h : s.running = false) : whileRunning s f = .next s := by
  simp [whileRunning, State.live, h]

/-- On a running module a host read does what its rule says. -/
theorem whileRead_eq {s : State} (f : State → State) (h : s.running = true) : whileRead s f = .next (f s) := by
  simp [whileRead, h]

/-- Until the module runs a host read returns 0 (R376). -/
theorem whileRead_idle {s : State} (f : State → State) (h : s.running = false) : whileRead s f = .next { s with hostRead := 0 } := by
  simp [whileRead, h]

/-- On a running module an enabled block does what its rule says. -/
theorem whileOn_eq {s : State} {b : Nat} (f : State → State) (h : s.running = true) (hb : s.blkOn b = true) :
    whileOn s b f = .next (f s) := by simp [whileOn, State.on, State.live, h, hb]

/-- A disabled block does nothing. -/
theorem whileOn_idle {s : State} {b : Nat} (f : State → State) (h : (s.running && s.blkOn b) = false) :
    whileOn s b f = .next s := by
  simp only [whileOn, State.on, State.live]
  cases hr : s.running <;> cases hb : s.blkOn b <;> simp_all

end Sys2Proof.Machine
end

