-- ==== Sys2Proof/Machine/Waveform.lean ====
section
/-!
DEFINITION. The bits of a frame on air (R207, R208): of N-PHY in their order, of W-PHY by symbol, scrambled, coded and interleaved. Modulation,
preamble and pilots are the channelizer's samples, which are free (log 84). Where R208 names a code and no more (puncturing, interleaving, the
service and tail bits of its 22) the forms of IEEE 802.11 are PRESUMED (log 81).
-/

namespace Sys2Proof.Machine

/-- The bits of bytes, the lowest of each byte first. -/
def byteBits (bs : List Byte) : List Bool := bs.flatMap fun b => (List.range 8).map fun i => b.toNat.testBit i

/-- Bits scrambled from register `r`, x⁷ + x⁴ + 1. -/
def scramble : (r : Nat) → List Bool → List Bool
  | _, [] => []
  | r, b :: bs =>
    let f := r.testBit 6 != r.testBit 3
    (b != f) :: scramble (2 * r % 128 + b2n f) bs

/-- The convolutional code, K = 7 with generators 133 and 171 octal, after the six bits `r` holds, the newest highest. -/
def convolve : (r : Nat) → List Bool → List Bool
  | _, [] => []
  | r, b :: bs =>
    let v := 64 * b2n b + r
    parityOf 7 (v &&& 0o133) :: parityOf 7 (v &&& 0o171) :: convolve (v / 2) bs

/-- Punctured to rate 3/4: four of every six coded bits. -/
def puncture : List Bool → List Bool
  | a :: b :: c :: _ :: _ :: d :: rest => a :: b :: c :: d :: puncture rest
  | rest => rest

/-- Coded bits per data subcarrier of an MCS, and whether its rate is 3/4. -/
def mcsDepth (mcs : Nat) : Nat := [1, 1, 2, 2, 4].getD mcs 1
def mcsPunctured (mcs : Nat) : Bool := mcs == 1 || mcs == 3

/-- The place within its symbol of coded bit `k`, of `depth` bits on each of 48 subcarriers. -/
def interleaveAt (depth k : Nat) : Nat :=
  let n := 48 * depth
  let s := max (depth / 2) 1
  let i := 3 * depth * (k % 16) + k / 16
  s * (i / s) + (i + n - 16 * i / n) % s

/-- A symbol's coded bits, interleaved. -/
def interleave (depth : Nat) (bits : List Bool) : List Bool :=
  (List.range (48 * depth)).map fun j =>
    ((List.range (48 * depth)).find? fun k => interleaveAt depth k == j).any fun k => bits.getD k false

/-- The first `n` symbols of coded bits. -/
def symbolsOf (depth : Nat) : (n : Nat) → List Bool → List (List Bool)
  | 0, _ => []
  | n + 1, bits => interleave depth (bits.take (48 * depth)) :: symbolsOf depth n (bits.drop (48 * depth))

/-- The SIGNAL symbol: MCS, PSDU length and parity at MCS 0. -/
def signalSymbol (mcs len : Nat) (parity : Bool) : List Bool :=
  let bits := ((List.range 3).map mcs.testBit) ++ ((List.range 12).map len.testBit) ++ [parity] ++ List.replicate 8 false
  interleave 1 (convolve 0 bits)

/-- Symbols of data in a W-PHY frame (R208). -/
def wideSymbols (mcs len : Nat) : Nat := ceilDiv (22 + 8 * len) (mcsBits mcs)

/-- The bits that are coded: 16 service bits of 0 and the PSDU, scrambled, six tail bits of 0, and filler to whole symbols. -/
def dataBits (mcs seed : Nat) (psdu : List Byte) : List Bool :=
  let body := List.replicate 16 false ++ byteBits psdu
  let fill := wideSymbols mcs psdu.length * mcsBits mcs - body.length
  let all := scramble seed (body ++ List.replicate fill false)
  all.take body.length ++ List.replicate 6 false ++ all.drop (body.length + 6)

/-- The bits of a frame on air: N-PHY's in one list; of W-PHY the SIGNAL symbol and each symbol of data. -/
def AirSignal.bits : AirSignal → List (List Bool)
  | .narrow bytes => [byteBits bytes]
  | .wide mcs len parity seed psdu =>
    let coded := convolve 0 (dataBits mcs seed psdu)
    signalSymbol mcs len parity :: symbolsOf (mcsDepth mcs) (wideSymbols mcs psdu.length) (if mcsPunctured mcs then puncture coded else coded)

end Sys2Proof.Machine
end

