-- ==== Sys2Proof/Laws/Waveform.lean ====
section
/-!
SUPPORT. Lengths of what is on air (R207, R208): the symbols of a frame agree with its airtime.
-/

namespace Sys2Proof.Machine

/-- A frame's coded bits fill the symbols asked for. -/
theorem symbolsOf_length (depth n : Nat) (bits : List Bool) : (symbolsOf depth n bits).length = n := by
  induction n generalizing bits with
  | zero => rfl
  | succ n ih => simp [symbolsOf, ih]

/-- A symbol holds 48 times its depth of bits. -/
theorem interleave_length (depth : Nat) (bits : List Bool) : (interleave depth bits).length = 48 * depth := by simp [interleave]

/-- A W-PHY frame has the SIGNAL symbol and R208's number of symbols of data. -/
theorem wide_bits_length (mcs len : Nat) (parity : Bool) (seed : Nat) (psdu : List Byte) :
    (AirSignal.bits (.wide mcs len parity seed psdu)).length = 1 + wideSymbols mcs psdu.length := by
  simp [AirSignal.bits, symbolsOf_length, Nat.add_comm]

/-- The airtime of a W-PHY frame is that of its preamble and its symbols of data. -/
theorem wideNs_eq (bw mcs len : Nat) :
    wideNs bw mcs len = if bw = 1 then 20000 + 4000 * wideSymbols mcs len else 40000 + 8000 * wideSymbols mcs len := rfl

end Sys2Proof.Machine
end

