-- ==== Sys2Proof/WellFormed.lean ====
section
/-!
DEFINITION. Which commands are well-formed: every number that names a part of the module lies in the range the spec gives that part. The
meanings are total and do not rely on it.
-/

namespace Sys2Proof

open Machine

/-! ## The checks -/

/-- A machine index (R451). -/
def Wf.machine (n : Nat) : Bool := decide (n < 2048)
/-- A radio head link (R250). -/
def Wf.link (n : Nat) : Bool := decide (n < 2)
/-- A word of a block (R252). -/
def Wf.word (n : Nat) : Bool := decide (n < 2 ^ 32)
/-- A stream of a link (R257). -/
def Wf.stream (n : Nat) : Bool := decide (n < 4)
/-- A modem (R209). -/
def Wf.modem (n : Nat) : Bool := decide (n < 12)
/-- A wide channel (R209). -/
def Wf.wide (n : Nat) : Bool := decide (n < 8)
/-- A solve lane (R130). -/
def Wf.lane (n : Nat) : Bool := decide (n < 32)
/-- A tracking channel (R154). -/
def Wf.channel (n : Nat) : Bool := decide (n < 384)
/-- An antenna, and an RF path of one (R151, R164). -/
def Wf.antenna (n : Nat) : Bool := decide (n < 2)
def Wf.path (n : Nat) : Bool := decide (n < 3)
/-- An Ethernet port (R344). -/
def Wf.port (n : Nat) : Bool := decide (n < 2)
/-- A forward entry (R357). -/
def Wf.fwd (n : Nat) : Bool := decide (n < 8)
/-- A crossing queue (R347). -/
def Wf.queue (n : Nat) : Bool := decide (n < 160)
/-- A host ring (R334). -/
def Wf.ring (n : Nat) : Bool := decide (n < 1024)
/-- An MSI-X vector (R342). -/
def Wf.vector (n : Nat) : Bool := decide (n < 64)
/-- A word of the pending events (R354). -/
def Wf.pend (n : Nat) : Bool := decide (n < 8)
/-- An event number (R451). -/
def Wf.event (n : Nat) : Bool := decide (n < 256)
/-- A metering group or bay, and an input (R394). -/
def Wf.bay (n : Nat) : Bool := decide (n < 16)
def Wf.input (n : Nat) : Bool := decide (n < 24)
/-- A thread (R280). -/
def Wf.thread (n : Nat) : Bool := decide (n < 4096)
/-- A work order's index (R268). -/
def Wf.order (n : Nat) : Bool := decide (n < 65536)
/-- A loop slot (R288). -/
def Wf.slot (n : Nat) : Bool := decide (n < 2048)
/-- A follow-table entry (R62). -/
def Wf.follow (n : Nat) : Bool := decide (n < 4096)
/-- An auxiliary stream (R141): the four of R142, and 4 the machine-link input of R143. -/
def Wf.aux (n : Nat) : Bool := decide (n < 5)
/-- A capture input, timed output or pulse output (R194, R195, R409). -/
def Wf.capture (n : Nat) : Bool := decide (n < 8)
/-- A life-cycle state (R420). -/
def Wf.lifeCycle (n : Nat) : Bool := decide (n < 4)
/-- A block (R40). -/
def Wf.block (n : Nat) : Bool :=
  [0x01, 0x02, 0x03, 0x04, 0x05, 0x06, 0x07, 0x10, 0x14, 0x18, 0x20, 0x28, 0x29, 0x30, 0x34, 0x38, 0x3C, 0x40, 0x44, 0x48, 0x4A, 0x4C, 0x50,
    0x51].contains n
/-- Clock domains (R39). -/
def Wf.domains (l : List Nat) : Bool := l.all fun d => decide (d < 13)
/-- A frame received on a modem. -/
def Wf.airRx (rx : AirRx) : Bool := Wf.modem rx.modem && decide (12 ≤ rx.psdu.length) && decide (rx.psdu.length ≤ 4095)
/-- A host write within BAR0, or of 1 to 64 bytes within BAR2 (R330, R333). -/
def Wf.hostWrite : HostWrite → Bool
  | .bar0 addr width value => decide (addr + width ≤ 0x4000000) && decide (value < 256 ^ width)
  | .bar2 offset bytes => decide (1 ≤ bytes.length) && decide (bytes.length ≤ 64) && decide (offset + bytes.length ≤ 0x10000000)
  | .msixEnable _ => true

/-- A command is well-formed. -/
def Instr.wf : Instr → Bool

  | .registerWrite w => Wf.hostWrite w
  | .readClear _ _ => true
  | .ctrlEnSet blk _ => Wf.block blk
  | .parseCheck stopped => Wf.domains stopped
  | .ctrlEnClear blk _ => Wf.block blk
  | .loadHost _ => true
  | .loadFlash _ => true
  | .loadComplete => true
  | .applyFull _ => true
  | .applySections _ => true
  | .applyComplete => true
  | .store _ => true
  | .storeComplete _ => true
  | .discard _ => true
  | .setBoot _ => true
  | .simStartupLoad => true
  | .reserve _ => true
  | .clsRelease _ => true
  | .extend _ => true
  | .shrink _ => true
  | .clsSwap _ => true
  | .querySpace _ => true
  | .queryHandle _ => true
  | .sweep _ => true
  | .automaticSweep => true
  | .solutionCheck => true
  | .clsMemFault => true
  | .clauseTimeNowRead => true
  | .tokenBlockSeal => true
  | .beaconSlotOpen => true
  | .wardenRenewal _ _ => true
  | .lockstepMismatch => true
  | .kickTimeout => true
  | .kick => true
  | .stopInputAssert _ => true
  | .stopFrameRepeat => true
  | .stopDiscrepancy => true
  | .stopInputsReleased => true
  | .discClear => true
  | .commaPinAssert => true
  | .commaPinRelease => true
  | .hostFullStop _ => true
  | .hostComma _ => true
  | .commaResume => true
  | .rearmFirstKey => true
  | .rearmSecondKey => true
  | .rearmTimeout => true
  | .rearmHoldEnd => true
  | .referenceAgeExceeded => true
  | .referenceAgeRecovered => true
  | .hostRevoke mi => Wf.machine mi
  | .reinstate mi => Wf.machine mi
  | .coverWrite _ => true
  | .repeatRecord mi => Wf.machine mi
  | .seqSnapshotRead => true
  | .obsFrameRx rx => Wf.airRx rx
  | .epochMatch mi => Wf.machine mi
  | .laneStart lane => Wf.lane lane
  | .solveComplete lane _ => Wf.lane lane
  | .laneFault n e => match e with
    | .residue => Wf.lane n
    | .scratch => Wf.lane n
    | .stored => Wf.machine n
    | .corrected => true
    | .cache => true
  | .planRecompute => true
  | .rateRecompute => true
  | .laneSleep lane => Wf.lane lane
  | .laneLeaveRetry => true
  | .predictionLimit => true
  | .auxRtcmRx n _ _ _ => Wf.aux n
  | .auxStreamStale n => Wf.aux n
  | .linkInRx _ _ _ => true
  | .resetFilter mi => Wf.machine mi
  | .refix mi => Wf.machine mi
  | .referenceEpoch _ => true
  | .antShort a => Wf.antenna a
  | .antOpen a => Wf.antenna a
  | .biasRetry a _ => Wf.antenna a
  | .biasRestored a => Wf.antenna a
  | .channelAssign _ => true
  | .phaseLockLoss ch _ => Wf.channel ch
  | .navRecord _ => true
  | .ephemerisSave => true
  | .spectrumEstimate ant path _ => Wf.antenna ant && Wf.path path
  | .jamLevelChange ant path _ _ _ => Wf.antenna ant && Wf.path path
  | .spoofAlarmClear => true
  | .spoofAlarmWrite _ => true
  | .commitKnown => true
  | .selfSurvey _ => true
  | .clearPositions => true
  | .quietCal => true
  | .surveyAbort => true
  | .surveyEnd _ _ => true
  | .posHiWrite _ => true
  | .heldPositionRead => true
  | .notchSetWrite _ => true
  | .rtcmMsmOutput _ => true
  | .rtcmStationOutput => true
  | .timeSolutionRx _ => true
  | .timeSolutionTimeout => true
  | .timeInvalid => true
  | .stepApply => true
  | .timSet _ => true
  | .ppsEdge => true
  | .leapSecond => true
  | .ocxoReady => true
  | .timeSnapshotRead => true
  | .timedOutputArm _ => true
  | .timedOutputEdge n => Wf.capture n
  | .captureEdge j _ => Wf.capture j
  | .captureStampRead => true
  | .rtcUpdate => true
  | .ptpMessageRx rx => Wf.port rx.port
  | .ptpSyncTx port => Wf.port port
  | .ptpAnnounceTx port => Wf.port port
  | .ptpTransparentForward port header _ rxAt txAt => Wf.port port && decide (header.length ≤ 34) && decide (rxAt ≤ txAt) && decide (txAt ≤ rxAt + 4000)
  | .downlinkBurst w => Wf.wide w
  | .joinReqRx rx => Wf.airRx rx
  | .rptRx rx => Wf.airRx rx
  | .dataUpRx rx => Wf.airRx rx
  | .pollRx rx => Wf.airRx rx
  | .stopReqRx rx => Wf.airRx rx
  | .partnerBeaconRx rx => Wf.airRx rx
  | .machineLost mi => Wf.machine mi
  | .lostGrantsWithdraw mi => Wf.machine mi
  | .superframeStart => true
  | .dutyWindowTick => true
  | .pollMissed mi => Wf.machine mi
  | .lbtBackoffExpiry modem _ => Wf.modem modem
  | .prioWaitExpiry modem => Wf.modem modem
  | .machSleep _ => true
  | .machWake => true
  | .machDetach => true
  | .machGuard _ => true
  | .obsGrantApply _ => true
  | .rptGrantApply _ => true
  | .iqBlockRx link _ crc => Wf.link link && Wf.word crc
  | .timeBlockTx => true
  | .linkAligned link => Wf.link link
  | .headStatusRx link header stamp _ crc txAt rxAt =>
    Wf.link link && Wf.word header && Wf.word stamp && Wf.word crc && decide (txAt ≤ rxAt)
  | .headCapsRx link header stamp _ crc => Wf.link link && Wf.word header && Wf.word stamp && Wf.word crc
  | .headAlarmRx link _ => Wf.link link
  | .linkStateTimeout link => Wf.link link
  | .linkDown link _ _ => Wf.link link
  | .linkRetry link => Wf.link link
  | .periodicEcho link => Wf.link link
  | .agcAdjust link stream _ _ _ => Wf.link link && Wf.stream stream
  | .bringUp link => Wf.link link
  | .linkDownCmd link => Wf.link link
  | .echo link => Wf.link link
  | .submit => true
  | .cancel => true
  | .retire => true
  | .query => true
  | .assign => true
  | .requeue => true
  | .dspIntakeEntry q _ => Wf.queue q
  | .dispatchTick => true
  | .machineEligible mi => Wf.machine mi
  | .dspReserveResult => true
  | .orderAccept mi _ => Wf.machine mi
  | .orderRefuse mi _ => Wf.machine mi
  | .orderDone mi _ => Wf.machine mi
  | .orderWithdrawn mi => Wf.machine mi
  | .ackTimeout idx => Wf.order idx
  | .deadlineExpiry idx => Wf.order idx
  | .spillHoldExpiry _ => true
  | .coreTick => true
  | .threadReady t => Wf.thread t
  | .threadCreate => true
  | .threadDestroy => true
  | .threadSuspend => true
  | .threadResume => true
  | .threadWait _ _ => true
  | .slotUpdate => true
  | .slotTrigger slot _ _ => Wf.slot slot
  | .periodicFire slot => Wf.slot slot
  | .fire => true
  | .slotRestart => true
  | .gapAssignCmd pair => Wf.follow pair
  | .gapFreeCmd => true
  | .satClearWrite => true
  | .ahnobLinkUp _ => true
  | .helloRx _ => true
  | .ahnobLinkDown => true
  | .heartbeatTx => true
  | .heartbeatRx _ _ => true
  | .heartbeatLoss => true
  | .mirrorMessageRx _ _ => true
  | .snapshotRequestRx => true
  | .mirrorLagLimit => true
  | .roleClaim => true
  | .claimSample => true
  | .decisionMoment => true
  | .ahnSwap _ => true
  | .ahnRelease => true
  | .resync => true
  | .tokenPathTest => true
  | .tokenTestEnd _ => true
  | .plannedSwapAccept => true
  | .evtRaise event => Wf.event event
  | .pendingClear n _ => Wf.pend n
  | .vectorModerationExpiry v => Wf.vector v
  | .doorbellWrite r _ => Wf.ring r
  | .ringEnable _ => true
  | .perst => true
  | .hostLinkDown => true
  | .hostLinkUp _ _ => true
  | .ethFrameRx port _ _ => Wf.port port
  | .ethTxRingEntry port => Wf.port port
  | .forwardEntry fwd => Wf.fwd fwd
  | .ruleEnable _ => true
  | .forwardEnable _ => true
  | .queuePointerMismatch q => Wf.queue q
  | .queueDrop => true
  | .queueReset => true
  | .queueResume => true
  | .leaveRequest _ _ => true
  | .hostLeaveWrite _ => true
  | .budgetWrite _ => true
  | .maintenanceTestStart => true
  | .maintenanceTestEnd _ => true
  | .whole => true
  | .testAbort => true
  | .wholeTestEnd _ => true
  | .powerFailWarning => true
  | .powerReturn => true
  | .brownOut => true
  | .powerOn _ => true
  | .resetPin _ => true
  | .hostResetKey1 => true
  | .hostResetKey2 => true
  | .debugReset => true
  | .optionLoad => true
  | .domainRelease => true
  | .optionWrite => true
  | .clearStrikes => true
  | .insertion => true
  | .eject => true
  | .ejectCancel => true
  | .removalReady => true
  | .surpriseRemoval => true
  | .thermalTrip => true
  | .hoursTick => true
  | .powerSample g _ _ _ => Wf.bay g
  | .inputFault n => Wf.input n
  | .inputClear n => Wf.input n
  | .acUnlock g => Wf.bay g
  | .pulseEmit n => Wf.capture n
  | .meterSave _ => true
  | .bayFreeEval => true
  | .sessionEnd bay => Wf.bay bay
  | .bayFreeCmd bay => Wf.bay bay
  | .bayBusyCmd bay => Wf.bay bay
  | .bayEndCmd bay => Wf.bay bay
  | .poCfgWrite _ => true
  | .accumulatorRead => true
  | .rootGenerate _ => true
  | .createPair _ => true
  | .enrolPair => true
  | .acceptPair => true
  | .enrolExchangeRx _ => true
  | .enrolWindowExpiry => true
  | .renewBeacon => true
  | .exportMachine => true
  | .exportSender => true
  | .enrolImg => true
  | .revokeImg => true
  | .readDevpub => true
  | .forgetPair => true
  | .lifeCycleKey1 target => Wf.lifeCycle target
  | .lifeCycleKey2 target => Wf.lifeCycle target
  | .begin => true
  | .block => true
  | .finish => true
  | .updAbort => true
  | .confirm => true
  | .revert => true
  | .updateCopy _ => true
  | .autoConfirm => true
  | .trialExpiry => true
  | .readCirc => true
  | .readPerm => true
  | .flush => true
  | .logBufferWrite _ _ => true
  | .repeatClose => true
  | .quarantineExpiry mi => Wf.machine mi
  | .stopInputRelease _ => true
  | .holdoverQualityStep => true
  | .roleInNChange _ => true
  | .ethLinkChange port _ => Wf.port port
  | .sfpChange port _ _ _ => Wf.port port
  | .pcieError _ => true
  | .floodRelayRx rx => Wf.airRx rx
  | .acquisitionComplete ch => Wf.channel ch
  | .announceReceiptTimeout port => Wf.port port
  | .pdelayReqTx port => Wf.port port
  | .wardenSelfTestEnd _ => true
  | .plannedSwapRelease => true
  | .tempHigh => true
  | .referenceSetTimeout _ => true
  | .followEntryEnd entry => Wf.follow entry
  | .logReadComplete _ => true
  | .optionWriteComplete => true
  | .partnerKeyMessageRx _ _ => true
  | .busMasterEnableChange _ => true
  | .msixVectorUnmask v => Wf.vector v
  | .forcedWholeTestBegin => true
  | .thermalRecovery => true

end Sys2Proof
end

