-- ==== Sys2Proof/Tests/Slice0.lean ====
section
/-!
SUPPORT. Tests: terms each well-formedness check refuses, a few steps on small states, and for every statement with hypotheses a
witness: concrete states and operands that meet them, clause by clause.
-/

set_option maxRecDepth 100000
set_option linter.unusedVariables false
set_option Elab.async false

namespace Sys2Proof.Tests

open Sys2Proof Sys2Proof.Machine

/-! ## Well-formedness: each check refuses a term -/

/-- A command whose operand lies just outside its range, for every check of WellFormed. -/
def illFormed : List Instr :=
  let rx : AirRx := ⟨12, [], 0⟩
  [.hostRevoke 2048, .linkAligned 2, .iqBlockRx 2 [] 0, .prioWaitExpiry 12, .downlinkBurst 8, .laneStart 32, .acquisitionComplete 384,
    .antShort 2, .ptpSyncTx 2, .forwardEntry 8, .queuePointerMismatch 160, .doorbellWrite 1024 0#32, .msixVectorUnmask 64] ++
  [.pendingClear 8 0#32, .evtRaise 256, .acUnlock 16, .inputFault 24, .threadReady 4096, .ackTimeout 65536, .periodicFire 2048,
    .gapAssignCmd 4096, .auxStreamStale 5, .captureEdge 8 true, .lifeCycleKey1 4, .ctrlEnSet 0x08 0#32, .parseCheck [13], .joinReqRx rx,
    .registerWrite (.bar0 0x3FFFFFE 4 0), .registerWrite (.bar2 0 [])] ++
  [.jamLevelChange 1 3 0 0 false, .ptpSyncTx 3, .iqBlockRx 0 [] (2 ^ 32), .laneFault 32 .residue, .laneFault 2048 .stored]

theorem test_wf_refuses : illFormed.all (fun c => !c.wf) = true := by decide

theorem test_wf_accepts : ([.hostRevoke 2047, .linkAligned 1, .downlinkBurst 7, .laneStart 31, .doorbellWrite 1023 0#32, .evtRaise 255,
    .ctrlEnSet 0x51 1#32, .registerWrite (.bar2 0 [1#8])] : List Instr).all Instr.wf = true := by decide

/-! ## Known answers -/

/-- The check value of CRC-32 (IEEE 802.3) over the digits 1 to 9. -/
theorem test_crc32_check : crc32 [0x31#8, 0x32#8, 0x33#8, 0x34#8, 0x35#8, 0x36#8, 0x37#8, 0x38#8, 0x39#8] = 0xCBF43926 := by decide +kernel

/-- The first bytes of SHA-384 of "abc" (FIPS 180-4's example). -/
theorem test_sha384_abc : (sha384 [0x61#8, 0x62#8, 0x63#8]).take 8 = [0xcb#8, 0x00#8, 0x75#8, 0x3f#8, 0x45#8, 0xa3#8, 0x5e#8, 0x8b#8] := by
  decide +kernel

/-- The CMAC of the empty message in NIST SP 800-38B's example for AES-256. -/
theorem test_cmac_empty : Bytes.beNat (aesCmac (Bytes.be 32 0x603DEB1015CA71BE2B73AEF0857D77811F352C073B6108D72D9810A30914DFF4) []) =
    0x028962F61B7BF89EFC6B551F4667D983 := by decide +kernel

/-- The generator of P-384 is the public point of the private key 1. -/
theorem test_ec_generator : (ecPublic 1).take 5 = [0x04#8, 0xAA#8, 0x87#8, 0xCA#8, 0x22#8] := by decide +kernel

/-- W-PHY's code answers a single 1 with its generators 133 and 171 octal, bit by bit (R208). -/
theorem test_convolve_impulse : convolve 0 [true, false, false, false, false, false, false] =
    [true, true, false, true, true, true, true, true, false, false, true, false, true, true] := by decide

/-- The scrambler's sequence from all ones begins 00001110 11110010, as IEEE 802.11 lists it for x⁷ + x⁴ + 1. -/
theorem test_scramble_ones : scramble 127 (List.replicate 16 false) =
    [false, false, false, false, true, true, true, false, true, true, true, true, false, false, true, false] := by decide

/-! ## A few steps -/

/-- The state a result holds. -/
def after (r : Result) : State :=
  match r with
  | .next t => t
  | .fault _ | .refused _ => State.reset

/-- R3, R4: a word write at the front of the queue stores, and the queue moves on. -/
theorem test_step_write :
    (let t := after (step { State.reset with pending := [.registerWrite (.bar0 0x18 4 0x12345678), .kick] })
     decide (t.reg R.GLB_SCRATCH = 0x12345678#32 ∧ t.pending = [.kick])) = true := by decide +kernel

/-- R3: a halfword write is discarded. -/
theorem test_write_halfword : (after (exec (.registerWrite (.bar0 0x18 2 0x5678)) State.reset)).reg R.GLB_SCRATCH = 0#32 := by decide +kernel

/-- R332: an offset that names no register counts in HST_CNT0. -/
theorem test_write_unmapped : (after (exec (.registerWrite (.bar0 0x510000 4 1)) State.reset)).reg R.HST_CNT = 1#32 := by decide +kernel

/-- R343: 239 is no software event, 240 is. -/
theorem test_evt_raise :
    (!(after (exec (.evtRaise 239) State.reset)).pend 239 && (after (exec (.evtRaise 240) State.reset)).pend 240) = true := by decide +kernel

/-- R423: a FINISH without a transfer is refused with 0x4A25. -/
theorem test_finish_nothing :
    (after (exec .finish (State.reset.setFld (Blk.en Blk.UPD) 1))).reg R.UPD_PARSE = 0x00004A25#32 := by decide +kernel

/-- R449: RENEW_BEACON at BGEN 65,535 is refused with 0x4809. -/
theorem test_renew_end :
    (after (exec .renewBeacon { State.reset with keys := { State.reset.keys with pairRoot := some 1, bgen := 65535 } })).reg R.KEY_PARSE =
      0x00004809#32 := by decide +kernel

/-- The host's reading of the table: no row gives bits. -/
theorem test_no_words : decodeTableWord 32 0 = none ∧ (State.reset.withFetchWord 32 0) = State.reset := by decide

/-- R86, R82: at COVER 7 a token block is 72 bytes, and the bit of machine 9 is bit 1 of byte 17. -/
theorem test_token_block :
    ((TokenBlock.bytes ⟨1, 0, 5, 0, 250, 7, [9]⟩).length = 72 ∧ (TokenBlock.bytes ⟨1, 0, 5, 0, 250, 7, [9]⟩).getD 17 0#8 = 2#8) := by decide +kernel

/-! ## States the witnesses use -/

/-- Numbers as bytes. -/
def octets (l : List Nat) : List Byte := l.map (BitVec.ofNat 8)
/-- The reset state with blocks enabled. -/
def withOn (bs : List Nat) : State := bs.foldl (fun s b => s.setFld (Blk.en b) 1) State.reset
/-- The module holds the ACTIVE role. -/
def asActive (s : State) : State := { s with ahn := { s.ahn with role := .active } }
/-- The module in a phase of reset. -/
def inPhase (p : RstPhase) (s : State) : State := { s with rst := { s.rst with phase := p } }
/-- A local clock of 1,000 s. -/
def later (s : State) : State := { s with mono := 1000000000000 }
/-- A partner in SYNC shows in a current heartbeat. -/
def withStandby (s : State) : State := { s with ahn := { s.ahn with hbOk := true, linkUp := true, hb := some ⟨0, .sync, false, false, false, false, false, false, false, false, false, 0, 0, 0, 0, 0, 0, 0, 0, 0, 0⟩ } }
/-- A structure image that holds the sections given, as (type, block, bytes), after its section table (R21, R22). -/
def imageOf (secs : List (Nat × Nat × List Byte)) : List Byte :=
  let row (acc : List Byte × Nat) (e : Nat × Nat × List Byte) : List Byte × Nat :=
    (acc.1 ++ Bytes.ofNat 1 e.1 ++ Bytes.ofNat 1 e.2.1 ++ Bytes.ofNat 2 0 ++ Bytes.ofNat 4 acc.2 ++ Bytes.ofNat 4 e.2.2.length
      ++ Bytes.ofNat 4 0, acc.2 + e.2.2.length)
  Bytes.padTo (Bytes.padTo [] 15 ++ Bytes.ofNat 1 secs.length) 128 ++ (secs.foldl row ([], 128 + 16 * secs.length)).1
    ++ secs.flatMap fun e => e.2.2
/-- A state whose applied image holds the sections given. -/
def withImage (secs : List (Nat × Nat × List Byte)) (s : State) : State :=
  { s with sim := { s.sim with applied := some (imageOf secs) } }
/-- Every image block enabled on an active module with valid device time, 1,000 s after start. -/
def live : State := (asActive (later (withOn Blk.image))).setFld F.TIM_STATUS_VALID 1
/-- The same with the FULL STOP latch set. -/
def stopped : State := { live with aut := { live.aut with fsLatch := true, fcause := 5, tense := 3, rearmKey := some 999500000000 } }
/-- A change of AUT's state. -/
def withAut (f : AutSt → AutSt) (s : State) : State := { s with aut := f s.aut }
/-- A map of one segment, 100 m long from the origin to the east, and one zone of 4 by 4 cells of 1 m north of it (R43–R45). -/
def mapOne : List Byte :=
  Bytes.ofNat 4 1 ++ Bytes.ofNat 2 1 ++ Bytes.ofNat 2 0 ++ Bytes.ofNat 4 0 ++ Bytes.ofNat 4 24 ++ Bytes.ofNat 4 56 ++ Bytes.ofNat 4 72 ++
    Bytes.ofNat 4 0 ++ Bytes.ofNat 4 0 ++ Bytes.ofNat 4 100000 ++ Bytes.ofNat 4 0 ++ Bytes.ofNat 4 2500 ++ Bytes.ofNat 2 3000 ++ Bytes.ofNat 2 0 ++
    Bytes.ofNat 4 100000 ++ Bytes.ofNat 4 0 ++
    Bytes.ofNat 4 0 ++ Bytes.ofNat 4 10000 ++ Bytes.ofNat 2 1000 ++ Bytes.ofNat 2 4 ++ Bytes.ofNat 2 4 ++ Bytes.ofNat 2 0
/-- An active module with that map at clause time 600,000, machines 5 and 6 VALID with RADIUS_MM 1,000. -/
def site : State :=
  let s := withImage [(Sec.MAP, Blk.CLS, mapOne)] { live with tai := 600000000000 }
  (s.setRegB 5 R.CLS_MACH_DATA 0x008003E8#32).setRegB 6 R.CLS_MACH_DATA 0x008003E8#32
/-- A clause on the segment's first 50 m, of machine `mi`, from 590,000 to 700,000. -/
def clauseOn (mi : Nat) (current : Bool) : Clause := ⟨3, 590000, 700000, mi, 0, false, 0, 0, 50000, false, false, current, false, true, false⟩
/-- The site with such a clause at index 0. -/
def heldBy (mi : Nat) (current : Bool) : State :=
  { site with cls := { site.cls with clauses := [(0, clauseOn mi current)], chains := [(mi, [0])], freeNext := 1 } }
/-- The site with clauses of machines 5 and 6 in a follow entry. -/
def following : State :=
  { site with cls := { site.cls with
      clauses := [(0, { clauseOn 5 false with follow := true, t1 := 599000 }), (1, { clauseOn 6 false with follow := true })],
      chains := [(5, [0]), (6, [1])], freeNext := 2, follow := [(0, some ⟨3 * 2 ^ 18, 1 + 3 * 2 ^ 18, 500⟩)] } }
/-- A solution of machine 5 at (e, 0) with H3 100 mm, standing still. -/
def solAt (e : Int) : SolRec := ⟨5, 0, 2, false, false, 20, 600000, 40, 30, e, 0, 0, 0, 0, 0, 0, 100, 100, 100, 0, 0, 0, 1, 500, 10, 5, 30⟩
/-- The handle of index 0. -/
def h0 : Nat := 3 * 2 ^ 18
/-- The MODEMS section of a control modem 0 on channel 0 and a wide modem 1 of 20 MHz on wide channel 0. -/
def modemsTwo : List Byte :=
  Bytes.padTo (Bytes.ofNat 1 1 ++ Bytes.ofNat 3 0 ++ Bytes.ofNat 4 868000 ++ Bytes.ofNat 8 0 ++ Bytes.ofNat 1 2 ++ Bytes.ofNat 1 1 ++ Bytes.ofNat 2 0 ++
    Bytes.ofNat 4 2450000) 192
/-- An active module with these modems on a link that is UP; machine 7 at air address 0x107 is awake with grants on wide channel 0. -/
def onAir : State :=
  let s := withImage [(Sec.MODEMS, Blk.AIR, modemsTwo), (Sec.HEADS, Blk.RHL, Bytes.padTo [] 112)] { live with tai := 600000000000 }
  let s := { s with rhl := { s.rhl with links := [(0, { RhlLink.idle with state := 5 })] } }
  let s := ((s.setFldB 7 F.AIR_MACH_REG_VALID 1).setFldB 7 F.AIR_MACH_REG_ADDR 0x107).setFld F.AIR_MACH_IDX_MI 7
  let s := ((s.setFldB 3 F.AIR_SND_CFG_EN 1).setFldB 3 F.AIR_SND_CFG_ADDR 0xF003).setFldB 1 F.AIR_MOD_WIDE_DL_US 5000
  let m : AirMach := { AirMach.none with state := .awake, caps := 15, wch := 0, obs := ⟨2, 0, 0, 0, 600, 20⟩, rpt := ⟨1, 0, 1, 3, 600, 20⟩, bundleLen := 100, guard := 40 }
  { s with air := { s.air with mach := [(7, m)] }, keys := { s.keys with pairRoot := some 77, bgen := 1, root := some 99 } }
/-- What AIR keeps for machine 7, changed. -/
def mach7 (f : AirMach → AirMach) : State := { onAir with air := { onAir.air with mach := [(7, f (onAir.airM 7))] } }
/-- A frame. -/
def frameOf (ftype src : Nat) (dst : Option Nat) (payload : List Byte) (relayed late : Bool := false) : AirFrame :=
  ⟨ftype, 0, src, dst, 9, 1, 0, 0, relayed, late, false, payload⟩
/-- A structure image that passes R25: one empty POLICY section of UPD, unsigned, serial 77 (R21–R25). -/
def realImage : List Byte :=
  let body := Bytes.padTo (Bytes.ofNat 1 8 ++ Bytes.ofNat 1 Blk.UPD ++ Bytes.ofNat 2 0 ++ Bytes.ofNat 4 144 ++ Bytes.ofNat 4 0 ++ Bytes.ofNat 4 (crc32 [])) 16
  let head := imgMagic ++ Bytes.ofNat 2 1 ++ Bytes.ofNat 2 128 ++ Bytes.ofNat 4 256 ++ Bytes.ofNat 2 0x7160 ++ Bytes.ofNat 1 0 ++ Bytes.ofNat 1 1
    ++ Bytes.ofNat 4 77 ++ Bytes.ofNat 4 0 ++ Bytes.ofNat 8 63700000000 ++ Bytes.ofNat 32 0
  head ++ sha384 body ++ Bytes.ofNat 16 0 ++ body ++ Bytes.ofNat 112 0
/-- A running module with nothing enabled, and a change of its SIM. -/
def idleSim (f : SimSt → SimSt) : State := { State.reset with sim := f { State.reset.sim with startup := false } }
/-- Slot 0 holds the image and is the boot slot. -/
def flashed : State := { State.reset with nand := { State.reset.nand with slot0 := some realImage, slot1 := none, boot := 0 } }
/-- The image words of a command in `DSP_CMD0`–`DSP_CMD15`. -/
def withCmd (b : List Byte) (s : State) : State :=
  (List.range 16).foldl (fun s n => s.setReg (R.DSP_CMD + 4 * n) (BitVec.ofNat 32 (Bytes.at' b (4 * n) 4))) s
/-- An order in a state, of generation 1, assigned to a machine. -/
def orderIn (st : Nat) (mi : Option Nat) : Order := { Order.free with gen := 1, state := st, assigned := mi, cmask := 1, aff := 32768, body := [7#8] }
/-- On-air state with machine 7 taking orders and one order of handle 0x10000. -/
def work (o : Order) : State :=
  let s := onAir.setFldB 7 F.DSP_MACH_CFG_EN 1
  { s with dsp := { s.dsp with orders := [(0, o)], freeNext := 1 } }
/-- The handle word of that order, as a command image. -/
def onOrder (o : Order) : State := withCmd (Bytes.padTo (Bytes.ofNat 4 0x10000) 64) (work o)
/-- An order image for SUBMIT. -/
def orderImage : List Byte := Bytes.padTo (Bytes.padTo (Bytes.ofNat 4 0 ++ Bytes.ofNat 1 0 ++ Bytes.ofNat 1 5 ++ Bytes.ofNat 2 0 ++ Bytes.ofNat 2 32768 ++ Bytes.ofNat 2 1) 63 ++ Bytes.ofNat 1 1) 64
/-- A module whose thread 3 has a state, on core 0 with slice 10 and mask 1. -/
def withThread (st : Nat) (v : Thread) : State :=
  let s := ((live.setFldB 3 F.DSP_THR_CFG_STATE st).setFldB 3 F.DSP_THR_CFG_MASK 1).setFldB 3 F.DSP_THR_CFG_SLICE 10
  { s.setFld F.DSP_THR_IDX_THREAD 3 with dsp := { s.dsp with threads := if st = 0 then [] else [(3, v)] } }
/-- Two charging bays in use, a session open on bay 0. -/
def charging (s : State) (dsp : Nat) : State :=
  let s := (s.setFld (Blk.en Blk.DSP) dsp).setFldB 0 F.DMU_GRP_STAT_SESSION 1
  { s with dmu := { s.dmu with idle := [(0, 100)], m := { s.dmu.m with sessions := [(0, some ⟨0x10000, 7, 0, 0, 0, 0, true⟩)] } } }
/-- A METERING section with inputs 0 and 1 as the DC voltage and current of group 0, which is a bay (R394). -/
def meterOne : List Byte :=
  ([0#8, 7#8, 0#8, 0#8] ++ Bytes.ofNat 4 1000 ++ Bytes.ofNat 4 0) ++ ([0#8, 8#8, 0#8, 0#8] ++ Bytes.ofNat 4 500 ++ Bytes.ofNat 4 0)
    ++ (List.replicate 22 (255#8 :: List.replicate 11 0#8)).flatten ++ [3#8, 1#8, 0#8, 0#8] ++ List.replicate 60 0#8
/-- An active module that clocks DMU on that section. -/
def metered : State := withImage [(Sec.METERING, Blk.DMU, meterOne)] live
/-- A pulse output 2 with pulses pending. -/
def pulsing : State :=
  ((metered.setFldB 2 F.DMU_PO_CFG_EN 1).setFldB 2 F.DMU_PO_WEIGHT_WEIGHT_J 100).setPulse 2 ⟨5, 3, 0, false⟩
/-- A slot program: kind, flags, trigger, argument; coefficient 0 is 1, outputs within ±1,000. -/
def slotBytes (kind flags trig arg : Nat) : List Byte :=
  Bytes.ofNat 1 kind ++ Bytes.ofNat 1 flags ++ Bytes.ofNat 1 trig ++ [0#8] ++ Bytes.ofNat 4 0 ++ Bytes.ofNat 2 arg ++ Bytes.ofNat 2 0 ++
    Bytes.ofNat 4 1000 ++ Bytes.ofNat 4 1 ++ Bytes.ofNat 12 0 ++ Bytes.ofNat 4 4294966296 ++ Bytes.ofNat 4 1000 ++ Bytes.ofNat 4 4294967286 ++ Bytes.ofNat 4 10
/-- An active module whose slot 0 has that program; slot 0 is shown. -/
def looped (kind flags trig arg : Nat) : State := withImage [(Sec.LOOPS, Blk.LPE, slotBytes kind flags trig arg)] live
/-- The same with its update queue. -/
def queued (l : List LpeUpd) (s : State) : State := { s with lpe := { s.lpe with queue := l } }
/-- A GAP slot 0 beside a follow entry, at expert level. -/
def gapped : State :=
  { (looped 5 9 0 0).setFld F.LPE_CTRL_LEVEL 1 with cls := following.cls }
/-- A change of TIM's state. -/
def withTim (f : TimSt → TimSt) (s : State) : State := { s with tim := f s.tim }
/-- GRX has delivered a time solution. -/
def solved (v : TimeSol) (s : State) : State := { s with grx := { s.grx with sol := some v } }
/-- TIM disciplines, 15 ns off. -/
def steering : State := withTim (fun t => { t with mode := .disciplined, offset := 15, everValid := true, lastEpoch := some 0 }) live
/-- TIM holds over since 500 s, from an estimate of 250 ns. -/
def heldTime : State := withTim (fun t => { t with mode := .holdover, est0 := 250, estAt := 500000000000, everValid := true }) live
/-- A change of device time waits; a second began 600 ms ago. -/
def awaiting (p : TimPend) (offset : Int) (s : State) : State :=
  withTim (fun t => { t with pend := some p, offset, edge := some 999400000000 }) { s with tai := 5000000000 }
/-- Port 0 is a MASTER port on a link. -/
def master : State :=
  ((((live.setFld (Blk.en Blk.PTP) 1).setFldB 0 F.PTP_PORT_CFG_MODE 1).setFldB 0 F.PTP_PORT_STAT_STATE 6).setFldB 0 F.ETH_PORT_CFG_TX_EN 1).setFldB 0 F.ETH_PORT_STAT_LINK 1
/-- A PTP message of domain 0 from a clock that is not the module. -/
def ptpOf (k : PtpKind) (req : Nat := 0) (a : Option PtpAnnounce := none) : List Byte :=
  (⟨k, false, 0, 2 ^ 70 + 5, 9, 0, 3, 7000000005, req, a⟩ : PtpMsg).bytes
/-- The Announce of a clock of priority 1. -/
def goodClock : PtpAnnounce := ⟨6, 0x21, true, 0x20, 37, true, false, false, 1, 1⟩
/-- Both ports are TRANSPARENT, on links. -/
def bridge : State :=
  [0, 1].foldl (fun s p => ((s.setFldB p F.PTP_PORT_CFG_MODE 2).setFldB p F.ETH_PORT_CFG_TX_EN 1).setFldB p F.ETH_PORT_STAT_LINK 1)
    (live.setFld (Blk.en Blk.PTP) 1)
/-- A change of GRX's state. -/
def withGrx (f : GrxSt → GrxSt) (s : State) : State := { s with grx := f s.grx }
/-- SLV is off; a survey may run. -/
def unsolved : State := live.setFld (Blk.en Blk.SLV) 0
/-- An epoch of both antennas, on which no channel reports. -/
def epochMeas : RefMeas := ⟨⟨7, 10, 5, 3, [10, 20, 30]⟩, ⟨6, 10, 5, 3, [10, 20, 30]⟩, []⟩
/-- Clause time is 600,010: the sets of epoch 600,000 may be formed. -/
def atEpoch (s : State) : State := { s with tai := 600010000000, sim := { s.sim with applied := some (imageOf []) } }
/-- ANT_A's position is held. -/
def heldA : State := { live with nand := { live.nand with heldA := some [10, 1099511627776, -5] } }
/-- RTCM is on, with MSM4 of GPS, from ANT_A. -/
def rtcmLive : State :=
  (((heldA.setFld F.GRX_RTCM_EN 1).setFld F.GRX_RTCM_RING 9).setFld F.GRX_RTCM_MSM_GPS 1).setFld F.GRX_STATUS_REF_ANT 1
/-- Two pool channels of signal 1 on ANT_A, slots 3 to 6. -/
def pooled : State := withImage [(Sec.CHANNELS, Blk.GRX, [1#8, 0#8, 0#8, 0#8, 3#8, 0#8, 4#8, 0#8, 1#8, 0#8, 0#8, 0#8, 5#8, 0#8, 6#8, 0#8])] live
/-- Channel 0 of them holds GPS satellite 7. -/
def tracking (state : Nat) : State := pooled.setChan 0 { GrxChan.idle with state, svid := 7 }
/-- A navigation record of GPS satellite 7 on signal 1: a subframe. -/
def navOf (passed : Bool) (fec : Nat) (eph : Option NavEph) (utc : Option (Nat × Option (Nat × Bool))) : NavRec :=
  ⟨7, 1, 0, 1, passed, fec, 300, [], eph, [(7, 99)], none, utc⟩
/-- An ephemeris. -/
def eph5 (content : Nat) : NavEph := ⟨5, content, 0, 1000000, [1]⟩
/-- A set of ANT_A without satellites. -/
def ref1 (epoch : Nat) : RefEpoch := ⟨epoch, true, 1, [1, 2, 3], [], [], []⟩
/-- A change of SLV's state. -/
def withSlv (f : SlvSt → SlvSt) (s : State) : State := { s with slv := f s.slv }
/-- Lanes 0 and 1 serve machine epochs, lane 2 auxiliary streams; lane 0 is awake; machine 7 is registered; clause time is 600,000. -/
def lanesLive : State :=
  let s := withImage [(Sec.LANES, Blk.SLV, [1#8, 1#8, 3#8] ++ List.replicate 29 0#8)] { live with tai := 600000000000 }
  withSlv (fun v => { v with lanes := [(0, ⟨none, true, false, 0⟩)] })
    ((s.setFldB 7 F.SLV_MACH_CFG_VALID 1).setFldB 7 F.SLV_MACH_CFG_LINK_IN 1)
/-- A bundle of machine 7 with one satellite and one signal, epoch 600,000. -/
def bundleOf7 : List Byte :=
  [7#8, 0#8, 2#8, 1#8] ++ Bytes.ofNat 5 600000 ++ Bytes.ofNat 4 0 ++ [9#8, 1#8, 0#8] ++ [4#8, 0#8] ++ List.replicate 14 0#8
/-- A bundle of machine 7 in the intake, matched or not. -/
def b7 (matched : Option RefUse) : Bundle := ⟨7, 600000, false, false, 9, false, [], matched, none, false, false⟩
/-- RTCM 1077 of station 7 without satellites at the epoch of clause time 600,000, `more` to follow; and 1005 of the station. -/
def msm7 (more : Nat) : List Byte :=
  rtcmFrame (bitBytes [(12, 1077), (12, 7), (30, msmEpoch 0 600000 0), (1, more), (114, 0)])
def station7 : List Byte := rtcmFrame (bitBytes [(12, 1005), (12, 7), (10, 0), (38, 1), (2, 0), (38, 2), (2, 0), (38, 3)])
/-- Ring `r` is an IN ring of slots of 256 bytes that holds one entry. -/
def ringHolds (r : Nat) (b : List Byte) (s : State) : State :=
  let s := ((s.setFldB r F.HST_RING_CFG_EN 1).setFldB r F.HST_RING_CFG_DIR 1).setFldB r F.HST_RING_CFG_SLOT_LOG2 8
  (s.setRing r ⟨1, 0, false, 0⟩).bar2Write (s.slotAt r 0) (Bytes.ofNat 2 b.length ++ Bytes.ofNat 6 0 ++ b)
/-- Entry `n` of SLV_AUX_CFG takes from ring 3, an IN ring that holds a frame; its station is 7, and lane 2 is awake. -/
def streamed (n : Nat) (b : List Byte) : State :=
  let s := (lanesLive.setFldB n F.SLV_AUX_CFG_EN 1).setFldB n F.SLV_AUX_CFG_RING 3
  let s := if n = 4 then s else s.setFldB n F.SLV_AUX_CFG_STATION 7
  let s := withSlv (fun v => { v with lanes := [(0, ⟨none, true, false, 0⟩), (2, ⟨none, true, false, 0⟩)] }) s
  ringHolds 3 b s
/-- A single-frequency view of five GPS satellites and the reference's. -/
def obsG (clk : Int) : List Obs := (List.range 5).map fun i => obsOf 1 (i + 1) 200 (22000000000 + 1000 * i) 5 10 clk 30 false false
def reG : RefEpoch := ⟨600000, true, 1, [0, 0, 0], (List.range 5).map (fun i => ⟨i + 1, 4500 + 100 * i, true, some (3, 4)⟩), obsG 0, []⟩
/-- A matched bundle of machine 7 with the five, and without a common satellite. -/
def b7G (u : RefUse) (ref : Option RefEpoch) : Bundle := ⟨7, 600000, false, false, 9, false, obsG 5, some u, ref, false, false⟩
def reNone : RefEpoch := ⟨600000, true, 1, [0, 0, 0], [], [], []⟩
/-- Lane 0 works on an epoch of machine 7. -/
def solving (b : Bundle) : State := withSlv (fun v => { v with lanes := [(0, ⟨some b, true, false, 0⟩)] }) lanesLive
/-- The float solution of that epoch. -/
def floatG (u : RefUse) : FloatSol :=
  ((solving (b7G u (some reG))).slvFilter 7).float (solving (b7G u (some reG))).laneCfg (b7G u (some reG)) u.src reG
    (siteEnu (solving (b7G u (some reG))).siteOrigin reG.pos) |>.getD ⟨SlvFilter.fresh, [], [], false, false⟩
/-- Link 1 in a state, with answers awaited and delays measured; streams of the image rest. -/
def linked (state crcRun : Nat) (delays : List Nat) (answers : List (Nat × Nat)) : State :=
  { withImage [(Sec.HEADS, Blk.RHL, Bytes.padTo [] 112)] live with rhl := ⟨[(1, ⟨state, 999000000000, crcRun, delays, answers, none, 0⟩)], [], []⟩ }
/-- The same with stream 1 of link 1 running at 868 MHz. -/
def streaming (state : Nat) : State :=
  { withImage [(Sec.HEADS, Blk.RHL, Bytes.padTo (Bytes.padTo [] 40 ++ [1#8, 0#8, 0#8, 0#8] ++ Bytes.ofNat 4 868000) 112)] live with
    rhl := ⟨[(1, ⟨state, 999000000000, 0, [], [(3 + 256, 5)], none, 0⟩)], [], []⟩ }
/-- A STATUS payload: OP, STREAM, TAG, byte 4, what follows from byte 8. -/
def statusOf (op stream tag r : Nat) (rest : List Byte) : List Byte :=
  Bytes.padTo (Bytes.ofNat 1 op ++ Bytes.ofNat 1 stream ++ Bytes.ofNat 2 tag ++ Bytes.ofNat 4 r ++ rest) 16
/-- It as a block, and a block of samples of stream 1 at 9 ns. -/
def statusBlock (op stream tag r : Nat) (rest : List Byte) : List Byte := headBlock 3 0 0 (statusOf op stream tag r rest)
def iqOf (v : Int) : List Byte := headBlock 1 1 9 (Bytes.ofNat 2 (encodeSigned 16 v) ++ Bytes.ofNat 2 0)
/-- Header word and CRC of a block. -/
def headerOf (b : List Byte) : Nat := Bytes.toNat (b.take 4)
def crcOf (b : List Byte) : Nat := Bytes.toNat (b.drop (b.length - 4))
/-- Samples of one power have come on stream 1. -/
def heardAt (v : Nat) : State :=
  { streaming 5 with rhl := { (streaming 5).rhl with rx := [(strBank 1 1, ⟨some 9, 1, v * v⟩)] } }
/-- A change of AHN's state. -/
def withAhn (f : AhnSt → AhnSt) (s : State) : State := { s with ahn := f s.ahn }
/-- A heartbeat of slot `slot` in role `role`. -/
def hbOf (slot : Nat) (role : Role) : Heartbeat :=
  { slot, role, release := false, swapReq := false, swapTest := false, swapAck := false, swapNak := false, fault := false, pfw := false,
    eject := false, readyFlag := false, health := 15, pairTag := 0, pairId := 0, seq := 900, missRun := 0, ctrlUp := 0, mseqTx := 0,
    mseqAck := 0, stamp := 0, cause := 0 }
/-- A HELLO of slot 5. -/
def hello5 : Hello := ⟨5, 77, 0, 0, 0, 0, 0, 0⟩
/-- The module in slot 4 holds a role over a link with a current heartbeat. -/
def paired (own partner : Role) (slot : Nat) : State :=
  { withAhn (fun a => { a with role := own, linkUp := true, hbOk := true, hbAt := 999999000000, hb := some (hbOf slot partner), roleOut := own == .active }) live with
    pins := { live.pins with slotId := 4 } }
/-- The same with a pair root, and a heartbeat under its link key. -/
def keyedPair (own partner : Role) (slot : Nat) : State :=
  { paired own partner slot with keys := { live.keys with pairRoot := some 77, bgen := 1 }, pins := { live.pins with slotId := 4 } }
/-- The Warden holds nothing against a renewal of the active module. -/
def renewable : State :=
  { withAhn (fun a => { a with roleOut := true }) live with warden := { live.warden with fault := 0, selfTest := true } }
/-- A sealed block. -/
def block9 : TokenBlock := ⟨3, 0, 950, 1000, 250, 1, []⟩
/-- A change of the key store, in INTEGRATION with a root and nothing else. -/
def keyed (f : KeyStore → KeyStore) : State := { State.reset with keys := f { State.reset.keys with lc := 1, root := some 5, pairRoot := none, bgen := 0, imgKeys := [], seqStore := none } }
def pairKeys : State := keyed fun k => { k with pairRoot := some 9, bgen := 3 }
def ahnobUp (s : State) : State := { s with ahn := { s.ahn with linkUp := true } }
/-- An enrolment that has run for 70 s. -/
def enrolling (isNew : Bool) (peer : Option (List Byte)) (s : State) : State :=
  { s with mono := 70000000000, key := { s.key with enrol := some ⟨isNew, 0, 5, peer⟩ } }
/-- The partner's keys, its digest in `KEY_PEER`, and its signature over both. -/
def partnerPub : List Byte := octets [4, 40, 60, 29, 115, 101, 206, 71, 136, 242, 159, 142, 191, 35, 78, 223, 254, 173, 111, 233, 151, 251, 234, 95, 250, 45, 88, 204, 157, 250, 123, 28, 80, 139, 5, 82, 111, 85, 185, 235, 178, 4, 15, 5, 180, 143, 182, 208, 225, 148, 117, 201, 144, 97, 228, 27, 136, 186, 82, 239, 219, 140, 22, 144, 71, 26, 97, 216, 103, 237, 121, 151, 41, 217, 201, 44, 208, 29, 189, 34, 86, 48, 216, 78, 222, 50, 167, 143, 158, 100, 102, 76, 218, 197, 18, 239, 140]
def partnerEph : List Byte := octets [4, 9, 144, 86, 226, 125, 167, 185, 152, 218, 30, 238, 194, 144, 72, 22, 197, 127, 233, 53, 237, 88, 55, 195, 116, 86, 201, 253, 20, 137, 45, 63, 140, 71, 73, 182, 110, 58, 251, 129, 214, 38, 53, 111, 59, 85, 180, 221, 216, 46, 76, 12, 35, 78, 48, 171, 150, 104, 133, 5, 84, 74, 197, 224, 57, 111, 196, 238, 216, 223, 195, 99, 253, 67, 255, 147, 244, 27, 82, 163, 37, 84, 102, 213, 18, 99, 170, 255, 53, 125, 93, 186, 129, 56, 197, 224, 187]
def partnerSig : List Byte := octets [231, 188, 92, 59, 30, 202, 241, 170, 27, 159, 217, 171, 65, 244, 229, 158, 19, 28, 241, 240, 209, 188, 103, 98, 63, 135, 31, 240, 249, 191, 50, 150, 171, 198, 252, 47, 0, 245, 218, 175, 91, 234, 122, 182, 151, 186, 103, 165, 222, 79, 47, 190, 134, 166, 186, 167, 181, 249, 196, 108, 55, 166, 62, 206, 201, 127, 70, 18, 16, 65, 61, 35, 252, 183, 175, 175, 141, 125, 190, 181, 136, 231, 191, 153, 4, 55, 100, 249, 252, 132, 8, 245, 44, 233, 60, 95]
def peerKnown (s : State) : State :=
  (List.range 12).foldl (fun s n => s.setReg (R.KEY_PEER + 4 * n) (BitVec.ofNat 32 (Bytes.at' (sha384 partnerPub) (4 * n) 4))) s
/-- Sixteen bytes wrapped for the module's key 5 and the partner's. -/
def wrappedRoot : List Byte := octets [154, 21, 216, 59, 252, 169, 201, 110, 252, 6, 109, 241, 31, 11, 187, 145, 13, 138, 85, 76, 114, 173, 38, 66]
/-- The first life-cycle key given at 1 s. -/
def keyGiven (n : Nat) (s : State) : State := { s with mono := 1500000000, key := { s.key with lcKey1 := some (n, 1000000000) } }
/-- A firmware image of 264 bytes, unsigned, for serial 77 (R422). -/
def fwSmall (rollback : Nat) : List Byte :=
  let body := Bytes.ofNat 8 7
  Bytes.ofNat 4 0x5746424E ++ Bytes.ofNat 2 1 ++ Bytes.ofNat 2 0x7160 ++ Bytes.ofNat 2 0 ++ Bytes.ofNat 2 rollback ++ Bytes.ofNat 4 0 ++ Bytes.ofNat 8 77 ++
    Bytes.ofNat 4 264 ++ Bytes.ofNat 4 0 ++ sha384 body ++ Bytes.ofNat 176 0 ++ body
/-- UPD enabled on a module of serial 77 in MANUFACTURE, and a change of its firmware store. -/
def fwOn (f : FwStore → FwStore) : State :=
  let s := (withOn [Blk.UPD, Blk.AHN]).setReg R.GLB_SERIAL_LO 77#32
  { (s.setReg R.UPD_TOTAL 264#32) with keys := { s.keys with lc := 0 }, fw := f ⟨some (fwSmall 4), some (fwSmall 6), none, [], none, false, 2, false, 0, false⟩ }
/-- A planned swap towards a slot at 10 ms. -/
def swapping (at' : Nat) : State := { asActive (fwOn id) with mono := at', ahn := { (asActive State.reset).ahn with swap := some ⟨1, 10000000, false⟩ } }
def readyPartner (s : State) : State := { s with ahn := { s.ahn with hbOk := true, linkUp := true, hb := some ⟨0, .ready, false, false, false, false, false, false, false, false, false, 0, 0, 0, 0, 0, 0, 0, 0, 0, 0⟩ } }
/-- Machine 3 in quarantine until `validNs` is 100. -/
def quarantineAt (n : Nat) : State := { State.reset with nand := { State.reset.nand with quarantine := [(3, some 100)], validNs := n } }
/-- A host link with MSI-X and bus mastering on, vector 5 written and unmasked. -/
def hostUp : State :=
  let s := ((State.reset.setFld F.HST_STATUS_LINK_UP 1).setFld F.HST_STATUS_BME 1).setFld F.HST_STATUS_MSIX_EN 1
  let s := ((s.setReg (R.HST_MSIX + 80) 0x1000#32).setReg (R.HST_MSIX + 88) 7#32).setFld (maskFld 5) 0
  { s with evt := { s.evt with fresh := [(5, true)] }, mono := 5000000000 }
/-- Event 240 routed to vector 5. -/
def routed : State := ((hostUp.setFldB 240 F.EVT_ROUTE_REC_EN 0).setFldB 240 F.EVT_ROUTE_HOST_EN 1).setFldB 240 F.EVT_ROUTE_VEC 5
/-- Ring 4 enabled at offset 1 MiB: 16 slots of 128 bytes. -/
def ringOn (dir : Nat) (g : Ring) : State :=
  let s := ((State.reset.setFldB 4 F.HST_RING_BASE_BASE 256).setFldB 4 F.HST_RING_CFG_SLOT_LOG2 7).setFldB 4 F.HST_RING_CFG_DIR dir
  (s.setFldB 4 F.HST_RING_CFG_EN 1).setRing 4 g
/-- The word of a ring's configuration: EN, SLOT_LOG2, LOG2_COUNT, DIR, MODE. -/
def ringWord (slot cnt dir mode : Nat) : Word :=
  F.HST_RING_CFG_MODE.put (F.HST_RING_CFG_DIR.put (F.HST_RING_CFG_LOG2_COUNT.put (F.HST_RING_CFG_SLOT_LOG2.put (F.HST_RING_CFG_EN.put 0#32 1) slot) cnt) dir) mode
/-- XQ enabled with two queues connected, the second one of packets. -/
def queuesOn (q : Nat) (expert : Bool) (x : XQueue) : State :=
  let s := withImage [(Sec.QUEUES, Blk.XQ, [1#8, 4#8, 0#8, 5#8, 4#8, 0#8, 0#8, 0#8, 2#8, 4#8, 0#8, 6#8, 4#8, 2#8, 0#8, 0#8])] (withOn [Blk.XQ])
  ((s.setFld (Blk.level Blk.XQ) (b2n expert)).setFld F.XQ_Q_IDX_QUEUE q).setXq q x
/-- ETH0 with its link up and its transmitter on, its address 10.0.0.1; rule 2 takes EtherType 0x1234 to LOCAL ring 4. -/
def ethUp (s : State) : State :=
  let s := ((s.setFldB 0 F.ETH_PORT_STAT_LINK 1).setFldB 0 F.ETH_PORT_CFG_TX_EN 1).setFldB 0 F.ETH_IP_IPV4 0x0A000001
  let s := (s.setFldB 2 F.ETH_RULE_MATCH_ETYPE 0x1234).setFldB 2 F.ETH_RULE_ACT_RING 4
  (s.setFldB 2 F.ETH_RULE_ACT_PORTS 1).setFldB 2 F.ETH_RULE_ACT_EN 1
/-- A frame of 60 bytes to ETH0 (its MAC is 0 in reset) with EtherType `t` and body `b`. -/
def ethFrameOf (t : Nat) (b : List Byte) : List Byte := Bytes.padTo (List.replicate 12 0#8 ++ beBytes 2 t ++ b) 60
def arpBody : List Byte := beBytes 2 1 ++ beBytes 2 0x0800 ++ [6#8, 4#8] ++ beBytes 2 1 ++ List.replicate 6 2#8 ++ beBytes 4 0x0A000002 ++ List.replicate 6 0#8 ++ beBytes 4 0x0A000001
/-- A logbook record, and a state whose logbook holds some in NAND and in the buffer. -/
def logRec (n : Nat) : LogRec :=
  { block := Blk.LOG, kind := 1, lseq := n, hours := 1, pcyc := 1, evno := 48, sec := 0, ms := 0, rtcTime := true, active := false, arg := 0, rep := 0, payload := [] }
def logged (f : LogSt → LogSt) : State := { State.reset with mono := 200000000000, log := f { State.reset.log with next := 9, circ := [[logRec 3]], perm := [logRec 3] } }

/-! ## Witnesses, one for each clause of a statement -/

/-- Clauses of `StepRunsFrontCommand` are met by concrete states. -/
theorem test_witness_step_runs_front_command :
    ((fun (c : Instr) (rest : List Instr) (s : State) => decide (s.pending = c :: rest)) .kick [] { State.reset with pending := [.kick] }) = true := by decide +kernel

/-- Clauses of `EmptyQueueIdles` are met by concrete states. -/
theorem test_witness_empty_queue_idles :
    ((fun (s : State) => decide (s.pending = [])) State.reset) = true := by decide +kernel

/-- Clauses of `ResetHoldsEverything` are met by concrete states. -/
theorem test_witness_reset_holds_everything :
    ((fun (c : Instr) (s : State) => decide (s.running = false ∧ actsInReset c = false)) .kick (inPhase .held State.reset)) = true := by decide +kernel

/-- Clauses of `ResetSources` are met by concrete states. -/
theorem test_witness_reset_sources :
    ((fun (s : State) => decide (s.keys.lc < 2)) State.reset &&
    (fun (s : State) => decide (2 ≤ s.keys.lc)) { State.reset with keys := { State.reset.keys with lc := 2 } } &&
    (fun (s : State) (k : Nat) => decide (s.running = true ∧ s.rst.key1 = some k ∧ s.mono ≤ k + 100000000)) { later State.reset with rst := ⟨.running, some 999900000000, none⟩ } 999900000000) = true := by decide +kernel

/-- Clauses of `LoaderAndRelease` are met by concrete states. -/
theorem test_witness_loader_and_release :
    ((fun (s : State) (o : OptRec) => decide (s.rst.phase = .loading ∧ s.bkp.strikes < 3 ∧ s.optA = some o)) { inPhase .loading State.reset with optA := some ⟨7, 1, 2, true, 42000⟩ } ⟨7, 1, 2, true, 42000⟩ &&
    (fun (s : State) (o : OptRec) => decide (s.rst.phase = .loading ∧ s.bkp.strikes < 3 ∧ s.optA = none ∧ s.optB = some o)) { inPhase .loading State.reset with optA := none, optB := some ⟨7, 0, 0, false, 43000⟩ } ⟨7, 0, 0, false, 43000⟩ &&
    (fun (s : State) => decide (s.rst.phase = .loading ∧ s.bkp.strikes < 3 ∧ s.optA = none ∧ s.optB = none)) { inPhase .loading State.reset with optA := none, optB := none } &&
    (fun (s : State) => decide (s.rst.phase = .loading ∧ 3 ≤ s.bkp.strikes)) { inPhase .loading State.reset with bkp := { State.reset.bkp with strikes := 3 } } &&
    (fun (s : State) => decide (s.rst.phase = .releasing)) { inPhase .releasing State.reset with bkp := { State.reset.bkp with lost := true, strikes := 1 } } &&
    (fun (s : State) => decide (s.rst.phase = .tripped)) (inPhase .tripped State.reset) &&
    (fun (s : State) => decide (s.rst.phase = .held ∧ s.pins.p12v = true ∧ s.pins.presentLow = true)) (inPhase .held State.reset) &&
    (fun (s : State) => decide (s.rst.phase = .held ∧ s.pins.p12v = true ∧ s.pins.resetLow = false)) (inPhase .held State.reset)) = true := by decide +kernel

/-- Clauses of `PowerFailAndRemoval` are met by concrete states. -/
theorem test_witness_power_fail_and_removal :
    ((fun (s : State) => decide (s.running = true ∧ s.pins.p12v = true)) (withStandby (asActive (later (withOn Blk.image)))) &&
    (fun (s : State) => decide (s.running = true ∧ s.pins.p12v = false)) { later State.reset with pins := { State.reset.pins with p12v := false } } &&
    (fun (s : State) => decide (s.running = true ∧ s.hpg.ejectAt = none)) (asActive (withOn [Blk.AHN])) &&
    (fun (s : State) (k : Nat) => decide (s.running = true ∧ s.hpg.ejectAt = some k ∧ s.removalReady = false)) (({ later State.reset with hpg := ⟨some 0, false⟩ }).setFld F.HPG_STATUS_EJECT 1) 0 &&
    (fun (s : State) (k : Nat) => decide (s.running = true ∧ s.hpg.ejectAt = some k ∧ s.removalReady = true)) (({ later State.reset with hpg := ⟨some 0, false⟩ }).setFld F.HPG_STATUS_STATE 2) 0 &&
    (fun (s : State) (k : Nat) => decide (s.running = true ∧ s.hpg.ejectAt = some k ∧ s.removalReady = false ∧ k + s.fld F.HPG_CFG_QUIESCE_MS * 1000000 ≤ s.mono)) { State.reset with mono := 80000000, hpg := ⟨some 0, false⟩ } 0 &&
    (fun (s : State) => decide (s.hpg.ejectAt ≠ none)) { later State.reset with hpg := ⟨some 0, false⟩ } &&
    (fun (s : State) => decide (s.pins.p12v = true)) State.reset &&
    (fun (s : State) => decide (s.running = true ∧ (∀ k, s.pwr.lastHot = some k → k + 60000000000 ≤ s.mono))) { State.reset with mono := 60000000000, pwr := { State.reset.pwr with lastHot := some 0 } } &&
    (fun (s : State) (k : Nat) => decide (s.running = true ∧ s.pwr.lastHot = some k ∧ s.mono < k + 60000000000)) { State.reset with mono := 59999999999, pwr := { State.reset.pwr with lastHot := some 0 } } 0) = true := by decide +kernel

/-- Clauses of `LeaveArbiter` are met by concrete states. -/
theorem test_witness_leave_arbiter :
    ((fun (s : State) (w : Word) => decide (s.running = true ∧ s.flag F.PWR_HOST_LEAVE_GRANTED = false ∧ F.PWR_HOST_LEAVE_MW.get w ≠ 0 ∧ (F.PWR_HOST_LEAVE_CLASS.get w = 1 ∨ F.PWR_HOST_LEAVE_CLASS.get w = 2) ∧ s.committed + F.PWR_HOST_LEAVE_MW.get w ≤ s.budget)) State.reset (0x40000000#32 + 5000#32) &&
    (fun (s : State) (w : Word) => decide (s.running = true ∧ s.flag F.PWR_HOST_LEAVE_GRANTED = false ∧ F.PWR_HOST_LEAVE_MW.get w ≠ 0 ∧ F.PWR_HOST_LEAVE_CLASS.get w = 2 ∧ s.budget < s.committed + F.PWR_HOST_LEAVE_MW.get w)) State.reset (0x40000000#32 + 65535#32) &&
    (fun (s : State) (w : Word) => decide (s.running = true ∧ s.flag F.PWR_HOST_LEAVE_GRANTED = true ∧ F.PWR_HOST_LEAVE_MW.get w = 0)) (State.reset.setReg R.PWR_HOST_LEAVE 0xC0001000#32) 0#32 &&
    (fun (s : State) (w : Word) => decide (s.running = true ∧ 18000 ≤ F.PWR_BUDGET_BUDGET_MW.get w ∧ F.PWR_BUDGET_BUDGET_MW.get w ≤ 46000 ∧ F.PWR_BUDGET_HEADROOM_MW.get w ≤ 10000 ∧ s.committed ≤ F.PWR_BUDGET_BUDGET_MW.get w)) State.reset 0x27104650#32 &&
    (fun (s : State) (w : Word) => decide (s.running = true ∧ 18000 ≤ F.PWR_BUDGET_BUDGET_MW.get w ∧ F.PWR_BUDGET_BUDGET_MW.get w ≤ 46000 ∧ F.PWR_BUDGET_HEADROOM_MW.get w ≤ 10000 ∧ F.PWR_BUDGET_BUDGET_MW.get w < s.committed ∧ s.flag F.PWR_STATUS_OVER = false)) (State.reset.setReg R.PWR_HOST_LEAVE 0xC000C350#32) 0x00004650#32 &&
    (fun (s : State) (l : Nat) => decide (s.running = true ∧ s.blkOn Blk.SLV = true ∧ s.lanesWanted.contains l = true ∧ s.lanesBase.contains l = false ∧ (s.lane l).awake = false ∧ s.committed + 450 ≤ s.budget)) (asActive (withImage [(Sec.LANES, Blk.SLV, List.replicate 32 1#8)] { withOn [Blk.SLV] with slv := { State.reset.slv with awakeWant := 20 } })) 12) = true := by decide +kernel

/-- Clauses of `MaintenanceAndWholeTests` are met by concrete states. -/
theorem test_witness_maintenance_and_whole_tests :
    ((fun (s : State) (u : TestUnit) (i : Nat) => decide (s.running = true ∧ s.flag F.PWR_TEST_AUTO = true ∧ s.testIdle = true ∧ s.pwr.lastTest + s.fld F.PWR_TEST_PERIOD_S * 1000000000 ≤ s.mono ∧ rotationUnit s.pwr.rotation = (u, i) ∧ i < 512 ∧ s.testBar u i = 0 ∧ s.committed + u.mw + s.fld F.PWR_BUDGET_HEADROOM_MW ≤ s.budget)) (later State.reset) .lane 0 &&
    (fun (s : State) (u : TestUnit) (i : Nat) => decide (s.running = true ∧ s.flag F.PWR_TEST_AUTO = true ∧ s.testIdle = true ∧ s.pwr.lastTest + s.fld F.PWR_TEST_PERIOD_S * 1000000000 ≤ s.mono ∧ rotationUnit s.pwr.rotation = (u, i) ∧ s.testBar u i ≠ 0)) (asActive (withImage [(Sec.MODEMS, Blk.AIR, [1#8])] { later State.reset with pwr := { State.reset.pwr with rotation := 32 } })) .modem 0 &&
    (fun (s : State) (m : MaintTest) => decide (s.running = true ∧ s.pwr.test = some m)) { later State.reset with pwr := { State.reset.pwr with test := some ⟨.lane, 3, 450, 5⟩ } } ⟨.lane, 3, 450, 5⟩ &&
    (fun (s : State) (m : MaintTest) => decide (s.running = true ∧ s.pwr.test = some m)) { later State.reset with pwr := { State.reset.pwr with test := some ⟨.channel, 3, 50, 5⟩ } } ⟨.channel, 3, 50, 5⟩ &&
    (fun (s : State) => decide (s.running = true ∧ s.pwr.whole = .idle ∧ s.isActive = true ∧ s.partnerStandby = true)) (withStandby (asActive State.reset)) &&
    (fun (s : State) => decide (s.running = true ∧ s.pwr.whole = .idle ∧ s.isActive = true ∧ s.partnerStandby = false ∧ s.flag F.PWR_TEST_FORCE = false)) (asActive State.reset) &&
    (fun (s : State) => decide (s.running = true ∧ s.pwr.whole = .idle ∧ s.isActive = true ∧ s.partnerStandby = false ∧ s.flag F.PWR_TEST_FORCE = true)) ((asActive (withOn [Blk.AUT])).setFld F.PWR_TEST_FORCE 1) &&
    (fun (s : State) => decide (s.running = true ∧ s.pwr.whole = .idle ∧ s.isActive = false ∧ s.isStandby = false)) State.reset &&
    (fun (s : State) (k : Nat) => decide (s.running = true ∧ s.pwr.whole = .waitSecond k ∧ k + 1000000000 ≤ s.mono)) { State.reset with mono := 1000000000, pwr := { State.reset.pwr with whole := .waitSecond 0 } } 0 &&
    (fun (s : State) (failed : List (Nat × Nat)) => decide (s.running = true ∧ s.pwr.whole = .running)) { State.reset with pwr := { State.reset.pwr with whole := .running }, aut := { State.reset.aut with commaTest := true } } [(1, 3)] &&
    (fun (s : State) (m : MaintTest) => decide (s.running = true ∧ s.pwr.test = some m)) { later State.reset with pwr := { State.reset.pwr with test := some ⟨.queue, 3, 20, 5⟩ } } ⟨.queue, 3, 20, 5⟩) = true := by decide +kernel

/-- Clauses of `OptionStoreCommands` are met by concrete states. -/
theorem test_witness_option_store_commands :
    ((fun (s : State) => decide (s.running = true ∧ s.rst.optWrite = none ∧ s.keys.lc < 2 ∧ s.nandStopped = false ∧ s.fld F.RST_OPT_SRC_OFFSET * 8 + 8192 ≤ bar2Size)) State.reset &&
    (fun (s : State) => decide (s.running = true ∧ s.rst.optWrite = none ∧ 2 ≤ s.keys.lc)) { State.reset with keys := { State.reset.keys with lc := 2 } } &&
    (fun (s : State) => decide (s.running = true ∧ s.rst.optWrite = none ∧ s.keys.lc < 2 ∧ s.fld F.RST_OPT_SRC_OFFSET * 8 + 8192 ≤ bar2Size ∧ optParse (s.bar2Read (s.fld F.RST_OPT_SRC_OFFSET * 8) 8192) = none)) State.reset &&
    (fun (s : State) (o : OptRec) => decide (s.running = true ∧ s.rst.optWrite = some o)) { State.reset with rst := ⟨.running, none, some ⟨5, 6, 7, true, 20000⟩⟩ } ⟨5, 6, 7, true, 20000⟩ &&
    (fun (s : State) => decide (s.running = true ∧ s.rst.optWrite = none)) { State.reset with bkp := { State.reset.bkp with strikes := 2 } } &&
    (fun (s : State) => decide (s.running = true)) (later State.reset) &&
    (fun (s : State) (k : Nat) => decide (s.running = true ∧ s.rst.key1 = some k ∧ k + 100000000 < s.mono)) { later State.reset with rst := ⟨.running, some 0, none⟩ } 0) = true := by decide +kernel

/-- Clauses of `FullStopSources` are met by concrete states. -/
theorem test_witness_full_stop_sources :
    ((fun (s : State) (b : Bool) => decide (s.works Blk.AUT ∧ s.aut.fsLatch = false)) live true &&
    (fun (s : State) (b : Bool) => decide (s.works Blk.AUT ∧ s.aut.fsLatch = true)) stopped false &&
    (fun (s : State) (b : Bool) => decide (s.works Blk.AUT)) stopped true &&
    (fun (s : State) => decide (s.works Blk.AUT ∧ s.aut.fsLatch = false ∧ s.pins.stopALow ≠ s.pins.stopBLow)) { live with pins := { live.pins with stopALow := true } } &&
    (fun (s : State) => decide (s.works Blk.AUT ∧ s.pins.stopALow = false ∧ s.pins.stopBLow = false)) live &&
    (fun (s : State) => decide (s.works Blk.AUT ∧ s.isStandby = false ∧ s.flag F.AUT_DISC_RELEASED = true)) (live.setReg R.AUT_DISC 3#32) &&
    (fun (s : State) => decide (s.works Blk.AUT ∧ s.isStandby = false ∧ s.flag F.AUT_DISC_RELEASED = false)) (live.setReg R.AUT_DISC 1#32) &&
    (fun (s : State) => decide (s.works Blk.AUT ∧ s.aut.fsLatch = false ∧ s.flag F.AUT_FSTOP_HOST = false)) live &&
    (fun (s : State) => decide (s.works Blk.AUT)) (stopped.setFld F.AUT_FSTOP_HOST 1)) = true := by decide +kernel

/-- Clauses of `CommaSources` are met by concrete states. -/
theorem test_witness_comma_sources :
    ((fun (s : State) => decide (s.works Blk.AUT ∧ s.flag F.AUT_COMMA_PIN_EN = true ∧ s.aut.commaPin = false)) live &&
    (fun (s : State) => decide (s.works Blk.AUT ∧ s.expert Blk.AUT = false ∧ s.aut.commaPin = true)) (withAut (fun a => { a with commaPin := true, tense := 2, ccause := 0x10 }) live) &&
    (fun (s : State) => decide (s.works Blk.AUT ∧ s.expert Blk.AUT = true)) (live.setFld F.AUT_CTRL_LEVEL 1) &&
    (fun (s : State) => decide (s.works Blk.AUT ∧ s.isStandby = false ∧ 1000 ≤ s.fld F.AUT_COMMA_REARM_HOLD_MS ∧ s.fld F.AUT_COMMA_REARM_HOLD_MS ≤ 60000)) live &&
    (fun (s : State) => decide (s.works Blk.AUT ∧ s.isStandby = false ∧ 1000 ≤ s.fld F.AUT_COMMA_REARM_HOLD_MS ∧ s.fld F.AUT_COMMA_REARM_HOLD_MS ≤ 60000)) (live.setFld F.AUT_COMMA_HOST 1) &&
    (fun (s : State) => decide (s.works Blk.AUT ∧ s.isStandby = false ∧ s.expert Blk.AUT = true ∧ 1000 ≤ s.fld F.AUT_COMMA_REARM_HOLD_MS ∧ s.fld F.AUT_COMMA_REARM_HOLD_MS ≤ 60000 ∧ s.pins.commaLow = false)) (withAut (fun a => { a with commaPin := true, commaRearm := true, tense := 2 }) (live.setFld F.AUT_CTRL_LEVEL 1)) &&
    (fun (s : State) => decide (s.works Blk.AUT ∧ s.isStandby = false ∧ s.refTooOld = true ∧ s.aut.commaAge = false)) live &&
    (fun (s : State) (k : Nat) => decide (s.works Blk.AUT ∧ s.isStandby = false ∧ s.expert Blk.AUT = false ∧ s.aut.commaAge = true ∧ s.refTooOld = false ∧ s.aut.ageOkSince = some k ∧ k + s.fld F.AUT_AGE_RESUME_MS * 1000000 ≤ s.mono)) (withAut (fun a => { a with commaAge := true, tense := 2, refAt := some 999999000000, ageOkSince := some 0 }) live) 0) = true := by decide +kernel

/-- Clauses of `RearmRules` are met by concrete states. -/
theorem test_witness_rearm_rules :
    ((fun (s : State) => decide (s.works Blk.AUT)) stopped &&
    (fun (s : State) (k : Nat) => decide (s.works Blk.AUT ∧ s.aut.rearmKey = some k ∧ s.mono ≤ k + 1000000000 ∧ s.aut.rearmVoid = false ∧ s.fsLasting = false ∧ s.warden.fault = 0 ∧ s.isActive = true ∧ s.timeValid = true)) stopped 999500000000 &&
    (fun (s : State) (k : Nat) => decide (s.works Blk.AUT ∧ s.aut.rearmKey = some k ∧ s.mono ≤ k + 1000000000 ∧ (s.fsLasting = true ∨ s.warden.fault ≠ 0 ∨ s.isActive = false ∨ s.timeValid = false))) { stopped with pins := { stopped.pins with stopALow := true } } 999500000000 &&
    (fun (s : State) => decide (s.works Blk.AUT ∧ s.aut.rearmVoid = true)) (withAut (fun a => { a with rearmVoid := true, rearmKey := none }) stopped) &&
    (fun (s : State) (k : Nat) => decide (s.works Blk.AUT ∧ s.aut.rearmKey = some k ∧ k + 1000000000 ≤ s.mono)) (withAut (fun a => { a with rearmKey := some 999000000000 }) stopped) 999000000000 &&
    (fun (s : State) => decide (s.works Blk.AUT ∧ s.aut.commaRearm = true ∧ s.expert Blk.AUT = false ∧ s.isStandby = false ∧ s.aut.rearmAt + s.fld F.AUT_COMMA_REARM_HOLD_MS * 1000000 ≤ s.mono)) (withAut (fun a => { a with commaRearm := true, tense := 2, rearmAt := 997000000000 }) live) &&
    (fun (s : State) => decide (s.running = true)) live) = true := by decide +kernel

/-- Clauses of `TokenBlocks` are met by concrete states. -/
theorem test_witness_token_blocks_1 :
    ((fun (s : State) => decide (s.works Blk.AUT ∧ s.isActive = true ∧ s.fleetState = Tense.RUN ∧ s.permit = false)) live &&
    (fun (s : State) => decide (s.works Blk.AUT ∧ s.isActive = true ∧ (s.fleetState ≠ Tense.RUN ∨ s.permit = true))) (withAut (fun a => { a with seq := 2048 }) stopped) &&
    (fun (s : State) (r : StopRepeat) => decide (s.works Blk.AUT ∧ s.airTransmits = true ∧ s.aut.stopRepeats = [r] ∧ r.bi < s.biCount ∧ s.biCount ≤ r.bi + 2 ∧ r.last < s.biCount ∧ (s.controlUp.any fun m => decide (max 25000000 (s.quietNs m) ≤ s.biPos)) = true)) { withAut (fun a => { a with stopRepeats := [⟨3, 1, 7, 11999, 11999, frameOf 2 onAir.airAddr none (Bytes.ofNat 16 0), []⟩] }) onAir with tai := 600030000000 } ⟨3, 1, 7, 11999, 11999, frameOf 2 onAir.airAddr none (Bytes.ofNat 16 0), []⟩ &&
    (fun (s : State) (w : Word) => decide (s.works Blk.AUT ∧ s.isStandby = false ∧ (∀ i ∈ List.range 2048, 64 * F.AUT_LIFE_COVER.get w ≤ i → s.machValid i = false) ∧ 100 ≤ F.AUT_LIFE_LIFETIME_MS.get w ∧ F.AUT_LIFE_LIFETIME_MS.get w ≤ 1000 ∧ 1 ≤ F.AUT_LIFE_COVER.get w ∧ F.AUT_LIFE_COVER.get w ≤ 32)) (live.setFldB 447 F.CLS_MACH_DATA_VALID 1) 0x000703E8#32 &&
    (fun (s : State) (w : Word) (mi : Nat) => decide (s.works Blk.AUT ∧ s.isStandby = false ∧ mi < 2048 ∧ 64 * F.AUT_LIFE_COVER.get w ≤ mi ∧ s.machValid mi = true)) (live.setFldB 448 F.CLS_MACH_DATA_VALID 1) 0x000703E8#32 448) = true := by decide +kernel

/-- Clauses of `TokenBlocks` are met by concrete states. -/
theorem test_witness_token_blocks_2 :
    ((fun (s : State) => decide (s.running = true)) (withAut (fun a => { a with lastSeq := 0x123456789ABC }) live)) = true := by decide +kernel

/-- Clauses of `RevocationAndRecords` are met by concrete states. -/
theorem test_witness_revocation_and_records :
    ((fun (s : State) (mi : Nat) => decide (s.works Blk.AUT ∧ s.isStandby = false ∧ mi < 2048 ∧ (s.autMach mi).revoked = 0)) live 2047 &&
    (fun (s : State) (mi : Nat) => decide (s.works Blk.AUT ∧ s.isStandby = false ∧ mi < 2048 ∧ (s.autMach mi).revoked ≠ 0)) (live.setAutMach 0 ⟨1, false, false, none, 0, 0, 0⟩) 0 &&
    (fun (s : State) (mi : Nat) (r : AuthRec) => decide (s.works Blk.AUT ∧ s.isStandby = false ∧ (s.autMach mi).record = some r ∧ (s.autMach mi).written + s.fld F.AUT_REC_REPEAT_MS * 1000000 ≤ s.tai)) { live.setAutMach 9 ⟨0, false, false, some ⟨9, 0, false, false, false, 0, 0, 5, -7, 900, 0, 0, 0, 3⟩, 4000, 0, 1⟩ with tai := 600000000 } 9 ⟨9, 0, false, false, false, 0, 0, 5, -7, 900, 0, 0, 0, 3⟩ &&
    (fun (s : State) (v : AutMach) (q e w : Nat) => decide (v.revoked = 1)) live ⟨1, true, true, none, 0, 0, 0⟩ 3 0 9 &&
    (fun (s : State) (v : AutMach) (q e w : Nat) => decide (v.revoked = 2)) live ⟨2, true, true, none, 0, 0, 0⟩ 3 0 9 &&
    (fun (s : State) (v : AutMach) (q e w : Nat) => decide (v.revoked = 0 ∧ v.wait = true)) live ⟨0, true, true, none, 0, 0, 0⟩ 3 0 9 &&
    (fun (s : State) (v : AutMach) (q e w : Nat) => decide (v.revoked = 0 ∧ v.wait = false ∧ v.noClause = true)) live ⟨0, false, true, none, 0, 0, 0⟩ 3 0 9 &&
    (fun (s : State) (v : AutMach) (e w : Nat) => decide (v.revoked = 0 ∧ v.wait = false ∧ v.noClause = false)) live ⟨0, false, false, none, 0, 0, 0⟩ 0 9 &&
    (fun (s : State) (v : AutMach) (q e w : Nat) => decide (v.revoked = 0 ∧ v.wait = false ∧ v.noClause = false ∧ q ≠ 3 ∧ w - e ≤ s.fld F.AUT_AGE_POS_AGE_MS ∧ w < v.limitT)) live ⟨0, false, false, none, 2010, 0, 0⟩ 2 9 2009) = true := by decide +kernel

/-- Clauses of `ClauseRequests` are met by concrete states. -/
theorem test_witness_clause_requests :
    ((fun (s : State) (p : ClsPort) (d : ClsDesc) (now i : Nat) => decide (s.works Blk.CLS ∧ s.flag F.CLS_STATUS_MEM_FAULT = false ∧ s.isStandby = false ∧ (p = .core d ∨ p = .dispatcher d) ∧ s.clauseNow = some now ∧ fieldsOk s.clsEnv now d (s.clsMach d.mi) = true ∧ (d.force = true → s.isRevoked d.mi = true) ∧ (s.cls.chain d.mi).length < s.fld F.CLS_LIMITS_PER_MI ∧ (d.link = true → ((s.cls.ref d.ref).map fun r => (s.cls.clause r).mi) = some d.mi) ∧ s.cls.nextFree = some i ∧ s.cls.roomFor s.clsMap (pieceOf s.clsMap (spaceIsCell d.space) (spaceLow d.space) d.lo d.hi (max d.t0 now) d.t1) = true ∧ (d.force = true ∨ s.cls.conflicts s.clsMap (s.clsPolicy (s.clsMach d.mi).pclass) d.mi [pieceOf s.clsMap (spaceIsCell d.space) (spaceLow d.space) d.lo d.hi (max d.t0 now) d.t1] = []) ∧ s.cls.follow.length ≤ 4096 ∧ d.dry = false ∧ d.bad = false)) (heldBy 6 false) (.dispatcher ⟨false, false, true, false, 5, 0, 590000, 650000, 0, 60000, 80000, false⟩) ⟨false, false, true, false, 5, 0, 590000, 650000, 0, 60000, 80000, false⟩ 600000 1 &&
    (fun (s : State) (p : ClsPort) (d : ClsDesc) (i : Nat) => decide (s.works Blk.CLS ∧ s.flag F.CLS_STATUS_MEM_FAULT = false ∧ s.isStandby = false ∧ (p = .core d ∨ p = .dispatcher d) ∧ s.cls.ref d.ref = some i ∧ ((s.cls.clause i).current = false ∨ d.force = true) ∧ d.dry = false ∧ d.bad = false)) (heldBy 5 true) (.core ⟨true, false, false, false, 5, h0, 0, 0, 0, 0, 0, false⟩) ⟨true, false, false, false, 5, h0, 0, 0, 0, 0, 0, false⟩ 0 &&
    (fun (s : State) (p : ClsPort) (d : ClsDesc) (now i : Nat) => decide (s.works Blk.CLS ∧ s.flag F.CLS_STATUS_MEM_FAULT = false ∧ s.isStandby = false ∧ (p = .core d ∨ p = .dispatcher d) ∧ s.clauseNow = some now ∧ s.cls.ref d.ref = some i ∧ extendOk s.clsMap (s.cls.clause i) d = true ∧ s.cls.conflicts s.clsMap (s.clsPolicy (s.clsMach (s.cls.clause i).mi).pclass) (s.cls.clause i).mi (extendPieces s.clsMap (s.cls.clause i) d.lo d.hi d.t1) = [] ∧ s.cls.follow.length ≤ 4096 ∧ d.dry = false ∧ d.bad = false)) (heldBy 5 true) (.core ⟨false, false, false, false, 5, h0, 590000, 800000, 0, 0, 100000, false⟩) ⟨false, false, false, false, 5, h0, 590000, 800000, 0, 0, 100000, false⟩ 600000 0 &&
    (fun (s : State) (p : ClsPort) (d : ClsDesc) (i : Nat) => decide (s.works Blk.CLS ∧ s.flag F.CLS_STATUS_MEM_FAULT = false ∧ s.isStandby = false ∧ (p = .core d ∨ p = .dispatcher d) ∧ s.cls.ref d.ref = some i ∧ shrinkOk s.clsMap (s.cls.clause i) d = true ∧ ((s.cls.clause i).current = false ∨ d.force = true) ∧ d.dry = false ∧ d.bad = false)) (heldBy 5 true) (.core ⟨true, false, false, false, 5, h0, 600000, 700000, 0, 0, 40000, false⟩) ⟨true, false, false, false, 5, h0, 600000, 700000, 0, 0, 40000, false⟩ 0 &&
    (fun (s : State) (p : ClsPort) (d : ClsDesc) (now i : Nat) => decide (s.works Blk.CLS ∧ s.flag F.CLS_STATUS_MEM_FAULT = false ∧ s.isStandby = false ∧ (p = .core d ∨ p = .dispatcher d) ∧ s.clauseNow = some now ∧ s.cls.ref d.ref = some i ∧ (s.cls.clause i).mi = d.mi ∧ fieldsOk s.clsEnv now d (s.clsMach d.mi) = true ∧ ((s.cls.clause i).current = false ∨ d.force = true) ∧ s.cls.conflicts s.clsMap (s.clsPolicy (s.clsMach d.mi).pclass) d.mi [pieceOf s.clsMap (spaceIsCell d.space) (spaceLow d.space) d.lo d.hi d.t0 d.t1] = [] ∧ s.cls.follow.length ≤ 4096 ∧ d.dry = false ∧ d.bad = false)) (heldBy 5 true) (.core ⟨true, false, true, false, 5, h0, 600000, 700000, 0, 0, 40000, false⟩) ⟨true, false, true, false, 5, h0, 600000, 700000, 0, 0, 40000, false⟩ 600000 0) = true := by decide +kernel

/-- Clauses of `ClauseRefusals` are met by concrete states. -/
theorem test_witness_clause_refusals :
    ((fun (s : State) (d : ClsDesc) (k : Nat) => decide (s.works Blk.CLS ∧ s.flag F.CLS_STATUS_MEM_FAULT = true ∧ k < 8)) ((heldBy 5 true).setFld F.CLS_STATUS_MEM_FAULT 1) ⟨true, false, false, false, 5, h0, 0, 0, 0, 0, 0, false⟩ 7 &&
    (fun (s : State) (d : ClsDesc) (k : Nat) => decide (s.works Blk.CLS ∧ s.flag F.CLS_STATUS_MEM_FAULT = false ∧ s.isStandby = true ∧ k ∈ [0, 1, 2, 3, 4, 7])) { heldBy 5 true with ahn := { site.ahn with role := .ready } } ⟨true, false, false, false, 5, h0, 0, 0, 0, 0, 0, false⟩ 7 &&
    (fun (s : State) (d : ClsDesc) (k : Nat) => decide (s.works Blk.CLS ∧ s.flag F.CLS_STATUS_MEM_FAULT = false ∧ s.isStandby = false ∧ s.clauseNow = none ∧ k ∈ [0, 2, 4, 7])) ((heldBy 5 true).setFld F.TIM_STATUS_VALID 0) ⟨true, false, false, false, 5, h0, 0, 0, 0, 0, 0, false⟩ 4 &&
    (fun (s : State) (d : ClsDesc) (k : Nat) => decide (s.works Blk.CLS ∧ s.flag F.CLS_STATUS_MEM_FAULT = false ∧ s.isStandby = false ∧ s.clauseNow.isSome = true ∧ s.cls.ref d.ref = none ∧ k ∈ [1, 2, 3, 4, 6])) (heldBy 5 true) ⟨true, false, false, false, 5, h0 + 1, 0, 0, 0, 0, 0, false⟩ 6 &&
    (fun (s : State) (d : ClsDesc) (i : Nat) => decide (s.works Blk.CLS ∧ s.flag F.CLS_STATUS_MEM_FAULT = false ∧ s.isStandby = false ∧ s.cls.ref d.ref = some i ∧ (s.cls.clause i).current = true ∧ d.force = false ∧ d.bad = false)) (heldBy 5 true) ⟨false, false, false, false, 5, h0, 0, 0, 0, 0, 0, false⟩ 0 &&
    (fun (s : State) (d : ClsDesc) (now i : Nat) => decide (s.works Blk.CLS ∧ s.flag F.CLS_STATUS_MEM_FAULT = false ∧ s.isStandby = false ∧ s.clauseNow = some now ∧ s.cls.ref d.ref = some i ∧ (s.cls.clause i).mi ≠ d.mi)) (heldBy 5 true) ⟨false, false, false, false, 6, h0, 0, 0, 0, 0, 0, false⟩ 600000 0 &&
    (fun (s : State) (d : ClsDesc) (now : Nat) => decide (s.works Blk.CLS ∧ s.flag F.CLS_STATUS_MEM_FAULT = false ∧ s.isStandby = false ∧ s.clauseNow = some now ∧ (now + s.fld F.CLS_HORIZON_HORIZON_MS < d.t0 ∨ d.t1 ≤ d.t0 ∨ d.t1 ≤ now ∨ s.machValid d.mi = false ∨ d.bad = true))) site ⟨false, false, false, false, 5, 0, 600000, 600000, 0, 0, 1000, false⟩ 600000 &&
    (fun (s : State) (d : ClsDesc) (now : Nat) (h : Nat) (q : Conflict) (l : List Conflict) => decide (s.works Blk.CLS ∧ s.flag F.CLS_STATUS_MEM_FAULT = false ∧ s.isStandby = false ∧ s.clauseNow = some now ∧ fieldsOk s.clsEnv now d (s.clsMach d.mi) = true ∧ d.bad = false ∧ d.force = false ∧ (s.cls.chain d.mi).length < s.fld F.CLS_LIMITS_PER_MI ∧ d.link = false ∧ s.cls.nextFree = some h ∧ s.cls.roomFor s.clsMap (pieceOf s.clsMap (spaceIsCell d.space) (spaceLow d.space) d.lo d.hi (max d.t0 now) d.t1) = true ∧ s.cls.conflicts s.clsMap (s.clsPolicy (s.clsMach d.mi).pclass) d.mi [pieceOf s.clsMap (spaceIsCell d.space) (spaceLow d.space) d.lo d.hi (max d.t0 now) d.t1] = q :: l ∧ q.pol.action = 0)) (heldBy 6 true) ⟨false, false, false, false, 5, 0, 600000, 650000, 0, 0, 1000, false⟩ 600000 1 ⟨0, ⟨0, 0, 0⟩⟩ []) = true := by decide +kernel

/-- Clauses of `ClauseQueriesAndSweeps` are met by concrete states. -/
theorem test_witness_clause_queries_and_sweeps :
    ((fun (s : State) (p : ClsPort) (d : ClsDesc) => decide (s.works Blk.CLS ∧ s.flag F.CLS_STATUS_MEM_FAULT = false ∧ (p = .core d ∨ p = .dispatcher d) ∧ spaceInMap s.clsMap d.space d.lo = true ∧ d.bad = false ∧ (d.ref ≠ 0 → (s.cls.ref d.ref).isSome = true))) (heldBy 6 true) (.core ⟨false, false, false, false, 0, 0, 0, 900000, 0, 0, 9, false⟩) ⟨false, false, false, false, 0, 0, 0, 900000, 0, 0, 9, false⟩ &&
    (fun (s : State) (p : ClsPort) (d : ClsDesc) (i : Nat) => decide (s.works Blk.CLS ∧ s.flag F.CLS_STATUS_MEM_FAULT = false ∧ (p = .core d ∨ p = .dispatcher d) ∧ s.cls.ref d.ref = some i ∧ d.bad = false)) (heldBy 6 true) (.core ⟨false, false, false, false, 0, h0, 0, 900000, 0, 0, 9, false⟩) ⟨false, false, false, false, 0, h0, 0, 900000, 0, 0, 9, false⟩ 0 &&
    (fun (s : State) (p : ClsPort) (d : ClsDesc) (now : Nat) => decide (s.works Blk.CLS ∧ s.flag F.CLS_STATUS_MEM_FAULT = false ∧ s.isStandby = false ∧ (p = .core d ∨ p = .dispatcher d) ∧ s.clauseNow = some now ∧ d.t1 ≤ now ∧ d.dry = false ∧ d.bad = false)) following (.core ⟨false, false, false, false, 0, 0, 0, 599000, 0, 0, 0, false⟩) ⟨false, false, false, false, 0, 0, 0, 599000, 0, 0, 0, false⟩ 600000 &&
    (fun (s : State) (now : Nat) => decide (s.works Blk.CLS ∧ s.flag F.CLS_STATUS_MEM_FAULT = false ∧ s.isStandby = false ∧ s.expert Blk.CLS = false ∧ s.clauseNow = some now ∧ (∀ k, s.cls.sweptAt = some k → k + s.fld F.CLS_SWEEP_PERIOD_MS * 1000000 ≤ s.mono))) following 600000 &&
    (fun (s : State) (k : Nat) => decide (s.works Blk.CLS ∧ (s.expert Blk.CLS = true ∨ (s.cls.sweptAt = some k ∧ s.mono < k + s.fld F.CLS_SWEEP_PERIOD_MS * 1000000)))) (following.setFld F.CLS_CTRL_LEVEL 1) 0 &&
    (fun (s : State) (k now : Nat) (f : FollowPair) => decide (s.works Blk.CLS ∧ s.isStandby = false ∧ s.clauseNow = some now ∧ s.cls.follow.get none k = some f ∧ ((s.cls.clause (f.leader % 2 ^ 18)).t1 ≤ now ∨ (s.cls.clause (f.follower % 2 ^ 18)).t1 ≤ now))) following 0 600000 ⟨3 * 2 ^ 18, 1 + 3 * 2 ^ 18, 500⟩ &&
    (fun (s : State) (k : Nat) => decide (s.works Blk.CLS ∧ k < 8 ∧ Bytes.at' s.clsHostBytes 0 1 = k + 1)) ((heldBy 6 true).setReg R.CLS_CMD 2#32 |>.setReg (R.CLS_CMD + 4) (BitVec.ofNat 32 h0)) 1 &&
    (fun (s : State) (now : Nat) => decide (s.running = true ∧ s.clauseNow = some now)) { site with tai := 5000000000000000 } 5000000000) = true := by decide +kernel

/-- Clauses of `SolutionChecks` are met by concrete states. -/
theorem test_witness_solution_checks :
    ((fun (s : State) (r : SolRec) (rest : List SolRec) (passed : List Nat) => decide (s.works Blk.CLS ∧ s.slv.toCheck = r :: rest ∧ s.flag F.CLS_STATUS_MEM_FAULT = false ∧ s.timeValid = true ∧ s.cls.check s.clsMap r.mi r.epoch (s.inflated r) (s.standsStill r) = .inside passed)) { heldBy 5 false with slv := { site.slv with toCheck := [solAt 2000, solAt 3000] } } (solAt 2000) [solAt 3000] [0] &&
    (fun (s : State) (r : SolRec) (rest : List SolRec) (why : Nat) => decide (s.works Blk.CLS ∧ s.slv.toCheck = r :: rest ∧ s.solFound r = .outside why ∧ r.mi < 2048 ∧ why < 16)) { heldBy 5 false with slv := { site.slv with toCheck := [solAt 60000] } } (solAt 60000) [] 1 &&
    (fun (s : State) (r : SolRec) => decide ((s.flag F.CLS_STATUS_MEM_FAULT = true ∨ s.timeValid = false))) (site.setFld F.CLS_STATUS_MEM_FAULT 1) (solAt 0) &&
    (fun (s : State) => decide (s.works Blk.CLS)) (heldBy 5 true) &&
    (fun (s : State) (k : Nat) => decide (s.running = true ∧ s.atSecond 0 = true ∧ s.tim.second = some k ∧ k + 500000000 ≤ s.mono)) { live with tim := { live.tim with second := some 999500000000 }, slv := { live.slv with outcomes := 70000 }, lpe := { live.lpe with updates := 1350000 } } 999500000000) = true := by decide +kernel

/-- Clauses of `AirAccess` are met by concrete states. -/
theorem test_witness_air_access_1 :
    ((fun (s : State) (m : Nat) (w : AirWait) => decide (s.works Blk.AIR ∧ (s.airQueue m false).head? = some w ∧ w.until' ≤ s.mono ∧ s.dutyFull m = false ∧ s.mayStart m (s.airStart m 160000) (s.frameNs m 0 w.frame) = true ∧ w.busy < 4)) { onAir with tai := 600030000000, air := { onAir.air with waiting := [⟨0, frameOf 8 1 none [], false, 3, 4, 0, 0, false⟩] } } 0 ⟨0, frameOf 8 1 none [], false, 3, 4, 0, 0, false⟩) = true := by decide +kernel

/-- Clauses of `AirAccess` are met by concrete states. -/
theorem test_witness_air_access_2 :
    ((fun (s : State) (m : Nat) (w : AirWait) => decide (s.works Blk.AIR ∧ (s.airQueue m false).head? = some w ∧ w.until' ≤ s.mono ∧ s.dutyFull m = false ∧ s.mayStart m (s.airStart m 160000) (s.frameNs m 0 w.frame) = true ∧ 4 ≤ w.busy)) { onAir with tai := 600030000000, air := { onAir.air with waiting := [⟨0, frameOf 8 1 none [], false, 4, 4, 0, 0, false⟩] } } 0 ⟨0, frameOf 8 1 none [], false, 4, 4, 0, 0, false⟩) = true := by decide +kernel

/-- Clauses of `AirAccess` are met by concrete states. -/
theorem test_witness_air_access_3 :
    ((fun (s : State) (m : Nat) (w : AirWait) => decide (s.works Blk.AIR ∧ s.isActive = true ∧ s.modemUp m = true ∧ (s.airQueue m false).head? = some w ∧ w.until' ≤ s.mono ∧ s.dutyFull m = false ∧ s.mayStart m (s.airStart m 160000) (s.frameNs m 0 w.frame) = true ∧ (s.airKey w.frame).isSome = true)) { onAir with tai := 600030000000, air := { onAir.air with waiting := [⟨0, frameOf 8 1 none [], false, 4, 4, 0, 0, false⟩] } } 0 ⟨0, frameOf 8 1 none [], false, 4, 4, 0, 0, false⟩) = true := by decide +kernel

/-- Clauses of `AirAccess` are met by concrete states. -/
theorem test_witness_air_access_4 :
    ((fun (s : State) (m : Nat) (w : AirWait) => decide (s.works Blk.AIR ∧ (s.airQueue m false).head? = some w ∧ w.until' ≤ s.mono ∧ s.dutyFull m = true ∧ w.deferred = false)) ({ { onAir with tai := 600030000000, air := { onAir.air with waiting := [⟨0, frameOf 8 1 none [], false, 4, 4, 0, 0, false⟩] } } with air := { onAir.air with waiting := [⟨0, frameOf 8 1 none [], false, 4, 4, 0, 0, false⟩], duty := [(0, [(600, 3600000000)])] } }.setFldB 0 F.AIR_MOD_DUTY_DUTY_PM 1) 0 ⟨0, frameOf 8 1 none [], false, 4, 4, 0, 0, false⟩) = true := by decide +kernel

/-- Clauses of `AirAccess` are met by concrete states. -/
theorem test_witness_air_access_5 :
    ((fun (s : State) (m : Nat) (w : AirWait) => decide (s.works Blk.AIR ∧ (s.airQueue m true).head? = some w ∧ w.until' ≤ s.mono ∧ w.since + s.fld F.AIR_LBT_PRIO_WAIT_MS * 1000000 ≤ s.mono)) { onAir with tai := 600030000000, air := { onAir.air with waiting := [⟨0, frameOf 8 1 none [], true, 1, 4, 0, 0, false⟩] } } 0 ⟨0, frameOf 8 1 none [], true, 1, 4, 0, 0, false⟩) = true := by decide +kernel

/-- Clauses of `AirAccess` are met by concrete states. -/
theorem test_witness_air_access_6 :
    ((fun (s : State) (m : Nat) => decide (s.works Blk.AIR)) { onAir with tai := 4000000000000, air := { onAir.air with duty := [(0, [(3999, 5), (400, 7), (401, 8)])] } } 0) = true := by decide +kernel

/-- Clauses of `AirAccess` are met by concrete states. -/
theorem test_witness_air_access_7 :
    ((fun (s : State) (w : Nat) => decide (s.works Blk.AIR ∧ s.isActive = true ∧ s.wideUp.contains w = true ∧ s.beaconKey.isSome = true)) { onAir with air := { onAir.air with recs := [(⟨7, 0, false, false, false, 0, 0, 5, -7, 900, 0, 0, 0, 3⟩, 600000000000), (⟨8, 0, false, false, false, 0, 0, 5, -7, 900, 0, 0, 0, 3⟩, 600000000000)] } } 0) = true := by decide +kernel

/-- Clauses of `AirAccess` are met by concrete states. -/
theorem test_witness_air_access_8 :
    ((fun (s : State) (w : Nat) => decide (s.works Blk.AIR ∧ s.isActive = false)) { onAir with ahn := { onAir.ahn with role := .ready } } 0) = true := by decide +kernel

/-- Clauses of `AirAccess` are met by concrete states. -/
theorem test_witness_air_access_9 :
    ((fun (s : State) (rx : AirRx) (n : Nat) => decide (s.works Blk.AIR ∧ s.blkOn Blk.AUT = true ∧ s.isStandby = false ∧ s.rxGood rx ∧ s.flag F.AUT_FSTOP_AIR_EN = true ∧ s.wideRx rx = false ∧ s.air.seen.contains ((s.rxFrame rx).src, (s.rxFrame rx).fseq) = false ∧ (s.rxFrame rx).ftype = Ft.STOP_REQ ∧ s.senderOf (s.rxFrame rx).src = some n ∧ (s.rxFrame rx).payload.length = 8 ∧ Bytes.at' (s.rxFrame rx).payload 4 1 = 1 ∧ s.nand.sndCtr.get 0 n < Bytes.at' (s.rxFrame rx).payload 0 4)) onAir (⟨0, octets [3, 1, 0, 0, 3, 240, 9, 0, 0, 0, 5, 0, 0, 0, 1, 0, 0, 0, 167, 146, 11, 112, 170, 27, 188, 142, 168, 83], 80⟩ : AirRx) 3) = true := by decide +kernel

/-- Clauses of `AirAccess` are met by concrete states. -/
theorem test_witness_air_access_10 :
    ((fun (s : State) (rx : AirRx) => decide (s.works Blk.AIR ∧ s.isStandby = false ∧ s.rxHeard rx = true ∧ s.crcGood rx = true ∧ s.forUs (s.rxFrame rx) = true ∧ s.cmacGood rx = false ∧ s.wideRx rx = false ∧ s.air.seen.contains ((s.rxFrame rx).src, (s.rxFrame rx).fseq) = false ∧ (s.rxFrame rx).ftype = Ft.STOP_REQ)) onAir (⟨0, octets [3, 1, 0, 0, 3, 240, 9, 0, 0, 0, 5, 0, 0, 0, 1, 0, 0, 0, 90, 0, 0, 0, 0, 0, 0, 0, 109, 112], 80⟩ : AirRx)) = true := by decide +kernel

/-- Clauses of `AirAccess` are met by concrete states. -/
theorem test_witness_air_access_11 :
    ((fun (s : State) (rx : AirRx) => decide (s.works Blk.AIR ∧ s.rxGood rx ∧ s.wideRx rx = false ∧ (s.rxFrame rx).relayed = true ∧ (s.rxFrame rx).ftype = Ft.STOP ∧ (s.rxFrame rx).src = s.airAddr)) onAir (⟨0, octets [18, 1, 0, 0, 0, 255, 9, 0, 0, 0, 0, 0, 0, 0, 0, 0, 0, 0, 0, 0, 0, 0, 0, 0, 0, 0, 24, 34, 56, 132, 110, 5, 169, 236, 107, 55], 80⟩ : AirRx)) = true := by decide +kernel

/-- Clauses of `AirMachines` are met by concrete states. -/
theorem test_witness_air_machines_1 :
    ((fun (s : State) (rx : AirRx) (mi : Nat) => decide (s.works Blk.AIR ∧ s.rxGood rx ∧ s.wideRx rx = true ∧ s.airSeen (s.rxFrame rx) = false ∧ s.miOfAddr (s.rxFrame rx).src = some mi ∧ (s.rxFrame rx).ftype = Ft.RPT ∧ (s.rxFrame rx).payload.length = 8)) onAir (⟨1, octets [11, 1, 0, 0, 7, 1, 9, 0, 0, 0, 40, 0, 3, 0, 0, 0, 0, 0, 31, 234, 209, 174, 252, 179, 106, 82, 187, 17, 10, 178], 80⟩ : AirRx) 7 &&
    (fun (s : State) (mi : Nat) => decide (s.works Blk.AIR ∧ s.isStandby = false ∧ (s.airM mi).state = .lost ∧ (s.airM mi).lostAt + 20000000000 ≤ s.mono)) (mach7 fun m => { m with state := .lost, lostAt := 0 }) 7 &&
    (fun (s : State) (mi w k : Nat) => decide (s.works Blk.AIR ∧ s.isStandby = false ∧ (s.airM mi).move = some (w, k) ∧ k ≤ s.devClause ∧ mi ∈ s.airMis)) (mach7 fun m => { m with move := some (1, 599000) }) 7 1 599000 &&
    (fun (s : State) (mi : Nat) => decide (s.works Blk.AIR ∧ s.isStandby = false ∧ (s.airM mi).move = none ∧ (s.airM mi).sleepAcked = true ∧ (s.airM mi).state = .awake ∧ mi ∈ s.airMis)) (mach7 fun m => { m with sleepAcked := true }) 7) = true := by decide +kernel

/-- Clauses of `AirMachines` are met by concrete states. -/
theorem test_witness_air_machines_2 :
    ((fun (s : State) (w : Word) (mi : Nat) => decide (s.works Blk.AIR ∧ s.expert Blk.AIR = true ∧ s.isStandby = false ∧ mi = s.airIdx ∧ ((s.airM mi).state = .awake ∨ (s.airM mi).state = .lost) ∧ s.fldB mi F.AIR_MACH_GRANT0_WCH = (s.airM mi).wch ∧ 1 ≤ F.AIR_MACH_GRANT1_LEN.get w ∧ F.AIR_MACH_GRANT1_LEN.get w ≤ 500 ∧ F.AIR_MACH_GRANT1_START.get w ≤ 2479 ∧ s.inRegion (s.airM mi).wch (F.AIR_MACH_GRANT1_START.get w) (F.AIR_MACH_GRANT1_LEN.get w) = true)) ((onAir.setFld F.AIR_CTRL_LEVEL 1).setRegB 7 R.AIR_MACH_GRANT0 0x52100000#32) 0x00014300#32 7 &&
    (fun (s : State) (w : Word) (mi : Nat) => decide (s.works Blk.AIR ∧ s.expert Blk.AIR = true ∧ s.isStandby = false ∧ mi = s.airIdx ∧ ((s.airM mi).state = .awake ∨ (s.airM mi).state = .lost) ∧ F.AIR_MACH_GRANT2_RPT_SET.get w = 1 ∧ F.AIR_MACH_GRANT2_BI.get w % 2 = 1 ∧ F.AIR_MACH_GRANT2_BI.get w ≤ 19 ∧ 1 ≤ F.AIR_MACH_GRANT2_LEN.get w ∧ F.AIR_MACH_GRANT2_LEN.get w ≤ 500 ∧ F.AIR_MACH_GRANT2_START.get w ≤ 2479 ∧ s.inRegion (s.airM mi).wch (F.AIR_MACH_GRANT2_START.get w) (F.AIR_MACH_GRANT2_LEN.get w) = true)) (onAir.setFld F.AIR_CTRL_LEVEL 1) 0xCE140300#32 7 &&
    (fun (s : State) (w : Word) => decide (s.running = true ∧ s.expert Blk.AIR = false)) onAir 0x00014300#32 &&
    (fun (s : State) (w : Word) => decide (s.running = true ∧ s.expert Blk.AIR = false)) onAir 0xCE140300#32) = true := by decide +kernel

/-- Clauses of `AirSleep` are met by concrete states. -/
theorem test_witness_air_sleep_1 :
    ((fun (s : State) (g mi k : Nat) => decide (s.works Blk.AIR ∧ s.isStandby = false ∧ mi = s.airIdx ∧ s.machAwake mi = true ∧ s.cmdGuard g = some k)) onAir 0 7 10 &&
    (fun (s : State) (g : Nat) => decide (s.expert Blk.AIR = false)) onAir 77 &&
    (fun (s : State) (g : Nat) => decide (s.works Blk.AIR ∧ s.cmdGuard g = none)) (onAir.setFld F.AIR_CTRL_LEVEL 1) 1001 &&
    (fun (s : State) (mi : Nat) => decide (s.works Blk.AIR ∧ s.isStandby = false ∧ mi = s.airIdx ∧ (s.airM mi).state = .asleep)) (mach7 fun m => { m with state := .asleep }) 7) = true := by decide +kernel

/-- Clauses of `AirSleep` are met by concrete states. -/
theorem test_witness_air_sleep_2 :
    ((fun (s : State) (g mi k : Nat) => decide (s.works Blk.AIR ∧ s.isStandby = false ∧ s.expert Blk.AIR = true ∧ mi = s.airIdx ∧ s.cmdGuard g = some k)) ((mach7 fun m => { m with state := .asleep }).setFld F.AIR_CTRL_LEVEL 1) 1000 7 1000 &&
    (fun (s : State) (rx : AirRx) (mi : Nat) => decide (s.works Blk.AIR ∧ s.isActive = true ∧ s.rxHeard rx = true ∧ s.crcGood rx = true ∧ s.cmacGood rx = true ∧ s.forUs (s.rxFrame rx) = true ∧ s.airSeen (s.rxFrame rx) = false ∧ s.miOfAddr (s.rxFrame rx).src = some mi ∧ (s.rxFrame rx).ftype = Ft.POLL ∧ (s.rxFrame rx).payload.length = 4 ∧ s.modemKind rx.modem = Phy.NARROW ∧ s.expert Blk.AIR = false ∧ (s.airM mi).state = .asleep)) (mach7 fun m => { m with state := .asleep, ontime := 15, wakeHeld := true }) (⟨0, octets [38, 1, 0, 0, 7, 1, 9, 0, 0, 0, 0, 255, 0, 0, 80, 60, 177, 155, 16, 94, 85, 215, 138, 126, 88, 244], 80⟩ : AirRx) 7 &&
    (fun (s : State) (mi : Nat) => decide (s.works Blk.AIR ∧ s.isStandby = false ∧ (s.airM mi).state = .asleep ∧ s.pollDue mi = true ∧ (s.airM mi).polled = false)) { (mach7 fun m => { m with state := .asleep }) with tai := 607100000000 } 7) = true := by decide +kernel

/-- Clauses of `StructureCommands` are met by concrete states. -/
theorem test_witness_structure_commands :
    ((fun (s : State) (b : Bool) => decide (s.running = true ∧ s.flag F.SIM_STATUS_BUSY = false ∧ s.fld F.SIM_SRC_OFFSET * 8 + s.fld F.SIM_LEN_LEN ≤ bar2Size)) (((idleSim id).setFld F.SIM_SRC_OFFSET 1).setFld F.SIM_LEN_LEN 8) false &&
    (fun (s : State) (b : Bool) => decide (s.running = true ∧ s.flag F.SIM_STATUS_BUSY = false)) (idleSim id) true &&
    (fun (s : State) (img : List Byte) (n : Nat) => decide (s.running = true ∧ s.sim.cmd = some (.loadHost (some img) n) ∧ imgLen img = n ∧ s.simVerify img = none)) (idleSim fun m => { m with cmd := some (.loadHost (some realImage) 256) }) realImage 256 &&
    (fun (s : State) (n code detail : Nat) (img : List Byte) => decide (s.running = true ∧ s.sim.cmd = some (.loadFlash n) ∧ s.flashSlot n = some img ∧ s.simVerify img = some (code, detail))) { flashed with sim := { flashed.sim with cmd := some (.loadFlash 0) }, nand := { flashed.nand with slot0 := some [] } } 0 0x20 0 [] &&
    (fun (s : State) (b : Bool) => decide (s.running = true ∧ s.flag F.SIM_STATUS_BUSY = false ∧ s.nand.boot ≠ b2n b ∧ s.sim.staged.isSome = true ∧ s.nandStopped = false)) { flashed with sim := { flashed.sim with staged := some [1#8] } } true &&
    (fun (s : State) (b : Bool) => decide (s.running = true ∧ s.flag F.SIM_STATUS_BUSY = false ∧ s.nand.boot = b2n b)) { flashed with sim := { flashed.sim with staged := some [1#8] } } false &&
    (fun (s : State) (n : Nat) => decide (s.running = true ∧ s.sim.cmd = some (.store n))) { flashed with sim := { flashed.sim with staged := some [1#8], cmd := some (.store 1) } } 1 &&
    (fun (s : State) (n : Nat) => decide (s.running = true ∧ s.sim.cmd = some (.store n))) { flashed with sim := { flashed.sim with staged := some [1#8], cmd := some (.store 1) } } 1 &&
    (fun (s : State) (b : Bool) => decide (s.running = true ∧ s.flag F.SIM_STATUS_BUSY = false)) { flashed with sim := { flashed.sim with staged := some [1#8] } } false &&
    (fun (s : State) (b : Bool) => decide (s.running = true ∧ s.flag F.SIM_STATUS_BUSY = false ∧ (s.flashSlot (b2n b)).isSome = true ∧ s.nandStopped = false)) flashed false &&
    (fun (s : State) (b : Bool) => decide (s.running = true ∧ s.flag F.SIM_STATUS_BUSY = false ∧ s.flashSlot (b2n b) = none)) flashed true) = true := by decide +kernel

/-- Clauses of `EnableAndApply` are met by concrete states. -/
theorem test_witness_enable_and_apply :
    ((fun (s : State) (b : Nat) (w : Word) => decide (s.running = true ∧ b ∈ Blk.image ∧ s.applying = false ∧ s.blkOn b = false ∧ s.sim.checks.contains b = false)) State.reset Blk.CLS 3#32 &&
    (fun (s : State) (b : Nat) (w : Word) => decide (s.running = true ∧ b ∈ Blk.image ∧ s.applying = true)) (idleSim fun m => { m with cmd := some .applyFull }) Blk.CLS 3#32 &&
    (fun (s : State) (b q : Nat) (w : Word) => decide (s.running = true ∧ b ∈ Blk.image ∧ s.applying = false ∧ s.blkOn b = true ∧ s.sim.checks.contains b = false ∧ s.requirer b = some q)) (withOn [Blk.CLS, Blk.AUT]) Blk.CLS Blk.AUT 0#32 &&
    (fun (s : State) (b : Nat) (w : Word) => decide (s.running = true ∧ b ∈ Blk.image ∧ s.applying = false ∧ s.blkOn b = true ∧ s.sim.checks.contains b = false ∧ s.requirer b = none)) (withOn [Blk.XQ]) Blk.XQ 0#32 &&
    (fun (s : State) (b : Nat) (rest stopped : List Nat) => decide (s.running = true ∧ s.sim.checks = b :: rest ∧ b ∈ Blk.image ∧ s.sim.waiting = false ∧ ({ s with sim := { s.sim with checks := rest } } : State).parseReason b stopped = none)) (idleSim fun m => { m with applied := some realImage, checks := [Blk.UPD, Blk.CLS] }) Blk.UPD [Blk.CLS] [] &&
    (fun (s : State) (b r d : Nat) (rest stopped : List Nat) => decide (s.running = true ∧ s.sim.checks = b :: rest ∧ b ∈ Blk.image ∧ s.sim.waiting = false ∧ ({ s with sim := { s.sim with checks := rest } } : State).parseReason b stopped = some (r, d))) (idleSim fun m => { m with applied := some realImage, checks := [Blk.CLS, Blk.UPD] }) Blk.CLS 1 0 [Blk.UPD] [] &&
    (fun (s : State) (b : Bool) (new : List Byte) => decide (s.running = true ∧ s.flag F.SIM_STATUS_BUSY = false ∧ s.sim.staged = some new ∧ s.sim.checks = [] ∧ (∀ k ∈ Blk.image, s.blkOn k = false))) (idleSim fun m => { m with staged := some realImage }) false realImage &&
    (fun (s : State) (b : Bool) (k : Nat) => decide (s.running = true ∧ s.flag F.SIM_STATUS_BUSY = false ∧ s.sim.staged.isSome = true ∧ s.sim.checks = [] ∧ Blk.image.find? s.blkOn = some k)) { withOn [Blk.LPE, Blk.XQ] with sim := (idleSim fun m => { m with staged := some realImage }).sim } false Blk.XQ &&
    (fun (s : State) (b : Bool) (new old : List Byte) => decide (s.running = true ∧ s.flag F.SIM_STATUS_BUSY = false ∧ s.sim.staged = some new ∧ s.sim.applied = some old ∧ imgSameSite new old = true ∧ (∀ k ∈ Blk.image, s.blkOn k = true → imgOf new k = imgOf old k) ∧ s.sim.checks = [])) { withOn [Blk.UPD] with sim := (idleSim fun m => { m with staged := some realImage, applied := some realImage }).sim } false realImage realImage &&
    (fun (s : State) (new : List Byte) => decide (s.running = true ∧ s.applying = true ∧ s.sim.waiting = false ∧ s.sim.staged = some new ∧ s.sim.heldEn = [])) (idleSim fun m => { m with staged := some realImage, cmd := some .applyFull }) realImage &&
    (fun (s : State) => decide (s.running = true ∧ s.sim.startup = true ∧ s.flag F.SIM_STATUS_BUSY = false ∧ s.flag F.SIM_CTRL_LEVEL = false ∧ s.flag F.RST_STATUS_SAFE = false ∧ s.nand.slot0 = none ∧ s.nand.slot1 = none ∧ s.nand.boot < 2)) { State.reset with sim := { State.reset.sim with startup := true }, nand := { State.reset.nand with slot0 := none, slot1 := none, boot := 1 } } &&
    (fun (s : State) (img : List Byte) => decide (s.running = true ∧ s.sim.startup = true ∧ s.flag F.SIM_STATUS_BUSY = false ∧ s.flag F.SIM_CTRL_LEVEL = false ∧ s.flag F.RST_STATUS_SAFE = false ∧ s.flashSlot s.nand.boot = some img ∧ s.simVerify img = none ∧ s.sim.checks = [] ∧ s.sim.heldEn = [] ∧ (∀ k ∈ Blk.image, s.blkOn k = false))) { flashed with sim := { flashed.sim with startup := true } } realImage) = true := by decide +kernel

/-- Clauses of `OrderCommands` are met by concrete states. -/
theorem test_witness_order_commands :
    ((fun (s : State) (b : List Byte) (i : Nat) => decide (s.dspTakes ∧ b = s.dspImage 1 ∧ submitOk b = true ∧ s.orderNext = some i ∧ s.submitHeld b = false)) (withCmd orderImage (work (orderIn 2 none))) ((withCmd orderImage (work (orderIn 2 none))).dspImage 1) 1 &&
    (fun (s : State) (i : Nat) => decide (s.dspTakes ∧ s.orderRef (Bytes.at' (s.dspImage 2) 0 4) = some i ∧ (s.order i).state < 5 ∧ s.orderLoose i)) (onOrder (orderIn 3 (some 7))) 0 &&
    (fun (s : State) (i : Nat) => decide (s.dspTakes ∧ s.orderRef (Bytes.at' (s.dspImage 2) 0 4) = some i ∧ 5 ≤ (s.order i).state)) (onOrder (orderIn 5 (some 7))) 0 &&
    (fun (s : State) (i : Nat) => decide (s.dspTakes ∧ s.orderRef (Bytes.at' (s.dspImage 3) 0 4) = some i ∧ 5 ≤ (s.order i).state)) (onOrder (orderIn 6 (some 7))) 0 &&
    (fun (s : State) (i : Nat) => decide (s.works Blk.DSP ∧ s.flag F.DSP_STATUS2_BUSY = false ∧ s.dsp.waiting.any (fun w => w.1 == dspHost) = false ∧ s.orderRef (Bytes.at' (s.dspImage 4) 0 4) = some i)) (onOrder (orderIn 6 (some 7))) 0 &&
    (fun (s : State) (i mi : Nat) => decide (s.dspTakes ∧ s.expert Blk.DSP = true ∧ s.orderRef (Bytes.at' (s.dspImage 5) 0 4) = some i ∧ (s.order i).state = 2 ∧ Bytes.at' (s.dspImage 5) 48 2 = mi ∧ mi < 2048 ∧ s.eligible (s.order i) mi = true)) ((withCmd (Bytes.padTo (Bytes.padTo (Bytes.ofNat 4 0x10000) 48 ++ Bytes.ofNat 2 7) 64) (work (orderIn 2 none))).setFld (Blk.level Blk.DSP) 1) 0 7 &&
    (fun (s : State) (i : Nat) => decide (s.dspTakes ∧ s.orderRef (Bytes.at' (s.dspImage 6) 0 4) = some i ∧ (s.order i).state = 6)) (onOrder (orderIn 6 (some 7))) 0 &&
    (fun (s : State) => decide (s.dspTakes ∧ s.orderRef (Bytes.at' (s.dspImage 3) 0 4) = none)) (work (orderIn 6 (some 7))) &&
    (fun (s : State) => decide (s.dspTakes ∧ s.expert Blk.DSP = false)) (work (orderIn 6 (some 7)))) = true := by decide +kernel

/-- Clauses of `OrderAnswers` are met by concrete states. -/
theorem test_witness_order_answers :
    ((fun (s : State) (q i : Nat) (b : List Byte) => decide (s.dspActs ∧ s.isIntake q = true ∧ b.length = 64 ∧ s.dsp.waiting.any (fun w => w.1 == q) = false ∧ imgOp b = 1 ∧ submitOk b = true ∧ s.orderNext = some i ∧ s.submitHeld b = false)) (withImage [(Sec.QUEUES, Blk.XQ, Bytes.padTo (Bytes.ofNat 1 0 ++ Bytes.ofNat 1 Blk.SLV ++ Bytes.ofNat 1 0 ++ Bytes.ofNat 1 Blk.DSP ++ Bytes.ofNat 1 8 ++ Bytes.ofNat 1 0) 1280)] live) 0 0 orderImage &&
    (fun (s : State) (mi h i : Nat) => decide (s.dspActs ∧ s.orderWith mi h 3 3 = some i)) (work (orderIn 3 (some 7))) 7 0x10000 0 &&
    (fun (s : State) (mi h : Nat) => decide (s.dspActs ∧ s.orderWith mi h 3 3 = none ∧ s.machAwake mi = true)) (work (orderIn 4 (some 7))) 7 0x10000 &&
    (fun (s : State) (mi h i : Nat) => decide (s.dspActs ∧ s.orderWith mi h 3 3 = some i ∧ (s.order i).hard = true ∧ s.orderLoose i)) (work { orderIn 3 (some 7) with hard := true }) 7 0x10000 0 &&
    (fun (s : State) (mi h i : Nat) => decide (s.dspActs ∧ s.orderWith mi h 3 3 = some i ∧ (s.order i).hard = false ∧ s.orderLoose i ∧ (s.order i).tries + 1 < s.maxTries)) (work (orderIn 3 (some 7))) 7 0x10000 0 &&
    (fun (s : State) (mi h i : Nat) => decide (s.dspActs ∧ s.orderWith mi h 4 3 = some i ∧ mi < 2048)) (work (orderIn 4 (some 7))) 7 0x10000 0 &&
    (fun (s : State) (i : Nat) => decide (s.dspActs ∧ (s.order i).state = 3 ∧ (s.order i).offeredAt + s.fld F.DSP_CFG_ACK_MS * 1000000 ≤ s.mono ∧ (s.order i).hard = true ∧ s.orderLoose i)) (work { orderIn 3 (some 7) with hard := true }) 0 &&
    (fun (s : State) (i : Nat) => decide (s.dspActs ∧ (s.order i).state = 3 ∧ (s.order i).offeredAt + s.fld F.DSP_CFG_ACK_MS * 1000000 ≤ s.mono ∧ (s.order i).hard = false ∧ s.orderLoose i ∧ (s.order i).tries + 1 < s.maxTries)) (work (orderIn 3 (some 7))) 0 &&
    (fun (s : State) (i : Nat) => decide (s.dspActs ∧ s.orderOver (s.order i) = true ∧ s.orderLoose i)) (work { orderIn 3 (some 7) with deadline := 5 }) 0 &&
    (fun (s : State) (f : Flight) (rest : List Flight) (r : ClsRes) => decide (s.works Blk.DSP ∧ s.dsp.flights = f :: rest ∧ (s.order f.idx).state = 2 ∧ (s.order f.idx).gen = f.gen ∧ r = (s.clsRun ClsOp.RESERVE f.desc).res ∧ r.status = 0)) { site with dsp := { site.dsp with orders := [(0, { orderIn 2 none with clauseReq := true })], freeNext := 1, flights := [⟨0, 1, 5, ⟨false, false, false, false, 5, 0, 600000, 650000, 0, 0, 1000, false⟩⟩] } } ⟨0, 1, 5, ⟨false, false, false, false, 5, 0, 600000, 650000, 0, 0, 1000, false⟩⟩ [] (ClsRes.ok (2 ^ 18)) &&
    (fun (s : State) (f : Flight) (rest : List Flight) (r : ClsRes) => decide (s.works Blk.DSP ∧ s.dsp.flights = f :: rest ∧ (s.order f.idx).state = 2 ∧ (s.order f.idx).gen = f.gen ∧ r = (s.clsRun ClsOp.RESERVE f.desc).res ∧ r.status = 2 ∧ r.freeAt ≠ clauseForever)) { heldBy 6 true with dsp := { site.dsp with orders := [(0, { orderIn 2 none with clauseReq := true })], freeNext := 1, flights := [⟨0, 1, 5, ⟨false, false, false, false, 5, 0, 600000, 650000, 0, 0, 1000, false⟩⟩] } } ⟨0, 1, 5, ⟨false, false, false, false, 5, 0, 600000, 650000, 0, 0, 1000, false⟩⟩ [] ⟨2, 700000, 0, h0, [], none, 0⟩) = true := by decide +kernel

/-- Clauses of `OrderDecisions` are met by concrete states. -/
theorem test_witness_order_decisions :
    ((fun (s : State) (now : Nat) => decide (s.works Blk.DSP ∧ s.isStandby = false ∧ s.expert Blk.DSP = true ∧ s.clauseNow = some now ∧ s.dsp.tick ≠ some (now / 10 * 10) ∧ s.dsp.waiting = [] ∧ (s.delayed.filter fun i => decide ((s.order i).notBefore ≤ now / 10 * 10)).length ≤ 4096)) ((work { orderIn 1 none with notBefore := 599000 }).setFld (Blk.level Blk.DSP) 1) 600000 &&
    (fun (s : State) (now : Nat) => decide (s.works Blk.DSP ∧ s.clauseNow = some now ∧ s.dsp.tick = some (now / 10 * 10))) { work (orderIn 1 none) with dsp := { (work (orderIn 1 none)).dsp with tick := some 600000 } } 600000 &&
    (fun (s : State) (mi m i : Nat) => decide (s.dspActs ∧ s.expert Blk.DSP = false ∧ s.machTakes mi = true ∧ s.dsp.rest = [] ∧ s.readyOrders = [i] ∧ (s.order i).state = 2 ∧ (s.order i).clauseReq = false ∧ (s.dsp.flights.any fun f => f.idx == i && f.gen == (s.order i).gen) = false ∧ s.chooseMachine (s.order i) = some m)) (work (orderIn 2 none)) 7 7 0 &&
    (fun (s : State) (mi m i : Nat) => decide (s.dspActs ∧ s.expert Blk.DSP = false ∧ s.machTakes mi = true ∧ s.dsp.rest = [] ∧ s.readyOrders = [i] ∧ (s.order i).state = 2 ∧ (s.order i).clauseReq = false ∧ (s.dsp.flights.any fun f => f.idx == i && f.gen == (s.order i).gen) = false ∧ s.chooseMachine (s.order i) = some m)) (work (orderIn 2 none)) 7 7 0 &&
    (fun (s : State) (mi : Nat) => decide (s.works Blk.DSP ∧ s.machTakes mi = false)) (work (orderIn 2 none)) 8 &&
    (fun (s : State) (o : Order) (mi : Nat) => decide (s.eligible o mi = true)) (work (orderIn 2 none)) (orderIn 2 none) 7 &&
    (fun (s : State) (b : Nat) (v : DmuSession) => decide (s.dmuClocks = true ∧ s.session b = some v ∧ s.sessionIdle b = true ∧ s.blkOn Blk.DSP = false ∧ b < 16)) (charging onAir 0) 0 ⟨0x10000, 7, 0, 0, 0, 0, true⟩ &&
    (fun (s : State) (b i : Nat) (v : DmuSession) => decide (s.dmuClocks = true ∧ s.session b = some v ∧ s.sessionIdle b = true ∧ s.blkOn Blk.DSP = true ∧ s.isStandby = false ∧ s.orderWith v.mi v.order 4 4 = some i ∧ (s.order i).charge = true ∧ (s.order i).bay = b ∧ b < 16)) (charging (work { orderIn 4 (some 7) with charge := true }) 1) 0 0 ⟨0x10000, 7, 0, 0, 0, 0, true⟩ &&
    (fun (s : State) (b : Nat) (v : DmuSession) => decide (s.works Blk.DMU ∧ s.expert Blk.DMU = true ∧ b < 16 ∧ s.session b = some v ∧ s.blkOn Blk.DSP = false)) ((charging onAir 0).setFld (Blk.level Blk.DMU) 1) 0 ⟨0x10000, 7, 0, 0, 0, 0, true⟩ &&
    (fun (s : State) (b : Nat) => decide (s.running = true ∧ b < 16 ∧ s.expert Blk.DMU = false)) (charging onAir 0) 0) = true := by decide +kernel

/-- Clauses of `CoreDispatcher` are met by concrete states. -/
theorem test_witness_core_dispatcher :
    ((fun (s : State) (k c : Nat) (l : List Nat) => decide (s.works Blk.DSP ∧ k = s.fld F.DSP_THR_IDX_THREAD ∧ s.thrState k = 0 ∧ s.thrCores k = c :: l ∧ s.fldB k F.DSP_THR_CFG_SLICE ≠ 0)) (withThread 0 Thread.free) 3 0 [] &&
    (fun (s : State) (k : Nat) => decide (s.works Blk.DSP ∧ k = s.fld F.DSP_THR_IDX_THREAD ∧ s.thrState k ≠ 0)) (withThread 2 ⟨true, none, 0, 0, 5, false⟩) 3 &&
    (fun (s : State) (k : Nat) => decide (s.works Blk.DSP ∧ k = s.fld F.DSP_THR_IDX_THREAD ∧ s.thrState k ≠ 0 ∧ s.thrState k ≠ 4)) (withThread 2 ⟨true, none, 0, 0, 5, false⟩) 3 &&
    (fun (s : State) (k : Nat) => decide (s.works Blk.DSP ∧ k = s.fld F.DSP_THR_IDX_THREAD ∧ s.thrState k = 4)) (withThread 4 ⟨true, none, 0, 0, 0, false⟩) 3 &&
    (fun (s : State) (k kind arg : Nat) (w : ThreadWait) => decide (s.works Blk.DSP ∧ k = s.fld F.DSP_THR_IDX_THREAD ∧ (s.thrState k = 1 ∨ s.thrState k = 2) ∧ kind < 4 ∧ arg < 2 ^ 26 ∧ s.thrWait kind arg = some w)) (withThread 2 ⟨true, none, 0, 0, 5, false⟩) 3 2 50 (.tick 50) &&
    (fun (s : State) (k : Nat) (w : ThreadWait) => decide (s.works Blk.DSP ∧ (s.thread k).wait = some w ∧ s.thrState k = 3 ∧ s.thrDue w = true)) (withThread 3 ⟨true, some (.tick 0), 0, 0, 0, false⟩) 3 (.tick 0) &&
    (fun (s : State) (k : Nat) (w : ThreadWait) => decide (s.works Blk.DSP ∧ (s.thread k).wait = some w ∧ s.thrDue w = false)) (withThread 3 ⟨true, some (.tick 9), 0, 0, 0, false⟩) 3 (.tick 9) &&
    (fun (s : State) (c r : Nat) => decide (s.works Blk.DSP ∧ s.dsp.coreTick ≠ some s.coreNow ∧ s.threadsIn 1 = [] ∧ c < 8 ∧ s.runs c = some r ∧ 1 < (s.thread r).left ∧ (∀ k ∈ List.range 8, (s.runs k).all fun x => decide (1 < (s.thread x).left)))) (withThread 2 ⟨true, none, 0, 0, 5, false⟩) 0 3 &&
    (fun (s : State) => decide (s.works Blk.DSP ∧ s.dsp.coreTick = some s.coreNow)) { withThread 2 ⟨true, none, 0, 0, 5, false⟩ with dsp := { (withThread 2 ⟨true, none, 0, 0, 5, false⟩).dsp with coreTick := some 0 } } &&
    (fun (s : State) (c : Nat) => decide (s.works Blk.DSP ∧ c < 8 ∧ ((s.coreOver c).any fun k => decide ((s.thread k).readyAt * 100 + s.fld F.DSP_HOLD_HOLD_US ≤ s.coreNow * 100)) = true ∧ s.dsp.spilling.contains (1000 + c) = false)) ((List.range 65).foldl (fun s k => (s.setFldB k F.DSP_THR_CFG_STATE 1).setThread k ⟨true, none, k, 0, 0, false⟩) { live with tai := 5000000000 }) 0 &&
    (fun (s : State) (q : Nat) => decide (s.works Blk.DSP ∧ q < 160 ∧ ((s.intakeOver q).any fun w => s.passed w.since (s.fld F.DSP_HOLD_HOLD_US * 1000)) = true ∧ s.dsp.spilling.contains (q + 1) = false)) { live with dsp := { live.dsp with waiting := List.replicate 257 ⟨2, [], 0⟩ } } 2 &&
    (fun (s : State) => decide (s.works Blk.DSP ∧ (s.dsp.waiting.find? fun w => s.submitHeld w.image && s.passed w.since (s.fld F.DSP_HOLD_HOLD_US * 1000)) = none)) live) = true := by decide +kernel

/-- Clauses of `FleetMembership` are met by concrete states. -/
theorem test_witness_fleet_membership_1 :
    ((fun (s : State) (rx : AirRx) (mi : Nat) => decide (s.works Blk.AIR ∧ s.isActive = true ∧ s.rxGood rx ∧ s.airSeen (s.rxFrame rx) = false ∧ (s.rxFrame rx).ftype = Ft.JOIN_REQ ∧ (s.rxFrame rx).payload.length = 16 ∧ s.modemKind rx.modem = Phy.NARROW ∧ s.miOfSerial (Bytes.at' (s.rxFrame rx).payload 0 8) = some mi ∧ s.lastJctr (Bytes.at' (s.rxFrame rx).payload 0 8) ≤ Bytes.at' (s.rxFrame rx).payload 8 4 ∧ (s.joinChannel mi (Bytes.at' (s.rxFrame rx).payload 12 1) (s.airM mi).bundleLen).1 = 0)) (onAir.setFldB 7 F.AIR_MACH_SER_LO_SER_LO 99) (⟨0, octets [36, 1, 0, 0, 254, 255, 9, 0, 0, 0, 0, 255, 99, 0, 0, 0, 0, 0, 0, 0, 6, 0, 0, 0, 15, 0, 0, 0, 173, 48, 109, 117, 101, 19, 239, 107, 38, 21], 80⟩ : AirRx) 7) = true := by decide +kernel

/-- Clauses of `FleetMembership` are met by concrete states. -/
theorem test_witness_fleet_membership_2 :
    ((fun (s : State) (rx : AirRx) => decide (s.works Blk.AIR ∧ s.isActive = true ∧ s.rxGood rx ∧ s.airSeen (s.rxFrame rx) = false ∧ (s.rxFrame rx).ftype = Ft.JOIN_REQ ∧ (s.rxFrame rx).payload.length = 16 ∧ s.modemKind rx.modem = Phy.NARROW ∧ s.miOfSerial (Bytes.at' (s.rxFrame rx).payload 0 8) = none)) onAir (⟨0, octets [36, 1, 0, 0, 254, 255, 9, 0, 0, 0, 0, 255, 99, 0, 0, 0, 0, 0, 0, 0, 6, 0, 0, 0, 15, 0, 0, 0, 173, 48, 109, 117, 101, 19, 239, 107, 38, 21], 80⟩ : AirRx)) = true := by decide +kernel

/-- Clauses of `FleetMembership` are met by concrete states. -/
theorem test_witness_fleet_membership_3 :
    ((fun (s : State) (mi : Nat) => decide (s.works Blk.AIR ∧ s.isStandby = false ∧ (s.airM mi).state = .awake ∧ (s.airM mi).lastHeard + 10000000000 ≤ s.mono)) (work (orderIn 4 (some 7))) 7) = true := by decide +kernel

/-- Clauses of `FleetMembership` are met by concrete states. -/
theorem test_witness_fleet_membership_4 :
    ((fun (s : State) (mi : Nat) => decide (s.works Blk.AIR ∧ mi = s.airIdx ∧ s.isStandby = false ∧ (s.airM mi).state ≠ .notJoined)) (work (orderIn 4 (some 7))) 7) = true := by decide +kernel

/-- Clauses of `FleetMembership` are met by concrete states. -/
theorem test_witness_fleet_membership_5 :
    ((fun (s : State) (rx : AirRx) (mi : Nat) => decide (s.works Blk.AIR ∧ s.isStandby = false ∧ s.rxGood rx ∧ s.wideRx rx = true ∧ s.airSeen (s.rxFrame rx) = false ∧ s.miOfAddr (s.rxFrame rx).src = some mi ∧ (s.rxFrame rx).ftype = Ft.DATA_UP ∧ 4 ≤ (s.rxFrame rx).payload.length ∧ Bytes.at' (s.rxFrame rx).payload 0 1 = 0 ∧ Bytes.at' (s.rxFrame rx).payload 2 1 = 0x81 ∧ Bytes.at' (s.rxFrame rx).payload 3 1 = 2 ∧ (s.airM mi).sleepSent = true)) (mach7 fun m => { m with sleepSent := true }) (⟨1, octets [13, 1, 0, 0, 7, 1, 9, 0, 0, 0, 0, 0, 129, 2, 154, 119, 97, 128, 149, 201, 238, 141, 169, 209, 46, 251], 80⟩ : AirRx) 7) = true := by decide +kernel

/-- Clauses of `FleetMembership` are met by concrete states. -/
theorem test_witness_fleet_membership_6 :
    ((fun (s : State) (rx : AirRx) (mi i : Nat) => decide (s.works Blk.AIR ∧ s.blkOn Blk.DSP = true ∧ s.isStandby = false ∧ s.rxGood rx ∧ s.wideRx rx = true ∧ s.airSeen (s.rxFrame rx) = false ∧ s.miOfAddr (s.rxFrame rx).src = some mi ∧ (s.rxFrame rx).ftype = Ft.DATA_UP ∧ 8 ≤ (s.rxFrame rx).payload.length ∧ Bytes.at' (s.rxFrame rx).payload 0 1 = 1 ∧ Bytes.at' (s.rxFrame rx).payload 2 1 = 0x81 ∧ s.orderWith mi (Bytes.at' (s.rxFrame rx).payload 4 4) 3 3 = some i)) (work (orderIn 3 (some 7))) (⟨1, octets [13, 1, 0, 0, 7, 1, 9, 0, 0, 0, 1, 0, 129, 0, 0, 0, 1, 0, 128, 208, 156, 148, 7, 218, 138, 236, 98, 16, 109, 12], 80⟩ : AirRx) 7 0) = true := by decide +kernel

/-- Clauses of `EnergyMetering` are met by concrete states. -/
theorem test_witness_energy_metering :
    ((fun (s : State) (g dt good : Nat) (x : List (List (Nat × Int))) => decide (s.dmuClocks = true ∧ s.grpKind g ≠ 0 ∧ s.groupFault g = false)) metered 0 1000000 0 [[(0, 100), (1, 200)]] &&
    (fun (s : State) (g dt good : Nat) (x : List (List (Nat × Int))) => decide (s.dmuClocks = true ∧ s.grpKind g ≠ 0 ∧ s.groupFault g = true)) (metered.setFld F.DMU_IN_FAULT_FAULT 1) 0 1000000 0 [[(0, 100), (1, 200)]] &&
    (fun (s : State) (n : Nat) => decide (s.dmuClocks = true ∧ n < 8 ∧ s.flagB n F.DMU_PO_CFG_EN = true ∧ 0 < (s.pulse n).pending ∧ (s.pulse n).busy ≤ s.mono ∧ (s.pulse n).spill < s.pulseWeight n)) pulsing 2 &&
    (fun (s : State) (w : Word) (n : Nat) => decide (s.running = true ∧ n = s.fld F.DMU_PO_IDX_OUTPUT ∧ F.DMU_PO_CFG_QTY.get w ≤ 2 ∧ 1 ≤ F.DMU_PO_CFG_WIDTH_MS.get w)) (pulsing.setFld F.DMU_PO_IDX_OUTPUT 2) 0x80000100#32 2 &&
    (fun (s : State) (g : Nat) => decide (s.dmuClocks = true ∧ s.flagB g F.DMU_GRP_STAT_AC_LOCK = true)) (metered.setFldB 0 F.DMU_GRP_STAT_AC_LOCK 1) 0 &&
    (fun (s : State) (n : Nat) => decide (s.dmuClocks = true ∧ n < 24 ∧ (s.fld F.DMU_IN_FAULT_FAULT).testBit n = false ∧ s.inGroup n ≠ 0xFF)) metered 1 &&
    (fun (s : State) (n k h c : Nat) => decide (s.running = true ∧ n < 24 ∧ s.dmu.faults.get none n = some (k, h, c))) { metered.setFld F.DMU_IN_FAULT_FAULT 2 with dmu := { metered.dmu with faults := [(1, some (999000000000, 5, 6))] } } 1 999000000000 5 6 &&
    (fun (s : State) => decide (s.works Blk.DMU ∧ s.nandStopped = false)) metered &&
    (fun (s : State) => decide (s.works Blk.DMU ∧ s.nandStopped = false)) metered &&
    (fun (s : State) (b run : Nat) => decide (s.dmuClocks = true ∧ s.expert Blk.DMU = false ∧ s.bays.contains b = true ∧ run = (if (s.currentsOf b).all (fun n => decide (s.fldB n F.DMU_IN_RMS_RMS < s.fld F.DMU_BAY_IDLE_MA)) then s.dmu.idle.get 0 b + 1 else 0))) (metered.setFld F.DMU_BAY_IDLE_MA 100) 0 1 &&
    (fun (s : State) (b : Nat) => decide (s.works Blk.DMU ∧ s.expert Blk.DMU = true ∧ b < 16 ∧ s.grpBay b = true)) (metered.setFld (Blk.level Blk.DMU) 1) 0 &&
    (fun (s : State) (b : Nat) => decide (s.works Blk.DMU ∧ s.expert Blk.DMU = true ∧ b < 16 ∧ s.grpBay b = true)) ((metered.setFld (Blk.level Blk.DMU) 1).setFldB 0 F.DMU_GRP_STAT_BAY_FREE 1) 0 &&
    (fun (s : State) => decide (s.running = true)) (metered.setGroup 0 ⟨2 ^ 80, 0, 0⟩)) = true := by decide +kernel

/-- Clauses of `LoopEngine` are met by concrete states. -/
theorem test_witness_loop_engine_1 :
    ((fun (p : List Byte) (x sp aid a b : Int) => decide (Loop.outMin p ≤ Loop.outMax p)) (slotBytes 6 0 0 0) 5000 0 0 0 0 &&
    (fun (p : List Byte) (x sp aid a b : Int) => decide (Loop.classF p = true ∧ Loop.limA p ≤ Loop.limB p)) (slotBytes 6 1 0 0) 5000 0 0 0 0 &&
    (fun (s : State) (u : LpeUpd) (rest : List LpeUpd) (r : LoopOut) => decide (s.works Blk.LPE ∧ s.lpe.queue = u :: rest ∧ Loop.kind (s.loop u.slot) ≠ Kind.GAP ∧ s.outerOf u.slot = none ∧ r = loopUpdate (s.loop u.slot) u.x (s.slotReg u.slot R.LPE_SLOT_SP) u.aid (s.slotReg u.slot R.LPE_SLOT_ACC) (s.slot u.slot).acc2 ∧ (Loop.classF (s.loop u.slot) = true ∨ (r.sat = false ∧ r.outClamp = false)))) (queued [⟨0, 500, 0, none⟩] (looped 6 2 0 0)) ⟨0, 500, 0, none⟩ [] (loopUpdate (slotBytes 6 2 0 0) 500 0 0 0 0) &&
    (fun (s : State) (u : LpeUpd) (rest : List LpeUpd) (r : LoopOut) => decide (s.works Blk.LPE ∧ s.lpe.queue = u :: rest ∧ Loop.kind (s.loop u.slot) = Kind.GENERAL ∧ s.outerOf u.slot = none ∧ r = loopUpdate (s.loop u.slot) u.x (s.slotReg u.slot R.LPE_SLOT_SP) u.aid (s.slotReg u.slot R.LPE_SLOT_ACC) (s.slot u.slot).acc2 ∧ Loop.classF (s.loop u.slot) = false ∧ (r.sat = true ∨ r.outClamp = true))) (queued [⟨0, 5000, 0, none⟩] (looped 6 2 0 0)) ⟨0, 5000, 0, none⟩ [] (loopUpdate (slotBytes 6 2 0 0) 5000 0 0 0 0)) = true := by decide +kernel

/-- Clauses of `LoopEngine` are met by concrete states. -/
theorem test_witness_loop_engine_2 :
    ((fun (s : State) (n : Nat) (x aid : Int) => decide (s.works Blk.LPE ∧ s.programmed n = true ∧ Loop.kind (s.loop n) ≠ Kind.GAP ∧ Loop.trig (s.loop n) = Trig.OWNER ∧ s.lpe.queue.length < 4096)) (looped 6 2 0 0) 0 5000000000 (-3) &&
    (fun (s : State) (n : Nat) (x aid : Int) => decide (s.works Blk.LPE ∧ s.programmed n = true ∧ Loop.kind (s.loop n) ≠ Kind.GAP ∧ Loop.trig (s.loop n) = Trig.OWNER ∧ 4096 ≤ s.lpe.queue.length)) (queued (List.replicate 4096 ⟨0, 5000, 0, none⟩) (looped 6 2 0 0)) 0 5 3 &&
    (fun (s : State) (n : Nat) (x aid : Int) => decide (s.works Blk.LPE ∧ s.programmed n = true ∧ Loop.kind (s.loop n) ≠ Kind.GAP ∧ Loop.trig (s.loop n) = Trig.CASCADE)) (looped 6 2 1 5) 0 (-7) 9 &&
    (fun (s : State) (n : Nat) => decide (s.works Blk.LPE ∧ s.programmed n = true ∧ Loop.trig (s.loop n) = Trig.PERIODIC ∧ s.tai % (Loop.arg (s.loop n) * 100000) < 1000 ∧ s.lpe.queue.length < 4096)) (looped 6 2 2 5) 0) = true := by decide +kernel

/-- Clauses of `LoopEngine` are met by concrete states. -/
theorem test_witness_loop_engine_3 :
    ((fun (s : State) (n : Nat) => decide (s.works Blk.LPE ∧ n = s.slotIdx ∧ s.programmed n = true ∧ Loop.trig (s.loop n) = Trig.HOST ∧ s.lpe.queue.length < 4096)) (looped 6 2 3 0) 0 &&
    (fun (s : State) (n : Nat) => decide (s.works Blk.LPE ∧ n = s.slotIdx ∧ Loop.kind (s.loop n) = Kind.GENERAL)) ((looped 6 2 3 0).setSlotReg 0 R.LPE_SLOT_ACC (-9)) 0 &&
    (fun (s : State) (n k : Nat) => decide (s.works Blk.LPE ∧ s.isStandby = false ∧ s.expert Blk.LPE = true ∧ n = s.slotIdx ∧ k < 4096 ∧ Loop.kind (s.loop n) = Kind.GAP ∧ s.flagB n F.LPE_SLOT_STAT_ASSIGNED = false ∧ (s.cls.follow.get none k).isSome = true ∧ s.gapSlotOf k = none)) gapped 0 0 &&
    (fun (s : State) (n : Nat) => decide (s.works Blk.LPE ∧ s.isStandby = false ∧ s.expert Blk.LPE = true ∧ n = s.slotIdx ∧ Loop.kind (s.loop n) = Kind.GAP ∧ s.flagB n F.LPE_SLOT_STAT_ASSIGNED = true)) ((gapped.setFldB 0 F.LPE_SLOT_STAT_ASSIGNED 1).setSlot 0 ⟨0, 0, some 0, false⟩) 0) = true := by decide +kernel

/-- Clauses of `LoopEngine` are met by concrete states. -/
theorem test_witness_loop_engine_4 :
    ((fun (s : State) (n : Nat) => decide (s.running = true ∧ s.isStandby = false ∧ s.expert Blk.LPE = true ∧ n = s.slotIdx)) ((gapped.setFldB 0 F.LPE_SLOT_STAT_SAT 1).setFldB 0 F.LPE_SLOT_STAT_COUNT 7) 0 &&
    (fun (s : State) => decide (s.running = true ∧ s.isStandby = false ∧ s.expert Blk.LPE = false)) (looped 6 2 0 0)) = true := by decide +kernel

/-- Clauses of `TimeKeeping` are met by concrete states. -/
theorem test_witness_time_keeping_1 :
    ((fun (s : State) (sol : TimeSol) (e : Int) => decide (s.works Blk.TIM ∧ s.grx.sol = some sol ∧ s.flag F.GRX_STATUS_SPOOF_ALARM = false ∧ sol.usable = true ∧ sol.fromRef = true ∧ s.tim.mode = .disciplined ∧ e = sol.offset - s.fld F.TIM_CAL_ANT_NS ∧ (s.expert Blk.TIM = true ∨ s.lpe.queue.length < 4096))) (solved ⟨900, 30, 2, 9, 1, true, true⟩ steering) ⟨900, 30, 2, 9, 1, true, true⟩ 30 &&
    (fun (s : State) (sol : TimeSol) => decide (s.works Blk.TIM ∧ s.grx.sol = some sol ∧ s.tim.mode = .disciplined ∧ s.timeValid = true ∧ (s.flag F.GRX_STATUS_SPOOF_ALARM = true ∨ sol.usable = false))) (solved ⟨900, 30, 2, 9, 1, false, true⟩ steering) ⟨900, 30, 2, 9, 1, false, true⟩ &&
    (fun (s : State) (sol : TimeSol) => decide (s.works Blk.TIM ∧ s.grx.sol = some sol ∧ s.flag F.GRX_STATUS_SPOOF_ALARM = false ∧ sol.usable = true ∧ s.tim.mode = .none ∧ s.tim.everValid = false ∧ s.expert Blk.TIM = false ∧ 100 ≤ s.tim.run)) (solved ⟨900, 1000, 0, 9, 1, true, true⟩ (withTim (fun t => { t with run := 100 }) { live with tai := 5000000000 })) ⟨900, 1000, 0, 9, 1, true, true⟩ &&
    (fun (s : State) (epoch : Nat) => decide (s.grx.sol.all (fun x => x.epoch != epoch) = true)) live 7 &&
    (fun (s : State) => decide (s.running = true ∧ (∀ e, s.tim.lastEpoch = some e → e < 100 * ((s.devClause - 12) / 100)) ∧ s.tim.mode = .disciplined ∧ s.timeValid = true)) (atEpoch steering) &&
    (fun (s : State) (e : Nat) => decide (s.running = true ∧ s.timEst = some e ∧ s.fld F.TIM_DISC_INV_10US * 10000 < e)) (withTim (fun t => { t with est0 := 1000001, estAt := t.estAt + 500000000000 }) heldTime) 1000001 &&
    (fun (s : State) (e : Nat) => decide (s.running = true ∧ s.timEst = some e ∧ s.tim.mode = .holdover)) (withTim (fun t => { t with estAt := 1000000000000 }) heldTime) 250 &&
    (fun (s : State) (at' : Nat) => decide (s.running = true ∧ s.tim.pend = some .step ∧ s.tim.edge = some at' ∧ s.passed at' 500000000 = true ∧ 1000 < s.tim.offset.natAbs ∧ s.stepBlocked (-s.tim.offset) = false)) (awaiting .step 5000 live) 999400000000 &&
    (fun (s : State) (at' : Nat) => decide (s.running = true ∧ s.tim.pend = some .step ∧ s.tim.edge = some at' ∧ s.passed at' 500000000 = true ∧ 1000000 ≤ s.tim.offset.natAbs ∧ s.blkOn Blk.AUT = true ∧ s.fleetState = Tense.RUN)) (awaiting .step 1000000 live) 999400000000 &&
    (fun (s : State) (at' : Nat) => decide (s.running = true ∧ s.tim.pend = some .step ∧ s.tim.edge = some at' ∧ s.passed at' 500000000 = true ∧ s.tim.offset.natAbs ≤ 1000)) (awaiting .step 1000 live) 999400000000 &&
    (fun (s : State) (errUs now : Nat) => decide (s.works Blk.TIM ∧ 0 < errUs ∧ errUs < 2 ^ 24 ∧ s.setPermitted = true ∧ now = s.fld F.TIM_SET_SEC_SEC * nsPerSec + s.fld F.TIM_SET_NS_NS ∧ s.stepBlocked ((now : Int) - s.tai) = false)) ({ live with tai := 5000000000 }.setFld F.TIM_SET_SEC_SEC 5) 7 5000000000 &&
    (fun (s : State) (errUs : Nat) => decide (s.works Blk.TIM ∧ errUs < 2 ^ 24 ∧ (errUs = 0 ∨ s.setPermitted = false))) live 0 &&
    (fun (s : State) (errUs now : Nat) => decide (s.works Blk.TIM ∧ 0 < errUs ∧ errUs < 2 ^ 24 ∧ s.setPermitted = true ∧ now = s.fld F.TIM_SET_SEC_SEC * nsPerSec + s.fld F.TIM_SET_NS_NS ∧ s.stepBlocked ((now : Int) - s.tai) = true)) (live.setFld F.TIM_SET_SEC_SEC 9) 7 9000000000 &&
    (fun (s : State) (at' now p errUs : Nat) => decide (s.running = true ∧ s.tim.pend = some (.set now p errUs) ∧ s.tim.edge = some at' ∧ p ≤ s.mono ∧ s.passed at' 500000000 = true ∧ s.stepBlocked (((now + (s.mono - p) : Nat) : Int) - s.tai) = false)) (awaiting (.set 4000000000 999000000000 7) 0 live) 999400000000 4000000000 999000000000 7) = true := by decide +kernel

/-- Clauses of `TimeKeeping` are met by concrete states. -/
theorem test_witness_time_keeping_2 :
    ((fun (s : State) => decide (s.running = true ∧ s.flag F.TIM_UTC_LEAP_PEND = true ∧ s.fld F.TIM_LEAP_SEC ≤ s.tai / nsPerSec)) ((({ live with tai := 5000000000 }.setFld F.TIM_UTC_OFFSET_S 37).setFld F.TIM_UTC_LEAP_PEND 1).setFld F.TIM_LEAP_SEC 5) &&
    (fun (s : State) => decide (s.running = true ∧ s.flag F.TIM_STATUS_OCXO_READY = false)) live) = true := by decide +kernel

/-- Clauses of `TimeEdges` are met by concrete states. -/
theorem test_witness_time_edges :
    ((fun (s : State) => decide (s.running = true)) { live with tai := 5000000000 } &&
    (fun (s : State) => decide (s.running = true ∧ s.timeValid = true ∧ s.passed s.tim.rtcAt (1024 * nsPerSec) = true)) { live with mono := 2000000000000 } &&
    (fun (s : State) (w : Word) (n : Nat) => decide (s.works Blk.TIM ∧ n = s.fld F.TIM_TO_IDX_OUTPUT ∧ s.flagB n F.TIM_TO_CFG_ARM = false ∧ F.TIM_TO_CFG_ARM.get w = 1 ∧ s.tai ≤ s.outStart n)) (live.setFld F.TIM_TO_IDX_OUTPUT 2) 0x80000000#32 2 &&
    (fun (s : State) (w : Word) (n : Nat) => decide (s.works Blk.TIM ∧ n = s.fld F.TIM_TO_IDX_OUTPUT ∧ s.flagB n F.TIM_TO_CFG_ARM = false ∧ F.TIM_TO_CFG_ARM.get w = 1 ∧ s.outStart n < s.tai)) ({ live with tai := 5 }.setFld F.TIM_TO_IDX_OUTPUT 2) 0x80000000#32 2 &&
    (fun (s : State) (w : Word) (n : Nat) => decide (s.running = true ∧ n = s.fld F.TIM_TO_IDX_OUTPUT ∧ F.TIM_TO_CFG_ARM.get w = 0)) (withTim (fun t => { t with outs := [(0, some ⟨5, false, true⟩)] }) live) 0x00000000#32 0 &&
    (fun (s : State) (n : Nat) (o : TimedOut) => decide (s.running = true ∧ s.tim.outs.get none n = some o ∧ o.next ≤ s.tai ∧ o.rising = true)) (withTim (fun t => { t with outs := [(3, some ⟨5, true, false⟩)] }) { live with tai := 5 }) 3 ⟨5, true, false⟩ &&
    (fun (s : State) (n : Nat) (o : TimedOut) => decide (s.running = true ∧ s.tim.outs.get none n = some o ∧ o.next ≤ s.tai ∧ o.rising = false ∧ s.outPeriodic n = true)) (((withTim (fun t => { t with outs := [(3, some ⟨50, false, true⟩)] }) { live with tai := 60 }).setFldB 3 F.TIM_TO_PERIOD_PERIOD_NS 1000).setFldB 3 F.TIM_TO_CFG_PERIODIC 1) 3 ⟨50, false, true⟩ &&
    (fun (s : State) (n : Nat) (o : TimedOut) => decide (s.running = true ∧ s.tim.outs.get none n = some o ∧ o.next ≤ s.tai ∧ o.rising = false ∧ s.outPeriodic n = false)) ((withTim (fun t => { t with outs := [(3, some ⟨50, false, true⟩)] }) { live with tai := 60 }).setFldB 3 F.TIM_TO_CFG_ARM 1) 3 ⟨50, false, true⟩ &&
    (fun (s : State) (j : Nat) (rising : Bool) => decide (s.works Blk.TIM ∧ j < 8 ∧ (s.fld F.TIM_TC_CFG_EDGE).testBit (2 * j + (if rising then 0 else 1)) = true ∧ (s.tim.caps.get [] j).length < 16)) (live.setFld F.TIM_TC_CFG_EDGE 0xC000) 7 true &&
    (fun (s : State) (j : Nat) (rising : Bool) => decide (s.works Blk.TIM ∧ j < 8 ∧ (s.fld F.TIM_TC_CFG_EDGE).testBit (2 * j + (if rising then 0 else 1)) = true ∧ 16 ≤ (s.tim.caps.get [] j).length)) (withTim (fun t => { t with caps := [(7, List.replicate 16 (5, true))] }) (live.setFld F.TIM_TC_CFG_EDGE 0xC000)) 7 false &&
    (fun (s : State) (j : Nat) (rising : Bool) => decide (s.works Blk.TIM ∧ j < 8 ∧ (s.fld F.TIM_TC_CFG_EDGE).testBit (2 * j + (if rising then 0 else 1)) = false)) live 7 true &&
    (fun (s : State) (at' : Nat) (rising : Bool) (rest : List (Nat × Bool)) => decide (s.running = true ∧ s.tim.caps.get [] (s.fld F.TIM_TC_IDX_INPUT) = (at', rising) :: rest)) (withTim (fun t => { t with caps := [(0, [(5000000007, true), (6000000000, false)])] }) live) 5000000007 true [(6000000000, false)]) = true := by decide +kernel

/-- Clauses of `NetworkTime` are met by concrete states. -/
theorem test_witness_network_time :
    ((fun (s : State) (p : Nat) => decide (s.works Blk.PTP ∧ s.ptpMaster p = true ∧ s.ptpState p = 6 ∧ s.betterMaster p = false ∧ s.ethCanSend p = true ∧ dueSince s (s.ptpPort p).annAt (s.announceNs p) = true)) master 0 &&
    (fun (s : State) (p : Nat) => decide (s.works Blk.PTP ∧ s.ptpMaster p = true ∧ s.ptpState p = 6 ∧ s.betterMaster p = true)) { master with ptp := [(0, { PtpPort.idle with foreign := [⟨2 ^ 70 + 5, 999900000000, true, [0, 6, 0x21, 0, 1, 5, 0]⟩] })] } 0 &&
    (fun (s : State) (p : Nat) => decide (s.works Blk.PTP ∧ s.ptpMaster p = true ∧ s.ptpState p = 7 ∧ s.betterMaster p = false)) { master.setFldB 0 F.PTP_PORT_STAT_STATE 7 with ptp := [(0, { PtpPort.idle with foreign := [⟨2 ^ 70 + 5, 900000000, true, [0, 6, 0x21, 0, 1, 5, 0]⟩] })] } 0 &&
    (fun (s : State) (p : Nat) (m : PtpMsg) => decide (s.works Blk.PTP ∧ s.ptpMaster p = true ∧ s.ptpState p = 6 ∧ s.ethCanSend p = true ∧ dueSince s (s.ptpPort p).syncAt (logNs (s.logSync p)) = true ∧ s.flagB p F.PTP_PORT_CFG_TWO_STEP = true ∧ m = s.ptpMsg p .sync (s.ptpPort p).seqSync (s.logSync p) (s.tai + s.fldB p F.PTP_PORT_LAT_TX_NS))) (master.setFldB 0 F.PTP_PORT_CFG_TWO_STEP 1) 0 ((master.setFldB 0 F.PTP_PORT_CFG_TWO_STEP 1).ptpMsg 0 .sync 0 (master.logSync 0) master.tai) &&
    (fun (s : State) (p : Nat) => decide (s.works Blk.PTP ∧ s.ptpMaster p = true ∧ s.ptpState p = 6 ∧ s.ethCanSend p = true ∧ dueSince s (s.ptpPort p).syncAt (logNs (s.logSync p)) = true ∧ s.flagB p F.PTP_PORT_CFG_TWO_STEP = false)) master 0 &&
    (fun (s : State) (p : Nat) (b : List Byte) => decide (s.works Blk.PTP ∧ ptpKindOf b = some .delayReq ∧ ptpMalformed b = false ∧ ptpDomain b = s.fld F.PTP_CLOCK_DOMAIN ∧ s.ptpMaster p = true ∧ s.ptpP2p p = false ∧ s.ptpState p = 6 ∧ s.ethCanSend p = true)) master 0 (ptpOf .delayReq) &&
    (fun (s : State) (p : Nat) (b : List Byte) (f : PtpForeign) => decide (s.works Blk.PTP ∧ ptpKindOf b = some .announce ∧ ptpMalformed b = false ∧ ptpDomain b = s.fld F.PTP_CLOCK_DOMAIN ∧ s.ptpMaster p = true ∧ 1 ≤ s.fldB p F.PTP_PORT_CFG_ANN_TO ∧ ptpSrc b / 65536 ≠ Bytes.toNat s.clockId.reverse ∧ (announceData b).getLastD 0 < 255 ∧ f ∈ (s.ptpPort p).foreign ∧ f.id = ptpSrc b ∧ s.mono < f.last + 4 * s.announceNs p ∧ dataBetter (announceData b) s.ownData = true)) { master with ptp := [(0, { PtpPort.idle with foreign := [⟨2 ^ 70 + 5, 999900000000, false, []⟩] })] } 0 (ptpOf .announce 0 (some goodClock)) ⟨2 ^ 70 + 5, 999900000000, false, []⟩ &&
    (fun (s : State) (p : Nat) (b : List Byte) => decide (s.works Blk.PTP ∧ s.ptpMode p ≠ 0 ∧ (ptpMalformed b = true ∨ ptpDomain b ≠ s.fld F.PTP_CLOCK_DOMAIN))) master 0 [0#8, 2#8] &&
    (fun (s : State) (p : Nat) (b : List Byte) => decide (s.works Blk.PTP ∧ s.ptpMode p = 0)) master 1 (ptpOf .announce 0 (some goodClock)) &&
    (fun (s : State) (p seq t1 t4 t2 : Nat) (c : Int) (b : List Byte) => decide (s.works Blk.PTP ∧ ptpKindOf b = some .pdelayRespFollowUp ∧ ptpMalformed b = false ∧ ptpDomain b = s.fld F.PTP_CLOCK_DOMAIN ∧ s.ptpMode p ≠ 0 ∧ s.ptpPeer p = true ∧ (s.ptpPort p).asked = some (seq, t1) ∧ (s.ptpPort p).answer = some (t4, t2, c) ∧ ptpSeq b = seq ∧ ptpReq b = s.portId p)) { (bridge.setFldB 1 F.PTP_PORT_CFG_P2P 1) with ptp := [(1, { PtpPort.idle with asked := some (9, 7000000000), answer := some (7000000900, 7000000100, 0) })] } 1 9 7000000000 7000000900 7000000100 0 (ptpOf .pdelayRespFollowUp (bridge.portId 1)) &&
    (fun (s : State) (p : Nat) => decide (s.works Blk.PTP ∧ s.expert Blk.PTP = false ∧ s.ptpPeer p = true ∧ s.ethCanSend p = true ∧ dueSince s (s.ptpPort p).pdelayAt (logNs (s.logPdelay p)) = true)) (master.setFldB 0 F.PTP_PORT_CFG_P2P 1) 0 &&
    (fun (s : State) (p rxAt txAt : Nat) (h q b : List Byte) => decide (s.works Blk.PTP ∧ b = h ++ q ∧ rxAt ≤ txAt ∧ p < 2 ∧ s.ptpMode p = 2 ∧ s.ptpMode (1 - p) = 2 ∧ s.expert Blk.PTP = false ∧ s.ethCanSend (1 - p) = true ∧ ptpKindOf b = some .sync ∧ ptpMalformed b = false ∧ ptpDomain b = s.fld F.PTP_CLOCK_DOMAIN ∧ ptpTwoStep b = false)) ((bridge.setFldB 1 F.PTP_PORT_CFG_P2P 1).setFldB 1 F.PTP_PORT_STAT_LINK_NS 40) 1 100 1000 ((ptpOf .sync).take 34) ((ptpOf .sync).drop 34) (ptpOf .sync) &&
    (fun (s : State) (p rxAt txAt : Nat) (h q b : List Byte) (c : Int) => decide (s.works Blk.PTP ∧ b = h ++ q ∧ p < 2 ∧ s.ptpMode p = 2 ∧ s.ptpMode (1 - p) = 2 ∧ s.expert Blk.PTP = false ∧ s.ethCanSend (1 - p) = true ∧ ptpKindOf b = some .followUp ∧ ptpMalformed b = false ∧ ptpDomain b = s.fld F.PTP_CLOCK_DOMAIN ∧ ((s.ptpPort p).fwd.find? fun e => e.1 == ptpSrc b && e.2.1 == ptpSeq b) = some (ptpSrc b, ptpSeq b, c))) { bridge with ptp := [(1, { PtpPort.idle with fwd := [(2 ^ 70 + 5, 9, 940)] })] } 1 100 1000 ((ptpOf .followUp).take 34) ((ptpOf .followUp).drop 34) (ptpOf .followUp) 940 &&
    (fun (s : State) (p rxAt txAt : Nat) (h q b : List Byte) (k : PtpKind) => decide (s.works Blk.PTP ∧ b = h ++ q ∧ s.ptpP2p p = true ∧ ptpKindOf b = some k ∧ k.peer = true)) ((bridge.setFldB 1 F.PTP_PORT_CFG_P2P 1)) 1 100 1000 ((ptpOf .pdelayReq).take 34) ((ptpOf .pdelayReq).drop 34) (ptpOf .pdelayReq) .pdelayReq) = true := by decide +kernel

/-- Clauses of `AntennasAndSurveys` are met by concrete states. -/
theorem test_witness_antennas_and_surveys_1 :
    ((fun (s : State) (a : Nat) => decide (a < 2 ∧ s.biasOn a = true ∧ s.flag (antShort a) = false ∧ s.grx.survey = none)) live 0 &&
    (fun (s : State) (a : Nat) => decide (a < 2 ∧ s.biasOn a = true ∧ s.flag (antShort a) = true)) (withGrx (fun g => { g with retry := [(1, some 5)] }) (live.setFld (antShort 1) 1)) 1 &&
    (fun (s : State) (a : Nat) => decide (a < 2 ∧ s.biasOn a = false)) (live.setFld F.GRX_ANT_BIAS_EN_A 0) 0 &&
    (fun (s : State) (a : Nat) => decide (a < 2 ∧ s.biasOn a = false)) (live.setFld F.GRX_ANT_BIAS_EN_A 0) 0 &&
    (fun (s : State) (a : Nat) => decide (a < 2 ∧ s.biasOn a = true ∧ s.flag (antOpen a) = false)) live 1 &&
    (fun (s : State) (a : Nat) => decide (a < 2 ∧ s.running = true ∧ s.expert Blk.GRX = false ∧ s.flag (antShort a) = true ∧ s.flag (antBiasEn a) = true ∧ dueSince s (s.grx.shortAt.get none a) (10 * nsPerSec) = true ∧ s.grx.retry.get none a = none)) (live.setFld (antShort 0) 1) 0 &&
    (fun (s : State) (a : Nat) => decide (a < 2 ∧ s.running = true ∧ s.expert Blk.GRX = false ∧ s.flag (antShort a) = true ∧ s.flag (antBiasEn a) = true ∧ dueSince s (s.grx.shortAt.get none a) (10 * nsPerSec) = true ∧ s.grx.retry.get none a = none)) (live.setFld (antShort 1) 1) 1 &&
    (fun (s : State) (a at' : Nat) => decide (a < 2 ∧ s.running = true ∧ s.grx.retry.get none a = some at' ∧ s.passed at' nsPerSec = true)) (withGrx (fun g => { g with retry := [(0, some 999000000000)] }) (live.setFld (antShort 0) 1)) 0 999000000000 &&
    (fun (s : State) (p : List Int) (v : Int) => decide (s.running = true ∧ s.heldPos (s.fld F.GRX_POS_SEL_ANT) = some p ∧ v = p.getD (s.fld F.GRX_POS_SEL_AXIS) 0)) (heldA.setFld ⟨R.GRX_POS_SEL, 2, 0⟩ 1) [10, 1099511627776, -5] 1099511627776 &&
    (fun (s : State) (w : Word) (b : Nat) => decide (s.running = true ∧ b = s.fld ⟨R.GRX_POS_SEL, 2, 0⟩)) (live.setFld ⟨R.GRX_POS_SEL, 2, 0⟩ 6) 0xFFFFFFFF#32 6 &&
    (fun (s : State) => decide (s.works Blk.GRX ∧ 10 ≤ s.fld F.GRX_SURVEY_DURATION_MIN ∧ s.fld F.GRX_SURVEY_DURATION_MIN ≤ 1440)) heldA &&
    (fun (s : State) => decide (s.works Blk.GRX ∧ s.blkOn Blk.SLV = false ∧ s.grx.survey = none ∧ 10 ≤ s.fld F.GRX_SURVEY_DURATION_MIN ∧ s.fld F.GRX_SURVEY_DURATION_MIN ≤ 1440)) unsolved &&
    (fun (s : State) (d : Nat) => decide (s.works Blk.GRX ∧ s.blkOn Blk.SLV = false ∧ s.grx.survey = none ∧ 10 ≤ d ∧ d ≤ 1440)) unsolved 10 &&
    (fun (s : State) (d : Nat) => decide (s.works Blk.GRX ∧ s.blkOn Blk.SLV = true ∧ s.grx.survey = none ∧ 10 ≤ d ∧ d ≤ 1440)) live 1440) = true := by decide +kernel

/-- Clauses of `AntennasAndSurveys` are met by concrete states. -/
theorem test_witness_antennas_and_surveys_2 :
    ((fun (s : State) => decide (s.works Blk.GRX ∧ s.grx.survey.isSome = true ∧ 10 ≤ s.fld F.GRX_SURVEY_DURATION_MIN ∧ s.fld F.GRX_SURVEY_DURATION_MIN ≤ 1440)) (withGrx (fun g => { g with survey := some ⟨true, 0, 5, 0, [0, 0, 0]⟩ }) unsolved) &&
    (fun (s : State) => decide (s.works Blk.GRX ∧ 10 ≤ s.fld F.GRX_SURVEY_DURATION_MIN ∧ s.fld F.GRX_SURVEY_DURATION_MIN ≤ 1440)) live &&
    (fun (s : State) (v : GrxSurvey) (fixedMin : Nat) (vec a b m : List Int) => decide (s.works Blk.GRX ∧ 10 ≤ fixedMin ∧ s.grx.survey = some v ∧ s.passed v.since (((if v.self then s.fld F.GRX_SURVEY_DURATION_MIN else 0) + 10) * 60 * nsPerSec) = true ∧ a = (if v.self then v.mean else (s.knownPos 0).getD [0, 0, 0]) ∧ m = (a.zip vec).map (fun c => c.1 + c.2) ∧ b = (s.knownPos 1).getD m ∧ beyond10km s.siteOrigin a = false ∧ minBaseline2 ≤ dist2 a b ∧ dist2 b m ≤ (10 * s.fld F.GRX_BASE_TOL_MM : Int) * (10 * s.fld F.GRX_BASE_TOL_MM : Int))) (withGrx (fun g => { g with survey := some ⟨false, 400000000000, 0, 0, [0, 0, 0]⟩ }) unsolved) ⟨false, 400000000000, 0, 0, [0, 0, 0]⟩ 10 [200000, 0, 0] [0, 0, 0] [200000, 0, 0] [200000, 0, 0] &&
    (fun (s : State) (v : GrxSurvey) (fixedMin : Nat) (vec a b m : List Int) => decide (s.works Blk.GRX ∧ 10 ≤ fixedMin ∧ s.grx.survey = some v ∧ s.passed v.since (((if v.self then s.fld F.GRX_SURVEY_DURATION_MIN else 0) + 10) * 60 * nsPerSec) = true ∧ a = (if v.self then v.mean else (s.knownPos 0).getD [0, 0, 0]) ∧ m = (a.zip vec).map (fun c => c.1 + c.2) ∧ b = (s.knownPos 1).getD m)) (withGrx (fun g => { g with survey := some ⟨false, 400000000000, 0, 0, [0, 0, 0]⟩ }) unsolved) ⟨false, 400000000000, 0, 0, [0, 0, 0]⟩ 10 [20, 0, 0] [0, 0, 0] [20, 0, 0] [20, 0, 0] &&
    (fun (s : State) (vec : List Int) (fixedMin : Nat) (v : GrxSurvey) => decide (s.grx.survey = some v ∧ (fixedMin < 10 ∨ s.passed v.since (((if v.self then s.fld F.GRX_SURVEY_DURATION_MIN else 0) + 10) * 60 * nsPerSec) = false))) (withGrx (fun g => { g with survey := some ⟨false, 400000000000, 0, 0, [0, 0, 0]⟩ }) unsolved) [] 9 ⟨false, 400000000000, 0, 0, [0, 0, 0]⟩) = true := by decide +kernel

/-- Clauses of `ReferenceEpochs` are met by concrete states. -/
theorem test_witness_reference_epochs :
    ((fun (s u : State) (m : RefMeas) (e bad : Nat) (a b : AntSet) => decide (s.works Blk.GRX ∧ s.epochReady e ∧ u = s.reported e m ∧ a = u.antSet 0 e m.a m.chans ∧ b = u.antSet 1 e m.b m.chans ∧ bad = u.failingChecks m a b (u.epochDds e a b).1 &&& s.fld F.GRX_SPOOF_CHK_EN)) (atEpoch heldA) ((atEpoch heldA).reported 600000 epochMeas) epochMeas 600000 0 (((atEpoch heldA).reported 600000 epochMeas).antSet 0 600000 epochMeas.a []) (((atEpoch heldA).reported 600000 epochMeas).antSet 1 600000 epochMeas.b []) &&
    (fun (s u : State) (m : RefMeas) (e : Nat) (a b : AntSet) => decide (s.works Blk.GRX ∧ s.epochReady e ∧ u = s.reported e m ∧ a = u.antSet 0 e m.a m.chans ∧ b = u.antSet 1 e m.b m.chans ∧ s.expert Blk.GRX = false ∧ s.grx.survey = none ∧ u.failingChecks m a b (u.epochDds e a b).1 &&& s.fld F.GRX_SPOOF_CHK_EN = 0 ∧ s.flag F.GRX_STATUS_SPOOF_ALARM = false ∧ s.flag F.GRX_STATUS_BASE_ALARM = false ∧ u.epochFix e a b = none ∧ s.nand.heldA.isSome = true ∧ s.biasOn 0 = true ∧ s.flag (antShort 0) = false ∧ s.flag (antOpen 0) = false ∧ s.timeValid = true ∧ m.a.clkOff.natAbs ≤ 1000000 ∧ s.grx.aNamed = false ∧ s.flag F.GRX_OUT_SET_EN = false)) (atEpoch heldA) ((atEpoch heldA).reported 600000 epochMeas) epochMeas 600000 (((atEpoch heldA).reported 600000 epochMeas).antSet 0 600000 epochMeas.a []) (((atEpoch heldA).reported 600000 epochMeas).antSet 1 600000 epochMeas.b []) &&
    (fun (s u : State) (m : RefMeas) (e : Nat) (a b : AntSet) => decide (s.works Blk.GRX ∧ s.epochReady e ∧ u = s.reported e m ∧ a = u.antSet 0 e m.a m.chans ∧ b = u.antSet 1 e m.b m.chans ∧ s.flag F.GRX_STATUS_SPOOF_ALARM = false ∧ u.failingChecks m a b (u.epochDds e a b).1 &&& s.fld F.GRX_SPOOF_CHK_EN ≠ 0)) (withGrx (fun g => { g with dataBad := true }) (atEpoch heldA)) ((withGrx (fun g => { g with dataBad := true }) (atEpoch heldA)).reported 600000 epochMeas) epochMeas 600000 (((withGrx (fun g => { g with dataBad := true }) (atEpoch heldA)).reported 600000 epochMeas).antSet 0 600000 epochMeas.a []) (((withGrx (fun g => { g with dataBad := true }) (atEpoch heldA)).reported 600000 epochMeas).antSet 1 600000 epochMeas.b []) &&
    (fun (s : State) (m : RefMeas) => decide ((s.devClause < 100 * (s.devClause / 100) + 8 ∨ s.grx.lastEpoch = some (100 * (s.devClause / 100))))) (withGrx (fun g => { g with lastEpoch := some 600000 }) (atEpoch live)) epochMeas &&
    (fun (s : State) => decide (s.works Blk.GRX ∧ s.flag F.GRX_STATUS_SPOOF_ALARM = true ∧ s.expert Blk.GRX = false ∧ dueSince s s.grx.badAt (s.fld F.GRX_SPOOF_HOLD_S * nsPerSec) = true)) ((live.setFld F.GRX_STATUS_SPOOF_ALARM 1).setFld F.GRX_SPOOF_ALARM 1) &&
    (fun (s : State) => decide ((s.flag F.GRX_STATUS_SPOOF_ALARM = false ∨ s.expert Blk.GRX = true ∨ dueSince s s.grx.badAt (s.fld F.GRX_SPOOF_HOLD_S * nsPerSec) = false))) live &&
    (fun (s : State) (w : Word) => decide (s.works Blk.GRX ∧ s.flag F.GRX_STATUS_SPOOF_ALARM = true ∧ F.GRX_SPOOF_ALARM.get w = 1 ∧ 10 ≤ F.GRX_SPOOF_HOLD_S.get w ∧ s.fld F.GRX_SPOOF_FAILED &&& F.GRX_SPOOF_CHK_EN.get w = 0 ∧ s.expert Blk.GRX = true)) (((live.setFld F.GRX_STATUS_SPOOF_ALARM 1).setFld F.GRX_SPOOF_ALARM 1).setFld F.GRX_CTRL_LEVEL 1) 0x800A003F#32 &&
    (fun (s : State) (w : Word) => decide (s.works Blk.GRX ∧ 10 ≤ F.GRX_SPOOF_HOLD_S.get w ∧ (s.expert Blk.GRX = false ∨ s.fld F.GRX_SPOOF_FAILED &&& F.GRX_SPOOF_CHK_EN.get w ≠ 0))) ((live.setFld F.GRX_STATUS_SPOOF_ALARM 1).setFld F.GRX_SPOOF_ALARM 1) 0x800A003F#32 &&
    (fun (s : State) (v : RefEpoch) (r : Nat) => decide (s.works Blk.GRX ∧ s.grx.ref = some v ∧ s.rtcmOn = true ∧ s.onRate v.epoch = true ∧ s.flag F.GRX_STATUS_SPOOF_ALARM = false ∧ s.grx.posDue = false ∧ s.flag F.EVT_RING_EN = false ∧ s.flag F.LOG_CFG_OUT_EN = false ∧ r = s.fld F.GRX_RTCM_RING)) (withGrx (fun g => { g with ref := some (ref1 600000) }) rtcmLive) (ref1 600000) 9 &&
    (fun (s : State) (v : RefEpoch) => decide (s.works Blk.GRX ∧ s.grx.ref = some v ∧ (s.rtcmOn = false ∨ s.onRate v.epoch = false ∨ s.flag F.GRX_STATUS_SPOOF_ALARM = true))) (withGrx (fun g => { g with ref := some (ref1 600100) }) rtcmLive) (ref1 600100) &&
    (fun (s : State) (epoch : Nat) => decide (s.grx.ref.all (fun v => v.epoch != epoch) = true)) (withGrx (fun g => { g with ref := some (ref1 600000) }) rtcmLive) 600100 &&
    (fun (s : State) (r : Nat) => decide (s.works Blk.GRX ∧ s.rtcmOn = true ∧ dueSince s s.grx.stationAt (10 * nsPerSec) = true ∧ s.grx.lastAnt = 0 ∧ s.nand.heldA.isSome = true ∧ s.flag F.EVT_RING_EN = false ∧ s.flag F.LOG_CFG_OUT_EN = false ∧ r = s.fld F.GRX_RTCM_RING)) rtcmLive 9 &&
    (fun (s : State) => decide ((s.rtcmOn = false ∨ dueSince s s.grx.stationAt (10 * nsPerSec) = false))) live) = true := by decide +kernel

/-- Clauses of `Tracking` are met by concrete states. -/
theorem test_witness_tracking_1 :
    ((fun (s : State) (views : List SatView) (c sig : Nat) (cs : List Nat) (v : SatView) (rest : List SatView) => decide (s.works Blk.GRX ∧ s.expert Blk.GRX = false ∧ s.chans.filter (fun c => (s.chan c).svid != 0) = [] ∧ 1 ≤ sig ∧ sig ≤ 16 ∧ s.freeChans sig 0 = c :: cs ∧ s.assignable views sig 0 = v :: rest)) pooled [⟨1, 0, 7, 4000⟩] 0 1 [1] ⟨1, 0, 7, 4000⟩ [] &&
    (fun (s : State) (views : List SatView) (c : Nat) => decide (s.works Blk.GRX ∧ s.expert Blk.GRX = false ∧ c < 384 ∧ s.chanSig c ≠ 0 ∧ s.chanSig c ≤ 16 ∧ s.chanFixed c = false ∧ (s.chan c).svid ≠ 0 ∧ (s.chan c).state < 3 ∧ s.passed (s.chan c).since (60 * nsPerSec) = true)) (tracking 2) [⟨1, 0, 7, 4000⟩, ⟨1, 0, 9, 3000⟩] 0 &&
    (fun (s : State) (ch : Nat) => decide (s.works Blk.GRX ∧ (s.chan ch).state = 2)) (tracking 2) 0 &&
    (fun (s : State) (ch : Nat) (lost : Bool) => decide (s.works Blk.GRX ∧ 3 ≤ (s.chan ch).state)) (tracking 4) 0 true &&
    (fun (s : State) (r : NavRec) => decide (s.navPossible r = false)) live (navOf false 0 none none) &&
    (fun (s : State) (r : NavRec) => decide (s.works Blk.GRX ∧ s.navPossible r = true ∧ s.flag F.GRX_OUT_NAV_EN = false ∧ r.passed = false)) (tracking 3) (navOf false 0 none none) &&
    (fun (s : State) (r : NavRec) => decide (s.works Blk.GRX ∧ s.flag F.GRX_OUT_NAV_EN = false ∧ r.passed = true ∧ r.fec = 2)) (tracking 3) (navOf true 2 none none) &&
    (fun (s : State) (r : NavRec) => decide (s.works Blk.GRX ∧ s.navPossible r = true ∧ s.flag F.GRX_OUT_NAV_EN = false ∧ r.passed = true ∧ r.fec < 2 ∧ s.flag F.GRX_STATUS_SPOOF_ALARM = true ∧ r.eph = none)) ((tracking 3).setFld F.GRX_STATUS_SPOOF_ALARM 1) (navOf true 0 none none) &&
    (fun (s : State) (r : NavRec) (e c : NavEph) (k : Nat) => decide (s.works Blk.GRX ∧ s.navPossible r = true ∧ s.flag F.GRX_OUT_NAV_EN = false ∧ r.passed = true ∧ r.fec < 2 ∧ s.flag F.GRX_STATUS_SPOOF_ALARM = false ∧ r.eph = some e ∧ r.utc = none ∧ k = sigSys r.sig * 64 + r.svid ∧ s.grx.once.get none k = some c ∧ c.issue = e.issue ∧ c.content = e.content)) (withGrx (fun g => { g with once := [(7, some (eph5 6))] }) (tracking 3)) (navOf true 0 (some (eph5 6)) none) (eph5 6) (eph5 6) 7 &&
    (fun (s : State) (r : NavRec) (e : NavEph) (g : GrxEph) (l : List GrxEph) (k : Nat) => decide (s.works Blk.GRX ∧ s.navPossible r = true ∧ s.flag F.GRX_OUT_NAV_EN = false ∧ r.passed = true ∧ r.fec < 2 ∧ r.eph = some e ∧ r.utc = none ∧ k = sigSys r.sig * 64 + r.svid ∧ s.grx.eph.get [] k = g :: l ∧ g.issue = e.issue ∧ g.content ≠ e.content ∧ g.stored = false)) (withGrx (fun g => { g with eph := [(7, [⟨5, 6, 0, 0, [], false, 0⟩])] }) (tracking 3)) (navOf true 0 (some (eph5 9)) none) (eph5 9) ⟨5, 6, 0, 0, [], false, 0⟩ [] 7 &&
    (fun (s : State) (r : NavRec) (o : Nat) => decide (s.works Blk.GRX ∧ s.blkOn Blk.TIM = true ∧ s.navPossible r = true ∧ s.flag F.GRX_OUT_NAV_EN = false ∧ r.passed = true ∧ r.fec < 2 ∧ s.flag F.GRX_STATUS_SPOOF_ALARM = false ∧ r.eph = none ∧ r.utc = some (o, none) ∧ o < 256)) (tracking 3) (navOf true 0 none (some (37, none))) 37 &&
    (fun (s : State) => decide (s.works Blk.GRX)) live &&
    (fun (s : State) (ant path : Nat) (p : SpecPeak) => decide (s.works Blk.GRX ∧ s.expert Blk.GRX = false ∧ s.fld F.GRX_JAM_NOTCH_THR ≤ p.db ∧ p.kHz ≤ 2000 ∧ inBand path p.offset = true ∧ s.grx.peaks.get [] (pathKey ant path) = [(p.offset, 4)] ∧ (∀ n ∈ List.range 4, s.grx.notches.get none (notchKey ant path n) = none))) (withGrx (fun g => { g with peaks := [(4, [(-40, 4)])] }) live) 1 1 ⟨-40, 180, 12⟩ &&
    (fun (s : State) (ant path : Nat) (peaks : List SpecPeak) => decide (s.works Blk.GRX ∧ s.expert Blk.GRX = true)) (live.setFld F.GRX_CTRL_LEVEL 1) 0 0 []) = true := by decide +kernel

/-- Clauses of `Tracking` are met by concrete states. -/
theorem test_witness_tracking_2 :
    ((fun (s : State) (w : Word) (k : Nat) => decide (s.works Blk.GRX ∧ s.expert Blk.GRX = true ∧ k = notchKey (s.fld F.GRX_NOTCH_IDX_ANT) (s.fld F.GRX_NOTCH_IDX_PATH) (s.fld F.GRX_NOTCH_IDX_NOTCH) ∧ F.GRX_NOTCH_SET_ACTIVE.get w = 1 ∧ (signedOf 13 (F.GRX_NOTCH_SET_OFFSET.get w)).natAbs ≤ 3900)) (live.setFld F.GRX_CTRL_LEVEL 1) 0xA0001FFF#32 0 &&
    (fun (s : State) (w : Word) => decide (s.works Blk.GRX ∧ s.expert Blk.GRX = false ∧ (signedOf 13 (F.GRX_NOTCH_SET_OFFSET.get w)).natAbs ≤ 3900)) live 0x80000000#32 &&
    (fun (s : State) (ant path db most : Nat) (atLimit : Bool) => decide (s.works Blk.GRX ∧ ant < 2 ∧ path < 3 ∧ s.fld (jamFld ant path) < jamLevel db atLimit)) live 1 2 10 10 false &&
    (fun (s : State) (ant path db most : Nat) => decide (s.works Blk.GRX ∧ ant < 2 ∧ path < 3 ∧ jamLevel db false ≤ s.fld (jamFld ant path))) (live.setFld (jamFld 1 2) 3) 1 2 9 17) = true := by decide +kernel

/-- Clauses of `SolveIntake` are met by concrete states. -/
theorem test_witness_solve_intake_1 :
    ((fun (s : State) (rx : AirRx) (mi : Nat) (p : List Byte) => decide (s.works Blk.AIR ∧ s.slvSolves = true ∧ (s.airFrom Ft.OBS rx).2 = some mi ∧ p = (s.rxFrame rx).payload ∧ s.bundleOk mi p = true ∧ s.slv.intake.find? (fun c => c.mi == mi) = none)) (onAir.setFldB 7 F.SLV_MACH_CFG_VALID 1) (⟨1, octets [41, 1, 0, 0, 7, 1, 9, 0, 0, 0, 0, 255, 7, 0, 2, 1, 192, 39, 9, 0, 0, 0, 0, 0, 0, 9, 1, 0, 4, 0, 0, 0, 0, 0, 0, 0, 0, 0, 0, 0, 0, 0, 0, 0, 147, 27, 143, 111, 44, 48, 124, 86, 28, 199, 0, 100], 80⟩ : AirRx) 7 bundleOf7 &&
    (fun (s : State) (rx : AirRx) (mi : Nat) => decide (s.works Blk.AIR ∧ s.slvSolves = true ∧ (s.airFrom Ft.OBS rx).2 = some mi ∧ s.bundleOk mi (s.rxFrame rx).payload = false)) (onAir.setFldB 7 F.SLV_MACH_CFG_VALID 1) (⟨1, octets [41, 1, 0, 0, 7, 1, 9, 0, 0, 0, 0, 255, 1, 163, 151, 147, 208, 170, 25, 166, 31, 114, 172, 233, 95], 80⟩ : AirRx) 7 &&
    (fun (s : State) (rx : AirRx) => decide (s.slvSolves = false)) { onAir with ahn := { onAir.ahn with role := .ready } } (⟨1, octets [41, 1, 0, 0, 7, 1, 9, 0, 0, 0, 0, 255, 7, 0, 2, 1, 192, 39, 9, 0, 0, 0, 0, 0, 0, 9, 1, 0, 4, 0, 0, 0, 0, 0, 0, 0, 0, 0, 0, 0, 0, 0, 0, 0, 147, 27, 143, 111, 44, 48, 124, 86, 28, 199, 0, 100], 80⟩ : AirRx) &&
    (fun (s : State) (at' len : Nat) (last : Bool) (msg : List Byte) (m : MsmRead) (epoch : Nat) => decide (s.works Blk.SLV ∧ s.isStandby = false ∧ (s.auxTake 4 at' len last).2 = some msg ∧ msmRead msg = some m ∧ epoch = msmClause m.sys m.tow s.devClause s.siteEpoch ∧ m.station < 2048 ∧ s.slvValid m.station = true ∧ s.flagB m.station F.SLV_MACH_CFG_LINK_IN = true ∧ epoch % 100 = 0 ∧ m.more = false ∧ s.slv.intake.find? (fun c => c.mi == m.station) = none)) (streamed 4 (msm7 0)) 0 (msm7 0).length true (bitBytes [(12, 1077), (12, 7), (30, msmEpoch 0 600000 0), (1, 0), (114, 0)]) ⟨0, 7, msmEpoch 0 600000 0, false, []⟩ 600000 &&
    (fun (s : State) (at' len : Nat) (last : Bool) (msg : List Byte) (m : MsmRead) (epoch : Nat) => decide (s.works Blk.SLV ∧ s.isStandby = false ∧ (s.auxTake 4 at' len last).2 = some msg ∧ msmRead msg = some m ∧ epoch = msmClause m.sys m.tow s.devClause s.siteEpoch ∧ m.station < 2048 ∧ s.slvValid m.station = true ∧ s.flagB m.station F.SLV_MACH_CFG_LINK_IN = true ∧ epoch % 100 = 0 ∧ m.more = true)) (streamed 4 (msm7 1)) 0 (msm7 1).length true (bitBytes [(12, 1077), (12, 7), (30, msmEpoch 0 600000 0), (1, 1), (114, 0)]) ⟨0, 7, msmEpoch 0 600000 0, true, []⟩ 600000) = true := by decide +kernel

/-- Clauses of `SolveIntake` are met by concrete states. -/
theorem test_witness_solve_intake_2 :
    ((fun (s : State) (at' len : Nat) (last : Bool) => decide (s.works Blk.SLV ∧ s.isStandby = false ∧ (s.auxTake 4 at' len last).2 = none)) lanesLive 0 0 true &&
    (fun (s : State) (epoch : Nat) => decide (s.works Blk.SLV ∧ s.slv.refs.any (fun r => r.epoch == epoch && r.usable) = false ∧ s.slv.mode = .grx ∧ epoch + 12 ≤ s.devClause ∧ s.fld F.SLV_PRED_PRED_MS ≠ 0)) (withSlv (fun v => { v with mode := .grx }) lanesLive) 599988 &&
    (fun (s : State) (epoch : Nat) => decide (s.works Blk.SLV ∧ s.slv.refs.any (fun r => r.epoch == epoch && r.usable) = true)) (withSlv (fun v => { v with refs := [reG] }) lanesLive) 600000 &&
    (fun (s : State) (at' : Nat) => decide (s.works Blk.SLV ∧ s.slv.mode = .predicted ∧ s.slv.lastOkAt = some at' ∧ s.passed at' (s.fld F.SLV_PRED_PRED_MS * nsPerMs) = true ∧ s.auxFallback = none)) (withSlv (fun v => { v with mode := .predicted, lastOkAt := some 999000000000 }) lanesLive) 999000000000 &&
    (fun (s : State) (at' n : Nat) => decide (s.works Blk.SLV ∧ s.slv.mode = .predicted ∧ s.slv.lastOkAt = some at' ∧ s.passed at' (s.fld F.SLV_PRED_PRED_MS * nsPerMs) = true ∧ s.auxFallback = some n)) (withSlv (fun v => { v with mode := .predicted, lastOkAt := some 999000000000, aux := [(2, { SlvAux.idle with live := true })] }) ((lanesLive.setFldB 2 F.SLV_AUX_CFG_EN 1).setFldB 2 F.SLV_AUX_CFG_FALLBACK 1)) 999000000000 2) = true := by decide +kernel

/-- Clauses of `SolveIntake` are met by concrete states. -/
theorem test_witness_solve_intake_3 :
    ((fun (s : State) (n at' len : Nat) (last : Bool) (msg : List Byte) (m : MsmRead) (epoch : Nat) => decide (s.works Blk.SLV ∧ s.isStandby = false ∧ s.auxLane = true ∧ n < 4 ∧ (s.auxTake n at' len last).2 = some msg ∧ msmRead msg = some m ∧ m.station = s.fldB n F.SLV_AUX_CFG_STATION ∧ m.more = false ∧ epoch = msmClause m.sys m.tow s.devClause s.siteEpoch)) (withSlv (fun v => { v with mode := .fallback 1 }) (streamed 1 (msm7 0))) 1 0 (msm7 0).length false (bitBytes [(12, 1077), (12, 7), (30, msmEpoch 0 600000 0), (1, 0), (114, 0)]) ⟨0, 7, msmEpoch 0 600000 0, false, []⟩ 600000 &&
    (fun (s : State) (n at' len : Nat) (last : Bool) (msg : List Byte) (m : MsmRead) (epoch : Nat) => decide (s.works Blk.SLV ∧ s.isStandby = false ∧ s.auxLane = true ∧ n < 4 ∧ (s.auxTake n at' len last).2 = some msg ∧ msmRead msg = some m ∧ m.station = s.fldB n F.SLV_AUX_CFG_STATION ∧ m.more = true ∧ epoch = msmClause m.sys m.tow s.devClause s.siteEpoch)) (streamed 1 (msm7 1)) 1 0 (msm7 1).length false (bitBytes [(12, 1077), (12, 7), (30, msmEpoch 0 600000 0), (1, 1), (114, 0)]) ⟨0, 7, msmEpoch 0 600000 0, true, []⟩ 600000 &&
    (fun (s : State) (n at' len : Nat) (last : Bool) (station : Nat) (msg : List Byte) (p : List Int) => decide (s.works Blk.SLV ∧ s.isStandby = false ∧ s.auxLane = true ∧ n < 4 ∧ (s.auxTake n at' len last).2 = some msg ∧ stationRead msg = some (station, p) ∧ station = s.fldB n F.SLV_AUX_CFG_STATION)) (streamed 1 station7) 1 0 station7.length true 7 (bitBytes [(12, 1005), (12, 7), (10, 0), (38, 1), (2, 0), (38, 2), (2, 0), (38, 3)]) [1, 2, 3] &&
    (fun (s : State) (n at' : Nat) => decide (s.works Blk.SLV ∧ (s.auxSt n).live = true ∧ (s.auxSt n).at' = some at' ∧ s.passed at' (2 * nsPerSec) = true ∧ s.slv.mode ≠ .fallback n)) (withSlv (fun v => { v with aux := [(1, { SlvAux.idle with at' := some 998000000000, live := true })] }) (streamed 1 station7)) 1 998000000000 &&
    (fun (s : State) (mi : Nat) (b : Bundle) => decide (s.works Blk.SLV ∧ s.isStandby = false ∧ s.slv.intake.find? (fun b => b.mi == mi && b.matched.isNone) = some b ∧ s.bundleStale b = true)) (withSlv (fun v => { v with intake := [b7 none], filters := [(7, { SlvFilter.fresh with lastEpoch := some 600000 })] }) lanesLive) 7 (b7 none)) = true := by decide +kernel

/-- Clauses of `SolveIntake` are met by concrete states. -/
theorem test_witness_solve_intake_4 :
    ((fun (s : State) (mi : Nat) (b : Bundle) => decide (s.works Blk.SLV ∧ s.isStandby = false ∧ s.slv.intake.find? (fun b => b.mi == mi && b.matched.isNone) = some b ∧ s.bundleStale b = false ∧ b.epoch + 2000 < s.devClause)) (withSlv (fun v => { v with intake := [{ b7 none with epoch := 597900 }] }) lanesLive) 7 { b7 none with epoch := 597900 } &&
    (fun (s : State) (mi : Nat) (b : Bundle) (r : RefEpoch) => decide (s.works Blk.SLV ∧ s.isStandby = false ∧ s.slv.intake.find? (fun b => b.mi == mi && b.matched.isNone) = some b ∧ s.bundleStale b = false ∧ s.devClause ≤ b.epoch + 2000 ∧ s.fldB b.mi F.SLV_MACH_CFG_REFSEL = 0 ∧ s.slv.refs.find? (fun r => r.epoch == b.epoch && r.usable) = some r)) (withSlv (fun v => { v with intake := [b7 none], refs := [reG] }) lanesLive) 7 (b7 none) reG &&
    (fun (s : State) (lane : Nat) (b : Bundle) => decide (s.works Blk.SLV ∧ s.isStandby = false ∧ s.nextBundle = some b ∧ s.lanesAwake.contains lane = true ∧ (s.lane lane).busy = none)) { withSlv (fun v => { v with intake := [b7 (some ⟨0, false, 0⟩)], filters := [(7, { SlvFilter.fresh with reset := true })] }) lanesLive with tai := 600065000000 } 0 (b7 (some ⟨0, false, 0⟩)) &&
    (fun (s : State) (lane : Nat) => decide (s.works Blk.SLV ∧ (s.nextBundle = none ∨ (s.lane lane).busy.isSome = true))) lanesLive 0) = true := by decide +kernel

/-- That epoch has a float solution, whatever the free values are. -/
theorem float_solves : (((solving (b7G ⟨0, true, 400⟩ (some reG))).slvFilter 7).float (solving (b7G ⟨0, true, 400⟩ (some reG))).laneCfg (b7G ⟨0, true, 400⟩ (some reG)) 0 reG (siteEnu (solving (b7G ⟨0, true, 400⟩ (some reG))).siteOrigin reG.pos)).isSome = true := by decide +kernel

/-- Clause 1 of `SolveOutcomes` is met by a concrete state and its solution. -/
theorem test_witness_solve_outcomes_clause1 : ∃ r : FloatSol,
    (fun (s : State) (lane : Nat) (b : Bundle) (u : RefUse) (re : RefEpoch) (r : FloatSol) (v : LaneTime) (g : SlvFilter) => s.works Blk.SLV ∧ s.isStandby = false ∧ (s.lane lane).busy = some b ∧ b.void = false ∧ s.slvValid b.mi = true ∧ b.matched = some u ∧ b.ref = some re ∧ (s.slvFilter b.mi).float s.laneCfg b u.src re (siteEnu s.siteOrigin re.pos) = some r ∧ g = (r.fixing s.laneCfg b v.searchUs).1) (solving (b7G ⟨0, true, 400⟩ (some reG))) 0 (b7G ⟨0, true, 400⟩ (some reG)) ⟨0, true, 400⟩ reG r ⟨500, 90⟩ (r.fixing (solving (b7G ⟨0, true, 400⟩ (some reG))).laneCfg (b7G ⟨0, true, 400⟩ (some reG)) 90).1 := by
  obtain ⟨r, h⟩ := Option.isSome_iff_exists.mp float_solves
  exact ⟨r, by decide +kernel, by decide +kernel, by decide +kernel, by decide +kernel, by decide +kernel, by decide +kernel, by decide +kernel, h, rfl⟩

/-- Clauses of `SolveOutcomes` are met by concrete states. -/
theorem test_witness_solve_outcomes_1 :
    ((fun (s : State) (lane : Nat) (b : Bundle) (u : RefUse) (v : LaneTime) => decide (s.works Blk.SLV ∧ s.isStandby = false ∧ (s.lane lane).busy = some b ∧ b.void = false ∧ s.slvValid b.mi = true ∧ b.matched = some u ∧ b.ref = none)) (solving (b7G ⟨0xFF, false, 0⟩ none)) 0 (b7G ⟨0xFF, false, 0⟩ none) ⟨0xFF, false, 0⟩ ⟨500, 90⟩ &&
    (fun (s : State) (lane : Nat) (b : Bundle) (u : RefUse) (re : RefEpoch) (v : LaneTime) => decide (s.works Blk.SLV ∧ s.isStandby = false ∧ (s.lane lane).busy = some b ∧ b.void = false ∧ s.slvValid b.mi = true ∧ b.matched = some u ∧ b.ref = some re ∧ geometryOk (sdsOf b.obs re (solutionSats b.obs re (s.fld F.SLV_MODEL_ELEV_MASK))) = false)) (solving (b7G ⟨0, false, 0⟩ (some reNone))) 0 (b7G ⟨0, false, 0⟩ (some reNone)) ⟨0, false, 0⟩ reNone ⟨500, 90⟩ &&
    (fun (s : State) (lane : Nat) (b : Bundle) (v : LaneTime) => decide (s.works Blk.SLV ∧ s.isStandby = false ∧ (s.lane lane).busy = some b ∧ (b.void = true ∨ s.slvValid b.mi = false))) (solving { b7G ⟨0, false, 0⟩ (some reG) with void := true }) 0 { b7G ⟨0, false, 0⟩ (some reG) with void := true } ⟨500, 90⟩ &&
    (fun (s : State) (lane : Nat) (v : LaneTime) => decide (s.works Blk.SLV ∧ s.isStandby = false ∧ (s.lane lane).busy = none)) lanesLive 0 ⟨500, 90⟩ &&
    (fun (s : State) (lane : Nat) (b : Bundle) => decide (s.works Blk.SLV ∧ lane < 32 ∧ s.pwr.outOfService.contains (TestUnit.lane, lane) = false ∧ (s.lane lane).busy = some b ∧ b.void = false)) (solving (b7 (some ⟨0, false, 0⟩))) 0 (b7 (some ⟨0, false, 0⟩)) &&
    (fun (s : State) (lane : Nat) => decide (s.works Blk.SLV ∧ lane < 32 ∧ s.pwr.outOfService.contains (TestUnit.lane, lane) = false ∧ (s.lane lane).busy = none)) lanesLive 1 &&
    (fun (s : State) (lane : Nat) => decide (s.works Blk.SLV ∧ s.pwr.outOfService.contains (TestUnit.lane, lane) = true)) { lanesLive with pwr := { lanesLive.pwr with outOfService := [(.lane, 1)] } } 1) = true := by decide +kernel

/-- Clauses of `SolveOutcomes` are met by concrete states. -/
theorem test_witness_solve_outcomes_2 :
    ((fun (s : State) (n : Nat) => decide (s.works Blk.SLV)) lanesLive 0 &&
    (fun (s : State) (n : Nat) => decide (s.works Blk.SLV)) lanesLive 0 &&
    (fun (s : State) (mi : Nat) => decide (s.works Blk.SLV)) lanesLive 7 &&
    (fun (s : State) (mi : Nat) => decide (s.works Blk.SLV ∧ s.isStandby = false ∧ s.slvMis = [mi] ∧ (s.slvRate mi).req = 0 ∧ s.rateWant mi ≠ 0)) ((lanesLive.setFldB 0 F.SLV_RCLASS_DATA_K_MAX 10).setFldB 0 F.SLV_RCLASS_DATA_K_ACQ 5) 7 &&
    (fun (s : State) (mi k since : Nat) => decide (s.works Blk.SLV ∧ s.isStandby = false ∧ s.expert Blk.SLV = false ∧ s.slvMis = [mi] ∧ s.rateWant mi = k ∧ (s.slvRate mi).req < k ∧ (s.slvRate mi).req ≠ 0 ∧ (s.slvRate mi).larger = some (k, since) ∧ s.passed since (5 * nsPerSec) = false)) (withSlv (fun v => { v with rates := [(7, ⟨1, 1, some (5, 999000000000), 0, 0, none, none⟩)] }) ((lanesLive.setFldB 0 F.SLV_RCLASS_DATA_K_MAX 10).setFldB 0 F.SLV_RCLASS_DATA_K_ACQ 5)) 7 5 999000000000 &&
    (fun (s : State) => decide (s.works Blk.SLV ∧ s.isStandby = false ∧ s.expert Blk.SLV = false)) lanesLive &&
    (fun (s : State) (lane : Nat) => decide (s.works Blk.SLV ∧ (s.lane lane).awake = true ∧ s.lanesWanted.contains lane = false ∧ (s.lane lane).busy = none ∧ s.passed (s.lane lane).idleAt (10 * nsPerSec) = true)) lanesLive 0) = true := by decide +kernel

/-- Clauses of `SolveOutcomes` are met by concrete states. -/
theorem test_witness_solve_outcomes_3 :
    ((fun (s : State) (lane : Nat) => decide (s.works Blk.SLV ∧ (s.lanesWanted.contains lane = true ∨ (s.lane lane).busy.isSome = true))) (solving (b7 none)) 0 &&
    (fun (s : State) (at' : Nat) => decide (s.works Blk.SLV ∧ s.slv.refusedAt = some at' ∧ s.passed at' (100 * nsPerMs) = true)) (withSlv (fun v => { v with refusedAt := some 999900000000, awakeWant := 2 }) lanesLive) 999900000000 &&
    (fun (s : State) (mi : Nat) => decide (s.works Blk.SLV ∧ s.isStandby = false)) lanesLive 7 &&
    (fun (s : State) (mi : Nat) => decide (s.works Blk.SLV ∧ s.isStandby = false)) lanesLive 7 &&
    (fun (f : SlvFilter) (b : Bundle) => decide (f.reset = true)) { SlvFilter.fresh with reset := true, fix := 3, hold := 9 } (b7 (some ⟨2, false, 0⟩))) = true := by decide +kernel

/-- Clauses of `HeadLinks` are met by concrete states. -/
theorem test_witness_head_links :
    ((fun (s : State) (l : Nat) => decide (s.works Blk.RHL ∧ l < 2 ∧ s.linkAuto l = true ∧ (s.rhLink l).state = 0 ∧ s.passed (s.rhLink l).since nsPerSec = true)) (linked 0 0 [] []) 1 &&
    (fun (s : State) (l : Nat) => decide (s.works Blk.RHL ∧ l < 2 ∧ s.expert Blk.RHL = true ∧ (s.rhLink l).state = 0)) ((linked 0 0 [] []).setFld F.RHL_CTRL_LEVEL 1) 1 &&
    (fun (s : State) (l : Nat) => decide (s.works Blk.RHL ∧ (s.expert Blk.RHL = false ∨ (s.rhLink l).state ≠ 0))) (linked 0 0 [] []) 1 &&
    (fun (s : State) (l : Nat) => decide (s.works Blk.RHL ∧ (s.rhLink l).state = 1)) (linked 1 0 [] []) 1 &&
    (fun (s : State) (l n st h c : Nat) (p : List Byte) => decide (s.works Blk.RHL ∧ (s.rhLink l).state = 2 ∧ readBlock (blockOf h st p c) = some (BlockType.STATUS, n, st, p) ∧ Bytes.at' p 0 1 = 0x90 ∧ (s.strUsed l).all (fun k => decide (k < Bytes.at' p 8 1) && bandCovers (Bytes.at' p 9 1) (s.strCentre l k)) = true)) (streaming 2) 1 0 0 (headerOf (statusBlock 0x90 0 0 77 [2#8, 1#8, 200#8, 0#8])) (crcOf (statusBlock 0x90 0 0 77 [2#8, 1#8, 200#8, 0#8])) (statusOf 0x90 0 0 77 [2#8, 1#8, 200#8, 0#8]) &&
    (fun (s : State) (l n st h c : Nat) (p : List Byte) => decide (s.works Blk.RHL ∧ (s.rhLink l).state = 2 ∧ readBlock (blockOf h st p c) = some (BlockType.STATUS, n, st, p) ∧ Bytes.at' p 0 1 = 0x90 ∧ (s.strUsed l).all (fun k => decide (k < Bytes.at' p 8 1) && bandCovers (Bytes.at' p 9 1) (s.strCentre l k)) = false)) (streaming 2) 1 0 0 (headerOf (statusBlock 0x90 0 0 77 [1#8, 1#8, 200#8, 0#8])) (crcOf (statusBlock 0x90 0 0 77 [1#8, 1#8, 200#8, 0#8])) (statusOf 0x90 0 0 77 [1#8, 1#8, 200#8, 0#8]) &&
    (fun (s : State) (l n st h c txAt rxAt : Nat) (p : List Byte) => decide (s.works Blk.RHL ∧ (s.rhLink l).state = 3 ∧ readBlock (blockOf h st p c) = some (BlockType.STATUS, n, st, p) ∧ Bytes.at' p 0 1 = 0x85 ∧ Bytes.at' p 4 1 = 0 ∧ (s.rhLink l).answers.contains (5 + 256 * Bytes.at' p 1 1, Bytes.at' p 2 2) = true ∧ (s.rhLink l).delays.length < 7)) (linked 3 2 [400] [(5, 9)]) 1 0 0 (headerOf (statusBlock 133 0 9 0 (Bytes.ofNat 4 500))) (crcOf (statusBlock 133 0 9 0 (Bytes.ofNat 4 500))) 100 1000 (statusOf 133 0 9 0 (Bytes.ofNat 4 500)) &&
    (fun (s : State) (l n st h c txAt rxAt : Nat) (p : List Byte) => decide (s.works Blk.RHL ∧ (s.rhLink l).state = 3 ∧ readBlock (blockOf h st p c) = some (BlockType.STATUS, n, st, p) ∧ Bytes.at' p 0 1 = 0x85 ∧ Bytes.at' p 4 1 = 0 ∧ (s.rhLink l).answers.contains (5 + 256 * Bytes.at' p 1 1, Bytes.at' p 2 2) = true ∧ (s.rhLink l).delays.length = 7 ∧ s.strUsed l = [] ∧ (s.rhLink l).answers.length = 1)) (linked 3 2 [1, 2, 3, 4, 5, 6, 7] [(5, 9)]) 1 0 0 (headerOf (statusBlock 133 0 9 0 (Bytes.ofNat 4 500))) (crcOf (statusBlock 133 0 9 0 (Bytes.ofNat 4 500))) 100 1000 (statusOf 133 0 9 0 (Bytes.ofNat 4 500)) &&
    (fun (s : State) (l n st h c txAt rxAt op : Nat) (p : List Byte) => decide (s.works Blk.RHL ∧ (s.rhLink l).state = 4 ∧ readBlock (blockOf h st p c) = some (BlockType.STATUS, n, st, p) ∧ Bytes.at' p 0 1 = op + 128 ∧ op ≠ 5 ∧ Bytes.at' p 4 1 = 0 ∧ (s.rhLink l).answers = [(op + 256 * Bytes.at' p 1 1, Bytes.at' p 2 2)])) (linked 4 2 [] [(258, 9)]) 1 0 0 (headerOf (statusBlock 130 1 9 0 [])) (crcOf (statusBlock 130 1 9 0 [])) 0 0 2 (statusOf 130 1 9 0 []) &&
    (fun (s : State) (l n st h c txAt rxAt op : Nat) (p : List Byte) => decide (s.works Blk.RHL ∧ (s.rhLink l).state = 4 ∧ readBlock (blockOf h st p c) = some (BlockType.STATUS, n, st, p) ∧ Bytes.at' p 0 1 = op + 128 ∧ op ≠ 5 ∧ Bytes.at' p 4 1 ≠ 0 ∧ (s.rhLink l).answers.contains (op + 256 * Bytes.at' p 1 1, Bytes.at' p 2 2) = true)) (linked 4 2 [] [(258, 9), (3, 3)]) 1 0 0 (headerOf (statusBlock 130 1 9 4 [])) (crcOf (statusBlock 130 1 9 4 [])) 0 0 2 (statusOf 130 1 9 4 []) &&
    (fun (s : State) (l ms : Nat) => decide (s.works Blk.RHL ∧ linkBound (s.rhLink l).state = some ms ∧ s.passed (s.rhLink l).since (ms * nsPerMs) = true)) (linked 2 0 [] []) 1 5 &&
    (fun (s : State) (l cause codeErrors : Nat) => decide (s.works Blk.RHL ∧ s.rhUp l = true ∧ (cause = 1 ∨ (cause = 4 ∧ s.passed (s.rhLink l).alarmAt (5 * nsPerMs) = true) ∨ (cause = 2 ∧ 64 ≤ codeErrors)))) (linked 5 0 [] []) 1 2 64 &&
    (fun (s : State) (l codeErrors : Nat) => decide (s.works Blk.RHL ∧ codeErrors < 64)) (linked 5 0 [] []) 1 63 &&
    (fun (s : State) (l : Nat) => decide (s.works Blk.RHL ∧ l < 2 ∧ (s.rhLink l).state ≠ 0)) (linked 3 0 [] []) 1) = true := by decide +kernel

/-- Clauses of `HeadTraffic` are met by concrete states. -/
theorem test_witness_head_traffic_1 :
    ((fun (s : State) (l c : Nat) (b : List Byte) => decide (s.works Blk.RHL ∧ readBlock (b ++ Bytes.ofNat 4 c) = none ∧ s.rhUp l = true ∧ 7 ≤ (s.rhLink l).crcRun)) (linked 5 7 [] []) 1 0 [0#8] &&
    (fun (s : State) (l c : Nat) (b : List Byte) => decide (s.works Blk.RHL ∧ readBlock (b ++ Bytes.ofNat 4 c) = none ∧ s.linkAligned l = true ∧ (s.rhLink l).crcRun < 7)) (linked 5 6 [] []) 1 0 [0#8] &&
    (fun (s : State) (l n st c : Nat) (b p : List Byte) => decide (s.works Blk.RHL ∧ s.rhUp l = true ∧ readBlock (b ++ Bytes.ofNat 4 c) = some (BlockType.IQ, n, st, p) ∧ s.strRate l n ≠ 0)) (streaming 5) 1 1 9 (crcOf (iqOf 300)) ((iqOf 300).take 12) (Bytes.ofNat 2 300 ++ Bytes.ofNat 2 0) &&
    (fun (s : State) (l n type st c : Nat) (b p : List Byte) => decide (s.works Blk.RHL ∧ s.linkAligned l = true ∧ readBlock (b ++ Bytes.ofNat 4 c) = some (type, n, st, p) ∧ (type ≠ BlockType.IQ ∨ s.rhUp l = false ∨ s.strRate l n = 0))) (linked 4 6 [] []) 1 1 1 9 (crcOf (iqOf 300)) ((iqOf 300).take 12) (Bytes.ofNat 2 300 ++ Bytes.ofNat 2 0) &&
    (fun (s : State) => decide (s.works Blk.RHL)) (({ linked 5 6 [] [] with tai := 5000000000 } : State).setFldB 1 F.RHL_DELAY_DELAY_NS 700) &&
    (fun (s : State) (l n st bits : Nat) (b p : List Byte) => decide (s.works Blk.RHL ∧ readBlock b = some (BlockType.STATUS, n, st, p) ∧ Bytes.at' p 0 1 = 0x91 ∧ bits = Bytes.at' p 4 1 ∧ bits < 32 ∧ s.rhUp l = true ∧ (bits.testBit 0 = true ∨ bits.testBit 2 = true))) (linked 5 6 [] []) 1 0 0 12 (statusBlock 0x91 0 0 12 []) (statusOf 0x91 0 0 12 []) &&
    (fun (s : State) (l n st bits : Nat) (b p : List Byte) => decide (s.works Blk.RHL ∧ readBlock b = some (BlockType.STATUS, n, st, p) ∧ Bytes.at' p 0 1 = 0x91 ∧ bits = Bytes.at' p 4 1 ∧ bits < 32 ∧ s.linkAligned l = true ∧ bits.testBit 0 = false ∧ bits.testBit 2 = false ∧ bits.testBit 3 = false)) (linked 5 6 [] []) 1 0 0 18 (statusBlock 0x91 0 0 18 []) (statusOf 0x91 0 0 18 []) &&
    (fun (s : State) (l n st : Nat) (b p : List Byte) => decide (s.works Blk.RHL ∧ s.rhUp l = true ∧ readBlock b = some (BlockType.STATUS, n, st, p) ∧ Bytes.at' p 0 1 = 0x91 ∧ Bytes.at' p 4 1 = 8)) (linked 5 6 [] []) 1 0 0 (statusBlock 0x91 0 0 8 []) (statusOf 0x91 0 0 8 []) &&
    (fun (s : State) (l : Nat) => decide (s.works Blk.RHL ∧ s.rhUp l = true)) (linked 5 6 [] []) 1 &&
    (fun (s : State) (l : Nat) => decide (s.works Blk.RHL ∧ s.linkAligned l = true)) (linked 3 6 [] []) 1 &&
    (fun (s : State) (l n : Nat) (busy : Bool) => decide (s.works Blk.RHL ∧ s.rhUp l = true ∧ s.strRate l n ≠ 0 ∧ (s.strRx l n).count ≠ 0 ∧ (s.expert Blk.RHL = true ∨ busy = true))) (heardAt 3000) 1 1 true &&
    (fun (s : State) (l n : Nat) => decide (s.works Blk.RHL ∧ s.rhUp l = true ∧ s.strRate l n ≠ 0 ∧ (s.strRx l n).count ≠ 0 ∧ -15 < rmsFloor (s.strRx l n).count (s.strRx l n).power ∧ s.expert Blk.RHL = false)) (heardAt 10000) 1 1 &&
    (fun (s : State) (l n : Nat) => decide (s.works Blk.RHL ∧ s.rhUp l = true ∧ s.strRate l n ≠ 0 ∧ (s.strRx l n).count ≠ 0 ∧ -21 ≤ rmsFloor (s.strRx l n).count (s.strRx l n).power ∧ rmsFloor (s.strRx l n).count (s.strRx l n).power < -15)) (heardAt 5000) 1 1 &&
    (fun (s : State) (l n : Nat) (busy low high : Bool) => decide ((s.strRx l n).count = 0)) (streaming 5) 1 1 true true false) = true := by decide +kernel

/-- Clauses of `HeadTraffic` are met by concrete states. -/
theorem test_witness_head_traffic_2 :
    ((fun (s : State) (l n : Nat) (low high : Bool) => decide (s.works Blk.RHL ∧ s.rhUp l = true ∧ s.strRate l n ≠ 0 ∧ (s.strRx l n).count ≠ 0 ∧ s.expert Blk.RHL = false ∧ (low = true ∨ high = true) ∧ dueSince s (s.rhl.gainEvent.get none (strBank l n)) (60 * nsPerSec) = true)) (heardAt 3000) 1 1 false true) = true := by decide +kernel

/-- Clauses of `PairLink` are met by concrete states. -/
theorem test_witness_pair_link_1 :
    ((fun (s : State) (h : Hello) => decide (s.running = true ∧ s.ahn.linkUp = false)) (withAhn (fun a => { a with linkUp := false }) live) hello5 &&
    (fun (s : State) (h : Hello) => decide (s.running = true)) (paired .active .ready 5) { hello5 with pairTag := 3 } &&
    (fun (s : State) => decide (s.running = true ∧ s.ahn.linkUp = true ∧ s.key.enrol = none)) (paired .active .ready 5) &&
    (fun (s : State) (m : List Byte) => decide (s.works Blk.AHN ∧ s.ahn.linkUp = true ∧ s.flag F.AHN_SW_EN = false ∧ (s.missDue = false ∨ s.biCount < s.air.missBi ∧ s.ahn.role ≠ .ready) ∧ s.linkSealed s.heartbeat.bytes = some m)) { keyedPair .active .ready 5 with air := { live.air with missBi := 1 } } (((keyedPair .active .ready 5).linkSealed (keyedPair .active .ready 5).heartbeat.bytes).getD [])) = true := by decide +kernel

/-- Clauses of `PairLink` are met by concrete states. -/
theorem test_witness_pair_link_2 :
    ((fun (s : State) (msg : List Byte) (test : Bool) (h : Heartbeat) => decide (s.works Blk.AHN ∧ s.ahn.linkUp = true ∧ s.heartbeatOf msg test = some h ∧ h.pairId = s.fld F.AIR_CFG_PAIR_ID)) (withAhn (fun a => { a with hbOk := false }) (keyedPair .none .active 5)) (octets [1, 21, 0, 15, 0, 0, 0, 0, 132, 3, 0, 0, 0, 0, 0, 0, 0, 0, 0, 0, 0, 0, 0, 0, 0, 0, 0, 0, 0, 0, 0, 0, 0, 0, 0, 0, 0, 0, 0, 0, 32, 81, 88, 168, 221, 175, 41, 217]) false (hbOf 5 .active) &&
    (fun (s : State) (msg : List Byte) (test ok : Bool) => decide (s.works Blk.AHN ∧ s.ahn.linkUp = true ∧ (s.heartbeatOf msg test = none ∨ ok = false))) (keyedPair .active .ready 5) (Bytes.padTo (hbOf 5 .ready).bytes 48) false true &&
    (fun (s : State) (msg : List Byte) (test : Bool) (h : Heartbeat) => decide (s.works Blk.AHN ∧ s.heartbeatOf msg test = some h ∧ h.pairId ≠ s.fld F.AIR_CFG_PAIR_ID)) (keyedPair .active .ready 5) (octets [1, 53, 0, 15, 0, 0, 3, 0, 132, 3, 0, 0, 0, 0, 0, 0, 0, 0, 0, 0, 0, 0, 0, 0, 0, 0, 0, 0, 0, 0, 0, 0, 0, 0, 0, 0, 0, 0, 0, 0, 24, 84, 191, 140, 87, 107, 148, 164]) false { hbOf 5 .ready with pairId := 3 } &&
    (fun (s : State) (msg : List Byte) (test ok : Bool) => decide (s.works Blk.AHN ∧ s.ahn.linkUp = false)) live [] false true) = true := by decide +kernel

/-- Clauses of `PairLink` are met by concrete states. -/
theorem test_witness_pair_link_3 :
    ((fun (s : State) => decide (s.works Blk.AHN ∧ s.ahn.hbOk = true ∧ s.passed s.ahn.hbAt (s.fld F.AHN_CFG_HB_LOSS_MS * nsPerMs) = true ∧ s.ahn.swap = none ∧ s.ahn.role ≠ .none)) (withAhn (fun a => { a with hbAt := 0 }) (paired .ready .active 5)) &&
    (fun (s : State) (keyf i fn mi : Nat) (c : Clause) (ft chain : List Nat) => decide (s.works Blk.AHN ∧ s.ahn.linkUp = true ∧ s.ahn.mismatch = false ∧ s.pwr.whole ≠ .running ∧ s.isStandby = true ∧ s.ahn.snapWanted = false)) (paired .ready .active 5) 9 9 10 7 (clauseOn 7 false) [] [9] &&
    (fun (s : State) (keyf : Nat) (b : TokenBlock) => decide (s.works Blk.AHN ∧ s.ahn.linkUp = true ∧ s.ahn.mismatch = false ∧ s.pwr.whole ≠ .running ∧ s.isStandby = true ∧ s.ahn.snapWanted = false)) (paired .sync .active 5) 0 block9 &&
    (fun (s : State) (m : MirrorMsg) => decide (s.works Blk.AHN ∧ s.ahn.linkUp = true ∧ s.ahn.mismatch = false ∧ s.pwr.whole ≠ .running ∧ s.isStandby = true ∧ s.ahn.snapWanted = false ∧ m.mseq ≠ (s.ahn.mseqAck + 1) % 2 ^ 32 ∧ s.expert Blk.AHN = false)) (paired .ready .active 5) ⟨false, 7, 0, .handover⟩) = true := by decide +kernel

/-- Clauses of `PairLink` are met by concrete states. -/
theorem test_witness_pair_link_4 :
    ((fun (s : State) (m : MirrorMsg) => decide (s.works Blk.AHN ∧ s.ahn.linkUp = true ∧ s.ahn.mismatch = false ∧ s.pwr.whole ≠ .running ∧ s.isStandby = true)) (paired .sync .active 5) ⟨false, 7, 0, .handover⟩ &&
    (fun (s : State) => decide (s.works Blk.AHN ∧ s.isActive = true ∧ s.ahn.linkUp = true ∧ s.ahn.mismatch = false ∧ s.partnerStandby = true)) (paired .active .ready 5) &&
    (fun (s : State) (at' : Nat) => decide (s.works Blk.AHN ∧ s.ahn.role = .ready ∧ 500 * nsPerMs < s.lagNs ∧ s.lagHighAt = some at' ∧ s.passed at' nsPerSec = true)) (withAhn (fun a => { a with unacked := [(1, 998000000000)] }) (paired .ready .active 5)) 998500000000) = true := by decide +kernel

/-- Clauses of `PairRoles` are met by concrete states. -/
theorem test_witness_pair_roles_1 :
    ((fun (s : State) (at' c : Nat) => decide (s.running = true ∧ s.ahn.claim = some (at', c) ∧ s.passed at' 2000 = true ∧ s.pins.roleInLow = false)) (withAhn (fun a => { a with claim := some (999999998000, 6) }) (paired .sync .active 5)) 999999998000 6 &&
    (fun (s : State) (at' c : Nat) => decide (s.running = true ∧ s.ahn.claim = some (at', c) ∧ s.passed at' 2000 = true ∧ s.pins.roleInLow = false ∧ c < 9 ∧ s.ahn.role = .ready ∧ s.nandStopped = false)) (withAhn (fun a => { a with claim := some (999999998000, 6), seqKnown := 900 }) (paired .ready .active 5)) 999999998000 6 &&
    (fun (s : State) (at' c p : Nat) => decide (s.running = true ∧ s.ahn.claim = some (at', c) ∧ s.passed at' 2000 = true ∧ s.pins.roleInLow = true ∧ s.partnerSlot = some p ∧ s.pins.slotId < p)) { withAhn (fun a => { a with claim := some (999999998000, 0) }) (paired .none .none 5) with pins := { live.pins with slotId := 4, roleInLow := true } } 999999998000 0 5 &&
    (fun (s : State) (at' c p : Nat) => decide (s.running = true ∧ s.ahn.claim = some (at', c) ∧ s.passed at' 2000 = true ∧ s.pins.roleInLow = true ∧ s.partnerSlot = some p ∧ p < s.pins.slotId)) { withAhn (fun a => { a with claim := some (999999998000, 0) }) (paired .none .none 3) with pins := { live.pins with slotId := 4, roleInLow := true } } 999999998000 0 3 &&
    (fun (s : State) => decide (s.running = true ∧ s.ahn.claim = none)) live &&
    (fun (s : State) (h : Heartbeat) => decide (s.running = true ∧ s.blkOn Blk.AUT = true ∧ s.ahn.role = .none ∧ s.ahn.claim = none ∧ s.pwr.whole ≠ .running ∧ s.hpg.ejectAt = none ∧ s.ahnLink = true ∧ s.ahn.hb = some h ∧ s.ahn.hbOk = true ∧ h.role = .active)) (paired .none .active 5) (hbOf 5 .active) &&
    (fun (s : State) (h : Heartbeat) => decide (s.running = true ∧ s.blkOn Blk.AUT = true ∧ s.ahn.role = .none ∧ s.ahn.claim = none ∧ s.pwr.whole ≠ .running ∧ s.hpg.ejectAt = none ∧ s.ahnLink = true ∧ s.ahn.hb = some h ∧ s.ahn.hbOk = true ∧ h.role ≠ .active ∧ h.role ≠ .failed ∧ s.ahn.mismatch = false ∧ s.pins.slotId < h.slot ∧ s.pins.roleInLow = false)) (paired .none .none 5) (hbOf 5 .none)) = true := by decide +kernel

/-- Clauses of `PairRoles` are met by concrete states. -/
theorem test_witness_pair_roles_2 :
    ((fun (s : State) (h : Heartbeat) => decide (s.running = true ∧ s.blkOn Blk.AUT = true ∧ s.ahn.role = .none ∧ s.ahn.claim = none ∧ s.pwr.whole ≠ .running ∧ s.hpg.ejectAt = none ∧ s.ahnLink = true ∧ s.ahn.hb = some h ∧ s.ahn.hbOk = true ∧ h.role ≠ .active ∧ h.role ≠ .failed ∧ s.ahn.mismatch = false ∧ h.slot < s.pins.slotId)) (paired .none .none 3) (hbOf 3 .none) &&
    (fun (s : State) => decide (s.running = true ∧ (s.blkOn Blk.AUT = false ∨ s.ahn.role ≠ .none))) (withAhn (fun a => { a with interlock := true }) live) &&
    (fun (s : State) => decide (s.works Blk.AUT ∧ s.isStandby = true ∧ s.ahn.claim = none ∧ s.ahn.releaseSeen ≠ 0 ∧ s.pins.roleInLow = false)) (withAhn (fun a => { a with releaseSeen := 4 }) (paired .ready .active 5)) &&
    (fun (s : State) => decide (s.works Blk.AUT ∧ s.isStandby = true ∧ s.ahn.claim = none ∧ s.ahn.releaseSeen = 0 ∧ s.ahn.planned = 0 ∧ s.ahn.hbOk = false ∧ s.biCount < s.air.missBi ∧ 3 ≤ s.fld F.AIR_MON_MISS_RUN ∧ s.pins.roleInLow = false)) { withAhn (fun a => { a with hbOk := false }) ((paired .sync .active 5).setFld F.AIR_MON_MISS_RUN 3) with air := { live.air with missBi := 1 } } &&
    (fun (s : State) => decide (s.works Blk.AUT ∧ s.isStandby = true ∧ s.ahn.claim = none ∧ s.ahn.releaseSeen ≠ 0 ∧ s.pins.roleInLow = true ∧ s.ahn.interlock = false)) { withAhn (fun a => { a with releaseSeen := 4 }) (paired .ready .active 5) with pins := { live.pins with slotId := 4, roleInLow := true } } &&
    (fun (s : State) => decide (s.works Blk.AUT ∧ s.isActive = true ∧ s.ahn.splitHeard = true)) (withAhn (fun a => { a with splitHeard := true }) (paired .active .none 3)) &&
    (fun (s : State) => decide (s.works Blk.AUT ∧ s.isActive = true ∧ s.ahn.splitHeard = false)) live) = true := by decide +kernel

/-- Clauses of `PairRoles` are met by concrete states. -/
theorem test_witness_pair_roles_3 :
    ((fun (s : State) (rx : AirRx) (slot : Nat) => decide (s.works Blk.AIR ∧ (s.rxFrame rx).src = 0xFF00 + slot ∧ slot < 16 ∧ (s.rxFrame rx).src ≠ s.airAddr ∧ (s.rxFrame rx).ftype = Ft.BEACON ∧ s.wideRx rx = false ∧ (s.airCheck rx).2 = true)) onAir (⟨0, octets [1, 1, 0, 0, 3, 255, 9, 0, 0, 0, 0, 0, 0, 0, 0, 136, 19, 0, 0, 0, 0, 0, 0, 0, 0, 0, 0, 0, 0, 0, 0, 0, 0, 0, 0, 0, 0, 60, 30, 78, 73, 125, 46, 153, 241, 251, 18], 80⟩ : AirRx) 3 &&
    (fun (s : State) (b : TokenBlock) => decide (s.running = true ∧ s.isActive = true ∧ s.blkOn Blk.AUT = true ∧ s.aut.sealed = some b)) (withAut (fun a => { a with sealed := some block9, lastSeq := 950 }) live) block9 &&
    (fun (s : State) => decide (s.running = true ∧ s.isActive = true ∧ s.blkOn Blk.AUT = true ∧ s.aut.sealed = none)) (withAut (fun a => { a with lastSeq := 950 }) live) &&
    (fun (s : State) => decide (s.works Blk.AHN ∧ s.isActive = true ∧ s.partnerStandby = true)) (paired .active .ready 5) &&
    (fun (s : State) => decide (s.works Blk.AHN ∧ (s.isActive = false ∨ s.partnerStandby = false))) live &&
    (fun (s : State) => decide (s.works Blk.AHN ∧ s.isStandby = true)) (paired .ready .active 5) &&
    (fun (s : State) => decide (s.works Blk.AHN ∧ s.isStandby = false)) live) = true := by decide +kernel

/-- Clauses of `SwapsAndWarden` are met by concrete states. -/
theorem test_witness_swaps_and_warden_1 :
    ((fun (s : State) => decide (s.works Blk.AHN ∧ s.isActive = true ∧ s.ahn.swap = none ∧ s.ahn.swapOk = 0 ∧ s.ahn.swapReq = 0 ∧ s.partnerReady = true)) (paired .active .ready 5) &&
    (fun (s : State) => decide (s.works Blk.AHN ∧ s.isActive = true ∧ s.ahn.swap = none ∧ s.ahn.swapOk = 0 ∧ s.ahn.swapReq = 0 ∧ s.partnerReady = true)) (paired .active .ready 5) &&
    (fun (s : State) (notest : Bool) => decide (s.works Blk.AHN ∧ s.isActive = true ∧ s.ahn.swap = none ∧ s.ahn.swapOk = 0 ∧ s.ahn.swapReq = 0 ∧ s.partnerReady = false)) (paired .active .sync 5) true &&
    (fun (s : State) (notest : Bool) => decide (s.works Blk.AHN ∧ s.isActive = false ∧ s.ahn.role ≠ .ready)) (paired .sync .active 5) false &&
    (fun (s : State) => decide (s.works Blk.AHN ∧ s.ahn.role = .ready ∧ s.ahn.swapReq = 0 ∧ s.ahn.planned = 0 ∧ s.ahn.test = none ∧ s.expert Blk.AHN = false)) (paired .ready .active 5) &&
    (fun (s : State) => decide (s.works Blk.AHN ∧ s.ahn.role = .ready ∧ s.ahn.test = none)) (paired .ready .active 5) &&
    (fun (s : State) => decide (s.works Blk.AHN ∧ s.ahn.role ≠ .ready)) (paired .active .ready 5) &&
    (fun (s : State) (at' : Nat) => decide (s.works Blk.AHN ∧ s.ahn.test = some at' ∧ s.passed at' (3 * nsPerBi) = true ∧ s.isActive = false ∧ s.ahn.testThenSwap = false)) (withAhn (fun a => { a with test := some 999000000000 }) (paired .ready .active 5)) 999000000000 &&
    (fun (s : State) (at' : Nat) => decide (s.works Blk.AHN ∧ s.ahn.test = some at' ∧ s.passed at' (3 * nsPerBi) = true ∧ s.isActive = false)) (withAhn (fun a => { a with test := some 999000000000 }) (paired .ready .active 5)) 999000000000 &&
    (fun (s : State) => decide (s.works Blk.AHN ∧ s.isActive = true ∧ s.ahn.swapOk ≠ 0 ∧ s.ahn.swap = none ∧ s.partnerReady = true)) { withAhn (fun a => { a with swapOk := 2 }) (paired .active .ready 5) with tai := 5043000000 } &&
    (fun (s : State) => decide (s.works Blk.AHN ∧ s.isActive = true ∧ s.ahn.swapOk ≠ 0 ∧ s.ahn.swap = none ∧ s.partnerReady = false)) (withAhn (fun a => { a with swapOk := 2 }) (paired .active .sync 5)) &&
    (fun (s : State) (n : Nat) => decide (s.works Blk.AUT ∧ s.warden.fault = 0 ∧ (s.warden.seq = none ∨ s.warden.seq = some n ∨ s.isActive = false) ∧ s.kickLate = false ∧ s.pins.stopALow = false ∧ s.pins.stopBLow = false ∧ s.roleLevel = true ∧ s.aut.fsLatch = false)) renewable 0 &&
    (fun (s : State) (n : Nat) => decide (s.works Blk.AUT ∧ s.warden.fault = 0 ∧ (s.warden.seq = none ∨ s.warden.seq = some n ∨ s.isActive = false) ∧ s.kickLate = false ∧ (s.pins.stopALow = true ∨ s.pins.stopBLow = true ∨ s.aut.fsLatch = true))) { renewable with aut := { renewable.aut with fsLatch := true } } 0 &&
    (fun (s : State) (n : Nat) => decide (s.works Blk.AUT ∧ s.warden.fault = 0 ∧ s.warden.strobeFails ≠ 0)) { renewable with warden := { renewable.warden with strobeFails := 1 } } 0) = true := by decide +kernel

/-- Clauses of `SwapsAndWarden` are met by concrete states. -/
theorem test_witness_swaps_and_warden_2 :
    ((fun (s : State) (n m : Nat) => decide (s.works Blk.AUT ∧ s.warden.fault = 0 ∧ s.isActive = true ∧ s.warden.seq = some m ∧ m ≠ n)) { renewable with warden := { renewable.warden with seq := some 8 } } 9 8 &&
    (fun (s : State) => decide (s.running = true ∧ s.warden.fault = 0)) renewable &&
    (fun (s : State) => decide (s.works Blk.AUT ∧ s.kickLate = true ∧ s.warden.fault = 0)) (renewable.setReg R.AUT_WARDEN 0x00018000#32) &&
    (fun (s : State) => decide (s.works Blk.AUT ∧ s.kickLate = false)) renewable &&
    (fun (s : State) => decide (s.running = true)) live &&
    (fun (s : State) => decide (s.running = true ∧ s.warden.fault = 0)) renewable) = true := by decide +kernel

/-- Clause 8 of `PairKeys` is met by a concrete state and operands. -/
theorem test_witness_pair_keys_clause8 :
    (fun (s : State) (m : List Byte) => s.running = true ∧ s.flag F.KEY_STATUS_BUSY = false ∧ s.nandStopped = false ∧ s.keys.pairRoot.isSome = true ∧ s.ahn.linkUp = true ∧ m = s.enrolOffer (ecScalar (Config.trng s.freeCtr)) (ecScalar (Config.trng (s.freeCtr + 1)))) (ahnobUp pairKeys) ((ahnobUp pairKeys).enrolOffer (ecScalar (Config.trng (ahnobUp pairKeys).freeCtr)) (ecScalar (Config.trng ((ahnobUp pairKeys).freeCtr + 1)))) := by
  refine ⟨?_, ?_, ?_, ?_, ?_, ?_⟩ <;> first | with_reducible rfl | decide +kernel

/-- Clause 9 of `PairKeys` is met by a concrete state and operands. -/
theorem test_witness_pair_keys_clause9 :
    (fun (s : State) (m : List Byte) => s.running = true ∧ s.flag F.KEY_STATUS_BUSY = false ∧ s.nandStopped = false ∧ s.keys.root.isSome = true ∧ s.keys.pairRoot = none ∧ s.ahn.linkUp = true ∧ m = s.enrolOffer (ecScalar (Config.trng s.freeCtr)) (ecScalar (Config.trng (s.freeCtr + 1)))) (ahnobUp (keyed id)) ((ahnobUp (keyed id)).enrolOffer (ecScalar (Config.trng (ahnobUp (keyed id)).freeCtr)) (ecScalar (Config.trng ((ahnobUp (keyed id)).freeCtr + 1)))) := by
  refine ⟨?_, ?_, ?_, ?_, ?_, ?_, ?_⟩ <;> first | with_reducible rfl | decide +kernel

/-- Clause 11 of `PairKeys` is met by a concrete state and operands. -/
theorem test_witness_pair_keys_clause11 :
    (fun (s : State) (e : Enrol) (pub epub sig w : List Byte) (holds : Bool) => s.running = true ∧ s.key.enrol = some e ∧ e.isNew = false ∧ w = keyWrap (enrolWrapKey e.eph epub) (pairRootBytes (s.keys.pairRoot.getD 0) s.keys.bgen)) (enrolling false none pairKeys) ⟨false, 0, 5, none⟩ [] [] [] (keyWrap (enrolWrapKey 5 []) (pairRootBytes ((enrolling false none pairKeys).keys.pairRoot.getD 0) (enrolling false none pairKeys).keys.bgen)) true := by
  refine ⟨?_, ?_, ?_, ?_⟩ <;> first | with_reducible rfl | decide +kernel

/-- Clauses of `PairKeys` are met by concrete states. -/
theorem test_witness_pair_keys_1 :
    ((fun (s : State) => decide (s.running = true ∧ s.keys.root = none ∧ (s.keys.lc = 1 ∨ s.keys.lc = 2) ∧ s.flag F.KEY_STATUS_TRNG_FAIL = false)) (keyed fun k => { k with root := none })) = true := by decide +kernel

/-- Clauses of `PairKeys` are met by concrete states. -/
theorem test_witness_pair_keys_2 :
    ((fun (s : State) => decide (s.running = true ∧ s.keys.root = none ∧ (s.keys.lc = 1 ∨ s.keys.lc = 2) ∧ s.flag F.KEY_STATUS_TRNG_FAIL = false)) (keyed fun k => { k with root := none, lc := 2 })) = true := by decide +kernel

/-- Clauses of `PairKeys` are met by concrete states. -/
theorem test_witness_pair_keys_3 :
    ((fun (s : State) (h : Bool) => decide (s.running = true ∧ (s.keys.root.isSome = true ∨ s.keys.lc = 0 ∨ s.keys.lc = 3 ∨ s.flag F.KEY_STATUS_TRNG_FAIL = true))) pairKeys false) = true := by decide +kernel

/-- Clauses of `PairKeys` are met by concrete states. -/
theorem test_witness_pair_keys_4 :
    ((fun (s : State) => decide (s.running = true ∧ s.flag F.KEY_STATUS_BUSY = false ∧ s.nandStopped = false ∧ s.keys.root.isSome = true ∧ s.keys.pairRoot = none)) (keyed id)) = true := by decide +kernel

/-- Clauses of `PairKeys` are met by concrete states. -/
theorem test_witness_pair_keys_5 :
    ((fun (s : State) (h : Bool) => decide (s.running = true ∧ s.flag F.KEY_STATUS_BUSY = false ∧ s.keys.root.isSome = true ∧ s.keys.pairRoot.isSome = true)) pairKeys true) = true := by decide +kernel

/-- Clauses of `PairKeys` are met by concrete states. -/
theorem test_witness_pair_keys_6 :
    ((fun (s : State) => decide (s.running = true ∧ s.flag F.KEY_STATUS_BUSY = false ∧ s.nandStopped = false ∧ s.blkOn Blk.AUT = false ∧ s.blkOn Blk.AHN = false)) pairKeys) = true := by decide +kernel

/-- Clauses of `PairKeys` are met by concrete states. -/
theorem test_witness_pair_keys_7 :
    ((fun (s : State) => decide (s.running = true ∧ s.flag F.KEY_STATUS_BUSY = false ∧ (s.blkOn Blk.AUT = true ∨ s.blkOn Blk.AHN = true))) (withOn [Blk.AHN])) = true := by decide +kernel

/-- Clauses of `PairKeys` are met by concrete states. -/
theorem test_witness_pair_keys_8 :
    ((fun (s : State) => decide (s.running = true ∧ s.flag F.KEY_STATUS_BUSY = false ∧ s.keys.pairRoot.isSome = true ∧ s.ahn.linkUp = false)) pairKeys) = true := by decide +kernel

/-- Clauses of `PairKeys` are met by concrete states. -/
theorem test_witness_pair_keys_9 :
    ((fun (s : State) (e : Enrol) (pub epub sig : List Byte) (holds : Bool) => decide (s.running = true ∧ s.key.enrol = some e ∧ e.isNew = true ∧ s.peerProven pub epub sig = true)) (peerKnown (enrolling true none (keyed id))) ⟨true, 0, 5, none⟩ partnerPub partnerEph partnerSig false) = true := by decide +kernel

/-- Clauses of `PairKeys` are met by concrete states. -/
theorem test_witness_pair_keys_10 :
    ((fun (s : State) (e : Enrol) (pub epub sig : List Byte) (lc : Nat) (holds : Bool) => decide (s.running = true ∧ s.key.enrol = some e ∧ lc ≠ s.keys.lc)) (enrolling true none pairKeys) ⟨true, 0, 5, none⟩ [] [] [] 2 false) = true := by decide +kernel

/-- Clauses of `PairKeys` are met by concrete states. -/
theorem test_witness_pair_keys_11 :
    ((fun (s : State) (e : Enrol) (epub wrapped b : List Byte) => decide (s.running = true ∧ s.key.enrol = some e ∧ e.isNew = true ∧ e.peer = some epub ∧ keyUnwrap (enrolWrapKey e.eph epub) wrapped = some b)) (enrolling true (some partnerEph) (keyed id)) ⟨true, 0, 5, some partnerEph⟩ partnerEph wrappedRoot (Bytes.be 16 9)) = true := by decide +kernel

/-- Clauses of `PairKeys` are met by concrete states. -/
theorem test_witness_pair_keys_12 :
    ((fun (s : State) (e : Enrol) (epub wrapped : List Byte) => decide (s.running = true ∧ s.key.enrol = some e ∧ e.isNew = true ∧ e.peer = some epub ∧ keyUnwrap (enrolWrapKey e.eph epub) wrapped = none)) (enrolling true (some partnerEph) (keyed id)) ⟨true, 0, 5, some partnerEph⟩ partnerEph [1#8]) = true := by decide +kernel

/-- Clauses of `PairKeys` are met by concrete states. -/
theorem test_witness_pair_keys_13 :
    ((fun (s : State) (e : Enrol) (wrapped : List Byte) => decide (s.running = true ∧ s.key.enrol = some e ∧ (e.peer = none ∨ e.isNew = false))) (enrolling true none (keyed id)) ⟨true, 0, 5, none⟩ [1#8]) = true := by decide +kernel

/-- Clauses of `PairKeys` are met by concrete states. -/
theorem test_witness_pair_keys_14 :
    ((fun (s : State) (msg : EnrolMsg) => decide (s.running = true)) pairKeys (.refusal 4)) = true := by decide +kernel

/-- Clauses of `PairKeys` are met by concrete states. -/
theorem test_witness_pair_keys_15 :
    ((fun (s : State) (e : Enrol) => decide (s.running = true ∧ s.key.enrol = some e ∧ s.passed e.since (60 * nsPerSec) = true)) (enrolling true none (keyed id)) ⟨true, 0, 5, none⟩) = true := by decide +kernel

/-- Clauses of `PairKeys` are met by concrete states. -/
theorem test_witness_pair_keys_16 :
    ((fun (s : State) => decide (s.running = true ∧ s.flag F.KEY_STATUS_BUSY = false ∧ s.nandStopped = false ∧ s.keys.pairRoot.isSome = true ∧ s.ahn.linkUp = true ∧ s.blkOn Blk.AUT = false ∧ s.keys.bgen < 65535)) (ahnobUp pairKeys)) = true := by decide +kernel

/-- Clauses of `PairKeys` are met by concrete states. -/
theorem test_witness_pair_keys_17 :
    ((fun (s : State) => decide (s.running = true ∧ s.flag F.KEY_STATUS_BUSY = false ∧ s.keys.pairRoot.isSome = true ∧ s.keys.bgen = 65535)) (keyed fun k => { k with pairRoot := some 9, bgen := 65535 })) = true := by decide +kernel

/-- Clauses of `PairKeys` are met by concrete states. -/
theorem test_witness_pair_keys_18 :
    ((fun (s : State) => decide (s.running = true ∧ s.flag F.KEY_STATUS_BUSY = false ∧ s.keys.pairRoot.isSome = true ∧ s.ahn.linkUp = true ∧ s.keys.bgen < 65535 ∧ s.blkOn Blk.AUT = true)) (ahnobUp { withOn [Blk.AUT] with keys := pairKeys.keys })) = true := by decide +kernel

/-- Clauses of `PairKeys` are met by concrete states. -/
theorem test_witness_pair_keys_19 :
    ((fun (s : State) (g : Nat) => decide (s.running = true ∧ s.keys.pairRoot.isSome = true ∧ s.keys.bgen < g)) pairKeys 4) = true := by decide +kernel

/-- Clauses of `PairKeys` are met by concrete states. -/
theorem test_witness_pair_keys_20 :
    ((fun (s : State) (g : Nat) => decide (s.running = true ∧ g ≤ s.keys.bgen)) pairKeys 3) = true := by decide +kernel

/-- Clauses of `PairKeys` are met by concrete states. -/
theorem test_witness_pair_keys_21 :
    ((fun (s : State) (g : Nat) => decide (s.running = true)) pairKeys 9) = true := by decide +kernel

/-- Clauses of `KeyExportsAndLifeCycle` are met by concrete states. -/
theorem test_witness_key_exports_and_life_cycle_1 :
    ((fun (s : State) => decide (s.running = true ∧ s.flag F.KEY_STATUS_BUSY = false ∧ s.nandStopped = false ∧ s.keys.pairRoot.isSome = true ∧ (s.keys.lc = 1 ∨ s.keys.lc = 2) ∧ s.keyDst + 284 ≤ bar2Size)) (pairKeys.setFld F.KEY_DST_OFFSET 3) &&
    (fun (s : State) => decide (s.running = true ∧ s.flag F.KEY_STATUS_BUSY = false ∧ s.nandStopped = false ∧ s.keys.pairRoot.isSome = true ∧ (s.keys.lc = 1 ∨ s.keys.lc = 2) ∧ s.keyDst + 284 ≤ bar2Size)) (pairKeys.bar2Write pairKeys.keySrc partnerPub) &&
    (fun (s : State) => decide (s.running = true ∧ s.flag F.KEY_STATUS_BUSY = false ∧ s.keys.pairRoot = none)) (keyed id) &&
    (fun (s : State) => decide (s.running = true ∧ s.flag F.KEY_STATUS_BUSY = true)) (pairKeys.setFld F.KEY_STATUS_BUSY 1) &&
    (fun (s : State) (d : Nat) => decide (s.running = true ∧ s.flag F.KEY_STATUS_BUSY = false ∧ s.nandStopped = false ∧ s.deviceId = some d ∧ s.keyDst + 97 ≤ bar2Size)) (pairKeys.setFld F.KEY_DST_OFFSET 3) (pairKeys.deviceId.getD 0) &&
    (fun (s : State) => decide (s.running = true ∧ s.flag F.KEY_STATUS_BUSY = false ∧ s.keys.root = none)) (keyed fun k => { k with root := none }) &&
    (fun (s : State) => decide (s.running = true ∧ s.flag F.KEY_STATUS_BUSY = false ∧ s.nandStopped = false ∧ s.keys.root.isSome = true ∧ s.bar2Read (s.keySrc + 98) 2 = [0#8, 0#8] ∧ (s.bar2At (s.keySrc + 97)).toNat < 8 ∧ s.keySrc + 196 ≤ bar2Size)) (keyed fun k => { k with imgKeys := [(2, some [1#8])] }) &&
    (fun (s : State) => decide (s.running = true ∧ s.flag F.KEY_STATUS_BUSY = false ∧ s.nandStopped = false ∧ s.keyArg < 8 ∧ (s.keys.lc ≠ 2 ∨ s.imgSlots ≠ [s.keyArg]))) (keyed fun k => { k with imgKeys := [(0, some [1#8]), (2, some [1#8])] }) &&
    (fun (s : State) => decide (s.running = true ∧ s.flag F.KEY_STATUS_BUSY = false ∧ s.keyArg < 8 ∧ s.keys.lc = 2 ∧ s.imgSlots = [s.keyArg])) (keyed fun k => { k with lc := 2, imgKeys := [(0, some [1#8])] }) &&
    (fun (s : State) (n : Nat) => decide (s.running = true ∧ n < 4 ∧ n = s.keys.lc + 1)) pairKeys 2 &&
    (fun (s : State) (n : Nat) => decide (s.running = true ∧ n % 4 ≠ s.keys.lc + 1)) pairKeys 3 &&
    (fun (s : State) (n at' : Nat) => decide (s.running = true ∧ n < 4 ∧ s.key.lcKey1 = some (n, at') ∧ s.mono ≤ at' + 1000000000 ∧ s.blkOn Blk.AUT = false ∧ (n = 2 → s.imgSlots ≠ []) ∧ s.fw.trial = false)) (keyGiven 2 (keyed fun k => { k with imgKeys := [(0, some [1#8])] })) 2 1000000000 &&
    (fun (s : State) (n at' : Nat) => decide (s.running = true ∧ n < 4 ∧ s.key.lcKey1 = some (n, at') ∧ s.mono ≤ at' + 1000000000 ∧ s.blkOn Blk.AUT = true)) (keyGiven 2 { withOn [Blk.AUT] with keys := pairKeys.keys }) 2 1000000000 &&
    (fun (s : State) (at' : Nat) => decide (s.running = true ∧ s.key.lcKey1 = some (2, at') ∧ s.mono ≤ at' + 1000000000 ∧ s.blkOn Blk.AUT = false ∧ s.imgSlots = [])) (keyGiven 2 (keyed id)) 1000000000) = true := by decide +kernel

/-- Clauses of `KeyExportsAndLifeCycle` are met by concrete states. -/
theorem test_witness_key_exports_and_life_cycle_2 :
    ((fun (s : State) (n at' : Nat) => decide (s.running = true ∧ n < 4 ∧ n ≠ 2 ∧ s.key.lcKey1 = some (n, at') ∧ s.mono ≤ at' + 1000000000 ∧ s.blkOn Blk.AUT = false ∧ s.fw.trial = true)) (keyGiven 3 { keyed (fun k => { k with lc := 2 }) with fw := { State.reset.fw with trial := true } }) 3 1000000000 &&
    (fun (s : State) (n at' : Nat) => decide (s.running = true ∧ s.key.lcKey1 = some (n, at') ∧ at' + 1000000000 < s.mono)) { keyGiven 2 pairKeys with mono := 2000000001 } 2 1000000000 &&
    (fun (s : State) (mi e : Nat) => decide (s.running = true ∧ s.nand.quarantine.get none mi = some e ∧ e ≤ s.nand.validNs)) (quarantineAt 100) 3 100 &&
    (fun (s : State) (mi e : Nat) => decide (s.running = true ∧ s.nand.quarantine.get none mi = some e ∧ s.nand.validNs < e)) (quarantineAt 99) 3 100) = true := by decide +kernel

/-- Clauses of `FirmwareUpdate` are met by concrete states. -/
theorem test_witness_firmware_update_1 :
    ((fun (s : State) => decide (s.works Blk.UPD ∧ s.nandStopped = false)) (fwOn id) &&
    (fun (s : State) (b : List Byte) (total : Nat) => decide (s.works Blk.UPD ∧ s.nandStopped = false ∧ s.fw.receiving = some total ∧ b = s.bar2Read (s.fld F.UPD_SRC_OFFSET * 8) (s.fld F.UPD_LEN_LEN) ∧ crc32 b = (s.reg R.UPD_CRC).toNat ∧ s.fld F.UPD_OFF_UNIT < fwUnits total ∧ s.fld F.UPD_LEN_LEN = fwUnitLen total (s.fld F.UPD_OFF_UNIT) ∧ s.fld F.UPD_LEN_LEN % 8 = 0 ∧ 8 ≤ s.fld F.UPD_LEN_LEN)) (((fwOn fun w => { w with receiving := some 264 }).setFld F.UPD_LEN_LEN 264).setReg R.UPD_CRC (BitVec.ofNat 32 (crc32 (List.replicate 264 0#8)))) (List.replicate 264 0#8) 264 &&
    (fun (s : State) (b : List Byte) => decide (s.works Blk.UPD ∧ s.nandStopped = false ∧ b = s.bar2Read (s.fld F.UPD_SRC_OFFSET * 8) (s.fld F.UPD_LEN_LEN) ∧ crc32 b ≠ (s.reg R.UPD_CRC).toNat)) ((fwOn fun w => { w with receiving := some 264 }).setFld F.UPD_LEN_LEN 8) (List.replicate 8 0#8) &&
    (fun (s : State) (b : List Byte) (total : Nat) => decide (s.works Blk.UPD ∧ s.nandStopped = false ∧ s.fw.receiving = some total ∧ b = s.bar2Read (s.fld F.UPD_SRC_OFFSET * 8) (s.fld F.UPD_LEN_LEN) ∧ crc32 b = (s.reg R.UPD_CRC).toNat ∧ (fwUnits total ≤ s.fld F.UPD_OFF_UNIT ∨ s.fld F.UPD_LEN_LEN ≠ fwUnitLen total (s.fld F.UPD_OFF_UNIT)))) (((fwOn fun w => { w with receiving := some 264 }).setFld F.UPD_LEN_LEN 8).setReg R.UPD_CRC (BitVec.ofNat 32 (crc32 (List.replicate 8 0#8)))) (List.replicate 8 0#8) 264 &&
    (fun (s : State) (img : List Byte) (total : Nat) => decide (s.works Blk.UPD ∧ s.nandStopped = false ∧ s.fw.receiving = some total ∧ s.fw.image total = some img ∧ s.fwCheck img (s.reg R.UPD_TOTAL).toNat = none)) (fwOn fun w => { w with receiving := some 264, received := [(0, some (fwSmall 3))] }) (fwSmall 3) 264 &&
    (fun (s : State) (img : List Byte) (total r : Nat) => decide (s.works Blk.UPD ∧ s.nandStopped = false ∧ s.fw.receiving = some total ∧ s.fw.image total = some img ∧ s.fwCheck img (s.reg R.UPD_TOTAL).toNat = some r)) (fwOn fun w => { w with receiving := some 264, received := [(0, some (fwSmall 1))] }) (fwSmall 1) 264 0x26 &&
    (fun (s : State) (total n : Nat) => decide (s.works Blk.UPD ∧ s.nandStopped = false ∧ s.fw.receiving = some total ∧ n < fwUnits total ∧ s.fw.received.get none n = none)) (fwOn fun w => { w with receiving := some 264 }) 264 0 &&
    (fun (s : State) (total : Nat) => decide (s.works Blk.UPD ∧ s.fw.receiving = some total)) (fwOn fun w => { w with receiving := some 264 }) 264 &&
    (fun (s : State) (img : List Byte) => decide (s.works Blk.UPD ∧ s.fw.trial = true ∧ s.fw.run = some img)) (fwOn fun w => { w with trial := true }) (fwSmall 4) &&
    (fun (s : State) (prev : List Byte) => decide (s.works Blk.UPD ∧ s.fw.prev = some prev ∧ fwRollback prev < s.fw.rollback)) (fwOn fun w => { w with rollback := 7 }) (fwSmall 6) &&
    (fun (s : State) (prev : List Byte) => decide (s.works Blk.UPD ∧ s.fw.prev = some prev ∧ s.fw.rollback ≤ fwRollback prev ∧ (s.isActive = false ∨ s.partnerReady = false))) (fwOn id) (fwSmall 6) &&
    (fun (s : State) (prev : List Byte) => decide (s.works Blk.UPD ∧ s.fw.prev = some prev ∧ s.fw.rollback ≤ fwRollback prev ∧ s.isActive = true ∧ s.partnerReady = true)) (readyPartner (asActive (fwOn id))) (fwSmall 6) &&
    (fun (s : State) => decide (s.running = true ∧ s.fw.revert = false ∧ s.fw.trial = true ∧ s.passed s.upd.trialAt (s.fld F.UPD_TRIAL_TRIAL_S * nsPerSec) = true ∧ (s.isActive = false ∨ s.partnerReady = false))) { fwOn fun w => { w with trial := true } with mono := 600000000001 } &&
    (fun (s : State) => decide (s.running = true ∧ s.fw.revert = false ∧ s.fw.trial = false)) (fwOn id)) = true := by decide +kernel

/-- Clauses of `FirmwareUpdate` are met by concrete states. -/
theorem test_witness_firmware_update_2 :
    ((fun (s : State) (img run : List Byte) => decide (s.running = true ∧ s.sim.applied = some img ∧ s.expert Blk.UPD = false ∧ (∀ b ∈ Blk.image, imgPresent img b = true → s.blkOn b = true) ∧ s.ahn.role ≠ .none ∧ s.passed s.ahn.roleSince (60 * nsPerSec) = true ∧ s.fw.trial = true ∧ s.fw.run = some run)) { asActive { fwOn fun w => { w with trial := true } with sim := { State.reset.sim with applied := some realImage } } with mono := 60000000001 } realImage (fwSmall 4) &&
    (fun (s : State) => decide (s.running = true ∧ (s.expert Blk.UPD = true ∨ s.ahn.role = .none))) (fwOn fun w => { w with trial := true }) &&
    (fun (s : State) (img : List Byte) => decide (s.running = true ∧ s.upd.copyDue = true ∧ s.fw.revert = false ∧ s.fw.stage = some img ∧ s.fwCheck img (Bytes.at' img 24 4) = none ∧ s.fw.prevDone = false)) (fwOn fun w => { w with stage := some (fwSmall 3) }) (fwSmall 3) &&
    (fun (s : State) (img : List Byte) => decide (s.running = true ∧ s.upd.copyDue = true ∧ s.fw.revert = false ∧ s.fw.stage = some img ∧ s.fwCheck img (Bytes.at' img 24 4) = none)) (fwOn fun w => { w with stage := some (fwSmall 3) }) (fwSmall 3) &&
    (fun (s : State) (c : Bool) (img : List Byte) (r : Nat) => decide (s.running = true ∧ s.upd.copyDue = true ∧ s.fw.revert = false ∧ s.fw.stage = some img ∧ s.fwCheck img (Bytes.at' img 24 4) = some r)) (fwOn fun w => { w with stage := some (fwSmall 1), prevDone := true, run := none }) true (fwSmall 1) 0x26 &&
    (fun (s : State) (c : Bool) => decide (s.running = true ∧ s.upd.copyDue = true ∧ s.fw.revert = true)) (fwOn fun w => { w with trial := true, revert := true }) true &&
    (fun (s : State) (c : Bool) => decide (s.running = true ∧ s.upd.copyDue = false)) { fwOn id with upd := ⟨0, false⟩ } true &&
    (fun (s : State) (w : Swap) => decide (s.works Blk.AHN ∧ s.isActive = true ∧ s.ahn.swap = some w ∧ w.slotAt ≤ s.mono + 3000000 ∧ w.cause ≠ 2 ∧ s.fw.revert = false)) (swapping 7000000) ⟨1, 10000000, false⟩ &&
    (fun (s : State) (w : Swap) => decide (s.works Blk.AHN ∧ s.isActive = true ∧ s.ahn.swap = some w ∧ s.mono + 3000000 < w.slotAt ∧ w.slotAt ≤ s.mono + 4000000)) (swapping 6500000) ⟨1, 10000000, false⟩ &&
    (fun (s : State) (w : Swap) => decide (s.works Blk.AHN ∧ s.isActive = true ∧ s.ahn.swap = some w ∧ s.mono + 4000000 < w.slotAt)) (swapping 5000000) ⟨1, 10000000, false⟩) = true := by decide +kernel

/-- Clauses of `EventsAndVectors` are met by concrete states. -/
theorem test_witness_events_and_vectors_1 :
    ((fun (s : State) (n : Nat) => decide (s.running = true ∧ 240 ≤ n ∧ n < 256)) State.reset 240 &&
    (fun (s : State) (n : Nat) => decide (s.running = true ∧ (n < 240 ∨ 256 ≤ n))) State.reset 256 &&
    (fun (s : State) (n v : Nat) => decide (s.running = true ∧ 240 ≤ n ∧ n < 256 ∧ s.flagB n F.EVT_ROUTE_HOST_EN = true ∧ s.flagB n F.EVT_ROUTE_REC_EN = false ∧ v = s.fldB n F.EVT_ROUTE_VEC ∧ s.pend n = false ∧ s.msixLive = true ∧ s.evt.fresh.get false v = true ∧ s.flag (maskFld v) = false ∧ s.evt.vecLast.get none v = none)) routed 240 5 &&
    (fun (s : State) (n : Nat) => decide (s.running = true ∧ 240 ≤ n ∧ n < 256 ∧ s.flagB n F.EVT_ROUTE_REC_EN = false ∧ s.pend n = true)) (routed.setFld (pendFld 240) 1) 240 &&
    (fun (s : State) (n : Nat) (m : Word) => decide (s.running = true ∧ n < 8)) (routed.setFld (pendFld 240) 1) 7 0xFFFF#32 &&
    (fun (s : State) (v at' : Nat) => decide (s.running = true ∧ s.evt.vecWait.get false v = true ∧ s.evt.vecLast.get none v = some at' ∧ s.passed at' (s.fldB v F.EVT_VEC_MOD_MOD_US * 1000) = true ∧ s.msixLive = true ∧ s.evt.fresh.get false v = true ∧ s.flag (maskFld v) = false)) { hostUp with evt := { hostUp.evt with vecWait := [(5, true)], vecLast := [(5, some 1000)] } } 5 1000 &&
    (fun (s : State) (v : Nat) => decide (s.running = true ∧ s.evt.vecWait.get false v = false)) hostUp 5 &&
    (fun (s : State) (v : Nat) => decide (s.running = true ∧ v < 64 ∧ s.flag (pbaFld v) = true ∧ s.msixLive = true ∧ s.evt.fresh.get false v = true)) (hostUp.setFld (pbaFld 5) 1) 5 &&
    (fun (s : State) (v : Nat) => decide (s.running = true ∧ v < 64 ∧ s.flag (pbaFld v) = false)) State.reset 63 &&
    (fun (s : State) => decide (s.running = true)) hostUp &&
    (fun (s : State) => decide (s.running = false)) (inPhase .loading hostUp) &&
    (fun (s : State) => decide (s.running = true ∧ s.flag F.HST_STATUS_LINK_UP = true)) hostUp &&
    (fun (s : State) => decide (s.running = true ∧ s.flag F.HST_STATUS_LINK_UP = false)) State.reset &&
    (fun (s : State) (sp w : Nat) => decide (s.running = true ∧ s.flag F.HST_STATUS_LINK_UP = false ∧ sp ≤ F.HST_STATUS_SPEED.max ∧ w ≤ F.HST_STATUS_WIDTH.max)) State.reset 3 4) = true := by decide +kernel

/-- Clauses of `EventsAndVectors` are met by concrete states. -/
theorem test_witness_events_and_vectors_2 :
    ((fun (s : State) (b : Bool) => decide (s.running = true)) hostUp false &&
    (fun (s : State) => decide (s.running = true)) State.reset &&
    (fun (s : State) => decide (s.running = true)) State.reset) = true := by decide +kernel

/-- Clauses of `RingsAndQueues` are met by concrete states. -/
theorem test_witness_rings_and_queues_1 :
    ((fun (s : State) (r : Nat) (v : Word) (g : Ring) => decide (s.running = true ∧ s.ringEn r = true ∧ s.ringDir r = dirOut ∧ g = { s.ring r with c := F.HST_DB_INDEX.get v } ∧ g.used ≤ s.ringCount r)) (ringOn 0 ⟨9, 2, false, 9⟩) 4 0x80000009#32 ⟨9, 9, false, 9⟩ &&
    (fun (s : State) (r : Nat) (v : Word) (g : Ring) => decide (s.running = true ∧ s.ringEn r = true ∧ s.ringDir r = dirIn ∧ g = { s.ring r with p := F.HST_DB_INDEX.get v } ∧ g.used ≤ s.ringCount r)) (ringOn 1 ⟨9, 2, false, 9⟩) 4 18#32 ⟨18, 2, false, 9⟩ &&
    (fun (s : State) (r : Nat) (v : Word) => decide (s.running = true ∧ (s.ringEn r = false ∨ s.ringDir r = dirLocal ∨ (s.ringDir r = dirOut ∧ s.ringCount r < ({ s.ring r with c := F.HST_DB_INDEX.get v } : Ring).used) ∨ (s.ringDir r = dirIn ∧ s.ringCount r < ({ s.ring r with p := F.HST_DB_INDEX.get v } : Ring).used)))) (ringOn 0 ⟨9, 2, false, 9⟩) 4 10#32 &&
    (fun (s : State) (v : Word) (r : Nat) => decide (s.running = true ∧ r = s.fld F.HST_RING_IDX_RING ∧ s.ringEn r = false ∧ F.HST_RING_CFG_DIR.get v ≤ 2 ∧ F.HST_RING_CFG_LOG2_COUNT.get v ≤ 12 ∧ 4 ≤ F.HST_RING_CFG_SLOT_LOG2.get v ∧ F.HST_RING_CFG_SLOT_LOG2.get v ≤ 12 ∧ F.HST_RING_CFG_MODE.get v = 0 ∧ s.ringBase r + 2 ^ (F.HST_RING_CFG_LOG2_COUNT.get v + 4) * 2 ^ F.HST_RING_CFG_SLOT_LOG2.get v ≤ bar2Size ∧ (∀ k ∈ List.range 1024, s.ringEn k = false))) ((State.reset.setFld F.HST_RING_IDX_RING 6).setFldB 6 F.HST_RING_BASE_BASE 1) (ringWord 7 3 2 0) 6 &&
    (fun (s : State) (v : Word) (r : Nat) => decide (s.running = true ∧ r = s.fld F.HST_RING_IDX_RING ∧ s.ringEn r = false ∧ F.HST_RING_CFG_DIR.get v ≤ 2 ∧ F.HST_RING_CFG_LOG2_COUNT.get v ≤ 12 ∧ 4 ≤ F.HST_RING_CFG_SLOT_LOG2.get v ∧ F.HST_RING_CFG_SLOT_LOG2.get v ≤ 12 ∧ bar2Size < s.ringBase r + 2 ^ (F.HST_RING_CFG_LOG2_COUNT.get v + 4) * 2 ^ F.HST_RING_CFG_SLOT_LOG2.get v)) ((State.reset.setFld F.HST_RING_IDX_RING 6).setFldB 6 F.HST_RING_BASE_BASE 65535) (ringWord 12 12 0 0) 6 &&
    (fun (s : State) (v : Word) (r k : Nat) => decide (s.running = true ∧ r = s.fld F.HST_RING_IDX_RING ∧ s.ringEn r = false ∧ F.HST_RING_CFG_DIR.get v ≤ 2 ∧ F.HST_RING_CFG_LOG2_COUNT.get v ≤ 12 ∧ 4 ≤ F.HST_RING_CFG_SLOT_LOG2.get v ∧ F.HST_RING_CFG_SLOT_LOG2.get v ≤ 12 ∧ s.ringBase r + 2 ^ (F.HST_RING_CFG_LOG2_COUNT.get v + 4) * 2 ^ F.HST_RING_CFG_SLOT_LOG2.get v ≤ bar2Size ∧ k < 1024 ∧ k ≠ r ∧ s.ringEn k = true ∧ s.ringBase k = s.ringBase r)) (((ringOn 0 ⟨0, 0, false, 0⟩).setFld F.HST_RING_IDX_RING 6).setFldB 6 F.HST_RING_BASE_BASE 256) (ringWord 4 0 1 0) 6 4 &&
    (fun (s : State) (v : Word) (r : Nat) => decide (s.running = true ∧ r = s.fld F.HST_RING_IDX_RING ∧ s.ringEn r = true)) ((ringOn 0 ⟨9, 2, false, 9⟩).setFld F.HST_RING_IDX_RING 4) (ringWord 4 5 1 1) 4 &&
    (fun (s : State) (q : Nat) => decide (s.works Blk.XQ ∧ s.xqConnected q = true ∧ s.expert Blk.XQ = false)) (queuesOn 0 false ⟨[(5, false)], true, false, true⟩) 0 &&
    (fun (s : State) (q : Nat) => decide (s.works Blk.XQ ∧ s.xqConnected q = true ∧ s.expert Blk.XQ = true)) (queuesOn 1 true ⟨[(5, false)], true, false, true⟩) 1 &&
    (fun (s : State) (q : Nat) => decide (s.works Blk.XQ ∧ s.xqConnected q = false)) (queuesOn 1 true ⟨[(5, false)], true, false, true⟩) 2 &&
    (fun (s : State) (q : Nat) => decide (s.works Blk.XQ ∧ q = s.fld F.XQ_Q_IDX_QUEUE ∧ s.xqConnected q = true ∧ s.xqPacket q = false)) (queuesOn 0 false ⟨[(5, false), (6, true)], false, false, false⟩) 0 &&
    (fun (s : State) (q n : Nat) (rest : List (Nat × Bool)) => decide (s.works Blk.XQ ∧ q = s.fld F.XQ_Q_IDX_QUEUE ∧ s.xqConnected q = true ∧ s.xqPacket q = true ∧ splitPacket (s.xqueue q).items = some (n, rest))) (queuesOn 1 false ⟨[(5, false), (6, true), (7, true)], false, false, false⟩) 1 2 [(7, true)] &&
    (fun (s : State) (q : Nat) => decide (s.works Blk.XQ ∧ q = s.fld F.XQ_Q_IDX_QUEUE ∧ s.xqConnected q = true ∧ s.xqPacket q = true ∧ (∀ i ∈ (s.xqueue q).items, i.2 = false))) (queuesOn 1 false ⟨[(5, false), (6, false)], false, false, false⟩) 1 &&
    (fun (s : State) (q : Nat) => decide (s.works Blk.XQ ∧ q = s.fld F.XQ_Q_IDX_QUEUE ∧ s.xqConnected q = true ∧ s.expert Blk.XQ = true)) (queuesOn 1 true ⟨[(5, false), (6, false)], false, false, true⟩) 1) = true := by decide +kernel

/-- Clauses of `RingsAndQueues` are met by concrete states. -/
theorem test_witness_rings_and_queues_2 :
    ((fun (s : State) => decide (s.works Blk.XQ ∧ s.expert Blk.XQ = false)) (queuesOn 1 false ⟨[(5, false)], false, false, false⟩) &&
    (fun (s : State) (q : Nat) => decide (s.works Blk.XQ ∧ q = s.fld F.XQ_Q_IDX_QUEUE ∧ s.expert Blk.XQ = true)) (queuesOn 1 true ⟨[(5, false)], false, true, false⟩) 1 &&
    (fun (s : State) => decide (s.works Blk.XQ ∧ s.expert Blk.XQ = false)) (queuesOn 1 false ⟨[(5, false)], false, true, false⟩)) = true := by decide +kernel

/-- Clauses of `PacketEngine` are met by concrete states. -/
theorem test_witness_packet_engine_1 :
    ((fun (s : State) (p : Nat) (f : List Byte) (r ring : Nat) => decide (s.running = true ∧ s.flagB p F.ETH_PORT_STAT_LINK = true ∧ 60 ≤ f.length ∧ f.length ≤ 9212 ∧ frameDst f = s.mac p ∧ s.ptpTakes p f = false ∧ s.arpForUs p f = false ∧ (isIpv4 f && ipv4Bad f) = false ∧ s.firstRule p f = some r ∧ ring = s.fldB r F.ETH_RULE_ACT_RING ∧ s.ringEn ring = true ∧ s.ringDir ring = dirLocal ∧ s.ringDma ring = false ∧ (s.ring ring).used ≠ s.ringCount ring ∧ (s.rulePayload r f).length + 8 ≤ s.ringSlot ring ∧ s.slotAt ring (s.ring ring).p + s.ringSlot ring ≤ bar2Size ∧ (s.ring ring).armed = false)) (ethUp (ringOn 2 ⟨9, 2, false, 9⟩)) 0 (ethFrameOf 0x1234 [7#8]) 2 4 &&
    (fun (s : State) (p : Nat) (f : List Byte) => decide (s.running = true ∧ s.flagB p F.ETH_PORT_STAT_LINK = true ∧ 60 ≤ f.length ∧ f.length ≤ 9212 ∧ frameDst f = s.mac p ∧ s.ptpTakes p f = false ∧ s.arpForUs p f = false ∧ (isIpv4 f && ipv4Bad f) = false ∧ s.firstRule p f = none ∧ s.flagB p F.ETH_PORT_CFG_DEF_EN = false)) (ethUp (ringOn 2 ⟨9, 2, false, 9⟩)) 0 (ethFrameOf 0x1235 [7#8]) &&
    (fun (s : State) (p : Nat) (f : List Byte) => decide (s.running = true ∧ s.flagB p F.ETH_PORT_STAT_LINK = true ∧ 60 ≤ f.length ∧ f.length ≤ 9212 ∧ frameDst f = s.mac p ∧ s.ptpTakes p f = false ∧ s.arpForUs p f = true ∧ s.ethCanSend p = true)) (ethUp State.reset) 0 (ethFrameOf 0x0806 arpBody) &&
    (fun (s : State) (p : Nat) (f : List Byte) => decide (s.running = true ∧ s.flagB p F.ETH_PORT_STAT_LINK = true ∧ 60 ≤ f.length ∧ f.length ≤ 9212 ∧ frameDst f ∉ [s.mac p, macBroadcast, macPtp, macPtpPeer])) (ethUp State.reset) 0 (List.replicate 60 1#8) &&
    (fun (s : State) (p : Nat) (f : List Byte) => decide (s.running = true ∧ s.flagB p F.ETH_PORT_STAT_LINK = true ∧ 60 ≤ f.length ∧ f.length ≤ 9212)) (ethUp State.reset) 0 (ethFrameOf 0x1234 []) &&
    (fun (s : State) (p : Nat) (f : List Byte) (ok : Bool) => decide (s.running = true ∧ s.flagB p F.ETH_PORT_STAT_LINK = true ∧ 9212 < f.length)) (ethUp State.reset) 0 (List.replicate 9213 0#8) true &&
    (fun (s : State) (p ring : Nat) (f : List Byte) => decide (s.running = true ∧ s.flagB p F.ETH_PORT_CFG_TXR_EN = true ∧ s.ethCanSend p = true ∧ ring = s.fldB p F.ETH_PORT_CFG_TX_RING ∧ s.ringEn ring = true ∧ s.ringDir ring = dirIn ∧ s.ringDma ring = false ∧ (s.ring ring).used ≠ 0 ∧ (s.ring ring).armed = false ∧ f = s.bar2Read (s.slotAt ring (s.ring ring).c + 8) (Bytes.toNat (s.bar2Read (s.slotAt ring (s.ring ring).c) 2)) ∧ f.length ≤ 9212 ∧ s.blkOn Blk.PTP = false)) (((ethUp (ringOn 1 ⟨9, 2, false, 9⟩)).setFldB 0 F.ETH_PORT_CFG_TXR_EN 1).setFldB 0 F.ETH_PORT_CFG_TX_RING 4) 0 4 [] &&
    (fun (s : State) (p : Nat) => decide (s.running = true ∧ s.ethCanSend p = false)) State.reset 0 &&
    (fun (s : State) (w ring p : Nat) => decide (s.running = true ∧ s.flagB w F.ETH_FWD_CFG_EN = true ∧ p = s.fldB w F.ETH_FWD_CFG_PORT ∧ s.ethCanSend p = true ∧ ring = s.fldB w F.ETH_FWD_CFG_RING ∧ s.ringEn ring = true ∧ s.ringDir ring = dirLocal ∧ s.ringDma ring = false ∧ (s.ring ring).used ≠ 0 ∧ (s.ring ring).armed = false)) (((ethUp (ringOn 2 ⟨9, 2, false, 9⟩)).setFldB 3 F.ETH_FWD_CFG_EN 1).setFldB 3 F.ETH_FWD_CFG_RING 4) 3 4 0 &&
    (fun (s : State) (w : Nat) => decide (s.running = true ∧ s.ethCanSend (s.fldB w F.ETH_FWD_CFG_PORT) = false)) State.reset 3 &&
    (fun (s : State) (v : Word) (r : Nat) => decide (s.running = true ∧ r = s.fld F.ETH_RULE_IDX_RULE ∧ s.flagB r F.ETH_RULE_ACT_EN = false ∧ s.ringEn (F.ETH_RULE_ACT_RING.get v) = true ∧ s.ringDir (F.ETH_RULE_ACT_RING.get v) = dirLocal ∧ F.ETH_RULE_ACT_UDP.get v = 0 ∧ (∀ o ∈ s.outputs, o.2 ≠ F.ETH_RULE_ACT_RING.get v) ∧ ringClash s.outputs = none)) ((ringOn 2 ⟨9, 2, false, 9⟩).setFld F.ETH_RULE_IDX_RULE 31) (F.ETH_RULE_ACT_RING.put 0#32 4) 31 &&
    (fun (s : State) (v : Word) (r : Nat) => decide (s.running = true ∧ r = s.fld F.ETH_RULE_IDX_RULE ∧ s.flagB r F.ETH_RULE_ACT_EN = false ∧ s.ringEn (F.ETH_RULE_ACT_RING.get v) = false)) (State.reset.setFld F.ETH_RULE_IDX_RULE 31) (F.ETH_RULE_ACT_RING.put 0#32 4) 31 &&
    (fun (s : State) (v : Word) (w : Nat) => decide (s.running = true ∧ w = s.fld F.ETH_FWD_IDX_FWD ∧ s.flagB w F.ETH_FWD_CFG_EN = false ∧ s.ringEn (F.ETH_FWD_CFG_RING.get v) = true ∧ s.ringDir (F.ETH_FWD_CFG_RING.get v) = dirLocal ∧ s.fldB w F.ETH_FWD_TPL_OFFSET * 64 + 42 ≤ bar2Size)) ((ringOn 2 ⟨9, 2, false, 9⟩).setFld F.ETH_FWD_IDX_FWD 1) (F.ETH_FWD_CFG_RING.put 0#32 4) 1 &&
    (fun (s : State) (p : Nat) (up : Bool) => decide (s.running = true ∧ s.flagB p F.ETH_PORT_STAT_LINK = !up)) (ethUp State.reset) 0 false) = true := by decide +kernel

/-- Clauses of `PacketEngine` are met by concrete states. -/
theorem test_witness_packet_engine_2 :
    ((fun (s : State) (p : Nat) (up : Bool) => decide (s.running = true ∧ s.flagB p F.ETH_PORT_STAT_LINK = up)) (ethUp State.reset) 0 true &&
    (fun (s : State) (p : Nat) (a b c : Bool) => decide (s.running = true)) State.reset 1 true false true) = true := by decide +kernel

/-- Clauses of `LogbookCommands` are met by concrete states. -/
theorem test_witness_logbook_commands_1 :
    ((fun (s : State) => decide (s.running = true ∧ s.flag F.LOG_STATUS_BUSY = false ∧ s.log.circRecs ++ s.log.buf ≠ [] ∧ seqGe s.log.next (s.fld F.LOG_RD_SEQ_SEQ) = true ∧ s.fld F.LOG_DST_OFFSET * 8 + s.fld F.LOG_RD_MAX_BYTES ≤ bar2Size)) ((logged id).setFld F.LOG_RD_SEQ_SEQ 3) &&
    (fun (s : State) => decide (s.running = true ∧ s.flag F.LOG_STATUS_BUSY = false ∧ s.log.perm ≠ [] ∧ seqGe s.log.next (s.fld F.LOG_RD_SEQ_SEQ) = true ∧ s.fld F.LOG_DST_OFFSET * 8 + s.fld F.LOG_RD_MAX_BYTES ≤ bar2Size)) ((logged id).setFld F.LOG_RD_SEQ_SEQ 9) &&
    (fun (s : State) => decide (s.running = true ∧ s.flag F.LOG_STATUS_BUSY = false ∧ (s.log.circRecs ++ s.log.buf = [] ∨ seqGe s.log.next (s.fld F.LOG_RD_SEQ_SEQ) = false))) ((logged id).setFld F.LOG_RD_SEQ_SEQ 10) &&
    (fun (s : State) => decide (s.running = true ∧ s.flag F.LOG_STATUS_BUSY = false ∧ s.log.perm ≠ [] ∧ seqGe s.log.next (s.fld F.LOG_RD_SEQ_SEQ) = true ∧ bar2Size < s.fld F.LOG_DST_OFFSET * 8 + s.fld F.LOG_RD_MAX_BYTES)) ((logged id).setFld F.LOG_DST_OFFSET 0x1FFFFFF) &&
    (fun (s : State) => decide (s.running = true ∧ s.flag F.LOG_STATUS_BUSY = true)) ((logged id).setFld F.LOG_STATUS_BUSY 1) &&
    (fun (s : State) (rd : LogRead) (recs : List LogRec) (bytes : List Byte) => decide (s.running = true ∧ s.log.read = some rd ∧ recs = takeRecs rd.maxBytes ((s.logArea rd.perm).filter fun r => seqGe r.lseq rd.seq) ∧ bytes = (recs.map LogRec.bytes).flatten ∧ rd.dst + bytes.length ≤ bar2Size)) (logged fun l => { l with read := some ⟨false, 3, 300, 64⟩, buf := [logRec 4] }) ⟨false, 3, 300, 64⟩ [logRec 3, logRec 4] ((logRec 3).bytes ++ (logRec 4).bytes) &&
    (fun (s : State) (rd : LogRead) (n : Nat) => decide (s.running = true ∧ s.log.read = some rd ∧ rd.perm = false)) (logged fun l => { l with read := some ⟨false, 3, 300, 64⟩ }) ⟨false, 3, 300, 64⟩ 1 &&
    (fun (s : State) (o : Option Nat) => decide (s.running = true ∧ s.log.read = none)) (logged id) (some 1) &&
    (fun (s : State) => decide (s.running = true ∧ s.flag F.LOG_STATUS_BUSY = false ∧ s.nandStopped = false ∧ s.log.repeats = [] ∧ s.log.dropped = 0 ∧ (s.keys.lc < 2 ∨ s.flag F.LOG_STATUS_PERM_FULL = true))) (logged fun l => { l with buf := [logRec 4] }) &&
    (fun (s : State) => decide (s.running = true ∧ s.flag F.LOG_STATUS_BUSY = true)) ((logged id).setFld F.LOG_STATUS_BUSY 1) &&
    (fun (s : State) => decide (s.running = true ∧ s.nandStopped = false ∧ s.log.repeats = [] ∧ s.log.dropped = 0 ∧ s.log.buf = [])) (logged id) &&
    (fun (s : State) (p u : Nat) => decide (s.running = true ∧ s.nandStopped = false ∧ 0 < p + u ∧ s.log.repeats = [] ∧ s.log.dropped = 0 ∧ s.log.buf = [])) (logged id) 1 2 &&
    (fun (s : State) (p u : Nat) => decide (s.running = true ∧ s.nandStopped = true)) { logged id with pins := { State.reset.pins with p12v := false } } 1 2 &&
    (fun (s : State) => decide (s.running = true ∧ (∀ e ∈ s.log.repeats, s.passed e.first (s.fld F.LOG_CFG_REPEAT_S * nsPerSec) = false))) (logged fun l => { l with repeats := [⟨3, 48, 0, 199000000000, 2, 5, 6⟩] })) = true := by decide +kernel

/-- Clauses of `LogbookCommands` are met by concrete states. -/
theorem test_witness_logbook_commands_2 :
    ((fun (s : State) (e : LogRepeat) => decide (s.running = true ∧ s.log.repeats = [e] ∧ s.passed e.first (s.fld F.LOG_CFG_REPEAT_S * nsPerSec) = true ∧ s.log.buf = [] ∧ s.flag F.LOG_CFG_OUT_EN = false)) (logged fun l => { l with repeats := [⟨3, 48, 0, 1000000000, 2, 5, 6⟩] }) ⟨3, 48, 0, 1000000000, 2, 5, 6⟩) = true := by decide +kernel

/-- Clauses of `MisalignedAccess` are met by concrete states. -/
theorem test_witness_misaligned_access :
    ((fun (s : State) (a w v : Nat) => decide ((w ≠ 4 ∨ a % 4 ≠ 0))) State.reset 0x18 2 5 &&
    (fun (s : State) (a w : Nat) => decide ((w ≠ 4 ∨ a % 4 ≠ 0))) State.reset 0x1A 4 &&
    (fun (s : State) (v : Nat) => decide (s.running = true)) State.reset 0x123456789) = true := by decide +kernel

/-- Clauses of `ResetReadsZero` are met by concrete states. -/
theorem test_witness_reset_reads_zero :
    ((fun (s : State) (a w : Nat) => decide (s.running = false)) (inPhase .loading { State.reset with hostRead := 5#32 }) 0x18 4 &&
    (fun (s : State) => decide (s.running = false)) (inPhase .loading { State.reset with hostRead := 5#32 }) &&
    (fun (s : State) => decide (s.running = false)) (inPhase .releasing { State.reset with hostRead := 5#32 }) &&
    (fun (s : State) => decide (s.running = false)) (inPhase .loading { State.reset with hostRead := 5#32 }) &&
    (fun (s : State) => decide (s.running = false)) (inPhase .loading { State.reset with hostRead := 5#32 }) &&
    (fun (s : State) => decide (s.running = false)) (inPhase .loading { State.reset with hostRead := 5#32 }) &&
    (fun (s : State) => decide (s.running = false)) (inPhase .loading { State.reset with hostRead := 5#32 }) &&
    (fun (s : State) (w : HostWrite) => decide (s.running = false)) (inPhase .loading State.reset) (.bar0 R.GLB_SCRATCH 4 5)) = true := by decide +kernel

/-- Clauses of `PairRootRule` are met by concrete states. -/
theorem test_witness_pair_root_rule :
    ((fun (s : State) => decide (s.running = true ∧ s.flag F.KEY_STATUS_BUSY = false ∧ s.nandStopped = false ∧ s.keys.root.isSome = true ∧ s.keys.pairRoot = none)) (keyed id) &&
    (fun (s : State) => decide (s.running = true ∧ s.keys.root = none ∧ (s.keys.lc = 1 ∨ s.keys.lc = 2) ∧ s.flag F.KEY_STATUS_TRNG_FAIL = false)) (keyed fun k => { k with root := none }) &&
    (fun (s : State) => decide (s.running = true ∧ s.flag F.KEY_STATUS_BUSY = false ∧ s.nandStopped = false ∧ s.keys.root.isSome = true ∧ s.keys.pairRoot = none)) (keyed id) &&
    (fun (s : State) (h : Bool) => decide (s.running = true ∧ s.flag F.KEY_STATUS_BUSY = false ∧ s.keys.root.isSome = true ∧ s.keys.pairRoot.isSome = true)) pairKeys true &&
    (fun (s : State) => decide (s.running = true ∧ s.flag F.KEY_STATUS_BUSY = false ∧ s.nandStopped = false ∧ s.blkOn Blk.AUT = false ∧ s.blkOn Blk.AHN = false)) pairKeys &&
    (fun (s : State) => decide (s.running = true ∧ s.flag F.KEY_STATUS_BUSY = false ∧ (s.blkOn Blk.AUT = true ∨ s.blkOn Blk.AHN = true))) (withOn [Blk.AUT])) = true := by decide +kernel

/-- Clauses of `BackupCountersEnd` are met by concrete states. -/
theorem test_witness_backup_counters_end :
    ((fun (s : State) => decide (s.pins.p12v = true)) { State.reset with bkp := { State.reset.bkp with hours := 4294967295 } }) = true := by decide +kernel

/-- Clauses of `RegisterAccess` are met by concrete states. -/
theorem test_witness_register_access_1 :
    ((fun (s : State) (a v : Nat) => decide (s.running = true ∧ a % 4 = 0 ∧ Regs.descAt a = none)) State.reset 0x510000 5 &&
    (fun (s : State) (a : Nat) => decide (s.running = true ∧ a % 4 = 0 ∧ Regs.descAt a = none)) State.reset 0x1C &&
    (fun (s : State) (v : Nat) => decide (s.running = true)) State.reset 5 &&
    (fun (s : State) => decide (s.running = true)) (State.reset.setReg R.GLB_SCRATCH 7#32) &&
    (fun (s : State) (n : Nat) => decide (s.running = true ∧ n < 4)) (State.reset.setReg (R.HST_CNT + 12) 7#32) 3 &&
    (fun (s : State) => decide (s.running = true)) State.reset &&
    (fun (s : State) (n v : Nat) => decide (s.running = true ∧ n < 8)) (State.reset.setReg (R.EVT_PEND + 28) 7#32) 7 2 &&
    (fun (s : State) (v : Nat) => decide (s.running = true ∧ s.isStandby = false ∧ s.blkOn Blk.AIR = false)) State.reset 0x10007 &&
    (fun (s : State) (v : Nat) => decide (s.running = true ∧ s.isActive = false ∧ s.isStandby = false ∧ s.blkOn Blk.AIR = true)) (withOn [Blk.AIR]) 0x10007 &&
    (fun (s : State) (v : Nat) => decide (s.running = true ∧ s.isStandby = true)) { State.reset with ahn := { State.reset.ahn with role := .sync } } 5 &&
    (fun (s : State) (v : Nat) => decide (s.running = true ∧ s.isActive = true ∧ s.ahn.linkUp = true ∧ s.ahn.mismatch = false ∧ s.partnerStandby = true ∧ v ≤ 3600000)) (withStandby (asActive State.reset)) 5 &&
    (fun (s : State) (v : Nat) => decide (s.running = true ∧ s.isStandby = false ∧ s.blkOn Blk.CLS = true ∧ 3600000 < v ∧ v < 2 ^ 32)) (withOn [Blk.CLS]) 3600001 &&
    (fun (s : State) (off : Nat) (b : List Byte) => decide (s.running = true ∧ 1 ≤ b.length ∧ b.length ≤ 64 ∧ off + b.length ≤ bar2Size)) State.reset 0xFFFFFFE [1#8, 2#8] &&
    (fun (s : State) (off : Nat) (b : List Byte) => decide (s.running = true ∧ (b.length = 0 ∨ 64 < b.length))) State.reset 5 []) = true := by decide +kernel

/-- Clauses of `RegisterAccess` are met by concrete states. -/
theorem test_witness_register_access_2 :
    ((fun (s : State) (on : Bool) => decide (s.running = true)) State.reset true) = true := by decide +kernel

/-- Clauses of `AccessMeterAndUpdateRows` are met by concrete states. -/
theorem test_witness_access_meter_and_update_rows_1 :
    ((fun (s : State) (w : Nat) => decide (s.works Blk.AIR ∧ s.isActive = true ∧ s.wideUp.contains w = true ∧ s.beaconKey.isSome = true)) { onAir with air := { onAir.air with recs := [(⟨7, 0, false, false, false, 0, 0, 5, -7, 900, 0, 0, 0, 3⟩, 600000000000), (⟨8, 0, false, false, false, 0, 0, 5, -7, 900, 0, 0, 0, 3⟩, 600000000000)] } } 0 &&
    (fun (s : State) (rx : AirRx) (n : Nat) => decide (s.works Blk.AIR ∧ s.blkOn Blk.AUT = true ∧ s.isStandby = false ∧ s.rxGood rx ∧ s.flag F.AUT_FSTOP_AIR_EN = true ∧ s.wideRx rx = false ∧ s.air.seen.contains ((s.rxFrame rx).src, (s.rxFrame rx).fseq) = false ∧ (s.rxFrame rx).ftype = Ft.STOP_REQ ∧ s.senderOf (s.rxFrame rx).src = some n ∧ (s.rxFrame rx).payload.length = 8 ∧ Bytes.at' (s.rxFrame rx).payload 4 1 = 1 ∧ s.nand.sndCtr.get 0 n < Bytes.at' (s.rxFrame rx).payload 0 4)) onAir (⟨0, octets [3, 1, 0, 0, 3, 240, 9, 0, 0, 0, 5, 0, 0, 0, 1, 0, 0, 0, 167, 146, 11, 112, 170, 27, 188, 142, 168, 83], 80⟩ : AirRx) 3 &&
    (fun (s : State) (m : Nat) => decide (s.works Blk.AIR)) { onAir with tai := 4000000000000, air := { onAir.air with duty := [(0, [(3999, 5), (400, 7), (401, 8)])] } } 0 &&
    (fun (s : State) (m : Nat) (w : AirWait) => decide (s.works Blk.AIR ∧ (s.airQueue m false).head? = some w ∧ w.until' ≤ s.mono ∧ s.dutyFull m = false ∧ s.mayStart m (s.airStart m 160000) (s.frameNs m 0 w.frame) = true ∧ 4 ≤ w.busy)) { onAir with tai := 600030000000, air := { onAir.air with waiting := [⟨0, frameOf 8 1 none [], false, 4, 4, 0, 0, false⟩] } } 0 ⟨0, frameOf 8 1 none [], false, 4, 4, 0, 0, false⟩) = true := by decide +kernel

/-- Clauses of `AccessMeterAndUpdateRows` are met by concrete states. -/
theorem test_witness_access_meter_and_update_rows_2 :
    ((fun (s : State) (m : Nat) (w : AirWait) => decide (s.works Blk.AIR ∧ (s.airQueue m true).head? = some w ∧ w.until' ≤ s.mono ∧ w.since + s.fld F.AIR_LBT_PRIO_WAIT_MS * 1000000 ≤ s.mono)) { onAir with tai := 600030000000, air := { onAir.air with waiting := [⟨0, frameOf 8 1 none [], true, 1, 4, 0, 0, false⟩] } } 0 ⟨0, frameOf 8 1 none [], true, 1, 4, 0, 0, false⟩ &&
    (fun (s : State) (rx : AirRx) => decide (s.works Blk.AIR ∧ s.rxGood rx ∧ s.wideRx rx = false ∧ (s.rxFrame rx).relayed = true ∧ (s.rxFrame rx).ftype = Ft.STOP ∧ (s.rxFrame rx).src = s.airAddr)) onAir (⟨0, octets [18, 1, 0, 0, 0, 255, 9, 0, 0, 0, 0, 0, 0, 0, 0, 0, 0, 0, 0, 0, 0, 0, 0, 0, 0, 0, 24, 34, 56, 132, 110, 5, 169, 236, 107, 55], 80⟩ : AirRx) &&
    (fun (s : State) (g dt good : Nat) (x : List (List (Nat × Int))) => decide (s.dmuClocks = true ∧ s.grpKind g ≠ 0 ∧ s.groupFault g = false)) metered 0 1000000 0 [[(0, 100), (1, 200)]] &&
    (fun (s : State) (n : Nat) => decide (s.dmuClocks = true ∧ n < 8 ∧ s.flagB n F.DMU_PO_CFG_EN = true ∧ 0 < (s.pulse n).pending ∧ (s.pulse n).busy ≤ s.mono)) pulsing 2) = true := by decide +kernel

/-- Clauses of `AccessMeterAndUpdateRows` are met by concrete states. -/
theorem test_witness_access_meter_and_update_rows_3 :
    ((fun (s : State) (w : Word) (n : Nat) => decide (s.running = true ∧ n = s.fld F.DMU_PO_IDX_OUTPUT ∧ F.DMU_PO_CFG_QTY.get w ≤ 2 ∧ 1 ≤ F.DMU_PO_CFG_WIDTH_MS.get w)) (pulsing.setFld F.DMU_PO_IDX_OUTPUT 2) 0x80000100#32 2 &&
    (fun (s : State) (g : Nat) => decide (s.dmuClocks = true ∧ s.flagB g F.DMU_GRP_STAT_AC_LOCK = true)) (metered.setFldB 0 F.DMU_GRP_STAT_AC_LOCK 1) 0 &&
    (fun (s : State) (n : Nat) => decide (s.dmuClocks = true ∧ n < 24 ∧ (s.fld F.DMU_IN_FAULT_FAULT).testBit n = false ∧ s.inGroup n ≠ 0xFF)) metered 1 &&
    (fun (s : State) (n : Nat) => decide (s.running = true ∧ n < 24 ∧ (s.dmu.faults.get none n).isSome = true)) { metered.setFld F.DMU_IN_FAULT_FAULT 2 with dmu := { metered.dmu with faults := [(1, some (999000000000, 5, 6))] } } 1) = true := by decide +kernel

/-- Clauses of `AccessMeterAndUpdateRows` are met by concrete states. -/
theorem test_witness_access_meter_and_update_rows_4 :
    ((fun (s : State) => decide (s.works Blk.DMU ∧ s.nandStopped = false)) metered &&
    (fun (s : State) (b : Nat) => decide (s.dmuClocks = true ∧ s.expert Blk.DMU = false ∧ s.bays.contains b = true ∧ (s.currentsOf b).all (fun n => decide (s.fldB n F.DMU_IN_RMS_RMS < s.fld F.DMU_BAY_IDLE_MA)) = true)) (metered.setFld F.DMU_BAY_IDLE_MA 100) 0 &&
    (fun (s : State) (b : Nat) => decide (s.works Blk.DMU ∧ s.expert Blk.DMU = true ∧ b < 16 ∧ s.grpBay b = true)) (metered.setFld (Blk.level Blk.DMU) 1) 0 &&
    (fun (s : State) (b : Nat) => decide (s.works Blk.DMU ∧ s.expert Blk.DMU = true ∧ b < 16 ∧ s.grpBay b = true)) ((metered.setFld (Blk.level Blk.DMU) 1).setFldB 0 F.DMU_GRP_STAT_BAY_FREE 1) 0) = true := by decide +kernel

/-- Clauses of `AccessMeterAndUpdateRows` are met by concrete states. -/
theorem test_witness_access_meter_and_update_rows_5 :
    ((fun (s : State) => decide (s.works Blk.UPD ∧ s.nandStopped = false)) (fwOn id) &&
    (fun (s : State) (total : Nat) => decide (s.works Blk.UPD ∧ s.nandStopped = false ∧ s.fw.receiving = some total ∧ crc32 (s.bar2Read (s.fld F.UPD_SRC_OFFSET * 8) (s.fld F.UPD_LEN_LEN)) = (s.reg R.UPD_CRC).toNat ∧ s.fld F.UPD_OFF_UNIT < fwUnits total ∧ s.fld F.UPD_LEN_LEN = fwUnitLen total (s.fld F.UPD_OFF_UNIT) ∧ s.fld F.UPD_LEN_LEN % 8 = 0 ∧ 8 ≤ s.fld F.UPD_LEN_LEN)) (((fwOn fun w => { w with receiving := some 264 }).setFld F.UPD_LEN_LEN 264).setReg R.UPD_CRC (BitVec.ofNat 32 (crc32 (List.replicate 264 0#8)))) 264 &&
    (fun (s : State) (img : List Byte) (total : Nat) => decide (s.works Blk.UPD ∧ s.nandStopped = false ∧ s.fw.receiving = some total ∧ s.fw.image total = some img ∧ s.fwCheck img (s.reg R.UPD_TOTAL).toNat = none)) (fwOn fun w => { w with receiving := some 264, received := [(0, some (fwSmall 3))] }) (fwSmall 3) 264 &&
    (fun (s : State) (total : Nat) => decide (s.works Blk.UPD ∧ s.fw.receiving = some total)) (fwOn fun w => { w with receiving := some 264 }) 264) = true := by decide +kernel

/-- Clauses of `AccessMeterAndUpdateRows` are met by concrete states. -/
theorem test_witness_access_meter_and_update_rows_6 :
    ((fun (s : State) (img : List Byte) => decide (s.works Blk.UPD ∧ s.fw.trial = true ∧ s.fw.run = some img)) (fwOn fun w => { w with trial := true }) (fwSmall 4) &&
    (fun (s : State) (prev : List Byte) => decide (s.works Blk.UPD ∧ s.fw.prev = some prev ∧ s.fw.rollback ≤ fwRollback prev)) (fwOn id) (fwSmall 6) &&
    (fun (s : State) => decide (s.running = true ∧ s.fw.revert = false ∧ s.fw.trial = true ∧ s.passed s.upd.trialAt (s.fld F.UPD_TRIAL_TRIAL_S * nsPerSec) = true)) { fwOn fun w => { w with trial := true } with mono := 600000000001 } &&
    (fun (s : State) (img : List Byte) => decide (s.running = true ∧ s.sim.applied = some img ∧ s.expert Blk.UPD = false ∧ (∀ b ∈ Blk.image, imgPresent img b = true → s.blkOn b = true) ∧ s.ahn.role ≠ .none ∧ s.passed s.ahn.roleSince (60 * nsPerSec) = true ∧ s.fw.trial = true ∧ s.fw.run.isSome = true)) { asActive { fwOn fun w => { w with trial := true } with sim := { State.reset.sim with applied := some realImage } } with mono := 60000000001 } realImage) = true := by decide +kernel

/-- Clauses of `AccessMeterAndUpdateRows` are met by concrete states. -/
theorem test_witness_access_meter_and_update_rows_7 :
    ((fun (s : State) (img : List Byte) => decide (s.running = true ∧ s.upd.copyDue = true ∧ s.fw.revert = false ∧ s.fw.stage = some img ∧ s.fwCheck img (Bytes.at' img 24 4) = none ∧ s.fw.prevDone = false)) (fwOn fun w => { w with stage := some (fwSmall 3) }) (fwSmall 3) &&
    (fun (s : State) (w : Swap) => decide (s.works Blk.AHN ∧ s.isActive = true ∧ s.ahn.swap = some w ∧ s.mono + 3000000 < w.slotAt ∧ w.slotAt ≤ s.mono + 4000000)) (swapping 6500000) ⟨1, 10000000, false⟩) = true := by decide +kernel

end Sys2Proof.Tests
end

section
/-!
What a host access to BAR0 or BAR2 does (R3, R4, R311, R332, R333): the register an offset names, what a write stores, what a
read returns and clears. The laws are stated for any register; the last two theorems settle O55 and O59 from them.
-/

namespace Sys2Proof.Machine

/-! ## Fields that fill a register -/

@[simp] theorem Fld.get_word (a : Nat) (w : Word) : (⟨a, 31, 0⟩ : Fld).get w = w.toNat := by
  rw [Fld.get, bitsOf_eq]
  exact (Nat.div_one _).symm ▸ Nat.mod_eq_of_lt w.isLt

@[simp] theorem Fld.put_word (a : Nat) (w : Word) (v : Nat) : (⟨a, 31, 0⟩ : Fld).put w v = BitVec.ofNat 32 v := by
  have h : w.toNat < 4294967296 := w.isLt
  apply BitVec.eq_of_toNat_eq
  rw [Fld.put_toNat _ _ _ (Nat.zero_le 31) (Nat.lt_succ_self 31)]
  simp [h, Nat.mod_one]

theorem State.fldB_word (s : State) (b a : Nat) : s.fldB b ⟨a, 31, 0⟩ = (s.regB b a).toNat := Fld.get_word a _

theorem State.setFldB_word (s : State) (b a v : Nat) : s.setFldB b ⟨a, 31, 0⟩ v = s.setRegB b a (BitVec.ofNat 32 v) := by
  rw [State.setFldB, Fld.put_word]

theorem State.setFldB_get_word (s : State) (b a : Nat) (w : Word) :
    s.setFldB b ⟨a, 31, 0⟩ ((⟨a, 31, 0⟩ : Fld).get w) = s.setRegB b a w := by
  rw [State.setFldB_word, Fld.get_word, BitVec.ofNat_toNat, BitVec.setWidth_eq]

/-- A counter of 32 bits saturates (R4). -/
theorem State.fld_bump_word (s : State) (n : Nat) {a : Nat} (ha : a < 0x4000000) :
    (s.bump ⟨a, 31, 0⟩ n).fld ⟨a, 31, 0⟩ = min (s.fld ⟨a, 31, 0⟩ + n) (2 ^ 32 - 1) := by
  have hset := s.fldB_setFldB_same 0 ⟨a, 31, 0⟩ (min (s.fldB 0 ⟨a, 31, 0⟩ + n) (2 ^ 32 - 1)) ha (Nat.zero_le 31) (Nat.lt_succ_self 31)
  have hlt : min (s.fldB 0 ⟨a, 31, 0⟩ + n) (2 ^ 32 - 1) < 2 ^ 32 := by omega
  exact hset.trans (Nat.mod_eq_of_lt hlt)

theorem State.bump_frame (s : State) (f : Fld) (n : Nat) (ha : f.addr < 0x4000000) : State.Frame [f.addr] [] s (s.bump f n) :=
  s.bumpB_frame 0 n ha

/-- A 1 written to a bit of a word clears it, a 0 leaves it. -/
theorem ofNat_and_complement (w v : Word) : BitVec.ofNat 32 (w.toNat &&& (2 ^ 32 - 1 ^^^ v.toNat)) = w &&& ~~~v := by
  simp [BitVec.not_def]

/-- A register all of whose bits are shown reads as it is. -/
theorem ofNat_land_ones (w : Word) : BitVec.ofNat 32 (Nat.land w.toNat 0xFFFFFFFF) = w := by
  have h : Nat.land w.toNat (2 ^ 32 - 1) = w.toNat % 2 ^ 32 := Nat.and_two_pow_sub_one_eq_mod _ _
  rw [show (0xFFFFFFFF : Nat) = 2 ^ 32 - 1 from rfl, h, Nat.mod_eq_of_lt w.isLt, BitVec.ofNat_toNat, BitVec.setWidth_eq]

/-! ## The record of a host read -/

theorem State.hostRead_frame (s : State) (w : Word) : State.Frame [] [.hostRead] s { s with hostRead := w } :=
  ⟨fun _ _ _ _ => rfl, fun _ => rfl, fun p hp => by cases p <;> simp_all [Part.same]⟩

theorem State.hostRead_freeCtr_frame (s : State) (w : Word) (n : Nat) :
    State.Frame [] [.hostRead, .freeCtr] s { s with hostRead := w, freeCtr := n } :=
  ⟨fun _ _ _ _ => rfl, fun _ => rfl, fun p hp => by cases p <;> simp_all [Part.same]⟩

/-- The record of a read is no register. -/
theorem State.hostRead_fld (s : State) (w : Word) (f : Fld) : ({ s with hostRead := w } : State).fld f = s.fld f := rfl

/-! ## The outer form of a host access -/

/-- A write of another width or alignment is discarded, in reset and out of it (R3). -/
theorem exec_bar0_misaligned (s : State) {a w : Nat} (v : Nat) (h : w ≠ 4 ∨ a % 4 ≠ 0) :
    exec (.registerWrite (.bar0 a w v)) s = .next s := by
  have hw : s.hostWrite (.bar0 a w v) = s := by simp [State.hostWrite, State.bar0Write, h]
  change Host.Outcome.next (s.live fun s => s.hostWrite (.bar0 a w v)) = _
  simp [State.live, hw]

/-- A read of another width or alignment returns 0 without effect (R3). -/
theorem exec_readClear_misaligned (s : State) {a w : Nat} (h : w ≠ 4 ∨ a % 4 ≠ 0) :
    exec (.readClear a w) s = .next { s with hostRead := 0 } := by
  change execReadClear a w s = _
  simp [execReadClear, whileRead, h]

theorem exec_registerWrite {s : State} (h : s.running = true) (w : HostWrite) :
    exec (.registerWrite w) s = .next (s.hostWrite w) := whileRunning_eq (fun s => s.hostWrite w) h

/-- A word write at an offset without a register counts in `HST_CNT0` (R332). -/
theorem exec_bar0_unmapped {s : State} {a : Nat} (hs : s.running = true) (h4 : a % 4 = 0) (hd : Regs.descAt a = none) (v : Nat) :
    exec (.registerWrite (.bar0 a 4 v)) s = .next (s.bump F.HST_CNT_COUNT) := by
  rw [exec_registerWrite hs]
  simp [State.hostWrite, State.bar0Write, h4, hd]

/-- A word read at an offset without a register returns 0 and counts in `HST_CNT0` (R332). -/
theorem exec_readClear_unmapped {s : State} {a : Nat} (hs : s.running = true) (h4 : a % 4 = 0) (hd : Regs.descAt a = none) :
    exec (.readClear a 4) s = .next { s.bump F.HST_CNT_COUNT with hostRead := 0 } := by
  change execReadClear a 4 s = _
  rw [execReadClear, whileRead_eq _ hs]
  simp only [h4, hd, bne_self_eq_false, Bool.or_self, Bool.false_eq_true, if_false]

/-! ## Registers without a command -/

/-- The registers whose write `State.baseCmd` takes. -/
def baseCmdRegs : List Nat :=
  [R.SIM_CMD, R.PWR_HOST_LEAVE, R.PWR_BUDGET, R.PWR_TEST, R.RST_CMD, R.RST_OPT_CMD, R.EVT_RAISE, R.XQ_Q_CMD, R.LOG_CMD,
    R.ETH_RULE_ACT, R.ETH_FWD_CFG, R.HST_RING_CFG, R.HST_DB]

/-- The registers whose write `State.serviceCmd` takes. -/
def serviceCmdRegs : List Nat :=
  [R.KEY_CMD, R.KEY_LC, R.UPD_CMD, R.TIM_SET_CMD, R.TIM_OUT, R.TIM_TO_CFG, R.TIM_FREQ, R.GRX_ANT, R.GRX_CH_CFG, R.GRX_NOTCH_SET,
    R.GRX_SPOOF, R.GRX_POS_HI, R.GRX_SURVEY, R.AHN_CMD, R.RHL_CMD, R.RHL_LINK_CFG, R.RHL_STR_GAIN]

/-- The registers whose write `State.fleetCmd` takes. -/
def fleetCmdRegs : List Nat :=
  [R.CLS_GO, R.AUT_FSTOP, R.AUT_COMMA, R.AUT_REARM, R.AUT_LIFE, R.AUT_DISC, R.AUT_KICK, R.AUT_REVOKE, R.SLV_CMD, R.SLV_MACH_CFG,
    R.SLV_WAKE, R.CLS_MACH_DATA]

/-- The registers whose write `State.workCmd` takes. -/
def workCmdRegs : List Nat :=
  [R.AIR_MACH_CMD, R.AIR_MACH_GRANT0, R.AIR_MACH_GRANT1, R.AIR_MACH_GRANT2, R.AIR_MOD_WIDE, R.AIR_MACH_REG, R.DSP_GO, R.DSP_THR_CMD,
    R.LPE_SLOT_CMD, R.LPE_SLOT_STAT, R.LPE_SLOT_IN, R.LPE_SLOT_AID, R.LPE_SLOT_SP, R.DMU_PO_CFG, R.DMU_BAY_CMD]

/-- A write of the register is the write of its fields, and no command. -/
def plainReg (a : Nat) : Bool :=
  (ctrlBlock a).isNone && a != R.HST_MSIX && !baseCmdRegs.contains a && !serviceCmdRegs.contains a && !fleetCmdRegs.contains a
    && !workCmdRegs.contains a && !outputRegs.contains a

theorem State.baseCmd_eq_none (s : State) {a : Nat} (n : Nat) (w : Word) (h : a ∉ baseCmdRegs) : s.baseCmd a n w = none := by
  simp only [baseCmdRegs, List.mem_cons, List.not_mem_nil, or_false, not_or] at h
  simp [State.baseCmd, h]

theorem State.serviceCmd_eq_none (s : State) {a : Nat} (w : Word) (h : a ∉ serviceCmdRegs) : s.serviceCmd a w = none := by
  simp only [serviceCmdRegs, List.mem_cons, List.not_mem_nil, or_false, not_or] at h
  simp [State.serviceCmd, h]

theorem State.fleetCmd_eq_none (s : State) {a : Nat} (w : Word) (h : a ∉ fleetCmdRegs) : s.fleetCmd a w = none := by
  simp only [fleetCmdRegs, List.mem_cons, List.not_mem_nil, or_false, not_or] at h
  simp [State.fleetCmd, h]

theorem State.workCmd_eq_none (s : State) {a : Nat} (w : Word) (h : a ∉ workCmdRegs) : s.workCmd a w = none := by
  simp only [workCmdRegs, List.mem_cons, List.not_mem_nil, or_false, not_or] at h
  simp [State.workCmd, h]

theorem State.bar0Word_plain (s : State) {d : RegDesc} (n : Nat) (w : Word) (h : plainReg d.addr = true) :
    s.bar0Word d n w = (s.hostReg (d.addr + 4 * n) w).1 := by
  simp only [plainReg, Bool.and_eq_true, Bool.not_eq_true', Option.isNone_iff_eq_none, bne_iff_ne, List.contains_eq_mem,
    decide_eq_false_iff_not] at h
  obtain ⟨⟨⟨⟨⟨⟨hctrl, hmsix⟩, hbase⟩, hservice⟩, hfleet⟩, hwork⟩, hout⟩ := h
  simp [State.bar0Word, hctrl, hmsix, s.baseCmd_eq_none n w hbase, s.serviceCmd_eq_none w hservice, s.fleetCmd_eq_none w hfleet,
    s.workCmd_eq_none w hwork, hout]

/-- A word write of a register without a command stores its fields by the rules of the pair (R4, R311). -/
theorem exec_bar0_plain {s : State} {a n : Nat} {d : RegDesc} (hs : s.running = true)
    (hd : Regs.descAt a = some d) (ha : a = d.addr + 4 * n) (h4 : d.addr % 4 = 0) (hp : plainReg d.addr = true) (v : Nat) :
    exec (.registerWrite (.bar0 a 4 v)) s = .next (s.regWrite d n (s.bankOf d) (BitVec.ofNat 32 v)).1 := by
  have hn : (a - d.addr) / 4 = n := by omega
  have hw : s.hostWrite (.bar0 a 4 v) = s.bar0Word d n (BitVec.ofNat 32 v) := by
    simp [State.hostWrite, State.bar0Write, show a % 4 = 0 by omega, hd, hn]
  rw [exec_registerWrite hs, hw, s.bar0Word_plain _ _ hp, ← ha, State.hostReg, hd]
  simp only [hn]

/-- A register that shows no entry of a table is of entry 0. -/
theorem State.bankOf_none (s : State) {d : RegDesc} (h : d.bank = none) : s.bankOf d = 0 := by
  simp [State.bankOf, h]

/-! ## What a write stores, by access code (R4, R35) -/

theorem State.regStore_readOnly (s : State) {d : RegDesc} (n b : Nat) (w : Word) (h : d.fields = []) :
    s.regStore d n b w = (s, true) := by
  simp [State.regStore, RegDesc.fieldsAt, h]

/-- An image block's registers wait on its own EN. -/
theorem blockEn_image (s : State) {b : Nat} (h : b ∈ Blk.image) : blockEn s b = s.blkOn b := by
  simp [blockEn, h]

section OneField

variable {d : RegDesc} {n b : Nat} {w : Word} {f : Fld} {r : Range}

/-- A value in its range is stored. -/
theorem State.regStore_rw (s : State) (h : d.fieldsAt n = [⟨f, .rw, r⟩])
    (hr : (s.setFldB b f (f.get w)).inRange b ⟨f, .rw, r⟩ = true) :
    s.regStore d n b w = (s.setFldB b f (f.get w), true) := by
  simp [State.regStore, h, State.fieldWrite, hr]

/-- A value out of its range is ignored while the block is enabled. -/
theorem State.regStore_rw_outOfRange (s : State) (h : d.fieldsAt n = [⟨f, .rw, r⟩]) (hon : blockEn s ((Blk.at' d.addr).getD 0) = true)
    (hr : (s.setFldB b f (f.get w)).inRange b ⟨f, .rw, r⟩ = false) : s.regStore d n b w = (s, false) := by
  simp [State.regStore, h, State.fieldWrite, hr, hon]

/-- A 1 clears the bit. -/
theorem State.regStore_w1c (s : State) (h : d.fieldsAt n = [⟨f, .w1c, r⟩]) :
    s.regStore d n b w = (s.setFldB b f (s.fldB b f &&& (f.max ^^^ f.get w)), true) := by
  simp [State.regStore, h, State.fieldWrite]

/-- While the block is enabled an RWL field keeps its value. -/
theorem State.regStore_rwl_locked (s : State) (h : d.fieldsAt n = [⟨f, .rwl, r⟩]) (hl : s.rwlLocked d b = true) :
    s.regStore d n b w = (s, true) := by
  simp [State.regStore, h, State.fieldWrite, hl]

/-- While the block is disabled an RWL field takes the value. -/
theorem State.regStore_rwl (s : State) (h : d.fieldsAt n = [⟨f, .rwl, .any⟩]) (hl : s.rwlLocked d b = false) :
    s.regStore d n b w = (s.setFldB b f (f.get w), true) := by
  simp [State.regStore, h, State.fieldWrite, hl, State.inRange, State.rangeHolds]

end OneField

/-! ## The rules of the pair (R311) -/

theorem State.not_isStandby_of_isActive {s : State} (h : s.isActive = true) : s.isStandby = false := by
  simp only [State.isActive, beq_iff_eq] at h
  simp [State.isStandby, h]

@[simp] theorem State.mirror_fld (s : State) (k : Nat) (m : MirrorBody) (snap : Bool) (f : Fld) :
    (s.mirror k m snap).fld f = s.fld f := by simp [State.fld, State.fldB]

theorem State.mirror_of_not_active {s : State} (h : s.isActive = false) (k : Nat) (m : MirrorBody) : s.mirror k m = s := by
  simp [State.mirror, h]

/-- An active module sends to its standby partner, with the next sequence number (R309). -/
theorem State.mirror_sent {s : State} (hact : s.isActive = true) (hlink : s.ahn.linkUp = true) (hmis : s.ahn.mismatch = false)
    (hpar : s.partnerStandby = true) (k : Nat) (m : MirrorBody) :
    s.mirror k m = { s with
      ahn := { s.ahn with
        mseqTx := (s.ahn.mseqTx + 1) % 2 ^ 32
        unacked := lagSent s.mono ((s.ahn.mseqTx + 1) % 2 ^ 32) s.ahn.unacked }
      out := .mirror ⟨false, (s.ahn.mseqTx + 1) % 2 ^ 32, k, m⟩ :: s.out } := by
  simp [State.mirror, hact, hlink, hmis, hpar, State.emit]

section PairRules

variable {s t : State} {d : RegDesc} {n b : Nat} {w : Word}

theorem State.regWrite_own (h : mirroredReg d = false) : s.regWrite d n b w = s.regStore d n b w := by
  simp [State.regWrite, h]

/-- A standby ignores the write and counts it. -/
theorem State.regWrite_standby (h : mirroredReg d = true) (hf : d.addr ≠ R.AUT_FSTOP) (hs : s.isStandby = true) :
    s.regWrite d n b w = (s.bump (F.AHN_CNT_COUNT.nth 2), false) := by
  simp [State.regWrite, h, hs, hf]

/-- An accepted write goes to the partner with what the register holds. -/
theorem State.regWrite_mirrored (h : mirroredReg d = true) (hs : s.isStandby = false) (hr : s.regStore d n b w = (t, true)) :
    s.regWrite d n b w =
      (t.mirror (d.addr + 4 * n) (.regWrite (d.addr + 4 * n) b (t.regB b (d.addr + 4 * n)).toNat), true) := by
  simp [State.regWrite, h, hs, hr]

theorem State.regWrite_refused (h : mirroredReg d = true) (hs : s.isStandby = false) (hr : s.regStore d n b w = (t, false)) :
    s.regWrite d n b w = (t, false) := by
  simp [State.regWrite, h, hs, hr]

end PairRules

/-! ## Reads -/

/-- The registers whose read takes a snapshot of others. -/
def latchRegs : List Nat := [R.CLS_NOW_LO, R.AUT_SEQ_LO, R.TIM_SEC_LO, R.TIM_TC_SEC, R.GRX_HELD_LO, R.DMU_ACC_LO, R.RST_RTC_LO]

/-- A read of a register that takes no snapshot returns what the register shows and clears its RC fields (R4). -/
theorem exec_readClear_plain {s : State} {a n : Nat} {d : RegDesc} (hs : s.running = true)
    (hd : Regs.descAt a = some d) (ha : a = d.addr + 4 * n) (h4 : d.addr % 4 = 0) (hl : d.addr ∉ latchRegs) :
    exec (.readClear a 4) s = .next { s.readClears d n (s.bankOf d) with
      hostRead := BitVec.ofNat 32 (Nat.land (s.regView d n (s.bankOf d)).toNat d.shown)
      freeCtr := (s.readClears d n (s.bankOf d)).freeCtr + 1 } := by
  have hn : (a - d.addr) / 4 = n := by omega
  change execReadClear a 4 s = _
  rw [execReadClear, whileRead_eq _ hs]
  simp only [latchRegs, List.mem_cons, List.not_mem_nil, or_false, not_or] at hl
  simp [show a % 4 = 0 by omega, hd, State.bar0Read, hl, hn]

theorem State.readClears_none (s : State) {d : RegDesc} (n b : Nat) (h : (d.fieldsAt n).all (fun fd => fd.access != .rc) = true) :
    s.readClears d n b = s := by
  have hf : (d.fieldsAt n).filter (fun fd => fd.access == .rc) = [] := by
    rw [List.filter_eq_nil_iff]
    intro fd hm
    simpa using List.all_eq_true.mp h fd hm
  simp [State.readClears, hf]

theorem State.readClears_one (s : State) {d : RegDesc} {n b : Nat} {f : Fld} {r : Range} (h : d.fieldsAt n = [⟨f, .rc, r⟩]) :
    s.readClears d n b = s.setFldB b f 0 := by
  simp [State.readClears, h]

/-- A register without a write-only or live field shows the word held. -/
theorem State.regView_held (s : State) {d : RegDesc} {n b : Nat} (hw : (d.fieldsAt n).all (fun fd => fd.access != .wo) = true)
    (hl : s.live' d n b = []) : s.regView d n b = s.regB b (d.addr + 4 * n) := by
  have hf : (d.fieldsAt n).filter (fun fd => fd.access == .wo) = [] := by
    rw [List.filter_eq_nil_iff]
    intro fd hm
    simpa using List.all_eq_true.mp hw fd hm
  simp [State.regView, hf, hl]

/-! ## The registers the statements name -/

theorem descAt_glbId : Regs.descAt R.GLB_ID = some ⟨R.GLB_ID, 1, none, [], 0xFFFFFF00⟩ := by decide +kernel

theorem descAt_glbScratch :
    Regs.descAt R.GLB_SCRATCH = some ⟨R.GLB_SCRATCH, 1, none, [⟨F.GLB_SCRATCH_VALUE, .rw, .any⟩], 0xFFFFFFFF⟩ := by decide +kernel

theorem descAt_keyCmd : Regs.descAt R.KEY_CMD = some ⟨R.KEY_CMD, 1, none, [⟨F.KEY_CMD_OP, .wo, .any⟩], 0⟩ := by decide +kernel

theorem descAt_hstCnt : ∀ n < 4,
    Regs.descAt (R.HST_CNT + 4 * n) = some ⟨R.HST_CNT, 4, none, [⟨F.HST_CNT_COUNT, .rc, .any⟩], 0xFFFFFFFF⟩ := by decide +kernel

theorem descAt_evtPend : ∀ n < 8,
    Regs.descAt (R.EVT_PEND + 4 * n) = some ⟨R.EVT_PEND, 8, none, [⟨F.EVT_PEND_PEND, .w1c, .any⟩], 0xFFFFFFFF⟩ := by decide +kernel

/-- `AIR_CFG` as a host access sees it. -/
def airCfgDesc : RegDesc := ⟨R.AIR_CFG, 1, none, [⟨F.AIR_CFG_PAIR_ID, .rwl, .any⟩], 0xFFFF⟩

theorem descAt_airCfg : Regs.descAt R.AIR_CFG = some airCfgDesc := by decide +kernel

/-- `CLS_NOTICE` as a host access sees it. -/
def clsNoticeDesc : RegDesc := ⟨R.CLS_NOTICE, 1, none, [⟨F.CLS_NOTICE_NOTICE_MS, .rw, .within 0 3600000⟩], 0xFFFFFFFF⟩

theorem descAt_clsNotice : Regs.descAt R.CLS_NOTICE = some clsNoticeDesc := by decide +kernel

theorem State.rwlLocked_airCfg (s : State) : s.rwlLocked airCfgDesc 0 = s.blkOn Blk.AIR :=
  blockEn_image s (b := Blk.AIR) (by decide)

/-- A notice written is in range up to 3,600,000 ms. -/
theorem State.inRange_clsNotice (s : State) {v : Nat} (hv : v < 2 ^ 32) :
    (s.setFldB 0 F.CLS_NOTICE_NOTICE_MS (F.CLS_NOTICE_NOTICE_MS.get (BitVec.ofNat 32 v))).inRange 0
      ⟨F.CLS_NOTICE_NOTICE_MS, .rw, .within 0 3600000⟩ = decide (v ≤ 3600000) := by
  have hw : (s.setRegB 0 R.CLS_NOTICE (BitVec.ofNat 32 v)).fldB 0 F.CLS_NOTICE_NOTICE_MS = v := by
    rw [State.fldB_word, State.regB_setRegB_same _ _ _ (by decide), BitVec.toNat_ofNat, Nat.mod_eq_of_lt hv]
  rw [State.setFldB_get_word]
  simp [State.inRange, State.rangeHolds, hw]

/-! ## What their accesses do -/

section Accesses

variable {s : State} (hs : s.running = true)
include hs

/-- R4: the scratch register stores every word. -/
theorem exec_write_glbScratch (v : Nat) :
    exec (.registerWrite (.bar0 R.GLB_SCRATCH 4 v)) s = .next (s.setRegB 0 R.GLB_SCRATCH (BitVec.ofNat 32 v)) := by
  rw [exec_bar0_plain (n := 0) hs descAt_glbScratch rfl rfl (by decide), State.bankOf_none s rfl, State.regWrite_own (by decide),
    State.regStore_rw s rfl rfl, Fld.nth, State.setFldB_get_word]

/-- R4: a register of RO fields ignores a write. -/
theorem exec_write_glbId (v : Nat) : exec (.registerWrite (.bar0 R.GLB_ID 4 v)) s = .next s := by
  rw [exec_bar0_plain (n := 0) hs descAt_glbId rfl rfl (by decide), State.regWrite_own (by decide), State.regStore_readOnly _ _ _ _ rfl]

/-- R4, R340: a 1 written clears a pending bit. -/
theorem exec_write_evtPend {n : Nat} (hn : n < 8) (v : Nat) :
    exec (.registerWrite (.bar0 (R.EVT_PEND + 4 * n) 4 v)) s =
      .next (s.setRegB 0 (R.EVT_PEND + 4 * n) (s.reg (R.EVT_PEND + 4 * n) &&& ~~~(BitVec.ofNat 32 v))) := by
  rw [exec_bar0_plain hs (descAt_evtPend n hn) rfl rfl (by decide), State.bankOf_none s rfl, State.regWrite_own (by decide),
    State.regStore_w1c s rfl]
  simp only [Fld.nth, State.setFldB_word, State.fldB_word, Fld.get_word, Fld.max]
  exact congrArg (fun w => Host.Outcome.next (s.setRegB 0 (R.EVT_PEND + 4 * n) w)) (ofNat_and_complement _ _)

/-- R4: a read of the scratch register returns it. -/
theorem exec_read_glbScratch :
    exec (.readClear R.GLB_SCRATCH 4) s = .next { s with hostRead := s.reg R.GLB_SCRATCH, freeCtr := s.freeCtr + 1 } := by
  rw [exec_readClear_plain (n := 0) hs descAt_glbScratch rfl rfl (by decide), State.readClears_none s _ _ rfl,
    State.regView_held s rfl rfl, ofNat_land_ones]
  rfl

/-- R4: a read of a counter of HST returns and clears it. -/
theorem exec_read_hstCnt {n : Nat} (hn : n < 4) :
    exec (.readClear (R.HST_CNT + 4 * n) 4) s =
      .next { s.setRegB 0 (R.HST_CNT + 4 * n) 0#32 with hostRead := s.reg (R.HST_CNT + 4 * n), freeCtr := s.freeCtr + 1 } := by
  rw [exec_readClear_plain hs (descAt_hstCnt n hn) rfl rfl (by decide), State.bankOf_none s rfl, State.readClears_one s rfl,
    State.regView_held s rfl rfl, ofNat_land_ones, Fld.nth, State.setFldB_word]
  rfl

/-- R4: a write-only register reads 0. -/
theorem exec_read_keyCmd : exec (.readClear R.KEY_CMD 4) s = .next { s with hostRead := 0#32, freeCtr := s.freeCtr + 1 } := by
  rw [exec_readClear_plain (n := 0) hs descAt_keyCmd rfl rfl (by decide), State.readClears_none s _ _ rfl,
    show ∀ x, Nat.land x 0 = 0 from Nat.and_zero]

/-- R4, R311: while AIR is off `AIR_CFG` takes a write, which goes to the partner. -/
theorem exec_write_airCfg (hst : s.isStandby = false) (hair : s.blkOn Blk.AIR = false) (v : Nat) : ∃ k m,
    exec (.registerWrite (.bar0 R.AIR_CFG 4 v)) s =
      .next ((s.setFldB 0 F.AIR_CFG_PAIR_ID (F.AIR_CFG_PAIR_ID.get (BitVec.ofNat 32 v))).mirror k m) := by
  rw [exec_bar0_plain (n := 0) hs descAt_airCfg rfl rfl (by decide), State.bankOf_none s rfl,
    State.regWrite_mirrored (by decide) hst (State.regStore_rwl s rfl (s.rwlLocked_airCfg.trans hair))]
  exact ⟨_, _, rfl⟩

/-- R4: while AIR is on `AIR_CFG` keeps its value. -/
theorem exec_write_airCfg_locked (hact : s.isActive = false) (hst : s.isStandby = false) (hair : s.blkOn Blk.AIR = true) (v : Nat) :
    exec (.registerWrite (.bar0 R.AIR_CFG 4 v)) s = .next s := by
  rw [exec_bar0_plain (n := 0) hs descAt_airCfg rfl rfl (by decide), State.bankOf_none s rfl,
    State.regWrite_mirrored (by decide) hst (State.regStore_rwl_locked s rfl (s.rwlLocked_airCfg.trans hair)),
    State.mirror_of_not_active hact]

/-- R311: a standby counts a write of a mirrored register. -/
theorem exec_write_clsNotice_standby (hst : s.isStandby = true) (v : Nat) :
    exec (.registerWrite (.bar0 R.CLS_NOTICE 4 v)) s = .next (s.bump (ahnCnt 2)) := by
  rw [exec_bar0_plain (n := 0) hs descAt_clsNotice rfl rfl (by decide), State.regWrite_standby (by decide) (by decide) hst, ahnCnt]

/-- R311: a notice in range is stored and goes to the partner. -/
theorem exec_write_clsNotice (hst : s.isStandby = false) {v : Nat} (hv : v ≤ 3600000) :
    exec (.registerWrite (.bar0 R.CLS_NOTICE 4 v)) s =
      .next ((s.setRegB 0 R.CLS_NOTICE (BitVec.ofNat 32 v)).mirror R.CLS_NOTICE (.regWrite R.CLS_NOTICE 0 v)) := by
  have hlt : v < 2 ^ 32 := by omega
  have hr : s.regStore clsNoticeDesc 0 0 (BitVec.ofNat 32 v) = (s.setRegB 0 R.CLS_NOTICE (BitVec.ofNat 32 v), true) := by
    rw [← s.setFldB_get_word]
    exact s.regStore_rw rfl ((s.inRange_clsNotice hlt).trans (decide_eq_true hv))
  rw [exec_bar0_plain (n := 0) hs descAt_clsNotice rfl rfl (by decide), State.bankOf_none s rfl, State.regWrite_mirrored (by decide) hst hr]
  simp only [clsNoticeDesc, Nat.mul_zero, Nat.add_zero]
  rw [State.regB_setRegB_same _ _ _ (by decide), BitVec.toNat_ofNat, Nat.mod_eq_of_lt hlt]

/-- R35: a notice out of range is ignored while CLS is enabled. -/
theorem exec_write_clsNotice_outOfRange (hst : s.isStandby = false) (hcls : s.blkOn Blk.CLS = true) {v : Nat} (hv : 3600000 < v)
    (hlt : v < 2 ^ 32) : exec (.registerWrite (.bar0 R.CLS_NOTICE 4 v)) s = .next s := by
  have hr : s.regStore clsNoticeDesc 0 0 (BitVec.ofNat 32 v) = (s, false) :=
    s.regStore_rw_outOfRange rfl ((blockEn_image s (b := Blk.CLS) (by decide)).trans hcls)
      ((s.inRange_clsNotice hlt).trans (decide_eq_false (by omega)))
  rw [exec_bar0_plain (n := 0) hs descAt_clsNotice rfl rfl (by decide), State.bankOf_none s rfl, State.regWrite_refused (by decide) hst hr]

/-- R351: the write of MSI-X Enable shows in `HST_STATUS`. -/
theorem exec_write_msixEnable (on : Bool) :
    exec (.registerWrite (.msixEnable on)) s = .next (s.setFld F.HST_STATUS_MSIX_EN (b2n on)) := exec_registerWrite hs _

/-- R333: BAR2 takes 1 to 64 bytes. -/
theorem exec_write_bar2 (off : Nat) {bs : List Byte} (h1 : 1 ≤ bs.length) (h64 : bs.length ≤ 64) :
    exec (.registerWrite (.bar2 off bs)) s = .next (s.bar2Write off bs) := by
  rw [exec_registerWrite hs, State.hostWrite, if_pos ⟨h1, h64⟩]

/-- R333: BAR2 takes no other number of bytes. -/
theorem exec_write_bar2_size (off : Nat) {bs : List Byte} (h : bs.length = 0 ∨ 64 < bs.length) :
    exec (.registerWrite (.bar2 off bs)) s = .next s := by
  rw [exec_registerWrite hs, State.hostWrite, if_neg (by omega)]

end Accesses

/-- The window reads back what was written to it. -/
theorem State.bar2Read_bar2Write (s : State) {off : Nat} {bs : List Byte} (h : off + bs.length ≤ bar2Size) :
    (s.bar2Write off bs).bar2Read off bs.length = bs := by
  apply List.ext_getElem (by simp [State.bar2Read])
  intro i _ hi
  simpa [State.bar2Read] using s.bar2At_bar2Write off i bs hi (by omega)

theorem State.flag_setFld_b2n (s : State) (a i : Nat) (on : Bool) (ha : a < 0x4000000) (hi : i < 32) :
    (s.setFld ⟨a, i, i⟩ (b2n on)).flag ⟨a, i, i⟩ = on := by
  rw [State.flag, State.fld, State.setFld, State.fldB_setFldB_same _ _ _ _ ha le_rfl hi]
  cases on <;> simp [b2n]

/-- A register is stored and may go to the partner: nothing else changes. -/
theorem State.mirrored_frame (s : State) {a : Nat} (w : Word) (k : Nat) (m : MirrorBody) (ha : a < 0x4000000) :
    State.Frame [a] [.ahn, .out] s ((s.setRegB 0 a w).mirror k m) :=
  ((s.setRegB_frame 0 w ha).mono (by simp) (by simp)).trans (((s.setRegB 0 a w).mirror_frame k m false).mono (by simp) (by simp))

/-! ## The obligations -/

/-- Settles O55: the two refusals of R3 hold in every state, and the scratch register stores its word. -/
theorem misalignedAccess : Obligations.MisalignedAccess := by
  unfold Obligations.MisalignedAccess
  refine ⟨fun s a w v h => exec_bar0_misaligned s v h, fun s a w h => ?_, fun s v hs => ?_⟩
  · exact ⟨_, exec_readClear_misaligned s h, rfl, s.hostRead_frame 0, rfl⟩
  · exact ⟨_, exec_write_glbScratch hs v, s.regB_setRegB_same 0 _ (by decide), s.setRegB_frame 0 _ (by decide)⟩

/-- Settles O59, clause by clause from the laws of the accesses above. -/
theorem registerAccess : Obligations.RegisterAccess := by
  unfold Obligations.RegisterAccess
  refine ⟨fun s a v hs h4 hd => ?unmappedWrite, fun s a hs h4 hd => ?unmappedRead, fun s v hs => exec_write_glbId hs v,
    fun s hs => ?read, fun s n hs hn => ?readClear, fun s hs => ?writeOnly, fun s n v hs hn => ?w1c, fun s v hs hst hair => ?rwl,
    fun s v hs hact hst hair => exec_write_airCfg_locked hs hact hst hair v, fun s v hs hst => ?standby,
    fun s v hs hact hlink hmis hpar hv => ?active, fun s v hs hst hcls hv hlt => exec_write_clsNotice_outOfRange hs hst hcls hv hlt,
    fun s off b hs h1 h64 hend => ?bar2, fun s off b hs hb => exec_write_bar2_size hs off hb, fun s on hs => ?msix⟩
  case unmappedWrite =>
    exact ⟨_, exec_bar0_unmapped hs h4 hd v, s.fld_bump_word 1 (by decide), s.bump_frame F.HST_CNT_COUNT 1 (by decide)⟩
  case unmappedRead =>
    have hbump : State.Frame [R.HST_CNT] [.hostRead] s (s.bump F.HST_CNT_COUNT) :=
      (s.bump_frame F.HST_CNT_COUNT 1 (by decide)).mono (by simp) (by simp)
    exact ⟨_, exec_readClear_unmapped hs h4 hd, rfl, (State.hostRead_fld _ _ _).trans (s.fld_bump_word 1 (by decide)),
      hbump.trans ((State.hostRead_frame _ 0).mono (by simp) (by simp))⟩
  case read => exact ⟨_, exec_read_glbScratch hs, rfl, s.hostRead_freeCtr_frame _ _⟩
  case readClear =>
    have ha : R.HST_CNT + 4 * n < 0x4000000 := by unfold R.HST_CNT; omega
    have hclear : State.Frame [R.HST_CNT + 4 * n] [.hostRead, .freeCtr] s (s.setRegB 0 (R.HST_CNT + 4 * n) 0#32) :=
      (s.setRegB_frame 0 _ ha).mono (by simp) (by simp)
    exact ⟨_, exec_read_hstCnt hs hn, rfl, s.regB_setRegB_same 0 _ ha,
      hclear.trans ((State.hostRead_freeCtr_frame _ _ _).mono (by simp) (by simp))⟩
  case writeOnly => exact ⟨_, exec_read_keyCmd hs, rfl, s.hostRead_freeCtr_frame _ _⟩
  case w1c =>
    have ha : R.EVT_PEND + 4 * n < 0x4000000 := by unfold R.EVT_PEND; omega
    exact ⟨_, exec_write_evtPend hs hn v, s.regB_setRegB_same 0 _ ha, s.setRegB_frame 0 _ ha⟩
  case rwl =>
    obtain ⟨k, m, hx⟩ := exec_write_airCfg hs hst hair v
    refine ⟨_, hx, ?_, s.mirrored_frame (a := R.AIR_CFG) _ k m (by decide)⟩
    rw [State.mirror_fld, State.fld, State.fldB_setFldB_same _ _ _ _ (by decide) (by decide) (by decide), Fld.get, bitsOf_eq,
      BitVec.toNat_ofNat]
    simp only [Nat.pow_zero, Nat.div_one]
    omega
  case standby =>
    refine ⟨_, exec_write_clsNotice_standby hs hst v, ?_, s.fld_bump_word 1 (by decide), s.bump_frame (ahnCnt 2) 1 (by decide)⟩
    exact (s.bump_frame (ahnCnt 2) 1 (by decide)).1 0 R.CLS_NOTICE (by decide) (by decide)
  case active =>
    have hsent := State.mirror_sent (s := s.setRegB 0 R.CLS_NOTICE (BitVec.ofNat 32 v)) hact hlink hmis hpar R.CLS_NOTICE
      (.regWrite R.CLS_NOTICE 0 v)
    refine ⟨_, exec_write_clsNotice hs (State.not_isStandby_of_isActive hact) hv, ?_, ?_, ?_, s.mirrored_frame _ _ _ (by decide)⟩
    · exact (State.mirror_regB _ _ _ _ _ _).trans (s.regB_setRegB_same 0 _ (by decide))
    · rw [hsent]
      rfl
    · rw [hsent]
      rfl
  case bar2 =>
    exact ⟨_, exec_write_bar2 hs off h1 h64, s.bar2Read_bar2Write hend, rfl, fun a ha => s.bar2At_bar2Write_other off a b ha⟩
  case msix =>
    exact ⟨_, exec_write_msixEnable hs on, s.flag_setFld_b2n _ _ on (by decide) (by decide),
      s.setFldB_frame (f := F.HST_STATUS_MSIX_EN) 0 _ (by decide)⟩
end Sys2Proof.Machine
end

section
/-!
The start-up load waits for the parse checks queued before it (R30, R32, log 16). The last theorem refutes O27, whose clause for two
empty slots leaves that wait out.
-/

namespace Sys2Proof.Machine

/-- While a parse check is queued the start-up load does nothing and stays due (log 16). -/
theorem exec_simStartupLoad_of_check_queued {s : State} (h : s.sim.checks ≠ []) : exec .simStartupLoad s = .next s := by
  have hq : s.sim.checks.isEmpty = false := by simpa using h
  change execSimStartupLoad s = _
  simp [execSimStartupLoad, whileRunning, State.live, hq]

/-- A delivered module after power-on: its start-up load is due, both image slots are empty, and CLS's parse check is queued. -/
def State.checkQueued : State := { State.reset with sim := { State.reset.sim with checks := [Blk.CLS] } }

/-- From reset, one write of EN = 1 to CLS leads to that state. -/
theorem exec_ctrlEnSet_reset : exec (.ctrlEnSet Blk.CLS 0#32) State.reset = .next State.checkQueued := rfl

/-- Refutes O27: its clause for two empty slots has SIM_STARTUP_LOAD clear the due mark whatever is queued, but with CLS's parse
check queued the load stays due (R32, log 16). -/
theorem not_enableAndApply : ¬ Obligations.EnableAndApply := by
  unfold Obligations.EnableAndApply
  intro h
  obtain ⟨-, -, -, -, -, -, -, -, -, -, hNoImage, -⟩ := h
  obtain ⟨t, ht, hstartup, -⟩ := hNoImage State.checkQueued rfl rfl (by decide) (by decide) (by decide) rfl rfl (by decide)
  have hstays : exec .simStartupLoad State.checkQueued = .next State.checkQueued :=
    exec_simStartupLoad_of_check_queued (List.cons_ne_nil _ _)
  have hsame : State.checkQueued = t := Host.Outcome.next.inj (hstays.symm.trans ht)
  have hdue : State.checkQueued.sim.startup = true := rfl
  rw [hsame, hstartup] at hdue
  exact Bool.false_ne_true hdue

end Sys2Proof.Machine
end

section
/-!
SIM's commands (R25, R29, R32, R41): what the beginning and the end of a command and the change of an image slot set and leave, then
one equation for each command. The last theorem settles O26 from them.
-/

namespace Sys2Proof.Machine

/-! ## Flags -/

/-- A flag apart in the same register reads as before. -/
theorem State.flag_setFld_apart (s : State) {f g : Fld} (v : Nat) (hf : f.addr < 0x4000000) (ha : g.addr = f.addr) (hlo : f.lo ≤ f.hi)
    (hhi : f.hi < 32) (h : g.hi < f.lo ∨ f.hi < g.lo) (hg : g.lo ≤ g.hi) : (s.setFld f v).flag g = s.flag g := by
  rw [State.flag, State.fld, State.setFld, State.fldB_setFldB_apart _ _ hf ha hlo hhi h hg, State.flag, State.fld]

/-- A flag of another register reads as before. -/
theorem State.flag_setReg_other (s : State) {a : Nat} {g : Fld} (w : Word) (ha : a < 0x4000000) (hg : g.addr < 0x4000000)
    (h : g.addr ≠ a) : (s.setReg a w).flag g = s.flag g := by
  simp only [State.flag, State.fld, State.fldB, State.setReg, s.regB_setRegB_other w ha hg (fun hx => h hx.2)]

/-- A raised event leaves the flags that are not its reports. -/
theorem State.raise_flag (s : State) {n : Nat} (x : Nat) (hn : n < 256) {f : Fld} (ha : f.addr < 0x4000000)
    (hr : reportReg f.addr = false) : (s.raise n x).flag f = s.flag f := by
  simp only [State.flag, State.fld, s.raise_fldB x hn 0 ha hr]

/-! ## The parts of SIM and of the NAND -/

theorem State.sim_frame (s : State) (m : SimSt) : State.Frame [] [.sim] s { s with sim := m } :=
  ⟨fun _ _ _ _ => rfl, fun _ => rfl, fun p hp => by cases p <;> simp_all [Part.same]⟩

theorem State.nand_frame (s : State) (m : Nand) : State.Frame [] [.nand] s { s with nand := m } :=
  ⟨fun _ _ _ _ => rfl, fun _ => rfl, fun p hp => by cases p <;> simp_all [Part.same]⟩

section Frames

variable {regs : List Nat} {parts : List Part} {s t : State} (h : State.Frame regs parts s t)
include h

theorem State.Frame.setSim (m : SimSt) (hp : .sim ∈ parts) : State.Frame regs parts s { t with sim := m } :=
  h.trans ((t.sim_frame m).mono (by simp) (by simpa using hp))

theorem State.Frame.setFld (f : Fld) (v : Nat) (ha : f.addr < 0x4000000) (hr : f.addr ∈ regs) :
    State.Frame regs parts s (t.setFld f v) :=
  h.trans ((t.setFldB_frame 0 v ha).mono (by simpa using hr) (by simp))

theorem State.Frame.setReg {a : Nat} (w : Word) (ha : a < 0x4000000) (hr : a ∈ regs) : State.Frame regs parts s (t.setReg a w) :=
  h.trans ((t.setRegB_frame 0 w ha).mono (by simpa using hr) (by simp))

end Frames

theorem State.setStaged_frame (s : State) (v : Option (List Byte)) : State.Frame [] [.sim] s (s.setStaged v) := s.sim_frame _

theorem State.setFlashSlot_frame (s : State) (n : Nat) (v : Option (List Byte)) : State.Frame [] [.nand] s (s.setFlashSlot n v) := by
  unfold State.setFlashSlot
  split <;> exact s.nand_frame _

@[simp] theorem State.setFlashSlot_sim (s : State) (n : Nat) (v : Option (List Byte)) : (s.setFlashSlot n v).sim = s.sim :=
  (s.setFlashSlot_frame n v).2.2 .sim (by decide)

@[simp] theorem State.setFlashSlot_boot (s : State) (n : Nat) (v : Option (List Byte)) :
    (s.setFlashSlot n v).nand.boot = s.nand.boot := by
  unfold State.setFlashSlot; split <;> rfl

@[simp] theorem State.setFlashSlot_flag (s : State) (n : Nat) (v : Option (List Byte)) (f : Fld) :
    (s.setFlashSlot n v).flag f = s.flag f := by
  unfold State.setFlashSlot; split <;> rfl

@[simp] theorem State.flashSlot_setFlashSlot_same (s : State) (n : Nat) (v : Option (List Byte)) :
    (s.setFlashSlot n v).flashSlot n = v := by
  by_cases h : n = 0 <;> simp [State.setFlashSlot, State.flashSlot, h]

/-- A change of one image slot leaves the other. -/
theorem State.flashSlot_setFlashSlot_other (s : State) {n m : Nat} (v : Option (List Byte)) (h : m = 0 ↔ n ≠ 0) :
    (s.setFlashSlot n v).flashSlot m = s.flashSlot m := by
  by_cases hn : n = 0
  · simp [State.setFlashSlot, State.flashSlot, hn, show m ≠ 0 by tauto]
  · simp [State.setFlashSlot, State.flashSlot, hn, show m = 0 by tauto]

/-- The slots depend on the NAND alone. -/
theorem State.flashSlot_congr {s t : State} (h : t.nand = s.nand) (n : Nat) : t.flashSlot n = s.flashSlot n := by
  simp only [State.flashSlot, h]

/-! ## The beginning of a command -/

@[simp] theorem State.simBegin_sim (s : State) (op slot : Nat) (c : Option SimCmd) :
    (s.simBegin op slot c).sim = { s.sim with cmd := c, slot := slot } := rfl

@[simp] theorem State.simBegin_nand (s : State) (op slot : Nat) (c : Option SimCmd) : (s.simBegin op slot c).nand = s.nand := rfl

@[simp] theorem State.simBegin_flashSlot (s : State) (op slot n : Nat) (c : Option SimCmd) :
    (s.simBegin op slot c).flashSlot n = s.flashSlot n := rfl

@[simp] theorem State.simBegin_nandStopped (s : State) (op slot : Nat) (c : Option SimCmd) :
    (s.simBegin op slot c).nandStopped = s.nandStopped := rfl

/-- BUSY says whether the command runs on. -/
theorem State.simBegin_busy (s : State) (op slot : Nat) (c : Option SimCmd) :
    (s.simBegin op slot c).flag F.SIM_STATUS_BUSY = c.isSome := State.flag_setFld_b2n _ _ _ _ (by decide) (by decide)

theorem State.simBegin_op (s : State) {op : Nat} (slot : Nat) (c : Option SimCmd) (h : op < 16) :
    (s.simBegin op slot c).fld F.SIM_STATUS_OP = op := by
  have hbusy := State.fldB_setFldB_apart ({ s with sim := { s.sim with cmd := c, slot := slot } }.setFld F.SIM_STATUS_OP op)
    (b := 0) (f := F.SIM_STATUS_BUSY) (g := F.SIM_STATUS_OP) (b2n c.isSome) (by decide) rfl (by decide) (by decide) (by decide) (by decide)
  have hop := State.fldB_setFldB_same { s with sim := { s.sim with cmd := c, slot := slot } } 0 F.SIM_STATUS_OP op (by decide) (by decide)
    (by decide)
  exact hbusy.trans (hop.trans (Nat.mod_eq_of_lt h))

theorem State.simBegin_frame (s : State) (op slot : Nat) (c : Option SimCmd) :
    State.Frame [R.SIM_STATUS] [.sim] s (s.simBegin op slot c) :=
  (((State.Frame.refl _ _ s).setSim { s.sim with cmd := c, slot := slot } (by simp)).setFld F.SIM_STATUS_OP op (by decide)
    (by simp)).setFld F.SIM_STATUS_BUSY _ (by decide) (by simp)

/-! ## The end of a command -/

@[simp] theorem State.simEnd_sim (s : State) (w : Word) : (s.simEnd w).sim = { s.sim with cmd := none, waiting := false } := rfl

@[simp] theorem State.simEnd_nand (s : State) (w : Word) : (s.simEnd w).nand = s.nand := rfl

theorem State.simEnd_parse (s : State) (w : Word) : (s.simEnd w).reg R.SIM_PARSE = w := State.regB_setRegB_same _ 0 w (by decide)

theorem State.simEnd_done (s : State) (w : Word) : (s.simEnd w).flag F.SIM_STATUS_DONE = true := by
  simp only [State.simEnd]
  rw [State.flag_setReg_other _ _ (by decide) (by decide) (by decide)]
  exact State.flag_setFld_b2n _ _ _ true (by decide) (by decide)

theorem State.simEnd_busy (s : State) (w : Word) : (s.simEnd w).flag F.SIM_STATUS_BUSY = false := by
  simp only [State.simEnd]
  rw [State.flag_setReg_other _ _ (by decide) (by decide) (by decide),
    State.flag_setFld_apart (f := F.SIM_STATUS_DONE) (g := F.SIM_STATUS_BUSY) _ _ (by decide) rfl (by decide) (by decide) (by decide)
      (by decide)]
  exact State.flag_setFld_b2n _ _ _ false (by decide) (by decide)

theorem State.simEnd_frame (s : State) (w : Word) : State.Frame [R.SIM_STATUS, R.SIM_PARSE] [.sim] s (s.simEnd w) :=
  ((((State.Frame.refl _ _ s).setSim { s.sim with cmd := none, waiting := false } (by simp)).setFld F.SIM_STATUS_BUSY 0 (by decide)
    (by simp)).setFld F.SIM_STATUS_DONE 1 (by decide) (by simp)).setReg w (by decide) (by simp)

/-- `t` is `s` after a command's end with outcome `w` and event `n` (R41). -/
structure State.SimEnded (s t : State) (w : Word) (n : Nat) : Prop where
  busy : t.flag F.SIM_STATUS_BUSY = false
  done : t.flag F.SIM_STATUS_DONE = true
  parse : t.reg R.SIM_PARSE = w
  pend : t.pend n = true
  sim : t.sim = { s.sim with cmd := none, waiting := false }
  nand : t.nand = s.nand
  frame : State.ReportFrame [R.SIM_STATUS, R.SIM_PARSE] [.sim] s t

/-- The end of a command leaves the staged image. -/
theorem State.SimEnded.staged {s t : State} {w : Word} {n : Nat} (e : s.SimEnded t w n) : t.sim.staged = s.sim.staged := by
  rw [e.sim]

theorem State.simEnd_raise_ended (s : State) (w : Word) {n : Nat} (x : Nat) (hn : n < 256) :
    s.SimEnded ((s.simEnd w).raise n x) w n where
  busy := (State.raise_flag _ x hn (by decide) (by decide)).trans (s.simEnd_busy w)
  done := (State.raise_flag _ x hn (by decide) (by decide)).trans (s.simEnd_done w)
  parse := (State.raise_regB _ x hn 0 (by decide) (by decide)).trans (s.simEnd_parse w)
  pend := State.raise_pend _ x hn
  sim := (State.raise_sim _ x hn).trans (s.simEnd_sim w)
  nand := (State.raise_nand _ x hn).trans (s.simEnd_nand w)
  frame := (s.simEnd_frame w).report.trans (by decide) ((State.raise_frame _ x hn).mono (by simp) (by simp))

/-- A refusal with an event is an end with the refusal's word. -/
theorem State.simRefuse_ended (s : State) (op code detail : Nat) {n : Nat} (hn : n < 256) :
    s.SimEnded (s.simRefuse op code detail (some n)) (parseWord Blk.SIM code detail) n :=
  s.simEnd_raise_ended _ _ hn

/-- What a command changed before its end is added to what the end may change. -/
theorem State.SimEnded.frame_of {parts : List Part} {s t u : State} {w : Word} {n : Nat} (e : t.SimEnded u w n)
    (h : State.Frame [R.SIM_STATUS, R.SIM_PARSE] parts s t) (hp : .sim ∈ parts) :
    State.ReportFrame [R.SIM_STATUS, R.SIM_PARSE] parts s u :=
  h.report.trans (by decide) (e.frame.mono (by simp) (by simpa using hp))

theorem State.loadEnd_refused {s : State} {img : List Byte} {code detail : Nat} (op : Nat)
    (h : s.simVerify img = some (code, detail)) :
    s.loadEnd op img = s.simRefuse op code detail (some Ev.SIM_LOAD_FAIL) := by
  simp only [State.loadEnd, h]

theorem State.loadEnd_staged {s : State} {img : List Byte} (op : Nat) (h : s.simVerify img = none) :
    s.loadEnd op img = ((s.setStaged (some img)).simEnd 0#32).raise Ev.SIM_LOAD_DONE (imgSerial img) := by
  simp only [State.loadEnd, h]
  rfl

/-! ## The commands, one by one -/

section Commands

variable {s : State} (hs : s.running = true)
include hs

/-- A load that runs takes its copy from the source, or from the slot, and ends (R25). -/
theorem exec_loadComplete_host {img : List Byte} {n : Nat} (hcmd : s.sim.cmd = some (.loadHost (some img) n)) (hlen : imgLen img = n) :
    exec .loadComplete s = .next (s.loadEnd SimOp.LOAD_HOST img) := by
  refine (whileRunning_eq _ hs).trans ?_
  simp only [hcmd, hlen, if_true]

theorem exec_loadComplete_flash {img : List Byte} {n : Nat} (hcmd : s.sim.cmd = some (.loadFlash n)) (himg : s.flashSlot n = some img) :
    exec .loadComplete s = .next (s.loadEnd SimOp.LOAD_FLASH img) := by
  refine (whileRunning_eq _ hs).trans ?_
  simp only [hcmd, himg]

theorem exec_storeComplete_good {n : Nat} (hcmd : s.sim.cmd = some (.store n)) :
    exec (.storeComplete true) s =
      .next (((s.setFlashSlot n s.sim.staged).simEnd 0#32).raise Ev.SIM_STORE_DONE (simArg SimOp.STORE n)) := by
  refine (whileRunning_eq _ hs).trans ?_
  simp only [hcmd, if_true]
  rfl

theorem exec_storeComplete_bad {n : Nat} (hcmd : s.sim.cmd = some (.store n)) :
    exec (.storeComplete false) s = .next (s.simRefuse SimOp.STORE 0x2F 0 (some Ev.SIM_STORE_FAIL)) := by
  refine (whileRunning_eq _ hs).trans ?_
  simp only [hcmd, Bool.false_eq_true, if_false]

variable (hb : s.flag F.SIM_STATUS_BUSY = false)
include hb

/-- A write to `SIM_CMD` while no command runs does what its operation says (R32). -/
theorem whileRunning_simCmd (op : Nat) (f : State → State) : whileRunning s (fun s => s.simCmd op f) = .next (f s) := by
  rw [whileRunning_eq _ hs]
  simp only [State.simCmd, hb, Bool.false_eq_true, if_false]

/-- LOAD_HOST discards the staged image and copies a source that lies in the window (R25). -/
theorem exec_loadHost (b : Bool) (hsrc : s.fld F.SIM_SRC_OFFSET * 8 + s.fld F.SIM_LEN_LEN ≤ bar2Size) :
    exec (.loadHost b) s = .next ((s.setStaged none).simBegin SimOp.LOAD_HOST (b2n b)
      (some (.loadHost (some (s.bar2Read (s.fld F.SIM_SRC_OFFSET * 8) (s.fld F.SIM_LEN_LEN))) (s.fld F.SIM_LEN_LEN)))) := by
  refine (whileRunning_simCmd hs hb _ _).trans ?_
  simp only [hsrc, if_true]

theorem exec_loadFlash (b : Bool) :
    exec (.loadFlash b) s = .next ((s.setStaged none).simBegin SimOp.LOAD_FLASH (b2n b) (some (.loadFlash (b2n b)))) :=
  whileRunning_simCmd hs hb _ _

/-- STORE of the boot slot is refused, staged image or not (R29, log 75). -/
theorem exec_store_boot {b : Bool} (hboot : s.nand.boot = b2n b) :
    exec (.store b) s = .next ((s.simBegin SimOp.STORE (b2n b) none).simRefuse SimOp.STORE 0x2E 0 (some Ev.SIM_STORE_FAIL)) := by
  refine (whileRunning_simCmd hs hb _ _).trans ?_
  simp only [State.simBegin_nand, hboot, if_true]

/-- STORE of the other slot leaves it invalid while it runs (R29). -/
theorem exec_store_begins {b : Bool} (hboot : s.nand.boot ≠ b2n b) (hstaged : s.sim.staged.isSome = true) (hnand : s.nandStopped = false) :
    exec (.store b) s = .next (((s.simBegin SimOp.STORE (b2n b) none).simBegin SimOp.STORE (b2n b) (some (.store (b2n b)))).setFlashSlot
      (b2n b) none) := by
  refine (whileRunning_simCmd hs hb _ _).trans ?_
  have hsome : s.sim.staged.isNone = false := by simpa using hstaged
  simp only [State.simBegin_nand, State.simBegin_sim, State.simBegin_nandStopped, hboot, hsome, hnand, Bool.false_eq_true, if_false]

theorem exec_discard (b : Bool) :
    exec (.discard b) s = .next (((s.simBegin SimOp.DISCARD (b2n b) none).setStaged none).simEnd 0#32) :=
  whileRunning_simCmd hs hb _ _

theorem exec_setBoot_valid {b : Bool} (hslot : (s.flashSlot (b2n b)).isSome = true) (hnand : s.nandStopped = false) :
    exec (.setBoot b) s = .next ((({ s.simBegin SimOp.SET_BOOT (b2n b) none with nand := { s.nand with boot := b2n b } } : State).simEnd
      0#32).raise Ev.SIM_STORE_DONE (simArg SimOp.SET_BOOT (b2n b))) := by
  refine (whileRunning_simCmd hs hb _ _).trans ?_
  have hsome : (s.flashSlot (b2n b)).isNone = false := by simpa using hslot
  simp only [State.simBegin_flashSlot, State.simBegin_nandStopped, hsome, hnand, Bool.false_eq_true, if_false]
  rfl

theorem exec_setBoot_invalid {b : Bool} (hslot : s.flashSlot (b2n b) = none) :
    exec (.setBoot b) s = .next ((s.simBegin SimOp.SET_BOOT (b2n b) none).simRefuse SimOp.SET_BOOT 0x2D 0 (some Ev.SIM_STORE_FAIL)) := by
  refine (whileRunning_simCmd hs hb _ _).trans ?_
  simp only [State.simBegin_flashSlot, hslot, Option.isNone_none, if_true]

end Commands

/-- The slots are 0 and 1, and `1 - n` numbers the other one. -/
theorem flashSlot_other_iff (b : Bool) : 1 - b2n b = 0 ↔ b2n b ≠ 0 := by cases b <;> decide

/-! ## The obligation -/

/-- Settles O26, clause by clause from the equations of the commands. -/
theorem structureCommands : Obligations.StructureCommands := by
  unfold Obligations.StructureCommands
  refine ⟨fun s b hs hb hsrc => ?loadHost, fun s b hs hb => ?loadFlash, fun s img n hs hcmd hlen hgood => ?loadStaged,
    fun s n code detail img hs hcmd himg hbad => ?loadRefused, fun s b hs hb hboot hstaged hnand => ?storeBegins,
    fun s b hs hb hboot => ?storeBoot, fun s n hs hcmd => ?storeGood, fun s n hs hcmd => ?storeBad, fun s b hs hb => ?discard,
    fun s b hs hb hslot hnand => ?setBootValid, fun s b hs hb hslot => ?setBootInvalid⟩
  case loadHost =>
    exact ⟨_, exec_loadHost hs hb b hsrc, rfl, rfl, State.simBegin_busy _ _ _ _, State.simBegin_op _ _ _ (by decide),
      ((s.setStaged_frame none).mono (by simp) (by simp)).trans (State.simBegin_frame _ _ _ _)⟩
  case loadFlash =>
    exact ⟨_, exec_loadFlash hs hb b, rfl, State.simBegin_busy _ _ _ _, State.simBegin_op _ _ _ (by decide),
      ((s.setStaged_frame none).mono (by simp) (by simp)).trans (State.simBegin_frame _ _ _ _)⟩
  case loadStaged =>
    have e := (s.setStaged (some img)).simEnd_raise_ended 0#32 (imgSerial img) (n := Ev.SIM_LOAD_DONE) (by decide)
    exact ⟨_, (exec_loadComplete_host hs hcmd hlen).trans (congrArg _ (State.loadEnd_staged _ hgood)), e.sim, e.busy, e.done, e.parse,
      e.pend, e.frame_of ((s.setStaged_frame _).mono (by simp) (by simp)) (by simp)⟩
  case loadRefused =>
    have e := s.simRefuse_ended SimOp.LOAD_FLASH code detail (n := Ev.SIM_LOAD_FAIL) (by decide)
    exact ⟨_, (exec_loadComplete_flash hs hcmd himg).trans (congrArg _ (State.loadEnd_refused _ hbad)), e.sim, e.busy, e.done, e.parse,
      e.pend, e.frame⟩
  case storeBegins =>
    refine ⟨_, exec_store_begins hs hb hboot hstaged hnand, ?_, State.flashSlot_setFlashSlot_same _ _ _, ?_, ?_, ?_, ?_⟩
    · rw [State.setFlashSlot_sim, State.simBegin_sim, State.simBegin_sim]
    · rw [State.flashSlot_setFlashSlot_other _ _ (flashSlot_other_iff b), State.simBegin_flashSlot, State.simBegin_flashSlot]
    · rw [State.setFlashSlot_boot, State.simBegin_nand, State.simBegin_nand]
    · rw [State.setFlashSlot_flag, State.simBegin_busy, Option.isSome_some]
    · exact (((s.simBegin_frame _ _ _).trans (State.simBegin_frame _ _ _ _)).mono (by simp) (by simp)).trans
        ((State.setFlashSlot_frame _ _ _).mono (by simp) (by simp))
  case storeBoot =>
    have e := (s.simBegin SimOp.STORE (b2n b) none).simRefuse_ended SimOp.STORE 0x2E 0 (n := Ev.SIM_STORE_FAIL) (by decide)
    exact ⟨_, exec_store_boot hs hb hboot, e.nand, e.staged, e.parse, e.pend, e.busy⟩
  case storeGood =>
    have e := (s.setFlashSlot n s.sim.staged).simEnd_raise_ended 0#32 (simArg SimOp.STORE n) (n := Ev.SIM_STORE_DONE) (by decide)
    have hslot := (State.flashSlot_congr e.nand n).trans (s.flashSlot_setFlashSlot_same n s.sim.staged)
    have hsim := e.sim.trans (by rw [State.setFlashSlot_sim])
    exact ⟨_, exec_storeComplete_good hs hcmd, hslot, hsim, e.parse, e.done, e.busy, e.pend,
      e.frame_of ((s.setFlashSlot_frame n _).mono (by simp) (by simp)) (by simp)⟩
  case storeBad =>
    have e := s.simRefuse_ended SimOp.STORE 0x2F 0 (n := Ev.SIM_STORE_FAIL) (by decide)
    exact ⟨_, exec_storeComplete_bad hs hcmd, e.nand, e.parse, e.staged, e.pend⟩
  case discard =>
    refine ⟨_, exec_discard hs hb b, rfl, rfl, rfl, State.simEnd_done _ _, State.simEnd_parse _ _, ?_⟩
    exact (((s.simBegin_frame _ _ _).mono (by simp) (by simp)).trans ((State.setStaged_frame _ _).mono (by simp) (by simp))).trans
      (State.simEnd_frame _ _)
  case setBootValid =>
    have e := State.simEnd_raise_ended { s.simBegin SimOp.SET_BOOT (b2n b) none with nand := { s.nand with boot := b2n b } } 0#32
      (simArg SimOp.SET_BOOT (b2n b)) (n := Ev.SIM_STORE_DONE) (by decide)
    refine ⟨_, exec_setBoot_valid hs hb hslot hnand, e.nand, e.parse, e.pend, e.frame_of ?_ (by simp)⟩
    exact ((s.simBegin_frame _ _ _).mono (by simp) (by simp)).trans ((State.nand_frame _ _).mono (by simp) (by simp))
  case setBootInvalid =>
    have e := (s.simBegin SimOp.SET_BOOT (b2n b) none).simRefuse_ended SimOp.SET_BOOT 0x2D 0 (n := Ev.SIM_STORE_FAIL) (by decide)
    exact ⟨_, exec_setBoot_invalid hs hb hslot, e.nand, e.parse⟩

end Sys2Proof.Machine
end

section
/-!
The Clause Table under the operations that the primitives are made of (R49, R54, R56, R62): what a read of a record, a chain, the free
list or the follow table gives after each of them, and that with no conflict there is nothing to cut and nothing to follow.
-/

namespace Sys2Proof.Machine

/-! ## One record, one chain -/

@[simp] theorem ClsSt.clause_setClause_same (t : ClsSt) (i : Nat) (c : Clause) : (t.setClause i c).clause i = c :=
  SMap.get_set_same _ _ _ _

theorem ClsSt.clause_setClause_other (t : ClsSt) {i k : Nat} (c : Clause) (h : k ≠ i) : (t.setClause i c).clause k = t.clause k :=
  SMap.get_set_other _ _ _ _ h

theorem ClsSt.clause_setClause (t : ClsSt) (i k : Nat) (c : Clause) :
    (t.setClause i c).clause k = if k = i then c else t.clause k := SMap.get_set _ _ _ _ _

@[simp] theorem ClsSt.chain_setChain_same (t : ClsSt) (mi : Nat) (l : List Nat) : (t.setChain mi l).chain mi = l :=
  SMap.get_set_same _ _ _ _

@[simp] theorem ClsSt.setClause_chain (t : ClsSt) (i mi : Nat) (c : Clause) : (t.setClause i c).chain mi = t.chain mi := rfl
@[simp] theorem ClsSt.setChain_clause (t : ClsSt) (mi k : Nat) (l : List Nat) : (t.setChain mi l).clause k = t.clause k := rfl

@[simp] theorem ClsSt.takeFree_clause (t : ClsSt) (k : Nat) : t.takeFree.clause k = t.clause k := by
  unfold ClsSt.takeFree; split <;> rfl

@[simp] theorem ClsSt.takeFree_chain (t : ClsSt) (mi : Nat) : t.takeFree.chain mi = t.chain mi := by
  unfold ClsSt.takeFree; split <;> rfl

@[simp] theorem ClsSt.takeFree_follow (t : ClsSt) : t.takeFree.follow = t.follow := by
  unfold ClsSt.takeFree; split <;> rfl

/-- A handle that names a record names its own low bits (R8). -/
theorem ClsSt.ref_eq_some {t : ClsSt} {h i : Nat} (hr : t.ref h = some i) : i = h % 2 ^ 18 := by
  simp only [ClsSt.ref] at hr
  split at hr
  · exact (Option.some.inj hr).symm
  · cases hr

/-! ## JOIN_NEXT (R56) -/

/-- A clause with JOIN_NEXT left out of account. -/
def Clause.unjoined (c : Clause) : Clause := { c with joinNext := false }

section Rejoin

variable (t : ClsSt) (m : List Byte) (i : Nat)

theorem ClsSt.rejoin_clause_other {k : Nat} (h : k ≠ i) : (t.rejoin m i).clause k = t.clause k := t.clause_setClause_other _ h

/-- Only JOIN_NEXT is set, whichever record is asked for. -/
@[simp] theorem ClsSt.rejoin_clause_unjoined (k : Nat) : ((t.rejoin m i).clause k).unjoined = (t.clause k).unjoined := by
  by_cases h : k = i
  · subst h
    rw [ClsSt.rejoin, t.clause_setClause_same k]
    rfl
  · rw [t.rejoin_clause_other m i h]

end Rejoin

/-! ## Follow entries (R62) -/

/-- A clause with FOLLOW left out of account. -/
def Clause.unmarked (c : Clause) : Clause := { c with follow := false }

/-- `u` is `t` but for the follow table and for FOLLOW marks that have been cleared. -/
structure ClsSt.Unfollowed (t u : ClsSt) : Prop where
  chains : u.chains = t.chains
  freeNext : u.freeNext = t.freeNext
  freeTail : u.freeTail = t.freeTail
  clause : ∀ k, u.clause k = t.clause k ∨ u.clause k = (t.clause k).unmarked

namespace ClsSt.Unfollowed

theorem refl (t : ClsSt) : t.Unfollowed t := ⟨rfl, rfl, rfl, fun _ => .inl rfl⟩

theorem trans {t u v : ClsSt} (h : t.Unfollowed u) (g : u.Unfollowed v) : t.Unfollowed v where
  chains := g.chains.trans h.chains
  freeNext := g.freeNext.trans h.freeNext
  freeTail := g.freeTail.trans h.freeTail
  clause k := by
    rcases g.clause k with hg | hg <;> rcases h.clause k with hh | hh <;> rw [hg, hh]
    · exact .inl rfl
    · exact .inr rfl
    · exact .inr rfl
    · exact .inr rfl

theorem foldl {α : Type} {f : ClsSt → α → ClsSt} (hf : ∀ (t : ClsSt) (a : α), t.Unfollowed (f t a)) (l : List α) (t : ClsSt) :
    t.Unfollowed (l.foldl f t) := by
  induction l generalizing t with
  | nil => exact refl t
  | cons a l ih => exact (hf t a).trans (ih (f t a))

theorem unmarked {t u : ClsSt} (h : t.Unfollowed u) (k : Nat) : (u.clause k).unmarked = (t.clause k).unmarked := by
  rcases h.clause k with hk | hk <;> rw [hk]
  rfl

end ClsSt.Unfollowed

@[simp] theorem ClsSt.fixFollow_follow (t : ClsSt) (i : Nat) : (t.fixFollow i).follow = t.follow := by
  unfold ClsSt.fixFollow; split <;> rfl

theorem ClsSt.fixFollow_clause_other (t : ClsSt) {i k : Nat} (h : k ≠ i) : (t.fixFollow i).clause k = t.clause k := by
  unfold ClsSt.fixFollow
  split
  · exact t.clause_setClause_other _ h
  · rfl

theorem ClsSt.fixFollow_unfollowed (t : ClsSt) (i : Nat) : t.Unfollowed (t.fixFollow i) := by
  unfold ClsSt.fixFollow
  split
  · refine ⟨rfl, rfl, rfl, fun k => ?_⟩
    by_cases h : k = i
    · subst h
      exact .inr (t.clause_setClause_same k _)
    · exact .inl (t.clause_setClause_other _ h)
  · exact ClsSt.Unfollowed.refl t

theorem ClsSt.endEntry_some {t : ClsSt} {k : Nat} {f : FollowPair} (h : t.follow.get none k = some f) :
    t.endEntry k = (({ t with follow := t.follow.set none k none } : ClsSt).fixFollow (f.leader % 2 ^ 18)).fixFollow (f.follower % 2 ^ 18) := by
  simp only [ClsSt.endEntry, h]

/-- The end of an entry clears marks and the entry. -/
theorem ClsSt.endEntry_unfollowed (t : ClsSt) (k : Nat) : t.Unfollowed (t.endEntry k) := by
  cases h : t.follow.get none k with
  | none =>
    simp only [ClsSt.endEntry, h]
    exact ClsSt.Unfollowed.refl t
  | some f =>
    rw [ClsSt.endEntry_some h]
    have hset : t.Unfollowed { t with follow := t.follow.set none k none } := ⟨rfl, rfl, rfl, fun _ => .inl rfl⟩
    exact (hset.trans (ClsSt.fixFollow_unfollowed _ _)).trans (ClsSt.fixFollow_unfollowed _ _)

theorem ClsSt.endEntry_entry {t : ClsSt} {k : Nat} {f : FollowPair} (h : t.follow.get none k = some f) :
    (t.endEntry k).follow.get none k = none := by
  rw [ClsSt.endEntry_some h, ClsSt.fixFollow_follow, ClsSt.fixFollow_follow]
  exact SMap.get_set_same t.follow none none k

theorem ClsSt.endEntry_clause_other {t : ClsSt} {k : Nat} {f : FollowPair} (h : t.follow.get none k = some f) {i : Nat}
    (hl : i ≠ f.leader % 2 ^ 18) (hf : i ≠ f.follower % 2 ^ 18) : (t.endEntry k).clause i = t.clause i := by
  rw [ClsSt.endEntry_some h, ClsSt.fixFollow_clause_other _ hf, ClsSt.fixFollow_clause_other _ hl]
  rfl

/-! ## Freeing (R49, R54) -/

/-- What is left of a record that is freed: its generation. -/
def Clause.freed (c : Clause) : Clause := { Clause.free with gen := c.gen }

/-- The table after the first two steps of freeing index `i`: its follow entries end, and JOIN_NEXT towards it clears. -/
def ClsSt.detach (t : ClsSt) (i : Nat) : ClsSt :=
  let u := (t.entriesOf i).foldl ClsSt.endEntry t
  match chainPrev (u.chain (t.clause i).mi) i with
  | none => u
  | some p => u.setClause p (u.clause p).unjoined

section Free

variable (t : ClsSt) (i : Nat)

theorem ClsSt.entriesOf_foldl_unfollowed : t.Unfollowed ((t.entriesOf i).foldl ClsSt.endEntry t) :=
  ClsSt.Unfollowed.foldl ClsSt.endEntry_unfollowed _ t

theorem ClsSt.detach_chain (mi : Nat) : (t.detach i).chain mi = t.chain mi := by
  have h : ((t.entriesOf i).foldl ClsSt.endEntry t).chain mi = t.chain mi :=
    congrArg (fun c => c.get [] mi) (t.entriesOf_foldl_unfollowed i).chains
  unfold ClsSt.detach
  dsimp only
  split <;> exact h

theorem ClsSt.detach_freeNext : (t.detach i).freeNext = t.freeNext := by
  unfold ClsSt.detach
  dsimp only
  split <;> exact (t.entriesOf_foldl_unfollowed i).freeNext

theorem ClsSt.detach_freeTail : (t.detach i).freeTail = t.freeTail := by
  unfold ClsSt.detach
  dsimp only
  split <;> exact (t.entriesOf_foldl_unfollowed i).freeTail

theorem ClsSt.detach_follow (h : t.entriesOf i = []) : (t.detach i).follow = t.follow := by
  unfold ClsSt.detach
  rw [h]
  dsimp only [List.foldl_nil]
  split <;> rfl

/-- Detaching a clause clears marks of others alone. -/
theorem ClsSt.detach_clause (k : Nat) : (t.detach i).clause k = t.clause k ∨ (t.detach i).clause k = (t.clause k).unmarked ∨
    (t.detach i).clause k = (t.clause k).unjoined ∨ (t.detach i).clause k = (t.clause k).unmarked.unjoined := by
  have hu := (t.entriesOf_foldl_unfollowed i).clause k
  unfold ClsSt.detach
  dsimp only
  split
  · tauto
  next p _ =>
    rw [ClsSt.clause_setClause]
    split
    next hk =>
      subst hk
      rcases hu with hu | hu <;> rw [hu] <;> tauto
    · tauto

@[simp] theorem ClsSt.free_clause_same : (t.free i).clause i = (t.clause i).freed :=
  ((t.detach i).setChain _ _).clause_setClause_same i _

theorem ClsSt.free_clause_other {k : Nat} (h : k ≠ i) : (t.free i).clause k = (t.detach i).clause k :=
  ((t.detach i).setChain _ _).clause_setClause_other _ h

theorem ClsSt.free_chain : (t.free i).chain (t.clause i).mi = (t.chain (t.clause i).mi).erase i := by
  rw [← t.detach_chain i]
  exact (t.detach i).chain_setChain_same _ _

theorem ClsSt.free_freeNext : (t.free i).freeNext = t.freeNext := t.detach_freeNext i

theorem ClsSt.free_freeTail : (t.free i).freeTail = t.freeTail ++ [i] := congrArg (· ++ [i]) (t.detach_freeTail i)

theorem ClsSt.free_follow (h : t.entriesOf i = []) : (t.free i).follow = t.follow := t.detach_follow i h

/-- Whichever record is freed, every record keeps its generation. -/
theorem ClsSt.free_freed (k : Nat) : ((t.free i).clause k).freed = (t.clause k).freed := by
  by_cases h : k = i
  · subst h
    rw [t.free_clause_same k]
    rfl
  · rw [t.free_clause_other i h]
    rcases t.detach_clause i k with hk | hk | hk | hk <;> rw [hk] <;> rfl

/-- A record once freed stays as it is while others are freed. -/
theorem ClsSt.free_keeps_freed {c : Clause} {k : Nat} (h : t.clause k = c.freed) : (t.free i).clause k = c.freed := by
  by_cases hk : k = i
  · subst hk
    rw [t.free_clause_same k, h]
    rfl
  · rw [t.free_clause_other i hk]
    rcases t.detach_clause i k with hd | hd | hd | hd <;> rw [hd, h] <;> rfl

end Free

/-! ## A sweep (R58) -/

/-- Indices freed one after another go to the back of the free list in that order. -/
theorem ClsSt.foldl_free_freeTail (l : List Nat) (t : ClsSt) : (l.foldl ClsSt.free t).freeTail = t.freeTail ++ l := by
  induction l generalizing t with
  | nil => exact (List.append_nil _).symm
  | cons i l ih => rw [List.foldl_cons, ih, t.free_freeTail i, List.append_assoc, List.singleton_append]

theorem ClsSt.foldl_free_keeps_freed {c : Clause} {k : Nat} (l : List Nat) {t : ClsSt} (h : t.clause k = c.freed) :
    (l.foldl ClsSt.free t).clause k = c.freed := by
  induction l generalizing t with
  | nil => exact h
  | cons i l ih => exact ih (t.free_keeps_freed i h)

/-- Of each index on the list nothing but its generation is left. -/
theorem ClsSt.foldl_free_clause {k : Nat} {l : List Nat} (t : ClsSt) (h : k ∈ l) :
    (l.foldl ClsSt.free t).clause k = (t.clause k).freed := by
  induction l generalizing t with
  | nil => cases h
  | cons i l ih =>
    rcases List.mem_cons.mp h with rfl | hl
    · exact ClsSt.foldl_free_keeps_freed l (t.free_clause_same k)
    · exact (ih (t.free i) hl).trans (t.free_freed i k)

/-! ## Requests that meet no conflict -/

theorem ClsSt.permitted_nil {t : ClsSt} (h : t.follow.length ≤ 4096) (env : ClsEnv) (now : Nat) (c : Clause) (kept : List Nat) :
    t.permitted env now c kept [] = true := by
  simp [ClsSt.permitted, h]

@[simp] theorem ClsSt.cuts_nil (t : ClsSt) (env : ClsEnv) (now t0 : Nat) (c : Clause) (kept : List Nat) :
    t.cuts env now c kept t0 [] = (t, []) := rfl

@[simp] theorem ClsSt.follows_nil (t : ClsSt) (i : Nat) : t.follows [] i = (t, []) := rfl

end Sys2Proof.Machine
end

section
/-!
A changed Clause Table put in force, and a primitive at a queue port (R49, R50, R72, R295, R309): CLS holds the table the primitive left,
the port gets its result, and while the follow table stays nothing changes beside CLS but mirror messages and reports.
-/

namespace Sys2Proof.Machine

/-! ## Frames of reports -/

/-- What a frame allows may be counted as a report where reporting allows it. -/
theorem State.Frame.report_of {parts parts' : List Part} {s t : State} (h : State.Frame [] parts s t)
    (hp : ∀ p ∈ parts, p ∈ parts' ∨ p ∈ reportParts) : State.ReportFrame [] parts' s t :=
  ⟨fun b a ha hr _ => h.1 b a ha hr, fun a _ => h.2.1 a, fun p h1 h2 => h.2.2 p fun hm => (hp p hm).elim h1 h2⟩

theorem State.emit_reported (s : State) (e : Emit) : s.Reported (s.emit e) := (s.emit_frame e).report_of (by decide)

theorem State.mirror_reportFrame (s : State) (k : Nat) (b : MirrorBody) (snap : Bool) :
    State.ReportFrame [] [.ahn] s (s.mirror k b snap) := (s.mirror_frame k b snap).report_of (by decide)

theorem State.ReportFrame.foldl {α : Type} {parts : List Part} {f : State → α → State}
    (hf : ∀ s a, State.ReportFrame [] parts s (f s a)) (l : List α) (s : State) : State.ReportFrame [] parts s (l.foldl f s) := by
  induction l generalizing s with
  | nil => exact State.ReportFrame.refl _ _ s
  | cons a l ih => exact (hf s a).trans (by simp) (ih (f s a))

theorem State.cls_frame (s : State) (c : ClsSt) : State.Frame [] [.cls] s { s with cls := c } :=
  ⟨fun _ _ _ _ => rfl, fun _ => rfl, fun p hp => by cases p <;> simp_all [Part.same]⟩

theorem State.Frame.flag {parts : List Part} {s t : State} (h : State.Frame [] parts s t) {f : Fld} (ha : f.addr < 0x4000000) :
    t.flag f = s.flag f := by
  simp only [State.flag, State.fld, State.fldB, h.1 0 f.addr ha (by simp)]

/-! ## What leaves CLS alone -/

theorem State.foldl_cls {α : Type} {f : State → α → State} (hf : ∀ s a, (f s a).cls = s.cls) (l : List α) (s : State) :
    (l.foldl f s).cls = s.cls := by
  induction l generalizing s with
  | nil => rfl
  | cons a l ih => exact (ih (f s a)).trans (hf s a)

@[simp] theorem State.gapMirror_cls (s : State) (n : Nat) : (s.gapMirror n).cls = s.cls := s.mirror_cls _ _ _

@[simp] theorem State.setSlotReg_cls (s : State) (n a : Nat) (v : Int) : (s.setSlotReg n a v).cls = s.cls := rfl

@[simp] theorem State.setSlot_cls (s : State) (n : Nat) (v : LpeSlot) : (s.setSlot n v).cls = s.cls := rfl

@[simp] theorem State.lpe_cls (s : State) (l : LpeSt) : ({ s with lpe := l } : State).cls = s.cls := rfl

@[simp] theorem State.gapBind_cls (s : State) (n e : Nat) : (s.gapBind n e).cls = s.cls := by
  unfold State.gapBind
  extract_lets mis s1 idle s2 s3 s4 s5 lpe s6
  have h1 : s1.cls = s.cls := (State.setSlotReg_cls _ _ _ _).trans (s.setSlotReg_cls _ _ _)
  have h2 : s2.cls = s1.cls := s1.setSlot_cls _ _
  have h3 : s3.cls = s2.cls := (State.setFldB_cls _ _ _ _).trans (s2.setFldB_cls _ _ _)
  have h4 : s4.cls = s3.cls := s3.setSlotReg_cls _ _ _
  have h5 : s5.cls = s4.cls := (State.setFldB_cls _ _ _ _).trans (s4.setFldB_cls _ _ _)
  have h6 : s6.cls = s5.cls := s5.lpe_cls _
  exact (State.raise_cls _ _ (by decide)).trans ((s6.gapMirror_cls n).trans (by rw [h6, h5, h4, h3, h2, h1]))

@[simp] theorem State.gapEnter_cls (s : State) (e : Nat) : (s.gapEnter e).cls = s.cls := by
  unfold State.gapEnter
  extract_lets lpe s1
  have h1 : s1.cls = s.cls := s.lpe_cls _
  split
  · exact h1
  · split
    · exact (s1.gapBind_cls _ _).trans h1
    · exact (State.raise_cls _ _ (by decide)).trans ((s1.bump_cls _ _).trans h1)

/-! ## A changed table (R72, R295, R309) -/

/-- The table in force is the changed one; only whether event 50 is spent comes from the state. -/
theorem State.setCls_cls (s : State) (t : ClsSt) : ∃ near, (s.setCls t).cls = { t with nearSeen := near } := by
  unfold State.setCls
  extract_lets old fk moved s1 s2 s3 ck owner s4 s5
  have h5 : s5.cls = s2.cls :=
    ((State.foldl_cls (fun s k => s.mirror_cls k _ _) fk s4).trans (State.foldl_cls (fun s i => s.mirror_cls i _ _) ck s3)).trans
      (State.foldl_cls State.gapEnter_cls _ s2)
  refine ⟨s1.clsNear t, ?_⟩
  split
  · exact (State.raise_cls _ _ (by decide)).trans h5
  · exact h5

section FollowStays

variable {s : State} {t : ClsSt} (hf : t.follow = s.cls.follow)
include hf

/-- While the follow table stays no gap slot moves; what changed is mirrored. -/
theorem State.setCls_frame : State.ReportFrame [] [.cls, .ahn] s (s.setCls t) := by
  unfold State.setCls
  extract_lets old fk moved s1 s2 s3 ck owner s4 s5
  have hfk : fk = [] := by simp [fk, old, hf]
  have hmoved : moved = [] := by simp [moved, hfk]
  have h1 : s1 = s := by simp [s1, hmoved]
  have h2 : State.ReportFrame [] [.cls, .ahn] s s2 := h1 ▸ (s1.cls_frame _).report.mono (by simp) (by simp)
  have h3 : s3 = s2 := by simp [s3, hmoved]
  have h4 : State.ReportFrame [] [.cls, .ahn] s3 s4 :=
    (State.ReportFrame.foldl (fun s i => s.mirror_reportFrame i _ _) ck s3).mono (by simp) (by simp)
  have h5 : s5 = s4 := by simp [s5, hfk]
  have hs : State.ReportFrame [] [.cls, .ahn] s s5 := h5 ▸ h2.trans (by simp) (h3 ▸ h4)
  split
  · exact hs.trans (by simp) ((State.raise_frame _ _ (by decide)).mono (by simp) (by simp))
  · exact hs

/-- While the records stay as well nothing is mirrored. -/
theorem State.setCls_frame_same (hc : t.clauses = s.cls.clauses) : State.ReportFrame [] [.cls] s (s.setCls t) := by
  unfold State.setCls
  extract_lets old fk moved s1 s2 s3 ck owner s4 s5
  have hfk : fk = [] := by simp [fk, old, hf]
  have hck : ck = [] := by simp [ck, old, hc]
  have hmoved : moved = [] := by simp [moved, hfk]
  have h1 : s1 = s := by simp [s1, hmoved]
  have h2 : State.ReportFrame [] [.cls] s s2 := h1 ▸ (s1.cls_frame _).report
  have h5 : s5 = s2 := by simp [s5, s4, s3, hfk, hck, hmoved]
  have hs : State.ReportFrame [] [.cls] s s5 := h5 ▸ h2
  split
  · exact hs.trans (by simp) ((State.raise_frame _ _ (by decide)).mono (by simp) (by simp))
  · exact hs

end FollowStays

/-! ## Events of a primitive -/

theorem State.raiseAll_frame {l : List (Nat × Nat)} (hl : ∀ e ∈ l, e.1 < 256) (s : State) : s.Reported (s.raiseAll l) := by
  induction l generalizing s with
  | nil => exact State.ReportFrame.refl _ _ s
  | cons e l ih =>
    exact (s.raise_frame e.2 (hl e (by simp))).trans (ih (fun e' h => hl e' (by simp [h])) _)

theorem State.raiseAll_cls {l : List (Nat × Nat)} (hl : ∀ e ∈ l, e.1 < 256) (s : State) : (s.raiseAll l).cls = s.cls :=
  (State.raiseAll_frame hl s).2.2 .cls (by simp) (by decide)

theorem State.raiseAll_pend_keeps {l : List (Nat × Nat)} (hl : ∀ e ∈ l, e.1 < 256) {s : State} {n : Nat} (hn : n < 256)
    (h : s.pend n = true) : (s.raiseAll l).pend n = true := by
  induction l generalizing s with
  | nil => exact h
  | cons e l ih => exact ih (fun e' h' => hl e' (by simp [h'])) (s.raise_pend_keeps e.2 (hl e (by simp)) hn h)

/-- Each event of the list is pending at the end. -/
theorem State.raiseAll_pend {l : List (Nat × Nat)} (hl : ∀ e ∈ l, e.1 < 256) {n : Nat × Nat} (hn : n ∈ l) (s : State) :
    (s.raiseAll l).pend n.1 = true := by
  induction l generalizing s with
  | nil => cases hn
  | cons e l ih =>
    rcases List.mem_cons.mp hn with rfl | h
    · exact State.raiseAll_pend_keeps (s := s.raise n.1 n.2) (fun e' h' => hl e' (by simp [h'])) (hl n hn) (s.raise_pend n.2 (hl n hn))
    · exact ih (fun e' h' => hl e' (by simp [h'])) h _

end Sys2Proof.Machine
end

section
/-!
A primitive at a queue port (R50, R51, R73): what the port answers and what CLS holds afterwards, for any primitive, from what the primitive
leaves.
-/

namespace Sys2Proof.Machine

/-! ## At a queue port -/

/-- A result names records and chains of the table alone. -/
theorem ClsRes.bytes_congr {t u : ClsSt} (hclauses : u.clauses = t.clauses) (hchains : u.chains = t.chains) (r : ClsRes) (n : Nat) :
    r.bytes u n = r.bytes t n := by
  simp only [ClsRes.bytes, ClsSt.record, ClsSt.handle, ClsSt.clause, ClsSt.chain, hclauses, hchains]

/-- `t` is `s` after a primitive at a queue port: CLS holds what the primitive left, the result leaves with its CHECKS, its events are
pending, and while the follow table stays nothing else changes but mirror messages and reports. -/
structure State.ClsServed (s t : State) (disp : Bool) (o : ClsOut) (checks : Nat) : Prop where
  clauses : t.cls.clauses = o.tab.clauses
  chains : t.cls.chains = o.tab.chains
  freeNext : t.cls.freeNext = o.tab.freeNext
  freeTail : t.cls.freeTail = o.tab.freeTail
  follow : t.cls.follow = o.tab.follow
  out : t.out.head? = some (.clsResult disp (o.res.bytes t.cls checks))
  pend : ∀ e ∈ o.evs, t.pend e.1 = true
  frame : o.tab.follow = s.cls.follow → State.ReportFrame [] [.cls, .ahn] s t
  frame_same : o.tab.follow = s.cls.follow → o.tab.clauses = s.cls.clauses → State.ReportFrame [] [.cls] s t

namespace State.ClsServed

variable {s t : State} {disp : Bool} {o : ClsOut} {checks : Nat} (h : s.ClsServed t disp o checks)
include h

theorem clause (k : Nat) : t.cls.clause k = o.tab.clause k := congrArg (fun m : SMap Clause => m.get Clause.free k) h.clauses

theorem chain (mi : Nat) : t.cls.chain mi = o.tab.chain mi := congrArg (fun m : SMap (List Nat) => m.get [] mi) h.chains

/-- A primitive that left the table as it was. -/
theorem same (ht : o.tab = s.cls) : State.sameClauses s t ∧ State.ReportFrame [] [.cls] s t :=
  ⟨⟨h.clauses.trans (by rw [ht]), h.chains.trans (by rw [ht]), h.freeNext.trans (by rw [ht]), h.freeTail.trans (by rw [ht]),
    h.follow.trans (by rw [ht])⟩, h.frame_same (by rw [ht]) (by rw [ht])⟩

end State.ClsServed

theorem State.clsCommit_cls (s : State) {o : ClsOut} (ho : ∀ e ∈ o.evs, e.1 < 256) :
    ∃ near, (s.clsCommit o).cls = { o.tab with nearSeen := near } := by
  obtain ⟨near, hnear⟩ := s.setCls_cls o.tab
  exact ⟨near, (State.raiseAll_cls ho _).trans hnear⟩

/-- A commit with its checks counted, and a result that leaves. -/
theorem State.clsCommit_served (s : State) (o : ClsOut) (banks : List Nat) (disp : Bool) (ho : ∀ e ∈ o.evs, e.1 < 256) :
    s.ClsServed (({ s.clsCommit o with cls := (s.clsCommit o).cls.addLoad banks } : State).emit
      (.clsResult disp (o.res.bytes (s.clsCommit o).cls banks.length))) disp o banks.length := by
  obtain ⟨near, hcls⟩ := s.clsCommit_cls ho
  have hpend : ∀ e ∈ o.evs, (s.clsCommit o).pend e.1 = true := fun e he => State.raiseAll_pend ho he _
  have hcommit : ∀ parts, State.ReportFrame [] parts s (s.setCls o.tab) → State.ReportFrame [] parts s (s.clsCommit o) :=
    fun parts h => h.trans (by simp) ((State.raiseAll_frame ho _).mono (by simp) (by simp))
  generalize s.clsCommit o = u at hcls hpend hcommit ⊢
  have hload := u.cls_frame (u.cls.addLoad banks)
  have hemit := State.emit_frame { u with cls := u.cls.addLoad banks } (.clsResult disp (o.res.bytes u.cls banks.length))
  have hend : ∀ parts : List Part, .cls ∈ parts → State.ReportFrame [] parts s (s.setCls o.tab) → State.ReportFrame [] parts s
      (({ u with cls := u.cls.addLoad banks } : State).emit (.clsResult disp (o.res.bytes u.cls banks.length))) :=
    fun parts hp h => ((hcommit parts h).trans (by simp) (hload.report.mono (by simp) (by simpa using hp))).trans (by simp)
      ((State.emit_reported _ _).mono (by simp) (by simp))
  exact {
    clauses := show u.cls.clauses = _ by rw [hcls]
    chains := show u.cls.chains = _ by rw [hcls]
    freeNext := show u.cls.freeNext = _ by rw [hcls]
    freeTail := show u.cls.freeTail = _ by rw [hcls]
    follow := show u.cls.follow = _ by rw [hcls]
    out := congrArg (fun b => some (Emit.clsResult disp b)) (ClsRes.bytes_congr (t := u.cls.addLoad banks) rfl rfl o.res _)
    pend := fun e he => (((hload.mono (by simp) (by simp)).trans (hemit.mono (by simp) (by simp)) :
      State.Frame [] [.cls, .out] u _).flag (pendFld_addr (ho e he)).1).trans (hpend e he)
    frame := fun hf => hend _ (by simp) (State.setCls_frame hf)
    frame_same := fun hf hc => hend _ (by simp) (State.setCls_frame_same hf hc) }

theorem State.clsDo_served (s : State) (op : Nat) (d : ClsDesc) (disp : Bool) (ho : ∀ e ∈ (s.clsRun op d).evs, e.1 < 256) :
    s.ClsServed ((s.clsDo op d).1.emit (.clsResult disp (s.clsDo op d).2.2)) disp (s.clsRun op d)
      (s.cls.primBanks s.clsMap op d (s.clsRun op d).res.status).length :=
  s.clsCommit_served (s.clsRun op d) _ disp ho

/-- The eight rows are the eight primitives (R50). -/
theorem exec_clsRow {s : State} (hw : s.works Blk.CLS) (p : ClsPort) {k : Nat} (hk : k < 8) :
    exec (clsRow k p) s = .next (s.clsAt (k + 1) p) := by
  obtain ⟨hs, hb⟩ := hw
  interval_cases k <;> exact whileOn_eq _ hs hb

/-- A primitive at the core or the dispatcher queue. -/
theorem exec_clsRow_served {s : State} (hw : s.works Blk.CLS) {p : ClsPort} {d : ClsDesc} (hp : p = .core d ∨ p = .dispatcher d) {k : Nat}
    (hk : k < 8) {o : ClsOut} (hr : s.clsRun (k + 1) d = o) (ho : ∀ e ∈ o.evs, e.1 < 256) : ∃ t, exec (clsRow k p) s = .next t ∧
      s.ClsServed t (p == .dispatcher d) o (s.cls.primBanks s.clsMap (k + 1) d o.res.status).length := by
  subst hr
  refine ⟨_, exec_clsRow hw p hk, ?_⟩
  rcases hp with rfl | rfl
  · rw [show (ClsPort.core d == .dispatcher d) = false by simp]
    exact s.clsDo_served (k + 1) d false ho
  · rw [beq_self_eq_true]
    exact s.clsDo_served (k + 1) d true ho

end Sys2Proof.Machine
end

section
/-!
What refuses a primitive (R51, R54, R63, R76, R311): one equation for each refusal, and that a refusal leaves the table as it was. The last
theorem settles O20.
-/

namespace Sys2Proof.Machine

/-! ## The table -/

section Table

variable {t : ClsSt} {env : ClsEnv} {pol : Nat → Nat → Policy} {mach : ClsMach} {machs : Nat → ClsMach} {d : ClsDesc} {now i : Nat}

theorem ClsSt.reserve_noTime (h : env.now = none) : t.reserve env pol mach d = t.refuse Cs.NO_TIME := by simp only [ClsSt.reserve, h]

theorem ClsSt.extend_noTime (h : env.now = none) : t.extend env pol machs d = t.refuse Cs.NO_TIME := by simp only [ClsSt.extend, h]

theorem ClsSt.swap_noTime (h : env.now = none) : t.swap env pol machs d = t.refuse Cs.NO_TIME := by simp only [ClsSt.swap, h]

theorem ClsSt.sweep_noTime (h : env.now = none) : t.sweep env d = t.refuse Cs.NO_TIME := by simp only [ClsSt.sweep, h]

theorem ClsSt.release_stale (h : t.ref d.ref = none) : t.release d = t.refuse Cs.STALE := by simp only [ClsSt.release, h]

theorem ClsSt.shrink_stale (h : t.ref d.ref = none) : t.shrink env machs d = t.refuse Cs.STALE := by simp only [ClsSt.shrink, h]

theorem ClsSt.queryHandle_stale (h : t.ref d.ref = none) : t.queryHandle d = t.refuse Cs.STALE := by simp only [ClsSt.queryHandle, h]

theorem ClsSt.extend_stale (hnow : env.now = some now) (h : t.ref d.ref = none) : t.extend env pol machs d = t.refuse Cs.STALE := by
  simp only [ClsSt.extend, hnow, h]

theorem ClsSt.swap_stale (hnow : env.now = some now) (h : t.ref d.ref = none) : t.swap env pol machs d = t.refuse Cs.STALE := by
  simp only [ClsSt.swap, hnow, h]

theorem ClsSt.release_inUse (href : t.ref d.ref = some i) (hcur : (t.clause i).current = true) (hforce : d.force = false)
    (hbad : d.bad = false) : t.release d = t.refuse Cs.IN_USE := by
  simp [ClsSt.release, href, hcur, hforce, hbad]

theorem ClsSt.swap_notOwner (hnow : env.now = some now) (href : t.ref d.ref = some i) (hmi : (t.clause i).mi ≠ d.mi) :
    t.swap env pol machs d = t.refuse Cs.NOT_OWNER := by
  simp [ClsSt.swap, hnow, href, hmi]

/-- An interval that begins beyond the horizon, is empty or is over, or a machine that is not VALID (R51, R54). -/
theorem fieldsOk_eq_false (h : now + env.horizon < d.t0 ∨ d.t1 ≤ d.t0 ∨ d.t1 ≤ now ∨ mach.valid = false) :
    fieldsOk env now d mach = false := by
  rcases h with h | h | h | h
  · simp [fieldsOk, Nat.not_le.mpr h]
  · simp [fieldsOk, Nat.not_lt.mpr h]
  · simp [fieldsOk, Nat.not_lt.mpr h]
  · simp [fieldsOk, h]

theorem ClsSt.reserve_invalid (hnow : env.now = some now) (h : d.bad = true ∨ fieldsOk env now d mach = false) :
    t.reserve env pol mach d = t.refuse Cs.INVALID := by
  rcases h with h | h <;> simp [ClsSt.reserve, hnow, h]

/-- A conflict whose policy permits nothing is no permitted one (R60, R63). -/
theorem ClsSt.permitted_refused {c : Clause} {q : Conflict} {l : List Conflict} (h : q.pol.action = 0) :
    t.permitted env now c [] (q :: l) = false := by
  simp [ClsSt.permitted, ClsSt.followOk, ClsSt.preemptOk, h]

/-- A RESERVE that meets the conditions on machine, chain, free list and index (R54) is decided by its conflicts alone. -/
theorem ClsSt.reserve_eq (hnow : env.now = some now) (hbad : d.bad = false) (hfields : fieldsOk env now d mach = true)
    (hforce : d.force = true → mach.revoked = true) (hlimit : (t.chain d.mi).length < env.perMi)
    (hlink : d.link = true → ((t.ref d.ref).map fun r => (t.clause r).mi) = some d.mi) (hfree : t.nextFree = some i)
    (hroom : t.roomFor env.map (pieceOf env.map (spaceIsCell d.space) (spaceLow d.space) d.lo d.hi (max d.t0 now) d.t1) = true) :
    t.reserve env pol mach d =
      (let c := clauseFor d (((t.clause i).gen + 1) % 16384) mach.pclass (max d.t0 now) d.force
      let l := if d.force then [] else t.conflicts env.map (pol mach.pclass) d.mi
        [pieceOf env.map (spaceIsCell d.space) (spaceLow d.space) d.lo d.hi (max d.t0 now) d.t1]
      if !t.permitted env now c [] l then t.refuseConflict l
      else if d.dry then ⟨ClsRes.ok (i + 2 ^ 18 * c.gen), t, []⟩
      else t.reserveAt env now d c i (if d.link then t.ref d.ref else none) l) := by
  have hinvalid : (d.bad || !fieldsOk env now d mach || (d.force && !mach.revoked)) = false := by
    cases hf : d.force
    · simp [hbad, hfields]
    · simp [hbad, hfields, hforce hf]
  have hlinked : d.link = false ∨ ∃ r, t.ref d.ref = some r ∧ (t.clause r).mi = d.mi := by
    cases hl : d.link
    · exact .inl rfl
    · exact .inr (Option.map_eq_some_iff.mp (hlink hl))
  have hpiece : (clauseFor d (((t.clause i).gen + 1) % 16384) mach.pclass (max d.t0 now) d.force).piece env.map =
      pieceOf env.map (spaceIsCell d.space) (spaceLow d.space) d.lo d.hi (max d.t0 now) d.t1 := rfl
  unfold ClsSt.reserve
  simp only [hnow]
  rw [if_neg (by simp [hinvalid]), if_neg (by omega)]
  rcases hlinked with hl | ⟨r, hr, hmi⟩
  · simp only [hl, hfree, hpiece, hroom, Bool.false_and, Bool.not_true, Bool.false_eq_true, if_false]
  · simp only [hr, hmi, hfree, hpiece, hroom, Option.isNone_some, bne_self_eq_false, Bool.and_false, Bool.not_true, Bool.false_eq_true,
      if_false]

end Table

/-! ## The module -/

@[simp] theorem ClsPort.core_beq_dispatcher (d e : ClsDesc) : (ClsPort.core d == .dispatcher e) = false := by simp

section Module

variable {s : State} {op : Nat} {d : ClsDesc}

theorem State.clsRun_fault (h : s.flag F.CLS_STATUS_MEM_FAULT = true) : s.clsRun op d = s.cls.refuse Cs.FAULT := by
  simp [State.clsRun, State.clsEnv, h]

theorem State.clsRun_standby (h : s.flag F.CLS_STATUS_MEM_FAULT = false) (hs : s.isStandby = true) (h6 : op ≠ ClsOp.QUERY_SPACE)
    (h7 : op ≠ ClsOp.QUERY_HANDLE) : s.clsRun op d = s.cls.refuse Cs.INVALID := by
  simp [State.clsRun, State.clsEnv, h, hs, h6, h7]

/-- Without memory fault, on a module that is no standby, a primitive does what its row of R54 says. -/
theorem State.clsRun_eq (h : s.flag F.CLS_STATUS_MEM_FAULT = false) (hs : s.isStandby = false) : s.clsRun op d = s.clsPrim op d := by
  simp [State.clsRun, State.clsEnv, h, hs]

/-- The two queries run on a standby too (R311). -/
theorem State.clsRun_query (h : s.flag F.CLS_STATUS_MEM_FAULT = false) (hop : op = ClsOp.QUERY_SPACE ∨ op = ClsOp.QUERY_HANDLE) :
    s.clsRun op d = s.clsPrim op d := by
  rcases hop with rfl | rfl <;> simp [State.clsRun, State.clsEnv, h]

end Module

theorem ClsSt.primBanks_refused (t : ClsSt) (m : List Byte) (op : Nat) (d : ClsDesc) {status : Nat}
    (h : status ≠ Cs.OK ∧ status ≠ Cs.CONFLICT) : t.primBanks m op d status = [] := by
  simp [ClsSt.primBanks, h]

/-- A refusal at the core queue changes no clause, counts no check and leaves the rest as it was. -/
theorem exec_clsRow_refused_frame {s : State} (hw : s.works Blk.CLS) {d : ClsDesc} {k status : Nat} (hk : k < 8)
    (hr : s.clsRun (k + 1) d = s.cls.refuse status) (hst : status ≠ Cs.OK ∧ status ≠ Cs.CONFLICT) :
    ∃ t, exec (clsRow k (.core d)) s = .next t ∧ State.sameClauses s t ∧
      t.out.head? = some (.clsResult false ((ClsRes.of status).bytes t.cls 0)) ∧ State.ReportFrame [] [.cls, .freeCtr] s t := by
  obtain ⟨t, ht, served⟩ := exec_clsRow_served hw (.inl rfl) hk hr (by simp [ClsSt.refuse])
  obtain ⟨hsame, hframe⟩ := served.same rfl
  have hout := served.out
  rw [s.cls.primBanks_refused _ _ _ (by exact hst)] at hout
  exact ⟨t, ht, hsame, by simpa [ClsSt.refuse] using hout, hframe.mono (by simp) (by simp)⟩

theorem exec_clsRow_refused {s : State} (hw : s.works Blk.CLS) {d : ClsDesc} {k status : Nat} (hk : k < 8)
    (hr : s.clsRun (k + 1) d = s.cls.refuse status) (hst : status ≠ Cs.OK ∧ status ≠ Cs.CONFLICT) :
    ∃ t, exec (clsRow k (.core d)) s = .next t ∧ State.sameClauses s t ∧
      t.out.head? = some (.clsResult false ((ClsRes.of status).bytes t.cls 0)) :=
  let ⟨t, ht, hsame, hout, _⟩ := exec_clsRow_refused_frame hw hk hr hst
  ⟨t, ht, hsame, hout⟩

/-! ## The obligation -/

/-- Settles O20, clause by clause from the equations of the refusals. -/
theorem clauseRefusals : Obligations.ClauseRefusals := by
  unfold Obligations.ClauseRefusals
  refine ⟨fun s d k hw hm hk => ?fault, fun s d k hw hm hs hk => ?standby, fun s d k hw hm hs hnow hk => ?noTime,
    fun s d k hw hm hs hnow href hk => ?stale, fun s d i hw hm hs href hcur hforce hbad => ?inUse,
    fun s d now i hw hm hs hnow href hmi => ?notOwner, fun s d now hw hm hs hnow h => ?invalid,
    fun s d now h q l hw hm hs hnow hfields hbad hforce hlimit hlink hfree hroom hl hq => ?conflict⟩
  case fault => exact exec_clsRow_refused_frame hw hk (State.clsRun_fault hm) (by decide)
  case standby =>
    have hop : k < 8 ∧ k + 1 ≠ ClsOp.QUERY_SPACE ∧ k + 1 ≠ ClsOp.QUERY_HANDLE := by
      revert k; decide
    exact exec_clsRow_refused hw hop.1 (State.clsRun_standby hm hs hop.2.1 hop.2.2) (by decide)
  case noTime =>
    have hk8 : k < 8 := by revert k; decide
    have hr : s.clsRun (k + 1) d = s.cls.refuse Cs.NO_TIME := by
      rw [State.clsRun_eq hm hs]
      fin_cases hk
      · exact ClsSt.reserve_noTime hnow
      · exact ClsSt.extend_noTime hnow
      · exact ClsSt.swap_noTime hnow
      · exact ClsSt.sweep_noTime hnow
    exact exec_clsRow_refused hw hk8 hr (by decide)
  case stale =>
    obtain ⟨now, hnow⟩ := Option.isSome_iff_exists.mp hnow
    have hk8 : k < 8 := by revert k; decide
    have hr : s.clsRun (k + 1) d = s.cls.refuse Cs.STALE := by
      rw [State.clsRun_eq hm hs]
      fin_cases hk
      · exact ClsSt.release_stale href
      · exact ClsSt.extend_stale hnow href
      · exact ClsSt.shrink_stale href
      · exact ClsSt.swap_stale hnow href
      · exact ClsSt.queryHandle_stale href
    exact exec_clsRow_refused hw hk8 hr (by decide)
  case inUse =>
    have hr : s.clsRun 2 d = s.cls.refuse Cs.IN_USE := (State.clsRun_eq hm hs).trans (ClsSt.release_inUse href hcur hforce hbad)
    exact exec_clsRow_refused (k := 1) hw (by decide) hr (by decide)
  case notOwner =>
    have hr : s.clsRun 5 d = s.cls.refuse Cs.NOT_OWNER := (State.clsRun_eq hm hs).trans (ClsSt.swap_notOwner hnow href hmi)
    exact exec_clsRow_refused (k := 4) hw (by decide) hr (by decide)
  case invalid =>
    have hbad : d.bad = true ∨ fieldsOk s.clsEnv now d (s.clsMach d.mi) = false := by
      rcases h with h | h | h | h | h
      · exact .inr (fieldsOk_eq_false (.inl h))
      · exact .inr (fieldsOk_eq_false (.inr (.inl h)))
      · exact .inr (fieldsOk_eq_false (.inr (.inr (.inl h))))
      · exact .inr (fieldsOk_eq_false (.inr (.inr (.inr h))))
      · exact .inl h
    have hr : s.clsRun 1 d = s.cls.refuse Cs.INVALID := (State.clsRun_eq hm hs).trans (ClsSt.reserve_invalid hnow hbad)
    exact exec_clsRow_refused (k := 0) hw (by decide) hr (by decide)
  case conflict =>
    have hr : s.clsRun 1 d = s.cls.refuseConflict (q :: l) := by
      refine (State.clsRun_eq hm hs).trans ((ClsSt.reserve_eq (env := s.clsEnv) (mach := s.clsMach d.mi) hnow hbad hfields
        (by simp [hforce]) hlimit (by simp [hlink]) hfree hroom).trans ?_)
      have hconflicts : s.cls.conflicts s.clsEnv.map (s.clsPolicy (s.clsMach d.mi).pclass) d.mi
        [pieceOf s.clsEnv.map (spaceIsCell d.space) (spaceLow d.space) d.lo d.hi (max d.t0 now) d.t1] = q :: l := hl
      simp only [hforce, hconflicts, ClsSt.permitted_refused hq, Bool.not_false, Bool.false_eq_true, if_true, if_false]
    obtain ⟨t, ht, served⟩ := exec_clsRow_served (k := 0) hw (.inl rfl) (by decide) hr (by simp [ClsSt.refuseConflict])
    exact ⟨t, ht, (served.same rfl).1, by simpa [ClsSt.refuseConflict] using served.out⟩

end Sys2Proof.Machine
end

section
/-!
RESERVE, RELEASE, EXTEND, SHRINK and SWAP where their conditions hold and no conflict is met (R49, R54): the result and the table each
leaves, then what that table holds. The last theorem settles O19.
-/

namespace Sys2Proof.Machine

/-! ## RESERVE -/

theorem Clause.gen_eq_of_unjoined_unmarked {a b : Clause} (h : a.unjoined.unmarked = b.unjoined.unmarked) : a.gen = b.gen := by
  have hgen := congrArg Clause.gen h
  exact hgen

theorem Clause.gen_eq_of_unjoined {a b : Clause} (h : a.unjoined = b.unjoined) : a.gen = b.gen :=
  Clause.gen_eq_of_unjoined_unmarked (congrArg Clause.unmarked h)

/-- The table after a RESERVE of clause `c` at index `i` for machine `mi`, after REF where there is one. -/
def ClsSt.reserved (t : ClsSt) (m : List Byte) (mi : Nat) (c : Clause) (i : Nat) (ref : Option Nat) : ClsSt :=
  let u := (t.takeFree.setClause i c).setChain mi (chainInsert (t.chain mi) ref i)
  match ref with
  | none => u
  | some r => (u.rejoin m i).rejoin m r

section Reserved

variable (t : ClsSt) (m : List Byte) (mi : Nat) (c : Clause) (i : Nat) (ref : Option Nat)

theorem ClsSt.reserved_clause_same : ((t.reserved m mi c i ref).clause i).unjoined = c.unjoined := by
  cases ref <;> simp [ClsSt.reserved]

theorem ClsSt.reserved_clause_unlinked : (t.reserved m mi c i none).clause i = c := t.takeFree.clause_setClause_same i c

theorem ClsSt.reserved_clause_other {k : Nat} (hi : k ≠ i) (hr : ref ≠ some k) :
    (t.reserved m mi c i ref).clause k = t.clause k := by
  have hplace : ((t.takeFree.setClause i c).setChain mi (chainInsert (t.chain mi) ref i)).clause k = t.clause k :=
    (t.takeFree.clause_setClause_other c hi).trans (t.takeFree_clause k)
  cases ref with
  | none => exact hplace
  | some r =>
    have hkr : k ≠ r := fun h => hr (h ▸ rfl)
    exact (ClsSt.rejoin_clause_other _ m r hkr).trans ((ClsSt.rejoin_clause_other _ m i hi).trans hplace)

theorem ClsSt.reserved_chain : (t.reserved m mi c i ref).chain mi = chainInsert (t.chain mi) ref i := by
  have hplace := (t.takeFree.setClause i c).chain_setChain_same mi (chainInsert (t.chain mi) ref i)
  cases ref <;> exact hplace

theorem ClsSt.reserved_freeNext : (t.reserved m mi c i ref).freeNext = t.takeFree.freeNext := by cases ref <;> rfl

theorem ClsSt.reserved_freeTail : (t.reserved m mi c i ref).freeTail = t.takeFree.freeTail := by cases ref <;> rfl

theorem ClsSt.reserved_follow : (t.reserved m mi c i ref).follow = t.follow := by
  cases ref <;> exact t.takeFree_follow

theorem ClsSt.reserved_handle : (t.reserved m mi c i ref).handle i = i + 2 ^ 18 * c.gen :=
  congrArg (fun g => i + 2 ^ 18 * g) (Clause.gen_eq_of_unjoined (t.reserved_clause_same m mi c i ref))

theorem ClsSt.reserveAt_nil (env : ClsEnv) (now : Nat) (d : ClsDesc) :
    t.reserveAt env now d c i ref [] = ⟨ClsRes.ok (i + 2 ^ 18 * c.gen), t.reserved env.map d.mi c i ref, []⟩ := by
  rw [← t.reserved_handle env.map d.mi c i ref]
  cases ref <;> simp [ClsSt.reserveAt, ClsSt.reserved]

end Reserved

/-! ## SWAP -/

/-- The clause a SWAP puts in place of `c` (R54, log 75). -/
def swapClause (d : ClsDesc) (c : Clause) : Clause :=
  { clauseFor d ((c.gen + 1) % 16384) c.pclass d.t0 c.hold with current := c.current }

/-- The follow entries that name index `i` name it by handle `h`. -/
def ClsSt.renamed (t : ClsSt) (i h : Nat) : ClsSt :=
  { t with follow := t.follow.map fun e => (e.1, e.2.map fun f =>
      ⟨if f.leader % 2 ^ 18 = i then h else f.leader, if f.follower % 2 ^ 18 = i then h else f.follower, f.sepMm⟩) }

/-- The table after a SWAP to clause `c` at index `i` that keeps the follow entries `keep`. -/
def ClsSt.swapped (t : ClsSt) (m : List Byte) (i : Nat) (c : Clause) (keep : List Nat) : ClsSt :=
  let u := ((t.entriesOf i).filter fun k => !keep.contains k).foldl ClsSt.endEntry t
  let u := u.setClause i { c with follow := !((u.entriesOf i).isEmpty) }
  let u := (u.renamed i (u.handle i)).rejoin m i
  match chainPrev (u.chain c.mi) i with
  | none => u
  | some p => u.rejoin m p

/-- No entry names the index: there is none to rename. -/
theorem ClsSt.renamed_follow {t : ClsSt} {i : Nat} (h : t.entriesOf i = []) (n : Nat) : (t.renamed i n).follow = t.follow := by
  have hnone : ∀ e ∈ t.follow, ∀ f, e.2 = some f → f.leader % 2 ^ 18 ≠ i ∧ f.follower % 2 ^ 18 ≠ i := by
    intro e he f hf
    have := List.filter_eq_nil_iff.mp (List.map_eq_nil_iff.mp h) e he
    simpa [hf] using this
  refine (List.map_congr_left fun e he => ?_).trans (List.map_id _)
  obtain ⟨k, v⟩ := e
  cases v with
  | none => rfl
  | some f =>
    obtain ⟨hl, hf⟩ := hnone _ he f rfl
    simp only [Option.map_some, hl, hf, if_false, id]

section Swapped

variable (t : ClsSt) (m : List Byte) (i : Nat) (c : Clause) (keep : List Nat)

theorem ClsSt.swapped_clause : ((t.swapped m i c keep).clause i).unjoined.unmarked = c.unjoined.unmarked := by
  have hset : ∀ (u : ClsSt) (b : Bool) (n : Nat),
      ((((u.setClause i { c with follow := b }).renamed i n).rejoin m i).clause i).unjoined.unmarked = c.unjoined.unmarked := by
    intro u b n
    rw [ClsSt.rejoin_clause_unjoined, show ((u.setClause i { c with follow := b }).renamed i n).clause i = { c with follow := b } from
      u.clause_setClause_same i _]
    rfl
  unfold ClsSt.swapped
  dsimp only
  split
  · exact hset _ _ _
  · rw [ClsSt.rejoin_clause_unjoined]
    exact hset _ _ _

theorem ClsSt.swapped_unfollowed : (t.swapped m i c keep).chains = t.chains ∧ (t.swapped m i c keep).freeNext = t.freeNext ∧
    (t.swapped m i c keep).freeTail = t.freeTail := by
  have h := ClsSt.Unfollowed.foldl ClsSt.endEntry_unfollowed ((t.entriesOf i).filter fun k => !keep.contains k) t
  unfold ClsSt.swapped
  dsimp only
  split <;> exact ⟨h.chains, h.freeNext, h.freeTail⟩

theorem ClsSt.swapped_follow (h : t.entriesOf i = []) : (t.swapped m i c keep).follow = t.follow := by
  have hren : ∀ (x : Clause) (n : Nat), ((t.setClause i x).renamed i n).follow = t.follow := fun x n => ClsSt.renamed_follow h n
  unfold ClsSt.swapped
  rw [h]
  dsimp only [List.filter_nil, List.foldl_nil]
  split <;> exact hren _ _

theorem ClsSt.swapAt_nil (env : ClsEnv) (now : Nat) (kept : List Nat) : t.swapAt env now i c keep kept [] =
    ⟨ClsRes.ok (i + 2 ^ 18 * c.gen), t.swapped env.map i c keep, []⟩ := by
  have hgen : (t.swapped env.map i c keep).handle i = i + 2 ^ 18 * c.gen :=
    congrArg (fun g => i + 2 ^ 18 * g) (Clause.gen_eq_of_unjoined_unmarked (t.swapped_clause env.map i c keep))
  rw [← hgen]
  rfl

end Swapped

/-! ## What the primitives leave -/

section Accepted

variable {t : ClsSt} {env : ClsEnv} {pol : Nat → Nat → Policy} {mach : ClsMach} {machs : Nat → ClsMach} {d : ClsDesc} {now i : Nat}

theorem ClsSt.reserve_accepted (hnow : env.now = some now) (hbad : d.bad = false) (hfields : fieldsOk env now d mach = true)
    (hforce : d.force = true → mach.revoked = true) (hlimit : (t.chain d.mi).length < env.perMi)
    (hlink : d.link = true → ((t.ref d.ref).map fun r => (t.clause r).mi) = some d.mi) (hfree : t.nextFree = some i)
    (hroom : t.roomFor env.map (pieceOf env.map (spaceIsCell d.space) (spaceLow d.space) d.lo d.hi (max d.t0 now) d.t1) = true)
    (hconf : d.force = true ∨ t.conflicts env.map (pol mach.pclass) d.mi
      [pieceOf env.map (spaceIsCell d.space) (spaceLow d.space) d.lo d.hi (max d.t0 now) d.t1] = [])
    (hfollow : t.follow.length ≤ 4096) (hdry : d.dry = false) :
    t.reserve env pol mach d = ⟨ClsRes.ok (i + 2 ^ 18 * (((t.clause i).gen + 1) % 16384)),
      t.reserved env.map d.mi (clauseFor d (((t.clause i).gen + 1) % 16384) mach.pclass (max d.t0 now) d.force) i
        (if d.link then t.ref d.ref else none), []⟩ := by
  have hnil : (if d.force = true then [] else t.conflicts env.map (pol mach.pclass) d.mi
      [pieceOf env.map (spaceIsCell d.space) (spaceLow d.space) d.lo d.hi (max d.t0 now) d.t1]) = [] := by
    rcases hconf with h | h <;> simp [h]
  rw [ClsSt.reserve_eq hnow hbad hfields hforce hlimit hlink hfree hroom]
  simp only [hnil, ClsSt.permitted_nil hfollow, hdry, Bool.not_true, Bool.false_eq_true, if_false]
  exact ClsSt.reserveAt_nil _ _ _ _ _ _ _

theorem ClsSt.release_accepted (href : t.ref d.ref = some i) (hcur : (t.clause i).current = false ∨ d.force = true)
    (hdry : d.dry = false) (hbad : d.bad = false) : t.release d = ⟨ClsRes.ok d.ref, t.free i, []⟩ := by
  rcases hcur with h | h <;> simp [ClsSt.release, href, h, hdry, hbad]

theorem ClsSt.extend_accepted (hnow : env.now = some now) (href : t.ref d.ref = some i) (hok : extendOk env.map (t.clause i) d = true)
    (hconf : t.conflicts env.map (pol (machs (t.clause i).mi).pclass) (t.clause i).mi
      (extendPieces env.map (t.clause i) d.lo d.hi d.t1) = [])
    (hfollow : t.follow.length ≤ 4096) (hdry : d.dry = false) (hbad : d.bad = false) :
    t.extend env pol machs d = ⟨ClsRes.ok d.ref, t.setClause i { t.clause i with lo := d.lo, hi := d.hi, t1 := d.t1 }, []⟩ := by
  unfold ClsSt.extend
  simp only [hnow, href, hbad, hok, hconf, ClsSt.permitted_nil hfollow, hdry, Bool.not_true, Bool.or_self, Bool.false_eq_true, if_false]
  rfl

theorem ClsSt.shrink_accepted (href : t.ref d.ref = some i) (hok : shrinkOk env.map (t.clause i) d = true)
    (hcur : (t.clause i).current = false ∨ d.force = true) (hdry : d.dry = false) (hbad : d.bad = false) :
    t.shrink env machs d = ⟨ClsRes.ok d.ref,
      t.setClause i { t.clause i with t0 := d.t0, t1 := d.t1, space := spaceLow d.space, lo := d.lo, hi := d.hi }, []⟩ := by
  rcases hcur with h | h <;> simp [ClsSt.shrink, href, hok, h, hdry, hbad]

theorem ClsSt.swap_accepted (hnow : env.now = some now) (href : t.ref d.ref = some i) (hmi : (t.clause i).mi = d.mi)
    (hfields : fieldsOk env now d (machs d.mi) = true) (hcur : (t.clause i).current = false ∨ d.force = true)
    (hconf : t.conflicts env.map (pol (machs d.mi).pclass) d.mi
      [pieceOf env.map (spaceIsCell d.space) (spaceLow d.space) d.lo d.hi d.t0 d.t1] = [])
    (hfollow : t.follow.length ≤ 4096) (hdry : d.dry = false) (hbad : d.bad = false) : ∃ keep,
    t.swap env pol machs d = ⟨ClsRes.ok (i + 2 ^ 18 * (((t.clause i).gen + 1) % 16384)),
      t.swapped env.map i (swapClause d (t.clause i)) keep, []⟩ := by
  have hinUse : ∀ b, ((t.clause i).current && !d.force && b) = false := by rcases hcur with h | h <;> simp [h]
  refine ⟨(t.entriesOf i).filter (t.swapKeeps i (swapClause d (t.clause i))), ?_⟩
  unfold ClsSt.swap
  simp only [Clause.piece, clauseFor, hnow, href, hmi, hbad, hfields, hinUse, hconf, ClsSt.permitted_nil hfollow, hdry, bne_self_eq_false, Bool.not_true,
    Bool.or_self, Bool.false_eq_true, if_false]
  exact ClsSt.swapAt_nil _ _ _ _ _ _ _

end Accepted

/-! ## The obligation -/

/-- Settles O19, clause by clause from what the five primitives leave. -/
theorem clauseRequests : Obligations.ClauseRequests := by
  unfold Obligations.ClauseRequests
  refine ⟨fun s p d now i hw hm hs hp hnow hfields hforce hlimit hlink hfree hroom hconf hfollow hdry hbad => ?reserve,
    fun s p d i hw hm hs hp href hcur hdry hbad => ?release,
    fun s p d now i hw hm hs hp hnow href hok hconf hfollow hdry hbad => ?extend,
    fun s p d i hw hm hs hp href hok hcur hdry hbad => ?shrink,
    fun s p d now i hw hm hs hp hnow href hmi hfields hcur hconf hfollow hdry hbad => ?swap⟩
  case reserve =>
    have hr := (State.clsRun_eq (op := 1) (d := d) hm hs).trans (ClsSt.reserve_accepted (env := s.clsEnv) (pol := s.clsPolicy) (mach := s.clsMach d.mi)
      hnow hbad hfields hforce hlimit hlink hfree hroom hconf hfollow hdry)
    obtain ⟨t, ht, served⟩ := exec_clsRow_served (k := 0) hw hp (by decide) hr (by simp)
    have hfol := ClsSt.reserved_follow s.cls s.clsMap d.mi (clauseFor d (((s.cls.clause i).gen + 1) % 16384) (s.clsMach d.mi).pclass
      (max d.t0 now) d.force) i (if d.link then s.cls.ref d.ref else none)
    refine ⟨t, ht, ?_, (served.chain d.mi).trans (ClsSt.reserved_chain _ _ _ _ _ _), served.freeNext.trans (ClsSt.reserved_freeNext _ _ _ _ _ _),
      served.freeTail.trans (ClsSt.reserved_freeTail _ _ _ _ _ _), served.follow.trans hfol, fun hl => ?_, fun k hki hkr => ?_, served.out,
      (served.frame hfol).mono (by simp) (by simp)⟩
    · exact (congrArg Clause.unjoined (served.clause i)).trans (ClsSt.reserved_clause_same _ _ _ _ _ _)
    · rw [served.clause i, hl]
      exact s.cls.reserved_clause_unlinked s.clsMap d.mi _ i
    · refine (served.clause k).trans (ClsSt.reserved_clause_other _ _ _ _ _ _ hki ?_)
      split
      · exact hkr
      · exact nofun
  case release =>
    have hr := (State.clsRun_eq (op := 2) (d := d) hm hs).trans (ClsSt.release_accepted href hcur hdry hbad)
    obtain ⟨t, ht, served⟩ := exec_clsRow_served (k := 1) hw hp (by decide) hr (by simp)
    exact ⟨t, ht, (served.clause i).trans (s.cls.free_clause_same i), (served.chain _).trans (s.cls.free_chain i),
      served.freeNext.trans (s.cls.free_freeNext i), served.freeTail.trans (s.cls.free_freeTail i), served.out,
      fun h => (served.frame (s.cls.free_follow i h)).mono (by simp) (by simp)⟩
  case extend =>
    have hr := (State.clsRun_eq (op := 3) (d := d) hm hs).trans (ClsSt.extend_accepted (env := s.clsEnv) (pol := s.clsPolicy) (machs := s.clsMach)
      hnow href hok hconf hfollow hdry hbad)
    obtain ⟨t, ht, served⟩ := exec_clsRow_served (k := 2) hw hp (by decide) hr (by simp)
    exact ⟨t, ht, (served.clause i).trans (s.cls.clause_setClause_same i _),
      fun k hk => (served.clause k).trans (s.cls.clause_setClause_other _ hk), served.chains, served.follow, served.out,
      (served.frame rfl).mono (by simp) (by simp)⟩
  case shrink =>
    have hr := (State.clsRun_eq (op := 4) (d := d) hm hs).trans (ClsSt.shrink_accepted (env := s.clsEnv) (machs := s.clsMach) href hok hcur hdry hbad)
    obtain ⟨t, ht, served⟩ := exec_clsRow_served (k := 3) hw hp (by decide) hr (by simp)
    exact ⟨t, ht, (served.clause i).trans (s.cls.clause_setClause_same i _),
      fun k hk => (served.clause k).trans (s.cls.clause_setClause_other _ hk), served.chains, served.follow, served.out,
      (served.frame rfl).mono (by simp) (by simp)⟩
  case swap =>
    obtain ⟨keep, hswap⟩ := ClsSt.swap_accepted (env := s.clsEnv) (pol := s.clsPolicy) (machs := s.clsMach) hnow href hmi hfields hcur hconf
      hfollow hdry hbad
    have hr := (State.clsRun_eq (op := 5) (d := d) hm hs).trans hswap
    obtain ⟨t, ht, served⟩ := exec_clsRow_served (k := 4) hw hp (by decide) hr (by simp)
    obtain ⟨hchains, hnext, htail⟩ := s.cls.swapped_unfollowed s.clsMap i _ keep
    exact ⟨t, ht, (congrArg (fun c : Clause => c.unjoined.unmarked) (served.clause i)).trans (s.cls.swapped_clause s.clsMap i _ keep),
      served.chains.trans hchains, served.freeNext.trans hnext, served.freeTail.trans htail, served.out,
      fun h => (served.frame (s.cls.swapped_follow s.clsMap i _ keep h)).mono (by simp) (by simp)⟩

end Sys2Proof.Machine
end

section
/-!
The queries, the sweeps, the end of a follow entry, the host port and the read of clause time (R50, R51, R54, R58, R62, R77, R78). The last
theorem settles O21.
-/

namespace Sys2Proof.Machine

/-! ## Queries and sweeps of the table -/

section Table

variable {t : ClsSt} {env : ClsEnv} {d : ClsDesc} {now i : Nat}

/-- The list begins after REF where there is one. -/
theorem ClsSt.querySpace_accepted (hspace : spaceInMap env.map d.space d.lo = true) (hbad : d.bad = false)
    (href : d.ref ≠ 0 → (t.ref d.ref).isSome = true) : t.querySpace env d =
      ⟨⟨Cs.OK, 0, 0, 0, (((t.onRange env.map d).filter fun i => d.ref == 0 || t.after i (d.ref % 2 ^ 18)).take 8).map t.handle, none,
        (t.onRange env.map d).length⟩, t, []⟩ := by
  by_cases h0 : d.ref = 0
  · simp [ClsSt.querySpace, ClsRes.of, hspace, hbad, h0]
  · obtain ⟨r, hr⟩ := Option.isSome_iff_exists.mp (href h0)
    obtain rfl := ClsSt.ref_eq_some hr
    have hne : (d.ref == 0) = false := beq_eq_false_iff_ne.mpr h0
    simp [ClsSt.querySpace, ClsRes.of, hspace, hbad, h0, hne, hr]

theorem ClsSt.queryHandle_accepted (href : t.ref d.ref = some i) (hbad : d.bad = false) :
    t.queryHandle d = ⟨⟨Cs.OK, 0, d.ref, 0, [], some i, 0⟩, t, []⟩ := by
  simp [ClsSt.queryHandle, ClsRes.ok, href, hbad]

theorem ClsSt.sweep_accepted (hnow : env.now = some now) (ht1 : d.t1 ≤ now) (hdry : d.dry = false) (hbad : d.bad = false) :
    t.sweep env d = t.sweepTo d.t1 := by
  simp [ClsSt.sweep, hnow, hdry, hbad, Nat.not_lt.mpr ht1]

theorem ClsSt.sweepTo_freeTail (t : ClsSt) (t1 : Nat) : (t.sweepTo t1).tab.freeTail = t.freeTail ++ t.sweepable t1 :=
  ClsSt.foldl_free_freeTail _ t

theorem ClsSt.sweepTo_clause {t1 : Nat} (h : i ∈ t.sweepable t1) : (t.sweepTo t1).tab.clause i = (t.clause i).freed :=
  t.foldl_free_clause h

theorem ClsSt.sweepTo_none {t1 : Nat} (h : t.sweepable t1 = []) : (t.sweepTo t1).tab = t := by
  simp [ClsSt.sweepTo, h]

theorem ClsSt.sweepTo_evs {t1 : Nat} (h : t.sweepable t1 ≠ []) : (t.sweepTo t1).evs = [(Ev.CLS_SWEEP_DONE, 0)] := by
  simp [ClsSt.sweepTo, h]

theorem ClsSt.sweepTo_evs_lt (t : ClsSt) (t1 : Nat) : ∀ e ∈ (t.sweepTo t1).evs, e.1 < 256 := by
  by_cases h : t.sweepable t1 = []
  · simp [ClsSt.sweepTo, h]
  · rw [ClsSt.sweepTo_evs h]
    decide

theorem ClsSt.entryOver_iff {k : Nat} {f : FollowPair} (h : t.follow.get none k = some f) : t.entryOver now k = true ↔
    (t.clause (f.leader % 2 ^ 18)).t1 ≤ now ∨ (t.clause (f.follower % 2 ^ 18)).t1 ≤ now := by
  simp [ClsSt.entryOver, h]

end Table

/-! ## What CLS does by itself (R62, R77) -/

section ByItself

variable {s : State} (hw : s.works Blk.CLS)
include hw

theorem exec_automaticSweep_due {now : Nat} (hm : s.flag F.CLS_STATUS_MEM_FAULT = false) (hs : s.isStandby = false)
    (hx : s.expert Blk.CLS = false) (hnow : s.clauseNow = some now)
    (hdue : ∀ k, s.cls.sweptAt = some k → k + s.fld F.CLS_SWEEP_PERIOD_MS * 1000000 ≤ s.mono) :
    exec .automaticSweep s = .next (s.clsCommit { s.cls.sweepTo (now - s.fld F.CLS_RETAIN_RETAIN_MS) with
      tab := { (s.cls.sweepTo (now - s.fld F.CLS_RETAIN_RETAIN_MS)).tab with sweptAt := some s.mono } }) := by
  have hd : dueSince s s.cls.sweptAt (s.fld F.CLS_SWEEP_PERIOD_MS * nsPerMs) = true := by
    cases h : s.cls.sweptAt with
    | none => rfl
    | some k => exact decide_eq_true (hdue k h)
  refine (whileOn_eq _ hw.1 hw.2).trans ?_
  simp only [hnow, hx, hs, show s.clsEnv.fault = false from hm, hd, Bool.or_self, Bool.not_true, Bool.false_eq_true, if_false]

/-- At expert level, or before the period is over, the automatic sweep does nothing. -/
theorem exec_automaticSweep_idle {k : Nat} (h : s.expert Blk.CLS = true ∨
    (s.cls.sweptAt = some k ∧ s.mono < k + s.fld F.CLS_SWEEP_PERIOD_MS * 1000000)) : exec .automaticSweep s = .next s := by
  have hskip : (s.expert Blk.CLS || s.isStandby || s.clsEnv.fault ||
      !dueSince s s.cls.sweptAt (s.fld F.CLS_SWEEP_PERIOD_MS * nsPerMs)) = true := by
    rcases h with hx | ⟨hk, hlt⟩
    · simp [hx]
    · have hd : dueSince s s.cls.sweptAt (s.fld F.CLS_SWEEP_PERIOD_MS * nsPerMs) = false := by
        rw [hk]
        exact decide_eq_false (Nat.not_le.mpr hlt)
      simp [hd]
  refine (whileOn_eq _ hw.1 hw.2).trans ?_
  cases s.clauseNow with
  | none => rfl
  | some now => simp only [hskip, if_true]

theorem exec_followEntryEnd_over {k now : Nat} (hs : s.isStandby = false) (hnow : s.clauseNow = some now)
    (hover : s.cls.entryOver now k = true) : exec (.followEntryEnd k) s = .next (s.setCls (s.cls.endEntry k)) := by
  refine (whileOn_eq _ hw.1 hw.2).trans ?_
  simp only [hnow, hs, hover, Bool.not_false, Bool.and_self, if_true]

end ByItself

theorem exec_clauseTimeNowRead {s : State} (hs : s.running = true) {now : Nat} (hnow : s.clauseNow = some now) :
    exec .clauseTimeNowRead s = .next { s.setFld F.CLS_NOW_HI_NOW_HI (now / 2 ^ 32) with hostRead := BitVec.ofNat 32 now } := by
  change execClauseTimeNowRead s = _
  rw [execClauseTimeNowRead, whileRead_eq _ hs]
  simp only [hnow]

/-! ## The host port (R50, R51, R78) -/

theorem Bytes.toNat_lt (bs : List Byte) : Bytes.toNat bs < 256 ^ bs.length := by
  induction bs with
  | nil => simp [Bytes.toNat]
  | cons b bs ih =>
    have hb : b.toNat < 256 := b.isLt
    rw [Bytes.toNat, List.length_cons, Nat.pow_succ]
    omega

theorem Bytes.at'_lt (bs : List Byte) (off n : Nat) : Bytes.at' bs off n < 256 ^ n :=
  (Bytes.toNat_lt _).trans_le (Nat.pow_le_pow_right (by decide) (List.length_take_le _ _))

/-- A word of a result register, just set. -/
theorem State.fld_setFld_clsRes (s : State) {n : Nat} (hn : n < 16) {v : Nat} (hv : v < 2 ^ 32) :
    (s.setFld (F.CLS_RES_WORD.nth n) v).fld (F.CLS_RES_WORD.nth n) = v := by
  have ha : (F.CLS_RES_WORD.nth n).addr < 0x4000000 := by simp only [Fld.nth, R.CLS_RES]; omega
  exact (s.fldB_setFldB_same 0 (F.CLS_RES_WORD.nth n) v ha (Nat.zero_le 31) (Nat.lt_succ_self 31)).trans (Nat.mod_eq_of_lt hv)

theorem State.fld_setFld_clsRes_other (s : State) {n j : Nat} (hn : n < 16) (hj : j < 16) (h : j ≠ n) (v : Nat) :
    (s.setFld (F.CLS_RES_WORD.nth n) v).fld (F.CLS_RES_WORD.nth j) = s.fld (F.CLS_RES_WORD.nth j) :=
  s.fldB_setFldB_addr v (by simp only [Fld.nth, R.CLS_RES]; omega) (by simp only [Fld.nth, R.CLS_RES]; omega)
    (by simp only [Fld.nth]; omega)

/-- The sixteen words of the result (R78). -/
theorem State.fld_clsHostResult (s : State) (bytes : List Byte) {j : Nat} (hj : j < 16) :
    (s.clsHostResult bytes).fld (F.CLS_RES_WORD.nth j) = Bytes.at' bytes (4 * j) 4 := by
  have hall : ∀ (l : List Nat) (s : State), (∀ n ∈ l, n < 16) →
      (j ∈ l ∨ s.fld (F.CLS_RES_WORD.nth j) = Bytes.at' bytes (4 * j) 4) →
      (l.foldl (fun s n => s.setFld (F.CLS_RES_WORD.nth n) (Bytes.at' bytes (4 * n) 4)) s).fld (F.CLS_RES_WORD.nth j) =
        Bytes.at' bytes (4 * j) 4 := by
    intro l
    induction l with
    | nil => exact fun s _ h => h.resolve_left (List.not_mem_nil)
    | cons n l ih =>
      intro s hl h
      have hn : n < 16 := hl n (by simp)
      refine ih _ (fun m hm => hl m (by simp [hm])) ?_
      by_cases hjn : j = n
      · subst hjn
        exact .inr (s.fld_setFld_clsRes hn (Bytes.at'_lt bytes (4 * j) 4))
      · rw [s.fld_setFld_clsRes_other hn hj hjn]
        simpa [hjn] using h
  exact hall (List.range 16) s (fun n hn => List.mem_range.mp hn) (.inl (List.mem_range.mpr hj))

theorem State.clsHostResult_cls (s : State) (bytes : List Byte) : (s.clsHostResult bytes).cls = s.cls :=
  State.foldl_cls (fun s n => s.setFld_cls (F.CLS_RES_WORD.nth n) _) _ s

/-- DONE of `CLS_STATUS` is no word of the result. -/
theorem State.fld_setFld_done_clsRes (s : State) {j : Nat} (hj : j < 16) (v : Nat) :
    (s.setFld F.CLS_STATUS_DONE v).fld (F.CLS_RES_WORD.nth j) = s.fld (F.CLS_RES_WORD.nth j) :=
  s.fldB_setFldB_addr v (by decide) (by simp only [Fld.nth, R.CLS_RES]; omega) (by simp only [Fld.nth, R.CLS_RES, R.CLS_STATUS]; omega)

theorem exec_clsRow_host {s : State} (hw : s.works Blk.CLS) {k : Nat} (hk : k < 8) (hop : Bytes.at' s.clsHostBytes 0 1 = k + 1) :
    exec (clsRow k .host) s = .next (((s.clsDo (k + 1) (clsDescOf s.clsHostBytes)).1.clsHostResult
      (s.clsDo (k + 1) (clsDescOf s.clsHostBytes)).2.2).setFld F.CLS_STATUS_DONE 1) := by
  rw [exec_clsRow hw .host hk]
  simp only [State.clsAt, State.clsGo, hop, if_true]

/-! ## The obligation -/

/-- Settles O21, clause by clause from the equations of the queries, the sweeps and the host port. -/
theorem clauseQueriesAndSweeps : Obligations.ClauseQueriesAndSweeps := by
  unfold Obligations.ClauseQueriesAndSweeps
  refine ⟨fun s p d hw hm hp hspace hbad href => ?space, fun s p d i hw hm hp href hbad => ?handle,
    fun s p d now hw hm hs hp hnow ht1 hdry hbad => ?sweep, fun s now hw hm hs hx hnow hdue => ?automatic,
    fun s k hw h => exec_automaticSweep_idle hw h, fun s k now f hw hs hnow hf hover => ?entry, fun s k hw hk hop => ?host,
    fun s now hs hnow => ?time⟩
  case space =>
    have hr := (State.clsRun_query (s := s) (op := 6) (d := d) hm (.inl rfl)).trans
      (ClsSt.querySpace_accepted (env := s.clsEnv) hspace hbad href)
    obtain ⟨t, ht, served⟩ := exec_clsRow_served (k := 5) hw hp (by decide) hr (by simp)
    obtain ⟨hsame, hframe⟩ := served.same rfl
    exact ⟨t, ht, hsame, served.out, hframe.mono (by simp) (by simp)⟩
  case handle =>
    have hr := (State.clsRun_query (s := s) (op := 7) (d := d) hm (.inr rfl)).trans (ClsSt.queryHandle_accepted href hbad)
    obtain ⟨t, ht, served⟩ := exec_clsRow_served (k := 6) hw hp (by decide) hr (by simp)
    obtain ⟨hsame, hframe⟩ := served.same rfl
    have hout := served.out
    rw [ClsRes.bytes_congr served.clauses served.chains] at hout
    exact ⟨t, ht, hsame, hout, hframe.mono (by simp) (by simp)⟩
  case sweep =>
    have hr := (State.clsRun_eq (s := s) (op := 8) (d := d) hm hs).trans (ClsSt.sweep_accepted (env := s.clsEnv) hnow ht1 hdry hbad)
    obtain ⟨t, ht, served⟩ := exec_clsRow_served (k := 7) hw hp (by decide) hr (s.cls.sweepTo_evs_lt d.t1)
    exact ⟨t, ht, served.freeTail.trans (s.cls.sweepTo_freeTail d.t1), fun i hi => (served.clause i).trans (ClsSt.sweepTo_clause hi),
      fun h => served.pend (Ev.CLS_SWEEP_DONE, 0) (by simp [ClsSt.sweepTo_evs h]), fun h => (served.same (ClsSt.sweepTo_none h)).1⟩
  case automatic =>
    refine ⟨_, exec_automaticSweep_due hw hm hs hx hnow hdue, ?_⟩
    obtain ⟨near, hcls⟩ := s.clsCommit_cls (o := { s.cls.sweepTo (now - s.fld F.CLS_RETAIN_RETAIN_MS) with
      tab := { (s.cls.sweepTo (now - s.fld F.CLS_RETAIN_RETAIN_MS)).tab with sweptAt := some s.mono } }) (s.cls.sweepTo_evs_lt _)
    rw [hcls]
    exact ⟨s.cls.sweepTo_freeTail _, fun i hi => ClsSt.sweepTo_clause hi⟩
  case entry =>
    refine ⟨_, exec_followEntryEnd_over hw hs hnow ((ClsSt.entryOver_iff hf).mpr hover), ?_⟩
    obtain ⟨near, hcls⟩ := s.setCls_cls (s.cls.endEntry k)
    have hun := s.cls.endEntry_unfollowed k
    rw [hcls]
    exact ⟨ClsSt.endEntry_entry hf, hun.chains, fun i hl hf' => ClsSt.endEntry_clause_other hf hl hf', hun.unmarked _, hun.unmarked _⟩
  case host =>
    refine ⟨_, exec_clsRow_host hw hk hop, ?_, State.flag_setFld_b2n _ _ _ true (by decide) (by decide), fun j hj => ?_⟩
    · exact (State.setFld_cls _ _ _).trans (State.clsHostResult_cls _ _)
    · rw [State.fld_setFld_done_clsRes _ (List.mem_range.mp hj), State.fld_clsHostResult _ _ (List.mem_range.mp hj), State.setFld_cls,
        State.clsHostResult_cls]
      exact congrArg (fun b => Bytes.at' b (4 * j) 4) (ClsRes.bytes_congr rfl rfl _ _)
  case time =>
    refine ⟨_, exec_clauseTimeNowRead hs hnow, rfl, ?_, ?_⟩
    · exact s.fldB_setFldB_same 0 F.CLS_NOW_HI_NOW_HI _ (by decide) (by decide) (by decide)
    · exact ((s.setFldB_frame 0 _ (by decide)).mono (by simp) (by simp)).trans ((State.hostRead_frame _ _).mono (by simp) (by simp))

end Sys2Proof.Machine
end

section
/-!
A footprint of radius 0 off the ground of every zone touches no cell, so the cell test of R66 finds it covered although no clause holds a
cell of it: the check answers INSIDE with no clause passed. CLS then has no clause to grant from and tells AUT UNCONFIRMABLE, AUT revokes
the machine (R104), and CLS holds its clauses valid now (R70). The last theorem refutes O22, whose INSIDE clause has CURRENT alone change.
-/

namespace Sys2Proof.Machine

/-- A solution of machine 0 at the origin, standing still, with H3 0. -/
def pointSolution : SolRec :=
  { mi := 0, qclass := 0, fix := 2, pred := false, static := false, nsat := 20, epoch := 0, nfix := 40, ratio := 30, e := 0, n := 0, u := 0,
    ve := 0, vn := 0, vu := 0, heading := 0, h3 := 0, v3 := 0, refAge := 0, refSrc := 0, lane := 0, qreason := 0, bseq := 0, solveUs := 0,
    hdop := 0, resRms := 0, nstate := 0 }

/-- A segment clause of machine 0 from clause time 0 to 1,000. -/
def pointClause : Clause := { Clause.free with t1 := 1000, hi := 10, held := true }

/-- CLS and AUT are enabled with valid device time at clause time 0, under an image without sections; RADIUS_MM and FIXED_MM are 0,
machine 0 holds one clause, and its solution waits for the check. -/
def State.pointWaits : State :=
  let s := (State.reset.setFld (Blk.en Blk.CLS) 1).setFld (Blk.en Blk.AUT) 1
  let s := (s.setFld F.TIM_STATUS_VALID 1).setFld F.CLS_INFL_FIXED_MM 0
  { s with
    sim := { s.sim with applied := some [] }
    cls := { s.cls with clauses := [(0, pointClause)], chains := [(0, [0])], freeNext := 1 }
    slv := { s.slv with toCheck := [pointSolution] } }

/-- The state after the check. -/
def State.pointChecked : State := (State.pointWaits.setSlv fun v => { v with toCheck := [] }).solApply pointSolution

theorem exec_solutionCheck_pointWaits : exec .solutionCheck State.pointWaits = .next State.pointChecked :=
  whileOn_eq _ rfl (by decide +kernel)

/-- The point is INSIDE, and no clause has passed. -/
theorem check_pointWaits : State.pointWaits.cls.check State.pointWaits.clsMap pointSolution.mi pointSolution.epoch
    (State.pointWaits.inflated pointSolution) (State.pointWaits.standsStill pointSolution) = .inside [] := by decide +kernel

/-- After the check the machine is revoked, and its clause, valid now, has HOLD. -/
theorem pointChecked_held :
    (State.pointChecked.autMach 0).revoked = 1 ∧ (State.pointChecked.cls.clause 0).hold = true := by decide +kernel

/-- Refutes O22: its INSIDE clause lets CURRENT alone change in the machine's clauses, but a point off every zone is INSIDE with no clause
passed, and the revocation that follows sets HOLD in a clause valid now. -/
theorem not_solutionChecks : ¬ Obligations.SolutionChecks := by
  unfold Obligations.SolutionChecks
  intro h
  obtain ⟨hInside, -⟩ := h
  obtain ⟨t, ht, -, -, -, hclauses, -⟩ := hInside State.pointWaits pointSolution [] [] ⟨rfl, by decide +kernel⟩ rfl (by decide +kernel)
    (by decide +kernel) check_pointWaits
  have hsame : State.pointChecked = t := Host.Outcome.next.inj (exec_solutionCheck_pointWaits.symm.trans ht)
  have hfree : (t.cls.clause 0).hold = (State.pointWaits.cls.clause 0).hold := by
    rw [hclauses 0 (by decide)]
  rw [← hsame, pointChecked_held.2] at hfree
  exact absurd hfree (by decide)

end Sys2Proof.Machine
end

section
/-!
How a state goes on under the shared operations (R309, R336, R340): a report frame along which no pending event and nothing that has left
the module is lost. One lemma for each operation; the families below chain them.
-/

namespace Sys2Proof.Machine

/-! ## Fields after a write -/

theorem State.fld_setFld_same (s : State) {f : Fld} (v : Nat) (hf : f.addr < 0x4000000) (hlo : f.lo ≤ f.hi) (hhi : f.hi < 32) :
    (s.setFld f v).fld f = v % 2 ^ (f.hi - f.lo + 1) := s.fldB_setFldB_same 0 f v hf hlo hhi

theorem State.fld_setFld_apart (s : State) {f g : Fld} (v : Nat) (hf : f.addr < 0x4000000) (ha : g.addr = f.addr) (hlo : f.lo ≤ f.hi)
    (hhi : f.hi < 32) (h : g.hi < f.lo ∨ f.hi < g.lo) (hg : g.lo ≤ g.hi) : (s.setFld f v).fld g = s.fld g :=
  s.fldB_setFldB_apart v hf ha hlo hhi h hg

theorem State.fld_setFld_other (s : State) {f g : Fld} (v : Nat) (hf : f.addr < 0x4000000) (hg : g.addr < 0x4000000)
    (h : g.addr ≠ f.addr) : (s.setFld f v).fld g = s.fld g := s.fldB_setFldB_addr v hf hg fun hx => h hx.2

/-- A saturating counter, just counted (R4). -/
theorem State.fld_bump (s : State) {f : Fld} (n : Nat) (hf : f.addr < 0x4000000) (hlo : f.lo ≤ f.hi) (hhi : f.hi < 32) :
    (s.bump f n).fld f = min (s.fld f + n) f.max := by
  refine (s.fld_setFld_same _ hf hlo hhi).trans (Nat.mod_eq_of_lt ?_)
  have hpos : 0 < 2 ^ (f.hi - f.lo + 1) := by positivity
  simp only [Fld.max]
  omega

theorem State.fld_bump_apart (s : State) {f g : Fld} (n : Nat) (hf : f.addr < 0x4000000) (ha : g.addr = f.addr) (hlo : f.lo ≤ f.hi)
    (hhi : f.hi < 32) (h : g.hi < f.lo ∨ f.hi < g.lo) (hg : g.lo ≤ g.hi) : (s.bump f n).fld g = s.fld g :=
  s.fld_setFld_apart _ hf ha hlo hhi h hg

theorem State.fld_bump_other (s : State) {f g : Fld} (n : Nat) (hf : f.addr < 0x4000000) (hg : g.addr < 0x4000000)
    (h : g.addr ≠ f.addr) : (s.bump f n).fld g = s.fld g := s.fld_setFld_other _ hf hg h

theorem State.raise_fld (s : State) {n : Nat} (x : Nat) (hn : n < 256) {f : Fld} (ha : f.addr < 0x4000000)
    (hr : reportReg f.addr = false) : (s.raise n x).fld f = s.fld f := s.raise_fldB x hn 0 ha hr

/-- A field of a register that a report frame does not allow. -/
theorem State.ReportFrame.fldB {regs : List Nat} {parts : List Part} {s t : State} (h : State.ReportFrame regs parts s t) (b : Nat)
    {f : Fld} (ha : f.addr < 0x4000000) (hr : f.addr ∉ regs) (hq : reportReg f.addr = false) : t.fldB b f = s.fldB b f := by
  simp only [State.fldB, h.1 b f.addr ha hr hq]

theorem State.ReportFrame.fld {regs : List Nat} {parts : List Part} {s t : State} (h : State.ReportFrame regs parts s t) {f : Fld}
    (ha : f.addr < 0x4000000) (hr : f.addr ∉ regs) (hq : reportReg f.addr = false) : t.fld f = s.fld f := h.fldB 0 ha hr hq

theorem State.ReportFrame.flag {regs : List Nat} {parts : List Part} {s t : State} (h : State.ReportFrame regs parts s t) {f : Fld}
    (ha : f.addr < 0x4000000) (hr : f.addr ∉ regs) (hq : reportReg f.addr = false) : t.flag f = s.flag f := by
  simp only [State.flag, h.fld ha hr hq]

/-- A field of a register that a frame does not allow. -/
theorem State.Frame.fld {regs : List Nat} {parts : List Part} {s t : State} (h : State.Frame regs parts s t) {f : Fld}
    (hr : f.addr ∉ regs := by decide) (ha : f.addr < 0x4000000 := by decide) : t.fld f = s.fld f :=
  congrArg f.get (h.1 0 f.addr ha hr)

/-- A part that a frame does not allow. -/
theorem State.Frame.same {regs : List Nat} {parts : List Part} {s t : State} (h : State.Frame regs parts s t) (p : Part)
    (hp : p ∉ parts := by decide) : p.same s t := h.2.2 p hp

/-! ## What has left the module stays so -/

/-- Everything that has left the module in `s` has left it in `t`. -/
def State.OutKept (s t : State) : Prop := s.out ⊆ t.out

theorem State.OutKept.refl (s : State) : s.OutKept s := List.Subset.refl _

theorem State.OutKept.trans {s t u : State} (h : s.OutKept t) (k : t.OutKept u) : s.OutKept u := List.Subset.trans h k

theorem State.outKept_of_eq {s t : State} (h : t.out = s.out) : s.OutKept t := by
  rw [State.OutKept, h]
  exact List.Subset.refl _

theorem State.outKept_emit (s : State) (e : Emit) : s.OutKept (s.emit e) := List.subset_cons_self e s.out

theorem State.outKept_bumpB (s : State) (b : Nat) (f : Fld) (n : Nat) : s.OutKept (s.bumpB b f n) :=
  State.outKept_of_eq (s.bumpB_out b f n)

theorem State.outKept_setRing (s : State) (r : Nat) (g : Ring) : s.OutKept (s.setRing r g) := State.outKept_of_eq (s.setRing_out r g)

theorem State.outKept_log (s : State) (l : LogSt) : s.OutKept { s with log := l } := State.outKept_of_eq rfl

theorem State.outKept_evt (s : State) (e : EvtSt) : s.OutKept { s with evt := e } := State.outKept_of_eq rfl

theorem State.outKept_sendVec (s : State) (v : Nat) : s.OutKept (s.sendVec v) := by
  unfold State.sendVec
  split
  · exact State.OutKept.refl s
  · split
    · exact State.outKept_of_eq (s.setFld_out _ _)
    · exact (s.outKept_evt _).trans (State.outKept_emit _ _)

theorem State.outKept_signalVec (s : State) (v : Nat) : s.OutKept (s.signalVec v) := by
  unfold State.signalVec
  split
  · split
    · exact s.outKept_evt _
    · exact s.outKept_sendVec v
  · exact s.outKept_sendVec v

theorem State.outKept_ringNotify (s : State) (r : Nat) : s.OutKept (s.ringNotify r) := by
  unfold State.ringNotify
  split
  · exact (s.outKept_setRing r _).trans (State.outKept_signalVec _ _)
  · exact State.OutKept.refl s

/-- An entry offered to a ring takes nothing back of what has left (R336). -/
theorem State.outKept_ringPut (s : State) (r src : Nat) (p : List Byte) (o : Bool) : s.OutKept (s.ringPut r src p o).1 := by
  unfold State.ringPut
  have h0 : s.OutKept (s.setRing r { s.ring r with rseq := ((s.ring r).rseq + 1) % 2 ^ 32 }) := s.outKept_setRing r _
  generalize hs1 : s.setRing r { s.ring r with rseq := ((s.ring r).rseq + 1) % 2 ^ 32 } = s1 at h0
  have hadv : ∀ (u : State) (g : Ring), s1.OutKept u → s1.OutKept ((u.setRing r g).ringNotify r) := fun u g hu =>
    (hu.trans (u.outKept_setRing r g)).trans (State.outKept_ringNotify _ r)
  have hdrop : ∀ (b : Nat) (f : Fld), s.OutKept (s1.bumpB b f) := fun b f => h0.trans (s1.outKept_bumpB b f 1)
  dsimp only
  rw [hs1]
  split
  · exact hdrop 0 _
  split
  · exact hdrop r _
  split
  · exact hdrop r _
  split
  · split
    · exact hdrop r _
    · exact h0.trans (hadv _ _ ((s1.outKept_emit _).trans (State.outKept_of_eq (State.bar2Write_out _ _ _))))
  · split
    · exact hdrop r _
    · exact h0.trans (hadv _ _ (State.outKept_of_eq (State.bar2Write_out _ _ _)))

theorem State.outKept_logWrite (s : State) (r : LogRec) : s.OutKept (s.logWrite r) := by
  have henter : s.OutKept (s.logEnter r).1 := by
    unfold State.logEnter
    dsimp only
    split
    · exact (s.outKept_log _).trans (State.outKept_bumpB _ 0 _ 1)
    · exact (s.outKept_log _).trans (State.outKept_bumpB _ 0 _ 1)
  unfold State.logWrite
  split <;> rename_i heq <;> rw [heq] at henter
  · refine henter.trans ?_
    unfold State.logOut
    split
    · exact State.outKept_ringPut _ _ _ _ _
    · exact State.OutKept.refl _
  · exact henter

theorem State.outKept_logClose (s : State) (e : LogRepeat) : s.OutKept (s.logClose e) := by
  unfold State.logClose
  exact (s.outKept_log _).trans (State.outKept_logWrite _ _)

theorem State.outKept_logEvent (s : State) (b n a : Nat) (p : List Byte) : s.OutKept (s.logEvent b n a p) := by
  unfold State.logEvent
  split
  · refine (s.outKept_bumpB 0 (F.LOG_CNT_COUNT.nth 1) 1).trans ?_
    dsimp only
    split
    · split
      · exact (State.outKept_log _ _).trans (State.outKept_logClose _ _)
      · exact State.outKept_log _ _
    · split
      · split
        · exact State.outKept_log _ _
        · exact (State.outKept_logClose _ _).trans (State.outKept_log _ _)
      · exact State.outKept_log _ _
  · exact (s.outKept_log _).trans (State.outKept_logWrite _ _)

theorem State.outKept_evtRecord (s : State) (n a : Nat) : s.OutKept (s.evtRecord n a).1 := by
  unfold State.evtRecord
  split
  · exact State.OutKept.refl s
  · have h := (s.outKept_evt { s.evt with eseq := (s.evt.eseq + 1) % 2 ^ 32 }).trans
      (State.outKept_ringPut _ (s.fld F.EVT_RING_RING) Blk.EVT (evtBytes n a s.stamp s.evt.eseq s.evt.lost) true)
    dsimp only
    split <;> rename_i heq <;> replace h := Eq.mp (congrArg s.OutKept (congrArg Prod.fst heq)) h
    · exact h.trans (State.outKept_evt _ _)
    · exact (h.trans (State.outKept_evt _ _)).trans (State.outKept_bumpB _ 0 _ 1)

theorem State.outKept_raiseOnce (s : State) (n a : Nat) (p : List Byte) (l : Bool) : s.OutKept (s.raiseOnce n a p l).1 := by
  unfold State.raiseOnce
  dsimp only
  have hnote : s.OutKept ((s.setFld (pendFld n) 1).noteRaise n) :=
    (State.outKept_of_eq (s.setFld_out (pendFld n) 1)).trans (State.outKept_evt _ _)
  refine hnote.trans ?_
  generalize (s.setFld (pendFld n) 1).noteRaise n = u
  have hrec : u.OutKept (if u.flagB n F.EVT_ROUTE_REC_EN then u.evtRecord n a else (u, false)).1 := by
    split
    · exact u.outKept_evtRecord n a
    · exact State.OutKept.refl u
  refine hrec.trans ?_
  generalize (if u.flagB n F.EVT_ROUTE_REC_EN then u.evtRecord n a else (u, false)).1 = v
  have hvec : v.OutKept (if (v.flagB n F.EVT_ROUTE_HOST_EN && !s.flag (pendFld n)) = true then v.signalVec (v.fldB n F.EVT_ROUTE_VEC) else v) := by
    split
    · exact v.outKept_signalVec _
    · exact State.OutKept.refl v
  refine hvec.trans ?_
  cases l
  · exact State.OutKept.refl _
  · exact State.outKept_logEvent _ _ _ _ _

/-- A raised event takes nothing back of what has left the module. -/
theorem State.outKept_raiseWith (s : State) (n a : Nat) (p : List Byte) (l : Bool) : s.OutKept (s.raiseWith n a p l) := by
  have h := s.outKept_raiseOnce n a p l
  unfold State.raiseWith
  split <;> rename_i u heq <;> rw [heq] at h
  · exact h
  · have again := (h.trans (u.outKept_evt { u.evt with lastLost := some u.mono })).trans
      (State.outKept_raiseOnce _ Ev.EVT_RECORD_LOST 0 [] false)
    dsimp only
    split
    · split
      · exact again
      · exact h
    · split
      · exact again
      · exact h

theorem State.outKept_mirror (s : State) (k : Nat) (m : MirrorBody) (snap : Bool) : s.OutKept (s.mirror k m snap) := by
  unfold State.mirror
  split
  · exact (State.outKept_of_eq rfl).trans (State.outKept_emit _ _)
  · exact State.OutKept.refl s

/-! ## Parts of the state -/

theorem State.aut_frame (s : State) (v : AutSt) : State.Frame [] [.aut] s { s with aut := v } :=
  ⟨fun _ _ _ _ => rfl, fun _ => rfl, fun p hp => by cases p <;> simp_all [Part.same]⟩

theorem State.ahn_frame (s : State) (v : AhnSt) : State.Frame [] [.ahn] s { s with ahn := v } :=
  ⟨fun _ _ _ _ => rfl, fun _ => rfl, fun p hp => by cases p <;> simp_all [Part.same]⟩

theorem State.air_frame (s : State) (v : AirSt) : State.Frame [] [.air] s { s with air := v } :=
  ⟨fun _ _ _ _ => rfl, fun _ => rfl, fun p hp => by cases p <;> simp_all [Part.same]⟩

theorem State.warden_frame (s : State) (v : WardenSt) : State.Frame [] [.warden] s { s with warden := v } :=
  ⟨fun _ _ _ _ => rfl, fun _ => rfl, fun p hp => by cases p <;> simp_all [Part.same]⟩

theorem State.keys_frame (s : State) (v : KeyStore) : State.Frame [] [.keys] s { s with keys := v } :=
  ⟨fun _ _ _ _ => rfl, fun _ => rfl, fun p hp => by cases p <;> simp_all [Part.same]⟩

theorem State.pins_frame (s : State) (v : Pins) : State.Frame [] [.pins] s { s with pins := v } :=
  ⟨fun _ _ _ _ => rfl, fun _ => rfl, fun p hp => by cases p <;> simp_all [Part.same]⟩

theorem State.pwr_frame (s : State) (v : PwrSt) : State.Frame [] [.pwr] s { s with pwr := v } :=
  ⟨fun _ _ _ _ => rfl, fun _ => rfl, fun p hp => by cases p <;> simp_all [Part.same]⟩

theorem State.draw_frame (s : State) : State.Frame [] [.freeCtr] s s.draw.2 :=
  ⟨fun _ _ _ _ => rfl, fun _ => rfl, fun p hp => by cases p <;> simp_all [Part.same, State.draw]⟩

/-! ## Frames, one operation after another -/

theorem State.Frame.add {regs regs' : List Nat} {parts parts' : List Part} {s t u : State} (h : State.Frame regs parts s t)
    (k : State.Frame regs' parts' t u) (hr : ∀ a ∈ regs', a ∈ regs := by decide) (hp : ∀ p ∈ parts', p ∈ parts := by decide) :
    State.Frame regs parts s u := h.trans (k.mono hr hp)

/-- `t` is `s` gone on: within a report frame of registers that report nothing themselves, with every event still pending that was, and
with everything out that was. -/
structure State.Progress (regs : List Nat) (parts : List Part) (s t : State) : Prop where
  quiet : ∀ a ∈ regs, a ∉ ringCfgRegs ∧ reportReg a = false
  frame : State.ReportFrame regs parts s t
  pend : ∀ n < 256, s.pend n = true → t.pend n = true
  out : s.OutKept t

namespace State.Progress

variable {regs regs' : List Nat} {parts parts' : List Part} {s t u : State}

theorem refl (regs : List Nat) (parts : List Part) (s : State)
    (hq : ∀ a ∈ regs, a ∉ ringCfgRegs ∧ reportReg a = false := by decide) : State.Progress regs parts s s :=
  ⟨hq, State.ReportFrame.refl _ _ s, fun _ _ h => h, State.OutKept.refl s⟩

/-- A frame in which nothing that left is lost; reporting may change what reports change. -/
theorem of_frame (h : State.Frame regs parts' s t) (ho : s.OutKept t) (hp : ∀ p ∈ parts', p ∈ parts ∨ p ∈ reportParts := by decide)
    (hq : ∀ a ∈ regs, a ∉ ringCfgRegs ∧ reportReg a = false := by decide) : State.Progress regs parts s t := by
  refine ⟨hq, ⟨fun b a ha hr _ => h.1 b a ha hr, fun a _ => h.2.1 a, fun p h1 h2 => h.2.2 p fun hm => (hp p hm).elim h1 h2⟩,
    fun n hn hs => ?_, ho⟩
  have hreg : (pendFld n).addr ∉ regs := fun hm => by simpa [(pendFld_addr hn).2.1] using (hq _ hm).2
  rw [State.pend, State.flag, State.fld, State.fldB, h.1 0 _ (pendFld_addr hn).1 hreg]
  exact hs

theorem add (h : State.Progress regs parts s t) (k : State.Progress regs' parts' t u) (hr : ∀ a ∈ regs', a ∈ regs := by decide)
    (hp : ∀ p ∈ parts', p ∈ parts := by decide) : State.Progress regs parts s u :=
  ⟨h.quiet, h.frame.trans (fun a ha hm => (h.quiet a hm).1 ha) (k.frame.mono hr hp), fun n hn hs => k.pend n hn (h.pend n hn hs),
    h.out.trans k.out⟩

/-- The same steps, with more allowed. -/
theorem widen (k : State.Progress regs' parts' s t) (hr : ∀ a ∈ regs', a ∈ regs := by decide)
    (hp : ∀ p ∈ parts', p ∈ parts := by decide) (hq : ∀ a ∈ regs, a ∉ ringCfgRegs ∧ reportReg a = false := by decide) :
    State.Progress regs parts s t := (State.Progress.refl regs parts s hq).add k hr hp

theorem foldl {α : Type} {f : State → α → State} (hf : ∀ s a, State.Progress regs parts s (f s a))
    (hq : ∀ a ∈ regs, a ∉ ringCfgRegs ∧ reportReg a = false) (l : List α) (s : State) : State.Progress regs parts s (l.foldl f s) := by
  induction l generalizing s with
  | nil => exact State.Progress.refl _ _ s hq
  | cons a l ih => exact (hf s a).add (ih (f s a)) (fun _ h => h) (fun _ h => h)

theorem fld (h : State.Progress regs parts s t) {f : Fld} (hr : f.addr ∉ regs := by decide) (ha : f.addr < 0x4000000 := by decide)
    (hq : reportReg f.addr = false := by decide) : t.fld f = s.fld f := h.frame.fld ha hr hq

theorem flag (h : State.Progress regs parts s t) {f : Fld} (hr : f.addr ∉ regs := by decide) (ha : f.addr < 0x4000000 := by decide)
    (hq : reportReg f.addr = false := by decide) : t.flag f = s.flag f := h.frame.flag ha hr hq

theorem same (h : State.Progress regs parts s t) (p : Part) (hp : p ∉ parts := by decide) (hq : p ∉ reportParts := by decide) :
    p.same s t := h.frame.2.2 p hp hq

end State.Progress

/-! ## How each operation goes on -/

theorem State.progress_setFld (s : State) (f : Fld) (v : Nat) (ha : f.addr < 0x4000000 := by decide)
    (hq : ∀ a ∈ [f.addr], a ∉ ringCfgRegs ∧ reportReg a = false := by decide) : State.Progress [f.addr] [] s (s.setFld f v) :=
  .of_frame (s.setFldB_frame 0 v ha) (State.outKept_of_eq (s.setFld_out f v)) (by simp) hq

theorem State.progress_bump (s : State) (f : Fld) (n : Nat) (ha : f.addr < 0x4000000 := by decide)
    (hq : ∀ a ∈ [f.addr], a ∉ ringCfgRegs ∧ reportReg a = false := by decide) : State.Progress [f.addr] [] s (s.bump f n) :=
  .of_frame (s.bump_frame f n ha) (State.outKept_of_eq (s.bump_out f n)) (by simp) hq

theorem State.progress_raiseWith (s : State) (n a : Nat) (p : List Byte) (l : Bool) (hn : n < 256 := by decide) :
    State.Progress [] [] s (s.raiseWith n a p l) :=
  ⟨by simp, s.raiseWith_frame a p l hn, fun m hm h => s.pend_raiseWith_of a p l hn hm (.inr h), s.outKept_raiseWith n a p l⟩

theorem State.progress_raise (s : State) (n a : Nat) (hn : n < 256 := by decide) : State.Progress [] [] s (s.raise n a) :=
  s.progress_raiseWith n a [] _ hn

/-- An event just raised is pending. -/
theorem State.pend_raise (s : State) (n a : Nat) (hn : n < 256 := by decide) : (s.raise n a).pend n = true :=
  s.pend_raiseWith_of a [] _ hn hn (.inl rfl)

theorem State.progress_emit (s : State) (e : Emit) : State.Progress [] [] s (s.emit e) :=
  .of_frame (s.emit_frame e) (s.outKept_emit e)

theorem State.progress_mirror (s : State) (k : Nat) (m : MirrorBody) (snap : Bool) : State.Progress [] [.ahn] s (s.mirror k m snap) :=
  .of_frame (s.mirror_frame k m snap) (s.outKept_mirror k m snap)

theorem State.progress_setAut (s : State) (f : AutSt → AutSt) : State.Progress [] [.aut] s (s.setAut f) :=
  .of_frame (s.aut_frame _) (State.outKept_of_eq rfl)

theorem State.progress_setAhn (s : State) (f : AhnSt → AhnSt) : State.Progress [] [.ahn] s (s.setAhn f) :=
  .of_frame (s.ahn_frame _) (State.outKept_of_eq rfl)

theorem State.progress_air (s : State) (v : AirSt) : State.Progress [] [.air] s { s with air := v } :=
  .of_frame (s.air_frame v) (State.outKept_of_eq rfl)

theorem State.progress_draw (s : State) : State.Progress [] [.freeCtr] s s.draw.2 :=
  .of_frame s.draw_frame (State.outKept_of_eq rfl)

/-- The mirror leaves the role: it changes its own sequence and what leaves the module (R309). -/
@[simp] theorem State.mirror_role (s : State) (k : Nat) (m : MirrorBody) (snap : Bool) : (s.mirror k m snap).ahn.role = s.ahn.role := by
  unfold State.mirror
  split <;> rfl

end Sys2Proof.Machine
end

section
/-!
A frame going on air and the path of a stop (R83, R94, R99, R207–R223): what a sent frame, a STOP flood and the settling of the fleet state
leave as it was, and what a FULL STOP source and a COMMA source set.
-/

namespace Sys2Proof.Machine

/-! ## A frame goes on air -/

/-- A frame has left on modem `m` from device time `at'` with its samples, and its airtime is counted. -/
def State.airLeft (s : State) (m at' : Nat) (f : AirFrame) (sig : AirSignal) (blocks : List (List Byte)) (d : SMap (List (Nat × Nat)))
    (e : SMap Nat) : State :=
  { (s.draw.2.emit (.air m (f.stamp at') sig)).emit (.head (s.modemLink m) blocks) with air := { s.air with duty := d, txEnd := e } }

/-- The same, with a STOP counted. -/
def State.airSent (s : State) (m at' : Nat) (f : AirFrame) (sig : AirSignal) (blocks : List (List Byte)) (d : SMap (List (Nat × Nat)))
    (e : SMap Nat) : State :=
  if f.ftype = Ft.STOP then (s.airLeft m at' f sig blocks d e).bump (F.AIR_CNT_COUNT.nth 2) else s.airLeft m at' f sig blocks d e

theorem State.airPut_sent {s : State} {m at' : Nat} {f : AirFrame} (mcs : Nat) (hk : (s.airKey f).isSome = true)
    (htx : s.airTransmits = true) (hup : s.modemUp m = true) : ∃ sig blocks d e, s.airPut m mcs at' f = s.airSent m at' f sig blocks d e := by
  obtain ⟨k, hk⟩ := Option.isSome_iff_exists.mp hk
  simp only [State.airPut, hk, htx, hup, Bool.not_true, Bool.or_self, Bool.false_eq_true, if_false]
  exact ⟨_, _, _, _, rfl⟩

/-- A frame goes on air, or nothing happens: AIR does not transmit, the modem is out of service, or there is no key. -/
theorem State.airPut_cases (s : State) (m mcs at' : Nat) (f : AirFrame) :
    s.airPut m mcs at' f = s ∨ ∃ sig blocks d e, s.airPut m mcs at' f = s.airSent m at' f sig blocks d e := by
  cases hk : s.airKey f with
  | none => exact .inl (by simp only [State.airPut, hk])
  | some k =>
    by_cases hgo : s.airTransmits = true ∧ s.modemUp m = true
    · exact .inr (State.airPut_sent mcs (by rw [hk]; rfl) hgo.1 hgo.2)
    · have hno : (!s.airTransmits || !s.modemUp m) = true := by
        rw [← Bool.not_and, Bool.not_eq_true', ← Bool.not_eq_true, Bool.and_eq_true]
        exact hgo
      exact .inl (by simp only [State.airPut, hk, hno, if_true])

section Sent

variable (s : State) (m at' : Nat) (f : AirFrame) (sig : AirSignal) (blocks : List (List Byte)) (d : SMap (List (Nat × Nat))) (e : SMap Nat)

theorem State.airSent_air : (s.airSent m at' f sig blocks d e).air = { s.air with duty := d, txEnd := e } := by
  unfold State.airSent
  split
  · rw [State.bump_air]; rfl
  · rfl

theorem State.airSent_out : (s.airSent m at' f sig blocks d e).out = .head (s.modemLink m) blocks :: .air m (f.stamp at') sig :: s.out := by
  unfold State.airSent
  split
  · rw [State.bump_out]; rfl
  · rfl

theorem State.airSent_frame : State.Frame [R.AIR_CNT + 8] [.air, .out, .freeCtr] s (s.airSent m at' f sig blocks d e) := by
  have hleft : State.Frame [R.AIR_CNT + 8] [.air, .out, .freeCtr] s (s.airLeft m at' f sig blocks d e) :=
    ((((State.Frame.refl _ _ s).add s.draw_frame).add (State.emit_frame _ _)).add (State.emit_frame _ _)).add (State.air_frame _ _)
  unfold State.airSent
  split
  · exact hleft.add (State.bump_frame _ (F.AIR_CNT_COUNT.nth 2) 1 (by decide))
  · exact hleft

end Sent

/-! ## Sending on control channels (R219, R222) -/

/-- What sending on the control channels changes of AIR: waiting frames, airtime, and the flood sequence. -/
def AirSt.SentFrom (a b : AirSt) : Prop := ∃ w d e q, b = { a with waiting := w, duty := d, txEnd := e, fseq := q }

/-- `t` is `s` after frames were sent or queued on the control channels. -/
structure State.Sends (s t : State) : Prop where
  progress : State.Progress [R.AIR_CNT + 8] [.air, .freeCtr] s t
  air : s.air.SentFrom t.air

theorem State.Sends.refl (s : State) : s.Sends s := ⟨.refl _ _ s, _, _, _, _, rfl⟩

theorem State.Sends.trans {s t u : State} (h : s.Sends t) (k : t.Sends u) : s.Sends u := by
  obtain ⟨_, _, _, _, ha⟩ := h.air
  obtain ⟨_, _, _, _, ka⟩ := k.air
  exact ⟨h.progress.add k.progress, _, _, _, _, by rw [ka, ha]⟩

theorem State.Sends.foldl {α : Type} {f : State → α → State} (hf : ∀ s a, State.Sends s (f s a)) (l : List α) (s : State) :
    s.Sends (l.foldl f s) := by
  induction l generalizing s with
  | nil => exact State.Sends.refl s
  | cons a l ih => exact (hf s a).trans (ih _)

theorem State.sends_airPut (s : State) (m mcs at' : Nat) (f : AirFrame) : s.Sends (s.airPut m mcs at' f) := by
  obtain h | ⟨_, _, _, _, h⟩ := s.airPut_cases m mcs at' f <;> rw [h]
  · exact State.Sends.refl s
  · refine ⟨.of_frame (s.airSent_frame _ _ _ _ _ _ _) ?_, _, _, _, _, s.airSent_air _ _ _ _ _ _ _⟩
    rw [State.OutKept, s.airSent_out]
    exact fun _ he => List.mem_cons_of_mem _ (List.mem_cons_of_mem _ he)

theorem State.sends_draw (s : State) : s.Sends s.draw.2 := ⟨s.progress_draw.widen, _, _, _, _, rfl⟩

theorem State.sends_raise (s : State) (n a : Nat) (hn : n < 256 := by decide) : s.Sends (s.raise n a) :=
  ⟨(s.progress_raise n a hn).widen, _, _, _, _, s.raise_air a hn⟩

theorem State.sends_airWait (s : State) (w : AirWait) : s.Sends (s.airWait w) := ⟨(s.progress_air _).widen, _, _, _, _, rfl⟩

theorem State.sends_airPriority (s : State) (m : Nat) (f : AirFrame) : s.Sends (s.airPriority m f) := by
  unfold State.airPriority
  dsimp only
  split
  · split
    · exact s.sends_draw.trans (State.sends_airPut _ _ _ _ _)
    · exact s.sends_draw.trans (State.sends_airWait _ _)
  · exact s.sends_airWait _

theorem State.sends_stopOn (s : State) (f : AirFrame) (m : Nat) : s.Sends (s.stopOn f m) := by
  unfold State.stopOn
  dsimp only
  split
  · exact State.Sends.refl s
  · exact s.sends_airPriority m f

theorem State.sends_stopFrame (s : State) (tense cause seq : Nat) : s.Sends (s.stopFrame tense cause seq).2 :=
  ⟨(s.progress_air _).widen, _, _, _, _, rfl⟩

/-- A STOP flood changes what sending changes (R219). -/
theorem State.sends_stopFlood (s : State) (tense cause seq : Nat) : s.Sends (s.stopFlood tense cause seq).2 := by
  simp only [State.stopFlood]
  split
  · exact ((s.sends_stopFrame tense cause seq).trans (.foldl (fun s m => s.sends_stopOn _ m) _ _)).trans (State.sends_raise _ _ _)
  · exact State.Sends.refl s

theorem State.progress_airTruncate (s : State) : State.Progress [] [] s s.airTruncate :=
  .foldl (fun s m => s.progress_emit (.airTruncated m)) (by decide) _ s

/-! ## The path of a stop (R99) -/

/-- What the path of a stop changes of AUT: the sealed block, the beacon on air, and the stop frames to repeat. -/
def AutSt.StoppedFrom (a b : AutSt) : Prop := ∃ v w l, b = { a with sealed := v, onAir := w, stopRepeats := l }

/-- `t` is `s` after the path of a stop or less of it. -/
structure State.Stops (s t : State) : Prop where
  progress : State.Progress [R.AUT_BEACON, R.AIR_CNT + 8] [.aut, .air, .ahn, .freeCtr] s t
  air : s.air.SentFrom t.air
  aut : s.aut.StoppedFrom t.aut

theorem State.Stops.refl (s : State) : s.Stops s := ⟨.refl _ _ s, ⟨_, _, _, _, rfl⟩, _, _, _, rfl⟩

theorem State.Stops.trans {s t u : State} (h : s.Stops t) (k : t.Stops u) : s.Stops u := by
  obtain ⟨_, _, _, _, ha⟩ := h.air
  obtain ⟨_, _, _, _, ka⟩ := k.air
  obtain ⟨_, _, _, hb⟩ := h.aut
  obtain ⟨_, _, _, kb⟩ := k.aut
  exact ⟨h.progress.add k.progress, ⟨_, _, _, _, by rw [ka, ha]⟩, _, _, _, by rw [kb, hb]⟩

/-- An operation that leaves AUT and AIR alone. -/
theorem State.Progress.stops {regs : List Nat} {parts : List Part} {s t : State} (h : State.Progress regs parts s t)
    (hr : ∀ a ∈ regs, a ∈ [R.AUT_BEACON, R.AIR_CNT + 8] := by decide) (hp : ∀ p ∈ parts, p ∈ [Part.ahn, .freeCtr] := by decide) :
    s.Stops t := by
  have hair : t.air = s.air := h.same .air (fun hm => absurd (hp _ hm) (by decide))
  have haut : t.aut = s.aut := h.same .aut (fun hm => absurd (hp _ hm) (by decide))
  exact ⟨h.widen hr (fun p hm => by have := hp p hm; revert this; cases p <;> decide), ⟨_, _, _, _, hair⟩, _, _, _, haut⟩

theorem State.Sends.stops {s t : State} (h : s.Sends t) : s.Stops t :=
  ⟨h.progress.widen, h.air, _, _, _, h.progress.same .aut⟩

theorem State.stops_setAut (s : State) {f : AutSt → AutSt} (h : s.aut.StoppedFrom (f s.aut)) : s.Stops (s.setAut f) :=
  ⟨(s.progress_setAut f).widen, ⟨_, _, _, _, rfl⟩, h⟩

/-- The path of a stop to the air. -/
theorem State.stops_stopPath (s : State) (tense : Nat) : s.Stops (s.stopPath tense) := by
  have hseal : ∀ b : TokenBlock, s.Stops (((s.setAut fun a => { a with sealed := some b }).setFld F.AUT_BEACON_TENSE tense).mirror 0
      (.token b)) := fun b =>
    ((s.stops_setAut ⟨_, _, _, rfl⟩).trans (State.progress_setFld _ _ _).stops).trans (State.progress_mirror _ _ _ _).stops
  have hcut : ∀ u : State, u.Stops ((u.setAut fun a => { a with onAir := none }).setFld F.AUT_BEACON_TRUNC 1).airTruncate := fun u =>
    ((u.stops_setAut ⟨_, _, _, rfl⟩).trans (State.progress_setFld _ _ _).stops).trans (State.progress_airTruncate _).stops
  unfold State.stopPath
  extract_lets cause resealed s1 seq cut s2
  have h1 : s.Stops s1 := by
    cases hb : resealed with
    | none => simpa only [s1, hb] using State.Stops.refl s
    | some b => simpa only [s1, hb] using hseal b
  have h2 : s1.Stops s2 := by
    cases hc : cut with
    | false => simpa only [s2, hc, Bool.false_eq_true, if_false] using State.Stops.refl s1
    | true => simpa only [s2, hc, if_true] using hcut s1
  exact ((h1.trans h2).trans (s2.sends_stopFlood tense cause seq).stops).trans (State.stops_setAut _ ⟨_, _, _, rfl⟩)

/-! ## The fleet state settles (R94) -/

/-- The fleet state depends on AUT's latch, its COMMA sources, and on EN and HOST. -/
theorem State.fleetState_eq (s : State) : s.fleetState =
    if s.blkOn Blk.AUT = false then 0 else if s.aut.fsLatch = true then Tense.FULL_STOP
    else if (s.flag F.AUT_COMMA_HOST || s.aut.commaPin || s.aut.commaAge || s.aut.commaRearm || s.aut.commaTest) = true then Tense.COMMA
    else Tense.RUN := by
  simp only [State.fleetState, State.commaActive]
  cases s.blkOn Blk.AUT <;> rfl

/-- AUT's tense is the fleet state; CCAUSE ends with RUN (R83). -/
def State.tensed (s : State) : State :=
  s.setAut fun a => { a with tense := s.fleetState, ccause := if s.fleetState = Tense.RUN then 0 else a.ccause }

theorem State.stops_autMirror (s : State) (snap : Bool) : s.Stops (s.autMirror snap) := (s.progress_mirror _ _ _).stops

/-- As the fleet state settles, AUT takes it and the rest is the path of a stop, events and AUTSTATE. -/
theorem State.stops_autSettle (s : State) : s.tensed.Stops s.autSettle := by
  have hraise : ∀ (u : State) (c : Bool) (n a : Nat), n < 256 → u.Stops (if c = true then u.raise n a else u) := fun u c n a hn => by
    split
    · exact (u.progress_raise n a hn).stops
    · exact State.Stops.refl u
  have hpath : ∀ (u : State) (c : Bool) (n : Nat), u.Stops (if c = true then u.stopPath n else u) := fun u c n => by
    split
    · exact u.stops_stopPath n
    · exact State.Stops.refl u
  exact (((hraise s.tensed _ _ _ (by decide)).trans (hraise _ _ _ _ (by decide))).trans (hpath _ _ _)).trans (State.stops_autMirror _ _)

theorem State.progress_autSettle (s : State) :
    State.Progress [R.AUT_BEACON, R.AIR_CNT + 8] [.aut, .air, .ahn, .freeCtr] s s.autSettle :=
  ((State.Progress.refl _ _ s).add (s.progress_setAut _)).add s.stops_autSettle.progress

end Sys2Proof.Machine
end

section
/-!
The sources of FULL STOP and of COMMA (R94–R98): what a source that becomes active sets, and what stays where the latch is already set.
The last theorem settles O14.
-/

namespace Sys2Proof.Machine

/-! ## The fleet state while AUT goes on -/

/-- What of AUT the fleet state depends on. -/
def AutSt.sources (a : AutSt) : Bool × Bool × Bool × Bool × Bool := (a.fsLatch, a.commaPin, a.commaAge, a.commaRearm, a.commaTest)

theorem State.fleetState_congr {s t : State} (hen : t.blkOn Blk.AUT = s.blkOn Blk.AUT) (hhost : t.flag F.AUT_COMMA_HOST = s.flag F.AUT_COMMA_HOST)
    (haut : t.aut.sources = s.aut.sources) : t.fleetState = s.fleetState := by
  simp only [AutSt.sources, Prod.mk.injEq] at haut
  obtain ⟨hl, hp, ha, hr, ht⟩ := haut
  rw [s.fleetState_eq, t.fleetState_eq, hen, hhost, hl, hp, ha, hr, ht]

theorem State.Stops.fleetState {s t : State} (h : s.Stops t) : t.fleetState = s.fleetState := by
  obtain ⟨_, _, _, ha⟩ := h.aut
  exact State.fleetState_congr h.progress.flag h.progress.flag (by rw [ha]; rfl)

theorem State.tensed_fleetState (s : State) : s.tensed.fleetState = s.fleetState := State.fleetState_congr rfl rfl rfl

/-- `t` is `s` with its fleet state settled: AUT takes the fleet state, and a stop has gone its path. -/
structure State.Settles (s t : State) : Prop where
  progress : State.Progress [R.AUT_BEACON, R.AIR_CNT + 8] [.aut, .air, .ahn, .freeCtr] s t
  air : s.air.SentFrom t.air
  aut : ∃ n c v w l, t.aut = { s.aut with tense := n, ccause := c, sealed := v, onAir := w, stopRepeats := l } ∧
    (s.fleetState ≠ Tense.RUN → c = s.aut.ccause)
  fleet : t.fleetState = s.fleetState

theorem State.settles_autSettle (s : State) : s.Settles s.autSettle := by
  obtain ⟨v, w, l, ha⟩ := s.stops_autSettle.aut
  exact ⟨s.progress_autSettle, s.stops_autSettle.air, ⟨_, _, v, w, l, ha, fun h => if_neg h⟩,
    s.stops_autSettle.fleetState.trans s.tensed_fleetState⟩

theorem State.Settles.sources {s t : State} (h : s.Settles t) : t.aut.sources = s.aut.sources := by
  obtain ⟨_, _, _, _, _, ha, -⟩ := h.aut
  rw [ha]
  rfl

theorem State.Settles.fsLatch {s t : State} (h : s.Settles t) : t.aut.fsLatch = s.aut.fsLatch := congrArg Prod.fst h.sources

theorem State.fleetState_latched {s : State} (hon : s.blkOn Blk.AUT = true) (hl : s.aut.fsLatch = true) :
    s.fleetState = Tense.FULL_STOP := by
  rw [s.fleetState_eq, hon, hl]
  rfl

/-! ## A FULL STOP source (R95, R107) -/

/-- A source that becomes active abandons a re-arm. -/
def State.rearmAbandoned (s : State) : State :=
  s.setAut fun a => { a with rearmVoid := a.rearmVoid || a.rearmKey.isSome, rearmKey := none }

theorem State.rearmAbandoned_fcause (s : State) : s.rearmAbandoned.aut.fcause = s.aut.fcause := rfl

/-- The latch is set by the source of `cause`. -/
def State.stopLatched (s : State) (cause : Nat) : State := s.rearmAbandoned.setAut fun a => { a with fsLatch := true, fcause := cause }

theorem State.fsSource_latched {s : State} (hl : s.aut.fsLatch = true) (cause : Nat) : s.fsSource cause = s.rearmAbandoned.autMirror :=
  if_pos (by
    change (!s.blkOn Blk.AUT || s.aut.fsLatch) = true
    rw [hl, Bool.or_true])

theorem State.fsSource_unlatched {s : State} (hon : s.blkOn Blk.AUT = true) (hl : s.aut.fsLatch = false) (cause : Nat) :
    s.fsSource cause = ((s.stopLatched cause).raise Ev.AUT_FULL_STOP cause).autSettle :=
  if_neg (by
    change ¬ (!s.blkOn Blk.AUT || s.aut.fsLatch) = true
    rw [hon, hl]
    decide)

/-- `t` is `s` with the latch just set by the source of `cause`. -/
structure State.StopSet (cause : Nat) (s t : State) : Prop where
  latch : t.aut.fsLatch = true
  cause : t.aut.fcause = cause
  fsAir : t.aut.fsAir = s.aut.fsAir
  fleet : t.fleetState = Tense.FULL_STOP
  pend : t.pend Ev.AUT_FULL_STOP = true
  progress : State.Progress [R.AUT_BEACON, R.AIR_CNT + 8] [.aut, .air, .ahn, .freeCtr] s t
  air : s.air.SentFrom t.air

theorem State.stopSet_fsSource {s : State} (hon : s.blkOn Blk.AUT = true) (hl : s.aut.fsLatch = false) (cause : Nat) :
    State.StopSet cause s (s.fsSource cause) := by
  rw [State.fsSource_unlatched hon hl]
  have hlatched : State.Progress [] [.aut] s (s.stopLatched cause) := (s.progress_setAut _).add (State.progress_setAut _ _)
  have hraise := (s.stopLatched cause).progress_raise Ev.AUT_FULL_STOP cause
  have hset := ((s.stopLatched cause).raise Ev.AUT_FULL_STOP cause).settles_autSettle
  have hair := hset.air
  have haut : ((s.stopLatched cause).raise Ev.AUT_FULL_STOP cause).aut = (s.stopLatched cause).aut := State.raise_aut _ _ (by decide)
  obtain ⟨_, _, _, _, _, ha, -⟩ := hset.aut
  rw [haut] at ha
  have hpend : ((s.stopLatched cause).raise Ev.AUT_FULL_STOP cause).pend Ev.AUT_FULL_STOP = true :=
    (s.stopLatched cause).pend_raise _ cause
  have hlatch : ((s.stopLatched cause).raise Ev.AUT_FULL_STOP cause).aut.fsLatch = true := by rw [haut]; rfl
  refine ⟨hset.fsLatch.trans hlatch, ?_, ?_, hset.fleet.trans (State.fleetState_latched (hraise.flag.trans (hlatched.flag.trans hon)) hlatch),
    hset.progress.pend _ (by decide) hpend, ((State.Progress.refl _ _ s).add hlatched |>.add hraise).add hset.progress, ?_⟩
  · rw [ha]
    rfl
  · rw [ha]
    rfl
  · rw [State.raise_air _ _ (by decide)] at hair
    exact hair

/-- After a FULL STOP source the latch is set, whether it was before or not. -/
theorem State.fsSource_fsLatch {s : State} (hon : s.blkOn Blk.AUT = true) (cause : Nat) : (s.fsSource cause).aut.fsLatch = true := by
  cases hl : s.aut.fsLatch with
  | true =>
    rw [State.fsSource_latched hl]
    exact (congrArg AutSt.fsLatch (State.mirror_aut _ _ _ _)).trans hl
  | false => exact (State.stopSet_fsSource hon hl cause).latch

theorem State.fsSource_latched_frame {s : State} (hl : s.aut.fsLatch = true) (cause : Nat) :
    State.Frame [] [.aut, .ahn, .out] s (s.fsSource cause) := by
  rw [State.fsSource_latched hl]
  exact ((State.Frame.refl _ _ s).add (s.aut_frame _)).add (State.mirror_frame _ _ _ _)

/-- A FULL STOP source goes on from the state, latched or not. -/
theorem State.progress_fsSource {s : State} (hon : s.blkOn Blk.AUT = true) (cause : Nat) :
    State.Progress [R.AUT_BEACON, R.AIR_CNT + 8] [.aut, .air, .ahn, .freeCtr] s (s.fsSource cause) := by
  cases hl : s.aut.fsLatch with
  | true =>
    rw [State.fsSource_latched hl]
    exact ((State.Progress.refl _ _ s).add (s.progress_setAut _)).add (State.progress_mirror _ _ _ _)
  | false => exact (State.stopSet_fsSource hon hl cause).progress

/-! ## Registers of AUT that the host writes (R311) -/

/-- A write that a mirrored register without entries accepts, on a module that is not a standby. -/
theorem State.hostReg_stored {s t : State} {d : RegDesc} {w : Word} (hd : Regs.descAt d.addr = some d) (hb : d.bank = none)
    (hm : mirroredReg d = true) (hst : s.isStandby = false) (hr : s.regStore d 0 0 w = (t, true)) :
    ∃ k m, s.hostReg d.addr w = (t.mirror k m, true) := by
  rw [State.hostReg, hd]
  simp only [Nat.sub_self, Nat.zero_div, s.bankOf_none hb]
  exact ⟨_, _, State.regWrite_mirrored hm hst hr⟩

/-- `AUT_DISC` as a host access sees it. -/
def autDiscDesc : RegDesc := ⟨R.AUT_DISC, 1, none, [⟨F.AUT_DISC_DISC, .w1c, .any⟩], 0xFFFF0003⟩

theorem descAt_autDisc : Regs.descAt R.AUT_DISC = some autDiscDesc := by decide +kernel

/-- `AUT_FSTOP` as a host access sees it. -/
def autFstopDesc : RegDesc :=
  ⟨R.AUT_FSTOP, 1, none, [⟨F.AUT_FSTOP_AIR_EN, .rw, .any⟩, ⟨F.AUT_FSTOP_HOST, .rw, .any⟩], 0x101⟩

theorem descAt_autFstop : Regs.descAt R.AUT_FSTOP = some autFstopDesc := by decide +kernel

/-- DISC clears by a write of 1 (R96). -/
theorem State.hostReg_disc {s : State} (hst : s.isStandby = false) :
    ∃ k m, s.hostReg R.AUT_DISC 1#32 = ((s.setFld F.AUT_DISC_DISC 0).mirror k m, true) := by
  have hr : s.regStore autDiscDesc 0 0 1#32 = (s.setFld F.AUT_DISC_DISC 0, true) := by
    rw [State.regStore_w1c s (f := F.AUT_DISC_DISC) (r := .any) rfl]
    exact congrArg (fun v => (s.setFld F.AUT_DISC_DISC v, true)) (Nat.and_zero _)
  exact State.hostReg_stored (d := autDiscDesc) descAt_autDisc rfl (by decide) hst hr

/-- The fields of `AUT_FSTOP` take every value. -/
theorem State.regStore_fstop (s : State) (w : Word) :
    s.regStore autFstopDesc 0 0 w =
      ((s.setFld F.AUT_FSTOP_AIR_EN (F.AUT_FSTOP_AIR_EN.get w)).setFld F.AUT_FSTOP_HOST (F.AUT_FSTOP_HOST.get w), true) := by
  simp [State.regStore, autFstopDesc, RegDesc.fieldsAt, Fld.nth, State.fieldWrite, State.inRange, State.rangeHolds, State.setFld]

/-- HOST of `AUT_FSTOP` is each module's own: a standby, which ignores the rest of the write, takes it too (R311). -/
theorem State.hostReg_fstop (s : State) (w : Word) : ∃ t, s.hostReg R.AUT_FSTOP w = (t, true) ∧
    t.fld F.AUT_FSTOP_HOST = F.AUT_FSTOP_HOST.get w ∧ State.Progress [R.AUT_FSTOP, R.AHN_CNT + 8] [.ahn] s t := by
  have hfits : F.AUT_FSTOP_HOST.get w % 2 ^ (F.AUT_FSTOP_HOST.hi - F.AUT_FSTOP_HOST.lo + 1) = F.AUT_FSTOP_HOST.get w :=
    Nat.mod_eq_of_lt (Nat.mod_lt _ (by decide))
  cases hst : s.isStandby with
  | false =>
    obtain ⟨k, m, h⟩ := State.hostReg_stored (d := autFstopDesc) descAt_autFstop rfl (by decide) hst (s.regStore_fstop w)
    refine ⟨_, h, ?_, ((State.Progress.refl _ _ s |>.add (State.progress_setFld _ _ _)).add (State.progress_setFld _ _ _)).add
      (State.progress_mirror _ _ _ _)⟩
    rw [State.mirror_fld, State.fld_setFld_same _ _ (by decide) (by decide) (by decide), hfits]
  | true =>
    refine ⟨(s.bump (F.AHN_CNT_COUNT.nth 2)).setFld F.AUT_FSTOP_HOST (F.AUT_FSTOP_HOST.get w), ?_, ?_,
      (State.Progress.refl _ _ s |>.add (State.progress_bump _ (F.AHN_CNT_COUNT.nth 2) 1)).add (State.progress_setFld _ _ _)⟩
    · have hm : mirroredReg autFstopDesc = true := by decide
      rw [State.hostReg, descAt_autFstop]
      simp only [State.regWrite, hm, hst, if_true]
      rfl
    · rw [State.fld_setFld_same _ _ (by decide) (by decide) (by decide), hfits]

/-! ## The commands of the FULL STOP sources -/

theorem State.pins_progress (s : State) (v : Pins) : State.Progress [] [.pins] s { s with pins := v } :=
  .of_frame (s.pins_frame v) (State.outKept_of_eq rfl)

/-- STOP_A_N, or STOP_B_N where `b`, is low or not. -/
def Pins.setStop (p : Pins) (b low : Bool) : Pins := if b then { p with stopBLow := low } else { p with stopALow := low }

theorem Pins.setStop_get (p : Pins) (b low : Bool) :
    (if b then (p.setStop b low).stopBLow else (p.setStop b low).stopALow) = low := by
  cases b <;> rfl

/-- An asserted stop input before the source acts. -/
def State.stopInputLow (s : State) (b : Bool) : State := { s with pins := s.pins.setStop b true }.setFld F.AUT_DISC_RELEASED 0

section StopInputLow

variable (s : State) (b : Bool)

theorem State.stopInputLow_progress : State.Progress [R.AUT_DISC] [.pins] s (s.stopInputLow b) :=
  ((State.Progress.refl _ _ s).add (s.pins_progress _)).add (State.progress_setFld _ _ _)

theorem State.stopInputLow_frame : State.Frame [R.AUT_DISC] [.pins] s (s.stopInputLow b) :=
  ((State.Frame.refl _ _ s).add (s.pins_frame _)).add (State.setFldB_frame _ 0 _ (by decide))

theorem State.stopInputLow_aut : (s.stopInputLow b).aut = s.aut := State.setFld_aut _ _ _

theorem State.stopInputLow_pins : (if b then (s.stopInputLow b).pins.stopBLow else (s.stopInputLow b).pins.stopALow) = true := by
  rw [State.stopInputLow, State.setFld_pins]
  exact s.pins.setStop_get b true

theorem State.stopInputLow_released : (s.stopInputLow b).flag F.AUT_DISC_RELEASED = false :=
  State.flag_setFld_b2n _ R.AUT_DISC _ false (by decide) (by decide)

end StopInputLow

theorem State.draw_fld (s : State) (f : Fld) : s.draw.2.fld f = s.fld f := rfl

theorem State.draw_pend (s : State) (n : Nat) : s.draw.2.pend n = s.pend n := rfl

/-- A discrepancy before the source acts: DISC, its count and event 71. -/
def State.discSet (s : State) : State := (((s.setFld F.AUT_DISC_DISC 1).bump F.AUT_DISC_COUNT).raise Ev.AUT_STOP_DISC 0).draw.2

section DiscSet

variable (s : State)

theorem State.discSet_progress : State.Progress [R.AUT_DISC] [.freeCtr] s s.discSet :=
  ((((State.Progress.refl _ _ s).add (s.progress_setFld _ _)).add (State.progress_bump _ _ _)).add (State.progress_raise _ _ _)).add
    (State.progress_draw _)

theorem State.discSet_disc : s.discSet.flag F.AUT_DISC_DISC = true := by
  have hset : (s.setFld F.AUT_DISC_DISC 1).flag F.AUT_DISC_DISC = true := s.flag_setFld_b2n R.AUT_DISC _ true (by decide) (by decide)
  have hfld : s.discSet.fld F.AUT_DISC_DISC = (s.setFld F.AUT_DISC_DISC 1).fld F.AUT_DISC_DISC :=
    ((State.draw_fld _ _).trans (State.raise_fld _ 0 (by decide) (by decide) (by decide))).trans
      (State.fld_bump_apart _ (f := F.AUT_DISC_COUNT) 1 (by decide) rfl (by decide) (by decide) (by decide) (by decide))
  rw [State.flag, hfld]
  exact hset

theorem State.discSet_count : s.discSet.fld F.AUT_DISC_COUNT = min (s.fld F.AUT_DISC_COUNT + 1) 65535 := by
  have hfld : s.discSet.fld F.AUT_DISC_COUNT = ((s.setFld F.AUT_DISC_DISC 1).bump F.AUT_DISC_COUNT).fld F.AUT_DISC_COUNT :=
    (State.draw_fld _ _).trans (State.raise_fld _ 0 (by decide) (by decide) (by decide))
  rw [hfld, State.fld_bump _ _ (by decide) (by decide) (by decide),
    s.fld_setFld_apart (f := F.AUT_DISC_DISC) (g := F.AUT_DISC_COUNT) 1 (by decide) rfl (by decide) (by decide) (by decide) (by decide)]
  rfl

theorem State.discSet_pend : s.discSet.pend Ev.AUT_STOP_DISC = true :=
  (State.draw_pend _ _).trans
    (((s.setFld F.AUT_DISC_DISC 1).bump F.AUT_DISC_COUNT).pend_raise _ 0)

end DiscSet

section StopCommands

variable {s : State} (hw : s.works Blk.AUT)
include hw

theorem exec_stopInputAssert (b : Bool) : exec (.stopInputAssert b) s =
    .next ((s.stopInputLow b).fsSource (if b then 2 else 1)) := by
  have hon : (s.stopInputLow b).blkOn Blk.AUT = true := (s.stopInputLow_progress b).flag.trans hw.2
  refine (whileRunning_eq (s := { s with pins := s.pins.setStop b true }) _ hw.1).trans ?_
  exact congrArg Host.Outcome.next (if_pos hon)

theorem exec_stopInputRelease (b : Bool) : exec (.stopInputRelease b) s = .next { s with pins := s.pins.setStop b false }.autMirror := by
  refine (whileRunning_eq (s := { s with pins := s.pins.setStop b false }) _ hw.1).trans ?_
  exact congrArg Host.Outcome.next (if_pos hw.2)

theorem exec_stopDiscrepancy (h : s.pins.stopALow ≠ s.pins.stopBLow) : ∃ c, exec .stopDiscrepancy s =
    .next (s.discSet.fsSource c) :=
  ⟨_, (whileOn_eq _ hw.1 hw.2).trans (congrArg Host.Outcome.next (if_neg (by simpa using h)))⟩

theorem exec_stopInputsReleased (ha : s.pins.stopALow = false) (hb : s.pins.stopBLow = false) :
    exec .stopInputsReleased s = .next (s.setFld F.AUT_DISC_RELEASED 1) :=
  (whileOn_eq _ hw.1 hw.2).trans (congrArg Host.Outcome.next (if_neg (by simp [ha, hb])))

theorem exec_discClear (hst : s.isStandby = false) (hr : s.flag F.AUT_DISC_RELEASED = true) :
    ∃ k m, exec .discClear s = .next ((s.setFld F.AUT_DISC_DISC 0).mirror k m).autMirror := by
  obtain ⟨k, m, h⟩ := State.hostReg_disc hst
  refine ⟨k, m, (whileRunning_eq _ hw.1).trans ?_⟩
  simp only [State.discWrite, hst, hr, h, thenIf, Bool.not_true, Bool.false_eq_true, if_false, if_true]

theorem exec_discClear_unreleased (hst : s.isStandby = false) (hr : s.flag F.AUT_DISC_RELEASED = false) : exec .discClear s = .next s := by
  refine (whileRunning_eq _ hw.1).trans ?_
  simp only [State.discWrite, hst, hr, Bool.not_false, Bool.false_eq_true, if_false, if_true]

/-- A write of HOST: the latch follows where it has just gone to 1. -/
theorem exec_hostFullStop (on : Bool) : ∃ t, t.flag F.AUT_FSTOP_HOST = on ∧ t.blkOn Blk.AUT = true ∧
    State.Progress [R.AUT_FSTOP, R.AHN_CNT + 8] [.ahn] s t ∧
    exec (.hostFullStop on) s = .next (if on && !s.flag F.AUT_FSTOP_HOST then t.fsSource 3 else t.autMirror) := by
  obtain ⟨t, ht, hhost, hp⟩ := s.hostReg_fstop (F.AUT_FSTOP_HOST.put (s.reg R.AUT_FSTOP) (b2n on))
  have hflag : t.flag F.AUT_FSTOP_HOST = on := by
    rw [State.flag, hhost, Fld.get_put_same _ _ _ (by decide) (by decide)]
    cases on <;> decide
  have hon : t.blkOn Blk.AUT = true := hp.flag.trans hw.2
  refine ⟨t, hflag, hon, hp, (whileRunning_eq _ hw.1).trans ?_⟩
  simp only [State.fstopWrite, ht, thenIf, hon, hflag, Bool.not_true, Bool.false_eq_true, if_false, if_true]

end StopCommands

/-! ## The obligation -/

/-- Settles O14: a source sets the latch through `fsSource`, and an end of a source only tells the partner. -/
theorem fullStopSources : Obligations.FullStopSources := by
  unfold Obligations.FullStopSources
  refine ⟨fun s b hw hl => ?assert, fun s b hw hl => ?further, fun s b hw => ?release, fun s hw hl hne => ?discrepancy,
    fun s hw ha hb => ?released, fun s hw hst hr => ?clear, fun s hw hst hr => exec_discClear_unreleased hw hst hr,
    fun s hw hl hh => ?host, fun s hw => ?hostOff⟩
  case assert =>
    have hp := s.stopInputLow_progress b
    have h := State.stopSet_fsSource (hp.flag.trans hw.2) ((congrArg AutSt.fsLatch (s.stopInputLow_aut b)).trans hl) (if b then 2 else 1)
    have hpins := h.progress.same .pins
    refine ⟨_, exec_stopInputAssert hw b, h.latch, h.fleet, h.cause, ?_, h.progress.flag.trans (s.stopInputLow_released b), h.pend,
      (((State.Progress.refl [R.AUT_DISC, R.AUT_BEACON, R.AIR_CNT + 8] [.pins, .aut, .air, .ahn, .freeCtr] s).add hp).add h.progress).frame⟩
    rw [hpins]
    exact s.stopInputLow_pins b
  case further =>
    have hl' : (s.stopInputLow b).aut.fsLatch = true := (congrArg AutSt.fsLatch (s.stopInputLow_aut b)).trans hl
    have haut : ((s.stopInputLow b).fsSource (if b then 2 else 1)).aut = (s.stopInputLow b).rearmAbandoned.aut := by
      rw [State.fsSource_latched hl', State.autMirror, State.mirror_aut]
    refine ⟨_, exec_stopInputAssert hw b, ?_, ?_, ?_,
      ((State.Frame.refl _ _ s).add (s.stopInputLow_frame b)).add (State.fsSource_latched_frame hl' _)⟩
    · exact (congrArg AutSt.fsLatch haut).trans hl'
    · exact ((congrArg AutSt.fcause haut).trans (State.rearmAbandoned_fcause _)).trans (congrArg AutSt.fcause (s.stopInputLow_aut b))
    · exact congrArg AutSt.rearmKey haut
  case release =>
    refine ⟨_, exec_stopInputRelease hw b, ?_, State.mirror_aut _ _ _ _,
      ((State.Frame.refl _ _ s).add (s.pins_frame _)).add (State.mirror_frame _ _ _ _)⟩
    rw [State.autMirror, State.mirror_pins]
    exact s.pins.setStop_get b false
  case discrepancy =>
    obtain ⟨c, ht⟩ := exec_stopDiscrepancy hw hne
    have hp := s.discSet_progress
    have h := State.stopSet_fsSource (hp.flag.trans hw.2) ((congrArg AutSt.fsLatch (hp.same .aut)).trans hl) c
    exact ⟨_, ht, h.progress.flag.trans s.discSet_disc, h.progress.fld.trans s.discSet_count, h.latch,
      h.progress.pend _ (by decide) s.discSet_pend,
      (((State.Progress.refl [R.AUT_DISC, R.AUT_BEACON, R.AIR_CNT + 8] [.aut, .air, .ahn, .freeCtr] s).add hp).add h.progress).frame⟩
  case released =>
    refine ⟨_, exec_stopInputsReleased hw ha hb, State.flag_setFld_b2n _ R.AUT_DISC _ true (by decide) (by decide), ?_,
      s.setFldB_frame 0 (f := F.AUT_DISC_RELEASED) 1 (by decide)⟩
    exact s.flag_setFld_apart (f := F.AUT_DISC_RELEASED) (g := F.AUT_DISC_DISC) 1 (by decide) rfl (by decide) (by decide) (by decide) (by decide)
  case clear =>
    obtain ⟨k, m, ht⟩ := exec_discClear hw hst hr
    refine ⟨_, ht, ?_, ?_, (((State.Frame.refl _ _ s).add (s.setFldB_frame 0 0 (by decide))).add (State.mirror_frame _ _ _ _)).add
      (State.mirror_frame _ _ _ _)⟩
    · rw [State.autMirror, State.flag, State.mirror_fld, State.mirror_fld]
      exact s.flag_setFld_b2n R.AUT_DISC _ false (by decide) (by decide)
    · rw [State.autMirror, State.mirror_aut, State.mirror_aut, State.setFld_aut]
  case host =>
    obtain ⟨t, hflag, hon, hp, ht⟩ := exec_hostFullStop hw true
    rw [hh] at ht
    have h := State.stopSet_fsSource hon ((congrArg AutSt.fsLatch (hp.same .aut)).trans hl) 3
    exact ⟨_, ht, h.progress.flag.trans hflag, h.latch, h.cause, h.pend⟩
  case hostOff =>
    obtain ⟨t, hflag, -, hp, ht⟩ := exec_hostFullStop hw false
    exact ⟨_, ht, (t.progress_mirror _ _ _).flag.trans hflag, (State.mirror_aut _ _ _ _).trans (hp.same .aut)⟩

end Sys2Proof.Machine
end

section
/-!
COMMA sources (R98): how each of them starts and ends, by itself at basic level and by RESUME at expert level. The last theorem settles O15.
-/

namespace Sys2Proof.Machine

/-! ## COMMA sources -/

/-- What the settling of the fleet state changes of AUT. -/
def AutSt.SettledFrom (a b : AutSt) : Prop :=
  ∃ n c v w l, b = { a with tense := n, ccause := c, sealed := v, onAir := w, stopRepeats := l }

theorem AutSt.SettledFrom.trans {a b c : AutSt} (h : a.SettledFrom b) (k : b.SettledFrom c) : a.SettledFrom c := by
  obtain ⟨_, _, _, _, _, rfl⟩ := h
  obtain ⟨_, _, _, _, _, rfl⟩ := k
  exact ⟨_, _, _, _, _, rfl⟩

theorem State.Settles.settledFrom {s t : State} (h : s.Settles t) : s.aut.SettledFrom t.aut := by
  obtain ⟨_, _, _, _, _, ha, -⟩ := h.aut
  exact ⟨_, _, _, _, _, ha⟩

theorem State.fleetState_comma {s : State} (hon : s.blkOn Blk.AUT = true) (hc : s.commaActive = true) :
    s.fleetState = if s.aut.fsLatch then Tense.FULL_STOP else Tense.COMMA := by
  simp [State.fleetState, hon, hc]

theorem Tense.stop_ne_run (latch : Bool) : (if latch then Tense.FULL_STOP else Tense.COMMA) ≠ Tense.RUN := by
  cases latch <;> decide

/-- AUT as a COMMA source that `f` marks sets it, before the fleet state settles. -/
def AutSt.commaSet (a : AutSt) (cause : Nat) (f : AutSt → AutSt) : AutSt := { f a with ccause := if a.ccause = 0 then cause else a.ccause }

theorem State.settles_commaSource (s : State) (cause : Nat) (f : AutSt → AutSt) :
    (s.setAut fun a => a.commaSet cause f).Settles (s.commaSource cause f) := State.settles_autSettle _

theorem State.settles_commaEnd (s : State) (f : AutSt → AutSt) : (s.setAut f).Settles (s.commaEnd f) := State.settles_autSettle _

/-- What COMMA sources change. -/
theorem State.Settles.progress_setAut {s t : State} {f : AutSt → AutSt} (h : (s.setAut f).Settles t) :
    State.Progress [R.AUT_BEACON, R.AIR_CNT + 8] [.aut, .air, .ahn, .freeCtr] s t :=
  ((State.Progress.refl _ _ s).add (s.progress_setAut f)).add h.progress

/-- A source that `f` marks, and that is a COMMA source by it: the fleet is at COMMA, or still at FULL STOP, and CAUSE keeps the first. -/
theorem State.commaSource_starts {s : State} (cause : Nat) {f : AutSt → AutSt} (hon : s.blkOn Blk.AUT = true)
    (hf : (s.setAut fun a => a.commaSet cause f).commaActive = true) (hl : (f s.aut).fsLatch = s.aut.fsLatch) :
    (s.commaSource cause f).fleetState = (if s.aut.fsLatch then Tense.FULL_STOP else Tense.COMMA) ∧
      (s.commaSource cause f).aut.ccause = if s.aut.ccause = 0 then cause else s.aut.ccause := by
  have h := s.settles_commaSource cause f
  have hfleet : (s.setAut fun a => a.commaSet cause f).fleetState = if s.aut.fsLatch then Tense.FULL_STOP else Tense.COMMA := by
    rw [State.fleetState_comma (s := s.setAut fun a => a.commaSet cause f) hon hf]
    exact congrArg (fun b : Bool => if b then Tense.FULL_STOP else Tense.COMMA) hl
  obtain ⟨_, _, _, _, _, ha, hc⟩ := h.aut
  refine ⟨h.fleet.trans hfleet, ?_⟩
  rw [ha]
  exact hc (by rw [hfleet]; exact Tense.stop_ne_run _)

/-! ## The register of COMMA -/

/-- `AUT_COMMA` as a host access sees it. -/
def autCommaDesc : RegDesc :=
  ⟨R.AUT_COMMA, 1, none, [⟨F.AUT_COMMA_REARM_HOLD_MS, .rw, .within 1000 60000⟩, ⟨F.AUT_COMMA_RESUME, .wo, .any⟩,
    ⟨F.AUT_COMMA_PIN_EN, .rw, .any⟩, ⟨F.AUT_COMMA_HOST, .rw, .any⟩], 0xFFFF0007⟩

theorem descAt_autComma : Regs.descAt R.AUT_COMMA = some autCommaDesc := by decide +kernel

/-- `AUT_COMMA` holds what was written. -/
def State.commaStored (s : State) (w : Word) : State :=
  ((s.setFld F.AUT_COMMA_REARM_HOLD_MS (F.AUT_COMMA_REARM_HOLD_MS.get w)).setFld F.AUT_COMMA_PIN_EN (F.AUT_COMMA_PIN_EN.get w)).setFld
    F.AUT_COMMA_HOST (F.AUT_COMMA_HOST.get w)

section CommaStored

variable (s : State) (w : Word)

theorem State.commaStored_progress : State.Progress [R.AUT_COMMA] [] s (s.commaStored w) :=
  ((s.progress_setFld F.AUT_COMMA_REARM_HOLD_MS _).add (State.progress_setFld _ _ _)).add (State.progress_setFld _ _ _)

theorem State.commaStored_host : (s.commaStored w).fld F.AUT_COMMA_HOST = F.AUT_COMMA_HOST.get w := by
  rw [State.commaStored, State.fld_setFld_same _ _ (by decide) (by decide) (by decide)]
  exact Nat.mod_eq_of_lt (Nat.mod_lt _ (by decide))

theorem State.commaStored_hold : (s.commaStored w).fld F.AUT_COMMA_REARM_HOLD_MS = F.AUT_COMMA_REARM_HOLD_MS.get w := by
  rw [State.commaStored]
  simp (disch := decide) only [State.fld_setFld_apart, State.fld_setFld_same]
  exact Nat.mod_eq_of_lt (Nat.mod_lt _ (by decide))

theorem State.regStore_comma (hlo : 1000 ≤ F.AUT_COMMA_REARM_HOLD_MS.get w) (hhi : F.AUT_COMMA_REARM_HOLD_MS.get w ≤ 60000) :
    s.regStore autCommaDesc 0 0 w = (s.commaStored w, true) := by
  have hin : (s.commaStored w).rangeHolds 0 ((s.commaStored w).fldB 0 F.AUT_COMMA_REARM_HOLD_MS) (.within 1000 60000) = true := by
    have hv : (s.commaStored w).fldB 0 F.AUT_COMMA_REARM_HOLD_MS = F.AUT_COMMA_REARM_HOLD_MS.get w := s.commaStored_hold w
    simp [hv, State.rangeHolds, hlo, hhi]
  simp only [State.commaStored, State.setFld] at hin ⊢
  simp [State.regStore, autCommaDesc, RegDesc.fieldsAt, Fld.nth, State.fieldWrite, State.inRange, hin]
  simp [State.rangeHolds]

end CommaStored

/-- A write of `AUT_COMMA` whose REARM_HOLD_MS is in its range. -/
theorem State.hostReg_comma {s : State} {w : Word} (hst : s.isStandby = false) (hlo : 1000 ≤ F.AUT_COMMA_REARM_HOLD_MS.get w)
    (hhi : F.AUT_COMMA_REARM_HOLD_MS.get w ≤ 60000) : ∃ t, s.hostReg R.AUT_COMMA w = (t, true) ∧
    t.fld F.AUT_COMMA_HOST = F.AUT_COMMA_HOST.get w ∧ State.Progress [R.AUT_COMMA] [.ahn] s t := by
  obtain ⟨k, m, h⟩ := State.hostReg_stored (d := autCommaDesc) descAt_autComma rfl (by decide) hst (s.regStore_comma w hlo hhi)
  exact ⟨_, h, (State.mirror_fld _ _ _ _ _).trans (s.commaStored_host w),
    ((State.Progress.refl _ _ s).add (s.commaStored_progress w)).add (State.progress_mirror _ _ _ _)⟩

/-- The step of a write of `AUT_COMMA` that follows HOST. -/
def State.hostComma (s : State) : State := if s.flag F.AUT_COMMA_HOST then s.commaSource 0x11 id else s.autSettle

/-- The step that follows PIN_EN. -/
def State.pinComma (s : State) : State :=
  if s.flag F.AUT_COMMA_PIN_EN && s.pins.commaLow && !s.aut.commaPin then
    s.commaSource 0x10 fun a => { a with commaPin := true } else s

/-- What of AUT a COMMA source keeps, and the frame of the rest. -/
structure State.LatchKept (s t : State) : Prop where
  progress : State.Progress [R.AUT_BEACON, R.AIR_CNT + 8] [.aut, .air, .ahn, .freeCtr] s t
  latch : t.aut.fsLatch = s.aut.fsLatch

theorem State.LatchKept.trans {s t u : State} (h : s.LatchKept t) (k : t.LatchKept u) : s.LatchKept u :=
  ⟨h.progress.add k.progress, k.latch.trans h.latch⟩

theorem State.Settles.latchKept {s t : State} {f : AutSt → AutSt} (h : (s.setAut f).Settles t) (hf : (f s.aut).fsLatch = s.aut.fsLatch) :
    s.LatchKept t := ⟨h.progress_setAut, h.fsLatch.trans hf⟩

theorem State.latchKept_hostComma (s : State) : s.LatchKept s.hostComma := by
  unfold State.hostComma
  split
  · exact (s.settles_commaSource _ _).latchKept rfl
  · exact ⟨s.progress_autSettle, s.settles_autSettle.fsLatch⟩

theorem State.latchKept_pinComma (s : State) : s.LatchKept s.pinComma := by
  unfold State.pinComma
  split
  · exact (s.settles_commaSource _ _).latchKept rfl
  · exact ⟨State.Progress.refl _ _ s, rfl⟩

/-- Following HOST, AUT changes as the fleet state settles. -/
theorem State.hostComma_settledFrom (s : State) : s.aut.SettledFrom s.hostComma.aut := by
  unfold State.hostComma
  split
  · obtain ⟨_, _, _, _, _, ha⟩ := (s.settles_commaSource 0x11 id).settledFrom
    exact ⟨_, _, _, _, _, ha⟩
  · exact s.settles_autSettle.settledFrom

/-- An accepted write of `AUT_COMMA`, field by field. -/
theorem State.commaWrite_eq {s t : State} {w : Word} (ht : s.hostReg R.AUT_COMMA w = (t, true)) (hon : t.blkOn Blk.AUT = true) :
    s.commaWrite w = if F.AUT_COMMA_RESUME.get w == 1 then t.hostComma.pinComma.autResume else t.hostComma.pinComma := by
  rw [State.commaWrite, ht, thenIf, if_pos rfl, hon, Bool.not_true, if_neg Bool.false_ne_true]
  rfl

section CommaWrite

variable {s : State} (hw : s.works Blk.AUT) (hst : s.isStandby = false) (hlo : 1000 ≤ s.fld F.AUT_COMMA_REARM_HOLD_MS)
  (hhi : s.fld F.AUT_COMMA_REARM_HOLD_MS ≤ 60000)
include hw hst hlo hhi

/-- HOST is written: the fleet follows it and PIN. -/
theorem exec_hostComma (on : Bool) : ∃ t, t.flag F.AUT_COMMA_HOST = on ∧ State.Progress [R.AUT_COMMA] [.ahn] s t ∧
    exec (.hostComma on) s = .next t.hostComma.pinComma := by
  let w := F.AUT_COMMA_RESUME.put (F.AUT_COMMA_HOST.put (s.reg R.AUT_COMMA) (b2n on)) 0
  have hhold : F.AUT_COMMA_REARM_HOLD_MS.get w = s.fld F.AUT_COMMA_REARM_HOLD_MS := by
    simp only [w]
    rw [Fld.get_put_other _ _ _ _ (by decide) (by decide) (by decide) (by decide),
      Fld.get_put_other _ _ _ _ (by decide) (by decide) (by decide) (by decide)]
    rfl
  have hresume : F.AUT_COMMA_RESUME.get w = 0 := Fld.get_put_same _ _ _ (by decide) (by decide)
  have hhost : F.AUT_COMMA_HOST.get w = b2n on := by
    simp only [w]
    rw [Fld.get_put_other _ _ _ _ (by decide) (by decide) (by decide) (by decide), Fld.get_put_same _ _ _ (by decide) (by decide)]
    cases on <;> rfl
  obtain ⟨t, ht, hh, hp⟩ := State.hostReg_comma (w := w) hst (by rwa [hhold]) (by rwa [hhold])
  have hon : t.blkOn Blk.AUT = true := hp.flag.trans hw.2
  refine ⟨t, ?_, hp, (whileRunning_eq _ hw.1).trans ?_⟩
  · rw [State.flag, hh, hhost]
    cases on <;> rfl
  · exact congrArg Host.Outcome.next ((State.commaWrite_eq ht hon).trans (if_neg (by simp [hresume])))

/-- RESUME is written with 1. -/
theorem exec_commaResume : ∃ t, State.Progress [R.AUT_COMMA] [.ahn] s t ∧ exec .commaResume s = .next t.hostComma.pinComma.autResume := by
  let w := F.AUT_COMMA_RESUME.put (s.reg R.AUT_COMMA) 1
  have hhold : F.AUT_COMMA_REARM_HOLD_MS.get w = s.fld F.AUT_COMMA_REARM_HOLD_MS :=
    Fld.get_put_other _ _ _ _ (by decide) (by decide) (by decide) (by decide)
  have hresume : F.AUT_COMMA_RESUME.get w = 1 := Fld.get_put_same _ _ _ (by decide) (by decide)
  obtain ⟨t, ht, -, hp⟩ := State.hostReg_comma (w := w) hst (by rwa [hhold]) (by rwa [hhold])
  have hon : t.blkOn Blk.AUT = true := hp.flag.trans hw.2
  refine ⟨t, hp, (whileRunning_eq _ hw.1).trans ?_⟩
  exact congrArg Host.Outcome.next ((State.commaWrite_eq ht hon).trans (if_pos (by simp [hresume])))

end CommaWrite

/-! ## The commands of the COMMA sources -/

section CommaCommands

variable {s : State} (hw : s.works Blk.AUT)
include hw

theorem exec_commaPinAssert (hen : s.flag F.AUT_COMMA_PIN_EN = true) (hp : s.aut.commaPin = false) : exec .commaPinAssert s =
    .next ({ s with pins := { s.pins with commaLow := true } }.commaSource 0x10 fun a => { a with commaPin := true }) := by
  refine (whileRunning_eq (s := { s with pins := { s.pins with commaLow := true } }) _ hw.1).trans ?_
  refine congrArg Host.Outcome.next (if_pos ?_)
  change (s.blkOn Blk.AUT && s.flag F.AUT_COMMA_PIN_EN && !s.aut.commaPin) = true
  rw [hw.2, hen, hp]
  rfl

theorem exec_commaPinRelease (hx : s.expert Blk.AUT = false) (hp : s.aut.commaPin = true) : exec .commaPinRelease s =
    .next ({ s with pins := { s.pins with commaLow := false } }.commaEnd fun a => { a with commaPin := false }) := by
  refine (whileRunning_eq (s := { s with pins := { s.pins with commaLow := false } }) _ hw.1).trans ?_
  refine congrArg Host.Outcome.next (if_pos ?_)
  change (s.blkOn Blk.AUT && !s.expert Blk.AUT && s.aut.commaPin) = true
  rw [hw.2, hx, hp]
  rfl

theorem exec_commaPinRelease_expert (hx : s.expert Blk.AUT = true) :
    exec .commaPinRelease s = .next { s with pins := { s.pins with commaLow := false } } := by
  refine (whileRunning_eq (s := { s with pins := { s.pins with commaLow := false } }) _ hw.1).trans ?_
  refine congrArg Host.Outcome.next (if_neg ?_)
  change ¬ (s.blkOn Blk.AUT && !s.expert Blk.AUT && s.aut.commaPin) = true
  rw [hw.2, hx]
  exact Bool.false_ne_true

theorem exec_referenceAgeExceeded (hst : s.isStandby = false) (hold : s.refTooOld = true) (ha : s.aut.commaAge = false) :
    exec .referenceAgeExceeded s =
      .next ((s.setAut fun a => { a with ageOkSince := none }).commaSource 0x12 fun a => { a with commaAge := true }) := by
  refine (whileOn_eq _ hw.1 hw.2).trans (congrArg Host.Outcome.next ?_)
  rw [hst, hold]
  exact if_neg (show ¬ s.aut.commaAge = true by simp [ha])

theorem exec_referenceAgeRecovered {k : Nat} (hst : s.isStandby = false) (hx : s.expert Blk.AUT = false) (ha : s.aut.commaAge = true)
    (hold : s.refTooOld = false) (hk : s.aut.ageOkSince = some k) (hpast : k + s.fld F.AUT_AGE_RESUME_MS * 1000000 ≤ s.mono) :
    exec .referenceAgeRecovered s = .next (s.commaEnd fun a => { a with commaAge := false }) := by
  refine (whileOn_eq _ hw.1 hw.2).trans (congrArg Host.Outcome.next ?_)
  have hp : s.passed k (s.fld F.AUT_AGE_RESUME_MS * nsPerMs) = true := decide_eq_true hpast
  simp only [hk, ha, hst, hx, hold, hp, Bool.not_false, Bool.and_self, if_true]

end CommaCommands

/-! ## RESUME -/

theorem State.refTooOld_congr {s t : State} (hm : t.mono = s.mono) (hr : t.aut.refAt = s.aut.refAt)
    (ha : t.fld F.AUT_AGE_POS_AGE_MS = s.fld F.AUT_AGE_POS_AGE_MS) : t.refTooOld = s.refTooOld := by
  rw [State.refTooOld, State.refTooOld, hm, hr, ha]

/-- At expert level RESUME leaves PIN and AGE where their conditions last, and ends REARM. -/
theorem State.autResume_ends {s : State} (hx : s.expert Blk.AUT = true) : s.autResume.aut.commaPin = (s.aut.commaPin && s.pins.commaLow) ∧
    s.autResume.aut.commaAge = (s.aut.commaAge && s.refTooOld) ∧ s.autResume.aut.commaRearm = false := by
  have heq : s.autResume = s.commaEnd fun a =>
      { a with commaPin := a.commaPin && s.pins.commaLow, commaAge := a.commaAge && s.refTooOld, commaRearm := false } :=
    if_neg (by simp [hx])
  rw [heq]
  obtain ⟨_, _, _, _, _, ha⟩ := (s.settles_commaEnd fun a =>
      { a with commaPin := a.commaPin && s.pins.commaLow, commaAge := a.commaAge && s.refTooOld, commaRearm := false }).settledFrom
  rw [ha]
  exact ⟨rfl, rfl, rfl⟩

/-- With COMMA_N high PIN_EN starts nothing. -/
theorem State.pinComma_of_high {s : State} (h : s.pins.commaLow = false) : s.pinComma = s := if_neg (by simp [h])

/-! ## The obligation -/

/-- Settles O15: a source that starts or ends settles the fleet state, which keeps the latch and every other source. -/
theorem commaSources : Obligations.CommaSources := by
  unfold Obligations.CommaSources
  refine ⟨fun s hw hen hp => ?assert, fun s hw hx hp => ?release, fun s hw hx => ?releaseExpert, fun s hw hst hlo hhi => ?hostOn,
    fun s hw hst hlo hhi => ?hostOff, fun s hw hst hx hlo hhi hpin => ?resume, fun s hw hst hold ha => ?exceeded,
    fun s k hw hst hx ha hold hk hpast => ?recovered⟩
  case assert =>
    have h := ({ s with pins := { s.pins with commaLow := true } } : State).settles_commaSource 0x10 fun a => { a with commaPin := true }
    obtain ⟨_, _, _, _, _, ha⟩ := h.settledFrom
    obtain ⟨hfleet, hcause⟩ := State.commaSource_starts (s := { s with pins := { s.pins with commaLow := true } }) 0x10
      (f := fun a => { a with commaPin := true }) hw.2 (by simp [State.commaActive, State.setAut, AutSt.commaSet]) rfl
    have hpins := h.progress_setAut.same .pins
    refine ⟨_, exec_commaPinAssert hw hen hp, ?_, ?_, hcause, hfleet,
      (((State.Progress.refl [R.AUT_BEACON, R.AIR_CNT + 8] [.pins, .aut, .air, .ahn, .freeCtr] s).add (s.pins_progress _)).add
        h.progress_setAut).frame⟩
    · rw [ha]
      rfl
    · rw [hpins]
  case release =>
    have h := ({ s with pins := { s.pins with commaLow := false } } : State).settles_commaEnd fun a => { a with commaPin := false }
    obtain ⟨_, _, _, _, _, ha⟩ := h.settledFrom
    have hpins := h.progress_setAut.same .pins
    refine ⟨_, exec_commaPinRelease hw hx hp, ?_, ?_, h.fsLatch⟩
    · rw [ha]
      rfl
    · rw [hpins]
  case releaseExpert => exact ⟨_, exec_commaPinRelease_expert hw hx, rfl, rfl, s.pins_frame _⟩
  case hostOn =>
    obtain ⟨t, hhost, hp, ht⟩ := exec_hostComma hw hst hlo hhi true
    have hk := t.latchKept_hostComma.trans t.hostComma.latchKept_pinComma
    have hh := hk.progress.flag.trans hhost
    have hl := hk.latch.trans (congrArg AutSt.fsLatch (hp.same .aut))
    refine ⟨_, ht, hh, hl, ?_⟩
    rw [State.fleetState_comma (hk.progress.flag.trans (hp.flag.trans hw.2)) (by rw [State.commaActive, hh]; rfl), hl]
  case hostOff =>
    obtain ⟨t, hhost, hp, ht⟩ := exec_hostComma hw hst hlo hhi false
    have hk := t.latchKept_hostComma.trans t.hostComma.latchKept_pinComma
    exact ⟨_, ht, hk.progress.flag.trans hhost, hk.latch.trans (congrArg AutSt.fsLatch (hp.same .aut))⟩
  case resume =>
    obtain ⟨t, hp, ht⟩ := exec_commaResume hw hst hlo hhi
    have hk := t.latchKept_hostComma.progress
    have hpins : t.hostComma.pins.commaLow = false :=
      (congrArg Pins.commaLow ((hk.same .pins).trans (hp.same .pins))).trans hpin
    obtain ⟨n, c, v, w, l, ha⟩ := t.hostComma_settledFrom
    have haut : t.aut = s.aut := hp.same .aut
    rw [haut] at ha
    have hold : t.hostComma.refTooOld = s.refTooOld :=
      State.refTooOld_congr ((hk.same .mono).trans (hp.same .mono)) (by rw [ha]) (hk.fld.trans hp.fld)
    obtain ⟨hpin', hage, hrearm⟩ := State.autResume_ends (s := t.hostComma) (hk.flag.trans (hp.flag.trans hx))
    rw [State.pinComma_of_high hpins] at ht
    refine ⟨_, ht, ?_, hrearm, ?_⟩
    · rw [hpin', hpins, Bool.and_false]
    · rw [hage, hold, ha]
  case exceeded =>
    have h := (s.setAut fun a => { a with ageOkSince := none }).settles_commaSource 0x12 fun a => { a with commaAge := true }
    obtain ⟨_, _, _, _, _, hset⟩ := h.settledFrom
    obtain ⟨-, hcause⟩ := State.commaSource_starts (s := s.setAut fun a => { a with ageOkSince := none }) 0x12
      (f := fun a => { a with commaAge := true }) hw.2 (by simp [State.commaActive, State.setAut, AutSt.commaSet]) rfl
    refine ⟨_, exec_referenceAgeExceeded hw hst hold ha, ?_, ?_, hcause,
      (((State.Progress.refl [R.AUT_BEACON, R.AIR_CNT + 8] [.aut, .air, .ahn, .freeCtr] s).add (s.progress_setAut _)).add
        h.progress_setAut).frame⟩
    · rw [hset]
      rfl
    · rw [hset]
      rfl
  case recovered =>
    obtain ⟨_, _, _, _, _, hset⟩ := (s.settles_commaEnd fun a => { a with commaAge := false }).settledFrom
    refine ⟨_, exec_referenceAgeRecovered hw hst hx ha hold hk hpast, ?_⟩
    rw [hset]
    rfl

end Sys2Proof.Machine
end

section
/-!
The re-arm (R97, R98, R107): what each key does, what refuses the second, and what ends the hold; and the kick (R101). The last theorem
settles O16.
-/

namespace Sys2Proof.Machine

/-! ## The keys -/

/-- A key takes back the first one. -/
def State.keyTaken (s : State) : State := s.setAut fun a => { a with rearmKey := none, rearmVoid := false }

/-- The re-arm refused: event 66, and the latch stays. -/
def State.rearmRefused (s : State) : State := (s.raise Ev.AUT_REARM_REFUSED 0).autMirror

/-- The latch cleared by a re-arm. -/
def State.latchCleared (s : State) : State :=
  s.setAut fun a => { a with fsLatch := false, fcause := 0, fsAir := false, fsStart := false, rearmAt := s.mono }

/-- The re-arm accepted: the latch clears with event 65, and REARM starts. -/
def State.rearmed (s : State) : State := (s.latchCleared.raise Ev.AUT_REARMED 0).commaSource 0x13 fun a => { a with commaRearm := true }

theorem State.rearm_refused {s : State} {void : Bool} (h : void = true ∨ s.fsLasting = true ∨ s.warden.fault ≠ 0 ∨ s.isActive = false ∨
    s.timeValid = false) : s.rearm void = s.rearmRefused := by
  refine if_pos ?_
  simp only [Bool.or_eq_true, bne_iff_ne, ne_eq, Bool.not_eq_true']
  tauto

theorem State.rearm_accepted {s : State} (hlast : s.fsLasting = false) (hfault : s.warden.fault = 0) (hact : s.isActive = true)
    (htime : s.timeValid = true) : s.rearm false = s.rearmed :=
  if_neg (by simp [hlast, hfault, hact, htime])

section Keys

variable {s : State} (hw : s.works Blk.AUT)
include hw

theorem exec_rearmFirstKey : exec .rearmFirstKey s = .next (s.keyTaken.setAut fun a => { a with rearmKey := some s.mono }).autMirror := by
  refine (whileRunning_eq _ hw.1).trans (congrArg Host.Outcome.next ?_)
  rw [State.rearmWrite, hw.2]
  rfl

/-- The second key in time, or after a source has voided the re-arm. -/
theorem exec_rearmSecondKey (h : (∃ k, s.aut.rearmKey = some k ∧ s.mono ≤ k + 1000000000) ∨ s.aut.rearmVoid = true) :
    exec .rearmSecondKey s = .next (s.keyTaken.rearm s.aut.rearmVoid) := by
  refine (whileRunning_eq _ hw.1).trans (congrArg Host.Outcome.next ?_)
  have hkey : (rearmKey2 = rearmKey1) = False := by decide
  simp only [State.rearmWrite, hw.2, hkey, Bool.not_true, Bool.false_eq_true, if_false]
  refine if_pos ?_
  rcases h with ⟨k, hk, ht⟩ | hv
  · have hfirst : decide (s.mono ≤ k + 1000 * nsPerMs) = true := decide_eq_true ht
    simp only [hk, hfirst, Bool.true_or, decide_true, Bool.and_self]
  · simp only [hv, Bool.or_true, decide_true, Bool.and_self]

theorem exec_rearmTimeout {k : Nat} (hk : s.aut.rearmKey = some k) (ht : k + 1000000000 ≤ s.mono) :
    exec .rearmTimeout s = .next (s.setAut fun a => { a with rearmKey := none }).autMirror := by
  refine (whileOn_eq _ hw.1 hw.2).trans (congrArg Host.Outcome.next ?_)
  have hp : s.passed k (1000 * nsPerMs) = true := decide_eq_true ht
  simp only [hk, hp, if_true]

theorem exec_rearmHoldEnd (hr : s.aut.commaRearm = true) (hx : s.expert Blk.AUT = false) (hst : s.isStandby = false)
    (ht : s.aut.rearmAt + s.fld F.AUT_COMMA_REARM_HOLD_MS * 1000000 ≤ s.mono) :
    exec .rearmHoldEnd s = .next (s.commaEnd fun a => { a with commaRearm := false }) := by
  refine (whileOn_eq _ hw.1 hw.2).trans (congrArg Host.Outcome.next (if_pos ?_))
  have hp : s.passed s.aut.rearmAt (s.fld F.AUT_COMMA_REARM_HOLD_MS * nsPerMs) = true := decide_eq_true ht
  rw [hr, hx, hst, hp]
  rfl

end Keys

/-! ## What they leave -/

theorem State.rearmRefused_aut (s : State) : s.rearmRefused.aut = s.aut := by
  rw [State.rearmRefused, State.autMirror, State.mirror_aut, State.raise_aut _ _ (by decide)]

theorem State.rearmRefused_progress (s : State) : State.Progress [] [.ahn] s s.rearmRefused :=
  ((State.Progress.refl _ _ s).add (s.progress_raise _ _)).add (State.progress_mirror _ _ _ _)

theorem State.rearmRefused_pend (s : State) : s.rearmRefused.pend Ev.AUT_REARM_REFUSED = true :=
  (State.progress_mirror _ _ _ _).pend _ (by decide) (s.pend_raise _ 0)

/-- An accepted re-arm clears the latch, and REARM keeps the fleet at COMMA. -/
theorem State.rearmed_sets {s : State} (hon : s.blkOn Blk.AUT = true) :
    ({ s.latchCleared.aut with commaRearm := true } : AutSt).SettledFrom s.rearmed.aut ∧ s.rearmed.fleetState = Tense.COMMA ∧
      s.rearmed.pend Ev.AUT_REARMED = true := by
  have hraise := s.latchCleared.progress_raise Ev.AUT_REARMED 0
  have haut : (s.latchCleared.raise Ev.AUT_REARMED 0).aut = s.latchCleared.aut := State.raise_aut _ _ (by decide)
  have hpend : (s.latchCleared.raise Ev.AUT_REARMED 0).pend Ev.AUT_REARMED = true :=
    s.latchCleared.pend_raise _ 0
  have h := (s.latchCleared.raise Ev.AUT_REARMED 0).settles_commaSource 0x13 fun a => { a with commaRearm := true }
  obtain ⟨hfleet, -⟩ := State.commaSource_starts (s := s.latchCleared.raise Ev.AUT_REARMED 0) 0x13 (f := fun a => { a with commaRearm := true })
    (hraise.flag.trans hon) (by simp [State.commaActive, State.setAut, AutSt.commaSet]) rfl
  have hlatch : (s.latchCleared.raise Ev.AUT_REARMED 0).aut.fsLatch = false := congrArg AutSt.fsLatch haut
  rw [hlatch] at hfleet
  obtain ⟨n, c, v, w, l, ha⟩ := h.settledFrom
  refine ⟨⟨n, c, v, w, l, ?_⟩, hfleet, h.progress_setAut.pend _ (by decide) hpend⟩
  rw [State.rearmed, ha]
  simp only [State.setAut, AutSt.commaSet, haut]

/-! ## The obligation -/

/-- Settles O16: the second key clears the latch through `State.rearmed` or is refused by `State.rearmRefused`. -/
theorem rearmRules : Obligations.RearmRules := by
  unfold Obligations.RearmRules
  refine ⟨fun s hw => ?first, fun s k hw hk ht hv hlast hfault hact htime => ?accepted, fun s k hw hk ht hbar => ?refused,
    fun s hw hv => ?voided, fun s k hw hk ht => ?timeout, fun s hw hr hx hst ht => ?hold, fun s hs => ?kick⟩
  case first =>
    refine ⟨_, exec_rearmFirstKey hw, congrArg AutSt.rearmKey (State.mirror_aut _ _ _ _), congrArg AutSt.rearmVoid (State.mirror_aut _ _ _ _),
      ?_, (((State.Frame.refl _ _ s).add (s.aut_frame _)).add (State.aut_frame _ _)).add (State.mirror_frame _ _ _ _)⟩
    rw [State.autMirror, State.mirror_aut]
    rfl
  case accepted =>
    have ht' := exec_rearmSecondKey hw (.inl ⟨k, hk, ht⟩)
    rw [hv, State.rearm_accepted (s := s.keyTaken) hlast hfault hact htime] at ht'
    obtain ⟨⟨_, _, _, _, _, ha⟩, hfleet, hpend⟩ := State.rearmed_sets (s := s.keyTaken) hw.2
    exact ⟨_, ht', congrArg AutSt.fsLatch ha, congrArg AutSt.fsAir ha, congrArg AutSt.fsStart ha, congrArg AutSt.fcause ha,
      congrArg AutSt.commaRearm ha, congrArg AutSt.rearmAt ha, congrArg AutSt.rearmKey ha, hfleet, hpend⟩
  case refused =>
    have ht' := exec_rearmSecondKey hw (.inl ⟨k, hk, ht⟩)
    rw [State.rearm_refused (s := s.keyTaken) (.inr hbar)] at ht'
    exact ⟨_, ht', s.keyTaken.rearmRefused_aut, s.keyTaken.rearmRefused_pend,
      (((State.Progress.refl _ _ s).add (s.progress_setAut _)).add s.keyTaken.rearmRefused_progress).frame⟩
  case voided =>
    have ht' := exec_rearmSecondKey hw (.inr hv)
    rw [State.rearm_refused (s := s.keyTaken) (.inl hv)] at ht'
    exact ⟨_, ht', s.keyTaken.rearmRefused_aut, s.keyTaken.rearmRefused_pend⟩
  case timeout =>
    exact ⟨_, exec_rearmTimeout hw hk ht, State.mirror_aut _ _ _ _,
      ((State.Frame.refl _ _ s).add (s.aut_frame _)).add (State.mirror_frame _ _ _ _)⟩
  case hold =>
    have h := s.settles_commaEnd fun a => { a with commaRearm := false }
    obtain ⟨_, _, _, _, _, ha⟩ := h.settledFrom
    refine ⟨_, exec_rearmHoldEnd hw hr hx hst ht, ?_, h.fsLatch⟩
    rw [ha]
    rfl
  case kick => exact ⟨_, whileRunning_eq _ hs, rfl, s.warden_frame _⟩

end Sys2Proof.Machine
end

section
/-!
Token blocks (R82–R86, R99, R109): the opening of a slot, its block, the repeats of a stop frame, and `AUT_LIFE`. The last theorem settles O17.
-/

namespace Sys2Proof.Machine

/-! ## The slot -/

/-- Change the Warden's state. -/
def State.setWarden (s : State) (v : WardenSt) : State := { s with warden := v }

theorem State.setWarden_frame (s : State) (v : WardenSt) : State.Frame [] [.warden] s (s.setWarden v) := s.warden_frame v

/-- The slot's permit, SEQ, and the Warden's count of it, before its block is sealed or skipped (R82, R85, R101). -/
def State.slotNumbered (s : State) : State :=
  (((s.setFld F.AUT_BEACON_PERMIT (b2n s.permit)).setFld F.AUT_BEACON_TRUNC 0).setAut fun a =>
    { a with seq := (a.seq + 1) % 2 ^ 48, lastSeq := a.seq }).setWarden { s.warden with seq := match s.warden.seq with
      | none => some s.aut.seq
      | some n => some ((n + 1) % 2 ^ 48) }

/-- The slot with SEQ stored where it is due (R84). -/
def State.slotOpened (s : State) : State := if s.aut.seq % 1024 = 0 then s.slotNumbered.storeSeq s.aut.seq else s.slotNumbered

/-- A slot with nothing sealed, before it is counted. -/
def State.slotUnsealed (s : State) : State := (s.slotOpened.setAut fun a => { a with sealed := none }).setFld F.AUT_BEACON_TENSE 0

/-- A slot without a block (R85). -/
def State.slotSkipped (s : State) : State := (s.slotUnsealed.bump F.AUT_BEACON_SLOTS_SKIPPED).raise Ev.AUT_BEACON_SKIPPED 0

/-- A slot with its block. -/
def State.slotSealed (s : State) : State :=
  ((s.slotOpened.setAut fun a => { a with sealed := some s.tokenBlock }).setFld F.AUT_BEACON_TENSE s.fleetState).mirror 0 (.token s.tokenBlock)

theorem State.sealBlock_eq (s : State) : s.sealBlock = if s.fleetState = Tense.RUN && !s.permit then s.slotSkipped else s.slotSealed := by
  simp only [State.sealBlock, State.setFld_warden, State.setAut]
  rfl

section SlotOpened

variable (s : State)

theorem State.slotNumbered_aut : s.slotNumbered.aut = { s.aut with seq := (s.aut.seq + 1) % 2 ^ 48, lastSeq := s.aut.seq } := by
  simp only [State.slotNumbered, State.setWarden, State.setAut, State.setFld_aut]

theorem State.slotNumbered_keys : s.slotNumbered.keys = s.keys := by
  simp only [State.slotNumbered, State.setWarden, State.setAut, State.setFld_keys]

theorem State.slotNumbered_nandStopped : s.slotNumbered.nandStopped = s.nandStopped := by
  simp only [State.nandStopped, State.slotNumbered, State.setWarden, State.setAut, State.setFld_pins, State.setFld_hpg]

theorem State.slotNumbered_frame : State.Frame [R.AUT_BEACON] [.aut, .warden] s s.slotNumbered :=
  ((((State.Frame.refl _ _ s).add (s.setFldB_frame 0 (f := F.AUT_BEACON_PERMIT) _ (by decide))).add
    (State.setFldB_frame _ 0 (f := F.AUT_BEACON_TRUNC) _ (by decide))).add (State.aut_frame _ _)).add (State.setWarden_frame _ _)

theorem State.slotNumbered_fld (f : Fld) : s.slotNumbered.fld f =
    ((s.setFld F.AUT_BEACON_PERMIT (b2n s.permit)).setFld F.AUT_BEACON_TRUNC 0).fld f := rfl

theorem State.slotNumbered_permit : s.slotNumbered.fld F.AUT_BEACON_PERMIT = b2n s.permit := by
  rw [State.slotNumbered_fld]
  simp (disch := decide) only [State.fld_setFld_apart, State.fld_setFld_same]
  cases s.permit <;> rfl

theorem State.slotNumbered_skipped : s.slotNumbered.fld F.AUT_BEACON_SLOTS_SKIPPED = s.fld F.AUT_BEACON_SLOTS_SKIPPED := by
  rw [State.slotNumbered_fld]
  simp (disch := decide) only [State.fld_setFld_apart]

theorem State.storeSeq_frame (v : Nat) : State.Frame [] [.keys] s (s.storeSeq v) := by
  unfold State.storeSeq
  split
  · exact State.Frame.refl _ _ s
  · exact s.keys_frame _

theorem State.slotOpened_from : s.slotOpened = s.slotNumbered ∨ s.slotOpened = s.slotNumbered.storeSeq s.aut.seq := by
  unfold State.slotOpened
  split
  · exact .inr rfl
  · exact .inl rfl

/-- Storing SEQ changes the key store alone. -/
theorem State.slotOpened_stored : State.Frame [] [.keys] s.slotNumbered s.slotOpened := by
  obtain h | h := s.slotOpened_from <;> rw [h]
  · exact State.Frame.refl _ _ _
  · exact State.storeSeq_frame _ _

theorem State.slotOpened_frame : State.Frame [R.AUT_BEACON] [.aut, .warden, .keys] s s.slotOpened :=
  ((State.Frame.refl _ _ s).add s.slotNumbered_frame).add s.slotOpened_stored

theorem State.slotOpened_aut : s.slotOpened.aut = { s.aut with seq := (s.aut.seq + 1) % 2 ^ 48, lastSeq := s.aut.seq } :=
  (s.slotOpened_stored.same .aut).trans s.slotNumbered_aut

theorem State.slotOpened_fld (f : Fld) (ha : f.addr < 0x4000000) : s.slotOpened.fld f = s.slotNumbered.fld f :=
  s.slotOpened_stored.fld List.not_mem_nil ha

/-- SEQ is stored every 1,024 slots, unless NAND writes are stopped (R84, R367). -/
theorem State.slotOpened_seqStore : s.slotOpened.keys.seqStore =
    if s.aut.seq % 1024 = 0 ∧ s.nandStopped = false then some s.aut.seq else s.keys.seqStore := by
  unfold State.slotOpened
  split
  next h =>
    rw [State.storeSeq, s.slotNumbered_nandStopped]
    cases s.nandStopped with
    | true => simp [s.slotNumbered_keys]
    | false => simp [h]
  next h => simp [h, s.slotNumbered_keys]

end SlotOpened

/-! ## A skipped slot and a sealed one -/

section Sealing

variable {s : State} (hw : s.works Blk.AUT) (hact : s.isActive = true)

include hw hact in
theorem exec_tokenBlockSeal_skipped (hrun : s.fleetState = Tense.RUN) (hp : s.permit = false) :
    exec .tokenBlockSeal s = .next s.slotSkipped := by
  refine (whileOn_eq _ hw.1 hw.2).trans (congrArg Host.Outcome.next ?_)
  rw [hact, if_pos rfl, s.sealBlock_eq]
  exact if_pos (by simp [hrun, hp])

include hw hact in
theorem exec_tokenBlockSeal_sealed (h : s.fleetState ≠ Tense.RUN ∨ s.permit = true) : exec .tokenBlockSeal s = .next s.slotSealed := by
  refine (whileOn_eq _ hw.1 hw.2).trans (congrArg Host.Outcome.next ?_)
  rw [hact, if_pos rfl, s.sealBlock_eq]
  exact if_neg (by rcases h with h | h <;> simp [h])

variable (s)

theorem State.slotUnsealed_frame : State.Frame [R.AUT_BEACON] [.aut, .warden, .keys] s s.slotUnsealed :=
  ((s.slotOpened_frame.add (State.aut_frame _ _)).add (State.setFldB_frame _ 0 (f := F.AUT_BEACON_TENSE) _ (by decide)))

theorem State.setAut_fld (f : AutSt → AutSt) (g : Fld) : (s.setAut f).fld g = s.fld g := rfl

theorem State.slotSkipped_fld {f : Fld} (ha : f.addr = R.AUT_BEACON) :
    s.slotSkipped.fld f = (s.slotUnsealed.bump F.AUT_BEACON_SLOTS_SKIPPED).fld f :=
  State.raise_fld _ 0 (by decide) (by rw [ha]; decide) (by rw [ha]; decide)

theorem State.slotSkipped_skipped :
    s.slotSkipped.fld F.AUT_BEACON_SLOTS_SKIPPED = min (s.fld F.AUT_BEACON_SLOTS_SKIPPED + 1) 65535 := by
  rw [s.slotSkipped_fld rfl, State.fld_bump _ _ (by decide) (by decide) (by decide), State.slotUnsealed]
  simp (disch := decide) only [State.fld_setFld_apart, State.setAut_fld, s.slotOpened_fld, s.slotNumbered_skipped]
  rfl

theorem State.slotSkipped_tense : s.slotSkipped.fld F.AUT_BEACON_TENSE = 0 := by
  rw [s.slotSkipped_fld rfl, State.slotUnsealed]
  simp (disch := decide) only [State.fld_bump_apart, State.fld_setFld_same, Nat.zero_mod]

theorem State.slotSkipped_permit : s.slotSkipped.fld F.AUT_BEACON_PERMIT = b2n s.permit := by
  rw [s.slotSkipped_fld rfl, State.slotUnsealed]
  simp (disch := decide) only [State.fld_bump_apart, State.fld_setFld_apart, State.setAut_fld, s.slotOpened_fld, s.slotNumbered_permit]

theorem State.slotSkipped_aut :
    s.slotSkipped.aut = { s.aut with seq := (s.aut.seq + 1) % 2 ^ 48, lastSeq := s.aut.seq, sealed := none } := by
  rw [State.slotSkipped, State.raise_aut _ _ (by decide), State.bump_aut, State.slotUnsealed, State.setFld_aut, State.setAut, s.slotOpened_aut]

theorem State.slotSkipped_frame : State.ReportFrame [R.AUT_BEACON] [.aut, .warden, .keys] s s.slotSkipped :=
  State.ReportFrame.trans (by decide) (s.slotUnsealed_frame.add (State.bump_frame _ F.AUT_BEACON_SLOTS_SKIPPED 1 (by decide))).report
    ((State.raise_frame _ _ (by decide)).mono (by decide) (by decide))

theorem State.slotSealed_frame : State.Frame [R.AUT_BEACON] [.aut, .warden, .keys, .ahn, .out] s s.slotSealed :=
  ((((State.Frame.refl _ _ s).add s.slotOpened_frame).add (State.aut_frame _ _)).add
    (State.setFldB_frame _ 0 (f := F.AUT_BEACON_TENSE) _ (by decide))).add (State.mirror_frame _ _ _ _)

theorem State.slotSealed_aut : s.slotSealed.aut =
    { s.aut with seq := (s.aut.seq + 1) % 2 ^ 48, lastSeq := s.aut.seq, sealed := some s.tokenBlock } := by
  rw [State.slotSealed, State.mirror_aut, State.setFld_aut, State.setAut, s.slotOpened_aut]

theorem State.slotSealed_keys : s.slotSealed.keys = s.slotOpened.keys := by
  rw [State.slotSealed, State.mirror_keys, State.setFld_keys, State.setAut]

theorem State.fleetState_lt : s.fleetState < 4 := by
  rw [s.fleetState_eq]
  split
  · decide
  · split
    · decide
    · split <;> decide

theorem State.slotSealed_tense : s.slotSealed.fld F.AUT_BEACON_TENSE = s.fleetState := by
  rw [State.slotSealed, State.mirror_fld, State.fld_setFld_same _ _ (by decide) (by decide) (by decide)]
  exact Nat.mod_eq_of_lt s.fleetState_lt

theorem State.slotSealed_permit : s.slotSealed.fld F.AUT_BEACON_PERMIT = b2n s.permit := by
  rw [State.slotSealed, State.mirror_fld]
  simp (disch := decide) only [State.fld_setFld_apart, State.setAut_fld, s.slotOpened_fld, s.slotNumbered_permit]

end Sealing

/-! ## The bytes of a block (R82) -/

theorem Bytes.length_ofNat (n v : Nat) : (Bytes.ofNat n v).length = n := by
  induction n generalizing v with
  | zero => rfl
  | succ n ih => simp [Bytes.ofNat, ih]

theorem TokenBlock.bytes_length (b : TokenBlock) : b.bytes.length = 16 + 8 * b.cover := by
  simp only [TokenBlock.bytes, revbmBytes, List.length_append, Bytes.length_ofNat, List.length_map, List.length_range]

/-! ## The repeats of a stop frame (R99, R219) -/

/-- A channel's quiet window has ended in the present BI. -/
def State.repeatDue (s : State) (m : Nat) : Bool := decide (max 25000000 (s.quietNs m) ≤ s.biPos)

/-- The due channels, with the new frame of the present BI. -/
theorem State.stopAgain_due {s : State} {r : StopRepeat} (hlast : r.last < s.biCount) (hdue : (s.controlUp.any s.repeatDue) = true) :
    ∃ f l, s.stopAgain r = ({ r with last := s.biCount, frame := f, done := l },
      l.foldl (fun s m => s.stopOn f m) ((s.stopFrame r.tense r.cause r.seq).2.raise Ev.AIR_STOP_SENT 0)) := by
  have hne : (s.controlUp.filter s.repeatDue).isEmpty = false := by
    obtain ⟨m, hm, hd⟩ := List.any_eq_true.mp hdue
    exact List.isEmpty_eq_false_iff_exists_mem.mpr ⟨m, List.mem_filter.mpr ⟨hm, hd⟩⟩
  have hbi : ((s.stopFrame r.tense r.cause r.seq).2.raise Ev.AIR_STOP_SENT 0).biCount = s.biCount :=
    congrArg (fun t => t / nsPerBi) (State.raise_tai _ 0 (by decide))
  unfold State.repeatDue at hne
  simp only [State.stopAgain, hne, hlast, hbi, Bool.false_eq_true, if_false, if_true]
  exact ⟨_, _, rfl⟩

/-- A repeat counts for the present BI, and sends with event 138. -/
theorem State.stopAgain_sends {s : State} {r : StopRepeat} (hlast : r.last < s.biCount) (hdue : (s.controlUp.any s.repeatDue) = true) :
    s.Sends (s.stopAgain r).2 ∧ (s.stopAgain r).2.pend Ev.AIR_STOP_SENT = true ∧
      ∃ f l, (s.stopAgain r).1 = { r with last := s.biCount, frame := f, done := l } := by
  obtain ⟨f, l, h⟩ := State.stopAgain_due hlast hdue
  have hraise := (s.stopFrame r.tense r.cause r.seq).2.sends_raise Ev.AIR_STOP_SENT 0
  have hfold := State.Sends.foldl (fun s m => s.sends_stopOn f m) l ((s.stopFrame r.tense r.cause r.seq).2.raise Ev.AIR_STOP_SENT 0)
  rw [h]
  exact ⟨((s.sends_stopFrame _ _ _).trans hraise).trans hfold,
    hfold.progress.pend _ (by decide) (State.pend_raise _ _ 0), f, l, rfl⟩

theorem exec_stopFrameRepeat {s : State} {r : StopRepeat} (hw : s.works Blk.AUT) (htx : s.airTransmits = true) (hr : s.aut.stopRepeats = [r])
    (hbi : r.bi < s.biCount) (hlive : s.biCount ≤ r.bi + 2) :
    exec .stopFrameRepeat s = .next ((s.stopAgain r).2.setAut fun a => { a with stopRepeats := [(s.stopAgain r).1] }) := by
  refine (whileOn_eq _ hw.1 hw.2).trans (congrArg Host.Outcome.next ?_)
  simp only [htx, hr, hlive, hbi, List.filter_cons, List.filter_nil, decide_true, List.foldl_cons, List.foldl_nil, List.nil_append,
    Bool.not_true, Bool.false_eq_true, if_false, if_true]

/-! ## `AUT_LIFE` (R86) -/

/-- `AUT_LIFE` as a host access sees it. -/
def autLifeDesc : RegDesc :=
  ⟨R.AUT_LIFE, 1, none, [⟨F.AUT_LIFE_COVER, .rw, .within 1 32⟩, ⟨F.AUT_LIFE_LIFETIME_MS, .rw, .within 100 1000⟩], 0x3FFFFF⟩

theorem descAt_autLife : Regs.descAt R.AUT_LIFE = some autLifeDesc := by decide +kernel

/-- `AUT_LIFE` holds what was written. -/
def State.lifeStored (s : State) (w : Word) : State :=
  (s.setFld F.AUT_LIFE_COVER (F.AUT_LIFE_COVER.get w)).setFld F.AUT_LIFE_LIFETIME_MS (F.AUT_LIFE_LIFETIME_MS.get w)

section Life

variable (s : State) (w : Word)

theorem State.lifeStored_cover : (s.lifeStored w).fld F.AUT_LIFE_COVER = F.AUT_LIFE_COVER.get w := by
  rw [State.lifeStored]
  simp (disch := decide) only [State.fld_setFld_apart, State.fld_setFld_same]
  exact Nat.mod_eq_of_lt (Nat.mod_lt _ (by decide))

theorem State.lifeStored_lifetime : (s.lifeStored w).fld F.AUT_LIFE_LIFETIME_MS = F.AUT_LIFE_LIFETIME_MS.get w := by
  rw [State.lifeStored]
  simp (disch := decide) only [State.fld_setFld_same]
  exact Nat.mod_eq_of_lt (Nat.mod_lt _ (by decide))

theorem State.lifeStored_frame : State.Frame [R.AUT_LIFE] [] s (s.lifeStored w) :=
  ((State.Frame.refl _ _ s).add (s.setFldB_frame 0 (f := F.AUT_LIFE_COVER) _ (by decide))).add
    (State.setFldB_frame _ 0 (f := F.AUT_LIFE_LIFETIME_MS) _ (by decide))

theorem State.lifeStored_progress : State.Progress [R.AUT_LIFE] [] s (s.lifeStored w) :=
  (s.progress_setFld F.AUT_LIFE_COVER _).add (State.progress_setFld _ _ _)

/-- A write of `AUT_LIFE` is ignored or stored. -/
theorem State.regStore_life : s.regStore autLifeDesc 0 0 w = (s, false) ∨ s.regStore autLifeDesc 0 0 w = (s.lifeStored w, true) := by
  simp only [State.regStore]
  split
  · exact .inl rfl
  · exact .inr rfl

theorem State.regStore_life_inRange (hlo : 100 ≤ F.AUT_LIFE_LIFETIME_MS.get w) (hhi : F.AUT_LIFE_LIFETIME_MS.get w ≤ 1000)
    (hclo : 1 ≤ F.AUT_LIFE_COVER.get w) (hchi : F.AUT_LIFE_COVER.get w ≤ 32) : s.regStore autLifeDesc 0 0 w = (s.lifeStored w, true) := by
  have hcover : (s.lifeStored w).inRange 0 ⟨F.AUT_LIFE_COVER, .rw, .within 1 32⟩ = true := by
    have hv : (s.lifeStored w).fldB 0 F.AUT_LIFE_COVER = F.AUT_LIFE_COVER.get w := s.lifeStored_cover w
    simp [State.inRange, State.rangeHolds, hv, hclo, hchi]
  have hlife : (s.lifeStored w).inRange 0 ⟨F.AUT_LIFE_LIFETIME_MS, .rw, .within 100 1000⟩ = true := by
    have hv : (s.lifeStored w).fldB 0 F.AUT_LIFE_LIFETIME_MS = F.AUT_LIFE_LIFETIME_MS.get w := s.lifeStored_lifetime w
    simp [State.inRange, State.rangeHolds, hv, hlo, hhi]
  simp only [State.lifeStored, State.setFld] at hcover hlife ⊢
  simp [State.regStore, autLifeDesc, RegDesc.fieldsAt, Fld.nth, State.fieldWrite, hcover, hlife]

end Life

/-- On a module that is not a standby a write of `AUT_LIFE` changes nothing, or is stored and goes to the partner. -/
theorem State.hostReg_life {s : State} (w : Word) (hst : s.isStandby = false) :
    (s.hostReg R.AUT_LIFE w).1 = s ∨ ∃ k m, (s.hostReg R.AUT_LIFE w).1 = (s.lifeStored w).mirror k m := by
  rcases s.regStore_life w with h | h
  · left
    rw [State.hostReg, descAt_autLife]
    exact congrArg Prod.fst (State.regWrite_refused (d := autLifeDesc) (by decide) hst h)
  · right
    obtain ⟨k, m, hm⟩ := State.hostReg_stored (d := autLifeDesc) descAt_autLife rfl (by decide) hst h
    exact ⟨k, m, congrArg Prod.fst hm⟩

/-- A machine that the words below `64 * cover` leave uncovered is VALID. -/
def State.uncovers (s : State) (cover : Nat) : Bool := (List.range (2048 - 64 * cover)).any fun i => s.machValid (64 * cover + i)

theorem State.uncovers_iff (s : State) (cover : Nat) :
    s.uncovers cover = true ↔ ∃ mi < 2048, 64 * cover ≤ mi ∧ s.machValid mi = true := by
  simp only [State.uncovers, List.any_eq_true, List.mem_range]
  constructor
  · rintro ⟨i, hi, hv⟩
    exact ⟨64 * cover + i, by omega, by omega, hv⟩
  · rintro ⟨mi, hlt, hle, hv⟩
    exact ⟨mi - 64 * cover, by omega, by rwa [Nat.add_sub_cancel' hle]⟩

theorem State.coverKept (s : State) (w : Word) :
    F.AUT_LIFE_COVER.get (F.AUT_LIFE_COVER.put w (s.fld F.AUT_LIFE_COVER)) = s.fld F.AUT_LIFE_COVER :=
  (Fld.get_put_same _ _ _ (by decide) (by decide)).trans (Nat.mod_eq_of_lt (s.fldB_le 0 _))

section LifeWrite

variable {s : State} {w : Word} (hw : s.works Blk.AUT) (hst : s.isStandby = false)
include hw hst

theorem exec_coverWrite (hopen : s.uncovers (F.AUT_LIFE_COVER.get w) = false) (hr : s.regStore autLifeDesc 0 0 w = (s.lifeStored w, true)) :
    ∃ k m, exec (.coverWrite w) s = .next ((s.lifeStored w).mirror k m) := by
  obtain ⟨k, m, h⟩ := State.hostReg_stored (d := autLifeDesc) descAt_autLife rfl (by decide) hst hr
  refine ⟨k, m, (whileRunning_eq _ hw.1).trans (congrArg Host.Outcome.next ?_)⟩
  have hif : (s.isStandby || !s.uncovers (F.AUT_LIFE_COVER.get w)) = true := by rw [hopen, Bool.not_false, Bool.or_true]
  exact (if_pos hif).trans (congrArg Prod.fst h)

/-- Where COVER is refused, the write is done with the COVER there was, and event 77. -/
theorem exec_coverWrite_refused (hopen : s.uncovers (F.AUT_LIFE_COVER.get w) = true) : ∃ t, t.fld F.AUT_LIFE_COVER = s.fld F.AUT_LIFE_COVER ∧
    State.Progress [R.AUT_LIFE] [.ahn] s t ∧ exec (.coverWrite w) s = .next (t.raise Ev.AUT_COVER_REFUSED 0) := by
  have hif : ¬ (s.isStandby || !s.uncovers (F.AUT_LIFE_COVER.get w)) = true := by simp [hst, hopen]
  have hexec : exec (.coverWrite w) s =
      .next ((s.hostReg R.AUT_LIFE (F.AUT_LIFE_COVER.put w (s.fld F.AUT_LIFE_COVER))).1.raise Ev.AUT_COVER_REFUSED 0) :=
    (whileRunning_eq _ hw.1).trans (congrArg Host.Outcome.next (if_neg hif))
  refine ⟨_, ?_, ?_, hexec⟩
  · obtain h | ⟨k, m, h⟩ := State.hostReg_life (F.AUT_LIFE_COVER.put w (s.fld F.AUT_LIFE_COVER)) hst <;> rw [h]
    rw [State.mirror_fld, State.lifeStored_cover, s.coverKept]
  · obtain h | ⟨k, m, h⟩ := State.hostReg_life (F.AUT_LIFE_COVER.put w (s.fld F.AUT_LIFE_COVER)) hst <;> rw [h]
    · exact State.Progress.refl _ _ s
    · exact ((State.Progress.refl _ _ s).add (s.lifeStored_progress _)).add (State.progress_mirror _ _ _ _)

end LifeWrite

theorem exec_seqSnapshotRead {s : State} (hs : s.running = true) : exec .seqSnapshotRead s =
    .next { s.setFld F.AUT_SEQ_HI_SEQ_HI (s.aut.lastSeq / 2 ^ 32) with hostRead := BitVec.ofNat 32 s.aut.lastSeq } := by
  change execSeqSnapshotRead s = _
  rw [execSeqSnapshotRead, whileRead_eq _ hs]

/-! ## The obligation -/

/-- Settles O17: a slot is sealed or skipped, a repeat sends, and a COVER that uncovers a machine is left as it was. -/
theorem tokenBlocks : Obligations.TokenBlocks := by
  unfold Obligations.TokenBlocks
  refine ⟨fun s hw hact hrun hp => ?skipped, fun s hw hact h => ?sealed, fun s => ?block,
    fun s r hw htx hr hbi hlive hlast hdue => ?again, fun s w hw hst hv hlo hhi hclo hchi => ?cover,
    fun s w mi hw hst hmi hle hv => ?coverRefused, fun s hs => ?snapshot⟩
  case skipped =>
    refine ⟨_, exec_tokenBlockSeal_skipped hw hact hrun hp, ?_, s.slotSkipped_tense, ?_, s.slotSkipped_skipped, ?_,
      State.pend_raise _ _ 0, s.slotSkipped_frame⟩
    · rw [s.slotSkipped_aut]
    · rw [State.flag, s.slotSkipped_permit, hp]
      rfl
    · rw [s.slotSkipped_aut]
  case sealed =>
    refine ⟨_, exec_tokenBlockSeal_sealed hw hact h, ?_, ?_, ?_, s.slotSealed_tense, ?_, ?_, s.slotSealed_frame⟩
    · rw [s.slotSealed_aut]
    · rw [s.slotSealed_aut]
    · rw [s.slotSealed_aut]
    · rw [State.flag, s.slotSealed_permit]
      cases s.permit <;> rfl
    · rw [s.slotSealed_keys, s.slotOpened_seqStore]
  case block => exact ⟨rfl, rfl, rfl, rfl, s.tokenBlock.bytes_length⟩
  case again =>
    obtain ⟨hsends, hpend, f, l, hr'⟩ := State.stopAgain_sends (r := r) hlast hdue
    refine ⟨_, exec_stopFrameRepeat hw htx hr hbi hlive, ?_, hpend,
      (((State.Progress.refl [R.AIR_CNT + 8] [.aut, .air, .freeCtr] s).add hsends.progress).add (State.progress_setAut _ _)).frame⟩
    simp only [State.setAut, hr', List.map_cons, List.map_nil]
  case cover =>
    have hopen : s.uncovers (F.AUT_LIFE_COVER.get w) = false := by
      rw [Bool.eq_false_iff, ne_eq, s.uncovers_iff]
      rintro ⟨mi, hmi, hle, hvalid⟩
      exact absurd (hv mi (List.mem_range.mpr hmi) hle) (by simp [hvalid])
    obtain ⟨k, m, ht⟩ := exec_coverWrite hw hst hopen (s.regStore_life_inRange w hlo hhi hclo hchi)
    exact ⟨_, ht, (State.mirror_fld _ _ _ _ _).trans (s.lifeStored_cover w), (State.mirror_fld _ _ _ _ _).trans (s.lifeStored_lifetime w),
      ((State.Frame.refl _ _ s).add (s.lifeStored_frame w)).add (State.mirror_frame _ _ _ _)⟩
  case coverRefused =>
    obtain ⟨t, hcover, hp, ht⟩ := exec_coverWrite_refused hw hst ((s.uncovers_iff _).mpr ⟨mi, hmi, hle, hv⟩)
    have hraise := t.progress_raise Ev.AUT_COVER_REFUSED 0
    exact ⟨_, ht, hraise.fld.trans hcover, t.pend_raise _ 0, (hp.add hraise).frame⟩
  case snapshot =>
    refine ⟨_, exec_seqSnapshotRead hs, rfl, s.fld_setFld_same (f := F.AUT_SEQ_HI_SEQ_HI) _ (by decide) (by decide) (by decide), ?_⟩
    exact ((State.Frame.refl _ _ s).add (s.setFldB_frame 0 (f := F.AUT_SEQ_HI_SEQ_HI) _ (by decide))).add (State.hostRead_frame _ _)

end Sys2Proof.Machine
end

section
/-!
The lines of the pair and giving up the role (R303, R305, R315), and what follows a change of role in DMU and PWR (R312, R362).
-/

namespace Sys2Proof.Machine

/-! ## The lines -/

section Lines

variable (s : State)

theorem State.driveRole_ahn (low : Bool) : (s.driveRole low).ahn = { s.ahn with roleOut := low } := by
  unfold State.driveRole
  split
  next h => rw [← beq_iff_eq.mp h]
  next => rfl

theorem State.progress_driveRole (low : Bool) : State.Progress [] [.ahn] s (s.driveRole low) := by
  unfold State.driveRole
  split
  · exact State.Progress.refl _ _ s
  · exact (s.progress_setAhn _).add (State.progress_emit _ _)

theorem State.failUpdate_ahn : s.failUpdate.ahn = { s.ahn with failN := s.failWanted } := by
  unfold State.failUpdate
  split
  next h => rw [beq_iff_eq.mp h]
  next => rfl

theorem State.failUpdate_role : s.failUpdate.ahn.role = s.ahn.role := by
  rw [s.failUpdate_ahn]

theorem State.progress_failUpdate : State.Progress [] [.ahn] s s.failUpdate := by
  unfold State.failUpdate
  split
  · exact State.Progress.refl _ _ s
  · exact (s.progress_setAhn _).add (State.progress_emit _ _)

theorem State.sendHeartbeat_cases : s.sendHeartbeat = s ∨ ∃ e, s.sendHeartbeat = s.emit e := by
  unfold State.sendHeartbeat
  split
  · split
    · exact .inr ⟨_, rfl⟩
    · exact .inl rfl
  · exact .inl rfl

theorem State.sendHeartbeat_frame : State.Frame [] [.out] s s.sendHeartbeat := by
  obtain h | ⟨e, h⟩ := s.sendHeartbeat_cases <;> rw [h]
  · exact State.Frame.refl _ _ s
  · exact s.emit_frame e

theorem State.progress_sendHeartbeat : State.Progress [] [] s s.sendHeartbeat := by
  obtain h | ⟨e, h⟩ := s.sendHeartbeat_cases <;> rw [h]
  · exact State.Progress.refl _ _ s
  · exact s.progress_emit e

theorem State.sendHeartbeat_ahn : s.sendHeartbeat.ahn = s.ahn := s.sendHeartbeat_frame.same .ahn

end Lines

/-- What FAIL_N depends on besides the role. -/
theorem State.failWanted_congr {s t : State} (hrst : t.rst = s.rst) (hwarden : t.warden = s.warden) (hrole : t.ahn.role = s.ahn.role)
    (hpins : t.pins = s.pins) (hhpg : t.hpg = s.hpg) (hmem : t.flag F.CLS_STATUS_MEM_FAULT = s.flag F.CLS_STATUS_MEM_FAULT)
    (hstate : t.fld F.HPG_STATUS_STATE = s.fld F.HPG_STATUS_STATE) : t.failWanted = s.failWanted := by
  simp only [State.failWanted, State.running, State.removalReady, hrst, hwarden, hrole, hpins, hhpg, hmem, hstate]

theorem State.failWanted_failed {s : State} (h : s.ahn.role = .failed) : s.failWanted = true := by
  simp [State.failWanted, h]

/-! ## Giving up the role (R315) -/

section Leaving

variable (s : State)

theorem State.leaveRole_ahn (r : Role) : (s.leaveRole r).ahn =
    { s.ahn with roleOut := false, role := r, roleSince := s.roleTime r, claim := none, swap := none, interlock := false } := by
  rw [State.leaveRole, State.setAhn, s.driveRole_ahn]

theorem State.progress_leaveRole (r : Role) : State.Progress [] [.ahn] s (s.leaveRole r) :=
  (s.progress_driveRole false).add (State.progress_setAhn _ _)

theorem State.progress_release (cause : Nat) : State.Progress [] [.ahn] s (s.release cause) :=
  (((s.progress_setAhn _).add (State.progress_leaveRole _ _)).add (State.progress_sendHeartbeat _)).add (State.progress_failUpdate _)

/-- AHN of a module that a fault has made FAILED at `at'`. -/
def AhnSt.faulted (a : AhnSt) (at' : Nat) : AhnSt :=
  { a with
    role := .failed
    roleSince := at'
    roleOut := false
    claim := none
    swap := none
    interlock := false
    relCause := 3 }

/-- After a fault the module is FAILED with its role line released and FAIL_N asserted. -/
theorem State.release_failed : (s.release 3).ahn = { s.ahn.faulted (s.roleTime .failed) with failN := true } := by
  have hleft : (((s.setAhn fun a => { a with relCause := 3 }).leaveRole .failed).sendHeartbeat).ahn = s.ahn.faulted (s.roleTime .failed) := by
    rw [State.sendHeartbeat_ahn, State.leaveRole_ahn]
    rfl
  have hwant := State.failWanted_failed (congrArg AhnSt.role hleft)
  rw [State.release, if_pos rfl, State.failUpdate_ahn, hwant, hleft]

end Leaving

/-! ## What follows the role in DMU and PWR -/

/-- The registers of DMU's clocks and of the power figures. -/
def followRegs : List Nat := [R.DMU_STATUS, R.PWR_STATUS, R.PWR_TEST_STAT, R.PWR_CNT + 8, R.PWR_CNT + 12]

section Follow

variable (s : State)

theorem State.progress_dmuClock : State.Progress followRegs [.pwr] s s.dmuClock := by
  unfold State.dmuClock
  dsimp only
  split
  · exact State.Progress.refl _ _ s
  · exact ((State.Progress.refl _ _ s).add (s.progress_setFld F.DMU_STATUS_CLOCKING _)).add
      (State.Progress.foldl (fun s n => s.progress_emit (.pin (.mclk n) _)) (by decide) _ _)

theorem State.progress_testStat (unit result defer index : Nat) :
    State.Progress followRegs [.pwr] s (s.testStat unit result defer index) :=
  ((((State.Progress.refl _ _ s).add (s.progress_setFld F.PWR_TEST_STAT_UNIT _)).add (State.progress_setFld _ _ _)).add
    (State.progress_setFld _ _ _)).add (State.progress_setFld _ _ _)

theorem State.progress_pwr (v : PwrSt) : State.Progress [] [.pwr] s { s with pwr := v } :=
  .of_frame (s.pwr_frame v) (State.outKept_of_eq rfl)

theorem State.progress_testWithdraw : State.Progress followRegs [.pwr] s s.testWithdraw := by
  unfold State.testWithdraw
  split
  next t _ =>
    exact (((((State.Progress.refl _ _ s).add (s.progress_pwr _)).add (State.progress_bump _ (F.PWR_CNT_COUNT.nth 3) 1)).add
      (State.progress_testStat _ _ _ _ _)).add (State.progress_bump _ (F.PWR_CNT_COUNT.nth 2) 1)).add (State.progress_raise _ _ _)
  next => exact State.Progress.refl _ _ s

theorem State.progress_powerCheck : State.Progress followRegs [.pwr] s s.powerCheck := by
  have hover := s.progress_testWithdraw.add (State.progress_setFld _ F.PWR_STATUS_OVER 1)
  unfold State.powerCheck
  dsimp only
  split
  · split
    · exact hover
    · exact hover.add (State.progress_raise _ _ _)
  · split
    · exact (State.Progress.refl _ _ s).add (s.progress_setFld _ _)
    · exact State.Progress.refl _ _ s

theorem State.progress_roleFollow : State.Progress followRegs [.pwr] s s.roleFollow :=
  s.progress_dmuClock.add s.dmuClock.progress_powerCheck

end Follow

/-! ## A Warden fault (R102, R315) -/

/-- The permit latched off for `reason`, with event 74, before the role is given up. -/
def State.permitLatched (s : State) (reason : Nat) : State :=
  { s with warden := { s.warden with fault := reason, renewed := false } }.raise Ev.AUT_WARDEN_FAULT 0

/-- `t` is `s` after a Warden fault for `reason`. -/
structure State.WardenFaulted (reason : Nat) (s t : State) : Prop where
  fault : t.warden.fault = reason
  renewed : t.warden.renewed = false
  role : t.ahn.role = .failed
  roleOut : t.ahn.roleOut = false
  relCause : t.ahn.relCause = 3
  failN : t.ahn.failN = true
  pend : t.pend Ev.AUT_WARDEN_FAULT = true

theorem State.wardenFault_eq {s : State} (h : s.warden.fault = 0) (reason : Nat) : s.wardenFault reason = (s.permitLatched reason).release 3 :=
  if_neg (by simp [h])

/-- A first fault is recorded, and the role given up with what follows it. -/
theorem State.wardenFaulted {s : State} (h : s.warden.fault = 0) (reason : Nat) :
    State.WardenFaulted reason s (s.wardenFault reason).roleFollow := by
  rw [State.wardenFault_eq h]
  have hwarden : (s.permitLatched reason).warden = { s.warden with fault := reason, renewed := false } :=
    State.raise_warden _ _ (by decide)
  have hpend : (s.permitLatched reason).pend Ev.AUT_WARDEN_FAULT = true :=
    State.pend_raise _ _ 0
  have hp := ((State.Progress.refl followRegs [.ahn, .pwr] (s.permitLatched reason)).add (State.progress_release _ 3)).add
    (State.progress_roleFollow _)
  have hahn := ((s.permitLatched reason).release 3).progress_roleFollow.same .ahn
  have hfailed := (s.permitLatched reason).release_failed
  have hw := (hp.same .warden).trans hwarden
  have ha : (((s.permitLatched reason).release 3).roleFollow).ahn = _ := hahn.trans hfailed
  exact ⟨congrArg WardenSt.fault hw, congrArg WardenSt.renewed hw, congrArg AhnSt.role ha, congrArg AhnSt.roleOut ha,
    congrArg AhnSt.relCause ha, congrArg AhnSt.failN ha, hp.pend _ (by decide) hpend⟩

end Sys2Proof.Machine
end

section
/-!
Planned swaps and token path tests (R320–R322), and the Warden's renewal (R101, R305). The last theorem settles O47.
-/

namespace Sys2Proof.Machine

/-! ## Results of commands (R321) -/

section Results

variable (s : State)

theorem State.swapResult_result {r : Nat} (hr : r < 16) : (s.swapResult r).fld F.AHN_SWAP_RESULT = r := by
  rw [State.swapResult, State.fld_setFld_same _ _ (by decide) (by decide) (by decide)]
  exact Nat.mod_eq_of_lt hr

theorem State.swapResult_ahn (r : Nat) : (s.swapResult r).ahn = s.ahn := s.setFld_ahn _ _

theorem State.swapResult_frame (r : Nat) : State.Frame [R.AHN_SWAP] [] s (s.swapResult r) := s.setFldB_frame 0 (f := F.AHN_SWAP_RESULT) r (by decide)

theorem State.progress_swapResult (r : Nat) : State.Progress [R.AHN_SWAP] [] s (s.swapResult r) := s.progress_setFld F.AHN_SWAP_RESULT r

theorem State.swapResult_test (r : Nat) : (s.swapResult r).fld F.AHN_SWAP_TEST = s.fld F.AHN_SWAP_TEST := by
  rw [State.swapResult]
  simp (disch := decide) only [State.fld_setFld_apart]

theorem State.progress_swapRefuse (r : Nat) : State.Progress [R.AHN_SWAP, R.AHN_CNT + 12] [] s (s.swapRefuse r) :=
  (((State.Progress.refl _ _ s).add (s.progress_swapResult r)).add (State.progress_bump _ (ahnCnt 3) 1)).add (State.progress_raise _ _ _)

theorem State.swapRefuse_fld {f : Fld} (r : Nat) (hf : f.addr = R.AHN_SWAP) : (s.swapRefuse r).fld f = (s.swapResult r).fld f := by
  rw [State.swapRefuse, State.raise_fld _ _ (by decide) (by rw [hf]; decide) (by rw [hf]; decide)]
  exact State.fld_bump_other _ _ (by decide) (by rw [hf]; decide) (by rw [hf]; decide)

theorem State.swapRefuse_pend (r : Nat) : (s.swapRefuse r).pend Ev.AHN_SWAP_REFUSED = true :=
  State.pend_raise _ _ r

theorem State.swapRefuse_ahn (r : Nat) : (s.swapRefuse r).ahn = s.ahn := (s.progress_swapRefuse r).same .ahn

end Results

/-! ## SWAP and TEST -/

section Commands

variable {s : State} (hw : s.works Blk.AHN)
include hw

/-- On the active module a swap waits for no other, and for a READY partner. -/
theorem exec_ahnSwap_active {notest : Bool} (hact : s.isActive = true) (hswap : s.ahn.swap = none) (hok : s.ahn.swapOk = 0)
    (hreq : s.ahn.swapReq = 0) : exec (.ahnSwap notest) s = .next (if !s.partnerReady then s.swapRefuse 3
      else if notest then (s.swapResult 1).setAhn fun a => { a with swapOk := 1 }
      else ((s.swapResult 1).setAhn fun a => { a with swapReq := 1, swapTest := true }).sendHeartbeat) := by
  refine (whileOn_eq _ hw.1 hw.2).trans (congrArg Host.Outcome.next ?_)
  rw [State.cmdSwap, if_pos hact, if_neg (by simp [hswap, hok, hreq])]

theorem exec_ahnSwap_notReady {notest : Bool} (hact : s.isActive = false) (hrole : s.ahn.role ≠ .ready) :
    exec (.ahnSwap notest) s = .next (s.swapRefuse 7) := by
  refine (whileOn_eq _ hw.1 hw.2).trans (congrArg Host.Outcome.next ?_)
  rw [State.cmdSwap, if_neg (by simp [hact]), if_pos (by simpa using hrole)]

/-- A READY standby at basic level tests its token path first. -/
theorem exec_ahnSwap_ready (hrole : s.ahn.role = .ready) (hreq : s.ahn.swapReq = 0) (hplan : s.ahn.planned = 0) (htest : s.ahn.test = none)
    (hx : s.expert Blk.AHN = false) : exec (.ahnSwap false) s =
      .next ((s.swapResult 1).setAhn fun a => { a with test := some (s.swapResult 1).mono, testThenSwap := true }) := by
  have hact : s.isActive = false := by simp [State.isActive, hrole]
  have hnone : ¬ (s.swapResult 1).ahn.test.isSome = true := by simp [State.swapResult_ahn, htest]
  refine (whileOn_eq _ hw.1 hw.2).trans (congrArg Host.Outcome.next ?_)
  rw [State.cmdSwap, if_neg (by simp [hact]), if_neg (by simp [hrole]), if_neg (by simp [hreq, hplan, htest]), if_neg (by simp [hx]),
    if_neg Bool.false_ne_true, State.tokenTest, if_neg hnone]

theorem exec_tokenPathTest_ready (hrole : s.ahn.role = .ready) (htest : s.ahn.test = none) : exec .tokenPathTest s =
    .next ((s.swapResult 1).setAhn fun a => { a with test := some (s.swapResult 1).mono, testThenSwap := false }) := by
  have hnone : ¬ (s.swapResult 1).ahn.test.isSome = true := by simp [State.swapResult_ahn, htest]
  refine (whileOn_eq _ hw.1 hw.2).trans (congrArg Host.Outcome.next ?_)
  rw [State.cmdTest, if_neg (by simp [hrole]), if_neg (by simp [htest]), State.tokenTest, if_neg hnone]

theorem exec_tokenPathTest_notReady (hrole : s.ahn.role ≠ .ready) : exec .tokenPathTest s = .next (s.swapRefuse 7) := by
  refine (whileOn_eq _ hw.1 hw.2).trans (congrArg Host.Outcome.next ?_)
  rw [State.cmdTest, if_pos (by simpa using hrole)]

/-- A test that passes and was no part of a swap. -/
theorem exec_tokenTestEnd_pass {at' : Nat} (htest : s.ahn.test = some at') (hdue : s.passed at' (3 * nsPerBi) = true)
    (hact : s.isActive = false) (hswap : s.ahn.testThenSwap = false) :
    exec (.tokenTestEnd true) s = .next ((s.testShow true).swapResult 2) := by
  refine (whileOn_eq _ hw.1 hw.2).trans (congrArg Host.Outcome.next ?_)
  simp only [htest, hact, hdue, hswap, Bool.not_true, Bool.not_false, Bool.or_self, Bool.false_eq_true, if_false, if_true]

/-- A standby whose test has failed, before its result is shown. -/
def State.testFailed (s : State) : State :=
  ((s.testShow false).leaveRole .failed).setAhn fun a => { a with swapNak := s.testAsked && s.ahn.testThenSwap }

theorem exec_tokenTestEnd_fail {at' : Nat} (htest : s.ahn.test = some at') (hdue : s.passed at' (3 * nsPerBi) = true)
    (hact : s.isActive = false) : exec (.tokenTestEnd false) s =
      .next (if s.ahn.testThenSwap && !s.testAsked then s.testFailed.swapRefuse 4 else s.testFailed.swapResult 2).failUpdate.sendHeartbeat := by
  refine (whileOn_eq _ hw.1 hw.2).trans (congrArg Host.Outcome.next ?_)
  simp only [htest, hact, hdue, Bool.not_true, Bool.not_false, Bool.or_self, Bool.false_eq_true, if_false, if_true]
  rfl

theorem exec_plannedSwapAccept (hact : s.isActive = true) (hok : s.ahn.swapOk ≠ 0) (hswap : s.ahn.swap = none) :
    exec .plannedSwapAccept s = .next (if !s.partnerReady then s.swapDrop 3
      else (s.setAhn fun a => { a with
        swap := some ⟨s.ahn.swapOk, s.swapSlot, false⟩, swapOk := 0, swapReq := if s.ahn.swapOk = 7 then 0 else s.ahn.swapOk,
        swapTest := false }).sendHeartbeat) := by
  refine (whileOn_eq _ hw.1 hw.2).trans (congrArg Host.Outcome.next ?_)
  rw [if_pos (by simpa [hact] using hok), State.swapStart, if_neg (by simp [hswap])]

end Commands

/-- The slot of a swap is 8 to 58 ms ahead (R320). -/
theorem State.swapSlot_window (s : State) : s.mono + 8000000 ≤ s.swapSlot ∧ s.swapSlot ≤ s.mono + 58000000 := by
  have hbi : s.biPos < 50000000 := Nat.mod_lt _ (by decide)
  simp only [State.swapSlot, show nsPerBi = 50000000 from rfl, show nsPerMs = 1000000 from rfl]
  split <;> omega

/-! ## What a test that ends leaves -/

section TestEnd

variable (s : State)

theorem State.testShow_ahn (pass : Bool) : (s.testShow pass).ahn = { s.ahn with test := none } := by
  rw [State.testShow, State.raiseWith_ahn _ _ _ _ (by decide), State.setFld_ahn, State.setAhn]

theorem State.testShow_test (pass : Bool) : (s.testShow pass).fld F.AHN_SWAP_TEST = if pass then 1 else 2 := by
  have h : (s.testShow pass).fld F.AHN_SWAP_TEST =
      ((s.setAhn fun a => { a with test := none }).setFld F.AHN_SWAP_TEST (if pass then 1 else 2)).fld F.AHN_SWAP_TEST :=
    (State.progress_raiseWith _ Ev.AHN_TOKEN_TEST _ _ _).fld
  rw [h, State.fld_setFld_same _ _ (by decide) (by decide) (by decide)]
  cases pass <;> rfl

theorem State.testShow_pend (pass : Bool) : (s.testShow pass).pend Ev.AHN_TOKEN_TEST = true :=
  State.pend_raiseWith_of _ _ _ _ (by decide) (by decide) (.inl rfl)

theorem State.progress_testShow (pass : Bool) : State.Progress [R.AHN_SWAP] [.ahn] s (s.testShow pass) :=
  (((State.Progress.refl _ _ s).add (s.progress_setAhn _)).add (State.progress_setFld _ F.AHN_SWAP_TEST _)).add
    (State.progress_raiseWith _ _ _ _ _)

/-- The standby is FAILED, and its role line released. -/
theorem State.testFailed_ahn : s.testFailed.ahn.role = .failed ∧ s.testFailed.ahn.roleOut = false ∧ s.testFailed.ahn.test = none := by
  have h : s.testFailed.ahn = { ((s.testShow false).leaveRole .failed).ahn with swapNak := s.testAsked && s.ahn.testThenSwap } := rfl
  rw [h, State.leaveRole_ahn, s.testShow_ahn]
  exact ⟨rfl, rfl, rfl⟩

theorem State.testFailed_later : State.Progress [] [.ahn] (s.testShow false) s.testFailed :=
  ((s.testShow false).progress_leaveRole .failed).add (State.progress_setAhn _ _)

/-- Showing the result changes nothing of AHN, and the test's own field stays. -/
theorem State.resultShown (u : State) (c : Bool) : (if c then u.swapRefuse 4 else u.swapResult 2).ahn = u.ahn ∧
    (if c then u.swapRefuse 4 else u.swapResult 2).fld F.AHN_SWAP_TEST = u.fld F.AHN_SWAP_TEST ∧
    State.Progress [R.AHN_SWAP, R.AHN_CNT + 12] [] u (if c then u.swapRefuse 4 else u.swapResult 2) := by
  cases c with
  | false =>
    rw [if_neg Bool.false_ne_true]
    exact ⟨u.swapResult_ahn 2, u.swapResult_test 2, (u.progress_swapResult 2).widen⟩
  | true =>
    rw [if_pos rfl]
    exact ⟨u.swapRefuse_ahn 4, (u.swapRefuse_fld 4 rfl).trans (u.swapResult_test 4), u.progress_swapRefuse 4⟩

end TestEnd

/-! ## The Warden's renewal (R101, R305) -/

/-- What the Warden takes from the strobe and the Token Engine. -/
def State.wardenTook (s : State) (strobeOk : Bool) : State :=
  s.setWarden { s.warden with
    renewed := s.wardenIssues strobeOk, strobeFails := if strobeOk then 0 else 1, seq := if s.isActive then s.warden.seq else none }

/-- The Warden's count does not contradict what the Token Engine reports. -/
def State.seqAgrees (s : State) (n : Nat) : Prop := s.warden.seq = none ∨ s.warden.seq = some n ∨ s.isActive = false

theorem State.seqAgrees.checked {s : State} {n : Nat} (h : s.seqAgrees n) : (s.isActive && (match s.warden.seq with
    | some k => k != n
    | none => false)) = false := by
  rcases h with h | h | h <;> simp [h]

/-- A stop input asserted, or the latch set. -/
def State.stopStands (s : State) : Prop := s.pins.stopALow = true ∨ s.pins.stopBLow = true ∨ s.aut.fsLatch = true

theorem State.wardenWithhold_stop {s : State} (h : s.stopStands) : s.wardenWithhold true ≠ 0 := by
  unfold State.wardenWithhold
  rcases h with h | h | h
  · simp [h]
  · simp [h]
  · rw [h, if_pos rfl]
    split_ifs <;> decide

theorem State.wardenIssues_stop {s : State} (h : s.stopStands) : s.wardenIssues true = false := by
  rcases h with h | h | h <;> simp [State.wardenIssues, h]

section Renewal

variable {s : State} (hw : s.works Blk.AUT) (hf : s.warden.fault = 0)
include hw hf

theorem exec_wardenRenewal {n : Nat} (hseq : s.seqAgrees n) (hk : s.kickLate = false) : exec (.wardenRenewal true n) s =
    .next (if s.wardenWithhold true = 0 then s.wardenTook true
      else ((s.wardenTook true).bump F.AUT_WARDEN_WITHHELD).raise Ev.AUT_WARDEN_WITHHELD (s.wardenWithhold true)).roleFollow := by
  refine (whileOn_eq _ hw.1 hw.2).trans (congrArg (fun t : State => Host.Outcome.next t.roleFollow) ?_)
  rw [State.wardenRenewal, if_neg (by simp [hf]), if_neg (by simp)]
  refine (if_neg (Bool.eq_false_iff.mp hseq.checked)).trans ?_
  rw [if_neg (by simp [hk])]
  rfl

theorem exec_wardenRenewal_missed {n : Nat} (h : s.warden.strobeFails ≠ 0) :
    exec (.wardenRenewal false n) s = .next (s.wardenFault 2).roleFollow := by
  refine (whileOn_eq _ hw.1 hw.2).trans (congrArg (fun t : State => Host.Outcome.next t.roleFollow) ?_)
  rw [State.wardenRenewal, if_neg (by simp [hf]), if_pos (by simpa using h)]

theorem exec_wardenRenewal_wrongSeq {n m : Nat} (hact : s.isActive = true) (hm : s.warden.seq = some m) (hne : m ≠ n) :
    exec (.wardenRenewal true n) s = .next (s.wardenFault 3).roleFollow := by
  refine (whileOn_eq _ hw.1 hw.2).trans (congrArg (fun t : State => Host.Outcome.next t.roleFollow) ?_)
  rw [State.wardenRenewal, if_neg (by simp [hf]), if_neg (by simp), hact, hm]
  exact if_pos (by simpa using hne)

end Renewal

/-- The Warden's self-test has passed. -/
def State.tested (s : State) : State := s.setWarden { s.warden with selfTest := true }

/-! ## The obligation -/

theorem State.progress_setWarden (s : State) (v : WardenSt) : State.Progress [] [.warden] s (s.setWarden v) :=
  .of_frame (s.setWarden_frame v) (State.outKept_of_eq rfl)

/-- Settles O47: commands of AHN by their results, and the Warden by its renewal and by the faults that give up the role. -/
theorem swapsAndWarden : Obligations.SwapsAndWarden := by
  unfold Obligations.SwapsAndWarden
  refine ⟨fun s hw hact hswap hok hreq hr => ?swapNow, fun s hw hact hswap hok hreq hr => ?swapTested,
    fun s notest hw hact hswap hok hreq hr => ?swapAlone, fun s notest hw hact hrole => ?swapElsewhere,
    fun s hw hrole hreq hplan htest hx => ?swapReady, fun s hw hrole htest => ?testReady, fun s hw hrole => ?testElsewhere,
    fun s at' hw htest hdue hact hswap => ?testPassed, fun s at' hw htest hdue hact => ?testFailed,
    fun s hw hact hok hswap hr => ?accepted, fun s hw hact hok hswap hr => ?dropped,
    fun s n hw hf hseq hk ha hb hrole hl => ?renewed, fun s n hw hf hseq hk hstop => ?withheld, fun s n hw hf hmiss => ?missed,
    fun s n m hw hf hact hm hne => ?wrongSeq, fun s hs hf => ?lockstep, fun s hw hk hf => ?kickLate, fun s hw hk => ?kickInTime,
    fun s hs => ?tested, fun s hs hf => ?testFault⟩
  case swapNow =>
    have ht := exec_ahnSwap_active hw (notest := true) hact hswap hok hreq
    rw [hr, if_neg (by decide), if_pos rfl] at ht
    exact ⟨_, ht, s.swapResult_result (by decide), congrArg (fun a : AhnSt => { a with swapOk := 1 }) (s.swapResult_ahn 1),
      ((State.Frame.refl _ _ s).add (s.swapResult_frame 1)).add (State.ahn_frame _ _)⟩
  case swapTested =>
    have ht := exec_ahnSwap_active hw (notest := false) hact hswap hok hreq
    rw [hr, if_neg (by decide), if_neg (by decide)] at ht
    refine ⟨_, ht, ?_, ?_, (((State.Frame.refl _ _ s).add (s.swapResult_frame 1)).add (State.ahn_frame _ _)).add (State.sendHeartbeat_frame _)⟩
    · exact (State.sendHeartbeat_frame _).fld.trans (s.swapResult_result (by decide))
    · rw [State.sendHeartbeat_ahn]
      exact congrArg (fun a : AhnSt => { a with swapReq := 1, swapTest := true }) (s.swapResult_ahn 1)
  case swapAlone =>
    have ht := exec_ahnSwap_active hw (notest := notest) hact hswap hok hreq
    rw [hr, if_pos (by decide)] at ht
    exact ⟨_, ht, (s.swapRefuse_fld 3 rfl).trans (s.swapResult_result (by decide)), s.swapRefuse_ahn 3, s.swapRefuse_pend 3,
      (s.progress_swapRefuse 3).frame⟩
  case swapElsewhere =>
    exact ⟨_, exec_ahnSwap_notReady hw hact hrole, (s.swapRefuse_fld 7 rfl).trans (s.swapResult_result (by decide)), s.swapRefuse_ahn 7,
      s.swapRefuse_pend 7⟩
  case swapReady =>
    refine ⟨_, exec_ahnSwap_ready hw hrole hreq hplan htest hx, s.swapResult_result (by decide), ?_,
      ((State.Frame.refl _ _ s).add (s.swapResult_frame 1)).add (State.ahn_frame _ _)⟩
    rw [State.setAhn, s.swapResult_ahn, State.swapResult, State.setFld_mono]
  case testReady =>
    refine ⟨_, exec_tokenPathTest_ready hw hrole htest, s.swapResult_result (by decide), ?_,
      ((State.Frame.refl _ _ s).add (s.swapResult_frame 1)).add (State.ahn_frame _ _)⟩
    rw [State.setAhn, s.swapResult_ahn, State.swapResult, State.setFld_mono]
  case testElsewhere =>
    exact ⟨_, exec_tokenPathTest_notReady hw hrole, (s.swapRefuse_fld 7 rfl).trans (s.swapResult_result (by decide)), s.swapRefuse_ahn 7,
      s.swapRefuse_pend 7⟩
  case testPassed =>
    refine ⟨_, exec_tokenTestEnd_pass hw htest hdue hact hswap, (State.swapResult_ahn _ _).trans (s.testShow_ahn true),
      (State.swapResult_test _ _).trans (s.testShow_test true), State.swapResult_result _ (by decide),
      (State.progress_swapResult _ _).pend _ (by decide) (s.testShow_pend true),
      ((s.progress_testShow true).add (State.progress_swapResult _ _)).frame⟩
  case testFailed =>
    obtain ⟨hahn, htest', hp⟩ := s.testFailed.resultShown (s.ahn.testThenSwap && !s.testAsked)
    have ht := exec_tokenTestEnd_fail hw htest hdue hact
    generalize (if s.ahn.testThenSwap && !s.testAsked then s.testFailed.swapRefuse 4 else s.testFailed.swapResult 2) = u at hahn htest' hp ht
    obtain ⟨hrole, hout, hnone⟩ := s.testFailed_ahn
    rw [← hahn] at hrole hout hnone
    have hlast := u.progress_failUpdate.add u.failUpdate.progress_sendHeartbeat
    have ha : u.failUpdate.sendHeartbeat.ahn = { u.ahn with failN := true } := by
      rw [State.sendHeartbeat_ahn, u.failUpdate_ahn, State.failWanted_failed hrole]
    refine ⟨_, ht, (congrArg AhnSt.role ha).trans hrole, (congrArg AhnSt.roleOut ha).trans hout, congrArg AhnSt.failN ha,
      (congrArg AhnSt.test ha).trans hnone, ?_, ?_⟩
    · exact ((hlast.fld.trans htest').trans s.testFailed_later.fld).trans (s.testShow_test false)
    · exact hlast.pend _ (by decide) (hp.pend _ (by decide) (s.testFailed_later.pend _ (by decide) (s.testShow_pend false)))
  case accepted =>
    have ht := exec_plannedSwapAccept hw hact hok hswap
    rw [hr, if_neg (by decide)] at ht
    refine ⟨_, ⟨s.ahn.swapOk, s.swapSlot, false⟩, ht, ?_, rfl, rfl, s.swapSlot_window.1, s.swapSlot_window.2, ?_, ?_,
      ((State.Frame.refl _ _ s).add (s.ahn_frame _)).add (State.sendHeartbeat_frame _)⟩
    · rw [State.sendHeartbeat_ahn]
      rfl
    · rw [State.sendHeartbeat_ahn]
      rfl
    · rw [State.sendHeartbeat_ahn]
      exact beq_iff_eq.mp hact
  case dropped =>
    have ht := exec_plannedSwapAccept hw hact hok hswap
    rw [hr, if_pos (by decide)] at ht
    have ha : (s.swapDrop 3).ahn = { s.ahn with swap := none, swapReq := 0, swapTest := false, swapOk := 0 } := State.swapRefuse_ahn _ 3
    exact ⟨_, ht, congrArg AhnSt.swap ha, congrArg AhnSt.swapOk ha, (congrArg AhnSt.role ha).trans (beq_iff_eq.mp hact),
      (State.swapRefuse_fld _ 3 rfl).trans (State.swapResult_result _ (by decide)), State.swapRefuse_pend _ 3⟩
  case renewed =>
    have hwith : s.wardenWithhold true = 0 := by simp [State.wardenWithhold, ha, hb, hrole, hl]
    have ht := exec_wardenRenewal hw hf hseq hk
    rw [hwith, if_pos rfl] at ht
    have hfol := (s.wardenTook true).progress_roleFollow
    have hwarden : (s.wardenTook true).roleFollow.warden = (s.wardenTook true).warden := hfol.same .warden
    refine ⟨_, ht, ?_, (congrArg WardenSt.fault hwarden).trans hf, congrArg WardenSt.strobeFails hwarden,
      hfol.fld.trans (s.progress_setWarden _).fld⟩
    rw [hwarden]
    simp [State.wardenTook, State.setWarden, State.wardenIssues, ha, hb, hl, hrole]
  case withheld =>
    have ht := exec_wardenRenewal hw hf hseq hk
    rw [if_neg (State.wardenWithhold_stop hstop)] at ht
    have hcount : ((s.wardenTook true).bump F.AUT_WARDEN_WITHHELD).fld F.AUT_WARDEN_WITHHELD =
        min (s.fld F.AUT_WARDEN_WITHHELD + 1) (2 ^ 15 - 1) :=
      State.fld_bump (s.wardenTook true) 1 (by decide) (by decide) (by decide)
    have hpend : (((s.wardenTook true).bump F.AUT_WARDEN_WITHHELD).raise Ev.AUT_WARDEN_WITHHELD (s.wardenWithhold true)).pend
        Ev.AUT_WARDEN_WITHHELD = true := State.pend_raise _ _ _
    have hraise := ((s.wardenTook true).bump F.AUT_WARDEN_WITHHELD).progress_raise Ev.AUT_WARDEN_WITHHELD (s.wardenWithhold true)
    have hfol := (((s.wardenTook true).bump F.AUT_WARDEN_WITHHELD).raise Ev.AUT_WARDEN_WITHHELD (s.wardenWithhold true)).progress_roleFollow
    have hwarden := (hfol.same .warden).trans ((hraise.same .warden).trans (State.bump_warden (s.wardenTook true) _ _))
    refine ⟨_, ht, ?_, (congrArg WardenSt.fault hwarden).trans hf, hfol.fld.trans (hraise.fld.trans hcount), hfol.pend _ (by decide) hpend⟩
    exact (congrArg WardenSt.renewed hwarden).trans (State.wardenIssues_stop hstop)
  case missed =>
    have h := State.wardenFaulted hf 2
    exact ⟨_, exec_wardenRenewal_missed hw hf hmiss, h.fault, h.renewed, h.role, h.failN, h.pend⟩
  case wrongSeq =>
    have h := State.wardenFaulted hf 3
    exact ⟨_, exec_wardenRenewal_wrongSeq hw hf hact hm hne, h.fault, h.renewed, h.role, h.roleOut⟩
  case lockstep =>
    have h := State.wardenFaulted hf 1
    exact ⟨_, whileRunning_eq _ hs, h.fault, h.renewed, h.role, h.roleOut, h.relCause, h.failN, h.pend⟩
  case kickLate =>
    have h := State.wardenFaulted hf 4
    exact ⟨_, (whileOn_eq _ hw.1 hw.2).trans (congrArg Host.Outcome.next (if_pos hk)), h.fault, h.role, h.failN, h.pend⟩
  case kickInTime => exact (whileOn_eq _ hw.1 hw.2).trans (congrArg Host.Outcome.next (if_neg (by simp [hk])))
  case tested =>
    have hup : s.tested.failUpdate.failWanted = s.tested.failWanted := by
      have hp := s.tested.progress_failUpdate
      exact State.failWanted_congr (hp.same .rst) (hp.same .warden) s.tested.failUpdate_role (hp.same .pins)
        (hp.same .hpg) hp.flag hp.fld
    have hfol := s.tested.failUpdate.progress_roleFollow
    have ha : s.tested.failUpdate.roleFollow.ahn = _ := (hfol.same .ahn).trans s.tested.failUpdate_ahn
    have hwant := State.failWanted_congr (hfol.same .rst) (hfol.same .warden) (congrArg AhnSt.role (hfol.same .ahn)) (hfol.same .pins)
      (hfol.same .hpg) hfol.flag hfol.fld
    refine ⟨_, whileRunning_eq _ hs, (hfol.same .warden).trans (s.tested.progress_failUpdate.same .warden),
      (congrArg AhnSt.role (hfol.same .ahn)).trans s.tested.failUpdate_role, ?_⟩
    exact (congrArg AhnSt.failN ha).trans (hwant.trans hup).symm
  case testFault =>
    have h := State.wardenFaulted hf 5
    exact ⟨_, whileRunning_eq _ hs, h.fault, h.role, h.failN⟩

end Sys2Proof.Machine
end

section
/-!
Channel access and the duty window (R221–R223): a frame that waits listens, is sent, deferred or dropped, and the window keeps the last
3,600 s.
-/

namespace Sys2Proof.Machine

/-! ## Frames that wait (R221, R222) -/

theorem State.airQueue_mem {s : State} {m : Nat} {prio : Bool} {w : AirWait} (h : (s.airQueue m prio).head? = some w) :
    w.modem = m ∧ w.prio = prio := by
  have hm := List.mem_of_head? h
  simpa [State.airQueue] using (List.mem_filter.mp hm).2

theorem State.progress_airUnwait (s : State) (w : AirWait) : State.Progress [] [.air] s (s.airUnwait w) := s.progress_air _

section Access

variable {s : State} {m : Nat} {w : AirWait} (hw : s.works Blk.AIR)
include hw

/-- The oldest normal frame of a modem, its wait over, has its turn. -/
theorem exec_lbtBackoffExpiry (busy : Bool) (h : (s.airQueue m false).head? = some w) (hu : w.until' ≤ s.mono) :
    exec (.lbtBackoffExpiry m busy) s = .next ((s.airUnwait w).airTurn w busy) := by
  refine (whileOn_eq _ hw.1 hw.2).trans (congrArg Host.Outcome.next ?_)
  rw [h]
  exact if_neg (Nat.not_lt.mpr hu)

/-- The oldest priority frame of a modem, blocked for PRIO_WAIT. -/
theorem exec_prioWaitExpiry_dropped (h : (s.airQueue m true).head? = some w) (hu : w.until' ≤ s.mono)
    (hp : w.since + s.fld F.AIR_LBT_PRIO_WAIT_MS * 1000000 ≤ s.mono) : exec (.prioWaitExpiry m) s =
      .next (((s.airUnwait w).bump (F.AIR_CNT_COUNT.nth 6)).raise Ev.AIR_PRIO_DROPPED 0) := by
  have hpast : s.passed w.since (s.fld F.AIR_LBT_PRIO_WAIT_MS * nsPerMs) = true := decide_eq_true hp
  refine (whileOn_eq _ hw.1 hw.2).trans (congrArg Host.Outcome.next ?_)
  simp only [h, hpast, Nat.not_lt.mpr hu, if_false, if_true]

end Access

section Turn

variable {s : State} {w : AirWait}

theorem State.airTurn_listens {busy : Bool} (hfull : s.dutyFull w.modem = false)
    (hmay : s.mayStart w.modem (s.airStart w.modem 160000) (s.frameNs w.modem 0 w.frame) = true) :
    s.airTurn w busy = if busy then s.airBusy w else s.airPut w.modem 0 (s.airStart w.modem 160000) w.frame := by
  simp only [State.airTurn, hfull, hmay, Bool.not_true, Bool.false_eq_true, if_false]

theorem State.airTurn_deferred {busy : Bool} (hfull : s.dutyFull w.modem = true) (hd : w.deferred = false) :
    s.airTurn w busy = s.dutyDefer.airHold { w with deferred := true } := by
  simp only [State.airTurn, hfull, hd, Bool.false_eq_true, if_false, if_true]

/-- The wait after a busy listen, `v` drawn: one more busy listen, and a higher exponent. -/
def AirWait.backedOff (w : AirWait) (now beMax v : Nat) : AirWait :=
  ⟨w.modem, w.frame, w.prio, w.busy + 1, min (w.be + 1) beMax, w.since, now + 160000 + v % 2 ^ w.be * 320000, w.deferred⟩

theorem State.airBusy_backsOff (h : w.busy < 4) :
    s.airBusy w = s.draw.2.airHold (w.backedOff s.mono (s.fld F.AIR_LBT_BE_MAX) s.draw.1) :=
  if_neg (by omega)

theorem State.airBusy_dropped (h : 4 ≤ w.busy) : s.airBusy w = s := if_pos (by omega)

end Turn

/-! ## The duty window (R223) -/

/-- A counter of AIR counts 32 bits. -/
theorem State.fld_bump_airCnt (s : State) {n : Nat} (hn : n < 8) : (s.bump (F.AIR_CNT_COUNT.nth n)).fld (F.AIR_CNT_COUNT.nth n) =
    min (s.fld (F.AIR_CNT_COUNT.nth n) + 1) (2 ^ 32 - 1) :=
  s.fld_bump 1 (by simp only [Fld.nth, R.AIR_CNT]; omega) (Nat.zero_le 31) (Nat.lt_succ_self 31)

/-- The duty counter, counted. -/
def State.deferCounted (s : State) : State := s.bump (F.AIR_CNT_COUNT.nth 7)

theorem State.dutyDefer_eq (s : State) : s.dutyDefer = if dueSince s.deferCounted s.deferCounted.air.lastDefer (60 * nsPerSec) then
    ({ s.deferCounted with air := { s.deferCounted.air with lastDefer := some s.deferCounted.mono } }).raise Ev.AIR_DUTY_DEFER 0
  else s.deferCounted := rfl

/-- A deferred frame is counted, and the time of event 143 may be taken. -/
theorem State.dutyDefer_leaves (s : State) : (∃ k, s.dutyDefer.air = { s.air with lastDefer := k }) ∧
    s.dutyDefer.fld (F.AIR_CNT_COUNT.nth 7) = min (s.fld (F.AIR_CNT_COUNT.nth 7) + 1) (2 ^ 32 - 1) ∧
    State.Progress [R.AIR_CNT + 28] [.air] s s.dutyDefer := by
  have hcount : s.deferCounted.fld (F.AIR_CNT_COUNT.nth 7) = min (s.fld (F.AIR_CNT_COUNT.nth 7) + 1) (2 ^ 32 - 1) :=
    s.fld_bump_airCnt (by decide)
  have hair : s.deferCounted.air = s.air := s.bump_air _ _
  have hp : State.Progress [R.AIR_CNT + 28] [.air] s s.deferCounted := (s.progress_bump (F.AIR_CNT_COUNT.nth 7) 1).widen
  rw [s.dutyDefer_eq]
  generalize s.deferCounted = u at hcount hair hp
  split
  · have hset := (u.progress_air { u.air with lastDefer := some u.mono }).add (State.progress_raise _ Ev.AIR_DUTY_DEFER 0)
    refine ⟨⟨some u.mono, ?_⟩, hset.fld.trans hcount, hp.add hset⟩
    rw [State.raise_air _ _ (by decide), hair]
  · exact ⟨⟨s.air.lastDefer, hair⟩, hcount, hp⟩

/-- The first deferral comes with event 143. -/
theorem State.dutyDefer_pend {s : State} (h : s.air.lastDefer = none) : s.dutyDefer.pend Ev.AIR_DUTY_DEFER = true := by
  have hnone : s.deferCounted.air.lastDefer = none := (congrArg AirSt.lastDefer (s.bump_air _ _)).trans h
  have hdue : dueSince s.deferCounted s.deferCounted.air.lastDefer (60 * nsPerSec) = true := by rw [hnone]; rfl
  rw [s.dutyDefer_eq, if_pos hdue]
  exact State.pend_raise _ Ev.AIR_DUTY_DEFER 0

/-- The buckets of the last 3,600 s before second `sec`. -/
def lastHour (sec : Nat) (l : List (Nat × Nat)) : List (Nat × Nat) := l.filter fun e => decide (sec < e.1 + 3600)

theorem lastHour_idem (sec : Nat) (l : List (Nat × Nat)) : lastHour sec (lastHour sec l) = lastHour sec l := by
  simp [lastHour, List.filter_filter]

theorem SMap.get_of_not_mem_keys {α : Type} (m : SMap α) (d : α) {k : Nat} (h : k ∉ m.keys) : m.get d k = d := by
  induction m with
  | nil => rfl
  | cons e m ih =>
    obtain ⟨k', v⟩ := e
    simp only [SMap.keys, List.map_cons, List.mem_cons, not_or] at h
    rw [SMap.get, if_neg h.1, ih h.2]

/-- An idempotent change at the keys of a list is made once at each of them. -/
theorem SMap.get_foldl_set {α : Type} [DecidableEq α] (d : α) {f : α → α} (hf : ∀ v, f (f v) = f v) (l : List Nat) (m : SMap α) (k : Nat) :
    (l.foldl (fun m j => m.set d j (f (m.get d j))) m).get d k = if k ∈ l then f (m.get d k) else m.get d k := by
  induction l generalizing m with
  | nil => rfl
  | cons j l ih =>
    rw [List.foldl_cons, ih, SMap.get_set]
    by_cases hk : k = j
    · subst hk
      simp [hf]
    · simp [hk]

/-- Every modem's airtime of the last 3,600 s, and none before. -/
theorem SMap.get_lastHours (duty : SMap (List (Nat × Nat))) (sec m : Nat) :
    (duty.keys.foldl (fun d m => d.set [] m (lastHour sec (d.get [] m))) duty).get [] m = lastHour sec (duty.get [] m) := by
  rw [SMap.get_foldl_set [] (lastHour_idem sec)]
  split
  next => rfl
  next h => rw [SMap.get_of_not_mem_keys _ _ h]; rfl

/-- The window of every modem at device time now. -/
def State.dutyWindow (s : State) : SMap (List (Nat × Nat)) :=
  s.air.duty.keys.foldl (fun d m => d.set [] m (lastHour (s.tai / nsPerSec) (d.get [] m))) s.air.duty

theorem exec_dutyWindowTick {s : State} (hw : s.works Blk.AIR) :
    exec .dutyWindowTick s = .next { s with air := { s.air with duty := s.dutyWindow } }.airChanMirror := whileOn_eq _ hw.1 hw.2

end Sys2Proof.Machine
end

section
/-!
The downlink burst (R212, R227, R231–R234): its GRANT frame, and the records that wait.
-/

namespace Sys2Proof.Machine

/-! ## What a burst changes -/

/-- The registers a burst changes: grants shown, and counters of AIR. -/
def burstRegs : List Nat := [R.AIR_MACH_GRANT0, R.AIR_MACH_GRANT1, R.AIR_MACH_GRANT2, R.AIR_CNT + 8, R.AIR_CNT + 20, R.AIR_CNT + 28]

/-- `t` is `s` after steps of a burst that leave the waiting records. -/
structure State.Bursts (s t : State) : Prop where
  progress : State.Progress burstRegs [.air, .ahn, .freeCtr] s t
  role : t.ahn.role = s.ahn.role
  recs : t.air.recs = s.air.recs

theorem State.Bursts.refl (s : State) : s.Bursts s := ⟨.refl _ _ s, rfl, rfl⟩

theorem State.Bursts.trans {s t u : State} (h : s.Bursts t) (k : t.Bursts u) : s.Bursts u :=
  ⟨h.progress.add k.progress, k.role.trans h.role, k.recs.trans h.recs⟩

theorem State.Bursts.foldl {α : Type} {f : State → α → State} (hf : ∀ s a, State.Bursts s (f s a)) (l : List α) (s : State) :
    s.Bursts (l.foldl f s) := by
  induction l generalizing s with
  | nil => exact State.Bursts.refl s
  | cons a l ih => exact (hf s a).trans (ih _)

theorem State.Sends.bursts {s t : State} (h : s.Sends t) : s.Bursts t := by
  obtain ⟨_, _, _, _, ha⟩ := h.air
  exact ⟨h.progress.widen, congrArg AhnSt.role (h.progress.same .ahn), by rw [ha]⟩

/-- An operation that leaves AIR and the role alone. -/
theorem State.Progress.bursts {regs : List Nat} {s t : State} (h : State.Progress regs [] s t)
    (hr : ∀ a ∈ regs, a ∈ burstRegs := by decide) : s.Bursts t :=
  ⟨h.widen hr, congrArg AhnSt.role (h.same .ahn), congrArg AirSt.recs (h.same .air)⟩

theorem State.bursts_air (s : State) {v : AirSt} (h : v.recs = s.air.recs) : s.Bursts { s with air := v } :=
  ⟨(s.progress_air v).widen, rfl, h⟩

theorem State.bursts_mirror (s : State) (k : Nat) (m : MirrorBody) : s.Bursts (s.mirror k m) :=
  ⟨(s.progress_mirror k m false).widen, s.mirror_role k m false, congrArg AirSt.recs (s.mirror_air k m false)⟩

theorem State.bursts_setFldB (s : State) (b : Nat) (f : Fld) (v : Nat) (ha : f.addr < 0x4000000 := by decide)
    (hr : f.addr ∈ burstRegs := by decide) : s.Bursts (s.setFldB b f v) := by
  have hframe : State.Frame burstRegs [] s (s.setFldB b f v) := (s.setFldB_frame b v ha).mono (by simpa using hr) (by simp)
  exact State.Progress.bursts (.of_frame hframe (State.outKept_of_eq (s.setFldB_out b f v)))

theorem State.bursts_airGrantRegs (s : State) (mi : Nat) (m : AirMach) : s.Bursts (s.airGrantRegs mi m) := by
  unfold State.airGrantRegs
  exact ((((((((((s.bursts_setFldB _ _ _).trans (State.bursts_setFldB _ _ _ _)).trans (State.bursts_setFldB _ _ _ _)).trans
    (State.bursts_setFldB _ _ _ _)).trans (State.bursts_setFldB _ _ _ _)).trans (State.bursts_setFldB _ _ _ _)).trans
    (State.bursts_setFldB _ _ _ _)).trans (State.bursts_setFldB _ _ _ _)).trans (State.bursts_setFldB _ _ _ _)).trans
    (State.bursts_setFldB _ _ _ _)).trans (State.bursts_setFldB _ _ _ _)

theorem State.bursts_setAirM (s : State) (mi : Nat) (m : AirMach) : s.Bursts (s.setAirM mi m) := by
  have hset : s.Bursts { s with air := { s.air with mach := s.air.mach.set AirMach.none mi m } } := s.bursts_air rfl
  have hregs : ∀ (u : State) (c : Bool), u.Bursts (if c then u else u.airGrantRegs mi m) := fun u c => by
    split
    · exact State.Bursts.refl u
    · exact u.bursts_airGrantRegs mi m
  have hmirror : ∀ (u : State) (c : Bool), u.Bursts (if c then u else u.airMachMirror mi) := fun u c => by
    split
    · exact State.Bursts.refl u
    · exact u.bursts_mirror _ _
  exact (hset.trans (hregs _ _)).trans (hmirror _ _)

theorem State.bursts_nextFctr (s : State) : s.Bursts s.nextFctr.2 := s.bursts_air rfl

theorem State.bursts_airPut (s : State) (m mcs at' : Nat) (f : AirFrame) : s.Bursts (s.airPut m mcs at' f) := (s.sends_airPut m mcs at' f).bursts

theorem State.bursts_dutyDefer (s : State) : s.Bursts s.dutyDefer := by
  obtain ⟨⟨k, ha⟩, -, hp⟩ := s.dutyDefer_leaves
  exact ⟨hp.widen, congrArg AhnSt.role (hp.same .ahn), by rw [ha]⟩

/-! ## The GRANT frame (R227) -/

theorem State.beaconKey_congr {s t : State} (h : t.keys = s.keys) : t.beaconKey = s.beaconKey := by
  simp only [State.beaconKey, State.beaconSeed, State.pairKey, h]

theorem State.modemUp_congr {s t : State} (hsim : t.sim = s.sim) (hrhl : t.rhl = s.rhl) (hpwr : t.pwr = s.pwr)
    (hon : t.blkOn Blk.RHL = s.blkOn Blk.RHL) (m : Nat) : t.modemUp m = s.modemUp m := by
  simp only [State.modemUp, State.modemKind, State.modemRow, State.modemLink, State.heads, State.rhUp, State.rhLink, hsim, hrhl, hpwr, hon]

/-- Steps of a burst keep AIR transmitting, every modem in service, and the beacon key. -/
theorem State.Bursts.sender {s t : State} (h : s.Bursts t) :
    t.airTransmits = s.airTransmits ∧ (∀ m, t.modemUp m = s.modemUp m) ∧ t.beaconKey = s.beaconKey := by
  have hon : t.blkOn Blk.AIR = s.blkOn Blk.AIR := h.progress.flag
  refine ⟨?_, State.modemUp_congr (h.progress.same .sim) (h.progress.same .rhl) (h.progress.same .pwr) h.progress.flag,
    State.beaconKey_congr (h.progress.same .keys)⟩
  rw [State.airTransmits, State.airTransmits, State.isActive, State.isActive, hon, h.role]

/-- A GRANT frame takes the beacon key. -/
theorem State.airKey_grant {s : State} {f : AirFrame} (h : f.ftype = Ft.GRANT) : s.airKey f = s.beaconKey := by
  rw [State.airKey, h]
  rfl

/-- A broadcast GRANT frame has left on modem `m`. -/
def State.grantOut (s : State) (m : Nat) : Prop := ∃ f sig, Emit.air m f sig ∈ s.out ∧ f.ftype = Ft.GRANT ∧ f.dst = none

theorem State.grantOut.kept {s t : State} {m : Nat} (h : s.grantOut m) (k : s.OutKept t) : t.grantOut m := by
  obtain ⟨f, sig, hm, hf⟩ := h
  exact ⟨f, sig, k hm, hf⟩

theorem State.airPut_grantOut {s : State} {m mcs at' : Nat} {f : AirFrame} (hf : f.ftype = Ft.GRANT) (hd : f.dst = none)
    (hk : s.beaconKey.isSome = true) (htx : s.airTransmits = true) (hup : s.modemUp m = true) : (s.airPut m mcs at' f).grantOut m := by
  obtain ⟨sig, blocks, d, e, h⟩ := State.airPut_sent mcs (at' := at') (by rw [State.airKey_grant hf]; exact hk) htx hup
  refine ⟨f.stamp at', sig, ?_, hf, hd⟩
  rw [h, State.airSent_out]
  simp

/-- The GRANT frame of a burst follows steps that keep what it needs. -/
theorem State.sendGrant_eq (s : State) (w m : Nat) : ∃ u mcs at' f, (s.sendGrant w m).1 = u.airPut m mcs at' f ∧ s.Bursts u ∧
    f.ftype = Ft.GRANT ∧ f.dst = none := by
  have hfold : ∀ {α : Type} (l : List α) (mi : α → Nat) (v : State → α → AirMach) (u : State),
      u.Bursts (l.foldl (fun u e => u.setAirM (mi e) (v u e)) u) :=
    fun l mi v u => State.Bursts.foldl (fun u e => u.bursts_setAirM (mi e) (v u e)) l u
  exact ⟨_, _, _, _, rfl, (s.bursts_nextFctr.trans (hfold _ Prod.fst (fun u e => { u.airM e.1 with resend := (u.airM e.1).resend - 1 }) _)).trans
    (hfold _ Prod.fst (fun u e => { u.airM e.1 with upPend := 0 }) _), rfl, rfl⟩

theorem State.sendGrant_grantOut {s : State} (w : Nat) {m : Nat} (hk : s.beaconKey.isSome = true) (htx : s.airTransmits = true)
    (hup : s.modemUp m = true) : (s.sendGrant w m).1.grantOut m := by
  obtain ⟨u, _, _, _, h, hu, hf, hd⟩ := s.sendGrant_eq w m
  obtain ⟨hutx, huup, huk⟩ := hu.sender
  rw [h]
  exact State.airPut_grantOut hf hd (huk ▸ hk) (hutx.trans htx) ((huup m).trans hup)

/-! ## The records and the data of a burst (R231–R234) -/

theorem State.bursts_recordLate (s : State) : s.Bursts ((s.bump (F.AIR_CNT_COUNT.nth 5)).raise Ev.AIR_RECORD_OVERFLOW 0) :=
  (s.progress_bump (F.AIR_CNT_COUNT.nth 5) 1).bursts.trans (State.progress_raise _ Ev.AIR_RECORD_OVERFLOW 0).bursts

/-- AUTH frames take the first of the records; those that do not fit stay. -/
theorem State.sendAuth_leaves (w m fuel : Nat) (s : State) (left : Nat) (recs : List (AuthRec × Nat)) :
    s.Bursts (State.sendAuth w m fuel s left recs).1 ∧ (State.sendAuth w m fuel s left recs).2.2 ⊆ recs := by
  induction fuel generalizing s left recs with
  | zero => exact ⟨State.Bursts.refl s, List.Subset.refl _⟩
  | succ fuel ih =>
    cases recs with
    | nil => exact ⟨State.Bursts.refl s, List.Subset.refl _⟩
    | cons r recs =>
      simp only [State.sendAuth]
      split
      · exact ⟨State.Bursts.refl s, List.Subset.refl _⟩
      · obtain ⟨hb, hr⟩ := ih _ _ _
        exact ⟨((((State.Bursts.foldl (fun s _ => s.bursts_recordLate) _ s).trans (State.bursts_nextFctr _)).trans
          (State.bursts_airPut _ _ _ _ _)).trans hb), List.Subset.trans hr (List.drop_subset _ _)⟩

theorem State.bursts_dataDn (s : State) (l : List AirData) : s.Bursts { s with air := { s.air with dataDn := l } } := s.bursts_air rfl

theorem State.bursts_deferData (s : State) (l : List AirData) : s.Bursts (s.deferData l) := by
  have hstep : ∀ (u : State) (d : AirData), u.Bursts (if d.deferred then u else u.dutyDefer) := fun u d => by
    split
    · exact State.Bursts.refl u
    · exact u.bursts_dutyDefer
  exact (State.Bursts.foldl hstep l s).trans (State.bursts_dataDn _ _)

theorem State.bursts_sendDataDn (w m : Nat) (s : State) (left : Nat) (l : List AirData) : s.Bursts (State.sendDataDn w m s left l).1 := by
  induction l generalizing s left with
  | nil => exact State.Bursts.refl s
  | cons e rest ih =>
    rw [State.sendDataDn]
    dsimp only
    split
    · exact s.bursts_deferData _
    · split
      · exact State.Bursts.refl s
      · exact ((s.bursts_nextFctr.trans (State.bursts_dataDn _ _)).trans (State.bursts_airPut _ _ _ _ _)).trans (ih _ _)

/-! ## The burst -/

/-- An awake machine of channel `w`. -/
def State.burstMine (s : State) (w mi : Nat) : Bool := (s.airM mi).wch == w && s.machAwake mi

/-- The records of awake machines that are not of channel `w`. -/
def State.burstOthers (s : State) (w : Nat) : List (AuthRec × Nat) :=
  s.air.recs.filter fun e => !s.burstMine w e.1.mi && s.machAwake e.1.mi

/-- A channel in service has its modem up. -/
theorem State.wideUp_modem {s : State} {w : Nat} (h : s.wideUp.contains w = true) : s.modemUp (s.wideM w) = true := by
  have hm := (List.mem_filter.mp (List.contains_iff_mem.mp h)).2
  rw [State.wideM]
  cases hw : s.wideModem w with
  | none => simp [hw] at hm
  | some m => simpa [hw] using hm

/-- The AUTH frames of a burst follow its GRANT frame. -/
def State.burstAuth (s : State) (w : Nat) : State × Nat × List (AuthRec × Nat) :=
  State.sendAuth w (s.wideM w) ((s.air.recs.filter fun e => s.burstMine w e.1.mi).length + 1) (s.sendGrant w (s.wideM w)).1
    (s.dlUs w * 1000 - (s.sendGrant w (s.wideM w)).2) (s.air.recs.filter fun e => s.burstMine w e.1.mi)

/-- Then those that did not fit wait with the other channels'. -/
def State.burstRecs (s : State) (w : Nat) : State :=
  { (s.burstAuth w).1 with air := { (s.burstAuth w).1.air with recs := s.burstOthers w ++ (s.burstAuth w).2.2 } }

/-- Then the DATA_DN frames. -/
def State.burstData (s : State) (w : Nat) : State × Nat :=
  State.sendDataDn w (s.wideM w) (s.burstRecs w) (s.burstAuth w).2.1 ((s.burstRecs w).air.dataDn.filter fun e => s.burstMine w e.mi)

/-- Then the share of the burst's time that was used. -/
def State.burstDone (s : State) (w : Nat) : State :=
  { (s.burstData w).1 with
    air := { (s.burstData w).1.air with
      dlPct := (s.burstData w).1.air.dlPct.set 0 (s.wideM w) (max ((s.dlUs w * 1000 - (s.burstData w).2) * 100 / (s.dlUs w * 1000))
        ((s.burstData w).1.air.dlPct.get 0 (s.wideM w))) } }

section Burst

variable {s : State} {w : Nat}

theorem exec_downlinkBurst (hw : s.works Blk.AIR) (hact : s.isActive = true) (hup : s.wideUp.contains w = true) :
    exec (.downlinkBurst w) s = .next (s.burstDone w) := by
  have htx : s.airTransmits = true := by rw [State.airTransmits, hw.2, hact]; rfl
  refine (whileOn_eq _ hw.1 hw.2).trans (congrArg Host.Outcome.next ?_)
  simp only [htx, hup, Bool.not_true, Bool.false_eq_true, if_false]
  rfl

theorem exec_downlinkBurst_idle (hw : s.works Blk.AIR) (hact : s.isActive = false) : exec (.downlinkBurst w) s = .next s := by
  have htx : s.airTransmits = false := by rw [State.airTransmits, hact, Bool.and_false]
  refine (whileOn_eq _ hw.1 hw.2).trans (congrArg Host.Outcome.next ?_)
  rw [htx]
  exact if_pos rfl

/-- The GRANT frame of a burst stays sent. -/
theorem State.burstData_grantOut (hw : s.works Blk.AIR) (hact : s.isActive = true) (hup : s.wideUp.contains w = true)
    (hk : s.beaconKey.isSome = true) : (s.burstData w).1.grantOut (s.wideM w) := by
  have htx : s.airTransmits = true := by rw [State.airTransmits, hw.2, hact]; rfl
  have hgrant := State.sendGrant_grantOut w hk htx (State.wideUp_modem hup)
  have hauth := (State.sendAuth_leaves w (s.wideM w) ((s.air.recs.filter fun e => s.burstMine w e.1.mi).length + 1)
    (s.sendGrant w (s.wideM w)).1 (s.dlUs w * 1000 - (s.sendGrant w (s.wideM w)).2) (s.air.recs.filter fun e => s.burstMine w e.1.mi)).1
  have hrecs : (s.burstRecs w).grantOut (s.wideM w) := hgrant.kept hauth.progress.out
  exact hrecs.kept (State.bursts_sendDataDn w (s.wideM w) (s.burstRecs w) _ _).progress.out

/-- The records that wait after a burst. -/
theorem State.burstData_recs : (s.burstData w).1.air.recs = s.burstOthers w ++ (s.burstAuth w).2.2 :=
  (State.bursts_sendDataDn w (s.wideM w) (s.burstRecs w) _ _).recs

theorem State.burstAuth_rest : (s.burstAuth w).2.2 ⊆ s.air.recs.filter fun e => s.burstMine w e.1.mi :=
  (State.sendAuth_leaves w (s.wideM w) _ _ _ _).2

/-- Every record that waits after a burst did before, and its machine is awake. -/
theorem State.burstData_recs_of {e : AuthRec × Nat} (h : e ∈ (s.burstData w).1.air.recs) : e ∈ s.air.recs ∧ s.machAwake e.1.mi = true := by
  rw [State.burstData_recs] at h
  rcases List.mem_append.mp h with h | h
  · obtain ⟨hm, hc⟩ := List.mem_filter.mp h
    exact ⟨hm, (Bool.and_eq_true_iff.mp hc).2⟩
  · obtain ⟨hm, hc⟩ := List.mem_filter.mp (State.burstAuth_rest h)
    exact ⟨hm, (Bool.and_eq_true_iff.mp hc).2⟩

/-- A record of an awake machine on another channel waits still. -/
theorem State.mem_burstData_recs {e : AuthRec × Nat} (h : e ∈ s.air.recs) (hawake : s.machAwake e.1.mi = true)
    (hch : (s.airM e.1.mi).wch ≠ w) : e ∈ (s.burstData w).1.air.recs := by
  rw [State.burstData_recs]
  refine List.mem_append_left _ (List.mem_filter.mpr ⟨h, ?_⟩)
  simp [State.burstMine, hawake, hch]

end Burst

end Sys2Proof.Machine
end

section
/-!
Stop requests and floods heard (R95, R216, R220, R242). The last theorem settles O23.
-/

namespace Sys2Proof.Machine

/-! ## A frame that reaches the module (R216) -/

section Heard

variable {s : State} {rx : AirRx}

theorem State.airAddressed_good (hh : s.rxHeard rx = true) (hc : s.crcGood rx = true) (hf : s.forUs (s.rxFrame rx) = true) :
    s.airAddressed rx = (s, true) := by
  simp only [State.airAddressed, hh, hc, hf, Bool.not_true, Bool.false_eq_true, if_false]

theorem State.forUs_of_rxGood (h : s.rxGood rx) : s.forUs (s.rxFrame rx) = true := by
  obtain ⟨-, -, -, hpair, hd | hd⟩ := h <;> simp [State.forUs, hpair, hd]

theorem State.airAddressed_rxGood (h : s.rxGood rx) : s.airAddressed rx = (s, true) := by
  have ⟨hheard, hcrc, _⟩ := h
  exact State.airAddressed_good hheard hcrc (State.forUs_of_rxGood h)

end Heard

/-! ## A frame that fails its CMAC -/

theorem State.cmacEvent_eq (s : State) : s.cmacEvent = if dueSince s s.air.lastCmac nsPerSec then
    ({ s with air := { s.air with lastCmac := some s.mono } }).raise Ev.AIR_CMAC_FAIL 0 else s := rfl

theorem State.progress_cmacEvent (s : State) : State.Progress [] [.air] s s.cmacEvent := by
  rw [s.cmacEvent_eq]
  split
  · exact (s.progress_air _).add (State.progress_raise _ _ _)
  · exact State.Progress.refl _ _ s

/-- The first failure comes with event 144. -/
theorem State.cmacEvent_pend {s : State} (h : s.air.lastCmac = none) : s.cmacEvent.pend Ev.AIR_CMAC_FAIL = true := by
  have hdue : dueSince s s.air.lastCmac nsPerSec = true := by rw [h]; rfl
  rw [s.cmacEvent_eq, if_pos hdue]
  exact State.pend_raise _ _ _

/-- A stop request that fails is counted, with event 139. -/
theorem State.stopReqFail_leaves (s : State) : s.stopReqFail.pend Ev.AIR_STOP_REQ_INVALID = true ∧
    s.stopReqFail.fld (F.AIR_CNT_COUNT.nth 1) = min (s.fld (F.AIR_CNT_COUNT.nth 1) + 1) (2 ^ 32 - 1) ∧
    State.Progress [R.AIR_CNT + 4] [] s s.stopReqFail := by
  have hraise := (s.bump (F.AIR_CNT_COUNT.nth 1)).progress_raise Ev.AIR_STOP_REQ_INVALID 0
  exact ⟨State.pend_raise _ _ _, hraise.fld.trans (s.fld_bump_airCnt (by decide)),
    ((State.Progress.refl _ _ s).add (s.progress_bump (F.AIR_CNT_COUNT.nth 1) 1)).add hraise⟩

/-! ## A valid stop request (R95, R220) -/

theorem AirSt.SentFrom.seen {a b : AirSt} (h : a.SentFrom b) : b.seen = a.seen := by
  obtain ⟨_, _, _, _, rfl⟩ := h
  rfl

/-- AIR of a state after a FULL STOP source. -/
theorem State.sentFrom_fsSource {s : State} (hon : s.blkOn Blk.AUT = true) (cause : Nat) : s.air.SentFrom (s.fsSource cause).air := by
  cases hl : s.aut.fsLatch with
  | true =>
    rw [(State.fsSource_latched_frame hl cause).same .air]
    exact ⟨_, _, _, _, rfl⟩
  | false => exact (State.stopSet_fsSource hon hl cause).air

theorem State.fsSource_fsAir {s : State} (hon : s.blkOn Blk.AUT = true) (cause : Nat) : (s.fsSource cause).aut.fsAir = s.aut.fsAir := by
  cases hl : s.aut.fsLatch with
  | true =>
    rw [State.fsSource_latched hl, State.autMirror, State.mirror_aut]
    rfl
  | false => exact (State.stopSet_fsSource hon hl cause).fsAir

/-- The sender's counter is stored (R220). -/
def State.sctrStored (s : State) (n ctr : Nat) : State := { s with nand := { s.nand with sndCtr := s.nand.sndCtr.set 0 n ctr } }

/-- AIR is marked as a FULL STOP source. -/
def State.airMarked (s : State) : State := s.setAut fun a => { a with fsAir := true }

/-- Then event 72 is raised, before the source acts. -/
def State.stopHeard (s : State) (n ctr : Nat) : State := (s.sctrStored n ctr).airChanMirror.raise Ev.AUT_AIR_STOP_RX 0

section StopHeard

variable (s : State) (n ctr : Nat)

theorem State.stopHeard_nand : (s.stopHeard n ctr).nand = { s.nand with sndCtr := s.nand.sndCtr.set 0 n ctr } := by
  rw [State.stopHeard, State.raise_nand _ _ (by decide), State.airChanMirror, State.mirror_nand]
  rfl

theorem State.stopHeard_pend : (s.stopHeard n ctr).pend Ev.AUT_AIR_STOP_RX = true := State.pend_raise _ _ _

theorem State.progress_stopHeard : State.Progress [] [.nand, .ahn] s (s.stopHeard n ctr) := by
  have hnand : State.Progress [] [.nand] s (s.sctrStored n ctr) := .of_frame (s.nand_frame _) (State.outKept_of_eq rfl)
  exact (((State.Progress.refl _ _ s).add hnand).add (State.progress_mirror _ _ _ _)).add (State.progress_raise _ _ _)

theorem State.airStop_eq (hon : s.blkOn Blk.AUT = true) (hen : s.flag F.AUT_FSTOP_AIR_EN = true) :
    s.airStop n ctr = (s.stopHeard n ctr).airMarked.fsSource 4 := by
  refine if_pos ?_
  rw [Bool.and_eq_true_iff]
  exact ⟨(s.progress_stopHeard n ctr).flag.trans hon, (s.progress_stopHeard n ctr).flag.trans hen⟩

/-- What a valid stop request sets. -/
theorem State.airStop_leaves (hon : s.blkOn Blk.AUT = true) (hen : s.flag F.AUT_FSTOP_AIR_EN = true) :
    (s.airStop n ctr).nand = { s.nand with sndCtr := s.nand.sndCtr.set 0 n ctr } ∧ (s.airStop n ctr).aut.fsLatch = true ∧
      (s.airStop n ctr).aut.fsAir = true ∧
      (s.aut.fsLatch = false → (s.airStop n ctr).aut.fcause = 4 ∧ (s.airStop n ctr).pend Ev.AUT_FULL_STOP = true) ∧
      (s.airStop n ctr).pend Ev.AUT_AIR_STOP_RX = true ∧ s.air.SentFrom (s.airStop n ctr).air := by
  rw [s.airStop_eq n ctr hon hen]
  have hheard := s.progress_stopHeard n ctr
  have haut : (s.stopHeard n ctr).aut = s.aut := hheard.same .aut
  have hair : (s.stopHeard n ctr).air = s.air := hheard.same .air
  have hpend := s.stopHeard_pend n ctr
  have hnand := s.stopHeard_nand n ctr
  have hon' : (s.stopHeard n ctr).blkOn Blk.AUT = true := hheard.flag.trans hon
  generalize s.stopHeard n ctr = u at haut hair hpend hnand hon'
  have hp := State.progress_fsSource (s := u.airMarked) hon' 4
  have hsent := State.sentFrom_fsSource (s := u.airMarked) hon' 4
  refine ⟨(hp.same .nand).trans hnand, State.fsSource_fsLatch (s := u.airMarked) hon' 4, State.fsSource_fsAir (s := u.airMarked) hon' 4,
    fun hl => ?_, hp.pend _ (by decide) hpend, ?_⟩
  · have hset := State.stopSet_fsSource (s := u.airMarked) hon' ((congrArg AutSt.fsLatch haut).trans hl) 4
    exact ⟨hset.cause, hset.pend⟩
  · rw [← hair]
    exact hsent

end StopHeard

/-! ## The commands -/

/-- The frames seen are `l`. -/
def State.withSeen (s : State) (l : List (Nat × Nat)) : State := { s with air := { s.air with seen := l } }

theorem State.airSaw_eq (s : State) (f : AirFrame) : ∃ l, s.airSaw f = s.withSeen l := ⟨_, rfl⟩

theorem State.airSaw_nand (s : State) (f : AirFrame) : (s.airSaw f).nand = s.nand := by
  obtain ⟨l, h⟩ := s.airSaw_eq f
  rw [h]
  rfl

theorem State.airSaw_senderOf (s : State) (f : AirFrame) (a : Nat) : (s.airSaw f).senderOf a = s.senderOf a := by
  obtain ⟨l, h⟩ := s.airSaw_eq f
  rw [h]
  rfl

theorem State.progress_airSaw (s : State) (f : AirFrame) : State.Progress [] [.air] s (s.airSaw f) := by
  obtain ⟨l, h⟩ := s.airSaw_eq f
  rw [h]
  exact s.progress_air _

section Commands

variable {s : State} {rx : AirRx} (hw : s.works Blk.AIR)
include hw

theorem exec_stopReqRx_invalid (hst : s.isStandby = false) (haddr : s.airAddressed rx = (s, true)) (hcmac : s.cmacGood rx = false)
    (hwide : s.wideRx rx = false) (hseen : s.air.seen.contains ((s.rxFrame rx).src, (s.rxFrame rx).fseq) = false)
    (hft : (s.rxFrame rx).ftype = Ft.STOP_REQ) : exec (.stopReqRx rx) s = .next s.cmacEvent.stopReqFail := by
  refine (whileOn_eq _ hw.1 hw.2).trans (congrArg Host.Outcome.next ?_)
  simp only [haddr, hseen, hst, hft, hwide, hcmac, bne_self_eq_false, Bool.or_self, Bool.not_false, Bool.false_eq_true, if_false, if_true]

theorem exec_stopReqRx_valid {n : Nat} (hst : s.isStandby = false) (haddr : s.airAddressed rx = (s, true)) (hcmac : s.cmacGood rx = true)
    (hwide : s.wideRx rx = false) (hseen : s.air.seen.contains ((s.rxFrame rx).src, (s.rxFrame rx).fseq) = false)
    (hft : (s.rxFrame rx).ftype = Ft.STOP_REQ) (hsnd : s.senderOf (s.rxFrame rx).src = some n) (hlen : (s.rxFrame rx).payload.length = 8)
    (hver : Bytes.at' (s.rxFrame rx).payload 4 1 = 1) (hctr : s.nand.sndCtr.get 0 n < Bytes.at' (s.rxFrame rx).payload 0 4) :
    exec (.stopReqRx rx) s = .next ((s.airSaw (s.rxFrame rx)).airStop n (Bytes.at' (s.rxFrame rx).payload 0 4)) := by
  refine (whileOn_eq _ hw.1 hw.2).trans (congrArg Host.Outcome.next ?_)
  have hsnd' := (s.airSaw_senderOf (s.rxFrame rx) (s.rxFrame rx).src).trans hsnd
  have hctr' : decide (Bytes.at' (s.rxFrame rx).payload 0 4 ≤ (s.airSaw (s.rxFrame rx)).nand.sndCtr.get 0 n) = false := by
    rw [s.airSaw_nand]
    exact decide_eq_false (Nat.not_le.mpr hctr)
  simp only [haddr, hseen, hst, hft, hwide, hcmac, hsnd', hlen, hver, hctr', bne_self_eq_false, Bool.or_self, Bool.not_true,
    Bool.false_eq_true, if_false]

theorem exec_floodRelayRx_own (hrx : s.rxGood rx) (hwide : s.wideRx rx = false) (hrel : (s.rxFrame rx).relayed = true)
    (hft : (s.rxFrame rx).ftype = Ft.STOP) (hsrc : (s.rxFrame rx).src = s.airAddr) :
    exec (.floodRelayRx rx) s = .next (s.bump (F.AIR_CNT_COUNT.nth 3)) := by
  have ⟨_, _, hcmac, _⟩ := hrx
  refine (whileOn_eq _ hw.1 hw.2).trans (congrArg Host.Outcome.next ?_)
  simp only [State.airAddressed_rxGood hrx, hcmac, hwide, hrel, hft, hsrc, beq_self_eq_true, Bool.not_true, Bool.not_false, Bool.and_self,
    Bool.false_eq_true, if_false, if_true]

end Commands

/-- A frame just seen is among the last 256. -/
theorem State.airSaw_seen (s : State) (f : AirFrame) : (s.airSaw f).air.seen.contains (f.src, f.fseq) = true := by
  simp only [State.airSaw]
  rw [List.contains_iff_mem, List.drop_append_of_le_length (by rw [List.length_append, List.length_singleton]; omega)]
  exact List.mem_append_right _ (List.mem_singleton_self _)

/-! ## The obligation -/

/-- Settles O23: access by the turn of the frame that waits longest, the burst by its steps, and stop requests by the FULL STOP source AIR. -/
theorem airAccess : Obligations.AirAccess := by
  unfold Obligations.AirAccess
  refine ⟨fun s m w hw hq hu hfull hmay hbusy => ?busy, fun s m w hw hq hu hfull hmay hbusy => ?fifth,
    fun s m w hw hact hup hq hu hfull hmay hk => ?idle, fun s m w hw hq hu hfull hd => ?deferred,
    fun s m w hw hq hu hp' => ?priority, fun s m hw => ?window, fun s w hw hact hup hk => ?burst,
    fun s w hw hact => exec_downlinkBurst_idle hw hact,
    fun s rx n hw haut hst hrx hen hwide hseen hft hsnd hlen hver hctr => ?request,
    fun s rx hw hst hh hc hf hcmac hwide hseen hft => ?invalid, fun s rx hw hrx hwide hrel hft hsrc => ?relay⟩
  case busy =>
    obtain ⟨rfl, -⟩ := State.airQueue_mem hq
    have ht := exec_lbtBackoffExpiry hw true hq hu
    rw [State.airTurn_listens (s := s.airUnwait w) hfull hmay, if_pos rfl, State.airBusy_backsOff hbusy] at ht
    refine ⟨_, (s.airUnwait w).draw.1 % 2 ^ w.be, ht, Nat.mod_lt _ (by positivity), rfl, ?_⟩
    exact (((State.Frame.refl _ _ s).add (s.air_frame _)).add (State.draw_frame _)).add (State.air_frame _ _)
  case fifth =>
    obtain ⟨rfl, -⟩ := State.airQueue_mem hq
    have ht := exec_lbtBackoffExpiry hw true hq hu
    rw [State.airTurn_listens (s := s.airUnwait w) hfull hmay, if_pos rfl, State.airBusy_dropped hbusy] at ht
    exact ⟨_, ht, rfl, s.air_frame _⟩
  case idle =>
    obtain ⟨rfl, -⟩ := State.airQueue_mem hq
    have ht := exec_lbtBackoffExpiry hw false hq hu
    have htx : (s.airUnwait w).airTransmits = true := by
      change (s.blkOn Blk.AIR && s.isActive) = true
      rw [hw.2, hact]
      rfl
    obtain ⟨sig, blocks, d, e, hput⟩ := State.airPut_sent (s := s.airUnwait w) (m := w.modem) (at' := s.airStart w.modem 160000) 0 hk htx hup
    rw [State.airTurn_listens (s := s.airUnwait w) hfull hmay, if_neg Bool.false_ne_true] at ht
    refine ⟨_, ht.trans (congrArg Host.Outcome.next hput), ?_, ?_,
      ((State.Frame.refl _ _ s).add (s.air_frame _)).add (State.airSent_frame _ _ _ _ _ _ _ _)⟩
    · rw [State.airSent_out]
      simp
    · rw [State.airSent_air]
      rfl
  case deferred =>
    obtain ⟨rfl, -⟩ := State.airQueue_mem hq
    have ht := exec_lbtBackoffExpiry hw false hq hu
    rw [State.airTurn_deferred (s := s.airUnwait w) hfull hd] at ht
    obtain ⟨⟨k, hair⟩, hcount, hp⟩ := (s.airUnwait w).dutyDefer_leaves
    refine ⟨_, ht, ?_, hcount, fun h => State.dutyDefer_pend (s := s.airUnwait w) h,
      (((State.Progress.refl _ _ s).add (s.progress_airUnwait w)).add hp).add (State.progress_air _ _) |>.frame⟩
    change _ :: (s.airUnwait w).dutyDefer.air.waiting = _
    rw [hair]
    rfl
  case priority =>
    have hraise := ((s.airUnwait w).bump (F.AIR_CNT_COUNT.nth 6)).progress_raise Ev.AIR_PRIO_DROPPED 0
    have hp := (((State.Progress.refl [R.AIR_CNT + 24] [.air] s).add (s.progress_airUnwait w)).add
      (State.progress_bump _ (F.AIR_CNT_COUNT.nth 6) 1)).add hraise
    refine ⟨_, exec_prioWaitExpiry_dropped hw hq hu hp', ?_, hraise.fld.trans ((s.airUnwait w).fld_bump_airCnt (by decide)),
      State.pend_raise _ _ _, hp.frame⟩
    rw [State.raise_air _ _ (by decide), State.bump_air]
    rfl
  case window =>
    have hduty := SMap.get_lastHours s.air.duty (s.tai / nsPerSec) m
    have hair : { s with air := { s.air with duty := s.dutyWindow } }.airChanMirror.air = { s.air with duty := s.dutyWindow } :=
      State.mirror_air _ _ _ _
    rw [show s.air.duty.keys.foldl _ _ = s.dutyWindow from rfl] at hduty
    refine ⟨_, exec_dutyWindowTick hw, ?_, ?_, ?_, ((State.Frame.refl _ _ s).add (s.air_frame _)).add (State.mirror_frame _ _ _ _)⟩
    · rw [hair, hduty]
      exact List.all_eq_true.mpr fun e he => (List.mem_filter.mp he).2
    · rw [hair, hduty]
      refine List.all_eq_true.mpr fun e he => ?_
      rw [Bool.or_eq_true, List.contains_iff_mem, decide_eq_true_iff]
      by_cases hold : e.1 + 3600 ≤ s.tai / 1000000000
      · exact .inl hold
      · exact .inr (List.mem_filter.mpr ⟨he, decide_eq_true (Nat.lt_of_not_le hold)⟩)
    · rw [hair]
  case burst =>
    refine ⟨_, exec_downlinkBurst hw hact hup, ?_, ?_, ?_⟩
    · obtain ⟨f, sig, hm, hf, hd⟩ := State.burstData_grantOut hw hact hup hk
      refine List.any_eq_true.mpr ⟨_, hm, ?_⟩
      simp [hf, hd]
    · refine List.all_eq_true.mpr fun e he => ?_
      obtain ⟨hm, hawake⟩ := State.burstData_recs_of he
      simp [hm, hawake]
    · refine List.all_eq_true.mpr fun e he => ?_
      have hkeeps : s.machAwake e.1.mi = true → (s.airM e.1.mi).wch ≠ w → e ∈ (s.burstDone w).air.recs :=
        State.mem_burstData_recs he
      rw [Bool.or_eq_true, Bool.or_eq_true, Bool.not_eq_true', beq_iff_eq, List.contains_iff_mem]
      by_cases hawake : s.machAwake e.1.mi = true
      · by_cases hch : (s.airM e.1.mi).wch = w
        · exact .inl (.inr hch)
        · exact .inr (hkeeps hawake hch)
      · exact .inl (.inl (Bool.not_eq_true _ ▸ hawake))
  case request =>
    have ⟨_, _, hcmac, _⟩ := hrx
    have ht := exec_stopReqRx_valid hw hst (State.airAddressed_rxGood hrx) hcmac hwide hseen hft hsnd hlen hver hctr
    have hsaw := s.progress_airSaw (s.rxFrame rx)
    obtain ⟨hnand, hlatch, hair, hset, hpend, hsent⟩ := (s.airSaw (s.rxFrame rx)).airStop_leaves n (Bytes.at' (s.rxFrame rx).payload 0 4)
      (hsaw.flag.trans haut) (hsaw.flag.trans hen)
    rw [s.airSaw_nand] at hnand
    refine ⟨_, ht, hnand, hlatch, hair, fun hl => hset ((congrArg AutSt.fsLatch (hsaw.same .aut)).trans hl), hpend, ?_⟩
    rw [hsent.seen]
    exact s.airSaw_seen _
  case invalid =>
    have ht := exec_stopReqRx_invalid hw hst (State.airAddressed_good hh hc hf) hcmac hwide hseen hft
    have hcm := s.progress_cmacEvent
    obtain ⟨hpend, hcount, hfail⟩ := s.cmacEvent.stopReqFail_leaves
    exact ⟨_, ht, (hfail.same .aut).trans (hcm.same .aut), (hfail.same .nand).trans (hcm.same .nand), hpend, by rw [hcount, hcm.fld],
      fun h => hfail.pend _ (by decide) (State.cmacEvent_pend h), (((State.Progress.refl _ _ s).add hcm).add hfail).frame⟩
  case relay =>
    exact ⟨_, exec_floodRelayRx_own hw hrx hwide hrel hft hsrc, s.fld_bump_airCnt (by decide), s.bump_frame (F.AIR_CNT_COUNT.nth 3) 1 (by decide)⟩

end Sys2Proof.Machine
end

section
/-!
What an OBS frame teaches about its machine's bundles (R229, R230). The last theorem refutes O41, whose first clause has every bundle of a
valid frame set the machine's bundle length, while a length at least as great is kept.
-/

namespace Sys2Proof.Machine

/-- A known length that is at least as great stands (R229). -/
theorem State.learnLen_known {s : State} {mi len : Nat} (hk : (s.airM mi).lenKnown = true) (hle : len ≤ (s.airM mi).bundleLen) :
    s.learnLen mi len = s := by
  rw [State.learnLen, if_pos (by simp [hk, hle])]

/-- The frame of a machine whose known length is at least its payload's goes straight to the intake. -/
theorem exec_obsFrameRx_known {s u : State} {rx : AirRx} {mi : Nat} (hs : s.works Blk.AIR) (hu : (s.airFrom Ft.OBS rx).1 = u)
    (hmi : (s.airFrom Ft.OBS rx).2 = some mi) (hk : (u.airM mi).lenKnown = true)
    (hle : (u.rxFrame rx).payload.length ≤ (u.airM mi).bundleLen) (hv : u.slvSolves = true) :
    exec (.obsFrameRx rx) s = .next (u.bundleIn mi (u.rxFrame rx).payload) := by
  have hheard : s.airFrom Ft.OBS rx = (u, some mi) := Prod.ext hu hmi
  refine (whileOn_eq _ hs.1 hs.2).trans ?_
  simp only [hheard, State.learnLen_known hk hle, hv, if_true]

/-- An image under which modem 0 is WIDE on channel 0, and that states nothing else. -/
def wideModemImage : List Byte :=
  Bytes.padTo (Bytes.padTo [] 15 ++ [1#8]) 128 ++ Bytes.ofNat 1 Sec.MODEMS ++ Bytes.ofNat 1 Blk.AIR ++ Bytes.ofNat 2 0 ++ Bytes.ofNat 4 144
    ++ Bytes.ofNat 4 16 ++ Bytes.ofNat 4 0 ++ Bytes.padTo [2#8, 1#8] 16

/-- AIR, SLV and RHL are on and modem 0's link is up; machine 0, at address 0x100, is registered and awake, and its bundles are known to
reach 100 bytes. -/
def State.longerKnown : State :=
  let s := [Blk.AIR, Blk.SLV, Blk.RHL].foldl (fun s b => s.setFld (Blk.en b) 1) State.reset
  let s := ((s.setFld F.AIR_MACH_REG_VALID 1).setFld F.AIR_MACH_REG_ADDR 0x100).setFld F.SLV_MACH_CFG_VALID 1
  { s with
    sim := { s.sim with applied := some wideModemImage }
    rhl := { s.rhl with links := [(0, { RhlLink.idle with state := Lk.UP })] }
    keys := { s.keys with pairRoot := some 77 }
    air := { s.air with mach := [(0, { AirMach.none with state := .awake, bundleLen := 100, lenKnown := true })] } }

/-- Machine 0's OBS frame with a bundle of 32 bytes: one satellite, one signal, epoch 0. -/
def shortObs : AirRx :=
  ⟨0, ([9, 0, 0, 0, 0, 1, 1, 0, 0, 0, 0, 0, 0, 1, 0, 0, 0, 0, 0, 0, 0, 0, 0, 0, 1, 0, 4, 1, 0, 0, 0, 0, 0, 0, 0, 0, 0, 0, 0, 0, 0, 0,
    188, 52, 99, 124, 226, 122, 126, 176, 158, 219, 196, 77] : List Nat).map (BitVec.ofNat 8), 80⟩

/-- The state once AIR has heard the frame. -/
def State.shortHeard : State := (State.longerKnown.airFrom Ft.OBS shortObs).1

/-- AIR takes the frame as machine 0's, still knows 100 bytes, and SLV solves. -/
theorem shortHeard_known : (State.longerKnown.airFrom Ft.OBS shortObs).2 = some 0 ∧ (State.shortHeard.airM 0).lenKnown = true ∧
    (State.shortHeard.rxFrame shortObs).payload.length = 32 ∧ (State.shortHeard.airM 0).bundleLen = 100 ∧
    State.shortHeard.slvSolves = true ∧
    ((State.shortHeard.bundleIn 0 (State.shortHeard.rxFrame shortObs).payload).airM 0).bundleLen = 100 := by
  decide +kernel

theorem exec_obsFrameRx_shortObs : exec (.obsFrameRx shortObs) State.longerKnown =
    .next (State.shortHeard.bundleIn 0 (State.shortHeard.rxFrame shortObs).payload) := by
  obtain ⟨hmi, hknown, hshort, hlong, hsolves, -⟩ := shortHeard_known
  exact exec_obsFrameRx_known ⟨rfl, by decide +kernel⟩ State.shortHeard.eq_1.symm hmi hknown (by rw [hshort, hlong]; decide) hsolves

/-- Refutes O41: its first clause has the machine's bundle length become the bundle's, but AIR has learnt 100 bytes for machine 0 and its
valid bundle of 32 bytes leaves them (R229). -/
theorem not_solveIntake : ¬ Obligations.SolveIntake := by
  unfold Obligations.SolveIntake
  intro h
  obtain ⟨hIntake, -⟩ := h
  obtain ⟨hmi, -, -, -, -, hkept⟩ := shortHeard_known
  obtain ⟨t, b, ht, -, -, -, -, -, -, -, -, -, hlen, -⟩ := hIntake State.longerKnown shortObs 0 _ ⟨rfl, by decide +kernel⟩
    (by decide +kernel) hmi rfl (by decide +kernel) rfl
  have hsame : State.shortHeard.bundleIn 0 (State.shortHeard.rxFrame shortObs).payload = t :=
    Host.Outcome.next.inj (exec_obsFrameRx_shortObs.symm.trans ht)
  have hshort : (State.longerKnown.rxFrame shortObs).payload.length = 32 := by decide +kernel
  rw [← hsame, hkept, hshort] at hlen
  exact absurd hlen (by decide)

end Sys2Proof.Machine
end

section
/-!
What SLV's own writes and the operations it calls leave of the Solve Array: its lanes, filters and records (R127, R128, R131).
-/

namespace Sys2Proof.Machine

/-! ## The form of a command (R312) -/

theorem whileSlvOn_eq {s : State} (f : State → State) (hs : s.works Blk.SLV) (hst : s.isStandby = false) :
    (whileRunning s fun s => s.slvOn f) = .next (f s) := by
  refine (whileRunning_eq _ hs.1).trans ?_
  simp [State.slvOn, State.on, State.live, hs.1, hs.2, hst]

/-! ## SLV's own writes -/

section Writes

variable (s : State)

theorem State.slv_frame (v : SlvSt) : State.Frame [] [.slv] s { s with slv := v } :=
  ⟨fun _ _ _ _ => rfl, fun _ => rfl, fun p hp => by cases p <;> simp_all [Part.same]⟩

theorem State.setSlv_frame (f : SlvSt → SlvSt) : State.Frame [] [.slv] s (s.setSlv f) := s.slv_frame _

theorem State.progress_setSlv (f : SlvSt → SlvSt) : State.Progress [] [.slv] s (s.setSlv f) :=
  .of_frame (s.setSlv_frame f) (State.outKept_of_eq rfl)

theorem State.lane_setLane_same (l : Nat) (v : SlvLane) : (s.setLane l v).lane l = v := SMap.get_set_same _ _ _ _

theorem State.lane_setLane_other {l k : Nat} (v : SlvLane) (h : k ≠ l) : (s.setLane l v).lane k = s.lane k :=
  SMap.get_set_other _ _ _ _ h

theorem State.slvFilter_setFilter_same (mi : Nat) (f : SlvFilter) : (s.setFilter mi f).slvFilter mi = f := SMap.get_set_same _ _ _ _

theorem State.slvFilter_setFilter_other {mi k : Nat} (f : SlvFilter) (h : k ≠ mi) : (s.setFilter mi f).slvFilter k = s.slvFilter k :=
  SMap.get_set_other _ _ _ _ h

/-- A rate state set changes the rates alone, whether or not the mirror carries it. -/
@[simp] theorem State.setSlvRate_slv (mi : Nat) (r : SlvRate) :
    (s.setSlvRate mi r).slv = { s.slv with rates := s.slv.rates.set SlvRate.none mi r } := by
  simp only [State.setSlvRate]
  split
  · rfl
  · exact State.mirror_slv _ _ _ _

@[simp] theorem State.setSlvRate_regB (mi : Nat) (r : SlvRate) (b a : Nat) : (s.setSlvRate mi r).regB b a = s.regB b a := by
  simp only [State.setSlvRate]
  split
  · rfl
  · exact State.mirror_regB _ _ _ _ _ _

theorem State.slvRate_setSlvRate_same (mi : Nat) (r : SlvRate) : (s.setSlvRate mi r).slvRate mi = r := by
  rw [State.slvRate, State.setSlvRate_slv]
  exact SMap.get_set_same _ _ _ _

end Writes

/-! ## What an entry offered to a ring leaves (R336) -/

/-- Registers but the report registers, and parts but the report parts, are as they were. Of BAR2 nothing is said: the ring may be any. -/
def State.Offers (s t : State) : Prop :=
  (∀ b a, a < 0x4000000 → plumbReg a = false → t.regB b a = s.regB b a) ∧ ∀ p, p ∉ reportParts → p.same s t

theorem State.Offers.trans {s t u : State} (h : s.Offers t) (k : t.Offers u) : s.Offers u :=
  ⟨fun b a ha hn => (k.1 b a ha hn).trans (h.1 b a ha hn), fun p hp => Part.same_trans (h.2 p hp) (k.2 p hp)⟩

theorem State.Plumbed.offers {s t : State} (h : s.Plumbed t) : s.Offers t := ⟨h.1, h.2.2⟩

theorem State.offers_bar2Write (s : State) (a : Nat) (bs : List Byte) : s.Offers (s.bar2Write a bs) :=
  ⟨fun _ _ _ _ => rfl, fun p _ => Part.same_bar2Write p s a bs⟩

theorem State.offers_ringPut (s : State) (r src : Nat) (p : List Byte) (o : Bool) : s.Offers (s.ringPut r src p o).1 := by
  have hseq := (s.plumbed_setRing r { s.ring r with rseq := ((s.ring r).rseq + 1) % 2 ^ 32 }).offers
  unfold State.ringPut
  dsimp only
  generalize s.setRing r { s.ring r with rseq := ((s.ring r).rseq + 1) % 2 ^ 32 } = u at hseq
  have hsize := hseq.trans (u.plumbed_bumpB r (f := F.HST_RING_DROP_SIZE_DROP) 1 (by decide) (by decide)).offers
  have hdrop := hseq.trans (u.plumbed_bumpB r (f := F.HST_RING_DROP_DROP) 1 (by decide) (by decide)).offers
  have hput : ∀ (w : State) (g : Ring), s.Offers w → s.Offers ((w.setRing r g).ringNotify r) := fun w g hw =>
    hw.trans ((w.plumbed_setRing r g).trans (State.plumbed_ringNotify _ r)).offers
  split
  · exact hseq.trans (u.plumbed_bumpB 0 1 (by decide) (by decide)).offers
  split
  · exact hdrop
  split
  · exact hdrop
  split
  · split
    · exact hsize
    · exact hput _ _ ((hseq.trans (u.plumbed_of_parts _ _ _ (_ :: u.out)).offers).trans (State.offers_bar2Write _ _ _))
  · split
    · exact hsize
    · exact hput _ _ (hseq.trans (u.offers_bar2Write _ _))

section RingPut

variable (s : State) (r src : Nat) (p : List Byte) (o : Bool)

@[simp] theorem State.ringPut_slv : (s.ringPut r src p o).1.slv = s.slv := (s.offers_ringPut r src p o).2 .slv (by decide)

theorem State.ringPut_flag {f : Fld} (ha : f.addr < 0x4000000) (hp : plumbReg f.addr = false) :
    (s.ringPut r src p o).1.flag f = s.flag f := by
  simp only [State.flag, State.fld, State.fldB, (s.offers_ringPut r src p o).1 0 f.addr ha hp]

end RingPut

/-! ## What AUT's records leave (R88, R127) -/

theorem State.setAutMach_slv (s : State) (mi : Nat) (v : AutMach) : (s.setAutMach mi v).slv = s.slv := rfl

@[simp] theorem State.autWrite_slv (s : State) (mi : Nat) (base : AuthRec) (rep : Bool) : (s.autWrite mi base rep).slv = s.slv := by
  simp only [State.autWrite, State.mirror_slv]
  rw [State.bump_slv, State.setAutMach_slv]
  split
  · exact (State.raise_slv _ _ (by decide)).trans (State.bump_slv _ _ _)
  · rfl

theorem State.autQ3_slv (s : State) (mi epoch : Nat) : (s.autQ3 mi epoch).slv = s.slv := by
  simp only [State.autQ3, State.autWrite_slv, State.recordBase]
  split <;> rfl

/-! ## Steps on the way of an outcome -/

/-- `t` is `s` as far as an outcome goes, but for the rates: the Solve Array, and whether CLS is enabled. -/
def State.RatesOnly (s t : State) : Prop := (∃ m, t.slv = { s.slv with rates := m }) ∧ t.blkOn Blk.CLS = s.blkOn Blk.CLS

theorem State.RatesOnly.of_same {s t : State} (h : t.slv = s.slv) (hc : t.flag (Blk.en Blk.CLS) = s.flag (Blk.en Blk.CLS)) :
    s.RatesOnly t := ⟨⟨s.slv.rates, h⟩, hc⟩

theorem State.RatesOnly.refl (s : State) : s.RatesOnly s := .of_same rfl rfl

theorem State.RatesOnly.trans {s t u : State} (h : s.RatesOnly t) (k : t.RatesOnly u) : s.RatesOnly u := by
  obtain ⟨⟨_, ht⟩, hc⟩ := h
  obtain ⟨⟨m, hu⟩, hd⟩ := k
  exact ⟨⟨m, by rw [hu, ht]⟩, hd.trans hc⟩

theorem State.RatesOnly.ite {s t : State} {c : Prop} [Decidable c] (h : s.RatesOnly t) : s.RatesOnly (if c then t else s) := by
  split
  · exact h
  · exact .refl s

/-- Any operation that leaves SLV and CLS's control register. -/
theorem State.Progress.ratesOnly {regs : List Nat} {parts : List Part} {s t : State} (h : State.Progress regs parts s t)
    (hp : Part.slv ∉ parts := by decide) (hr : (Blk.en Blk.CLS).addr ∉ regs := by decide) : s.RatesOnly t :=
  .of_same (h.same .slv hp (by decide)) (h.flag hr (by decide) (by decide))

theorem State.ratesOnly_setSlvRate (s : State) (mi : Nat) (r : SlvRate) : s.RatesOnly (s.setSlvRate mi r) :=
  ⟨⟨_, s.setSlvRate_slv mi r⟩, by simp only [State.blkOn, State.flag, State.fld, State.fldB, State.setSlvRate_regB]⟩

theorem State.ratesOnly_ringPut (s : State) (r src : Nat) (p : List Byte) (o : Bool) : s.RatesOnly (s.ringPut r src p o).1 :=
  .of_same (s.ringPut_slv r src p o) (s.ringPut_flag r src p o (by decide) (by decide))

/-! ## An outcome leaves SLV (R127) -/

/-- The outcomes that wait for CLS once `r` has left, with CLS enabled or not. -/
def SlvSt.checking (v : SlvSt) (cls : Bool) (r : SolRec) : List SolRec :=
  if r.qclass ≠ 3 ∧ cls = true then v.toCheck ++ [r] else v.toCheck

/-- Where an outcome goes: to CLS, or to AUT where it is Q3. -/
def State.outcomeOn (s : State) (r : SolRec) : State :=
  if r.qclass = 3 then (if s.blkOn Blk.AUT then s.autQ3 r.mi r.epoch else s)
  else if s.blkOn Blk.CLS then s.setSlv fun v => { v with toCheck := v.toCheck ++ [r] } else s

theorem State.outcomeOn_slv (s : State) (r : SolRec) :
    (s.outcomeOn r).slv = { s.slv with toCheck := s.slv.checking (s.blkOn Blk.CLS) r } := by
  unfold State.outcomeOn SlvSt.checking
  by_cases hq : r.qclass = 3
  · rw [if_pos hq, if_neg (c := r.qclass ≠ 3 ∧ _) fun h => h.1 hq]
    split
    · exact s.autQ3_slv r.mi r.epoch
    · rfl
  · rw [if_neg hq]
    by_cases hc : s.blkOn Blk.CLS = true
    · rw [if_pos hc, if_pos ⟨hq, hc⟩]
      rfl
    · rw [if_neg hc, if_neg fun h => hc h.2]

/-- The Solve Array once outcome `r` has left, with CLS enabled or not: filter `g` kept, `m` the rates. -/
def SlvSt.outcome (v : SlvSt) (cls : Bool) (r : SolRec) (g : SlvFilter) (m : SMap SlvRate) : SlvSt :=
  { v with
    filters := v.filters.set SlvFilter.fresh r.mi g, rates := m, last := v.last.set none r.mi (some r), outcomes := v.outcomes + 1,
    toCheck := v.checking cls r }

/-- The record kept, with the count of outcomes. -/
def State.kept (s : State) (r : SolRec) : State :=
  s.setSlv fun v => { v with last := v.last.set none r.mi (some r), outcomes := v.outcomes + 1 }

/-- The record mirrored, and the machine's decimation set to `n`. -/
def State.mirrored (s : State) (r : SolRec) (n : Nat) : State :=
  let s := s.mirror r.mi (.solution r)
  s.setSlv fun v => { v with rates := v.rates.set SlvRate.none r.mi { s.slvRate r.mi with decim := n } }

theorem State.ratesOnly_mirrored (s : State) (r : SolRec) (n : Nat) : s.RatesOnly (s.mirrored r n) :=
  (s.progress_mirror r.mi (.solution r) false).ratesOnly.trans ⟨⟨_, rfl⟩, rfl⟩

/-- A filter set and its outcome delivered. -/
theorem State.deliver_slv {s t : State} {r : SolRec} {g : SlvFilter} (h : (s.setFilter r.mi g).RatesOnly t) :
    ∃ m, (t.deliver r).slv = s.slv.outcome (s.blkOn Blk.CLS) r g m := by
  have hdeliver : ∃ (n : Nat) (c : Bool), t.deliver r = (if c then (((t.kept r).mirrored r n).ringPut
      (((t.kept r).mirrored r n).fld F.SLV_OUT_RING) Blk.SLV r.bytes true).1 else (t.kept r).mirrored r n).outcomeOn r := ⟨_, _, rfl⟩
  obtain ⟨n, c, hd⟩ := hdeliver
  obtain ⟨⟨m, hslv⟩, hcls⟩ := ((t.kept r).ratesOnly_mirrored r n).trans
    (State.ratesOnly_ringPut _ (((t.kept r).mirrored r n).fld F.SLV_OUT_RING) Blk.SLV r.bytes true |>.ite (c := c = true))
  obtain ⟨⟨_, ht⟩, htcls⟩ := h
  have hkept : (t.kept r).slv = { t.slv with last := t.slv.last.set none r.mi (some r), outcomes := t.slv.outcomes + 1 } := rfl
  have hon : (t.kept r).blkOn Blk.CLS = s.blkOn Blk.CLS := htcls
  exact ⟨m, by rw [hd, State.outcomeOn_slv, hslv, hcls, hon, hkept, ht]; rfl⟩

/-- An epoch without a solution keeps its filter's state. -/
theorem State.unsolved_slv (s : State) (lane : Nat) (b : Bundle) (u : RefUse) (reason us : Nat) : ∃ m,
    (s.unsolved lane b u reason us).slv = s.slv.outcome (s.blkOn Blk.CLS) (Machine.noSolution b u lane reason us (s.slvFilter b.mi))
      { s.slvFilter b.mi with lastEpoch := some b.epoch } m :=
  State.deliver_slv (r := Machine.noSolution b u lane reason us (s.slvFilter b.mi)) (State.progress_mirror _ _ _ _).ratesOnly

/-! ## Solved epochs (R122–R129) -/

/-- The filter as fixing leaves it, with the course of its output. -/
def FloatSol.headed (r : FloatSol) (c : LaneCfg) (b : Bundle) (us was : Nat) : SlvFilter :=
  { (r.fixing c b us).1 with heading := headingOf was (r.fixing c b us).1.output }

/-- The record of an epoch whose float solution is `r`. -/
def State.solved (s : State) (lane : Nat) (b : Bundle) (u : RefUse) (re : RefEpoch) (v : LaneTime) (r : FloatSol) : SolRec :=
  s.solRecord b u re lane v.solveUs r (r.headed s.laneCfg b v.searchUs (s.slvFilter b.mi).heading) (r.fixing s.laneCfg b v.searchUs).2

/-- The filter it keeps. -/
def State.solvedFilter (s : State) (lane : Nat) (b : Bundle) (u : RefUse) (re : RefEpoch) (v : LaneTime) (r : FloatSol) : SlvFilter :=
  let g := r.headed s.laneCfg b v.searchUs (s.slvFilter b.mi).heading
  { g with everQ0 := g.everQ0 || (s.solved lane b u re v r).qclass == 0 }

/-- What a solved epoch notes between its filter and its outcome: a first fix, the machine's speed and position, a fix lost. -/
def State.solveNotes (s : State) (mi : Nat) (first dropped : Bool) (speed2 : Nat) (pos : Int × Int) : State :=
  let s := if first then s.raise Ev.SLV_FIRST_FIX 0 else s
  let s := s.setSlvRate mi { s.slvRate mi with speed2 := some speed2, pos := some pos }
  if dropped then
    ((s.setSlvRate mi { s.slvRate mi with fixLost := (s.slvRate mi).fixLost + 1 }).bump (slvCnt 5)).raise Ev.SLV_FIX_LOST mi
  else s

theorem State.ratesOnly_solveNotes (s : State) (mi : Nat) (first dropped : Bool) (speed2 : Nat) (pos : Int × Int) :
    s.RatesOnly (s.solveNotes mi first dropped speed2 pos) := by
  have hfirst : s.RatesOnly (if first then s.raise Ev.SLV_FIRST_FIX 0 else s) := (s.progress_raise _ _).ratesOnly.ite
  refine (hfirst.trans (State.ratesOnly_setSlvRate _ mi _)).trans (State.RatesOnly.ite ?_)
  exact ((State.ratesOnly_setSlvRate _ _ _).trans (State.progress_bump _ (slvCnt 5) 1).ratesOnly).trans
    (State.progress_raise _ _ _).ratesOnly

theorem State.solve_slv {s : State} {lane : Nat} {b : Bundle} {u : RefUse} {re : RefEpoch} {r : FloatSol} (v : LaneTime)
    (href : b.ref = some re)
    (hfloat : (s.slvFilter b.mi).float s.laneCfg b u.src re (siteEnu s.siteOrigin re.pos) = some r) : ∃ m, (s.solve lane b u v).slv =
      s.slv.outcome (s.blkOn Blk.CLS) (s.solved lane b u re v r) (s.solvedFilter lane b u re v r) m := by
  have hsolve : ∃ first speed2 pos, s.solve lane b u v = (((s.setFilter b.mi (s.solvedFilter lane b u re v r)).solveNotes b.mi first
      (r.fixing s.laneCfg b v.searchUs).2 speed2 pos).mirror b.mi (.filter b.mi (s.solvedFilter lane b u re v r))).deliver
        (s.solved lane b u re v r) := by
    simp only [State.solve, href, hfloat]
    exact ⟨_, _, _, rfl⟩
  obtain ⟨first, speed2, pos, hsolve⟩ := hsolve
  rw [hsolve]
  exact State.deliver_slv (r := s.solved lane b u re v r) ((State.ratesOnly_solveNotes _ _ _ _ _ _).trans
    (State.progress_mirror _ _ _ _).ratesOnly)

/-! ## Quality class and its reason (R125, R126, R129) -/

section Quality

variable {s : State} {f : SlvFilter} {u : RefUse} {h3 : Nat}

theorem State.solClass_q0 (h : s.solClass f u h3 = 0) : f.fix = 3 ∧ u.pred = false ∧ h3 ≤ s.fld F.SLV_QBOUND0_H3_Q0 := by
  unfold State.solClass at h
  split at h
  next hq => exact ⟨hq.1, hq.2.2⟩
  next => split at h <;> [skip; split at h] <;> exact absurd h (by decide)

theorem State.solClass_q1 (h : s.solClass f u h3 = 1) : 2 ≤ f.fix ∧ h3 ≤ s.fld F.SLV_QBOUND0_H3_Q1 := by
  unfold State.solClass at h
  split at h
  · exact absurd h (by decide)
  split at h
  next hq => exact ⟨hq.1, hq.2.1⟩
  next => split at h <;> exact absurd h (by decide)

theorem State.solClass_q2 (h : s.solClass f u h3 = 2) : 1 ≤ f.fix ∧ h3 ≤ s.fld F.SLV_QBOUND1_H3_Q2 := by
  unfold State.solClass at h
  split at h
  · exact absurd h (by decide)
  split at h
  · exact absurd h (by decide)
  split at h
  next hq => exact hq
  next => exact absurd h (by decide)

theorem State.solReason_q0 (b : Bundle) (dropped : Bool) : s.solReason f b u dropped 0 = 0 := rfl

theorem State.solReason_ne_zero {b : Bundle} {dropped : Bool} {q : Nat} (h : q ≠ 0) : s.solReason f b u dropped q ≠ 0 := by
  unfold State.solReason
  rw [if_neg h]
  split_ifs <;> decide

theorem State.floor_le_solH3 (e : Est) : s.fld F.SLV_QBOUND1_H3_FLOOR ≤ s.solH3 e u :=
  (Nat.le_max_left _ _).trans (Nat.le_add_right _ _)

end Quality

/-- Without geometry there is no float solution (R118). -/
theorem SlvFilter.float_of_no_geometry {f : SlvFilter} {c : LaneCfg} {b : Bundle} {re : RefEpoch} (src : Nat) (ref : List Rat)
    (h : geometryOk (sdsOf b.obs re (solutionSats b.obs re c.mask)) = false) : f.float c b src re ref = none := by
  simp only [SlvFilter.float, h, Bool.not_false, if_true]

/-! ## A lane completes its epoch (R127, R145) -/

/-- The lane free again. -/
def State.laneFreed (s : State) (lane : Nat) : State := s.setLane lane { s.lane lane with busy := none, idleAt := s.mono }

section Complete

variable {s : State} {lane : Nat} {b : Bundle} {u : RefUse} {v : LaneTime} (hs : s.works Blk.SLV) (hst : s.isStandby = false)
include hs hst

theorem exec_solveComplete_idle (hbusy : (s.lane lane).busy = none) : exec (.solveComplete lane v) s = .next s := by
  refine (whileSlvOn_eq _ hs hst).trans ?_
  simp only [hbusy]

theorem exec_solveComplete_discarded (hbusy : (s.lane lane).busy = some b) (h : b.void = true ∨ s.slvValid b.mi = false) :
    exec (.solveComplete lane v) s = .next (s.laneFreed lane) := by
  refine (whileSlvOn_eq _ hs hst).trans (congrArg Host.Outcome.next ?_)
  have hout : (b.void || !(s.laneFreed lane).slvValid b.mi) = true := by
    rw [Bool.or_eq_true, Bool.not_eq_true']
    exact h
  simp only [hbusy]
  exact if_pos hout

theorem exec_solveComplete (hbusy : (s.lane lane).busy = some b) (hvoid : b.void = false) (hvalid : s.slvValid b.mi = true)
    (hmatch : b.matched = some u) : exec (.solveComplete lane v) s = .next ((s.laneFreed lane).solve lane b u v) := by
  refine (whileSlvOn_eq _ hs hst).trans (congrArg Host.Outcome.next ?_)
  have hin : ¬ (b.void || !(s.laneFreed lane).slvValid b.mi) = true := by
    rw [hvoid, show (s.laneFreed lane).slvValid b.mi = true from hvalid]
    decide
  simp only [hbusy]
  exact (if_neg hin).trans (by simp only [hmatch]; rfl)

end Complete

/-- `t` is `s` after lane `lane` finished an epoch with record `r` and left filter `g`. -/
structure State.LaneDone (s t : State) (lane : Nat) (r : SolRec) (g : SlvFilter) : Prop where
  busy : (t.lane lane).busy = none
  last : t.slv.last.get none r.mi = some r
  filter : t.slvFilter r.mi = g
  outcomes : t.slv.outcomes = s.slv.outcomes + 1
  toCheck : t.slv.toCheck = s.slv.checking (s.blkOn Blk.CLS) r

theorem State.laneDone_of_outcome {s t : State} {lane : Nat} {r : SolRec} {g : SlvFilter} {m : SMap SlvRate}
    (h : t.slv = (s.laneFreed lane).slv.outcome (s.blkOn Blk.CLS) r g m) : s.LaneDone t lane r g := by
  have hlane : t.lane lane = (s.laneFreed lane).lane lane := by
    rw [State.lane, h]
    rfl
  exact {
    busy := by rw [hlane, State.laneFreed, State.lane_setLane_same]
    last := by rw [h, SlvSt.outcome, SMap.get_set_same]
    filter := by rw [State.slvFilter, h, SlvSt.outcome, SMap.get_set_same]
    outcomes := congrArg SlvSt.outcomes h
    toCheck := congrArg SlvSt.toCheck h }

section Done

variable {s : State} {lane : Nat} {b : Bundle} {u : RefUse} (v : LaneTime)

theorem State.laneDone_solved {re : RefEpoch} {r : FloatSol} (href : b.ref = some re)
    (hfloat : (s.slvFilter b.mi).float s.laneCfg b u.src re (siteEnu s.siteOrigin re.pos) = some r) :
    s.LaneDone ((s.laneFreed lane).solve lane b u v) lane (s.solved lane b u re v r) (s.solvedFilter lane b u re v r) := by
  obtain ⟨m, hm⟩ := State.solve_slv (s := s.laneFreed lane) (lane := lane) v href hfloat
  exact State.laneDone_of_outcome hm

theorem State.laneDone_unsolved (reason : Nat) : s.LaneDone ((s.laneFreed lane).unsolved lane b u reason v.solveUs) lane
    (Machine.noSolution b u lane reason v.solveUs (s.slvFilter b.mi)) { s.slvFilter b.mi with lastEpoch := some b.epoch } := by
  obtain ⟨m, hm⟩ := (s.laneFreed lane).unsolved_slv lane b u reason v.solveUs
  exact State.laneDone_of_outcome hm

theorem State.solve_noReference (href : b.ref = none) : s.solve lane b u v = s.unsolved lane b u 1 v.solveUs := by
  simp only [State.solve, href]

theorem State.solve_noGeometry {re : RefEpoch} (href : b.ref = some re)
    (hgeo : geometryOk (sdsOf b.obs re (solutionSats b.obs re s.laneCfg.mask)) = false) :
    s.solve lane b u v = s.unsolved lane b u 2 v.solveUs := by
  simp only [State.solve, href, SlvFilter.float_of_no_geometry u.src _ hgeo]

end Done

end Sys2Proof.Machine
end

section
/-!
How the lanes wake (R134–R136): what the power arbiter leaves when asked for a lane's leave, and what waking the wanted lanes leaves.
-/

namespace Sys2Proof.Machine

/-! ## What the arbiter changes (R361, R363) -/

/-- The registers of the power figures and of DMU's clocks, with the counters of leaves. -/
def laneRegs : List Nat := R.PWR_CNT :: (R.PWR_CNT + 4) :: followRegs

/-- `t` is `s` after the arbiter's work: of PWR's state the running test and the last refusal alone have changed. -/
structure State.Arbitrated (s t : State) : Prop where
  progress : State.Progress laneRegs [.pwr] s t
  pwr : ∃ w l, t.pwr = { s.pwr with test := w, lastRefused := l }

theorem State.Arbitrated.refl (s : State) : s.Arbitrated s := ⟨.refl _ _ s, _, _, rfl⟩

theorem State.Arbitrated.trans {s t u : State} (h : s.Arbitrated t) (k : t.Arbitrated u) : s.Arbitrated u := by
  obtain ⟨hp, _, _, ht⟩ := h
  obtain ⟨kp, w, l, hu⟩ := k
  exact ⟨hp.add kp, w, l, by rw [hu, ht]⟩

theorem State.Progress.arbitrated {regs : List Nat} {s t : State} (h : State.Progress regs [] s t)
    (hr : ∀ a ∈ regs, a ∈ laneRegs := by decide) : s.Arbitrated t :=
  ⟨h.widen hr, s.pwr.test, s.pwr.lastRefused, h.same .pwr⟩

section Arbiter

variable (s : State)

theorem State.testStat_pwr (unit result defer index : Nat) : (s.testStat unit result defer index).pwr = s.pwr := by
  rw [State.testStat, State.setFld_pwr, State.setFld_pwr, State.setFld_pwr, State.setFld_pwr]

theorem State.testDefer_pwr (u : TestUnit) (i reason : Nat) : (s.testDefer u i reason).pwr = s.pwr := by
  rw [State.testDefer, State.raise_pwr _ _ (by decide), State.bump_pwr, State.testStat_pwr]

theorem State.testWithdraw_none {s : State} (h : s.pwr.test = none) : s.testWithdraw = s := by
  simp only [State.testWithdraw, h]

theorem State.testWithdraw_pwr {s : State} {t : MaintTest} (h : s.pwr.test = some t) :
    s.testWithdraw.pwr = { s.pwr with test := none } := by
  unfold State.testWithdraw
  rw [h]
  exact (State.testDefer_pwr _ _ _ _).trans (State.bump_pwr _ _ _)

theorem State.arbitrated_testWithdraw : s.Arbitrated s.testWithdraw := by
  cases h : s.pwr.test with
  | none =>
    rw [State.testWithdraw_none h]
    exact State.Arbitrated.refl s
  | some t => exact ⟨s.progress_testWithdraw.widen, _, _, State.testWithdraw_pwr h⟩

theorem State.arbitrated_powerCheck : s.Arbitrated s.powerCheck := by
  refine ⟨s.progress_powerCheck.widen, ?_⟩
  obtain ⟨-, w, l, hw⟩ := s.arbitrated_testWithdraw
  unfold State.powerCheck
  dsimp only
  split
  · split
    · exact ⟨w, l, hw⟩
    · exact ⟨w, l, (State.raise_pwr _ _ (by decide)).trans hw⟩
  · split <;> exact ⟨_, _, rfl⟩

theorem State.arbitrated_leaveRefused (who mw : Nat) : s.Arbitrated (s.leaveRefused who mw) := by
  have hcount := s.progress_bump (F.PWR_CNT_COUNT.nth 1) 1
  unfold State.leaveRefused
  dsimp only
  split
  · refine ⟨((State.Progress.refl _ _ s).add hcount).add ((State.progress_pwr _ _).add (State.progress_raise _ _ _)), s.pwr.test,
      some (s.bump (F.PWR_CNT_COUNT.nth 1)).mono, ?_⟩
    rw [State.raise_pwr _ _ (by decide), State.bump_pwr]
  · exact hcount.arbitrated

/-- A service leave asked for. -/
theorem State.arbitrated_leave (who mw : Nat) : s.Arbitrated (s.leave .service who mw).1 := by
  have hgrant : ∀ u : State, u.Arbitrated (u.bump (F.PWR_CNT_COUNT.nth 0)) := fun u => (u.progress_bump _ 1).arbitrated
  simp only [State.leave]
  split
  · exact hgrant s
  · split
    · exact s.arbitrated_testWithdraw.trans (hgrant _)
    · exact s.arbitrated_leaveRefused who mw

end Arbiter

/-! ## Lanes wake (R134–R136) -/

/-- `t` is `s` after some of the lanes `ls` woke, or asked for a leave and were refused. -/
structure State.Wakes (ls : List Nat) (s t : State) : Prop where
  progress : State.Progress laneRegs [.slv, .pwr] s t
  slv : ∃ lanes refused, t.slv = { s.slv with lanes := lanes, refusedAt := refused }
  outOfService : t.pwr.outOfService = s.pwr.outOfService
  other : ∀ k ∉ ls, t.lane k = s.lane k
  refused : t.slv.refusedAt = s.slv.refusedAt ∨ (t.slv.refusedAt = some s.mono ∧ t.pend Ev.SLV_LEAVE_REFUSED = true)

namespace State.Wakes

variable {ls : List Nat} {s t u : State}

theorem trans (h : s.Wakes ls t) (k : t.Wakes ls u) : s.Wakes ls u := by
  obtain ⟨_, _, ht⟩ := h.slv
  obtain ⟨_, _, hu⟩ := k.slv
  have hmono : t.mono = s.mono := h.progress.same .mono
  refine ⟨h.progress.add k.progress, ⟨_, _, by rw [hu, ht]⟩, k.outOfService.trans h.outOfService,
    fun n hn => (k.other n hn).trans (h.other n hn), ?_⟩
  rcases k.refused with hk | ⟨hk, hp⟩
  · rw [hk]
    exact h.refused.imp_right fun hr => ⟨hr.1, k.progress.pend _ (by decide) hr.2⟩
  · exact .inr ⟨hk.trans (congrArg some hmono), hp⟩

theorem mono {ms : List Nat} (h : s.Wakes ls t) (hsub : ls ⊆ ms) : s.Wakes ms t :=
  { h with other := fun k hk => h.other k fun hm => hk (hsub hm) }

end State.Wakes

/-- The arbiter wakes no lane. -/
theorem State.Arbitrated.wakes {s t : State} (h : s.Arbitrated t) (ls : List Nat) : s.Wakes ls t := by
  have hslv : t.slv = s.slv := h.progress.same .slv
  obtain ⟨_, _, hpwr⟩ := h.pwr
  exact {
    progress := h.progress.widen
    slv := ⟨_, _, hslv⟩
    outOfService := by rw [hpwr]
    other := fun k _ => by rw [State.lane, hslv, State.lane]
    refused := .inl (by rw [hslv]) }

section Waking

variable (s : State) (l : Nat)

theorem State.wakes_laneWake (leave : Bool) : s.Wakes [l] (s.laneWake l leave) := by
  have hset : s.Wakes [l] (s.setLane l { s.lane l with awake := true, leave := leave, idleAt := s.mono }) :=
    { progress := (s.progress_setSlv _).widen
      slv := ⟨_, _, rfl⟩
      outOfService := rfl
      other := fun k hk => s.lane_setLane_other _ (by simpa using hk)
      refused := .inl rfl }
  unfold State.laneWake
  dsimp only
  split
  · exact { hset with progress := hset.progress.add (State.progress_pwr _ _) }
  · exact hset

theorem State.wakes_laneLeave : s.Wakes [l] (s.laneLeave l) := by
  have hask := s.arbitrated_leave 1 450
  unfold State.laneLeave
  split <;> rename_i u hu <;> rw [hu] at hask
  · exact (hask.wakes [l]).trans (u.wakes_laneWake l true)
  · refine (hask.wakes [l]).trans ?_
    have hslv := State.raise_slv (u.setSlv fun v => { v with refusedAt := some u.mono }) 0 (n := Ev.SLV_LEAVE_REFUSED) (by decide)
    exact {
      progress := ((State.Progress.refl _ _ u).add (u.progress_setSlv _)).add (State.progress_raise _ _ _)
      slv := ⟨_, _, hslv⟩
      outOfService := congrArg PwrSt.outOfService (State.raise_pwr _ _ (by decide))
      other := fun k _ => by rw [State.lane, hslv]; rfl
      refused := .inr ⟨congrArg SlvSt.refusedAt hslv, State.pend_raise _ _ _⟩ }

/-- One wanted lane wakes: on the base budget, or on a leave. -/
def State.laneStep (s : State) (l : Nat) : State :=
  if (s.lane l).awake then s
  else if s.lanesBase.contains l then s.laneWake l false
  else if s.slv.refusedAt.isSome then s
  else s.laneLeave l

theorem State.wakes_laneStep : s.Wakes [l] (s.laneStep l) := by
  unfold State.laneStep
  split
  · exact (State.Arbitrated.refl s).wakes _
  split
  · exact s.wakes_laneWake l false
  split
  · exact (State.Arbitrated.refl s).wakes _
  · exact s.wakes_laneLeave l

theorem State.wakes_foldl (ls : List Nat) : s.Wakes ls (ls.foldl State.laneStep s) := by
  induction ls generalizing s with
  | nil => exact (State.Arbitrated.refl s).wakes _
  | cons l ls ih => exact ((s.wakes_laneStep l).mono (by simp)).trans ((ih _).mono (List.subset_cons_self l ls))

/-- The wanted lanes wake as far as the budget lets them. -/
theorem State.wakes_slvLanes : s.Wakes s.lanesWanted s.slvLanes :=
  (s.wakes_foldl s.lanesWanted).trans ((State.arbitrated_powerCheck _).wakes _)

theorem State.not_mem_lanesIn {s : State} {l : Nat} (h : s.laneOut l = true) : l ∉ s.lanesIn := fun hm => by
  simpa [h] using (List.mem_filter.mp hm).2

/-- A lane out of service is not wanted awake. -/
theorem State.not_mem_lanesWanted {s : State} {l : Nat} (h : s.laneOut l = true) : l ∉ s.lanesWanted := by
  unfold State.lanesWanted
  split
  · exact List.not_mem_nil
  split
  · exact fun hm => by simpa [h] using (List.mem_filter.mp hm).2
  · exact fun hm => State.not_mem_lanesIn h (List.mem_of_mem_take hm)

end Waking

end Sys2Proof.Machine
end

section
/-!
Lane faults, intervals, the lane plan and `SLV_CMD` (R134–R138, R145, R147): one equation for each command, and what its state is left
with. The last theorem settles O42.
-/

namespace Sys2Proof.Machine

/-! ## Lane faults (R134, R147) -/

/-- `t` is `s` with lane `lane` out of service, and `retry` the epochs that restart. -/
structure State.LaneLost (s t : State) (lane : Nat) (retry : List Bundle) : Prop where
  progress : State.Progress laneRegs [.slv, .pwr] s t
  out : t.pwr.outOfService.contains (TestUnit.lane, lane) = true
  asleep : t.lane lane = SlvLane.asleep
  retry : t.slv.retry = retry
  pend : t.pend Ev.SLV_LANE_FAULT = true

/-- A lane taken out of service, with event 88. -/
def State.laneTaken (s : State) (lane : Nat) : State :=
  ({ s with pwr := { s.pwr with outOfService := s.pwr.outOfService ++ [(TestUnit.lane, lane)] } }.laneSleep lane).raise Ev.SLV_LANE_FAULT 0

theorem State.laneLost_laneTaken (s : State) (lane : Nat) : s.LaneLost (s.laneTaken lane) lane s.slv.retry := by
  let u : State := { s with pwr := { s.pwr with outOfService := s.pwr.outOfService ++ [(TestUnit.lane, lane)] } }
  have hslv : (s.laneTaken lane).slv = (u.setLane lane SlvLane.asleep).slv := State.raise_slv _ _ (by decide)
  have hpwr : (s.laneTaken lane).pwr = (u.laneSleep lane).pwr := State.raise_pwr _ _ (by decide)
  exact {
    progress := ((((State.Progress.refl _ _ s).add (s.progress_pwr _)).add (u.progress_setSlv _)).add (State.progress_pwr _ _)).add
      (State.progress_raise _ _ _)
    out := by
      rw [hpwr, List.contains_iff_mem]
      exact List.mem_append_right _ (List.mem_singleton_self _)
    asleep := by
      rw [State.lane, hslv]
      exact u.lane_setLane_same lane _
    retry := by
      rw [hslv]
      rfl
    pend := State.pend_raise _ _ _ }

namespace State.LaneLost

variable {s t : State} {lane : Nat} {retry : List Bundle}

/-- One more epoch restarts. -/
theorem restart (h : s.LaneLost t lane retry) (b : Bundle) :
    s.LaneLost (t.setSlv fun v => { v with retry := v.retry ++ [b] }) lane (retry ++ [b]) where
  progress := h.progress.add (t.progress_setSlv _)
  out := h.out
  asleep := h.asleep
  retry := congrArg (· ++ [b]) h.retry
  pend := h.pend

/-- Other lanes wake for it; it does not. -/
theorem slvLanes (h : s.LaneLost t lane retry) : s.LaneLost t.slvLanes lane retry := by
  have hout : t.laneOut lane = true := by
    rw [State.laneOut, h.out, Bool.true_or]
  have hwakes := t.wakes_slvLanes
  obtain ⟨_, _, hslv⟩ := hwakes.slv
  exact {
    progress := h.progress.add hwakes.progress
    out := by rw [hwakes.outOfService, h.out]
    asleep := (hwakes.other lane (State.not_mem_lanesWanted hout)).trans h.asleep
    retry := by rw [hslv, ← h.retry]
    pend := hwakes.progress.pend _ (by decide) h.pend }

end State.LaneLost

section Fault

variable {s : State} {lane : Nat}

theorem State.laneFault_out (h : s.pwr.outOfService.contains (TestUnit.lane, lane) = true) : s.laneFault lane = s := by
  rw [State.laneFault, if_pos (by rw [h, Bool.or_true])]

theorem State.laneLost_laneFault {retry : List Bundle} (hl : lane < 32) (hin : s.pwr.outOfService.contains (TestUnit.lane, lane) = false)
    (hretry : (∃ b, (s.lane lane).busy = some b ∧ b.void = false ∧ retry = s.slv.retry ++ [{ b with noSearch := true }]) ∨
      ((s.lane lane).busy = none ∧ retry = s.slv.retry)) : s.LaneLost (s.laneFault lane) lane retry := by
  have hgo : ¬ (decide (32 ≤ lane) || s.pwr.outOfService.contains (TestUnit.lane, lane)) = true := by
    rw [hin, Bool.or_false, decide_eq_true_iff]
    omega
  have htaken := s.laneLost_laneTaken lane
  rw [State.laneFault, if_neg hgo]
  obtain ⟨b, hbusy, hvoid, rfl⟩ | ⟨hbusy, rfl⟩ := hretry
  · simp only [hbusy, hvoid, Bool.false_eq_true, if_false]
    exact (htaken.restart _).slvLanes
  · simp only [hbusy]
    exact htaken.slvLanes

theorem exec_laneFault_residue (hs : s.works Blk.SLV) : exec (.laneFault lane .residue) s = .next (s.laneFault lane) :=
  whileOn_eq _ hs.1 hs.2

theorem exec_laneFault_scratch (hs : s.works Blk.SLV) :
    exec (.laneFault lane .scratch) s = .next ((s.bump F.SLV_ECC_UNCORRECTED).laneFault lane) := whileOn_eq _ hs.1 hs.2

theorem exec_laneFault_corrected (hs : s.works Blk.SLV) :
    exec (.laneFault lane .corrected) s = .next (s.bump F.SLV_ECC_CORRECTED) := whileOn_eq _ hs.1 hs.2

theorem exec_laneFault_cache (hs : s.works Blk.SLV) :
    exec (.laneFault lane .cache) s = .next (s.bump F.SLV_ECC_UNCORRECTED) := whileOn_eq _ hs.1 hs.2

end Fault

/-- A filter restarted, with its last epoch and its course (R145, R147). -/
def SlvFilter.cleared (f : SlvFilter) : SlvFilter := { SlvFilter.fresh with lastEpoch := f.lastEpoch, heading := f.heading }

/-- The filter of machine `mi` lost with its state in DRAM, and event 94. -/
def State.filterLost (s : State) (mi : Nat) : State :=
  ((s.bump F.SLV_ECC_UNCORRECTED).setFilter mi (s.slvFilter mi).cleared).raise Ev.SLV_FILTER_RESET 0

section FilterLost

variable (s : State) (mi : Nat)

theorem exec_laneFault_stored {s : State} (hs : s.works Blk.SLV) : exec (.laneFault mi .stored) s = .next (s.filterLost mi) :=
  whileOn_eq _ hs.1 hs.2

theorem State.progress_filterLost : State.Progress [R.SLV_ECC] [.slv] s (s.filterLost mi) := by
  rw [State.filterLost, State.setFilter]
  exact (((State.Progress.refl _ _ s).add (s.progress_bump F.SLV_ECC_UNCORRECTED 1)).add (State.progress_setSlv _ _)).add
    (State.progress_raise _ _ _)

theorem State.filterLost_slv : (s.filterLost mi).slv = (s.setFilter mi (s.slvFilter mi).cleared).slv := by
  rw [State.filterLost, State.raise_slv _ _ (by decide), State.setFilter, State.setSlv_slv, State.bump_slv]
  rfl

theorem State.slvFilter_filterLost_same : (s.filterLost mi).slvFilter mi = (s.slvFilter mi).cleared := by
  rw [State.slvFilter, State.filterLost_slv]
  exact s.slvFilter_setFilter_same mi _

theorem State.slvFilter_filterLost_other {k : Nat} (h : k ≠ mi) : (s.filterLost mi).slvFilter k = s.slvFilter k := by
  rw [State.slvFilter, State.filterLost_slv]
  exact s.slvFilter_setFilter_other _ h

end FilterLost

/-! ## Intervals (R137, R138) -/

/-- The intervals requested stand. -/
def State.ReqKept (s t : State) : Prop := ∀ j, (t.slvRate j).req = (s.slvRate j).req

theorem State.ReqKept.of_slv {s t : State} (h : t.slv = s.slv) : s.ReqKept t := fun j => by rw [State.slvRate, h, State.slvRate]

theorem State.ReqKept.trans {s t u : State} (h : s.ReqKept t) (k : t.ReqKept u) : s.ReqKept u := fun j => (k j).trans (h j)

section Requests

variable (s : State) (mi k : Nat)

theorem State.reqKept_setAirM (m : AirMach) : s.ReqKept (s.setAirM mi m) := .of_slv ((s.bursts_setAirM mi m).progress.same .slv)

theorem State.reqKept_slvGranted : s.ReqKept (s.slvGranted mi k) := fun j => by
  rw [State.slvGranted]
  by_cases hj : j = mi
  · rw [hj, State.slvRate_setSlvRate_same]
  · rw [State.slvRate, State.setSlvRate_slv, SMap.get_set_other _ _ _ _ hj, State.slvRate]

theorem State.reqKept_holdSlot (w : Nat) (g : Grant) : s.ReqKept (s.holdSlot w mi g) := by
  unfold State.holdSlot
  split <;> exact .of_slv rfl

/-- The old slots held, where the grants change. -/
def State.oldHeld (obs rpt : Grant) : State :=
  let m := s.airM mi
  let s := if m.obs == obs then s else s.holdSlot m.wch mi m.obs
  if m.rpt == rpt then s else s.holdSlot m.wch mi m.rpt

theorem State.reqKept_oldHeld (obs rpt : Grant) : s.ReqKept (s.oldHeld mi obs rpt) := by
  have hhold : ∀ (u : State) (c : Bool) (w : Nat) (g : Grant), u.ReqKept (if c then u else u.holdSlot w mi g) := fun u c w g => by
    split
    · exact .of_slv rfl
    · exact u.reqKept_holdSlot mi w g
  exact (hhold s _ _ _).trans (hhold _ _ _ _)

theorem State.reqKept_regrant (obs rpt : Grant) : s.ReqKept (s.regrant mi obs rpt) := by
  have hset := fun m => (s.reqKept_oldHeld mi obs rpt).trans (State.reqKept_setAirM _ mi m)
  have hgrants : s.regrant mi obs rpt = s ∨ ∃ m, s.regrant mi obs rpt = (s.oldHeld mi obs rpt).setAirM mi m ∨
      s.regrant mi obs rpt = ((s.oldHeld mi obs rpt).setAirM mi m).slvGranted mi obs.k := by
    by_cases hsame : ((s.airM mi).obs == obs && (s.airM mi).rpt == rpt) = true
    · exact .inl (if_pos hsame)
    · by_cases hk : ((s.airM mi).obs.k == obs.k) = true
      · exact .inr ⟨_, .inl ((if_neg hsame).trans (if_pos hk))⟩
      · exact .inr ⟨_, .inr ((if_neg hsame).trans (if_neg hk))⟩
  obtain h | ⟨m, h | h⟩ := hgrants <;> rw [h]
  · exact .of_slv rfl
  · exact hset m
  · exact (hset m).trans (State.reqKept_slvGranted _ mi _)

theorem State.reqKept_grantObs : s.ReqKept (s.grantObs mi k) := by
  unfold State.grantObs
  dsimp only
  split
  · exact s.reqKept_regrant mi _ _
  split
  · split
    · exact .of_slv rfl
    · exact (s.reqKept_setAirM mi _).trans (.of_slv rfl)
  · have hraise : s.ReqKept (s.raise Ev.AIR_UL_OVERLOAD 0) := .of_slv (State.raise_slv _ _ (by decide))
    split
    · exact hraise.trans (State.reqKept_regrant _ mi _ _)
    · exact hraise

theorem State.reqKept_airRequest : s.ReqKept (s.airRequest mi k) := by
  unfold State.airRequest
  split
  · exact s.reqKept_grantObs mi k
  · exact .of_slv rfl

/-- An interval requested is the one SLV holds as requested. -/
theorem State.rateRequest_req : ((s.rateRequest mi k).slvRate mi).req = k := by
  rw [State.rateRequest, State.reqKept_airRequest, State.slvRate_setSlvRate_same]

end Requests

section RateStep

variable {s : State} {mi : Nat}

theorem State.rateStep_first (hreq : (s.slvRate mi).req = 0) (hwant : s.rateWant mi ≠ 0) :
    s.rateStep mi = s.rateRequest mi (s.rateWant mi) := by
  simp [State.rateStep, hreq, hwant]

/-- A larger interval computed for less than 5 s is not requested yet. -/
theorem State.rateStep_larger_waits {since : Nat} (hx : s.expert Blk.SLV = false) (hlt : (s.slvRate mi).req < s.rateWant mi)
    (hreq : (s.slvRate mi).req ≠ 0) (hlarger : (s.slvRate mi).larger = some (s.rateWant mi, since))
    (hpassed : s.passed since (5 * nsPerSec) = false) : s.rateStep mi = s := by
  have hwant : s.rateWant mi ≠ 0 := by omega
  have hnot : ¬ s.rateWant mi < (s.slvRate mi).req := by omega
  have hne : s.rateWant mi ≠ (s.slvRate mi).req := by omega
  simp [State.rateStep, hx, hreq, hwant, hnot, hne, hlarger, hpassed]

theorem exec_rateRecompute_one (hs : s.works Blk.SLV) (hst : s.isStandby = false) (hmis : s.slvMis = [mi]) :
    exec .rateRecompute s = .next (s.rateStep mi) := by
  refine (whileSlvOn_eq _ hs hst).trans ?_
  rw [hmis]
  rfl

end RateStep

/-! ## The lane plan (R135, R136) -/

theorem State.shedStep_leaves (s : State) : State.Progress [] [.slv] s s.shedStep ∧ ∃ m, s.shedStep.slv = { s.slv with shed := m } := by
  have hsame : State.Progress [] [.slv] s s ∧ ∃ m, s.slv = { s.slv with shed := m } := ⟨.refl _ _ s, _, rfl⟩
  have hset := fun m : SMap Nat => s.progress_setSlv fun v => { v with shed := m }
  have hraise : ∀ m, State.Progress [] [.slv] s ((s.setSlv fun v => { v with shed := m }).raise Ev.SLV_SHED 0) ∧
      ∃ n, ((s.setSlv fun v => { v with shed := m }).raise Ev.SLV_SHED 0).slv = { s.slv with shed := n } := fun m =>
    ⟨(hset m).add (State.progress_raise _ _ _), m, State.raise_slv _ _ (by decide)⟩
  unfold State.shedStep
  dsimp only
  split
  · split
    · split
      · exact hraise _
      · exact hsame
    · exact hsame
  · split
    · split
      · split
        · exact hraise _
        · exact ⟨hset _, _, rfl⟩
      · exact hsame
    · exact hsame

/-- A write that is not to the machines' table leaves who is registered. -/
theorem State.Frame.slvMis {regs : List Nat} {parts : List Part} {s t : State} (h : State.Frame regs parts s t)
    (hr : R.SLV_MACH_CFG ∉ regs := by decide) : t.slvMis = s.slvMis := by
  have hvalid : t.slvValid = s.slvValid := funext fun mi => by
    simp only [State.slvValid, State.flagB, State.fldB, h.1 mi F.SLV_MACH_CFG_VALID.addr (by decide) hr]
  rw [State.slvMis, hvalid, State.slvMis]

/-- The plan's PLANNED figure written. -/
def State.plannedShown (s : State) : State := s.setFld F.SLV_RATE_PLANNED (Config.roundQuot s.planned 2520).toNat

theorem State.plannedShown_frame (s : State) : State.Frame [R.SLV_RATE] [] s s.plannedShown :=
  s.setFldB_frame (f := F.SLV_RATE_PLANNED) 0 _ (by decide)

/-- A of R135 is the same before and after PLANNED is written. -/
theorem State.plannedShown_awakePlan (s : State) : s.plannedShown.awakePlan = s.awakePlan := by
  have h := s.plannedShown_frame
  have hslv : s.plannedShown.slv = s.slv := h.same .slv
  have hpwr : s.plannedShown.pwr = s.pwr := h.same .pwr
  have hsim : s.plannedShown.sim = s.sim := h.same .sim
  have hp : s.plannedShown.planned = s.planned := by
    have hrate : s.plannedShown.slvRate = s.slvRate := funext fun mi => by rw [State.slvRate, hslv, State.slvRate]
    rw [State.planned, hrate, State.planSum, h.slvMis, State.planned, State.planSum]
  have hin : s.plannedShown.lanesIn = s.lanesIn := by
    simp only [State.lanesIn, State.laneRole, State.laneOut, hsim, hpwr]
  rw [State.awakePlan, hp, hin, h.fld, h.fld, State.awakePlan]

/-- The number of lanes wanted awake set by the plan. -/
def State.laneCountSet (s : State) : State := s.plannedShown.setSlv fun v => { v with awakeWant := s.plannedShown.awakePlan }

/-- The state PLAN_RECOMPUTE leaves at basic level. -/
def State.replanned (s : State) : State := s.laneCountSet.slvLanes.shedStep

theorem exec_planRecompute {s : State} (hs : s.works Blk.SLV) (hst : s.isStandby = false) (hx : s.expert Blk.SLV = false) :
    exec .planRecompute s = .next s.replanned := by
  refine (whileSlvOn_eq _ hs hst).trans (congrArg Host.Outcome.next ?_)
  have hx' : s.plannedShown.expert Blk.SLV = false := by
    rw [State.expert, State.flag, s.plannedShown_frame.fld]
    exact hx
  exact if_neg (c := s.plannedShown.expert Blk.SLV = true) (by rw [hx']; decide)

theorem State.replanned_planned (s : State) :
    s.replanned.fld F.SLV_RATE_PLANNED = (Config.roundQuot s.planned 2520).toNat % 65536 := by
  rw [State.replanned, (State.shedStep_leaves _).1.fld, (State.wakes_slvLanes _).progress.fld, State.laneCountSet,
    (State.progress_setSlv _ _).fld]
  exact s.fld_setFld_same _ (by decide) (by decide) (by decide)

theorem State.replanned_awakeWant (s : State) : s.replanned.slv.awakeWant = s.awakePlan := by
  obtain ⟨-, _, hshed⟩ := s.laneCountSet.slvLanes.shedStep_leaves
  obtain ⟨_, _, hlanes⟩ := s.laneCountSet.wakes_slvLanes.slv
  rw [State.replanned, hshed, hlanes]
  exact s.plannedShown_awakePlan

/-! ## Lanes sleep, and leaves are asked for again (R135, R136) -/

section Sleep

variable {s : State} {lane : Nat} (hs : s.works Blk.SLV)
include hs

theorem exec_laneSleep_idle (hawake : (s.lane lane).awake = true) (hwant : s.lanesWanted.contains lane = false)
    (hbusy : (s.lane lane).busy = none) (hidle : s.passed (s.lane lane).idleAt (10 * nsPerSec) = true) :
    exec (.laneSleep lane) s = .next (s.laneSleep lane).powerCheck :=
  (whileOn_eq _ hs.1 hs.2).trans (congrArg Host.Outcome.next (if_pos ⟨hawake, hwant, hbusy, hidle⟩))

theorem exec_laneSleep_needed (h : s.lanesWanted.contains lane = true ∨ (s.lane lane).busy.isSome = true) :
    exec (.laneSleep lane) s = .next s := by
  refine (whileOn_eq _ hs.1 hs.2).trans (congrArg Host.Outcome.next (if_neg ?_))
  rintro ⟨-, hwant, hbusy, -⟩
  rw [hwant, hbusy] at h
  exact absurd h (by decide)

theorem exec_laneLeaveRetry_due {at' : Nat} (href : s.slv.refusedAt = some at') (hdue : s.passed at' (100 * nsPerMs) = true) :
    exec .laneLeaveRetry s = .next (s.setSlv fun v => { v with refusedAt := none }).slvLanes := by
  refine (whileOn_eq _ hs.1 hs.2).trans (congrArg Host.Outcome.next ?_)
  simp only [href]
  exact if_pos hdue

end Sleep

theorem State.laneSleep_powerCheck (s : State) (lane : Nat) : ((s.laneSleep lane).powerCheck.lane lane = SlvLane.asleep) ∧
    (s.laneSleep lane).powerCheck.pwr.laneLeaves = s.pwr.laneLeaves.erase lane := by
  obtain ⟨hp, _, _, hpwr⟩ := (s.laneSleep lane).arbitrated_powerCheck
  have hslv : (s.laneSleep lane).powerCheck.slv = (s.laneSleep lane).slv := hp.same .slv
  refine ⟨?_, by rw [hpwr]; rfl⟩
  rw [State.lane, hslv]
  exact s.lane_setLane_same lane _

/-! ## `SLV_CMD` (R145) -/

theorem exec_resetFilter {s : State} (hs : s.works Blk.SLV) (hst : s.isStandby = false) (mi : Nat) :
    exec (.resetFilter mi) s = .next (s.setFilter mi { s.slvFilter mi with reset := true }) :=
  (whileOn_eq _ hs.1 hs.2).trans (congrArg Host.Outcome.next (if_neg (by simp [hst])))

theorem exec_refix {s : State} (hs : s.works Blk.SLV) (hst : s.isStandby = false) (mi : Nat) :
    exec (.refix mi) s = .next (s.setFilter mi { s.slvFilter mi with refix := true }) :=
  (whileOn_eq _ hs.1 hs.2).trans (congrArg Host.Outcome.next (if_neg (by simp [hst])))

/-- A filter without a fix, a search or a reset due. -/
def SlvFilter.Unfixed (f : SlvFilter) : Prop := f.fix ≤ 1 ∧ f.lastSearch = none ∧ f.reset = false

theorem SlvFilter.Unfixed.floated {f : SlvFilter} (h : f.Unfixed) : f.floated.Unfixed :=
  ⟨Nat.min_le_right _ _, h.2⟩

/-- A filter as its epoch starts, but for a change of reference station. -/
def SlvFilter.restarted (f : SlvFilter) (b : Bundle) : SlvFilter :=
  let g := if f.reset || b.restart then f.cleared else f
  let g := if f.refix then { g.floated with refix := false, lastSearch := none } else g
  { g with started := true }

theorem SlvFilter.begin_cases (f : SlvFilter) (b : Bundle) : f.begin b = f.restarted b ∨ f.begin b = (f.restarted b).unlocked := by
  have hbegin : f.begin b = match b.matched with
    | some u => if u.src == 0xFF || (f.restarted b).src == 0xFF || stationOf (f.restarted b).src == stationOf u.src then f.restarted b
      else (f.restarted b).unlocked
    | none => f.restarted b := rfl
  rw [hbegin]
  split
  · split
    · exact .inl rfl
    · exact .inr rfl
  · exact .inl rfl

theorem SlvFilter.restarted_reset {f : SlvFilter} (b : Bundle) (h : f.reset = true) : (f.restarted b).Unfixed := by
  have hcleared : f.cleared.Unfixed := ⟨Nat.zero_le 1, rfl, rfl⟩
  rw [SlvFilter.restarted, h, Bool.true_or, if_pos rfl]
  split
  · exact ⟨hcleared.floated.1, rfl, rfl⟩
  · exact hcleared

/-- A reset filter starts its epoch unfixed (R145). -/
theorem SlvFilter.begin_reset {f : SlvFilter} (b : Bundle) (h : f.reset = true) : (f.begin b).Unfixed := by
  have hstart := SlvFilter.restarted_reset b h
  obtain hb | hb := f.begin_cases b <;> rw [hb]
  · exact hstart
  · exact ⟨hstart.floated.1, hstart.2⟩

/-! ## The record of a solved epoch (R125, R126, R128, R129) -/

/-- The course has no part in the output. -/
theorem SlvFilter.output_heading (g : SlvFilter) (h : Nat) : SlvFilter.output { g with heading := h } = g.output := rfl

theorem FloatSol.headed_output (r : FloatSol) (c : LaneCfg) (b : Bundle) (us was : Nat) :
    (r.headed c b us was).output = (r.fixing c b us).1.output := SlvFilter.output_heading _ _

section Record

variable {s : State} {b : Bundle} {u : RefUse} {re : RefEpoch} {lane us : Nat} {r : FloatSol} {f : SlvFilter} {dropped : Bool} {o : SolRec}
  (ho : o = s.solRecord b u re lane us r f dropped)
include ho

/-- Position and H3 of a record are those of the filter's output. -/
theorem State.solRecord_position : o.e = wholeOf (f.output.x.getD 0 0) ∧ o.n = wholeOf (f.output.x.getD 1 0) ∧
    o.u = wholeOf (f.output.x.getD 2 0) ∧ o.h3 = s.solH3 f.output u := by
  subst ho
  exact ⟨rfl, rfl, rfl, rfl⟩

/-- The class of a record binds its fix, prediction and H3, and its reason. -/
theorem State.solRecord_quality :
    (o.qclass = 0 → o.fix = 3 ∧ u.pred = false ∧ o.h3 ≤ s.fld F.SLV_QBOUND0_H3_Q0 ∧ o.qreason = 0) ∧
    (o.qclass = 1 → 2 ≤ o.fix ∧ o.h3 ≤ s.fld F.SLV_QBOUND0_H3_Q1) ∧
    (o.qclass = 2 → 1 ≤ o.fix ∧ o.h3 ≤ s.fld F.SLV_QBOUND1_H3_Q2) ∧ (o.qclass ≠ 0 → o.qreason ≠ 0) := by
  subst ho
  refine ⟨fun h => ?_, State.solClass_q1, State.solClass_q2, State.solReason_ne_zero⟩
  obtain ⟨hfix, hpred, hh3⟩ := State.solClass_q0 h
  exact ⟨hfix, hpred, hh3, (congrArg (s.solReason f b u dropped) h).trans (State.solReason_q0 b dropped)⟩

end Record

/-- Settles O42: each command's equation, and what its state leaves. -/
theorem solveOutcomes : Obligations.SolveOutcomes := by
  unfold Obligations.SolveOutcomes
  refine ⟨fun s lane b u re r v g hs hst hbusy hvoid hvalid hmatch href hfloat hg => ?solved,
    fun s lane b u v hs hst hbusy hvoid hvalid hmatch href => ?noReference,
    fun s lane b u re v hs hst hbusy hvoid hvalid hmatch href hgeo => ?noGeometry,
    fun s lane b v hs hst hbusy hout => ?discarded, fun s lane v hs hst hbusy => exec_solveComplete_idle hs hst hbusy,
    fun s lane b hs hl hin hbusy hvoid => ?residue, fun s lane hs hl hin hbusy => ?scratch,
    fun s lane hs hout => ?faultOut, fun s n hs => ?corrected, fun s n hs => ?cache, fun s mi hs => ?stored,
    fun s mi hs hst hmis hreq hwant => ?first, fun s mi k since hs hst hx hmis hk hlt hreq hlarger hpassed => ?larger,
    fun s hs hst hx => ?plan, fun s lane hs hawake hwant hbusy hidle => ?sleep,
    fun s lane hs h => exec_laneSleep_needed hs h, fun s at' hs href hdue => ?retry,
    fun s mi hs hst => ?reset, fun s mi hs hst => ?refix, fun f b h => SlvFilter.begin_reset b h⟩
  case solved =>
    subst hg
    have hdone := State.laneDone_solved (lane := lane) v href hfloat
    have ho : s.solved lane b u re v r = s.solRecord b u re lane v.solveUs r _ _ := rfl
    obtain ⟨hq0, hq1, hq2, hreason⟩ := State.solRecord_quality ho
    obtain ⟨he, hn, hu, hh3⟩ := State.solRecord_position ho
    rw [FloatSol.headed_output] at he hn hu hh3
    refine ⟨_, s.solved lane b u re v r, exec_solveComplete hs hst hbusy hvoid hvalid hmatch, hdone.busy, hdone.last, rfl, rfl, rfl, rfl,
      rfl, rfl, rfl, rfl, he, hn, hu, rfl, hh3, State.floor_le_solH3 _, hq0, hq1, hq2, hreason, fun hq hcls => ?_, ?_, hdone.outcomes⟩
    · exact hdone.toCheck.trans (if_pos ⟨hq, hcls⟩)
    · exact congrArg SlvFilter.lastEpoch hdone.filter
  case noReference =>
    have hdone := s.laneDone_unsolved (lane := lane) (b := b) (u := u) v 1
    exact ⟨_, (exec_solveComplete hs hst hbusy hvoid hvalid hmatch).trans (congrArg _ (State.solve_noReference v href)), hdone.busy,
      hdone.last, hdone.toCheck, hdone.filter⟩
  case noGeometry =>
    have hdone := s.laneDone_unsolved (lane := lane) (b := b) (u := u) v 2
    exact ⟨_, (exec_solveComplete hs hst hbusy hvoid hvalid hmatch).trans (congrArg _ (State.solve_noGeometry v href hgeo)), hdone.busy,
      hdone.last, hdone.toCheck, hdone.filter⟩
  case discarded =>
    exact ⟨_, exec_solveComplete_discarded hs hst hbusy hout, s.lane_setLane_same _ _, rfl, s.setSlv_frame _⟩
  case residue =>
    have h := State.laneLost_laneFault hl hin (.inl ⟨b, hbusy, hvoid, rfl⟩)
    exact ⟨_, exec_laneFault_residue hs, h.out, h.asleep, h.retry, h.pend, h.progress.fld⟩
  case scratch =>
    have hpwr := s.bump_pwr F.SLV_ECC_UNCORRECTED 1
    have hslv := s.bump_slv F.SLV_ECC_UNCORRECTED 1
    have h := State.laneLost_laneFault (s := s.bump F.SLV_ECC_UNCORRECTED) hl (by rw [hpwr, hin])
      (.inr ⟨by rw [State.lane, hslv]; exact hbusy, by rw [hslv]⟩)
    exact ⟨_, exec_laneFault_scratch hs, h.out, h.asleep, h.retry, h.pend,
      h.progress.fld.trans (s.fld_bump (f := F.SLV_ECC_UNCORRECTED) 1 (by decide) (by decide) (by decide))⟩
  case faultOut =>
    exact (exec_laneFault_residue hs).trans (congrArg _ (State.laneFault_out hout))
  case corrected =>
    exact ⟨_, exec_laneFault_corrected hs, s.fld_bump (f := F.SLV_ECC_CORRECTED) 1 (by decide) (by decide) (by decide),
      s.bump_frame (f := F.SLV_ECC_CORRECTED) 1 (by decide)⟩
  case cache =>
    exact ⟨_, exec_laneFault_cache hs, s.fld_bump (f := F.SLV_ECC_UNCORRECTED) 1 (by decide) (by decide) (by decide),
      s.bump_frame (f := F.SLV_ECC_UNCORRECTED) 1 (by decide)⟩
  case stored =>
    have hsame := s.slvFilter_filterLost_same mi
    exact ⟨_, exec_laneFault_stored mi hs, by rw [hsame]; rfl, by rw [hsame]; rfl, fun k hk => s.slvFilter_filterLost_other mi hk,
      State.pend_raise _ _ _, (s.progress_filterLost mi).frame⟩
  case first =>
    refine ⟨_, exec_rateRecompute_one hs hst hmis, ?_⟩
    rw [State.rateStep_first hreq hwant, State.rateRequest_req]
  case larger =>
    subst hk
    rw [exec_rateRecompute_one hs hst hmis, State.rateStep_larger_waits hx hlt hreq hlarger hpassed]
  case plan =>
    exact ⟨_, exec_planRecompute hs hst hx, s.replanned_planned, s.replanned_awakeWant⟩
  case sleep =>
    exact ⟨_, exec_laneSleep_idle hs hawake hwant hbusy hidle, s.laneSleep_powerCheck lane⟩
  case retry =>
    exact ⟨_, exec_laneLeaveRetry_due hs href hdue, (State.wakes_slvLanes _).refused⟩
  case reset =>
    exact ⟨_, exec_resetFilter hs hst mi, s.slvFilter_setFilter_same _ _, fun k hk => s.slvFilter_setFilter_other _ hk, s.setSlv_frame _⟩
  case refix =>
    exact ⟨_, exec_refix hs hst mi, s.slvFilter_setFilter_same _ _, fun k hk => s.slvFilter_setFilter_other _ hk, s.setSlv_frame _⟩

end Sys2Proof.Machine
end

section
/-!
What GRX's own writes leave (R4, R177), and what a host write stores in its registers: the base of the families below.
-/

namespace Sys2Proof.Machine

/-! ## GRX's part of the state -/

section Part

variable (s : State)

theorem State.grx_frame (v : GrxSt) : State.Frame [] [.grx] s { s with grx := v } :=
  ⟨fun _ _ _ _ => rfl, fun _ => rfl, fun p hp => by cases p <;> simp_all [Part.same]⟩

theorem State.setGrx_frame (f : GrxSt → GrxSt) : State.Frame [] [.grx] s (s.setGrx f) := s.grx_frame _

theorem State.progress_setGrx (f : GrxSt → GrxSt) : State.Progress [] [.grx] s (s.setGrx f) :=
  .of_frame (s.setGrx_frame f) (State.outKept_of_eq rfl)

theorem State.setGrx_fld (f : GrxSt → GrxSt) (g : Fld) : (s.setGrx f).fld g = s.fld g := rfl

theorem State.setGrx_flag (f : GrxSt → GrxSt) (g : Fld) : (s.setGrx f).flag g = s.flag g := rfl

theorem State.running_congr {t : State} (h : t.rst = s.rst) : t.running = s.running := by rw [State.running, h, State.running]

/-- A field of a register given by its bits is set. -/
theorem State.setFld_frame_at {a : Nat} (hi lo v : Nat) (ha : a < 0x4000000 := by decide) : State.Frame [a] [] s (s.setFld ⟨a, hi, lo⟩ v) :=
  s.setRegB_frame 0 _ ha

/-- A bit of a register reads as before where the field set lies apart. -/
theorem State.flag_setFld_bit {a hi lo i : Nat} (v : Nat) (ha : a < 0x4000000 := by decide) (hlo : lo ≤ hi := by omega)
    (hhi : hi < 32 := by omega) (h : i < lo ∨ hi < i := by omega) : (s.setFld ⟨a, hi, lo⟩ v).flag ⟨a, i, i⟩ = s.flag ⟨a, i, i⟩ :=
  s.flag_setFld_apart v ha rfl hlo hhi h le_rfl

theorem State.flag_setFld_one {a i : Nat} (ha : a < 0x4000000 := by decide) (hi : i < 32 := by omega) :
    (s.setFld ⟨a, i, i⟩ 1).flag ⟨a, i, i⟩ = true := s.flag_setFld_b2n a i true ha hi

theorem State.flag_setFld_zero {a i : Nat} (ha : a < 0x4000000 := by decide) (hi : i < 32 := by omega) :
    (s.setFld ⟨a, i, i⟩ 0).flag ⟨a, i, i⟩ = false := s.flag_setFld_b2n a i false ha hi

end Part

/-! ## Registers the host writes -/

/-- No register of GRX is mirrored (R311): a write stores its fields. -/
theorem State.hostReg_own {s : State} {d : RegDesc} (hd : Regs.descAt d.addr = some d) (hm : mirroredReg d = false) (w : Word) :
    s.hostReg d.addr w = s.regStore d 0 (s.bankOf d) w := by
  rw [State.hostReg, hd]
  simp only [Nat.sub_self, Nat.zero_div, State.regWrite_own hm]

end Sys2Proof.Machine
end

section
/-!
Antenna bias (R152, R153): a short, an open, a retry and its end.
-/

namespace Sys2Proof.Machine

/-! ## When bias is supplied -/

section BiasOn

variable {s t : State} {a : Nat}

theorem State.running_of_biasOn (h : s.biasOn a = true) : s.running = true := by
  simp only [State.biasOn, Bool.and_eq_true] at h
  exact h.1.1

/-- A short without a retry takes bias away. -/
theorem State.biasOn_of_shorted (hs : s.flag (antShort a) = true) (hr : s.grx.retry.get none a = none) : s.biasOn a = false := by
  simp [State.biasOn, hs, hr]

theorem State.biasOn_of_retry (hs : s.running = true) (he : s.flag (antBiasEn a) = true) {k : Nat} (hr : s.grx.retry.get none a = some k) :
    s.biasOn a = true := by
  simp [State.biasOn, hs, he, hr]

theorem State.biasOn_congr (hrst : t.rst = s.rst) (hen : t.flag (antBiasEn a) = s.flag (antBiasEn a))
    (hshort : t.flag (antShort a) = s.flag (antShort a)) (hgrx : t.grx = s.grx) : t.biasOn a = s.biasOn a := by
  rw [State.biasOn, s.running_congr hrst, hen, hshort, hgrx, State.biasOn]

end BiasOn

/-! ## What each step sets -/

/-- A short outside a retry. -/
def State.shortMet (s : State) (a : Nat) : State :=
  (s.setFld (antShort a) 1).setGrx fun g => { g with shortAt := g.shortAt.set none a (some s.mono), retry := g.retry.set none a none }

/-- A retry: bias is applied and the current judged anew. -/
def State.retryBegun (s : State) (a : Nat) : State :=
  (s.setFld (antOpen a) 0).setGrx fun g => { g with retry := g.retry.set none a (some s.mono) }

/-- A retry that has held. -/
def State.retryHeld (s : State) (a : Nat) : State :=
  (s.setFld (antShort a) 0).setGrx fun g => { g with retry := g.retry.set none a none }

section Steps

variable (s : State) (a : Nat)

theorem State.shortMet_frame : State.Frame [R.GRX_ANT] [.grx] s (s.shortMet a) :=
  ((State.Frame.refl _ _ s).add (s.setFld_frame_at (a := R.GRX_ANT) _ _ 1)).add (State.setGrx_frame _ _)

theorem State.retryBegun_frame : State.Frame [R.GRX_ANT] [.grx] s (s.retryBegun a) :=
  ((State.Frame.refl _ _ s).add (s.setFld_frame_at (a := R.GRX_ANT) _ _ 0)).add (State.setGrx_frame _ _)

theorem State.retryHeld_frame : State.Frame [R.GRX_ANT] [.grx] s (s.retryHeld a) :=
  ((State.Frame.refl _ _ s).add (s.setFld_frame_at (a := R.GRX_ANT) _ _ 0)).add (State.setGrx_frame _ _)

theorem State.retryMet_frame : State.Frame [R.GRX_ANT] [.grx] s (s.retryMet a) :=
  ((State.Frame.refl _ _ s).add (s.setFld_frame_at (a := R.GRX_ANT) _ _ _)).add (State.setGrx_frame _ _)

variable {s a}

theorem State.retryMet_grx : (s.retryMet a).grx =
    { s.grx with retry := s.grx.retry.set none a none, shortAt := s.grx.shortAt.set none a (some s.mono) } := rfl

/-- A retry that meets the short ends, and RETRY counts it. -/
theorem State.retryMet_counts (ha : a < 2) (hs : s.flag (antShort a) = true) : (s.retryMet a).biasOn a = false ∧
    (s.retryMet a).fld (antRetry a) = min (s.fld (antRetry a) + 1) 255 := by
  constructor
  · refine State.biasOn_of_shorted (Eq.trans ?_ hs) ?_
    · exact (State.setGrx_flag _ _ _).trans (s.flag_setFld_bit (a := R.GRX_ANT) _)
    · rw [State.retryMet_grx]
      exact SMap.get_set_same s.grx.retry none none a
  · have hmax : (antRetry a).max = 255 := by interval_cases a <;> rfl
    rw [← hmax]
    exact s.fld_bump 1 (show R.GRX_ANT < _ by decide) (by simp only [antRetry]; omega) (by simp only [antRetry]; omega)

/-- Bias stays on through an open. -/
theorem State.biasOn_opened (ha : a < 2) (hb : s.biasOn a = true) {t : State}
    (hp : State.Progress [] [] (s.setFld (antOpen a) 1) t) : t.biasOn a = true ∧ t.flag (antOpen a) = true := by
  have hant (f : Fld) (hf : f.addr = R.GRX_ANT) : t.flag f = (s.setFld (antOpen a) 1).flag f :=
    hp.flag List.not_mem_nil (by rw [hf]; decide) (by rw [hf]; decide)
  refine ⟨(State.biasOn_congr ((hp.same .rst).trans (State.setFld_rst _ _ _)) ?_ ?_ ((hp.same .grx).trans (State.setFld_grx _ _ _))).trans hb,
    (hant _ rfl).trans (s.flag_setFld_one (a := R.GRX_ANT))⟩
  · exact (hant _ rfl).trans (s.flag_setFld_bit (a := R.GRX_ANT) (i := 0 + 8 * a) 1)
  · exact (hant _ rfl).trans (s.flag_setFld_bit (a := R.GRX_ANT) (i := 3 + 8 * a) 1)

end Steps

/-! ## The commands -/

section Commands

variable {s : State} {a : Nat}

theorem exec_antShort_off (h : s.biasOn a = false) : exec (.antShort a) s = .next s := by
  change Host.Outcome.next (s.live _) = _
  simp [State.live, h]

theorem exec_antOpen_off (h : s.biasOn a = false) : exec (.antOpen a) s = .next s := by
  change Host.Outcome.next (s.live _) = _
  simp [State.live, h]

theorem exec_antShort_retry (hb : s.biasOn a = true) (hs : s.flag (antShort a) = true) :
    exec (.antShort a) s = .next (s.retryMet a) := by
  refine (whileRunning_eq _ (State.running_of_biasOn hb)).trans ?_
  simp [hb, hs]

/-- A short outside a retry, without a survey that it could end. -/
theorem exec_antShort_first (hb : s.biasOn a = true) (hs : s.flag (antShort a) = false) (hv : s.grx.survey = none) :
    exec (.antShort a) s = .next ((s.shortMet a).raise Ev.GRX_ANT_SHORT 0) := by
  have hm : ((s.shortMet a).raise Ev.GRX_ANT_SHORT 0).measuringB = false := by
    have hg : ((s.shortMet a).raise Ev.GRX_ANT_SHORT 0).grx.survey = none := by rw [State.raise_grx _ _ (by decide)]; exact hv
    simp [State.measuringB, hg]
  refine (whileRunning_eq _ (State.running_of_biasOn hb)).trans (congrArg Host.Outcome.next ?_)
  simp only [hb, hs, Bool.not_true, Bool.false_eq_true, if_false]
  exact if_neg (ne_true_of_eq_false hm)

theorem exec_antOpen (hb : s.biasOn a = true) (ho : s.flag (antOpen a) = false) : exec (.antOpen a) s =
    .next (if (s.setFld (antOpen a) 1).flag (antShared a) then s.setFld (antOpen a) 1 else (s.setFld (antOpen a) 1).raise Ev.GRX_ANT_OPEN 0) := by
  refine (whileRunning_eq _ (State.running_of_biasOn hb)).trans ?_
  simp [hb, ho]

theorem exec_biasRetry (hs : s.running = true) (hx : s.expert Blk.GRX = false) (hsh : s.flag (antShort a) = true)
    (hen : s.flag (antBiasEn a) = true) (hdue : dueSince s (s.grx.shortAt.get none a) (10 * nsPerSec) = true)
    (hr : s.grx.retry.get none a = none) (short : Bool) :
    exec (.biasRetry a short) s = .next (if short then s.retryMet a else s.retryBegun a) := by
  refine (whileRunning_eq _ hs).trans (congrArg Host.Outcome.next ?_)
  simp only [hx, hsh, hen, hdue, hr]
  rfl

theorem exec_biasRestored (hs : s.running = true) {k : Nat} (hr : s.grx.retry.get none a = some k) (hk : s.passed k nsPerSec = true) :
    exec (.biasRestored a) s = .next ((s.retryHeld a).raise Ev.GRX_BIAS_RESTORED 0) := by
  refine (whileRunning_eq _ hs).trans (congrArg Host.Outcome.next ?_)
  simp only [hr, hk, if_true]
  rfl

end Commands
end Sys2Proof.Machine
end

section
/-!
Held and KNOWN positions and surveys (R165, R168, R175, R177). The last theorem settles O38.
-/

namespace Sys2Proof.Machine

/-! ## The registers of positions and surveys -/

/-- `GRX_SURVEY` as a host access sees it. -/
def grxSurveyDesc : RegDesc :=
  ⟨R.GRX_SURVEY, 1, none, [⟨F.GRX_SURVEY_OP, .wo, .any⟩, ⟨F.GRX_SURVEY_DURATION_MIN, .rw, .within 10 1440⟩], 0xF000FFF⟩

theorem descAt_grxSurvey : Regs.descAt R.GRX_SURVEY = some grxSurveyDesc := by decide +kernel

/-- `GRX_POS_HI` as a host access sees it. -/
def grxPosHiDesc : RegDesc := ⟨R.GRX_POS_HI, 1, some ⟨R.GRX_POS_SEL, 2, 0⟩, [⟨F.GRX_POS_HI_VAL_HI, .rw, .any⟩], 0xFFFFFFFF⟩

theorem descAt_grxPosHi : Regs.descAt R.GRX_POS_HI = some grxPosHiDesc := by decide +kernel

section Registers

variable (s : State) (w : Word)

/-- A DURATION_MIN in its range is stored. -/
theorem State.hostReg_survey (hlo : 10 ≤ F.GRX_SURVEY_DURATION_MIN.get w) (hhi : F.GRX_SURVEY_DURATION_MIN.get w ≤ 1440) :
    s.hostReg R.GRX_SURVEY w = (s.setFld F.GRX_SURVEY_DURATION_MIN (F.GRX_SURVEY_DURATION_MIN.get w), true) := by
  refine (State.hostReg_own (d := grxSurveyDesc) descAt_grxSurvey (by decide) w).trans ?_
  have hv : (s.setFldB 0 F.GRX_SURVEY_DURATION_MIN (F.GRX_SURVEY_DURATION_MIN.get w)).fldB 0 F.GRX_SURVEY_DURATION_MIN =
      F.GRX_SURVEY_DURATION_MIN.get w :=
    (s.fldB_setFldB_same 0 _ _ (by decide) (by decide) (by decide)).trans (Nat.mod_eq_of_lt (Nat.mod_lt _ (by decide)))
  simp [State.regStore, grxSurveyDesc, State.bankOf, RegDesc.fieldsAt, Fld.nth, State.fieldWrite, State.inRange, State.rangeHolds, hv, hlo, hhi,
    State.setFld]

theorem State.hostReg_posHi : s.hostReg R.GRX_POS_HI w =
    (s.setFldB (s.fld ⟨R.GRX_POS_SEL, 2, 0⟩) F.GRX_POS_HI_VAL_HI (F.GRX_POS_HI_VAL_HI.get w), true) := by
  refine (State.hostReg_own (d := grxPosHiDesc) descAt_grxPosHi (by decide) w).trans ?_
  exact State.regStore_rw s (f := F.GRX_POS_HI_VAL_HI) (r := .any) rfl rfl

end Registers

/-! ## Positions -/

section Positions

variable {s : State}

/-- Both halves of a held value are latched. -/
def State.heldLatched (s : State) (b n : Nat) : State := (s.setFldB b F.GRX_HELD_LO_HELD_LO n).setFldB b F.GRX_HELD_HI_HELD_HI (n / 2 ^ 32)

/-- Both halves of a held value are latched, and its low half is read. -/
def State.heldRead (s : State) (b n : Nat) : State := { s.heldLatched b n with hostRead := BitVec.ofNat 32 n }

theorem exec_heldPositionRead (hs : s.running = true) {p : List Int} (hp : s.heldPos (s.fld F.GRX_POS_SEL_ANT) = some p) {n : Nat}
    (hn : encodeSigned 64 (p.getD (s.fld F.GRX_POS_SEL_AXIS) 0) = n) :
    exec .heldPositionRead s = .next (s.heldRead (s.fld ⟨R.GRX_POS_SEL, 2, 0⟩) n) := by
  change execHeldPositionRead s = _
  rw [execHeldPositionRead, whileRead_eq _ hs]
  simp only [hp, Option.getD_some, hn]
  rfl

section Read

variable (s : State) (b n : Nat)

theorem State.hostRead_fldB (w : Word) (f : Fld) : ({ s with hostRead := w } : State).fldB b f = s.fldB b f := rfl

theorem State.heldRead_hostRead : (s.heldRead b n).hostRead = BitVec.ofNat 32 n := by rw [State.heldRead]

theorem State.heldRead_hi : (s.heldRead b n).fldB b F.GRX_HELD_HI_HELD_HI = n / 2 ^ 32 % 2 ^ 32 := by
  have hwidth : F.GRX_HELD_HI_HELD_HI.hi - F.GRX_HELD_HI_HELD_HI.lo + 1 = 32 := rfl
  rw [State.heldRead, State.hostRead_fldB, State.heldLatched, State.fldB_setFldB_same _ _ _ _ (by decide) (by decide) (by decide), hwidth]

theorem State.heldRead_frame : State.Frame [R.GRX_HELD_LO, R.GRX_HELD_HI] [.hostRead] s (s.heldRead b n) :=
  (((State.Frame.refl _ _ s).add (s.setFldB_frame _ _ (by decide))).add (State.setFldB_frame _ _ _ (by decide))).add
    ((s.heldLatched b n).hostRead_frame _)

end Read

/-- The KNOWN value of a selection, made of both halves. -/
def State.posCompleted (s : State) (b : Nat) (w : Word) : State :=
  (s.setFldB b F.GRX_POS_HI_VAL_HI (F.GRX_POS_HI_VAL_HI.get w)).setGrx fun g =>
    { g with known := g.known.set none b (some (signedOf 64 (s.fldB b F.GRX_POS_LO_VAL_LO + 2 ^ 32 * w.toNat))) }

theorem exec_posHiWrite (hs : s.running = true) (w : Word) :
    exec (.posHiWrite w) s = .next (s.posCompleted (s.fld ⟨R.GRX_POS_SEL, 2, 0⟩) w) := by
  refine (whileRunning_eq _ hs).trans (congrArg Host.Outcome.next ?_)
  generalize hb : s.fld ⟨R.GRX_POS_SEL, 2, 0⟩ = b
  have hb' : s.fldB 0 ⟨R.GRX_POS_SEL, 2, 0⟩ = b := hb
  have hhi : (s.setFldB b F.GRX_POS_HI_VAL_HI (F.GRX_POS_HI_VAL_HI.get w)).fldB b F.GRX_POS_HI_VAL_HI = w.toNat := by
    rw [State.fldB_setFldB_same _ _ _ _ (by decide) (by decide) (by decide), Fld.get_word]
    exact Nat.mod_eq_of_lt w.isLt
  have hlo : (s.setFldB b F.GRX_POS_HI_VAL_HI (F.GRX_POS_HI_VAL_HI.get w)).fldB b F.GRX_POS_LO_VAL_LO = s.fldB b F.GRX_POS_LO_VAL_LO :=
    State.fldB_setFldB_addr _ _ (by decide) (by decide) fun h => absurd h.2 (by decide)
  rw [State.posHiWrite, s.hostReg_posHi, hb, hb', thenIf, if_pos rfl]
  simp only [hhi, hlo]
  rfl

theorem State.posCompleted_known (b : Nat) (w : Word) : (s.posCompleted b w).grx.known =
    s.grx.known.set none b (some (signedOf 64 (s.fldB b F.GRX_POS_LO_VAL_LO + 2 ^ 32 * w.toNat))) := by
  rw [State.posCompleted, State.setGrx, State.setFldB_grx]

theorem State.posCompleted_frame (b : Nat) (w : Word) : State.Frame [R.GRX_POS_HI] [.grx] s (s.posCompleted b w) :=
  ((State.Frame.refl _ _ s).add (s.setFldB_frame _ _ (by decide))).add (State.setGrx_frame _ _)

end Positions

/-! ## The operations of `GRX_SURVEY` -/

section Operations

variable {s : State} (hw : s.works Blk.GRX)
include hw

/-- An operation written with a DURATION_MIN in its range. -/
theorem State.surveyWrite_op {op d : Nat} (hop : op < 16) (hlo : 10 ≤ d) (hhi : d ≤ 1440) :
    s.surveyWrite (F.GRX_SURVEY_OP.put (F.GRX_SURVEY_DURATION_MIN.put 0 d) op) = (s.setFld F.GRX_SURVEY_DURATION_MIN d).surveyOp op := by
  have hd : F.GRX_SURVEY_DURATION_MIN.get (F.GRX_SURVEY_OP.put (F.GRX_SURVEY_DURATION_MIN.put 0 d) op) = d := by
    rw [Fld.get_put_other _ _ _ _ (by decide) (by decide) (by decide) (by decide), Fld.get_put_same _ _ _ (by decide) (by decide)]
    exact Nat.mod_eq_of_lt (show d < 2 ^ 12 by omega)
  have ho : F.GRX_SURVEY_OP.get (F.GRX_SURVEY_OP.put (F.GRX_SURVEY_DURATION_MIN.put 0 d) op) = op := by
    rw [Fld.get_put_same _ _ _ (by decide) (by decide)]
    exact Nat.mod_eq_of_lt hop
  have hon : (s.setFld F.GRX_SURVEY_DURATION_MIN d).blkOn Blk.GRX = true := (s.progress_setFld F.GRX_SURVEY_DURATION_MIN d).flag.trans hw.2
  rw [State.surveyWrite, s.hostReg_survey _ (by rw [hd]; exact hlo) (by rw [hd]; exact hhi), thenIf, if_pos rfl, hd, if_pos hon, ho]

theorem exec_selfSurvey {d : Nat} (hlo : 10 ≤ d) (hhi : d ≤ 1440) :
    exec (.selfSurvey d) s = .next ((s.setFld F.GRX_SURVEY_DURATION_MIN d).surveyBegin true) :=
  (whileRunning_eq _ hw.1).trans (congrArg Host.Outcome.next (State.surveyWrite_op hw (by decide) hlo hhi))

variable (hlo : 10 ≤ s.fld F.GRX_SURVEY_DURATION_MIN) (hhi : s.fld F.GRX_SURVEY_DURATION_MIN ≤ 1440)
include hlo hhi

theorem exec_commitKnown :
    exec .commitKnown s = .next ((s.setFld F.GRX_SURVEY_DURATION_MIN (s.fld F.GRX_SURVEY_DURATION_MIN)).surveyBegin false) :=
  (whileRunning_eq _ hw.1).trans (congrArg Host.Outcome.next (State.surveyWrite_op hw (by decide) hlo hhi))

theorem exec_clearPositions :
    exec .clearPositions s = .next (s.setFld F.GRX_SURVEY_DURATION_MIN (s.fld F.GRX_SURVEY_DURATION_MIN)).clearPositions :=
  (whileRunning_eq _ hw.1).trans (congrArg Host.Outcome.next (State.surveyWrite_op hw (by decide) hlo hhi))

theorem exec_quietCal : exec .quietCal s = .next (s.setFld F.GRX_SURVEY_DURATION_MIN (s.fld F.GRX_SURVEY_DURATION_MIN)).quietCal :=
  (whileRunning_eq _ hw.1).trans (congrArg Host.Outcome.next (State.surveyWrite_op hw (by decide) hlo hhi))

theorem exec_surveyAbort :
    exec .surveyAbort s = .next ((s.setFld F.GRX_SURVEY_DURATION_MIN (s.fld F.GRX_SURVEY_DURATION_MIN)).surveyOver 7) :=
  (whileRunning_eq _ hw.1).trans (congrArg Host.Outcome.next (State.surveyWrite_op hw (by decide) hlo hhi))

end Operations

/-! ## The beginning and the end of a survey -/

/-- A survey that runs. -/
def State.surveyBegun (s : State) (self : Bool) : State :=
  ((s.setGrx fun g => { g with survey := some ⟨self, s.mono, 0, 0, [0, 0, 0]⟩ }).setFld F.GRX_STATUS_SURVEYING 1).setFld F.GRX_SURVEY_RESULT 1

/-- No survey runs any more. -/
def State.surveyStopped (s : State) : State := (s.setGrx fun g => { g with survey := none }).setFld F.GRX_STATUS_SURVEYING 0

/-- What the end of a survey with `result` leaves. -/
structure State.SurveyEnded (result : Nat) (s t : State) : Prop where
  grx : t.grx = { s.grx with survey := none }
  result : t.fld F.GRX_SURVEY_RESULT = result
  surveying : t.flag F.GRX_STATUS_SURVEYING = false
  pend : t.pend Ev.GRX_SURVEY_END = true
  progress : State.Progress [R.GRX_SURVEY, R.GRX_STATUS] [.grx] s t
  status : ∀ i < 32, i ≠ 17 → t.flag ⟨R.GRX_STATUS, i, i⟩ = s.flag ⟨R.GRX_STATUS, i, i⟩

section Survey

variable {s : State}

theorem State.surveyBegin_free (self : Bool) (hslv : s.blkOn Blk.SLV = false) (hv : s.grx.survey = none) :
    s.surveyBegin self = s.surveyBegun self := by
  simp [State.surveyBegin, hslv, hv, State.surveyBegun]

/-- While SLV is enabled a survey is refused with RESULT 3. -/
theorem State.surveyBegin_refused (self : Bool) (hslv : s.blkOn Blk.SLV = true) (hv : s.grx.survey = none) :
    s.surveyBegin self = s.setFld F.GRX_SURVEY_RESULT 3 := by
  simp [State.surveyBegin, hslv, hv]

variable (s)

theorem State.surveyBegun_grx (self : Bool) : (s.surveyBegun self).grx = { s.grx with survey := some ⟨self, s.mono, 0, 0, [0, 0, 0]⟩ } := rfl

theorem State.surveyBegun_surveying (self : Bool) : (s.surveyBegun self).flag F.GRX_STATUS_SURVEYING = true := by
  rw [State.surveyBegun, (State.progress_setFld _ F.GRX_SURVEY_RESULT 1).flag]
  exact State.flag_setFld_one _

theorem State.surveyBegun_result (self : Bool) : (s.surveyBegun self).fld F.GRX_SURVEY_RESULT = 1 :=
  State.fld_setFld_same _ 1 (by decide) (by decide) (by decide)

theorem State.surveyBegun_duration (self : Bool) : (s.surveyBegun self).fld F.GRX_SURVEY_DURATION_MIN = s.fld F.GRX_SURVEY_DURATION_MIN := by
  simp (disch := decide) only [State.surveyBegun, State.fld_setFld_apart, State.fld_setFld_other, State.setGrx_fld]

theorem State.surveyBegun_frame (self : Bool) : State.Frame [R.GRX_SURVEY, R.GRX_STATUS] [.grx] s (s.surveyBegun self) :=
  (((State.Frame.refl _ _ s).add (s.setGrx_frame _)).add (State.setFld_frame_at _ _ _ _)).add (State.setFld_frame_at _ _ _ _)

theorem State.surveyEnded_surveyOver {r : Nat} (hr : r < 16) (hv : s.grx.survey.isSome = true) : State.SurveyEnded r s (s.surveyOver r) := by
  have hover : s.surveyOver r = (s.surveyStopped.setFld F.GRX_SURVEY_RESULT r).raise Ev.GRX_SURVEY_END r :=
    if_neg (by simpa using Option.isSome_iff_ne_none.mp hv)
  have hp := (s.surveyStopped.progress_setFld F.GRX_SURVEY_RESULT r).add (State.progress_raise _ Ev.GRX_SURVEY_END r)
  rw [hover]
  exact {
    grx := by
      rw [State.raise_grx _ _ (by decide), State.setFld_grx, State.surveyStopped, State.setFld_grx, State.setGrx_grx]
    result := by
      rw [State.raise_fld _ _ (by decide) (by decide) (by decide), State.fld_setFld_same _ _ (by decide) (by decide) (by decide)]
      exact Nat.mod_eq_of_lt hr
    surveying := hp.flag.trans (State.flag_setFld_zero _)
    pend := State.pend_raise _ _ _
    progress := (((State.Progress.refl _ _ s).add (s.progress_setGrx _)).add (State.progress_setFld _ F.GRX_STATUS_SURVEYING 0)).add hp
    status := fun i hi hne => (hp.frame.flag (show R.GRX_STATUS < _ by decide) (show R.GRX_STATUS ∉ _ by decide)
      (show reportReg R.GRX_STATUS = false by decide)).trans (State.flag_setFld_bit _ 0) }

end Survey

/-! ## Quiet levels -/

section Quiet

variable (s : State)

/-- The quiet levels of the first `n` paths are measured, each a free value. -/
theorem State.quietDraws (n : Nat) : ∃ q, (List.range n).foldl (fun s p =>
      let (v, s) := s.draw
      s.setGrx fun g => { g with quiet := g.quiet.set 0 p v }) s =
        { s with grx := { s.grx with quiet := q }, freeCtr := s.freeCtr + n } ∧ ∀ p < n, q.get 0 p = Config.freeNat (s.freeCtr + p) := by
  induction n with
  | zero => exact ⟨s.grx.quiet, rfl, fun p hp => absurd hp (Nat.not_lt_zero p)⟩
  | succ n ih =>
    obtain ⟨q, hq, hget⟩ := ih
    refine ⟨q.set 0 n (Config.freeNat (s.freeCtr + n)), ?_, fun p hp => ?_⟩
    · rw [List.range_succ, List.foldl_append, hq]
      rfl
    · rw [SMap.get_set]
      split
      next h => rw [h]
      next h => exact hget p (by omega)

theorem State.quietCal_eq : ∃ q, s.quietCal = { s with grx := { s.grx with quiet := q }, freeCtr := s.freeCtr + 6 } ∧
    ∀ p ∈ List.range 6, q.get 0 p = Config.freeNat (s.freeCtr + p) := by
  obtain ⟨q, hq, hget⟩ := s.quietDraws 6
  exact ⟨q, hq, fun p hp => hget p (List.mem_range.mp hp)⟩

theorem State.quietCal_frame : State.Frame [] [.grx, .freeCtr] s s.quietCal := by
  obtain ⟨q, hq, -⟩ := s.quietCal_eq
  rw [hq]
  exact ⟨fun _ _ _ _ => rfl, fun _ => rfl, fun p hp => by cases p <;> simp_all [Part.same]⟩

end Quiet

/-! ## Positions held and a survey's end -/

section Held

variable (s : State) (a b : Option (List Int))

/-- Both held positions are replaced, and POS_OK shows ANT_A's. -/
def State.positionsHeld : State := ({ s with nand := { s.nand with heldA := a, heldB := b } }).setFld F.GRX_STATUS_POS_OK (b2n a.isSome)

theorem State.holdPositions_eq : s.holdPositions a b = (s.positionsHeld a b).mirror 0 (.refPos (a.getD [] ++ b.getD [])) := rfl

theorem State.holdPositions_nand : (s.holdPositions a b).nand = { s.nand with heldA := a, heldB := b } := by
  rw [s.holdPositions_eq, State.mirror_nand, State.positionsHeld, State.setFld_nand]

theorem State.holdPositions_grx : (s.holdPositions a b).grx = s.grx := by
  rw [s.holdPositions_eq, State.mirror_grx, State.positionsHeld, State.setFld_grx]

theorem State.holdPositions_posOk : (s.holdPositions a b).flag F.GRX_STATUS_POS_OK = a.isSome := by
  rw [s.holdPositions_eq, (State.progress_mirror _ _ _ _).flag]
  exact State.flag_setFld_b2n _ _ _ _ (by decide) (by decide)

theorem State.holdPositions_frame : State.Frame [R.GRX_STATUS] [.nand, .ahn, .out] s (s.holdPositions a b) :=
  (((State.Frame.refl _ _ s).add (s.nand_frame _)).add (State.setFld_frame_at _ _ _ _)).add (State.mirror_frame _ _ _ _)

/-- The counts of baseline epochs start anew. -/
def State.baseRestarted (s : State) : State := s.setGrx fun g => { g with devRun := 0, okRun := 0 }

theorem State.baseClear_eq : s.baseClear =
    if s.flag F.GRX_STATUS_BASE_ALARM then (s.baseRestarted.setFld F.GRX_STATUS_BASE_ALARM 0).raise Ev.GRX_BASELINE_ALARM 0
    else s.baseRestarted := rfl

/-- The baseline alarm clears, and POS_OK stands. -/
theorem State.baseClear_leaves : s.baseClear.flag F.GRX_STATUS_BASE_ALARM = false ∧
    s.baseClear.flag F.GRX_STATUS_POS_OK = s.flag F.GRX_STATUS_POS_OK ∧ s.baseClear.grx = { s.grx with devRun := 0, okRun := 0 } ∧
    s.baseClear.nand = s.nand := by
  have hflag (f : Fld) : s.baseRestarted.flag f = s.flag f := s.setGrx_flag _ f
  rw [s.baseClear_eq]
  split
  next h =>
    have hr := (s.baseRestarted.setFld F.GRX_STATUS_BASE_ALARM 0).progress_raise Ev.GRX_BASELINE_ALARM 0
    refine ⟨hr.flag.trans (State.flag_setFld_zero _), hr.flag.trans ?_, (hr.same .grx).trans (State.setFld_grx _ _ _),
      (hr.same .nand).trans (State.setFld_nand _ _ _)⟩
    exact (State.flag_setFld_bit _ 0).trans (hflag _)
  next h => exact ⟨(hflag _).trans (Bool.eq_false_iff.mpr h), hflag _, rfl, rfl⟩

/-- A survey that has measured and agrees: both positions are held and the quiet levels measured anew. -/
def State.surveyDone (s : State) (a b : List Int) : State := (s.quietCal.holdPositions (some a) (some b)).baseClear

end Held

/-- How a survey that has measured ends: its RESULT with nothing held, or with both positions (R168). -/
def State.surveyEnds (s : State) (a b m : List Int) : State :=
  if beyond10km s.siteOrigin a then s.surveyOver 4
  else if dist2 a b < minBaseline2 then s.surveyOver 5
  else if (10 * s.fld F.GRX_BASE_TOL_MM : Int) * (10 * s.fld F.GRX_BASE_TOL_MM : Int) < dist2 b m then s.surveyOver 6
  else (s.surveyDone a b).surveyOver 2

section SurveyEnd

variable {s : State} {v : GrxSurvey} {vec a b m : List Int} {fixedMin : Nat}

theorem exec_surveyEnd (hw : s.works Blk.GRX) (hf : 10 ≤ fixedMin) (hv : s.grx.survey = some v)
    (hp : s.passed v.since (((if v.self then s.fld F.GRX_SURVEY_DURATION_MIN else 0) + 10) * 60 * nsPerSec) = true)
    (ha : a = (if v.self then v.mean else (s.knownPos 0).getD [0, 0, 0])) (hm : m = (a.zip vec).map (fun c => c.1 + c.2))
    (hb : b = (s.knownPos 1).getD m) : exec (.surveyEnd vec fixedMin) s = .next (s.surveyEnds a b m) := by
  subst hb hm ha
  refine (whileOn_eq _ hw.1 hw.2).trans (congrArg Host.Outcome.next ?_)
  simp only [hv]
  exact if_neg (by simp [hp, hf])

theorem exec_surveyEnd_early (hv : s.grx.survey = some v) (h : fixedMin < 10 ∨
    s.passed v.since (((if v.self then s.fld F.GRX_SURVEY_DURATION_MIN else 0) + 10) * 60 * nsPerSec) = false) :
    exec (.surveyEnd vec fixedMin) s = .next s := by
  have hearly : (decide (fixedMin < 10) ||
      !s.passed v.since (((if v.self then s.fld F.GRX_SURVEY_DURATION_MIN else 0) + 10) * 60 * nsPerSec)) = true := by
    rcases h with h | h <;> simp [h]
  change Host.Outcome.next (s.on Blk.GRX _) = _
  simp only [State.on, State.live, hv, if_pos hearly, ite_self]

variable (s a b)

/-- The end with RESULT 2. -/
theorem State.surveyDone_ended (hv : s.grx.survey = some v) : State.SurveyEnded 2 (s.surveyDone a b) ((s.surveyDone a b).surveyOver 2) ∧
    (∃ q, (s.surveyDone a b).grx.quiet = q ∧ ∀ p ∈ List.range 6, q.get 0 p = Config.freeNat (s.freeCtr + p)) ∧
    (s.surveyDone a b).nand = { s.nand with heldA := some a, heldB := some b } ∧ (s.surveyDone a b).flag F.GRX_STATUS_POS_OK = true ∧
    (s.surveyDone a b).flag F.GRX_STATUS_BASE_ALARM = false := by
  obtain ⟨q, hq, hget⟩ := s.quietCal_eq
  have hgrx : s.quietCal.grx = { s.grx with quiet := q } := by rw [hq]
  have hnand : s.quietCal.nand = s.nand := by rw [hq]
  obtain ⟨halarm, hok, hg, hn⟩ := (s.quietCal.holdPositions (some a) (some b)).baseClear_leaves
  rw [State.holdPositions_grx, hgrx] at hg
  rw [State.holdPositions_nand, hnand] at hn
  rw [State.holdPositions_posOk] at hok
  change (s.surveyDone a b).grx = _ at hg
  have hsurvey : (s.surveyDone a b).grx.survey.isSome = true := by rw [hg]; exact Option.isSome_of_eq_some hv
  exact ⟨State.surveyEnded_surveyOver _ (by decide) hsurvey, ⟨q, by rw [hg], hget⟩, hn, hok, halarm⟩

end SurveyEnd

/-! ## The obligation -/

/-- Settles O38: bias by the steps of a fault and its retry, positions by their registers, and surveys by how they begin and end. -/
theorem antennasAndSurveys : Obligations.AntennasAndSurveys := by
  unfold Obligations.AntennasAndSurveys
  refine ⟨fun s a ha hb hs hv => ?short, fun s a ha hb hs => ?shortAgain, fun s a ha hb => exec_antShort_off hb,
    fun s a ha hb => exec_antOpen_off hb, fun s a ha hb ho => ?opened, fun s a ha hs hx hsh hen hdue hr => ?retry,
    fun s a ha hs hx hsh hen hdue hr => ?retryMet, fun s a at' ha hs hr hk => ?restored, fun s p v hs hp hv => ?held,
    fun s w b hs hb => ?known, fun s hw hlo hhi => ?cleared, fun s hw hslv hv hlo hhi => ?commit, fun s d hw hslv hv hlo hhi => ?self,
    fun s d hw hslv hv hlo hhi => ?refused, fun s hw hv hlo hhi => ?abort, fun s hw hlo hhi => ?quiet,
    fun s v fixedMin vec a b m hw hf hv hp ha hm hb hnear hbase htol => ?done,
    fun s v fixedMin vec a b m hw hf hv hp ha hm hb => ?ended, fun s vec fixedMin v hv h => exec_surveyEnd_early hv h⟩
  case short =>
    have hr := (s.shortMet a).progress_raise Ev.GRX_ANT_SHORT 0
    have hant (f : Fld) (hf : f.addr = R.GRX_ANT) : ((s.shortMet a).raise Ev.GRX_ANT_SHORT 0).flag f = (s.setFld (antShort a) 1).flag f :=
      hr.flag List.not_mem_nil (by rw [hf]; decide) (by rw [hf]; decide)
    have hset := (hant _ rfl).trans (s.flag_setFld_one (a := R.GRX_ANT) (i := 3 + 8 * a))
    refine ⟨_, exec_antShort_first hb hs hv, hset, State.biasOn_of_shorted hset ?_, (hant _ rfl).trans (s.flag_setFld_bit (a := R.GRX_ANT) 1),
      State.pend_raise _ _ _, State.ReportFrame.trans (by decide) (s.shortMet_frame a).report (hr.frame.mono (by decide) (by decide))⟩
    rw [State.raise_grx _ _ (by decide)]
    exact SMap.get_set_same s.grx.retry none none a
  case shortAgain =>
    obtain ⟨hoff, hcount⟩ := State.retryMet_counts ha hs
    exact ⟨_, exec_antShort_retry hb hs, hoff, hcount, s.retryMet_frame a⟩
  case opened =>
    have hshared : (s.setFld (antOpen a) 1).flag (antShared a) = s.flag (antShared a) := s.flag_setFld_bit (a := R.GRX_ANT) 1
    have hframe := s.setFld_frame_at (a := R.GRX_ANT) (2 + 8 * a) (2 + 8 * a) 1
    have ht := exec_antOpen hb ho
    rw [hshared] at ht
    cases hsh : s.flag (antShared a) with
    | true =>
      rw [hsh, if_pos rfl] at ht
      obtain ⟨hon, hopen⟩ := State.biasOn_opened ha hb (.refl _ _ _)
      exact ⟨_, ht, hopen, hon, fun h => absurd h (by decide), fun _ => State.setFld_out _ _ _, hframe.report⟩
    | false =>
      rw [hsh, if_neg (by decide)] at ht
      have hr := (s.setFld (antOpen a) 1).progress_raise Ev.GRX_ANT_OPEN 0
      obtain ⟨hon, hopen⟩ := State.biasOn_opened ha hb hr
      exact ⟨_, ht, hopen, hon, fun _ => State.pend_raise _ _ _, fun h => absurd h (by decide),
        State.ReportFrame.trans (by decide) hframe.report (hr.frame.mono (by decide) (by decide))⟩
  case retry =>
    have hkeeps (i : Nat) (hi : i < 2 + 8 * a ∨ 2 + 8 * a < i) : (s.retryBegun a).flag ⟨R.GRX_ANT, i, i⟩ = s.flag ⟨R.GRX_ANT, i, i⟩ :=
      (State.setGrx_flag _ _ _).trans (s.flag_setFld_bit (a := R.GRX_ANT) 0)
    have hretry : (s.retryBegun a).grx.retry.get none a = some s.mono := SMap.get_set_same s.grx.retry none (some s.mono) a
    exact ⟨_, exec_biasRetry hs hx hsh hen hdue hr false, State.biasOn_of_retry hs ((hkeeps (0 + 8 * a) (by omega)).trans hen) hretry,
      (hkeeps (3 + 8 * a) (by omega)).trans hsh, s.retryBegun_frame a⟩
  case retryMet =>
    obtain ⟨hoff, hcount⟩ := State.retryMet_counts ha hsh
    refine ⟨_, exec_biasRetry hs hx hsh hen hdue hr true, hoff, hcount, ?_, s.retryMet_frame a⟩
    exact SMap.get_set_same s.grx.shortAt none (some s.mono) a
  case restored =>
    have hr' := (s.retryHeld a).progress_raise Ev.GRX_BIAS_RESTORED 0
    refine ⟨_, exec_biasRestored hs hr hk, ?_, ?_, State.pend_raise _ _ _,
      State.ReportFrame.trans (by decide) (s.retryHeld_frame a).report (hr'.frame.mono (by decide) (by decide))⟩
    · refine (hr'.flag List.not_mem_nil (show R.GRX_ANT < _ by decide) (show reportReg R.GRX_ANT = false by decide)).trans ?_
      exact (State.setGrx_flag _ _ _).trans (s.flag_setFld_zero (a := R.GRX_ANT))
    · rw [State.raise_grx _ _ (by decide)]
      exact SMap.get_set_same s.grx.retry none none a
  case held =>
    subst hv
    generalize hn : encodeSigned 64 (p.getD (s.fld F.GRX_POS_SEL_AXIS) 0) = n
    exact ⟨_, exec_heldPositionRead hs hp hn, s.heldRead_hostRead _ n, s.heldRead_hi _ n, s.heldRead_frame _ n⟩
  case known =>
    subst hb
    refine ⟨_, exec_posHiWrite hs w, ?_, fun k hk => ?_, State.posCompleted_frame _ w⟩
    · rw [State.posCompleted_known, SMap.get_set_same]
    · rw [State.posCompleted_known, SMap.get_set_other _ _ _ _ hk]
  case cleared =>
    refine ⟨_, exec_clearPositions hw hlo hhi, ?_, ?_, State.holdPositions_posOk _ none none, ?_⟩
    · exact congrArg Nand.heldA (State.holdPositions_nand _ none none)
    · exact congrArg Nand.heldB (State.holdPositions_nand _ none none)
    · exact ((State.Frame.refl _ _ s).add (State.setFld_frame_at _ _ _ _)).add (State.holdPositions_frame _ none none)
  case commit =>
    have hslv' := ((s.progress_setFld F.GRX_SURVEY_DURATION_MIN (s.fld F.GRX_SURVEY_DURATION_MIN)).flag (f := Blk.en Blk.SLV)).trans hslv
    have ht := exec_commitKnown hw hlo hhi
    rw [State.surveyBegin_free false hslv' hv] at ht
    exact ⟨_, ht, State.surveyBegun_grx _ false, State.surveyBegun_surveying _ false, State.surveyBegun_result _ false,
      ((State.Frame.refl _ _ s).add (State.setFld_frame_at _ _ _ _)).add (State.surveyBegun_frame _ false)⟩
  case self =>
    have hslv' := ((s.progress_setFld F.GRX_SURVEY_DURATION_MIN d).flag (f := Blk.en Blk.SLV)).trans hslv
    have hd : (s.setFld F.GRX_SURVEY_DURATION_MIN d).fld F.GRX_SURVEY_DURATION_MIN = d :=
      (s.fld_setFld_same d (by decide) (by decide) (by decide)).trans (Nat.mod_eq_of_lt (show d < 2 ^ 12 by omega))
    have ht := exec_selfSurvey hw hlo hhi
    rw [State.surveyBegin_free true hslv' hv] at ht
    exact ⟨_, ht, State.surveyBegun_grx _ true, (State.surveyBegun_duration _ true).trans hd, State.surveyBegun_surveying _ true,
      State.surveyBegun_result _ true, ((State.Frame.refl _ _ s).add (State.setFld_frame_at _ _ _ _)).add (State.surveyBegun_frame _ true)⟩
  case refused =>
    have hslv' := ((s.progress_setFld F.GRX_SURVEY_DURATION_MIN d).flag (f := Blk.en Blk.SLV)).trans hslv
    have ht := exec_selfSurvey hw hlo hhi
    rw [State.surveyBegin_refused true hslv' hv] at ht
    exact ⟨_, ht, State.fld_setFld_same _ 3 (by decide) (by decide) (by decide),
      ((State.Frame.refl _ _ s).add (State.setFld_frame_at _ _ _ _)).add (State.setFld_frame_at _ _ _ _)⟩
  case abort =>
    have h := State.surveyEnded_surveyOver (s.setFld F.GRX_SURVEY_DURATION_MIN (s.fld F.GRX_SURVEY_DURATION_MIN)) (r := 7) (by decide) hv
    exact ⟨_, exec_surveyAbort hw hlo hhi, h.grx, h.result, h.surveying, h.pend,
      (((State.Progress.refl _ _ s).add (s.progress_setFld F.GRX_SURVEY_DURATION_MIN _)).add h.progress).frame⟩
  case quiet =>
    obtain ⟨q, hq, hget⟩ := (s.setFld F.GRX_SURVEY_DURATION_MIN (s.fld F.GRX_SURVEY_DURATION_MIN)).quietCal_eq
    refine ⟨_, exec_quietCal hw hlo hhi, by rw [hq]; exact hget, ?_⟩
    exact ((State.Frame.refl _ _ s).add (State.setFld_frame_at _ _ _ _)).add (State.quietCal_frame _)
  case done =>
    have ht := exec_surveyEnd hw hf hv hp ha hm hb
    rw [State.surveyEnds, hnear, if_neg (by decide), if_neg (by omega), if_neg (by omega)] at ht
    obtain ⟨h, ⟨q, hq, hget⟩, hnand, hok, halarm⟩ := s.surveyDone_ended a b hv
    have hn : ((s.surveyDone a b).surveyOver 2).nand = _ := (h.progress.same .nand).trans hnand
    refine ⟨_, ht, congrArg GrxSt.survey h.grx, h.surveying, h.pend, h.result, congrArg Nand.heldA hn, congrArg Nand.heldB hn,
      (h.status 18 (by decide) (by decide)).trans hok, (h.status 20 (by decide) (by decide)).trans halarm, ?_⟩
    rw [h.grx]
    exact hq ▸ hget
  case ended =>
    have ht := exec_surveyEnd hw hf hv hp ha hm hb
    have hover {r : Nat} (hr : r < 16) := s.surveyEnded_surveyOver hr (Option.isSome_of_eq_some hv)
    have hnand {r : Nat} (hr : r < 16) : (s.surveyOver r).nand = s.nand := (hover hr).progress.same .nand
    rw [State.surveyEnds] at ht
    split at ht
    next hfar =>
      have h := hover (r := 4) (by decide)
      exact ⟨_, ht, congrArg GrxSt.survey h.grx, h.pend, fun _ => ⟨h.result, hnand (by decide)⟩,
        fun hnear => absurd (hfar.symm.trans hnear.1) (by decide), fun hnear => absurd (hfar.symm.trans hnear.1) (by decide)⟩
    next hnear =>
    split at ht
    next hshort =>
      have h := hover (r := 5) (by decide)
      exact ⟨_, ht, congrArg GrxSt.survey h.grx, h.pend, fun hfar => absurd hfar hnear, fun _ => ⟨h.result, hnand (by decide)⟩,
        fun hlong => by omega⟩
    next hlong =>
    split at ht
    next hoff =>
      have h := hover (r := 6) (by decide)
      exact ⟨_, ht, congrArg GrxSt.survey h.grx, h.pend, fun hfar => absurd hfar hnear, fun hshort => absurd hshort.2 hlong,
        fun _ => ⟨h.result, hnand (by decide)⟩⟩
    next htol =>
      obtain ⟨h, -⟩ := s.surveyDone_ended a b hv
      exact ⟨_, ht, congrArg GrxSt.survey h.grx, h.pend, fun hfar => absurd hfar hnear, fun hshort => absurd hshort.2 hlong,
        fun hoff => absurd hoff.2.2 htol⟩

end Sys2Proof.Machine
end

section
/-!
Reference epochs and RTCM output (R159 to R173). The last theorem refutes O39, whose ninth clause has the RSEQ of the RTCM ring be its old
value and the number of MSMs modulo 2^32, over every state: an epoch with nothing to send leaves a ring whose RSEQ is 2^32 at that value.
-/

namespace Sys2Proof.Machine

/-- A ring whose RSEQ no ring write leaves, since each leaves it below 2^32. -/
def overRing : Ring := ⟨0, 0, false, 2 ^ 32⟩

/-- A usable reference set without observations. -/
def emptyEpoch : RefEpoch := ⟨0, true, 1, [], [], [], []⟩

/-- GRX is on, RTCM output is enabled on a standby too, and the empty set is the newest; ring 0, of RTCM_RING 0, is the one above. -/
def State.rtcmOver : State :=
  let s := ((State.reset.setFld (Blk.en Blk.GRX) 1).setFld F.GRX_RTCM_EN 1).setFld F.GRX_RTCM_STANDBY_EN 1
  { s with grx := { s.grx with ref := some emptyEpoch }, rings := [(0, overRing)] }

/-- The state meets what the clause asks of one, and has no MSM to send. -/
theorem rtcmOver_sends : State.rtcmOver.running = true ∧ State.rtcmOver.blkOn Blk.GRX = true ∧ State.rtcmOver.rtcmOn = true ∧
    State.rtcmOver.onRate emptyEpoch.epoch = true ∧ State.rtcmOver.flag F.GRX_STATUS_SPOOF_ALARM = false ∧
    State.rtcmOver.flag F.EVT_RING_EN = false ∧ State.rtcmOver.flag F.LOG_CFG_OUT_EN = false ∧ State.rtcmOver.fld F.GRX_RTCM_RING = 0 ∧
    State.rtcmOver.msmList emptyEpoch = [] := by
  decide +kernel

/-- The newest set is taken for output. -/
def State.refTaken (s : State) : State := s.setGrx fun g => { g with ref := none }

/-- An epoch whose list of MSMs is empty is passed and nothing is sent (R172). -/
theorem exec_rtcmMsmOutput_empty {s : State} {r : RefEpoch} (hw : s.works Blk.GRX) (hr : s.grx.ref = some r) (hpos : s.grx.posDue = false)
    (hl : s.msmList r = []) : exec (.rtcmMsmOutput r.epoch) s = .next s.refTaken := by
  refine (whileOn_eq _ hw.1 hw.2).trans (congrArg Host.Outcome.next ?_)
  have hpos' : s.refTaken.grx.posDue = false := hpos
  have hl' : s.refTaken.msmList r = [] := hl
  simp only [hr, bne_self_eq_false, Bool.false_eq_true, if_false]
  rw [← State.refTaken, hpos', if_neg Bool.false_ne_true, hl']
  exact ite_self _

/-- Refutes O39: its ninth clause has RSEQ be a number modulo 2^32 after every epoch, but an epoch without an MSM writes no ring (R172), and
the clause admits a ring whose RSEQ is 2^32, which no ring write leaves. -/
theorem not_referenceEpochs : ¬ Obligations.ReferenceEpochs := by
  unfold Obligations.ReferenceEpochs
  intro h
  obtain ⟨-, -, -, -, -, -, -, -, hmsm, -⟩ := h
  obtain ⟨hrun, hon, hrtcm, hrate, halarm, hevt, hlog, hring, hnone⟩ := rtcmOver_sends
  obtain ⟨t, ht, -, hrseq⟩ := hmsm State.rtcmOver emptyEpoch 0 ⟨hrun, hon⟩ rfl hrtcm hrate halarm rfl hevt hlog hring.symm
  have hsame : State.rtcmOver.refTaken = t :=
    Host.Outcome.next.inj ((exec_rtcmMsmOutput_empty ⟨hrun, hon⟩ rfl rfl hnone).symm.trans ht)
  have hkept : (t.ring 0).rseq = 2 ^ 32 := by rw [← hsame]; rfl
  have hold : (State.rtcmOver.ring 0).rseq = 2 ^ 32 := rfl
  rw [hkept, hold, hnone] at hrseq
  exact absurd hrseq (by decide)

end Sys2Proof.Machine
end

section
/-!
GRX's tracking channels (R154, R155): what an assignment and a release leave, and the steps of a second's assignment.
-/

namespace Sys2Proof.Machine

/-! ## Lists -/

theorem mem_of_mem_insertBy {α : Type} {le : α → α → Bool} {x y : α} {l : List α} (h : x ∈ insertBy le y l) : x = y ∨ x ∈ l := by
  induction l with
  | nil => exact .inl (List.mem_singleton.mp h)
  | cons z zs ih =>
    rw [insertBy] at h
    split at h
    · exact List.mem_cons.mp h
    · rcases List.mem_cons.mp h with rfl | h
      · exact .inr List.mem_cons_self
      · exact (ih h).imp_right (List.mem_cons_of_mem z)

theorem mem_of_mem_sortBy {α : Type} {le : α → α → Bool} {x : α} {l : List α} (h : x ∈ sortBy le l) : x ∈ l := by
  induction l with
  | nil => exact h
  | cons y ys ih =>
    rcases mem_of_mem_insertBy h with rfl | h
    · exact List.mem_cons_self
    · exact List.mem_cons_of_mem y (ih h)

/-! ## A state whose channels changed -/

/-- The state with channels `m`. -/
def State.withChans (s : State) (m : SMap GrxChan) : State := { s with grx := { s.grx with chans := m } }

section WithChans

variable (s : State) (m : SMap GrxChan)

@[simp] theorem State.withChans_chans : (s.withChans m).chans = s.chans := rfl
@[simp] theorem State.withChans_chanSig (k : Nat) : (s.withChans m).chanSig k = s.chanSig k := rfl
@[simp] theorem State.withChans_chanAnt (k : Nat) : (s.withChans m).chanAnt k = s.chanAnt k := rfl
@[simp] theorem State.withChans_chanFixed (k : Nat) : (s.withChans m).chanFixed k = s.chanFixed k := rfl
@[simp] theorem State.withChans_chanOut (k : Nat) : (s.withChans m).chanOut k = s.chanOut k := rfl
@[simp] theorem State.withChans_expert (b : Nat) : (s.withChans m).expert b = s.expert b := rfl
@[simp] theorem State.withChans_bans : (s.withChans m).grx.bans = s.grx.bans := rfl
@[simp] theorem State.withChans_mono : (s.withChans m).mono = s.mono := rfl
@[simp] theorem State.withChans_fld (f : Fld) : (s.withChans m).fld f = s.fld f := rfl

theorem State.withChans_frame : State.Frame [] [.grx] s (s.withChans m) := s.grx_frame _

end WithChans

/-- `t` is `s` but for channels of `p`. -/
structure State.ChansBut (p : Nat → Prop) (s t : State) : Prop where
  only : t = s.withChans t.grx.chans
  chan : ∀ k, ¬ p k → t.chan k = s.chan k

section ChansBut

variable {p q : Nat → Prop} {s t u : State}

theorem State.ChansBut.refl (p : Nat → Prop) (s : State) : State.ChansBut p s s := ⟨rfl, fun _ _ => rfl⟩

theorem State.ChansBut.trans (h : State.ChansBut p s t) (k : State.ChansBut p t u) : State.ChansBut p s u where
  only :=
    have hwith : t.withChans u.grx.chans = (s.withChans t.grx.chans).withChans u.grx.chans := congrArg (State.withChans · u.grx.chans) h.only
    k.only.trans (hwith.trans rfl)
  chan c hc := (k.chan c hc).trans (h.chan c hc)

theorem State.ChansBut.mono (h : State.ChansBut p s t) (hpq : ∀ k, p k → q k) : State.ChansBut q s t :=
  ⟨h.only, fun k hk => h.chan k fun hp => hk (hpq k hp)⟩

theorem State.ChansBut.chanSig (h : State.ChansBut p s t) (k : Nat) : t.chanSig k = s.chanSig k := by rw [h.only, State.withChans_chanSig]

theorem State.ChansBut.chanAnt (h : State.ChansBut p s t) (k : Nat) : t.chanAnt k = s.chanAnt k := by rw [h.only, State.withChans_chanAnt]

theorem State.ChansBut.chanFixed (h : State.ChansBut p s t) (k : Nat) : t.chanFixed k = s.chanFixed k := by
  rw [h.only, State.withChans_chanFixed]

theorem State.ChansBut.expert (h : State.ChansBut p s t) (b : Nat) : t.expert b = s.expert b := by rw [h.only, State.withChans_expert]

theorem State.ChansBut.monoTime (h : State.ChansBut p s t) : t.mono = s.mono := by rw [h.only, State.withChans_mono]

theorem State.ChansBut.frame (h : State.ChansBut p s t) : State.Frame [] [.grx] s t := h.only ▸ s.withChans_frame _

end ChansBut

section Chan

variable (s : State)

theorem State.chan_setChan_same (c : Nat) (v : GrxChan) : (s.setChan c v).chan c = v := SMap.get_set_same _ _ _ _

theorem State.chan_setChan_other {c k : Nat} (v : GrxChan) (h : k ≠ c) : (s.setChan c v).chan k = s.chan k := SMap.get_set_other _ _ _ _ h

theorem State.setChan_but (c : Nat) (v : GrxChan) : State.ChansBut (· = c) s (s.setChan c v) :=
  ⟨rfl, fun _ hk => s.chan_setChan_other v hk⟩

end Chan

/-! ## Free channels and the satellites they may take -/

/-- A satellite is on a channel of the signal and antenna. -/
def State.tracks (s : State) (sig a svid : Nat) : Bool :=
  s.chans.any fun c => s.chanSig c == sig && s.chanAnt c == a && (s.chan c).svid == svid

/-- A satellite was released from the signal and antenna less than 300 s ago. -/
def State.banned (s : State) (sig ant svid : Nat) : Bool :=
  s.grx.bans.any fun b => b.1 == sig && b.2.1 == ant && b.2.2.1 == svid && decide (s.mono < b.2.2.2)

/-- The satellites high enough, on no channel and not barred, in order of their elevation. -/
def State.takeable (s : State) (views : List SatView) (sig ant : Nat) : List SatView :=
  sortBy (fun a b => decide (b.elev ≤ a.elev)) (views.filter fun v => v.sig == sig && v.ant == ant &&
    decide (100 * (s.fld F.GRX_CFG_ACQ_MASK : Int) ≤ v.elev) && !s.tracks sig ant v.svid && !s.banned sig ant v.svid)

section Lists

variable {s t : State} {views : List SatView} {sig ant : Nat}

theorem State.assignable_zero : s.assignable views sig 0 = s.takeable views sig 0 := rfl

theorem State.assignable_other (h : ant ≠ 0) : s.assignable views sig ant =
    ((s.takeable views sig ant).filter fun v => s.tracks sig 0 v.svid) ++ (s.takeable views sig ant).filter fun v => !s.tracks sig 0 v.svid :=
  if_neg h

theorem State.mem_takeable_of_mem_assignable {v : SatView} (h : v ∈ s.assignable views sig ant) : v ∈ s.takeable views sig ant := by
  by_cases hant : ant = 0
  · subst hant
    exact h
  · rw [State.assignable_other hant, List.mem_append] at h
    exact h.elim List.mem_of_mem_filter List.mem_of_mem_filter

/-- A satellite just released is not taken (R155). -/
theorem State.not_banned_of_mem_assignable {v : SatView} (h : v ∈ s.assignable views sig ant) : s.banned sig ant v.svid = false := by
  have hm := (List.mem_filter.mp (mem_of_mem_sortBy (State.mem_takeable_of_mem_assignable h))).2
  simp only [Bool.and_eq_true, Bool.not_eq_true'] at hm
  exact hm.2

theorem State.mem_freeChans {c : Nat} (h : c ∈ s.freeChans sig ant) : s.chanSig c = sig ∧ s.chanAnt c = ant := by
  have hm := (List.mem_filter.mp h).2
  simp only [Bool.and_eq_true, beq_iff_eq] at hm
  exact hm.1.1.1

theorem State.freeChans_nodup : (s.freeChans sig ant).Nodup := ((List.nodup_range).filter _).filter _

variable {p : Nat → Prop} (h : State.ChansBut p s t) (hp : ∀ k, p k → s.chanSig k ≠ sig)
include h hp

/-- Other signals' channels do not decide which of a signal are free. -/
theorem State.ChansBut.freeChans : t.freeChans sig ant = s.freeChans sig ant := by
  obtain ⟨m, rfl⟩ : ∃ m, t = s.withChans m := ⟨_, h.only⟩
  refine List.filter_congr fun k _ => ?_
  by_cases hk : s.chanSig k = sig
  · rw [h.chan k fun hpk => hp k hpk hk]
    rfl
  · simp [beq_eq_false_iff_ne.mpr hk]

theorem State.ChansBut.tracks (a svid : Nat) : t.tracks sig a svid = s.tracks sig a svid := by
  obtain ⟨m, rfl⟩ : ∃ m, t = s.withChans m := ⟨_, h.only⟩
  refine congrArg s.chans.any (funext fun k => ?_)
  by_cases hk : s.chanSig k = sig
  · rw [h.chan k fun hpk => hp k hpk hk]
    rfl
  · simp [beq_eq_false_iff_ne.mpr hk]

/-- Nor which satellites its channels of ANT_A may take. -/
theorem State.ChansBut.assignable_zero : t.assignable views sig 0 = s.assignable views sig 0 := by
  have htracks := h.tracks hp 0
  obtain ⟨m, rfl⟩ : ∃ m, t = s.withChans m := ⟨_, h.only⟩
  simp only [State.assignable_zero, State.takeable, htracks]
  rfl

end Lists

/-! ## A second's assignment -/

/-- Satellites are put on channels, pair by pair. -/
def State.assignPairs (s : State) (l : List (Nat × SatView)) : State := l.foldl (fun s p => s.chanAssign p.1 p.2.svid p.2.elev) s

/-- The free channels of a signal on an antenna take satellites. -/
def State.assignSig (s : State) (views : List SatView) (ant sig : Nat) : State :=
  s.assignPairs ((s.freeChans sig ant).zip (s.assignable views sig ant))

/-- The signals of a list are served in turn. -/
def State.assignSigs (s : State) (views : List SatView) (ant : Nat) (l : List Nat) : State := l.foldl (fun s sig => s.assignSig views ant sig) s

/-- A channel that begins to acquire a satellite. -/
def GrxChan.acquiring (now svid : Nat) (elev : Int) : GrxChan := { GrxChan.idle with state := 2, svid, since := now, lockAt := now, elev }

/-- Both antennas are served. -/
def State.assignAll (s : State) (views : List SatView) : State :=
  [0, 1].foldl (fun s ant => s.assignSigs views ant ((List.range 17).drop 1)) s

theorem State.assignAll_eq (s : State) (views : List SatView) :
    s.assignAll views = (s.assignSigs views 0 ((List.range 17).drop 1)).assignSigs views 1 ((List.range 17).drop 1) := by
  rw [State.assignAll, List.foldl_cons, List.foldl_cons, List.foldl_nil]

section Assign

variable (s : State) (views : List SatView) (ant : Nat)

theorem State.chanAssign_but (c svid : Nat) (elev : Int) : State.ChansBut (· = c) s (s.chanAssign c svid elev) := s.setChan_but _ _

theorem State.assignPairs_but (l : List (Nat × SatView)) : State.ChansBut (· ∈ l.map Prod.fst) s (s.assignPairs l) := by
  refine List.foldlRecOn l _ (State.ChansBut.refl _ s) fun t ht p hp => ht.trans ((t.chanAssign_but _ _ _).mono ?_)
  rintro k rfl
  exact List.mem_map_of_mem hp

theorem State.assignSig_but (sig : Nat) : State.ChansBut (fun k => s.chanSig k = sig ∧ s.chanAnt k = ant) s (s.assignSig views ant sig) := by
  refine (s.assignPairs_but _).mono fun k hk => ?_
  obtain ⟨p, hp, rfl⟩ := List.mem_map.mp hk
  exact State.mem_freeChans (List.of_mem_zip hp).1

theorem State.assignSigs_but (l : List Nat) :
    State.ChansBut (fun k => s.chanSig k ∈ l ∧ s.chanAnt k = ant) s (s.assignSigs views ant l) := by
  refine List.foldlRecOn l _ (State.ChansBut.refl _ s) fun t ht sig hsig => ht.trans ((t.assignSig_but views ant sig).mono ?_)
  rintro k ⟨rfl, hant⟩
  exact ⟨ht.chanSig k ▸ hsig, (ht.chanAnt k).symm.trans hant⟩

variable {s views} {c sig : Nat} {cs : List Nat} {v : SatView} {rest : List SatView}

/-- The first free channel of a signal takes the first satellite. -/
theorem State.assignSig_head (hfree : s.freeChans sig 0 = c :: cs) (hview : s.assignable views sig 0 = v :: rest) :
    (s.assignSig views 0 sig).chan c = .acquiring s.mono v.svid v.elev := by
  have hnodup : (c :: cs).Nodup := hfree ▸ State.freeChans_nodup
  have hc : c ∉ (cs.zip rest).map Prod.fst := fun hc => by
    obtain ⟨p, hp, rfl⟩ := List.mem_map.mp hc
    exact (List.nodup_cons.mp hnodup).1 (List.of_mem_zip hp).1
  rw [State.assignSig, hfree, hview]
  exact ((State.assignPairs_but (s.chanAssign c v.svid v.elev) (cs.zip rest)).chan c hc).trans (s.chan_setChan_same _ _)

theorem State.assignSigs_cons (sig : Nat) (l : List Nat) :
    s.assignSigs views ant (sig :: l) = (s.assignSig views ant sig).assignSigs views ant l := rfl

theorem State.assignSigs_append (l l' : List Nat) :
    s.assignSigs views ant (l ++ l') = (s.assignSigs views ant l).assignSigs views ant l' := List.foldl_append

/-- The signals served before and after, each with channels of its own, leave it that. -/
theorem State.assignSigs_head {before after : List Nat} (hbefore : sig ∉ before) (hafter : sig ∉ after) (hfree : s.freeChans sig 0 = c :: cs)
    (hview : s.assignable views sig 0 = v :: rest) :
    (s.assignSigs views 0 (before ++ sig :: after)).chan c = .acquiring s.mono v.svid v.elev := by
  obtain ⟨hsig, -⟩ := State.mem_freeChans (hfree ▸ List.mem_cons_self : c ∈ s.freeChans sig 0)
  rw [State.assignSigs_append, State.assignSigs_cons]
  have hu := s.assignSigs_but views 0 before
  generalize s.assignSigs views 0 before = u at hu
  have hother : ∀ k, s.chanSig k ∈ before ∧ s.chanAnt k = 0 → s.chanSig k ≠ sig := fun k hk heq => hbefore (heq ▸ hk.1)
  have hhead := State.assignSig_head ((hu.freeChans hother).trans hfree) ((hu.assignable_zero hother).trans hview)
  have hw := u.assignSig_but views 0 sig
  refine (((u.assignSig views 0 sig).assignSigs_but views 0 after).chan c fun hc => ?_).trans (hhead.trans (by rw [hu.monoTime]))
  rw [hw.chanSig, hu.chanSig, hsig] at hc
  exact hafter hc.1

/-- Nor do ANT_B's channels change it. -/
theorem State.assignAll_head (h1 : 1 ≤ sig) (h16 : sig ≤ 16) (hfree : s.freeChans sig 0 = c :: cs)
    (hview : s.assignable views sig 0 = v :: rest) : (s.assignAll views).chan c = .acquiring s.mono v.svid v.elev := by
  obtain ⟨-, hant⟩ := State.mem_freeChans (hfree ▸ List.mem_cons_self : c ∈ s.freeChans sig 0)
  have hmem : sig ∈ (List.range 17).drop 1 := by interval_cases sig <;> decide
  obtain ⟨before, after, hl⟩ := List.append_of_mem hmem
  have hnodup : (before ++ sig :: after).Nodup := hl ▸ (by decide : ((List.range 17).drop 1).Nodup)
  obtain ⟨-, hafter, hdisj⟩ := List.nodup_append.mp hnodup
  have hA := State.assignSigs_head (fun h => hdisj sig h sig List.mem_cons_self rfl) (List.nodup_cons.mp hafter).1 hfree hview
  rw [← hl] at hA
  rw [State.assignAll_eq]
  refine (State.ChansBut.chan (State.assignSigs_but _ views 1 _) c fun hc => ?_).trans hA
  rw [(s.assignSigs_but views 0 _).chanAnt, hant] at hc
  exact absurd hc.2 (by decide)

end Assign

/-! ## Elevations and releases -/

/-- The channels with a satellite. -/
def State.heldChans (s : State) : List Nat := s.chans.filter fun c => (s.chan c).svid != 0

/-- The elevations of channels are taken from the views. -/
def State.elevated (s : State) (views : List SatView) (l : List Nat) : State :=
  l.foldl (fun s c => s.setChan c { s.chan c with elev := s.chanElev views c }) s

/-- A channel is released where its satellite has sunk or was not acquired for 60 s. -/
def State.releaseDue (s : State) (c : Nat) : State :=
  if decide ((s.chan c).elev < 100 * (s.fld F.GRX_CFG_ACQ_MASK : Int) - 200) ||
    ((s.chan c).state < 3 && s.passed (s.chan c).since (60 * nsPerSec)) then s.chanRelease c else s

/-- The channels of a list are released where that is due. -/
def State.released (s : State) (l : List Nat) : State := l.foldl State.releaseDue s

section Release

variable {s : State} {views : List SatView}

/-- What is known of the channels once their elevations are taken. -/
theorem State.elevated_chan (l : List Nat) : State.ChansBut (fun _ => True) s (s.elevated views l) ∧
    ∀ k, ∃ e, (s.elevated views l).chan k = { s.chan k with elev := e } := by
  refine List.foldlRecOn (motive := fun t => State.ChansBut (fun _ => True) s t ∧ ∀ k, ∃ e, t.chan k = { s.chan k with elev := e }) l _
    ⟨.refl _ s, fun k => ⟨_, rfl⟩⟩ fun t ⟨ht, hchan⟩ c _ => ⟨ht.trans ((t.setChan_but c _).mono fun _ _ => trivial), fun k => ?_⟩
  obtain ⟨e, he⟩ := hchan k
  by_cases hk : k = c
  · subst hk
    exact ⟨t.chanElev views k, by rw [t.chan_setChan_same, he]⟩
  · exact ⟨e, (t.chan_setChan_other _ hk).trans he⟩

/-- The second's assignment at basic level: elevations, releases, assignments. -/
theorem exec_channelAssign (hw : s.works Blk.GRX) (hx : s.expert Blk.GRX = false) : exec (.channelAssign views) s =
    .next (((s.elevated views s.heldChans).released (s.heldChans.filter fun c => !s.chanFixed c)).assignAll views) := by
  have hel := (State.elevated_chan (s := s) (views := views) s.heldChans).1
  have hfixed : (fun c => !(s.elevated views s.heldChans).chanFixed c) = fun c => !s.chanFixed c := funext fun c => by rw [hel.chanFixed]
  refine (whileOn_eq _ hw.1 hw.2).trans (congrArg Host.Outcome.next ?_)
  rw [← hfixed]
  exact if_neg (ne_true_of_eq_false ((hel.expert _).trans hx))

end Release

/-! ## A satellite released is not put back (R155) -/

/-- `t` is `s` but for GRX's part. -/
def State.GrxOnly (s t : State) : Prop := t = { s with grx := t.grx }

section GrxOnly

variable {s t : State} (h : State.GrxOnly s t)
include h

theorem State.GrxOnly.setGrx (f : GrxSt → GrxSt) : State.GrxOnly s (t.setGrx f) :=
  have hset : t.setGrx f = { ({ s with grx := t.grx } : State) with grx := f t.grx } := congrArg (fun u => { u with grx := f t.grx }) h
  hset

theorem State.GrxOnly.chanSig (k : Nat) : t.chanSig k = s.chanSig k := (congrArg (State.chanSig · k) h).trans rfl

theorem State.GrxOnly.chanAnt (k : Nat) : t.chanAnt k = s.chanAnt k := (congrArg (State.chanAnt · k) h).trans rfl

theorem State.GrxOnly.monoTime : t.mono = s.mono := (congrArg State.mono h).trans rfl

theorem State.GrxOnly.frame : State.Frame [] [.grx] s t := Eq.mpr (congrArg (State.Frame [] [.grx] s) h) (s.grx_frame t.grx)

end GrxOnly

theorem State.ChansBut.grxOnly {p : Nat → Prop} {s t : State} (h : State.ChansBut p s t) : State.GrxOnly s t := by
  rw [h.only]
  exact rfl

/-- Since `s`, only GRX's part changed; channel `c` is without satellite `sv`, which is barred from its signal and antenna. -/
structure State.Barred (c sv : Nat) (s t : State) : Prop where
  only : State.GrxOnly s t
  free : (t.chan c).svid ≠ sv
  ban : (s.chanSig c, s.chanAnt c, sv, s.mono + 300 * nsPerSec) ∈ t.grx.bans

section Barred

variable {c sv : Nat} {s t : State}

theorem State.chanRelease_chan (t : State) (k : Nat) : (t.chanRelease k).chan c = if c = k then GrxChan.idle else t.chan c := by
  split
  next h =>
    subst h
    exact t.chan_setChan_same c GrxChan.idle
  next h => exact t.chan_setChan_other GrxChan.idle h

theorem State.GrxOnly.chanRelease (h : State.GrxOnly s t) (k : Nat) : State.GrxOnly s (t.chanRelease k) := by
  unfold State.chanRelease State.setChan
  exact (h.setGrx _).setGrx _

/-- A release bars the satellite for 300 s. -/
theorem State.barred_chanRelease (h : State.GrxOnly s t) (hsv : sv ≠ 0) (hv : (t.chan c).svid = sv) : State.Barred c sv s (t.chanRelease c) where
  only := h.chanRelease c
  free := by
    rw [State.chanRelease_chan, if_pos rfl]
    exact hsv.symm
  ban := by
    rw [← h.chanSig, ← h.chanAnt, ← h.monoTime, ← hv]
    exact List.mem_cons_self

variable (h : State.Barred c sv s t)
include h

/-- Releases of other satellites leave it barred. -/
theorem State.Barred.chanRelease (hsv : sv ≠ 0) (k : Nat) : State.Barred c sv s (t.chanRelease k) where
  only := h.only.chanRelease k
  free := by
    rw [State.chanRelease_chan]
    split
    · exact hsv.symm
    · exact h.free
  ban := by
    refine List.mem_cons_of_mem _ (List.mem_filter.mpr ⟨h.ban, decide_eq_true ?_⟩)
    change t.mono < s.mono + _
    rw [h.only.monoTime]
    exact Nat.lt_add_of_pos_right (by decide)

theorem State.Barred.releaseDue (hsv : sv ≠ 0) (k : Nat) : State.Barred c sv s (t.releaseDue k) := by
  rw [State.releaseDue]
  split
  · exact h.chanRelease hsv k
  · exact h

/-- So does every assignment but one of the satellite to the channel. -/
theorem State.Barred.chanAssign {k svid : Nat} (elev : Int) (hk : k = c → svid ≠ sv) : State.Barred c sv s (t.chanAssign k svid elev) where
  only := by
    unfold State.chanAssign State.setChan
    exact h.only.setGrx _
  free := by
    by_cases hc : c = k
    · rw [State.chanAssign, hc, State.chan_setChan_same]
      exact hk hc.symm
    · rw [State.chanAssign, State.chan_setChan_other _ _ hc]
      exact h.free
  ban := h.ban

theorem State.Barred.banned : t.banned (s.chanSig c) (s.chanAnt c) sv = true := by
  refine List.any_eq_true.mpr ⟨_, h.ban, ?_⟩
  simp only [beq_self_eq_true, Bool.true_and, decide_eq_true_eq, h.only.monoTime]
  exact Nat.lt_add_of_pos_right (by decide)

theorem State.Barred.assignSig (views : List SatView) (ant sig : Nat) : State.Barred c sv s (t.assignSig views ant sig) := by
  refine List.foldlRecOn (motive := State.Barred c sv s) _ _ h fun u hu p hp => hu.chanAssign _ ?_
  rintro rfl rfl
  obtain ⟨hc, hv⟩ := List.of_mem_zip hp
  obtain ⟨hsig, hant⟩ := State.mem_freeChans hc
  rw [h.only.chanSig] at hsig
  rw [h.only.chanAnt] at hant
  have hbanned := h.banned
  rw [hsig, hant, State.not_banned_of_mem_assignable hv] at hbanned
  exact absurd hbanned (by decide)

theorem State.Barred.assignSigs (views : List SatView) (ant : Nat) (l : List Nat) : State.Barred c sv s (t.assignSigs views ant l) :=
  List.foldlRecOn (motive := State.Barred c sv s) l _ h fun _ hu sig _ => hu.assignSig views ant sig

theorem State.Barred.assignAll (views : List SatView) : State.Barred c sv s (t.assignAll views) := by
  rw [State.assignAll_eq]
  exact (h.assignSigs views 0 _).assignSigs views 1 _

end Barred

section Released

variable {c : Nat} {s t : State} (h : State.GrxOnly s t)
include h

theorem State.GrxOnly.releaseDue (k : Nat) : State.GrxOnly s (t.releaseDue k) := by
  rw [State.releaseDue]
  split
  · exact h.chanRelease k
  · exact h

/-- Releases of other channels leave a channel as it is. -/
theorem State.GrxOnly.released_other {l : List Nat} (hc : c ∉ l) : State.GrxOnly s (t.released l) ∧ (t.released l).chan c = t.chan c := by
  refine List.foldlRecOn (motive := fun u => State.GrxOnly s u ∧ u.chan c = t.chan c) l _ ⟨h, rfl⟩ fun u ⟨hu, hchan⟩ k hk =>
    ⟨hu.releaseDue k, ?_⟩
  rw [State.releaseDue]
  split
  · rw [State.chanRelease_chan, if_neg (fun hck : c = k => hc (hck ▸ hk)), hchan]
  · exact hchan

/-- A channel of the list whose satellite was not acquired for 60 s is released. -/
theorem State.GrxOnly.released_late {l : List Nat} (hc : c ∈ l) {sv : Nat} (hsv : sv ≠ 0) (hv : (t.chan c).svid = sv)
    (hst : (t.chan c).state < 3) (hlate : t.passed (t.chan c).since (60 * nsPerSec) = true) : State.Barred c sv s (t.released l) := by
  obtain ⟨l1, l2, rfl, hl1⟩ := List.eq_append_cons_of_mem hc
  obtain ⟨hu, hchan⟩ := h.released_other hl1
  have hpassed : (t.released l1).passed (t.chan c).since (60 * nsPerSec) = true := by
    rw [State.passed, hu.monoTime, ← h.monoTime]
    exact hlate
  have hrel : State.Barred c sv s ((t.released l1).releaseDue c) := by
    rw [State.releaseDue, if_pos (by simp [hchan, hst, hpassed])]
    exact State.barred_chanRelease hu hsv (hchan ▸ hv)
  rw [State.released, List.foldl_append, List.foldl_cons]
  exact List.foldlRecOn (motive := State.Barred c sv s) l2 _ hrel fun u hu k _ => hu.releaseDue hsv k

end Released

end Sys2Proof.Machine
end

section
/-!
GRX's channels in tracking (R156, R157, R297): code lock, and a loss of lock, which restarts both loops of the channel.
-/

namespace Sys2Proof.Machine

/-! ## A slot is restarted -/

/-- The accumulators and the output of a slot are cleared. -/
def State.slotCleared (s : State) (n : Nat) : State :=
  let s := (s.setSlotReg n R.LPE_SLOT_ACC 0).setSlotReg n R.LPE_SLOT_OUT 0
  s.setSlot n { s.slot n with acc2 := 0 }

section Slots

variable (s : State) (n : Nat)

theorem State.lpe_frame (v : LpeSt) : State.Frame [] [.lpe] s { s with lpe := v } :=
  ⟨fun _ _ _ _ => rfl, fun _ => rfl, fun p hp => by cases p <;> simp_all [Part.same]⟩

theorem State.slotRestart_eq : s.slotRestart n =
    if (s.slotCleared n).flag F.LPE_CTRL_LEVEL then s.slotCleared n else (s.slotCleared n).setFldB n F.LPE_SLOT_STAT_SAT 0 := rfl

theorem State.slotCleared_frame : State.Frame [R.LPE_SLOT_ACC, R.LPE_SLOT_OUT] [.lpe] s (s.slotCleared n) :=
  (((State.Frame.refl _ _ s).add (s.setRegB_frame n (a := R.LPE_SLOT_ACC) _ (by decide))).add
    (State.setRegB_frame _ n (a := R.LPE_SLOT_OUT) _ (by decide))).add (State.lpe_frame _ _)

theorem State.slotRestart_frame : State.Frame [R.LPE_SLOT_ACC, R.LPE_SLOT_OUT, R.LPE_SLOT_STAT] [.lpe] s (s.slotRestart n) := by
  have hcleared := (s.slotCleared_frame n).mono (regs' := [R.LPE_SLOT_ACC, R.LPE_SLOT_OUT, R.LPE_SLOT_STAT]) (by decide) (fun _ h => h)
  rw [State.slotRestart_eq]
  split
  · exact hcleared
  · exact hcleared.add (State.setFldB_frame _ n 0 (by decide))

variable {s n}

theorem State.slotReg_setSlotReg_zero {m a b : Nat} (ha : a < 0x4000000) (hb : b < 0x4000000) (h : (m = n ∧ b = a) ∨ s.slotReg m b = 0) :
    (s.setSlotReg n a 0).slotReg m b = 0 := by
  rw [State.slotReg, State.setSlotReg, State.regB_setRegB _ _ ha hb]
  split
  next => rfl
  next hne => exact h.resolve_left hne

/-- A restart clears the slot's accumulator and output, and sets none of another slot. -/
theorem State.slotReg_slotRestart_zero {m b : Nat} (hb : b = R.LPE_SLOT_ACC ∨ b = R.LPE_SLOT_OUT) (h : m = n ∨ s.slotReg m b = 0) :
    (s.slotRestart n).slotReg m b = 0 := by
  have hlt : b < 0x4000000 := by rcases hb with rfl | rfl <;> decide
  have hcleared : (s.slotCleared n).slotReg m b = 0 := by
    have hout : ((s.setSlotReg n R.LPE_SLOT_ACC 0).setSlotReg n R.LPE_SLOT_OUT 0).slotReg m b = 0 := by
      refine State.slotReg_setSlotReg_zero (a := R.LPE_SLOT_OUT) (by decide) hlt ?_
      rcases h with rfl | h
      · exact hb.symm.imp (⟨rfl, ·⟩) fun hacc => State.slotReg_setSlotReg_zero (a := R.LPE_SLOT_ACC) (by decide) hlt (.inl ⟨rfl, hacc⟩)
      · exact .inr (State.slotReg_setSlotReg_zero (a := R.LPE_SLOT_ACC) (by decide) hlt (.inr h))
    exact hout
  rw [State.slotRestart_eq]
  split
  · exact hcleared
  · rw [State.slotReg, State.setFldB, State.regB_setRegB_other _ _ (by decide) hlt (by rcases hb with rfl | rfl <;> simp)]
    exact hcleared

end Slots

/-! ## A loss of lock -/

/-- What a loss of lock leaves of a channel before its loops restart. -/
def GrxChan.unlocked (v : GrxChan) (lost : Bool) (now : Nat) : GrxChan :=
  if lost then { v with state := 2, since := now } else { v with state := min v.state 3 }

/-- Both loops of a channel are restarted. -/
def State.loopsRestarted (s : State) (ch : Nat) : State := (s.slotRestart (s.chanCarr ch)).slotRestart (s.chanCode ch)

section LockLoss

variable {s : State} {ch : Nat}

theorem State.loopsRestarted_frame : State.Frame [R.LPE_SLOT_ACC, R.LPE_SLOT_OUT, R.LPE_SLOT_STAT] [.lpe] s (s.loopsRestarted ch) :=
  (s.slotRestart_frame _).trans (State.slotRestart_frame _ _)

theorem State.bump_chan (s : State) (f : Fld) (n k : Nat) : (s.bump f n).chan k = s.chan k := by rw [State.chan, State.bump_grx, State.chan]

/-- SLIP is set and LOCK restarts on the channel alone (R157). -/
theorem State.chanSlip_chan (s : State) (ch k : Nat) :
    (s.chanSlip ch).chan k = if k = ch then { s.chan ch with slip := true, lockAt := s.mono } else s.chan k := by
  rw [State.chanSlip, State.bump_chan]
  split
  next h =>
    subst h
    exact s.chan_setChan_same _ _
  next h => exact s.chan_setChan_other _ h

theorem State.chanSlip_frame (s : State) (ch : Nat) : State.Frame [R.GRX_CNT + 12] [.grx] s (s.chanSlip ch) :=
  ((State.Frame.refl _ _ s).add (s.setChan_but ch _).frame).add (State.bump_frame _ (grxCnt 3) 1 (by decide))

theorem State.chanSlip_count (s : State) (ch : Nat) : (s.chanSlip ch).fld (grxCnt 3) = min (s.fld (grxCnt 3) + 1) (2 ^ 32 - 1) :=
  State.fld_bump_word _ 1 (by decide)

theorem State.chanSlip_slotReg (s : State) (ch n : Nat) {b : Nat} (hb : b < 0x4000000) (hne : b ∉ [R.GRX_CNT + 12]) :
    (s.chanSlip ch).slotReg n b = s.slotReg n b := by
  rw [State.slotReg, (s.chanSlip_frame ch).1 n b hb hne, State.slotReg]

theorem State.lockLoss_eq (lost : Bool) :
    s.lockLoss ch lost = ((s.setChan ch ((s.chan ch).unlocked lost s.mono)).loopsRestarted ch).chanSlip ch := rfl

/-- A loss of lock: the channel falls back, with SLIP and LOCK from 0, and others stand. -/
theorem State.lockLoss_chan (lost : Bool) (k : Nat) : (s.lockLoss ch lost).chan k =
    if k = ch then { (s.chan ch).unlocked lost s.mono with slip := true, lockAt := s.mono } else s.chan k := by
  have hl := State.loopsRestarted_frame (s := s.setChan ch ((s.chan ch).unlocked lost s.mono)) (ch := ch)
  have hchan (k : Nat) : (State.loopsRestarted _ ch).chan k = (s.setChan ch ((s.chan ch).unlocked lost s.mono)).chan k :=
    congrArg (fun g => g.chans.get GrxChan.idle k) (hl.same .grx)
  have hmono : (State.loopsRestarted _ ch).mono = s.mono := hl.same .mono
  rw [State.lockLoss_eq, State.chanSlip_chan, hchan, hchan, hmono, State.chan_setChan_same]
  split
  next => rfl
  next h => exact s.chan_setChan_other _ h

/-- Both loops restart (R157, R297). -/
theorem State.lockLoss_loops (lost : Bool) : (s.lockLoss ch lost).slotReg (s.chanCarr ch) R.LPE_SLOT_ACC = 0 ∧
    (s.lockLoss ch lost).slotReg (s.chanCode ch) R.LPE_SLOT_OUT = 0 := by
  rw [State.lockLoss_eq, State.chanSlip_slotReg _ _ _ (by decide) (by decide), State.chanSlip_slotReg _ _ _ (by decide) (by decide)]
  exact ⟨State.slotReg_slotRestart_zero (.inl rfl) (.inr (State.slotReg_slotRestart_zero (.inl rfl) (.inl rfl))),
    State.slotReg_slotRestart_zero (.inr rfl) (.inl rfl)⟩

theorem State.lockLoss_count (lost : Bool) : (s.lockLoss ch lost).fld (grxCnt 3) = min (s.fld (grxCnt 3) + 1) (2 ^ 32 - 1) := by
  rw [State.lockLoss_eq, State.chanSlip_count, State.loopsRestarted_frame.fld, (s.setChan_but ch _).frame.fld]

theorem State.lockLoss_frame (lost : Bool) :
    State.Frame [R.LPE_SLOT_ACC, R.LPE_SLOT_OUT, R.LPE_SLOT_STAT, R.GRX_CNT + 12] [.grx, .lpe] s (s.lockLoss ch lost) := by
  rw [State.lockLoss_eq]
  exact (((State.Frame.refl _ _ s).add (s.setChan_but ch _).frame).add State.loopsRestarted_frame).add (State.chanSlip_frame _ ch)

theorem exec_acquisitionComplete (hw : s.works Blk.GRX) (hst : (s.chan ch).state = 2) :
    exec (.acquisitionComplete ch) s = .next (s.setChan ch { s.chan ch with state := 3, lockAt := s.mono }) :=
  (whileOn_eq _ hw.1 hw.2).trans (congrArg Host.Outcome.next (if_pos hst))

theorem exec_phaseLockLoss (hw : s.works Blk.GRX) (hst : 3 ≤ (s.chan ch).state) (lost : Bool) :
    exec (.phaseLockLoss ch lost) s = .next (s.lockLoss ch lost) :=
  (whileOn_eq _ hw.1 hw.2).trans (congrArg Host.Outcome.next (if_pos hst))

end LockLoss

end Sys2Proof.Machine
end

section
/-!
Navigation records (R156, R161 to R163, R166): the checks of a record, what is accepted of it, and the save of what was accepted.
-/

namespace Sys2Proof.Machine

/-! ## An accepted ephemeris meets a record -/

/-- The state with accepted ephemerides `m` and check DATA's outcome. -/
def State.withEph (s : State) (m : SMap (List GrxEph)) (bad : Bool) : State := { s with grx := { s.grx with eph := m, dataBad := bad } }

/-- `t` is `s` but for its accepted ephemerides and check DATA's outcome. -/
def State.EphOnly (s t : State) : Prop := ∃ m bad, t = s.withEph m bad

/-- The state after the check of a record's time. -/
def State.timeChecked (s : State) (r : NavRec) : State := if s.timeOff r then s.dataFail else s

/-- What a record whose content is used does before anything is accepted of it: its time and the ephemeris it repeats are checked. -/
def State.navMet (s : State) (r : NavRec) : State :=
  match r.eph with
  | some e => (s.timeChecked r).ephMeet (sigSys r.sig * 64 + r.svid) e
  | none => s.timeChecked r

section Met

variable {s t u : State}

theorem State.EphOnly.refl (s : State) : State.EphOnly s s := ⟨s.grx.eph, s.grx.dataBad, rfl⟩

theorem State.EphOnly.trans (h : State.EphOnly s t) (k : State.EphOnly t u) : State.EphOnly s u := by
  obtain ⟨m, bad, rfl⟩ := h
  obtain ⟨m', bad', rfl⟩ := k
  exact ⟨m', bad', rfl⟩

theorem State.EphOnly.dataFail : State.EphOnly s s.dataFail := ⟨s.grx.eph, true, rfl⟩

theorem State.EphOnly.setEph (k : Nat) (l : List GrxEph) : State.EphOnly s (s.setEph k l) := ⟨s.grx.eph.set [] k l, s.grx.dataBad, rfl⟩

theorem State.EphOnly.ephMeet (k : Nat) (e : NavEph) : State.EphOnly s (s.ephMeet k e) := by
  rw [State.ephMeet]
  split
  next => exact .refl s
  next c rest =>
  split
  · exact .refl s
  split
  · exact .setEph k _
  split
  · exact .setEph k _
  · exact .dataFail

theorem State.EphOnly.timeChecked (r : NavRec) : State.EphOnly s (s.timeChecked r) := by
  rw [State.timeChecked]
  split
  · exact .dataFail
  · exact .refl s

theorem State.navMet_none {r : NavRec} (h : r.eph = none) : s.navMet r = s.timeChecked r := by rw [State.navMet, h]

theorem State.navMet_some {r : NavRec} {e : NavEph} (h : r.eph = some e) :
    s.navMet r = (s.timeChecked r).ephMeet (sigSys r.sig * 64 + r.svid) e := by rw [State.navMet, h]

theorem State.EphOnly.navMet (r : NavRec) : State.EphOnly s (s.navMet r) := by
  cases h : r.eph with
  | none =>
    rw [State.navMet_none h]
    exact .timeChecked r
  | some e =>
    rw [State.navMet_some h]
    exact (State.EphOnly.timeChecked r).trans (.ephMeet _ e)

theorem State.timeChecked_grx (r : NavRec) : (s.timeChecked r).grx = { s.grx with dataBad := s.grx.dataBad || s.timeOff r } := by
  rw [State.timeChecked]
  split
  next h => rw [h, Bool.or_true]; rfl
  next h => rw [Bool.eq_false_iff.mpr h, Bool.or_false]

theorem State.timeChecked_eph (r : NavRec) : (s.timeChecked r).grx.eph = s.grx.eph := by rw [State.timeChecked_grx]

/-- Another content under the issue of an ephemeris not from the store fails check DATA (R166). -/
theorem State.navMet_dataBad {r : NavRec} {e : NavEph} {g : GrxEph} {l : List GrxEph} (he : r.eph = some e)
    (hg : s.grx.eph.get [] (sigSys r.sig * 64 + r.svid) = g :: l) (hi : g.issue = e.issue) (hc : g.content ≠ e.content)
    (hst : g.stored = false) : (s.navMet r).grx.dataBad = true := by
  rw [State.navMet_some he, State.ephMeet, State.timeChecked_eph, hg]
  simp only [hi, bne_self_eq_false, hc, hst, Bool.false_eq_true, if_false]
  rfl

variable (h : State.EphOnly s t)
include h

theorem State.EphOnly.frame : State.Frame [] [.grx] s t := by
  obtain ⟨m, bad, rfl⟩ := h
  exact s.grx_frame _

theorem State.EphOnly.once : t.grx.once = s.grx.once := by
  obtain ⟨m, bad, rfl⟩ := h
  rfl

theorem State.EphOnly.alm : t.grx.alm = s.grx.alm := by
  obtain ⟨m, bad, rfl⟩ := h
  rfl

end Met

/-! ## What is accepted of a record -/

/-- The first reception of an ephemeris that is kept of a satellite. -/
def State.setOnce (s : State) (k : Nat) (v : Option NavEph) : State := s.setGrx fun g => { g with once := g.once.set none k v }

/-- The almanac entries of a record are taken. -/
def State.almTaken (s : State) (l : List (Nat × Nat)) : State :=
  s.setGrx fun g => { g with alm := l.foldl (fun m a => m.set none a.1 (some a.2)) g.alm }

section Accept

variable (s : State) (k : Nat) (e : NavEph)

/-- The second reception decides (R162). -/
theorem State.ephTake_again {c : NavEph} (hc : s.grx.once.get none k = some c) (hi : c.issue = e.issue) (ht : c.content = e.content) :
    s.ephTake k e = if Config.orbitGapM e.content (s.grx.alm.get none k) ≤ 5000 then (s.setOnce k none).ephAccept k e
      else ((s.setOnce k none).bump (grxCnt 0)).raise Ev.GRX_EPH_REJECT 0 := by
  simp only [State.ephTake, hc, hi, ht, beq_self_eq_true, Bool.and_self, Bool.not_true, Bool.false_eq_true, if_false, if_true]
  rfl

/-- A reception that repeats none is kept as the first. -/
theorem State.ephTake_first (h : ∀ c, s.grx.once.get none k = some c → c.issue = e.issue → c.content ≠ e.content) :
    s.ephTake k e = s.setOnce k (some e) := by
  cases hc : s.grx.once.get none k with
  | none =>
    simp only [State.ephTake, hc]
    rfl
  | some c =>
    have hagain : (c.issue == e.issue && c.content == e.content) = false := by simpa using h c hc
    simp only [State.ephTake, hc, hagain]
    rfl

/-- A reception is kept as the first, accepted, or rejected. -/
theorem State.ephTake_cases : (∃ v, s.ephTake k e = s.setOnce k v) ∨ (∃ v, s.ephTake k e = (s.setOnce k v).ephAccept k e) ∨
    ∃ v, s.ephTake k e = ((s.setOnce k v).bump (grxCnt 0)).raise Ev.GRX_EPH_REJECT 0 := by
  by_cases h : ∃ c, s.grx.once.get none k = some c ∧ c.issue = e.issue ∧ c.content = e.content
  · obtain ⟨c, hc, hi, ht⟩ := h
    rw [s.ephTake_again k e hc hi ht]
    split
    · exact .inr (.inl ⟨none, rfl⟩)
    · exact .inr (.inr ⟨none, rfl⟩)
  · exact .inl ⟨some e, s.ephTake_first k e fun c hc hi ht => h ⟨c, hc, hi, ht⟩⟩

theorem State.progress_setOnce (v : Option NavEph) : State.Progress [] [.grx] s (s.setOnce k v) := s.progress_setGrx _

theorem State.progress_ephAccept : State.Progress [] [.grx] s (s.ephAccept k e) := by
  unfold State.ephAccept State.setEph
  exact s.progress_setGrx _

theorem State.progress_almTaken (l : List (Nat × Nat)) : State.Progress [] [.grx] s (s.almTaken l) := s.progress_setGrx _

theorem State.progress_ephTake : State.Progress [R.GRX_CNT] [.grx] s (s.ephTake k e) := by
  obtain ⟨v, h⟩ | ⟨v, h⟩ | ⟨v, h⟩ := s.ephTake_cases k e
  · rw [h]
    exact (State.Progress.refl _ _ s).add (s.progress_setOnce k v)
  · rw [h]
    exact ((State.Progress.refl _ _ s).add (s.progress_setOnce k v)).add (State.progress_ephAccept _ k e)
  · rw [h]
    exact (((State.Progress.refl _ _ s).add (s.progress_setOnce k v)).add (State.progress_bump _ (grxCnt 0) 1)).add (State.progress_raise _ _ 0)

/-- The outcome of check DATA stands. -/
theorem State.ephTake_dataBad : (s.ephTake k e).grx.dataBad = s.grx.dataBad := by
  obtain ⟨v, h⟩ | ⟨v, h⟩ | ⟨v, h⟩ := s.ephTake_cases k e
  · rw [h]
    rfl
  · rw [h]
    rfl
  · rw [h, State.raise_grx _ _ (by decide), State.bump_grx]
    rfl

/-- An accepted ephemeris comes first of its satellite's. -/
theorem State.ephAccept_head : ((s.ephAccept k e).grx.eph.get [] k).head? =
    some ⟨e.issue, e.content, e.fitFrom, e.fitTo, e.healthy, false, s.tai⟩ := by
  rw [State.ephAccept, State.setEph, State.setGrx_grx, SMap.get_set_same, List.head?_cons]

theorem State.navAccept_eph {r : NavRec} (he : r.eph = some e) (hu : r.utc = none) :
    s.navAccept r = (s.ephTake (sigSys r.sig * 64 + r.svid) e).almTaken r.alm := by
  rw [State.navAccept, he, hu]
  rfl

theorem State.navAccept_utc {r : NavRec} {o : Nat} (he : r.eph = none) (hu : r.utc = some (o, none)) (hon : s.blkOn Blk.TIM = true) :
    s.navAccept r = (s.almTaken r.alm).utcTake o none := by
  rw [State.navAccept, he, hu]
  exact if_pos hon

end Accept

/-! ## The UTC offset -/

section Utc

variable (s : State) (o : Nat)

/-- An offset is taken and valid. -/
def State.utcSet : State := (s.setFld F.TIM_UTC_OFFSET_S o).setFld F.TIM_UTC_VALID 1

theorem State.utcTake_eq : s.utcTake o none = (s.utcSet o).utcKeep := rfl

theorem State.utcKeep_frame : State.Frame [] [.nand] s s.utcKeep := s.nand_frame _

theorem State.utcKeep_reg (a : Nat) : s.utcKeep.reg a = s.reg a := rfl

theorem State.utcKeep_utc : s.utcKeep.nand.utc = s.reg R.TIM_UTC := rfl

theorem State.utcSet_frame : State.Frame [R.TIM_UTC] [] s (s.utcSet o) :=
  ((State.Frame.refl _ _ s).add (s.setFld_frame_at _ _ o)).add (State.setFld_frame_at _ _ _ 1)

theorem State.utcSet_offset (ho : o < 256) : (s.utcSet o).fld F.TIM_UTC_OFFSET_S = o := by
  have hapart : (s.utcSet o).fld F.TIM_UTC_OFFSET_S = (s.setFld F.TIM_UTC_OFFSET_S o).fld F.TIM_UTC_OFFSET_S :=
    State.fld_setFld_apart _ 1 (by decide) rfl (by decide) (by decide) (by decide) (by decide)
  rw [hapart, State.fld_setFld_same _ _ (by decide) (by decide) (by decide)]
  exact Nat.mod_eq_of_lt ho

theorem State.utcSet_valid : (s.utcSet o).flag F.TIM_UTC_VALID = true := State.flag_setFld_one _

end Utc

/-! ## The command -/

section Command

variable {s : State} {r : NavRec}

theorem exec_navRecord_off (h : s.navPossible r = false) : exec (.navRecord r) s = .next s := by
  change Host.Outcome.next (s.on Blk.GRX _) = _
  simp [State.on, State.live, h]

theorem exec_ephemerisSave (hw : s.works Blk.GRX) : exec .ephemerisSave s = .next { s with nand := { s.nand with
    nav := s.grx.eph.filterMap fun e => e.2.head?.map fun v => (e.1, some ⟨v.issue, v.content, v.fitFrom, v.fitTo, v.healthy⟩)
    alm := s.grx.alm } } := by
  refine (whileOn_eq _ hw.1 hw.2).trans (congrArg Host.Outcome.next ?_)
  rw [State.ephSave, hw.2]
  rfl

variable (hw : s.works Blk.GRX) (hout : s.flag F.GRX_OUT_NAV_EN = false)
include hw hout

theorem exec_navRecord_failed (hn : s.navPossible r = true) (hp : r.passed = false) : exec (.navRecord r) s = .next (s.bump (grxCnt 1)) := by
  refine (whileOn_eq _ hw.1 hw.2).trans ?_
  simp [hn, hout, hp]

/-- A record with too many corrections is not used. -/
theorem exec_navRecord_corrected (hp : r.passed = true) (hf : r.fec = 2) : exec (.navRecord r) s = .next s := by
  refine (whileOn_eq _ hw.1 hw.2).trans ?_
  simp [hout, hp, hf]

/-- A record whose content is used: nothing is accepted during the alarm. -/
theorem exec_navRecord (hn : s.navPossible r = true) (hp : r.passed = true) (hf : r.fec < 2) : exec (.navRecord r) s =
    .next (if s.flag F.GRX_STATUS_SPOOF_ALARM then s.navMet r else (s.navMet r).navAccept r) := by
  have halarm : (s.navMet r).flag F.GRX_STATUS_SPOOF_ALARM = s.flag F.GRX_STATUS_SPOOF_ALARM := (State.EphOnly.navMet r).frame.flag (by decide)
  have hf' : r.fec ≠ 2 := by omega
  rw [← halarm]
  refine (whileOn_eq _ hw.1 hw.2).trans ?_
  simp only [hn, hout, hp, hf', Bool.not_true, Bool.not_false, Bool.false_eq_true, if_false, if_true]
  rfl

end Command

end Sys2Proof.Machine
end

section
/-!
Notches and jamming levels (R164, R165, R176).
-/

namespace Sys2Proof.Machine

/-! ## A notch is placed -/

/-- The notches with one of them set. -/
def State.notchSet (s : State) (k : Nat) (v : Option GrxNotch) : State := s.setGrx fun g => { g with notches := g.notches.set none k v }

section Notch

variable (s : State)

theorem State.progress_chanSlip (c : Nat) : State.Progress [R.GRX_CNT + 12] [.grx] s (s.chanSlip c) :=
  .of_frame (s.chanSlip_frame c) (State.outKept_of_eq (State.bump_out _ _ _))

theorem State.chanSlip_notches (c : Nat) : (s.chanSlip c).grx.notches = s.grx.notches := by rw [State.chanSlip, State.bump_grx]; rfl

/-- SLIP is set on the channels that the notch or the one before it touches, and event 101 raised. -/
theorem State.setNotch_eq (ant path n : Nat) (v : Option GrxNotch) : ∃ touched : List Nat,
    s.setNotch ant path n v = (touched.foldl State.chanSlip (s.notchSet (notchKey ant path n) v)).raise Ev.GRX_NOTCH_CHANGE 0 := ⟨_, rfl⟩

variable (ant path n : Nat) (v : Option GrxNotch)

theorem State.setNotch_notch : (s.setNotch ant path n v).grx.notches.get none (notchKey ant path n) = v := by
  obtain ⟨touched, h⟩ := s.setNotch_eq ant path n v
  have hslip : (touched.foldl State.chanSlip (s.notchSet (notchKey ant path n) v)).grx.notches = (s.notchSet (notchKey ant path n) v).grx.notches :=
    List.foldlRecOn (motive := fun (t : State) => t.grx.notches = (s.notchSet (notchKey ant path n) v).grx.notches) touched _ rfl
      fun (t : State) ht c _ => (t.chanSlip_notches c).trans ht
  rw [h, State.raise_grx _ _ (by decide), hslip]
  exact SMap.get_set_same s.grx.notches none v _

theorem State.setNotch_pend : (s.setNotch ant path n v).pend Ev.GRX_NOTCH_CHANGE = true := by
  obtain ⟨touched, h⟩ := s.setNotch_eq ant path n v
  rw [h]
  exact State.pend_raise _ _ _

theorem State.progress_setNotch : State.Progress [R.GRX_CNT + 12] [.grx] s (s.setNotch ant path n v) := by
  obtain ⟨touched, h⟩ := s.setNotch_eq ant path n v
  rw [h]
  exact (((State.Progress.refl _ _ s).add (s.progress_setGrx _)).add
    (State.Progress.foldl (fun t c => t.progress_chanSlip c) (by decide) touched _)).add (State.progress_raise _ _ 0)

end Notch

/-! ## A spectrum estimate (R164) -/

/-- The peaks of a path's last estimate are kept with their counts. -/
def State.peaksSeen (s : State) (k : Nat) (runs : List (Int × Nat)) : State := s.setGrx fun g => { g with peaks := g.peaks.set [] k runs }

section Spectrum

variable {s : State} {ant path : Nat} {p : SpecPeak}

/-- Without notches on the path no notch ages. -/
theorem State.notchAge_none (hn : ∀ n ∈ List.range 4, s.grx.notches.get none (notchKey ant path n) = none) (peaks : List SpecPeak) :
    (List.range 4).foldl (fun s n => s.notchAge ant path peaks n) s = s :=
  List.foldlRecOn (motive := (· = s)) (List.range 4) _ rfl fun t ht n hmem => by
    subst ht
    rw [State.notchAge, hn n hmem]

/-- Without notches on the path a peak gets the first. -/
theorem State.notchPlace_none (hn : ∀ n ∈ List.range 4, s.grx.notches.get none (notchKey ant path n) = none) (wanted : List SpecPeak) :
    s.notchPlace ant path wanted p = s.setNotch ant path 0 (some p.notch) := by
  have hcovers : (List.range 4).any (fun n => (s.grx.notches.get none (notchKey ant path n)).any fun v => v.covers p) = false :=
    List.any_eq_false.mpr fun n hmem => by simp [hn n hmem]
  have hfree : (List.range 4).find? (fun n => (s.grx.notches.get none (notchKey ant path n)).isNone) = some 0 := by
    rw [show List.range 4 = 0 :: [1, 2, 3] from rfl, List.find?_cons_of_pos (by rw [hn 0 (by decide)]; rfl)]
  simp only [State.notchPlace, hcovers, hfree, Bool.false_eq_true, if_false]

/-- A peak seen for the fifth time, alone on a path without notches, gets the first of them (R164). -/
theorem exec_spectrumEstimate_fifth (hw : s.works Blk.GRX) (hx : s.expert Blk.GRX = false) (hdb : s.fld F.GRX_JAM_NOTCH_THR ≤ p.db)
    (hkHz : p.kHz ≤ 2000) (hband : inBand path p.offset = true) (hseen : s.grx.peaks.get [] (pathKey ant path) = [(p.offset, 4)])
    (hn : ∀ n ∈ List.range 4, s.grx.notches.get none (notchKey ant path n) = none) : exec (.spectrumEstimate ant path [p]) s =
      .next ((s.peaksSeen (pathKey ant path) [(p.offset, 5)]).setNotch ant path 0 (some p.notch)) := by
  have hn' : ∀ n ∈ List.range 4, (s.peaksSeen (pathKey ant path) [(p.offset, 5)]).grx.notches.get none (notchKey ant path n) = none := hn
  rw [← State.notchPlace_none hn' [p]]
  refine (whileOn_eq _ hw.1 hw.2).trans (congrArg Host.Outcome.next ?_)
  have hstrong : ([p].filter fun p => decide (s.fld F.GRX_JAM_NOTCH_THR ≤ p.db) && decide (p.kHz ≤ 2000) && inBand path p.offset) = [p] := by
    simp [hdb, hkHz, hband]
  simp only [hx, hseen, hstrong, Bool.false_eq_true, if_false, List.map_cons, List.map_nil, List.find?_cons, beq_self_eq_true, Option.map_some,
    Option.getD_some]
  rw [← State.peaksSeen, State.notchAge_none hn']
  simp [sortBy, insertBy]

theorem exec_spectrumEstimate_expert (hw : s.works Blk.GRX) (hx : s.expert Blk.GRX = true) (peaks : List SpecPeak) :
    exec (.spectrumEstimate ant path peaks) s = .next s := (whileOn_eq _ hw.1 hw.2).trans (congrArg Host.Outcome.next (if_pos hx))

end Spectrum

/-! ## The host's notches (R176) -/

/-- A register of RW fields takes a word that leaves each in its range. -/
theorem State.regStore_allRw {s t : State} {d : RegDesc} {b : Nat} {w : Word} (hrw : ∀ fd ∈ d.fields, fd.access = .rw)
    (ht : d.fields.foldl (fun s fd => s.setFldB b fd.fld (fd.fld.get w)) s = t) (hr : ∀ fd ∈ d.fields, t.inRange b fd = true) :
    s.regStore d 0 b w = (t, true) := by
  have hfields : d.fieldsAt 0 = d.fields := List.map_id'' (fun fd => rfl) d.fields
  have hstored : d.fields.foldl (fun u fd => u.fieldWrite b (s.rwlLocked d b) w fd) s = t := by
    rw [← ht]
    exact List.foldl_ext _ _ s fun u fd hfd => by rw [State.fieldWrite, hrw fd hfd]
  have hnone : (d.fields.any fun fd => (fd.access == .rw || (fd.access == .rwl && !s.rwlLocked d b)) && !t.inRange b fd) = false :=
    List.any_eq_false.mpr fun fd hfd => by simp [hr fd hfd]
  simp only [State.regStore, hfields, hstored, hnone, Bool.and_false, Bool.false_eq_true, if_false]

/-- `GRX_NOTCH_SET` as a host access sees it. -/
def grxNotchSetDesc : RegDesc :=
  ⟨R.GRX_NOTCH_SET, 1, some ⟨R.GRX_NOTCH_IDX, 4, 0⟩, [⟨F.GRX_NOTCH_SET_ACTIVE, .rw, .any⟩, ⟨F.GRX_NOTCH_SET_WIDTH, .rw, .any⟩,
    ⟨F.GRX_NOTCH_SET_OFFSET, .rw, .signed 13 (-3900) 3900⟩], 0xE0001FFF⟩

theorem descAt_grxNotchSet : Regs.descAt R.GRX_NOTCH_SET = some grxNotchSetDesc := by decide +kernel

/-- The fields of `GRX_NOTCH_SET` are stored for entry `b`. -/
def State.notchStored (s : State) (b : Nat) (w : Word) : State :=
  ((s.setFldB b F.GRX_NOTCH_SET_ACTIVE (F.GRX_NOTCH_SET_ACTIVE.get w)).setFldB b F.GRX_NOTCH_SET_WIDTH (F.GRX_NOTCH_SET_WIDTH.get w)).setFldB b
    F.GRX_NOTCH_SET_OFFSET (F.GRX_NOTCH_SET_OFFSET.get w)

/-- The notch the stored fields ask for; what its EXCESS reads is a free value. -/
def State.notchAsked (s : State) (b : Nat) : GrxNotch :=
  ⟨signedOf 13 (s.fldB b F.GRX_NOTCH_SET_OFFSET), s.fldB b F.GRX_NOTCH_SET_WIDTH, s.draw.1 % 256, none⟩

section HostNotch

variable (s : State) (b : Nat) (w : Word)

/-- A field set to what a word holds there reads so. -/
theorem State.fldB_setFldB_get (f : Fld) (hf : f.addr < 0x4000000) (hlo : f.lo ≤ f.hi) (hhi : f.hi < 32) :
    (s.setFldB b f (f.get w)).fldB b f = f.get w := by
  rw [State.fldB_setFldB_same _ _ _ _ hf hlo hhi, Nat.mod_eq_of_lt (Fld.get_lt f w)]

theorem State.notchStored_frame : State.Frame [R.GRX_NOTCH_SET] [] s (s.notchStored b w) :=
  (((State.Frame.refl _ _ s).add (s.setFldB_frame b _ (by decide))).add (State.setFldB_frame _ b _ (by decide))).add
    (State.setFldB_frame _ b _ (by decide))

theorem State.progress_notchStored : State.Progress [R.GRX_NOTCH_SET] [] s (s.notchStored b w) :=
  .of_frame (s.notchStored_frame b w) (State.outKept_of_eq (by rw [State.notchStored, State.setFldB_out, State.setFldB_out, State.setFldB_out]))

theorem State.notchStored_offset : (s.notchStored b w).fldB b F.GRX_NOTCH_SET_OFFSET = F.GRX_NOTCH_SET_OFFSET.get w := by
  rw [State.notchStored, State.fldB_setFldB_get _ _ _ _ (by decide) (by decide) (by decide)]

theorem State.notchStored_width : (s.notchStored b w).fldB b F.GRX_NOTCH_SET_WIDTH = F.GRX_NOTCH_SET_WIDTH.get w := by
  rw [State.notchStored, State.fldB_setFldB_apart (f := F.GRX_NOTCH_SET_OFFSET) (g := F.GRX_NOTCH_SET_WIDTH) _ _ (by decide) rfl (by decide)
    (by decide) (by decide) (by decide), State.fldB_setFldB_get _ _ _ _ (by decide) (by decide) (by decide)]

theorem State.notchStored_active : (s.notchStored b w).fldB b F.GRX_NOTCH_SET_ACTIVE = F.GRX_NOTCH_SET_ACTIVE.get w := by
  rw [State.notchStored, State.fldB_setFldB_apart (f := F.GRX_NOTCH_SET_OFFSET) (g := F.GRX_NOTCH_SET_ACTIVE) _ _ (by decide) rfl (by decide)
    (by decide) (by decide) (by decide), State.fldB_setFldB_apart (f := F.GRX_NOTCH_SET_WIDTH) (g := F.GRX_NOTCH_SET_ACTIVE) _ _ (by decide) rfl
    (by decide) (by decide) (by decide) (by decide), State.fldB_setFldB_get _ _ _ _ (by decide) (by decide) (by decide)]

theorem State.notchAsked_notchStored : (s.notchStored b w).notchAsked b =
    ⟨signedOf 13 (F.GRX_NOTCH_SET_OFFSET.get w), F.GRX_NOTCH_SET_WIDTH.get w, (s.notchStored b w).draw.1 % 256, none⟩ := by
  rw [State.notchAsked, State.notchStored_offset, State.notchStored_width]

variable {s w}

/-- An OFFSET in its range is stored with the rest. -/
theorem State.hostReg_notchSet (hoff : (signedOf 13 (F.GRX_NOTCH_SET_OFFSET.get w)).natAbs ≤ 3900) :
    s.hostReg R.GRX_NOTCH_SET w = (s.notchStored (s.fld ⟨R.GRX_NOTCH_IDX, 4, 0⟩) w, true) := by
  refine (State.hostReg_own (d := grxNotchSetDesc) descAt_grxNotchSet (by decide) w).trans ?_
  have hbank : s.bankOf grxNotchSetDesc = s.fld ⟨R.GRX_NOTCH_IDX, 4, 0⟩ := rfl
  rw [hbank]
  generalize s.fld ⟨R.GRX_NOTCH_IDX, 4, 0⟩ = b
  have hrange : (s.notchStored b w).inRange b ⟨F.GRX_NOTCH_SET_OFFSET, .rw, .signed 13 (-3900) 3900⟩ = true := by
    simp only [State.inRange, State.rangeHolds, State.notchStored_offset, Bool.and_eq_true, decide_eq_true_eq]
    omega
  refine State.regStore_allRw (by decide) rfl fun fd hfd => ?_
  rcases List.mem_cons.mp hfd with rfl | hfd
  · rfl
  rcases List.mem_cons.mp hfd with rfl | hfd
  · rfl
  · exact List.mem_singleton.mp hfd ▸ hrange

theorem exec_notchSetWrite_basic (hw : s.works Blk.GRX) (hx : s.expert Blk.GRX = false)
    (hoff : (signedOf 13 (F.GRX_NOTCH_SET_OFFSET.get w)).natAbs ≤ 3900) :
    exec (.notchSetWrite w) s = .next (s.notchStored (s.fld ⟨R.GRX_NOTCH_IDX, 4, 0⟩) w) := by
  have hx' (b : Nat) : (s.notchStored b w).expert Blk.GRX = false := (s.progress_notchStored b w).flag.trans hx
  refine (whileRunning_eq _ hw.1).trans (congrArg Host.Outcome.next ?_)
  rw [State.notchSetWrite, State.hostReg_notchSet hoff, thenIf, if_pos rfl, hx']
  simp

/-- At expert level ACTIVE places the notch that `GRX_NOTCH_IDX` names. -/
theorem exec_notchSetWrite_expert (hw : s.works Blk.GRX) (hx : s.expert Blk.GRX = true) (hact : F.GRX_NOTCH_SET_ACTIVE.get w = 1)
    (hoff : (signedOf 13 (F.GRX_NOTCH_SET_OFFSET.get w)).natAbs ≤ 3900) {u : State}
    (hu : s.notchStored (s.fld ⟨R.GRX_NOTCH_IDX, 4, 0⟩) w = u) : exec (.notchSetWrite w) s =
      .next (u.draw.2.setNotch (s.fld F.GRX_NOTCH_IDX_ANT) (s.fld F.GRX_NOTCH_IDX_PATH) (s.fld F.GRX_NOTCH_IDX_NOTCH)
        (some (u.notchAsked (s.fld ⟨R.GRX_NOTCH_IDX, 4, 0⟩)))) := by
  have hx' : u.expert Blk.GRX = true := by rw [← hu]; exact (s.progress_notchStored _ w).flag.trans hx
  have hon : u.blkOn Blk.GRX = true := by rw [← hu]; exact (s.progress_notchStored _ w).flag.trans hw.2
  have hactive : u.flagB (s.fld ⟨R.GRX_NOTCH_IDX, 4, 0⟩) F.GRX_NOTCH_SET_ACTIVE = true := by
    rw [← hu, State.flagB, State.notchStored_active, hact]
    rfl
  refine (whileRunning_eq _ hw.1).trans (congrArg Host.Outcome.next ?_)
  rw [State.notchSetWrite, State.hostReg_notchSet hoff, thenIf, if_pos rfl, hu, hx', hon]
  exact if_pos hactive

end HostNotch

/-! ## Jamming levels (R165) -/

/-- A path's gain reduction is kept, and the worst of all shown. -/
def State.jamShown (s : State) (k db : Nat) : State :=
  let s := s.setGrx fun g => { g with jamDb := g.jamDb.set 0 k db }
  s.setFld F.GRX_JAM_WORST_DB (min 255 ((s.grx.jamDb.map Prod.snd).foldl max 0))

/-- The level a path takes from `old`. -/
def jamNext (old db most : Nat) (atLimit : Bool) : Nat :=
  if old < jamLevel db atLimit then jamLevel db atLimit
  else if atLimit then old else min old (max (jamLevel db atLimit) (jamLevel (most + 1) false))

/-- A path's level is `new`, with event 102 where it was another. -/
def State.jamLevelSet (s : State) (ant path new : Nat) : State :=
  if new = s.fld (jamFld ant path) then s else (s.setFld (jamFld ant path) new).raise Ev.GRX_JAM_LEVEL 0

theorem jamLevel_lt (db : Nat) (atLimit : Bool) : jamLevel db atLimit < 4 := by
  unfold jamLevel
  split
  · decide
  split
  · decide
  split <;> decide

section Jamming

variable {s : State} {ant path : Nat}

theorem State.jamShown_frame (s : State) (k db : Nat) : State.Frame [R.GRX_JAM] [.grx] s (s.jamShown k db) :=
  ((State.Frame.refl _ _ s).add (s.setGrx_frame _)).add (State.setFld_frame_at _ _ _ _)

theorem State.jamShown_fld (s : State) (k db : Nat) {f : Fld} (ha : f.addr = R.GRX_JAM) (hf : f.lo ≤ f.hi) (h : f.hi < 16 ∨ 23 < f.lo) :
    (s.jamShown k db).fld f = s.fld f :=
  (State.fld_setFld_apart _ _ (by decide) ha (by decide) (by decide) h hf).trans (State.setGrx_fld _ _ _)

theorem exec_jamLevelChange (hw : s.works Blk.GRX) (db most : Nat) (atLimit : Bool) (hold : (s.jamShown (pathKey ant path) db).fld (jamFld ant path) =
    s.fld (jamFld ant path)) : exec (.jamLevelChange ant path db most atLimit) s =
      .next ((s.jamShown (pathKey ant path) db).jamLevelSet ant path (jamNext (s.fld (jamFld ant path)) db most atLimit)) := by
  refine (whileOn_eq _ hw.1 hw.2).trans (congrArg Host.Outcome.next ?_)
  rw [← hold]
  rfl

/-- The field of a path's level lies below the worst gain reduction. -/
theorem State.jamShown_level (ha : ant < 2) (hp : path < 3) (db : Nat) :
    (s.jamShown (pathKey ant path) db).fld (jamFld ant path) = s.fld (jamFld ant path) :=
  s.jamShown_fld _ db rfl (by simp only [jamFld]; omega) (.inl (by simp only [jamFld]; omega))

theorem State.jamLevelSet_fld (ha : ant < 2) (hp : path < 3) {new : Nat} (hnew : new < 4) :
    (s.jamLevelSet ant path new).fld (jamFld ant path) = new := by
  rw [State.jamLevelSet]
  split
  next h => exact h.symm
  next h =>
    rw [State.raise_fld _ _ (by decide) (show R.GRX_JAM < _ by decide) (show reportReg R.GRX_JAM = false by decide),
      State.fld_setFld_same _ _ (show R.GRX_JAM < _ by decide) (by simp only [jamFld]; omega) (by simp only [jamFld]; omega)]
    have hwidth : (jamFld ant path).hi - (jamFld ant path).lo + 1 = 2 := by simp only [jamFld]; omega
    rw [hwidth]
    exact Nat.mod_eq_of_lt hnew

theorem State.jamLevelSet_frame (s : State) (ant path new : Nat) : State.ReportFrame [R.GRX_JAM] [] s (s.jamLevelSet ant path new) := by
  rw [State.jamLevelSet]
  split
  · exact .refl _ _ s
  · exact State.ReportFrame.trans (by decide) (s.setFld_frame_at (a := R.GRX_JAM) _ _ new).report
      ((State.progress_raise _ Ev.GRX_JAM_LEVEL 0).frame.mono (by decide) (by decide))

theorem State.jamLevelSet_pend {new : Nat} (h : new ≠ s.fld (jamFld ant path)) : (s.jamLevelSet ant path new).pend Ev.GRX_JAM_LEVEL = true := by
  rw [State.jamLevelSet, if_neg h]
  exact State.pend_raise _ _ _

/-- The threshold for notches lies above the levels. -/
theorem State.jamLevelSet_threshold (ha : ant < 2) (hp : path < 3) (new : Nat) :
    (s.jamLevelSet ant path new).fld F.GRX_JAM_NOTCH_THR = s.fld F.GRX_JAM_NOTCH_THR := by
  rw [State.jamLevelSet]
  split
  · rfl
  · rw [State.raise_fld _ _ (by decide) (by decide) (by decide)]
    exact State.fld_setFld_apart _ _ (show R.GRX_JAM < _ by decide) rfl (by simp only [jamFld]; omega) (by simp only [jamFld]; omega)
      (.inr (by simp only [jamFld]; omega)) (by decide)

/-- What a path's new gain reduction leaves. -/
theorem State.jamChanged_frame (s : State) (ant path db new : Nat) :
    State.ReportFrame [R.GRX_JAM] [.grx] s ((s.jamShown (pathKey ant path) db).jamLevelSet ant path new) :=
  State.ReportFrame.trans (by decide) (s.jamShown_frame _ db).report ((State.jamLevelSet_frame _ _ _ _).mono (by decide) (by decide))

end Jamming

end Sys2Proof.Machine
end

section
/-!
Tracking as a whole (R154 to R165, R176). The last theorem settles O40.
-/

namespace Sys2Proof.Machine

section Steps

variable {s u : State} {r : NavRec} {e : NavEph} {k : Nat}

theorem State.EphOnly.progress (h : State.EphOnly s u) : State.Progress [] [.grx] s u := by
  refine .of_frame h.frame (State.outKept_of_eq ?_)
  obtain ⟨m, bad, rfl⟩ := h
  rfl

/-- What an acceptance leaves (R162). -/
theorem State.EphOnly.accepted (h : State.EphOnly s u) (l : List (Nat × Nat)) {t : State}
    (ht : ((u.setOnce k none).ephAccept k e).almTaken l = t) : t.grx.once.get none k = none ∧
    (t.grx.eph.get [] k).head? = some ⟨e.issue, e.content, e.fitFrom, e.fitTo, e.healthy, false, s.tai⟩ ∧ State.Frame [] [.grx] s t := by
  have htai : (u.setOnce k none).tai = s.tai := h.frame.same .tai
  subst ht
  refine ⟨SMap.get_set_same u.grx.once none none k, ?_, h.frame.trans ?_⟩
  · rw [State.almTaken, State.setGrx_grx, State.ephAccept_head, htai]
  · unfold State.ephAccept State.setEph
    exact ((u.setGrx_frame _).trans (State.setGrx_frame _ _)).trans (State.setGrx_frame _ _)

/-- What a rejection leaves (R162). -/
theorem State.EphOnly.rejected (h : State.EphOnly s u) (l : List (Nat × Nat)) {t : State}
    (ht : (((u.setOnce k none).bump (grxCnt 0)).raise Ev.GRX_EPH_REJECT 0).almTaken l = t) : t.grx.once.get none k = none ∧
    t.fld (grxCnt 0) = min (s.fld (grxCnt 0) + 1) (2 ^ 32 - 1) ∧ t.pend Ev.GRX_EPH_REJECT = true ∧ State.ReportFrame [R.GRX_CNT] [.grx] s t := by
  have halm := State.progress_almTaken (((u.setOnce k none).bump (grxCnt 0)).raise Ev.GRX_EPH_REJECT 0) l
  have hraise := ((u.setOnce k none).bump (grxCnt 0)).progress_raise Ev.GRX_EPH_REJECT 0
  have hprog := ((((State.Progress.refl [R.GRX_CNT] [.grx] s).add h.progress).add (u.progress_setOnce k none)).add
    (State.progress_bump _ (grxCnt 0) 1)).add hraise |>.add halm
  subst ht
  refine ⟨?_, ?_, halm.pend _ (by decide) (State.pend_raise _ _ _), hprog.frame⟩
  · rw [State.almTaken, State.setGrx_grx, State.raise_grx _ _ (by decide), State.bump_grx]
    exact SMap.get_set_same u.grx.once none none k
  · have hcount : (u.setOnce k none).fld (grxCnt 0) = s.fld (grxCnt 0) := (h.progress.add (u.progress_setOnce k none)).fld
    rw [halm.fld, hraise.fld, ← hcount]
    exact State.fld_bump_word _ 1 (by decide)

/-- The second reception of an ephemeris is accepted or rejected (R162). -/
theorem State.navAccepted_eph (he : r.eph = some e) (hu : r.utc = none) {c : NavEph}
    (hc : s.grx.once.get none (sigSys r.sig * 64 + r.svid) = some c) (hi : c.issue = e.issue) (ht : c.content = e.content) {t : State}
    (hacc : (s.navMet r).navAccept r = t) : t.grx.once.get none (sigSys r.sig * 64 + r.svid) = none ∧
    (Config.orbitGapM e.content (s.grx.alm.get none (sigSys r.sig * 64 + r.svid)) ≤ 5000 →
      (t.grx.eph.get [] (sigSys r.sig * 64 + r.svid)).head? = some ⟨e.issue, e.content, e.fitFrom, e.fitTo, e.healthy, false, s.tai⟩ ∧
      State.Frame [] [.grx] s t) ∧
    (5000 < Config.orbitGapM e.content (s.grx.alm.get none (sigSys r.sig * 64 + r.svid)) →
      t.fld (grxCnt 0) = min (s.fld (grxCnt 0) + 1) (2 ^ 32 - 1) ∧ t.pend Ev.GRX_EPH_REJECT = true ∧
      State.ReportFrame [R.GRX_CNT] [.grx] s t) := by
  have hmet := State.EphOnly.navMet (s := s) r
  rw [State.navAccept_eph _ e he hu] at hacc
  generalize s.navMet r = u at hmet hacc
  generalize sigSys r.sig * 64 + r.svid = k at *
  rw [State.ephTake_again u k e (hmet.once ▸ hc) hi ht, hmet.alm] at hacc
  split at hacc
  next hnear =>
    obtain ⟨honce, heph, hframe⟩ := hmet.accepted r.alm hacc
    exact ⟨honce, fun _ => ⟨heph, hframe⟩, fun hfar => absurd hnear (Nat.not_le.mpr hfar)⟩
  next hfar =>
    obtain ⟨honce, hrest⟩ := hmet.rejected r.alm hacc
    exact ⟨honce, fun hnear => absurd hnear hfar, fun _ => hrest⟩

/-- What is accepted of a record with an ephemeris and no offset leaves the outcome of check DATA. -/
theorem State.navAccept_dataBad (he : r.eph = some e) (hu : r.utc = none) : (s.navAccept r).grx.dataBad = s.grx.dataBad ∧
    State.Progress [R.GRX_CNT] [.grx] s (s.navAccept r) := by
  rw [State.navAccept_eph s e he hu]
  exact ⟨s.ephTake_dataBad _ e, (s.progress_ephTake _ e).add (State.progress_almTaken _ _)⟩

/-- An offset is taken and kept in NAND (R163). -/
theorem State.utcTake_none {o : Nat} (ho : o < 256) {t : State} (ht : s.utcTake o none = t) : t.fld F.TIM_UTC_OFFSET_S = o ∧
    t.flag F.TIM_UTC_VALID = true ∧ t.nand.utc = t.reg R.TIM_UTC ∧ State.Frame [R.TIM_UTC] [.nand] s t := by
  have hkeep := (s.utcSet o).utcKeep_frame
  rw [State.utcTake_eq] at ht
  subst ht
  refine ⟨hkeep.fld.trans (s.utcSet_offset o ho), (hkeep.flag (by decide)).trans (s.utcSet_valid o), ?_,
    ((State.Frame.refl _ _ s).add (s.utcSet_frame o)).add hkeep⟩
  rw [State.utcKeep_utc, State.utcKeep_reg]

end Steps

/-- Settles O40: assignments by the channels each step may change, records by what is met and accepted of them, notches and levels by their
own writes. -/
theorem tracking : Obligations.Tracking := by
  unfold Obligations.Tracking
  refine ⟨fun s views c sig cs v rest hw hx hheld h1 h16 hfree hview => ?assigned,
    fun s views c hw hx hc hsig h16 hfixed hsv hst hlate => ?late, fun s ch hw hst => ?acquired, fun s ch lost hw hst => ?lost,
    fun s r hn => exec_navRecord_off hn, fun s r hw hn hout hp => ?failed, fun s r hw hout hp hf => exec_navRecord_corrected hw hout hp hf,
    fun s r hw hn hout hp hf halarm he => ?alarm, fun s r e c k hw hn hout hp hf halarm he hu hk hc hi ht => ?again,
    fun s r e g l k hw hn hout hp hf he hu hk hg hi hc hst => ?dataBad, fun s r o hw htim hn hout hp hf halarm he hu ho => ?utc,
    fun s hw => ?save, fun s ant path p hw hx hdb hkHz hband hseen hn => ?fifth,
    fun s ant path peaks hw hx => exec_spectrumEstimate_expert hw hx peaks, fun s w k hw hx hk hact hoff => ?hostNotch,
    fun s w hw hx hoff => ⟨_, exec_notchSetWrite_basic hw hx hoff, s.notchStored_frame _ w⟩,
    fun s ant path db most atLimit hw ha hp hup => ?risen, fun s ant path db most hw ha hp hdown => ?fallen⟩
  case assigned =>
    have hheld' : s.heldChans = [] := hheld
    have ht := exec_channelAssign (views := views) hw hx
    rw [hheld'] at ht
    refine ⟨_, ht, State.assignAll_head h1 h16 hfree hview, ?_⟩
    rw [State.assignAll_eq]
    exact ((State.assignSigs_but _ _ _ _).frame).trans (State.assignSigs_but _ _ _ _).frame
  case late =>
    have hmem : c ∈ s.heldChans.filter fun c => !s.chanFixed c := by
      have hchans : c ∈ s.chans := List.mem_filter.mpr ⟨List.mem_range.mpr hc, by simpa using hsig⟩
      exact List.mem_filter.mpr ⟨List.mem_filter.mpr ⟨hchans, by simpa using hsv⟩, by simp [hfixed]⟩
    obtain ⟨hel, hchan⟩ := State.elevated_chan (s := s) (views := views) s.heldChans
    obtain ⟨elev, he⟩ := hchan c
    have hpassed : (s.elevated views s.heldChans).passed (s.chan c).since (60 * nsPerSec) = true := by
      rw [State.passed, hel.monoTime]
      exact hlate
    have hbarred := (hel.grxOnly.released_late hmem hsv (by rw [he]) (by rw [he]; exact hst) (by rw [he]; exact hpassed)).assignAll views
    exact ⟨_, exec_channelAssign hw hx, hbarred.free, hbarred.only.frame⟩
  case acquired =>
    exact ⟨_, exec_acquisitionComplete hw hst, s.chan_setChan_same ch _, fun k hk => s.chan_setChan_other _ hk, (s.setChan_but ch _).frame⟩
  case lost =>
    obtain ⟨hcarr, hcode⟩ := State.lockLoss_loops (s := s) (ch := ch) lost
    refine ⟨_, exec_phaseLockLoss hw hst lost, ?_, fun k hk => ?_, hcarr, hcode, State.lockLoss_count lost, State.lockLoss_frame lost⟩
    · rw [State.lockLoss_chan, if_pos rfl]
      cases lost with
      | true => rfl
      | false => rw [GrxChan.unlocked, Nat.min_eq_right hst]; rfl
    · rw [State.lockLoss_chan, if_neg hk]
  case failed => exact ⟨_, exec_navRecord_failed hw hout hn hp, State.fld_bump_word s 1 (by decide), s.bump_frame (grxCnt 1) 1 (by decide)⟩
  case alarm =>
    have ht := exec_navRecord hw hout hn hp hf
    rw [halarm, if_pos rfl, State.navMet_none he] at ht
    exact ⟨_, ht, State.timeChecked_grx r, (State.EphOnly.timeChecked r).frame⟩
  case again =>
    subst hk
    have ht' := exec_navRecord hw hout hn hp hf
    rw [halarm, if_neg (by decide)] at ht'
    exact ⟨_, ht', State.navAccepted_eph he hu hc hi ht rfl⟩
  case dataBad =>
    subst hk
    have hbad := State.navMet_dataBad he hg hi hc hst
    have hmet := (State.EphOnly.navMet (s := s) r).progress
    have ht := exec_navRecord hw hout hn hp hf
    cases halarm : s.flag F.GRX_STATUS_SPOOF_ALARM with
    | true =>
      rw [halarm, if_pos rfl] at ht
      exact ⟨_, ht, hbad, ((State.Progress.refl _ _ s).add hmet).frame⟩
    | false =>
      rw [halarm, if_neg (by decide)] at ht
      obtain ⟨hkept, hprog⟩ := State.navAccept_dataBad (s := s.navMet r) he hu
      exact ⟨_, ht, hkept.trans hbad, (((State.Progress.refl _ _ s).add hmet).add hprog).frame⟩
  case utc =>
    have hmet := State.EphOnly.navMet (s := s) r
    have ht := exec_navRecord hw hout hn hp hf
    rw [halarm, if_neg (by decide), State.navAccept_utc _ he hu ((hmet.frame.flag (by decide)).trans htim)] at ht
    obtain ⟨hoff, hvalid, hnand, hframe⟩ := State.utcTake_none ho rfl
    exact ⟨_, ht, hoff, hvalid, hnand, (((State.Frame.refl _ _ s).add hmet.frame).add (State.setGrx_frame _ _)).add hframe⟩
  case save => exact ⟨_, exec_ephemerisSave hw, rfl, rfl, s.nand_frame _⟩
  case fifth =>
    have hprog := (s.progress_setGrx fun g => { g with peaks := g.peaks.set [] (pathKey ant path) [(p.offset, 5)] })
    exact ⟨_, exec_spectrumEstimate_fifth hw hx hdb hkHz hband hseen hn, State.setNotch_notch _ _ _ _ _, State.setNotch_pend _ _ _ _ _,
      (((State.Progress.refl _ _ s).add hprog).add (State.progress_setNotch _ ant path 0 _)).frame⟩
  case hostNotch =>
    subst hk
    have ht := exec_notchSetWrite_expert hw hx hact hoff rfl
    have hstored := s.progress_notchStored (s.fld ⟨R.GRX_NOTCH_IDX, 4, 0⟩) w
    exact ⟨_, _, ht, (State.setNotch_notch _ _ _ _ _).trans (congrArg some (s.notchAsked_notchStored _ w)), State.setNotch_pend _ _ _ _ _,
      ((((State.Progress.refl _ _ s).add hstored).add (State.progress_draw _)).add (State.progress_setNotch _ _ _ _ _)).frame⟩
  case risen =>
    have hold := s.jamShown_level ha hp db
    have hnew : jamNext (s.fld (jamFld ant path)) db most atLimit = jamLevel db atLimit := if_pos hup
    have ht := exec_jamLevelChange hw db most atLimit hold
    rw [hnew] at ht
    refine ⟨_, ht, State.jamLevelSet_fld ha hp (jamLevel_lt db atLimit), State.jamLevelSet_pend (by omega), ?_, s.jamChanged_frame ant path db _⟩
    exact (State.jamLevelSet_threshold ha hp _).trans (s.jamShown_fld _ db rfl (by decide) (by decide))
  case fallen =>
    have hold := s.jamShown_level ha hp db
    have hnew : jamNext (s.fld (jamFld ant path)) db most false =
        min (s.fld (jamFld ant path)) (max (jamLevel db false) (jamLevel (most + 1) false)) := if_neg (by omega)
    have hlt := jamLevel_lt db false
    have hlt' := jamLevel_lt (most + 1) false
    have ht := exec_jamLevelChange hw db most false hold
    rw [hnew] at ht
    exact ⟨_, ht, State.jamLevelSet_fld ha hp (by omega), s.jamChanged_frame ant path db _⟩

end Sys2Proof.Machine
end

section
/-!
How TIM goes on (R180–R203): the writes of its own part, the flags of `TIM_STATUS` a step leaves, the quality level, the changes of device
time and what makes it valid. The families below chain these.
-/

-- One body at a time: bodies that wait for the kernel side by side each hold a thread and its stack.
set_option Elab.async false

namespace Sys2Proof.Machine

/-! ## TIM's part of the state -/

section Part

variable (s : State)

theorem State.tim_frame (v : TimSt) : State.Frame [] [.tim] s { s with tim := v } :=
  ⟨fun _ _ _ _ => rfl, fun _ => rfl, fun p hp => by cases p <;> simp_all [Part.same]⟩

theorem State.tai_frame (v : Nat) : State.Frame [] [.tai] s { s with tai := v } :=
  ⟨fun _ _ _ _ => rfl, fun _ => rfl, fun p hp => by cases p <;> simp_all [Part.same]⟩

theorem State.bkp_frame (v : Backup) : State.Frame [] [.bkp] s { s with bkp := v } :=
  ⟨fun _ _ _ _ => rfl, fun _ => rfl, fun p hp => by cases p <;> simp_all [Part.same]⟩

theorem State.setTim_frame (f : TimSt → TimSt) : State.Frame [] [.tim] s (s.setTim f) := s.tim_frame _

theorem State.progress_setTim (f : TimSt → TimSt) : State.Progress [] [.tim] s (s.setTim f) :=
  .of_frame (s.setTim_frame f) (State.outKept_of_eq rfl)

theorem State.setTim_flag (f : TimSt → TimSt) (g : Fld) : (s.setTim f).flag g = s.flag g := rfl

/-- A field set to a value it can hold reads it. -/
theorem State.fld_setFld_fits {f : Fld} {v : Nat} (hv : v < 2 ^ (f.hi - f.lo + 1)) (hf : f.addr < 0x4000000 := by decide)
    (hlo : f.lo ≤ f.hi := by decide) (hhi : f.hi < 32 := by decide) : (s.setFld f v).fld f = v :=
  (s.fld_setFld_same v hf hlo hhi).trans (Nat.mod_eq_of_lt hv)

theorem State.fldB_setFldB_fits (b : Nat) {f : Fld} {v : Nat} (hv : v < 2 ^ (f.hi - f.lo + 1)) (hf : f.addr < 0x4000000 := by decide)
    (hlo : f.lo ≤ f.hi := by decide) (hhi : f.hi < 32 := by decide) : (s.setFldB b f v).fldB b f = v :=
  (s.fldB_setFldB_same b f v hf hlo hhi).trans (Nat.mod_eq_of_lt hv)

end Part

theorem encodeSigned_lt (n : Nat) (x : Int) : encodeSigned n x < 2 ^ n := by
  have hpos : (0 : Int) < (2 ^ n : Nat) := by positivity
  have hlt := Int.emod_lt_of_pos x hpos
  have hnonneg := Int.emod_nonneg x hpos.ne'
  rw [encodeSigned]
  omega

/-! ## Steps of TIM -/

/-- `t` is `s` gone on, with every flag of `TIM_STATUS` as it was but those at `bits`. -/
structure State.TimStep (bits regs : List Nat) (parts : List Part) (s t : State) : Prop where
  progress : State.Progress regs parts s t
  status : ∀ i < 32, i ∉ bits → t.flag ⟨R.TIM_STATUS, i, i⟩ = s.flag ⟨R.TIM_STATUS, i, i⟩

namespace State.TimStep

variable {bits bits' regs regs' : List Nat} {parts parts' : List Part} {s t u : State}

theorem refl (bits regs : List Nat) (parts : List Part) (s : State)
    (hq : ∀ a ∈ regs, a ∉ ringCfgRegs ∧ reportReg a = false := by decide) : State.TimStep bits regs parts s s :=
  ⟨.refl regs parts s hq, fun _ _ _ => rfl⟩

theorem add (h : State.TimStep bits regs parts s t) (k : State.TimStep bits' regs' parts' t u) (hb : ∀ i ∈ bits', i ∈ bits := by decide)
    (hr : ∀ a ∈ regs', a ∈ regs := by decide) (hp : ∀ p ∈ parts', p ∈ parts := by decide) : State.TimStep bits regs parts s u :=
  ⟨h.progress.add k.progress hr hp, fun i hi hn => (k.status i hi fun hm => hn (hb i hm)).trans (h.status i hi hn)⟩

/-- What leaves `TIM_STATUS` leaves its flags. -/
theorem of_progress (k : State.Progress regs parts s t) (h : R.TIM_STATUS ∉ regs := by decide) : State.TimStep [] regs parts s t :=
  ⟨k, fun i _ _ => k.frame.flag (f := ⟨R.TIM_STATUS, i, i⟩) (show R.TIM_STATUS < _ by decide) h
    (show reportReg R.TIM_STATUS = false by decide)⟩

/-- One flag of `TIM_STATUS` is set. -/
theorem of_bit (s : State) (i v : Nat) (hi : i < 32 := by decide) :
    State.TimStep [i] [R.TIM_STATUS] [] s (s.setFld ⟨R.TIM_STATUS, i, i⟩ v) :=
  ⟨s.progress_setFld ⟨R.TIM_STATUS, i, i⟩ v (show R.TIM_STATUS < _ by decide)
    (show ∀ a ∈ [R.TIM_STATUS], a ∉ ringCfgRegs ∧ reportReg a = false by decide),
    fun j _ hj => s.flag_setFld_bit v (by decide) le_rfl hi (by simp at hj; omega)⟩

/-- A step that one of two branches may take. -/
theorem ite {c : Prop} [Decidable c] {u v : State} (hu : State.TimStep bits regs parts s u) (hv : State.TimStep bits regs parts s v) :
    State.TimStep bits regs parts s (if c then u else v) := by
  split
  · exact hu
  · exact hv

theorem timeValid (h : State.TimStep bits regs parts s t) (hn : 1 ∉ bits := by decide) : t.timeValid = s.timeValid :=
  h.status 1 (by decide) hn

/-- Whether a change of device time waits depends on AUT alone (R189). -/
theorem stepBlocked (h : State.TimStep bits regs parts s t) (d : Int) (hctrl : (Blk.en Blk.AUT).addr ∉ regs := by decide)
    (hcomma : F.AUT_COMMA_HOST.addr ∉ regs := by decide) (hp : Part.aut ∉ parts := by decide) : t.stepBlocked d = s.stepBlocked d := by
  have hon : t.blkOn Blk.AUT = s.blkOn Blk.AUT := h.progress.flag hctrl
  have haut : t.aut = s.aut := h.progress.same .aut hp
  rw [State.stepBlocked, State.stepBlocked, hon, State.fleetState_congr hon (h.progress.flag hcomma) (by rw [haut])]

end State.TimStep

theorem State.timStep_setTim (s : State) (f : TimSt → TimSt) : State.TimStep [] [] [.tim] s (s.setTim f) := .of_progress (s.progress_setTim f)

theorem State.timStep_raise (s : State) (n a : Nat) (hn : n < 256 := by decide) : State.TimStep [] [] [] s (s.raise n a) :=
  .of_progress (s.progress_raise n a hn)

/-! ## The quality level (R185) -/

/-- HOLDOVER shows TIM's mode. -/
def State.holdoverShown (s : State) : State := s.setFld F.TIM_STATUS_HOLDOVER (b2n (s.tim.mode == .holdover))

/-- What LOCKED learns of the oscillator. -/
def State.ocxoLearnt (s : State) : State :=
  s.draw.2.draw.2.setTim fun t => { t with everLocked := true, fUnc := s.draw.1, ageing := s.draw.2.draw.1 }

/-- A level and its clockClass show, with event 114. -/
def State.qualShown (s : State) (q : Nat) : State :=
  ((s.setFld F.TIM_QUAL_QUAL q).setFld F.TIM_QUAL_CLASS (qualClass q)).raise Ev.TIM_QUAL_CHANGE 0

section Quality

variable (s : State) (q : Nat)

theorem State.qualUpdate_eq : s.qualUpdate = if s.timQual = s.holdoverShown.fld F.TIM_QUAL_QUAL then s.holdoverShown
    else (if s.timQual = Qual.LOCKED then s.holdoverShown.ocxoLearnt else s.holdoverShown).qualShown s.timQual := rfl

theorem State.timQual_lt : s.timQual < 8 := by
  rw [State.timQual]
  split
  · decide
  · decide
  · split <;> decide
  · dsimp only
    split
    · decide
    split
    · decide
    split <;> decide

theorem State.timStep_holdoverShown : State.TimStep [4] [R.TIM_STATUS] [] s s.holdoverShown := .of_bit s 4 _

theorem State.timStep_ocxoLearnt : State.TimStep [] [] [.tim, .freeCtr] s s.ocxoLearnt :=
  .of_progress ((((State.Progress.refl _ _ s).add s.progress_draw).add (State.progress_draw _)).add (State.progress_setTim _ _))

theorem State.timStep_qualShown : State.TimStep [] [R.TIM_QUAL] [] s (s.qualShown q) :=
  .of_progress ((((State.Progress.refl _ _ s).add (s.progress_setFld F.TIM_QUAL_QUAL q)).add
    (State.progress_setFld _ F.TIM_QUAL_CLASS _)).add (State.progress_raise _ _ 0))

variable {q} in
theorem State.qualShown_qual (hq : q < 8) : (s.qualShown q).fld F.TIM_QUAL_QUAL = q := by
  rw [State.qualShown, State.raise_fld _ _ (by decide) (by decide) (by decide),
    State.fld_setFld_apart (f := F.TIM_QUAL_CLASS) (g := F.TIM_QUAL_QUAL) _ _ (by decide) rfl (by decide) (by decide) (by decide) (by decide)]
  exact s.fld_setFld_fits hq

variable {q} in
theorem State.qualShown_class (hq : q < 8) : (s.qualShown q).fld F.TIM_QUAL_CLASS = qualClass q := by
  rw [State.qualShown, State.raise_fld _ _ (by decide) (by decide) (by decide)]
  refine State.fld_setFld_fits _ ?_
  interval_cases q <;> decide

theorem State.qualShown_tim : (s.qualShown q).tim = s.tim := State.raise_tim _ _ (by decide)

theorem State.timStep_qualUpdate : State.TimStep [4] [R.TIM_STATUS, R.TIM_QUAL] [.tim, .freeCtr] s s.qualUpdate := by
  have hshown := (State.TimStep.refl [4] [R.TIM_STATUS, R.TIM_QUAL] [.tim, .freeCtr] s).add s.timStep_holdoverShown
  rw [State.qualUpdate_eq]
  exact .ite hshown ((State.TimStep.ite (hshown.add (State.timStep_ocxoLearnt _)) hshown).add (State.timStep_qualShown _ _))

/-- The level learns figures of the oscillator at most. -/
theorem State.qualUpdate_tim : ∃ l f a, s.qualUpdate.tim = { s.tim with everLocked := l, fUnc := f, ageing := a } := by
  rw [State.qualUpdate_eq]
  split
  · exact ⟨s.tim.everLocked, s.tim.fUnc, s.tim.ageing, rfl⟩
  · rw [State.qualShown_tim]
    split
    · exact ⟨_, _, _, rfl⟩
    · exact ⟨s.tim.everLocked, s.tim.fUnc, s.tim.ageing, rfl⟩

theorem State.qualUpdate_mode : s.qualUpdate.tim.mode = s.tim.mode := by
  obtain ⟨l, f, a, htim⟩ := s.qualUpdate_tim
  rw [htim]

theorem State.qualUpdate_holdover : s.qualUpdate.flag F.TIM_STATUS_HOLDOVER = (s.tim.mode == .holdover) := by
  have hshown : s.holdoverShown.flag F.TIM_STATUS_HOLDOVER = (s.tim.mode == .holdover) := s.flag_setFld_b2n _ _ _ (by decide) (by decide)
  rw [State.qualUpdate_eq]
  split
  · exact hshown
  · rw [(State.timStep_qualShown _ _).status 4 (by decide) (by decide)]
    split
    · exact ((State.timStep_ocxoLearnt _).status 4 (by decide) (by decide)).trans hshown
    · exact hshown

theorem State.qualUpdate_qual : s.qualUpdate.fld F.TIM_QUAL_QUAL = s.timQual := by
  rw [State.qualUpdate_eq]
  split
  next h => exact h.symm
  next => exact State.qualShown_qual _ s.timQual_lt

variable {s}

/-- A level but LOCKED leaves TIM's part; one that changes shows with its clockClass and raises event 114. -/
theorem State.qualUpdate_unlocked (h : s.timQual ≠ Qual.LOCKED) : State.Progress [R.TIM_STATUS, R.TIM_QUAL] [] s s.qualUpdate ∧
    (s.timQual ≠ s.fld F.TIM_QUAL_QUAL →
      s.qualUpdate.pend Ev.TIM_QUAL_CHANGE = true ∧ s.qualUpdate.fld F.TIM_QUAL_CLASS = qualClass s.timQual) := by
  have hshown := s.timStep_holdoverShown.progress
  rw [State.qualUpdate_eq, if_neg h, hshown.fld]
  split
  next heq => exact ⟨(State.Progress.refl _ _ s).add hshown, fun hne => absurd heq hne⟩
  next =>
    exact ⟨((State.Progress.refl _ _ s).add hshown).add (State.timStep_qualShown _ _).progress,
      fun _ => ⟨State.pend_raise _ _ _, State.qualShown_class _ s.timQual_lt⟩⟩

end Quality

/-! ## Device time moves (R189, R194) -/

section Moves

variable (s : State) (n tai : Nat) (d : Int)

/-- What a timed output's pin shows leaves the rest. -/
theorem State.outPin_frame (high : Bool) : State.Frame [] [.out] s (s.outPin n high) := s.emit_frame _

theorem State.progress_outPin (high : Bool) : State.Progress [] [] s (s.outPin n high) := s.progress_emit _

theorem State.progress_outRest : State.Progress [] [] s (s.outRest n) := by
  rw [State.outRest]
  split
  · exact s.progress_emit _
  · exact .refl _ _ s

theorem State.outRest_tim : (s.outRest n).tim = s.tim := by
  rw [State.outRest]
  split <;> rfl

/-- `t` is `s` gone on with other edges of the timed outputs. -/
def State.Rescheduled (s t : State) : Prop := State.Progress [R.TIM_TO_CFG] [.tim] s t ∧ ∃ m, t.tim = { s.tim with outs := m }

theorem State.Rescheduled.refl : State.Rescheduled s s := ⟨.refl _ _ s, s.tim.outs, rfl⟩

theorem State.rescheduled_outSkip : State.Rescheduled s (s.outSkip n) := by
  rw [State.outSkip]
  split
  next => exact .refl s
  next o _ =>
  split
  next => exact .refl s
  next =>
  split
  next => exact ⟨(State.Progress.refl _ _ s).add (s.progress_setTim _), _, rfl⟩
  next =>
    dsimp only
    have hlow : State.Progress [R.TIM_TO_CFG] [.tim] s (if o.high then s.outPin n false else s) ∧
        (if o.high then s.outPin n false else s).tim = s.tim := by
      split
      · exact ⟨(State.Progress.refl _ _ s).add (s.progress_outPin n false), rfl⟩
      · exact ⟨.refl _ _ s, rfl⟩
    generalize (if o.high then s.outPin n false else s) = u at hlow
    have harm : State.Progress [R.TIM_TO_CFG] [] (u.outRest n) ((u.outRest n).setFldB n F.TIM_TO_CFG_ARM 0) :=
      .of_frame (parts' := []) (State.setFldB_frame (f := F.TIM_TO_CFG_ARM) _ n 0 (by decide)) (State.outKept_of_eq (State.setFldB_out _ _ _ _))
    refine ⟨((hlow.1.add (u.progress_outRest n)).add harm).add (State.progress_setTim _ _), s.tim.outs.set none n none, ?_⟩
    rw [State.setTim_tim, State.setFldB_tim, State.outRest_tim, hlow.2]

theorem State.Rescheduled.trans {s t u : State} (h : State.Rescheduled s t) (k : State.Rescheduled t u) : State.Rescheduled s u := by
  obtain ⟨hprog, m, htim⟩ := h
  obtain ⟨kprog, m', ktim⟩ := k
  exact ⟨hprog.add kprog, m', by rw [ktim, htim]⟩

theorem State.rescheduled_foldl (l : List Nat) : State.Rescheduled s (l.foldl State.outSkip s) :=
  List.foldlRecOn l State.outSkip (.refl s) fun t ht k _ => ht.trans (t.rescheduled_outSkip k)

/-- The epochs of the grid count anew. -/
def State.gridRestarted (s : State) : State :=
  (s.setTim fun t => { t with lastEpoch := some (100 * (s.devClause / 100)) }).setGrx fun g => { g with lastEpoch := none }

theorem State.moveTime_eq : s.moveTime tai = ((List.range 8).foldl State.outSkip { s with tai := tai }).gridRestarted := by
  rw [State.moveTime, State.gridRestarted, State.setGrx]

theorem State.progress_gridRestarted : State.Progress [] [.tim, .grx] s s.gridRestarted :=
  ((State.Progress.refl _ _ s).add (s.progress_setTim _)).add (State.progress_setGrx _ _)

theorem State.gridRestarted_tim : s.gridRestarted.tim = { s.tim with lastEpoch := some (100 * (s.devClause / 100)) } := rfl

theorem State.timStep_moveTime : State.TimStep [] [R.TIM_TO_CFG] [.tim, .grx, .tai] s (s.moveTime tai) := by
  have hset : State.Progress [] [.tai] s { s with tai := tai } := .of_frame (s.tai_frame tai) (State.outKept_of_eq rfl)
  rw [State.moveTime_eq]
  exact .of_progress ((((State.Progress.refl _ _ s).add hset).add (State.rescheduled_foldl _ _).1).add (State.progress_gridRestarted _))

theorem State.moveTime_tai : (s.moveTime tai).tai = tai := by
  rw [State.moveTime_eq]
  exact ((State.progress_gridRestarted _).same .tai).trans ((State.rescheduled_foldl _ _).1.same .tai)

theorem State.moveTime_tim : ∃ m e, (s.moveTime tai).tim = { s.tim with outs := m, lastEpoch := e } := by
  obtain ⟨_, m, htim⟩ := State.rescheduled_foldl { s with tai := tai } (List.range 8)
  exact ⟨m, _, by rw [State.moveTime_eq, State.gridRestarted_tim, htim]⟩

/-- A change of device time is counted, and shows with event 117. -/
def State.stepShown (s : State) (d : Int) : State :=
  ((s.setFld F.TIM_STEP_COUNT ((s.fld F.TIM_STEP_COUNT + 1) % 256)).setFld F.TIM_STEP_LAST_NS
    (encodeSigned 24 (clampInt (-8388608) 8388607 d))).raiseWith Ev.TIM_STEPPED 0 (Bytes.ofNat 8 (encodeSigned 64 d)) true

theorem State.stepTime_eq : s.stepTime d = (s.moveTime (taiPlus s.tai d)).stepShown d := by
  rw [State.stepTime, State.stepShown]

theorem State.progress_stepShown : State.Progress [R.TIM_STEP] [] s (s.stepShown d) :=
  (((State.Progress.refl _ _ s).add (s.progress_setFld F.TIM_STEP_COUNT _)).add (State.progress_setFld _ F.TIM_STEP_LAST_NS _)).add
    (State.progress_raiseWith _ _ _ _ _)

theorem State.timStep_stepTime : State.TimStep [] [R.TIM_TO_CFG, R.TIM_STEP] [.tim, .grx, .tai] s (s.stepTime d) :=
  ((State.TimStep.refl _ _ _ s).add (s.timStep_moveTime _)).add (.of_progress (State.progress_stepShown _ d))

theorem State.stepTime_tai : (s.stepTime d).tai = taiPlus s.tai d :=
  ((State.progress_stepShown _ d).same .tai).trans (s.moveTime_tai _)

theorem State.stepTime_tim : ∃ m e, (s.stepTime d).tim = { s.tim with outs := m, lastEpoch := e } := by
  have hshown : (s.stepTime d).tim = (s.moveTime (taiPlus s.tai d)).tim := (State.progress_stepShown _ d).same .tim
  rw [hshown]
  exact s.moveTime_tim _

theorem State.stepTime_pend : (s.stepTime d).pend Ev.TIM_STEPPED = true := by
  rw [State.stepTime_eq, State.stepShown, State.pend]
  exact State.pend_raiseWith_of _ _ _ _ (by decide) (by decide) (.inl rfl)

/-- A change of device time is counted (R189). -/
theorem State.stepShown_count : (s.stepShown d).fld F.TIM_STEP_COUNT = (s.fld F.TIM_STEP_COUNT + 1) % 256 := by
  rw [State.stepShown, (State.progress_raiseWith _ _ _ _ _).fld,
    State.fld_setFld_apart (f := F.TIM_STEP_LAST_NS) (g := F.TIM_STEP_COUNT) _ _ (by decide) rfl (by decide) (by decide) (by decide) (by decide)]
  exact s.fld_setFld_fits (Nat.mod_lt _ (by decide))

theorem State.stepShown_last : (s.stepShown d).fld F.TIM_STEP_LAST_NS = encodeSigned 24 (clampInt (-8388608) 8388607 d) := by
  rw [State.stepShown, (State.progress_raiseWith _ _ _ _ _).fld]
  exact State.fld_setFld_fits _ (encodeSigned_lt 24 _)

theorem State.stepTime_count : (s.stepTime d).fld F.TIM_STEP_COUNT = (s.fld F.TIM_STEP_COUNT + 1) % 256 := by
  rw [State.stepTime_eq, State.stepShown_count, (s.timStep_moveTime _).progress.fld]

theorem State.stepTime_last : (s.stepTime d).fld F.TIM_STEP_LAST_NS = encodeSigned 24 (clampInt (-8388608) 8388607 d) := by
  rw [State.stepTime_eq, State.stepShown_last]

end Moves

/-! ## Device time becomes valid (R184, R382) -/

section Valid

variable (s : State)

/-- TIME_VALID shows, with its event. -/
def State.validShown (s : State) : State := (s.setFld F.TIM_STATUS_VALID 1).raise Ev.TIM_TIME_VALID 0

theorem State.timeBecomesValid_eq : s.timeBecomesValid = if s.timeValid then s else s.validShown.rtcWrite := rfl

theorem State.timStep_validShown : State.TimStep [1] [R.TIM_STATUS] [] s s.validShown :=
  (State.TimStep.of_bit s 1 1).add (State.timStep_raise _ _ _)

theorem State.progress_rtcWrite : State.Progress [] [.tim, .bkp] s s.rtcWrite := by
  have hset : State.Progress [] [.bkp] s { s with bkp := { s.bkp with rtc := s.tai, rtcValid := true } } :=
    .of_frame (s.bkp_frame _) (State.outKept_of_eq rfl)
  exact ((State.Progress.refl _ _ s).add hset).add (State.progress_setTim _ _)

theorem State.rtcWrite_tim : s.rtcWrite.tim = { s.tim with rtcAt := s.mono } := rfl

theorem State.timStep_timeBecomesValid : State.TimStep [1] [R.TIM_STATUS] [.tim, .bkp] s s.timeBecomesValid := by
  rw [State.timeBecomesValid_eq]
  exact .ite (.refl _ _ _ s) (((State.TimStep.refl _ _ _ s).add s.timStep_validShown).add (.of_progress (State.progress_rtcWrite _)))

theorem State.timeBecomesValid_valid : s.timeBecomesValid.timeValid = true := by
  rw [State.timeBecomesValid_eq]
  split
  next h => exact h
  next =>
    refine (State.progress_rtcWrite _).flag.trans ((State.progress_raise _ _ _).flag.trans ?_)
    exact s.flag_setFld_one

theorem State.timeBecomesValid_tim : ∃ r, s.timeBecomesValid.tim = { s.tim with rtcAt := r } := by
  have hshown : s.validShown.tim = s.tim := s.timStep_validShown.progress.same .tim
  rw [State.timeBecomesValid_eq]
  split
  · exact ⟨s.tim.rtcAt, rfl⟩
  · exact ⟨_, by rw [State.rtcWrite_tim, hshown]⟩

/-- Device time is valid, and the level follows. -/
def State.validated (s : State) : State := s.timeBecomesValid.qualUpdate

theorem State.timStep_validated : State.TimStep [1, 4] [R.TIM_STATUS, R.TIM_QUAL] [.tim, .bkp, .freeCtr] s s.validated :=
  ((State.TimStep.refl _ _ _ s).add s.timStep_timeBecomesValid).add (State.timStep_qualUpdate _)

theorem State.validated_valid : s.validated.timeValid = true := (State.timStep_qualUpdate _).timeValid.trans s.timeBecomesValid_valid

theorem State.validated_tim : ∃ r l f a, s.validated.tim = { s.tim with rtcAt := r, everLocked := l, fUnc := f, ageing := a } := by
  obtain ⟨r, hvalid⟩ := s.timeBecomesValid_tim
  obtain ⟨l, f, a, hqual⟩ := s.timeBecomesValid.qualUpdate_tim
  exact ⟨r, l, f, a, by rw [State.validated, hqual, hvalid]⟩

theorem State.validated_qual : s.validated.fld F.TIM_QUAL_QUAL = s.timeBecomesValid.timQual := State.qualUpdate_qual _

end Valid

end Sys2Proof.Machine
end

section
/-!
Snapshots of device time, the RTC, timed outputs and captures (R181, R194, R195, R203, R382). The last theorem settles O36.
-/

-- One body at a time: bodies that wait for the kernel side by side each hold a thread and its stack.
set_option Elab.async false

namespace Sys2Proof.Machine

theorem State.Frame.fldB {regs : List Nat} {parts : List Part} {s t : State} (h : State.Frame regs parts s t) (b : Nat) {f : Fld}
    (hr : f.addr ∉ regs := by decide) (ha : f.addr < 0x4000000 := by decide) : t.fldB b f = s.fldB b f :=
  congrArg f.get (h.1 b f.addr ha hr)

/-! ## A snapshot of device time (R181) -/

/-- A snapshot `t` is latched. -/
def State.snapshotLatched (s : State) (t : Nat) : State :=
  ((s.setReg R.TIM_SEC_LO (BitVec.ofNat 32 (t / nsPerSec))).setFld F.TIM_SEC_HI_SEC_HI (t / nsPerSec / 2 ^ 32)).setFld F.TIM_NS_NS (t % nsPerSec)

/-- A snapshot `t` is latched, and its low word read. -/
def State.snapshotRead (s : State) (t : Nat) : State := { s.snapshotLatched t with hostRead := BitVec.ofNat 32 (t / nsPerSec) }

section Snapshot

variable (s : State) (t : Nat)

theorem exec_timeSnapshotRead (hs : s.running = true) :
    exec .timeSnapshotRead s = .next (s.draw.2.snapshotRead (s.tai - (30 + s.draw.1 % 31))) := by
  change execTimeSnapshotRead s = _
  rw [execTimeSnapshotRead, whileRead_eq _ hs, State.snapshotRead, State.snapshotLatched]
  rfl

theorem State.snapshotLatched_frame : State.Frame [R.TIM_SEC_LO, R.TIM_SEC_HI, R.TIM_NS] [] s (s.snapshotLatched t) :=
  (((State.Frame.refl _ _ s).add (s.setRegB_frame 0 (a := R.TIM_SEC_LO) _ (by decide))).add
    (State.setFld_frame_at (a := R.TIM_SEC_HI) _ _ _ _)).add (State.setFld_frame_at (a := R.TIM_NS) _ _ _ _)

theorem State.snapshotRead_frame : State.Frame [R.TIM_SEC_LO, R.TIM_SEC_HI, R.TIM_NS] [.hostRead] s (s.snapshotRead t) :=
  ((State.Frame.refl _ _ s).add (s.snapshotLatched_frame t)).add (State.hostRead_frame _ _)

theorem State.snapshotRead_hostRead : (s.snapshotRead t).hostRead = BitVec.ofNat 32 (t / nsPerSec) := by rw [State.snapshotRead]

theorem State.snapshotRead_lo : (s.snapshotRead t).reg R.TIM_SEC_LO = BitVec.ofNat 32 (t / nsPerSec) := by
  rw [State.reg, State.snapshotRead, (State.hostRead_frame _ _).1 0 R.TIM_SEC_LO (by decide) (by decide), State.snapshotLatched,
    (State.setFld_frame_at (a := R.TIM_NS) _ _ _ _).1 0 R.TIM_SEC_LO (by decide) (by decide),
    (State.setFld_frame_at (a := R.TIM_SEC_HI) _ _ _ _).1 0 R.TIM_SEC_LO (by decide) (by decide)]
  exact s.regB_setRegB_same 0 _ (by decide)

theorem State.snapshotRead_hi : (s.snapshotRead t).fld F.TIM_SEC_HI_SEC_HI = t / nsPerSec / 2 ^ 32 % 65536 := by
  rw [State.snapshotRead, State.hostRead_fld, State.snapshotLatched, State.fld_setFld_other _ _ (by decide) (by decide) (by decide),
    State.fld_setFld_same _ _ (by decide) (by decide) (by decide)]
  rfl

theorem State.snapshotRead_ns : (s.snapshotRead t).fld F.TIM_NS_NS = t % nsPerSec := by
  have hlt : t % nsPerSec < 2 ^ 30 := (Nat.mod_lt t (by decide : 0 < nsPerSec)).trans (by decide)
  rw [State.snapshotRead, State.hostRead_fld, State.snapshotLatched]
  exact State.fld_setFld_fits _ hlt

end Snapshot

theorem exec_rtcUpdate {s : State} (hs : s.running = true) (hv : s.timeValid = true)
    (hp : s.passed s.tim.rtcAt (1024 * nsPerSec) = true) : exec .rtcUpdate s = .next s.rtcWrite := by
  refine (whileRunning_eq _ hs).trans ?_
  rw [hv, hp]
  rfl

/-! ## The register of a timed output -/

/-- A bit reads 0 or 1. -/
theorem Fld.get_bit {f : Fld} (w : Word) (h : f.hi = f.lo) : (f.get w != 0) = decide (f.get w = 1) := by
  have hlt := f.get_lt w
  rw [h, Nat.sub_self] at hlt
  generalize f.get w = v at hlt
  interval_cases v <;> rfl

/-- `TIM_TO_CFG` as a host access sees it. -/
def timOutDesc : RegDesc :=
  ⟨R.TIM_TO_CFG, 1, some ⟨R.TIM_TO_IDX, 2, 0⟩, [⟨F.TIM_TO_CFG_ARM, .rw, .any⟩, ⟨F.TIM_TO_CFG_PERIODIC, .rw, .any⟩,
    ⟨F.TIM_TO_CFG_INVERT, .rw, .any⟩, ⟨F.TIM_TO_CFG_LATE, .w1c, .any⟩], 0xF0000000⟩

theorem descAt_timOut : Regs.descAt R.TIM_TO_CFG = some timOutDesc := by decide +kernel

/-- Where no field has a stated range, every write is accepted. -/
theorem State.regStore_unranged (s : State) {d : RegDesc} (n b : Nat) (w : Word) (h : ∀ fd ∈ d.fieldsAt n, fd.range = .any) :
    s.regStore d n b w = ((d.fieldsAt n).foldl (fun u fd => u.fieldWrite b (s.rwlLocked d b) w fd) s, true) := by
  have hin (u : State) (fd : FieldDesc) (hfd : fd ∈ d.fieldsAt n) : u.inRange b fd = true := by rw [State.inRange, h fd hfd, State.rangeHolds]
  have hnone (u : State) (p : FieldDesc → Bool) : ((d.fieldsAt n).any fun fd => p fd && !u.inRange b fd) = false :=
    List.any_eq_false.mpr fun fd hfd => by simp [hin u fd hfd]
  simp only [State.regStore, hnone, Bool.and_false, Bool.false_eq_true, if_false]

/-- ARM, PERIODIC and INVERT of output `n` are stored. -/
def State.outSet (s : State) (n : Nat) (w : Word) : State :=
  ((s.setFldB n F.TIM_TO_CFG_ARM (F.TIM_TO_CFG_ARM.get w)).setFldB n F.TIM_TO_CFG_PERIODIC (F.TIM_TO_CFG_PERIODIC.get w)).setFldB n
    F.TIM_TO_CFG_INVERT (F.TIM_TO_CFG_INVERT.get w)

/-- A 1 written to LATE clears it. -/
def State.lateCleared (s : State) (n : Nat) (w : Word) : State :=
  s.setFldB n F.TIM_TO_CFG_LATE (s.fldB n F.TIM_TO_CFG_LATE &&& (F.TIM_TO_CFG_LATE.max ^^^ F.TIM_TO_CFG_LATE.get w))

/-- What a write to `TIM_TO_CFG` stores for output `n`. -/
def State.outStored (s : State) (n : Nat) (w : Word) : State := (s.outSet n w).lateCleared n w

section OutRegister

variable (s : State) (n : Nat) (w : Word)

theorem State.hostReg_timOut : s.hostReg R.TIM_TO_CFG w = (s.outStored (s.fld F.TIM_TO_IDX_OUTPUT) w, true) := by
  refine (State.hostReg_own (d := timOutDesc) descAt_timOut (by decide) w).trans ?_
  exact s.regStore_unranged 0 _ w (by decide)

theorem State.outStored_frame : State.Frame [R.TIM_TO_CFG] [] s (s.outStored n w) :=
  ((((State.Frame.refl _ _ s).add (s.setFldB_frame n (f := F.TIM_TO_CFG_ARM) _ (by decide))).add
    (State.setFldB_frame _ n (f := F.TIM_TO_CFG_PERIODIC) _ (by decide))).add
    (State.setFldB_frame _ n (f := F.TIM_TO_CFG_INVERT) _ (by decide))).add (State.setFldB_frame _ n (f := F.TIM_TO_CFG_LATE) _ (by decide))

/-- A field of `TIM_TO_CFG` apart from the one written. -/
theorem State.outFld_apart (hi lo v i : Nat) (h : i < lo ∨ hi < i) (hlo : lo ≤ hi) (hhi : hi < 32) :
    (s.setFldB n ⟨R.TIM_TO_CFG, hi, lo⟩ v).fldB n ⟨R.TIM_TO_CFG, i, i⟩ = s.fldB n ⟨R.TIM_TO_CFG, i, i⟩ :=
  s.fldB_setFldB_apart v (show R.TIM_TO_CFG < _ by decide) rfl hlo hhi h le_rfl

theorem State.outStored_arm : (s.outStored n w).fldB n F.TIM_TO_CFG_ARM = F.TIM_TO_CFG_ARM.get w := by
  rw [State.outStored, State.lateCleared, State.outFld_apart _ _ _ _ _ _ (by decide) (by decide) (by decide), State.outSet,
    State.outFld_apart _ _ _ _ _ _ (by decide) (by decide) (by decide), State.outFld_apart _ _ _ _ _ _ (by decide) (by decide) (by decide),
    State.fldB_setFldB_get _ _ _ _ (by decide) (by decide) (by decide)]

theorem State.outStored_periodic : (s.outStored n w).fldB n F.TIM_TO_CFG_PERIODIC = F.TIM_TO_CFG_PERIODIC.get w := by
  rw [State.outStored, State.lateCleared, State.outFld_apart _ _ _ _ _ _ (by decide) (by decide) (by decide), State.outSet,
    State.outFld_apart _ _ _ _ _ _ (by decide) (by decide) (by decide), State.fldB_setFldB_get _ _ _ _ (by decide) (by decide) (by decide)]

theorem State.outStored_invert : (s.outStored n w).fldB n F.TIM_TO_CFG_INVERT = F.TIM_TO_CFG_INVERT.get w := by
  rw [State.outStored, State.lateCleared, State.outFld_apart _ _ _ _ _ _ (by decide) (by decide) (by decide), State.outSet,
    State.fldB_setFldB_get _ _ _ _ (by decide) (by decide) (by decide)]

theorem State.outStored_out : (s.outStored n w).out = s.out := by
  rw [State.outStored, State.lateCleared, State.outSet, State.setFldB_out, State.setFldB_out, State.setFldB_out, State.setFldB_out]

theorem State.outStored_tai : (s.outStored n w).tai = s.tai := (s.outStored_frame n w).same .tai

theorem State.outStored_tim : (s.outStored n w).tim = s.tim := (s.outStored_frame n w).same .tim

theorem State.outStored_start : (s.outStored n w).outStart n = s.outStart n := by
  rw [State.outStart, (s.outStored_frame n w).fldB n, (s.outStored_frame n w).fldB n, State.outStart]

end OutRegister

/-! ## Arming and disarming (R194) -/

theorem State.outPin_out (s : State) (n : Nat) (high : Bool) :
    (s.outPin n high).out = .pin (.timedOut n) (high != s.flagB n F.TIM_TO_CFG_INVERT) :: s.out := rfl

/-- The edges of output `n` are set anew. -/
def State.outEdge (s : State) (n : Nat) (v : Option TimedOut) : State := s.setTim fun t => { t with outs := t.outs.set none n v }

section Outputs

variable (s : State) (n : Nat) (v : Option TimedOut)

theorem State.outEdge_frame : State.Frame [] [.tim] s (s.outEdge n v) := s.setTim_frame _

theorem State.outEdge_same : (s.outEdge n v).tim.outs.get none n = v := SMap.get_set_same s.tim.outs none v n

theorem State.outEdge_other {k : Nat} (h : k ≠ n) : (s.outEdge n v).tim.outs.get none k = s.tim.outs.get none k :=
  SMap.get_set_other s.tim.outs none none v h

variable {s n} {w : Word}

theorem exec_timedOutputArm (hs : s.running = true) (hn : n = s.fld F.TIM_TO_IDX_OUTPUT) : exec (.timedOutputArm w) s =
    .next (if F.TIM_TO_CFG_ARM.get w = 0 then (s.outStored n w).outDisarm n
      else if s.flagB n F.TIM_TO_CFG_ARM || !s.blkOn Blk.TIM then s.outStored n w else (s.outStored n w).outArm n) := by
  have hon : (s.outStored n w).blkOn Blk.TIM = s.blkOn Blk.TIM := 
    (s.outStored_frame n w).report.flag (f := Blk.en Blk.TIM) (by decide) (by decide) (by decide)
  have harm : (!(s.outStored n w).flagB n F.TIM_TO_CFG_ARM) = decide (F.TIM_TO_CFG_ARM.get w = 0) := by
    rw [State.flagB, State.outStored_arm, bne, Bool.not_not, beq_eq_decide]
  refine (whileRunning_eq _ hs).trans (congrArg Host.Outcome.next ?_)
  subst hn
  rw [State.outCfgWrite, State.hostReg_timOut]
  simp only [thenIf, if_true, harm, hon, decide_eq_true_eq]

/-- A disarmed output has no edge left; where its pin was high, or is inverted, it goes low. -/
theorem State.outDisarm_edge : (s.outDisarm n).tim.outs.get none n = none ∧ State.Frame [] [.tim, .out] s (s.outDisarm n) := by
  rw [State.outDisarm]
  split
  next o h =>
    have hpin : State.Frame [] [.tim, .out] s (if o.high != s.flagB n F.TIM_TO_CFG_INVERT then s.emit (.pin (.timedOut n) false) else s) := by
      split
      · exact (State.Frame.refl _ _ s).add (s.emit_frame _)
      · exact .refl _ _ s
    exact ⟨State.outEdge_same _ n none, hpin.add (State.outEdge_frame _ n none)⟩
  next h => exact ⟨h, .refl _ _ s⟩

theorem State.outArm_eq (h : s.tai ≤ s.outStart n) : s.outArm n =
    if s.flagB n F.TIM_TO_CFG_INVERT then (s.outEdge n (some ⟨s.outStart n, true, false⟩)).outPin n false
    else s.outEdge n (some ⟨s.outStart n, true, false⟩) := if_neg (Nat.not_lt.mpr h)

/-- An output whose start lies ahead waits for it; an inverted one goes to its inactive level. -/
theorem State.outArm_ahead (h : s.tai ≤ s.outStart n) {t : State} (ht : s.outArm n = t) :
    t.tim.outs.get none n = some ⟨s.outStart n, true, false⟩ ∧ (∀ k, k ≠ n → t.tim.outs.get none k = s.tim.outs.get none k) ∧
    t.out = (if s.flagB n F.TIM_TO_CFG_INVERT then [.pin (.timedOut n) true] else []) ++ s.out ∧ State.Frame [] [.tim, .out] s t := by
  have hedge := (State.Frame.refl [] [.tim, .out] s).add (s.outEdge_frame n (some ⟨s.outStart n, true, false⟩))
  rw [State.outArm_eq h] at ht
  subst ht
  split
  next hinv =>
    refine ⟨s.outEdge_same n _, fun k => s.outEdge_other n _, ?_, hedge.add (State.outPin_frame _ n false)⟩
    have hpin : (s.outEdge n (some ⟨s.outStart n, true, false⟩)).flagB n F.TIM_TO_CFG_INVERT = true := hinv
    rw [State.outPin_out, hpin]
    rfl
  next => exact ⟨s.outEdge_same n _, fun k => s.outEdge_other n _, rfl, hedge⟩

variable (s n w) in
/-- What the stored word has the output do. -/
theorem State.outStored_inverts : (s.outStored n w).flagB n F.TIM_TO_CFG_INVERT = decide (F.TIM_TO_CFG_INVERT.get w = 1) := by
  rw [State.flagB, State.outStored_invert]
  exact Fld.get_bit w rfl

/-- An output whose start is past. -/
def State.outLate (s : State) (n : Nat) : State :=
  ((s.setFldB n F.TIM_TO_CFG_LATE 1).setFldB n F.TIM_TO_CFG_ARM 0).raise Ev.TIM_TO_LATE 0

theorem State.outArm_late (h : s.outStart n < s.tai) : s.outArm n = s.outLate n := if_pos h

variable (s n) in
theorem State.outLate_frame : State.ReportFrame [R.TIM_TO_CFG] [] s (s.outLate n) :=
  .trans (by decide) (((State.Frame.refl _ _ s).add (s.setFldB_frame n (f := F.TIM_TO_CFG_LATE) 1 (by decide))).add
    (State.setFldB_frame _ n (f := F.TIM_TO_CFG_ARM) 0 (by decide))).report
    ((State.progress_raise _ Ev.TIM_TO_LATE 0).frame.mono (by decide) (by decide))

variable (s n) in
theorem State.outLate_flags : (s.outLate n).flagB n F.TIM_TO_CFG_ARM = false ∧ (s.outLate n).flagB n F.TIM_TO_CFG_LATE = true := by
  have harm : (s.outLate n).fldB n F.TIM_TO_CFG_ARM = 0 := by
    rw [State.outLate, State.raise_fldB _ _ (by decide) _ (by decide) (by decide)]
    exact State.fldB_setFldB_fits _ n (by decide)
  have hlate : (s.outLate n).fldB n F.TIM_TO_CFG_LATE = 1 := by
    rw [State.outLate, State.raise_fldB _ _ (by decide) _ (by decide) (by decide),
      State.outFld_apart _ _ _ _ _ _ (by decide) (by decide) (by decide)]
    exact s.fldB_setFldB_fits n (by decide)
  rw [State.flagB, harm, State.flagB, hlate]
  exact ⟨rfl, rfl⟩

theorem State.outLate_tim : (s.outLate n).tim = s.tim := by
  rw [State.outLate, State.raise_tim _ _ (by decide), State.setFldB_tim, State.setFldB_tim]

/-! ## Edges (R194) -/

theorem State.outEdge_out : (s.outEdge n v).out = s.out := rfl

theorem State.outEdge_flagB (f : Fld) : (s.outEdge n v).flagB n f = s.flagB n f := rfl

theorem State.outPin_flagB (high : Bool) (f : Fld) : (s.outPin n high).flagB n f = s.flagB n f := rfl

variable {o : TimedOut}

theorem exec_timedOutputEdge (hs : s.running = true) (ho : s.tim.outs.get none n = some o) (hnext : o.next ≤ s.tai) {after : Option TimedOut}
    (hafter : (if o.rising then some ⟨o.next + s.outWidth n, false, true⟩
      else if s.outPeriodic n then some ⟨o.next - s.outWidth n + s.outPeriod n, true, false⟩ else none) = after) :
    exec (.timedOutputEdge n) s = .next (if after.isNone then
      (((s.outPin n o.rising).outEdge n after).outRest n).setFldB n F.TIM_TO_CFG_ARM 0 else (s.outPin n o.rising).outEdge n after) := by
  subst hafter
  refine (whileRunning_eq _ hs).trans (congrArg Host.Outcome.next ?_)
  simp only [ho, if_neg (Nat.not_lt.mpr hnext)]
  rfl

variable (s n) in
theorem State.outRest_frame : State.Frame [] [.out] s (s.outRest n) := by
  rw [State.outRest]
  split
  · exact s.emit_frame _
  · exact .refl _ _ s

variable (s n) in
theorem State.outRest_out : (s.outRest n).out =
    (if s.flagB n F.TIM_TO_CFG_INVERT then [.pin (.timedOut n) false] else []) ++ s.out := by
  rw [State.outRest]
  split <;> rfl

end Outputs

/-! ## Captures (R195, R203) -/

/-- The stamps held of input `j`. -/
def State.withCaps (s : State) (j : Nat) (l : List (Nat × Bool)) : State := s.setTim fun t => { t with caps := t.caps.set [] j l }

/-- A stamp is read: `TIM_TC_NS` latches the rest of it. -/
def State.stampRead (s : State) (j at' : Nat) (rising : Bool) : State :=
  { ((s.setFldB j F.TIM_TC_NS_VALID 1).setFldB j F.TIM_TC_NS_RISING (b2n rising)).setFldB j F.TIM_TC_NS_NS (at' % nsPerSec)
    with hostRead := BitVec.ofNat 32 (at' / nsPerSec) }

section Captures

variable {s : State} {j at' : Nat} {rising : Bool}

theorem exec_captureEdge (hw : s.works Blk.TIM) (hj : j < 8)
    (he : (s.fld F.TIM_TC_CFG_EDGE).testBit (2 * j + (if rising then 0 else 1)) = true) : exec (.captureEdge j rising) s =
      .next (if (s.tim.caps.get [] j).length < 16 then s.withCaps j (s.tim.caps.get [] j ++ [(s.tai, rising)])
        else (s.setFld F.TIM_TC_CFG_OVF (s.fld F.TIM_TC_CFG_OVF ||| 2 ^ j)).raise Ev.TIM_TC_OVERFLOW 0) := by
  refine (whileOn_eq _ hw.1 hw.2).trans (congrArg Host.Outcome.next (if_neg ?_))
  simp [he, Nat.not_le.mpr hj]

theorem exec_captureEdge_unchosen (hw : s.works Blk.TIM)
    (he : (s.fld F.TIM_TC_CFG_EDGE).testBit (2 * j + (if rising then 0 else 1)) = false) : exec (.captureEdge j rising) s = .next s := by
  refine (whileOn_eq _ hw.1 hw.2).trans (congrArg Host.Outcome.next (if_pos ?_))
  rw [he]
  rfl

theorem exec_captureStampRead (hs : s.running = true) {rest : List (Nat × Bool)}
    (hc : s.tim.caps.get [] (s.fld F.TIM_TC_IDX_INPUT) = (at', rising) :: rest) : exec .captureStampRead s =
      .next ((s.withCaps (s.fld F.TIM_TC_IDX_INPUT) rest).stampRead (s.fld F.TIM_TC_IDX_INPUT) at' rising) := by
  change execCaptureStampRead s = _
  rw [execCaptureStampRead, whileRead_eq _ hs]
  simp only [hc]
  rfl

variable (s j at' rising)

theorem State.withCaps_same (l : List (Nat × Bool)) : (s.withCaps j l).tim.caps.get [] j = l := SMap.get_set_same s.tim.caps [] l j

theorem State.stampRead_frame : State.Frame [R.TIM_TC_NS] [.hostRead] s (s.stampRead j at' rising) :=
  ((((State.Frame.refl _ _ s).add (s.setFldB_frame j (f := F.TIM_TC_NS_VALID) 1 (by decide))).add
    (State.setFldB_frame _ j (f := F.TIM_TC_NS_RISING) _ (by decide))).add
    (State.setFldB_frame _ j (f := F.TIM_TC_NS_NS) _ (by decide))).add (State.hostRead_frame _ _)

/-- What the stamp's register shows. -/
theorem State.stampRead_shown : (s.stampRead j at' rising).fldB j F.TIM_TC_NS_NS = at' % nsPerSec ∧
    (s.stampRead j at' rising).flagB j F.TIM_TC_NS_VALID = true ∧ (s.stampRead j at' rising).flagB j F.TIM_TC_NS_RISING = rising := by
  have hlt : at' % nsPerSec < 2 ^ 30 := (Nat.mod_lt at' (by decide : 0 < nsPerSec)).trans (by decide)
  have hns (u : State) (i : Nat) (hi : 29 < i) : (u.setFldB j F.TIM_TC_NS_NS (at' % nsPerSec)).fldB j ⟨R.TIM_TC_NS, i, i⟩ =
      u.fldB j ⟨R.TIM_TC_NS, i, i⟩ :=
    u.fldB_setFldB_apart _ (show R.TIM_TC_NS < _ by decide) rfl (by decide) (by decide) (.inr hi) le_rfl
  refine ⟨?_, ?_, ?_⟩
  · rw [State.stampRead, State.hostRead_fldB]
    exact State.fldB_setFldB_fits _ j hlt
  · rw [State.flagB, State.stampRead, State.hostRead_fldB, hns _ 31 (by decide),
      State.fldB_setFldB_apart (f := F.TIM_TC_NS_RISING) (g := F.TIM_TC_NS_VALID) _ _ (by decide) rfl (by decide) (by decide) (by decide)
      (by decide), State.fldB_setFldB_fits _ j (by decide)]
    rfl
  · rw [State.flagB, State.stampRead, State.hostRead_fldB, hns _ 30 (by decide), State.fldB_setFldB_same _ _ _ _ (by decide) (by decide) (by decide)]
    cases rising <;> rfl

end Captures

/-! ## The obligation -/

/-- Settles O36: each clause is one command's equation and what its next state reads. -/
theorem timeEdges : Obligations.TimeEdges := by
  unfold Obligations.TimeEdges
  refine ⟨fun s hs => ?snapshot, fun s hs hv hp => ⟨_, exec_rtcUpdate hs hv hp, rfl, ?rtc⟩, fun s w n hw hn harm hget hstart => ?ahead,
    fun s w n hw hn harm hget hstart => ?late, fun s w n hs hn hget => ?disarm, fun s n o hs ho hnext hr => ?rises,
    fun s n o hs ho hnext hr hper => ?falls, fun s n o hs ho hnext hr hper => ?ends, fun s j rising hw hj he hlen => ?captured,
    fun s j rising hw hj he hlen => ?overflow, fun s j rising hw hj he => exec_captureEdge_unchosen hw he,
    fun s at' rising rest hs hc => ?stamp⟩
  case snapshot =>
    exact ⟨_, 30 + s.draw.1 % 31, exec_timeSnapshotRead s hs, by omega, by omega, State.snapshotRead_hostRead _ _,
      (State.snapshotRead_lo _ _).trans (State.snapshotRead_hostRead _ _).symm, State.snapshotRead_hi _ _, State.snapshotRead_ns _ _,
      ((State.Frame.refl _ _ s).add s.draw_frame).add (State.snapshotRead_frame _ _)⟩
  case rtc => exact ((State.Frame.refl _ _ s).add (s.bkp_frame _)).add (State.setTim_frame _ _)
  case ahead =>
    have ht := exec_timedOutputArm (w := w) hw.1 hn
    rw [hget, if_neg (by decide), harm, hw.2, if_neg (by decide)] at ht
    have hahead : (s.outStored n w).tai ≤ (s.outStored n w).outStart n := by
      rw [State.outStored_start, State.outStored_tai]
      exact hstart
    obtain ⟨hedge, hother, hout, hframe⟩ := State.outArm_ahead hahead rfl
    rw [State.outStored_start] at hedge
    rw [State.outStored_inverts, State.outStored_out] at hout
    rw [State.outStored_tim] at hother
    refine ⟨_, ht, ?_, ?_, ?_, hedge, hother, by simpa using hout, ?_⟩
    · rw [State.flagB, hframe.fldB n, State.outStored_arm, hget]
      rfl
    · rw [hframe.fldB n, State.outStored_periodic]
    · rw [hframe.fldB n, State.outStored_invert]
    · exact ((State.Frame.refl _ _ s).add (s.outStored_frame n w)).add hframe
  case late =>
    have ht := exec_timedOutputArm (w := w) hw.1 hn
    have hpast : (s.outStored n w).outStart n < (s.outStored n w).tai := by
      rw [State.outStored_start, State.outStored_tai]
      exact hstart
    rw [hget, if_neg (by decide), harm, hw.2, if_neg (by decide), State.outArm_late hpast] at ht
    have hflags := (s.outStored n w).outLate_flags n
    exact ⟨_, ht, hflags.1, hflags.2, State.pend_raise _ _ _, State.outLate_tim.trans (s.outStored_tim n w),
      .trans (by decide) (s.outStored_frame n w).report (State.outLate_frame _ n)⟩
  case disarm =>
    have ht := exec_timedOutputArm (w := w) hs hn
    rw [if_pos hget] at ht
    obtain ⟨hedge, hframe⟩ := State.outDisarm_edge (s := s.outStored n w) (n := n)
    refine ⟨_, ht, ?_, hedge, ((State.Frame.refl _ _ s).add (s.outStored_frame n w)).add hframe⟩
    rw [State.flagB, hframe.fldB n, State.outStored_arm, hget]
    rfl
  case rises =>
    have ht := exec_timedOutputEdge hs ho hnext (by rw [hr, if_pos rfl])
    rw [hr, Option.isNone_some, if_neg (by decide)] at ht
    refine ⟨_, ht, ?_, State.outEdge_same _ n _, ((State.Frame.refl _ _ s).add (s.outPin_frame n true)).add (State.outEdge_frame _ n _)⟩
    exact (s.outPin_out n true).trans (by rw [Bool.true_bne])
  case falls =>
    have ht := exec_timedOutputEdge hs ho hnext (by rw [hr, hper, if_neg (by decide), if_pos rfl])
    rw [hr, Option.isNone_some, if_neg (by decide)] at ht
    refine ⟨_, ht, ?_, State.outEdge_same _ n _, ((State.Frame.refl _ _ s).add (s.outPin_frame n false)).add (State.outEdge_frame _ n _)⟩
    exact (s.outPin_out n false).trans (by rw [Bool.false_bne])
  case ends =>
    have ht := exec_timedOutputEdge hs ho hnext (by rw [hr, hper, if_neg (by decide), if_neg (by decide)])
    rw [hr, Option.isNone_none, if_pos rfl] at ht
    refine ⟨_, ht, ?_, ?_, ?_, ?_⟩
    · exact (State.setFldB_out _ _ _ _).trans ((State.outRest_out _ n).trans
        (by rw [State.outEdge_out, State.outEdge_flagB, State.outPin_flagB, State.outPin_out, Bool.false_bne]))
    · rw [State.setFldB_tim, State.outRest_tim]
      exact State.outEdge_same _ n none
    · rw [State.flagB, State.fldB_setFldB_fits _ n (by decide)]
      rfl
    · exact ((((State.Frame.refl _ _ s).add (s.outPin_frame n false)).add (State.outEdge_frame _ n none)).add (State.outRest_frame _ n)).add
        (State.setFldB_frame _ n (f := F.TIM_TO_CFG_ARM) 0 (by decide))
  case captured =>
    have ht := exec_captureEdge hw hj he
    rw [if_pos hlen] at ht
    exact ⟨_, ht, s.withCaps_same j _, fun k hk => SMap.get_set_other s.tim.caps [] [] _ hk, s.setTim_frame _⟩
  case overflow =>
    have ht := exec_captureEdge hw hj he
    rw [if_neg (Nat.not_lt.mpr hlen)] at ht
    have hovf : s.fld F.TIM_TC_CFG_OVF ||| 2 ^ j < 2 ^ 8 := Nat.or_lt_two_pow (s.fldB_le 0 F.TIM_TC_CFG_OVF) (Nat.pow_lt_pow_right (by decide) hj)
    refine ⟨_, ht, (State.raise_tim _ _ (by decide)).trans (s.setFld_tim _ _), ?_, State.pend_raise _ _ _, ?_⟩
    · rw [State.raise_fld _ _ (by decide) (by decide) (by decide)]
      exact s.fld_setFld_fits hovf
    · exact (((State.Progress.refl _ _ s).add (s.progress_setFld F.TIM_TC_CFG_OVF _)).add (State.progress_raise _ _ 0)).frame
  case stamp =>
    obtain ⟨hns, hvalid, hrising⟩ := State.stampRead_shown (s.withCaps (s.fld F.TIM_TC_IDX_INPUT) rest) (s.fld F.TIM_TC_IDX_INPUT) at' rising
    have hframe := State.stampRead_frame (s.withCaps (s.fld F.TIM_TC_IDX_INPUT) rest) (s.fld F.TIM_TC_IDX_INPUT) at' rising
    have htim := hframe.same .tim
    refine ⟨_, exec_captureStampRead hs hc, by rw [State.stampRead], hns, hvalid, hrising, ?_,
      ((State.Frame.refl _ _ s).add (s.setTim_frame _)).add hframe⟩
    exact (congrArg (fun v : TimSt => v.caps.get [] (s.fld F.TIM_TC_IDX_INPUT)) htim).trans (s.withCaps_same _ _)

end Sys2Proof.Machine
end

section
/-!
Disciplining and holdover (R183 to R186): what a time solution, its absence and a restart of TIM's loops set and leave.
-/

-- One body at a time: bodies that wait for the kernel side by side each hold a thread and its stack.
set_option Elab.async false

namespace Sys2Proof.Machine

/-! ## The estimate (R184, R186) -/

section Estimate

variable {s : State}

theorem State.timEst_disciplined (hv : s.timeValid = true) (hm : s.tim.mode = .disciplined) : s.timEst = some (s.tim.offset.natAbs + 20) := by
  rw [State.timEst, hv, hm]
  rfl

theorem grownEst_zero (est0 fUnc ageing : Nat) : grownEst est0 fUnc ageing 0 = est0 := by
  simp [grownEst, ceilDiv]

/-- A host set's estimate, as it begins to grow. -/
theorem State.timEst_host (hv : s.timeValid = true) (hm : s.tim.mode = .host) (hat : s.tim.estAt = s.mono) : s.timEst = some s.tim.est0 := by
  simp only [State.timEst, hv, hm, hat, Nat.sub_self, grownEst_zero]
  rfl

end Estimate

/-! ## A pending change, and an epoch without a solution -/

section Flags

variable (s : State)

theorem State.timStep_pendOver : State.TimStep [6] [R.TIM_STATUS] [.tim] s s.pendOver :=
  ((State.TimStep.refl _ _ _ s).add (s.timStep_setTim _)).add (.of_bit _ 6 0)

theorem State.pendOver_tim : s.pendOver.tim = { s.tim with pend := none } := by rw [State.pendOver, State.setFld_tim, State.setTim_tim]

theorem State.pendOver_flag : s.pendOver.flag F.TIM_STATUS_STEP_PEND = false := by
  rw [State.pendOver]
  exact State.flag_setFld_zero _

theorem State.timStep_noSolution : State.TimStep [3, 5] [R.TIM_STATUS] [.tim] s s.noSolution :=
  (((State.TimStep.refl _ _ _ s).add (.of_bit s 3 0)).add (.of_bit _ 5 0)).add (State.timStep_setTim _ _)

theorem State.noSolution_tim : s.noSolution.tim = { s.tim with run := 0, fit := [] } := by
  rw [State.noSolution, State.setTim_tim, State.setFld_tim, State.setFld_tim]

theorem State.noSolution_gnss : s.noSolution.flag F.TIM_STATUS_GNSS_OK = false := by
  rw [State.noSolution, State.setTim_flag, (State.TimStep.of_bit _ 5 0).status 3 (by decide) (by decide)]
  exact s.flag_setFld_zero

end Flags

/-! ## Holdover (R186) -/

/-- TIM holds over, its estimate growing from `est`. -/
def State.heldFrom (s : State) (est : Nat) : State :=
  s.setTim fun t => { t with mode := .holdover, est0 := est, estAt := s.mono, inside := 0, run := 0, fit := [] }

/-- The held value of the DAC. -/
def State.dacHeld (s : State) : State :=
  if s.expert Blk.TIM then s else s.dacSet (s.dacAverage + Config.ageingDac s.tim.bounds.2 (s.fld F.TIM_DISC_TAU_S))

section Holdover

variable (s : State)

theorem State.holdover_eq (cause : Nat) :
    s.holdover cause = ((s.heldFrom (s.timEst.getD 0)).dacHeld.raise Ev.TIM_HOLDOVER cause).qualUpdate := rfl

theorem State.progress_dacSet (v : Int) : State.Progress [R.TIM_FREQ] [.tim] s (s.dacSet v) := by
  rw [State.dacSet]
  exact ((State.Progress.refl _ _ s).add (s.progress_setFld F.TIM_FREQ_DAC _)).add (State.progress_setTim _ _)

theorem State.progress_dacHeld : State.Progress [R.TIM_FREQ] [.tim] s s.dacHeld := by
  rw [State.dacHeld]
  split
  · exact .refl _ _ s
  · exact s.progress_dacSet _

theorem State.dacSet_tim (v : Int) : ∃ l, (s.dacSet v).tim = { s.tim with dacs := l } := by
  rw [State.dacSet, State.setTim_tim, State.setFld_tim]
  exact ⟨_, rfl⟩

theorem State.dacHeld_tim : ∃ l, s.dacHeld.tim = { s.tim with dacs := l } := by
  rw [State.dacHeld]
  split
  · exact ⟨s.tim.dacs, rfl⟩
  · exact s.dacSet_tim _

theorem State.timStep_holdover (cause : Nat) :
    State.TimStep [4] [R.TIM_STATUS, R.TIM_QUAL, R.TIM_FREQ] [.tim, .freeCtr] s (s.holdover cause) := by
  rw [State.holdover_eq]
  exact ((((State.TimStep.refl _ _ _ s).add (s.timStep_setTim _)).add (.of_progress (State.progress_dacHeld _))).add
    (State.timStep_raise _ _ cause)).add (State.timStep_qualUpdate _)

theorem State.holdover_tim (cause : Nat) : (s.holdover cause).tim.mode = .holdover ∧ (s.holdover cause).tim.est0 = s.timEst.getD 0 ∧
    (s.holdover cause).tim.estAt = s.mono := by
  obtain ⟨l, f, a, hqual⟩ := ((s.heldFrom (s.timEst.getD 0)).dacHeld.raise Ev.TIM_HOLDOVER cause).qualUpdate_tim
  obtain ⟨d, hdac⟩ := (s.heldFrom (s.timEst.getD 0)).dacHeld_tim
  rw [State.holdover_eq, hqual, State.raise_tim _ _ (by decide), hdac, State.heldFrom, State.setTim_tim]
  exact ⟨rfl, rfl, rfl⟩

theorem State.holdover_shown (cause : Nat) : (s.holdover cause).flag F.TIM_STATUS_HOLDOVER = true ∧
    (s.holdover cause).pend Ev.TIM_HOLDOVER = true := by
  obtain ⟨d, hdac⟩ := (s.heldFrom (s.timEst.getD 0)).dacHeld_tim
  rw [State.holdover_eq]
  constructor
  · rw [State.qualUpdate_holdover, State.raise_tim _ _ (by decide), hdac, State.heldFrom, State.setTim_tim]
    rfl
  · exact (State.timStep_qualUpdate _).progress.pend _ (by decide) (State.pend_raise _ _ _)

variable {s}

/-- Disciplining that ends for want of a solution (R186). -/
theorem State.noSolution_holdover (hm : s.tim.mode = .disciplined) (hv : s.timeValid = true) (cause : Nat) {t : State}
    (ht : s.noSolution.holdover cause = t) : t.flag F.TIM_STATUS_GNSS_OK = false ∧ t.flag F.TIM_STATUS_HOLDOVER = true ∧
    t.tim.mode = .holdover ∧ t.tim.est0 = s.tim.offset.natAbs + 20 ∧ t.tim.estAt = s.mono ∧ t.timeValid = true ∧ t.tai = s.tai ∧
    t.pend Ev.TIM_HOLDOVER = true := by
  have hnone := s.timStep_noSolution
  have hheld := s.noSolution.timStep_holdover cause
  have hest : s.noSolution.timEst = some (s.tim.offset.natAbs + 20) := by
    rw [State.timEst_disciplined (hnone.timeValid.trans hv) (by rw [State.noSolution_tim]; exact hm), State.noSolution_tim]
  obtain ⟨hmode, hest0, hat⟩ := s.noSolution.holdover_tim cause
  obtain ⟨hshown, hpend⟩ := s.noSolution.holdover_shown cause
  rw [hest] at hest0
  subst ht
  exact ⟨(hheld.status 3 (by decide) (by decide)).trans s.noSolution_gnss, hshown, hmode, hest0, hat.trans (hnone.progress.same .mono),
    hheld.timeValid.trans (hnone.timeValid.trans hv), (hheld.progress.same .tai).trans (hnone.progress.same .tai), hpend⟩

end Holdover

/-! ## The slots of the cascade (R183) -/

/-- The newest offset is the phase slot's input. -/
def State.phaseInput (s : State) : State := s.setSlotReg s.phaseSlot R.LPE_SLOT_IN (sat32 s.tim.offset)

/-- An update waits in LPE's queue. -/
def State.updQueued (s : State) (u : LpeUpd) : State := { s with lpe := { s.lpe with queue := s.lpe.queue ++ [u] } }

section Cascade

variable (s : State)

theorem State.freqSlot_congr {s t : State} (h : t.sim = s.sim) : t.freqSlot = s.freqSlot := by
  rw [State.freqSlot, State.timeSec, h, State.freqSlot, State.timeSec]

theorem State.lpeFire_room {s : State} (h : s.lpe.queue.length < 4096) (u : LpeUpd) : s.lpeFire u = s.updQueued u := if_pos h

theorem State.phaseInput_lpe : s.phaseInput.lpe = s.lpe := by rw [State.phaseInput, State.setSlotReg, State.setRegB_lpe]

theorem State.phaseInput_sat : s.phaseInput.flagB s.freqSlot F.LPE_SLOT_STAT_SAT = s.flagB s.freqSlot F.LPE_SLOT_STAT_SAT := by
  rw [State.flagB, State.fldB, State.phaseInput, State.setSlotReg, State.regB_setRegB_other _ _ (by decide) (by decide) (by simp), State.flagB,
    State.fldB]

/-- The cascade's update has fired. -/
def State.updFired (s : State) (drift : Int) : State := s.phaseInput.lpeFire ⟨s.freqSlot, sat32 drift, 0, none⟩

theorem State.discipline_eq (drift : Int) : s.discipline drift = if s.expert Blk.TIM then s
    else if !s.flagB s.freqSlot F.LPE_SLOT_STAT_SAT && (s.updFired drift).flagB (s.updFired drift).freqSlot F.LPE_SLOT_STAT_SAT
    then (s.updFired drift).timLoopSat else s.updFired drift := rfl

/-- Where the queue has room, or at expert level, no slot's sticky flag is set. -/
theorem State.discipline_room {s : State} (h : s.expert Blk.TIM = true ∨ s.lpe.queue.length < 4096) (drift : Int) : s.discipline drift =
    if s.expert Blk.TIM then s else s.phaseInput.updQueued ⟨s.freqSlot, sat32 drift, 0, none⟩ := by
  rw [State.discipline_eq]
  split
  next => rfl
  next hx =>
    have hroom : s.phaseInput.lpe.queue.length < 4096 := by
      rw [State.phaseInput_lpe]
      exact h.resolve_left hx
    have hfired : s.updFired drift = s.phaseInput.updQueued ⟨s.freqSlot, sat32 drift, 0, none⟩ := State.lpeFire_room hroom _
    have hslot : (s.phaseInput.updQueued ⟨s.freqSlot, sat32 drift, 0, none⟩).freqSlot = s.freqSlot := State.freqSlot_congr rfl
    have hsat : (s.phaseInput.updQueued ⟨s.freqSlot, sat32 drift, 0, none⟩).flagB s.freqSlot F.LPE_SLOT_STAT_SAT =
        s.flagB s.freqSlot F.LPE_SLOT_STAT_SAT := s.phaseInput_sat
    rw [hfired, hslot, hsat, Bool.not_and_self, if_neg (by decide)]

theorem State.progress_phaseInput : State.Progress [R.LPE_SLOT_IN] [] s s.phaseInput := by
  rw [State.phaseInput, State.setSlotReg]
  exact .of_frame (parts' := []) (s.setRegB_frame _ (a := R.LPE_SLOT_IN) _ (by decide)) (State.outKept_of_eq (s.setRegB_out _ _ _))

theorem State.progress_updQueued (u : LpeUpd) : State.Progress [] [.lpe] s (s.updQueued u) :=
  .of_frame (s.lpe_frame _) (State.outKept_of_eq rfl)

theorem State.slotRestart_out (n : Nat) : (s.slotRestart n).out = s.out := by
  have hcleared : (s.slotCleared n).out = s.out := by
    change ((s.setSlotReg n R.LPE_SLOT_ACC 0).setSlotReg n R.LPE_SLOT_OUT 0).out = s.out
    rw [State.setSlotReg, State.setRegB_out, State.setSlotReg, State.setRegB_out]
  rw [State.slotRestart_eq]
  split
  · exact hcleared
  · exact (State.setFldB_out _ _ _ _).trans hcleared

theorem State.progress_slotRestart (n : Nat) :
    State.Progress [R.LPE_SLOT_ACC, R.LPE_SLOT_OUT, R.LPE_SLOT_STAT] [.lpe] s (s.slotRestart n) :=
  .of_frame (s.slotRestart_frame n) (State.outKept_of_eq (s.slotRestart_out n))

theorem State.progress_timLoopsRestart :
    State.Progress [R.LPE_SLOT_ACC, R.LPE_SLOT_OUT, R.LPE_SLOT_STAT] [.lpe] s s.timLoopsRestart := by
  rw [State.timLoopsRestart]
  split
  · exact .refl _ _ s
  · exact (s.progress_slotRestart _).add (State.progress_slotRestart _ _)

end Cascade

/-! ## A solution taken (R163, R183) -/

/-- GRX's solution is taken. -/
def State.solTaken (s : State) (epoch : Nat) : State :=
  (s.setGrx fun g => { g with sol := none }).setTim fun t => { t with lastEpoch := some epoch }

/-- A usable solution shows. -/
def State.solutionShown (s : State) (e drift : Int) : State :=
  ((s.setFld F.TIM_STATUS_GNSS_OK 1).setReg R.TIM_OFFSET (BitVec.ofNat 32 (encodeSigned 32 (sat32 e)))).setTim fun t => { t with drift }

/-- A disciplined offset, and whether it lies inside. -/
def State.offsetTaken (s : State) (e : Int) : State :=
  s.setTim fun t => { t with offset := e, inside := if e.natAbs ≤ 40 then t.inside + 1 else 0 }

/-- A pending step that the offset has made needless is over (R189). -/
def State.stepDropped (s : State) (e : Int) : State := if s.tim.pend == some .step && e.natAbs ≤ 1000 then s.pendOver else s

section Solution

variable {s : State} {sol : TimeSol} {e drift : Int}

theorem exec_timeSolutionRx (hw : s.works Blk.TIM) (hsol : s.grx.sol = some sol) :
    exec (.timeSolutionRx sol.epoch) s = .next ((s.setGrx fun g => { g with sol := none }).takeSolution sol) := by
  refine (whileOn_eq _ hw.1 hw.2).trans (congrArg Host.Outcome.next ?_)
  simp only [hsol, if_true]
  rfl

/-- No solution of the epoch waits. -/
theorem exec_timeSolutionRx_none {epoch : Nat} (h : s.grx.sol.all (fun x => x.epoch != epoch) = true) :
    exec (.timeSolutionRx epoch) s = .next s := by
  cases hon : s.running && s.blkOn Blk.TIM with
  | false => exact whileOn_idle _ hon
  | true =>
    obtain ⟨hs, hb⟩ := Bool.and_eq_true_iff.mp hon
    refine (whileOn_eq _ hs hb).trans (congrArg Host.Outcome.next ?_)
    cases hsol : s.grx.sol with
    | none => rfl
    | some sol =>
      have hne : sol.epoch ≠ epoch := by simpa [hsol] using h
      exact if_neg hne

theorem State.takeSolution_usable (halarm : s.flag F.GRX_STATUS_SPOOF_ALARM = false) (hu : sol.usable = true)
    (href : sol.fromRef = true ∨ s.tim.everValid = false) : (s.setGrx fun g => { g with sol := none }).takeSolution sol =
      (s.solTaken sol.epoch).usableSolution (sol.offset - s.fld F.TIM_CAL_ANT_NS) sol.drift := by
  have hcond : (sol.usable && !s.flag F.GRX_STATUS_SPOOF_ALARM && (sol.fromRef || !s.tim.everValid)) = true := by
    rw [hu, halarm]
    rcases href with h | h <;> simp [h]
  exact if_pos hcond

theorem State.takeSolution_unusable (hm : s.tim.mode = .disciplined) (h : s.flag F.GRX_STATUS_SPOOF_ALARM = true ∨ sol.usable = false) :
    ∃ cause, (s.setGrx fun g => { g with sol := none }).takeSolution sol = (s.solTaken sol.epoch).noSolution.holdover cause := by
  have hcond : (sol.usable && !s.flag F.GRX_STATUS_SPOOF_ALARM && (sol.fromRef || !s.tim.everValid)) = false := by
    rcases h with h | h <;> simp [h]
  have hmode : ((s.solTaken sol.epoch).noSolution.tim.mode == .disciplined) = true := by
    rw [State.noSolution_tim]
    exact beq_iff_eq.mpr hm
  exact ⟨_, (if_neg (ne_true_of_eq_false hcond)).trans (if_pos hmode)⟩

section Parts

variable (s e drift)

theorem State.timStep_solTaken (epoch : Nat) : State.TimStep [] [] [.tim, .grx] s (s.solTaken epoch) :=
  .of_progress (((State.Progress.refl _ _ s).add (s.progress_setGrx _)).add (State.progress_setTim _ _))

theorem State.timStep_solutionShown : State.TimStep [3] [R.TIM_STATUS, R.TIM_OFFSET] [.tim] s (s.solutionShown e drift) := by
  have hreg (u : State) (w : Word) : State.Progress [R.TIM_OFFSET] [] u (u.setReg R.TIM_OFFSET w) :=
    .of_frame (parts' := []) (u.setRegB_frame 0 w (by decide)) (State.outKept_of_eq (u.setReg_out _ _))
  exact (((State.TimStep.refl _ _ _ s).add (.of_bit s 3 1)).add (.of_progress (hreg _ _))).add (State.timStep_setTim _ _)

theorem State.solutionShown_tim : (s.solutionShown e drift).tim = { s.tim with drift } := by
  rw [State.solutionShown, State.setTim_tim, State.setReg_tim, State.setFld_tim]

theorem State.solutionShown_gnss : (s.solutionShown e drift).flag F.TIM_STATUS_GNSS_OK = true := by
  rw [State.solutionShown, State.setTim_flag, State.flag_setReg_other _ _ (by decide) (by decide) (by decide)]
  exact s.flag_setFld_one

theorem State.solutionShown_offset :
    (s.solutionShown e drift).reg R.TIM_OFFSET = BitVec.ofNat 32 (encodeSigned 32 (sat32 e)) :=
  (s.setFld F.TIM_STATUS_GNSS_OK 1).regB_setRegB_same 0 (a := R.TIM_OFFSET) _ (by decide)

theorem State.timStep_stepDropped : State.TimStep [6] [R.TIM_STATUS] [.tim] s (s.stepDropped e) := by
  rw [State.stepDropped]
  exact .ite s.timStep_pendOver (.refl _ _ _ s)

theorem State.stepDropped_tim : (s.stepDropped e).tim =
    { s.tim with pend := if s.tim.pend == some .step && e.natAbs ≤ 1000 then none else s.tim.pend } := by
  rw [State.stepDropped]
  split
  · exact s.pendOver_tim
  · rfl

/-- What a usable solution sets before the cascade's update (R183). -/
def State.offsetShown (s : State) (e drift : Int) : State := ((s.solutionShown e drift).offsetTaken e).stepDropped e

theorem State.timStep_offsetShown : State.TimStep [3, 6] [R.TIM_STATUS, R.TIM_OFFSET] [.tim] s (s.offsetShown e drift) :=
  (((State.TimStep.refl _ _ _ s).add (s.timStep_solutionShown e drift)).add (State.timStep_setTim _ _)).add (State.timStep_stepDropped _ e)

theorem State.offsetShown_tim : (s.offsetShown e drift).tim =
    { s.tim with
      drift
      offset := e
      inside := if e.natAbs ≤ 40 then s.tim.inside + 1 else 0
      pend := if s.tim.pend == some .step && e.natAbs ≤ 1000 then none else s.tim.pend } := by
  rw [State.offsetShown, State.stepDropped_tim, State.offsetTaken, State.setTim_tim, State.solutionShown_tim]

theorem State.offsetShown_gnss : (s.offsetShown e drift).flag F.TIM_STATUS_GNSS_OK = true :=
  ((State.timStep_stepDropped _ e).status 3 (by decide) (by decide)).trans (s.solutionShown_gnss e drift)

theorem State.offsetShown_offset : (s.offsetShown e drift).reg R.TIM_OFFSET = BitVec.ofNat 32 (encodeSigned 32 (sat32 e)) :=
  ((State.timStep_stepDropped _ e).progress.frame.1 0 R.TIM_OFFSET (by decide) (by decide) (by decide)).trans (s.solutionShown_offset e drift)

variable {s}

theorem State.timStep_discipline (hroom : s.expert Blk.TIM = true ∨ s.lpe.queue.length < 4096) :
    State.TimStep [] [R.LPE_SLOT_IN] [.lpe] s (s.discipline drift) := by
  rw [State.discipline_room hroom]
  exact .ite (.refl _ _ _ s)
    (.of_progress (((State.Progress.refl _ _ s).add s.progress_phaseInput).add (State.progress_updQueued _ _)))

theorem State.discipline_queue (hx : s.expert Blk.TIM = false) (hroom : s.lpe.queue.length < 4096) :
    (s.discipline drift).lpe.queue = s.lpe.queue ++ [⟨s.freqSlot, sat32 drift, 0, none⟩] := by
  rw [State.discipline_room (.inr hroom), hx, if_neg (by decide), State.updQueued, State.phaseInput_lpe]

theorem State.timStep_disciplineBegin :
    State.TimStep [] [R.LPE_SLOT_ACC, R.LPE_SLOT_OUT, R.LPE_SLOT_STAT] [.tim, .lpe] s (s.disciplineBegin e) :=
  ((State.TimStep.refl _ _ _ s).add (s.timStep_setTim _)).add (.of_progress (State.progress_timLoopsRestart _))

theorem State.disciplineBegin_mode : (s.disciplineBegin e).tim.mode = .disciplined :=
  congrArg TimSt.mode ((State.progress_timLoopsRestart (s.setTim _)).same .tim)

/-- Device time is set for the first time, and TIM begins to discipline. -/
def State.firstSet (s : State) (e drift : Int) : State :=
  (((s.solutionShown e drift).moveTime (taiPlus s.tai (-e))).disciplineBegin 0).setTim fun t => { t with everValid := true }

theorem State.timStep_firstSet : State.TimStep [3] [R.TIM_STATUS, R.TIM_OFFSET, R.TIM_TO_CFG, R.LPE_SLOT_ACC, R.LPE_SLOT_OUT, R.LPE_SLOT_STAT]
    [.tim, .grx, .tai, .lpe] s (s.firstSet e drift) :=
  ((((State.TimStep.refl _ _ _ s).add (s.timStep_solutionShown e drift)).add (State.timStep_moveTime _ _)).add
    (State.timStep_disciplineBegin 0)).add (State.timStep_setTim _ _)

theorem State.firstSet_tai : (s.firstSet e drift).tai = taiPlus s.tai (-e) := by
  have hbegun : (s.firstSet e drift).tai = ((s.solutionShown e drift).moveTime (taiPlus s.tai (-e))).tai :=
    (State.timStep_disciplineBegin 0).progress.same .tai
  exact hbegun.trans (State.moveTime_tai _ _)

theorem State.firstSet_tim : (s.firstSet e drift).tim.mode = .disciplined ∧ (s.firstSet e drift).tim.everValid = true :=
  ⟨State.disciplineBegin_mode 0, rfl⟩

end Parts

/-- A usable solution while disciplining. -/
theorem State.usableSolution_disciplined (hm : s.tim.mode = .disciplined) : s.usableSolution e drift =
    ((s.offsetShown e drift).discipline drift).qualUpdate := by
  rw [State.usableSolution]
  simp only [State.setTim_tim, State.setReg_tim, State.setFld_tim, hm]
  rfl

/-- The last epoch of the first setting (R184). -/
theorem State.usableSolution_first (hm : s.tim.mode = .none) (he : s.tim.everValid = false) (hx : s.expert Blk.TIM = false)
    (hrun : 100 ≤ s.tim.run) : s.usableSolution e drift =
      (s.firstSet e drift).validated := by
  have hlast : (decide (s.tim.run + 1 < epochs10s) || (s.solutionShown e drift).expert Blk.TIM) = false := by
    have hexp : (s.solutionShown e drift).expert Blk.TIM = s.expert Blk.TIM := (s.timStep_solutionShown e drift).progress.flag
    rw [hexp, hx, Bool.or_false]
    exact decide_eq_false (Nat.not_lt.mpr (Nat.succ_le_succ hrun))
  rw [State.usableSolution]
  simp only [State.setTim_tim, State.setReg_tim, State.setFld_tim, hm, he, Bool.false_eq_true, if_false]
  exact if_neg (ne_true_of_eq_false hlast)

/-- What a usable solution sets while disciplining (R183). -/
theorem State.usableSolution_disciplined_sets (hm : s.tim.mode = .disciplined) (hroom : s.expert Blk.TIM = true ∨ s.lpe.queue.length < 4096)
    {t : State} (ht : s.usableSolution e drift = t) : t.flag F.TIM_STATUS_GNSS_OK = true ∧
    t.reg R.TIM_OFFSET = BitVec.ofNat 32 (encodeSigned 32 (sat32 e)) ∧ t.tim.mode = .disciplined ∧ t.tim.offset = e ∧
    t.tim.inside = (if e.natAbs ≤ 40 then s.tim.inside + 1 else 0) ∧ t.tai = s.tai ∧ t.grx = s.grx ∧
    (s.expert Blk.TIM = false → t.lpe.queue = s.lpe.queue ++ [⟨s.freqSlot, sat32 drift, 0, none⟩]) ∧
    t.tim.pend = (if s.tim.pend == some .step && e.natAbs ≤ 1000 then none else s.tim.pend) := by
  rw [State.usableSolution_disciplined hm] at ht
  have hset := s.timStep_offsetShown e drift
  have hexp : (s.offsetShown e drift).expert Blk.TIM = s.expert Blk.TIM := hset.progress.flag
  have hlpe : (s.offsetShown e drift).lpe = s.lpe := hset.progress.same .lpe
  have hroom' : (s.offsetShown e drift).expert Blk.TIM = true ∨ (s.offsetShown e drift).lpe.queue.length < 4096 := by rwa [hexp, hlpe]
  have hfired := State.timStep_discipline drift hroom'
  have hqual := ((s.offsetShown e drift).discipline drift).timStep_qualUpdate
  obtain ⟨l, f, a, htim⟩ := ((s.offsetShown e drift).discipline drift).qualUpdate_tim
  have hkept : ((s.offsetShown e drift).discipline drift).tim = (s.offsetShown e drift).tim := hfired.progress.same .tim
  rw [ht, hkept, State.offsetShown_tim] at htim
  rw [ht] at hqual
  have hgnss := ((hqual.status 3 (by decide) (by decide)).trans (hfired.status 3 (by decide) (by decide))).trans (s.offsetShown_gnss e drift)
  have hreg : t.reg R.TIM_OFFSET = (s.offsetShown e drift).reg R.TIM_OFFSET :=
    (hqual.progress.frame.1 0 _ (by decide) (by decide) (by decide)).trans (hfired.progress.frame.1 0 _ (by decide) (by decide) (by decide))
  have hqueue : t.lpe = ((s.offsetShown e drift).discipline drift).lpe := hqual.progress.same .lpe
  have htai : t.tai = s.tai := (hqual.progress.same .tai).trans ((hfired.progress.same .tai).trans (hset.progress.same .tai))
  have hgrx : t.grx = s.grx := (hqual.progress.same .grx).trans ((hfired.progress.same .grx).trans (hset.progress.same .grx))
  rw [htim, hqueue]
  refine ⟨hgnss, hreg.trans (s.offsetShown_offset e drift), hm, rfl, rfl, htai, hgrx, fun hx => ?_, rfl⟩
  have hroom'' : (s.offsetShown e drift).lpe.queue.length < 4096 := hroom'.resolve_left (by rw [hexp, hx]; decide)
  rw [State.discipline_queue drift (hexp.trans hx) hroom'', hlpe, State.freqSlot_congr (hset.progress.same .sim)]

/-- What the first setting of device time sets (R184). -/
theorem State.usableSolution_first_sets (hm : s.tim.mode = .none) (he : s.tim.everValid = false) (hx : s.expert Blk.TIM = false)
    (hrun : 100 ≤ s.tim.run) {t : State} (ht : s.usableSolution e drift = t) : t.timeValid = true ∧ t.tai = taiPlus s.tai (-e) ∧
    t.tim.mode = .disciplined ∧ t.tim.everValid = true ∧ t.fld F.TIM_STEP_COUNT = s.fld F.TIM_STEP_COUNT := by
  rw [State.usableSolution_first hm he hx hrun] at ht
  obtain ⟨hmode, hever⟩ := s.firstSet_tim e drift
  have hset := s.timStep_firstSet e drift
  have hval := (s.firstSet e drift).timStep_validated
  obtain ⟨r, l, f, a, htim⟩ := (s.firstSet e drift).validated_tim
  subst ht
  rw [htim]
  exact ⟨State.validated_valid _, (hval.progress.same .tai).trans (s.firstSet_tai e drift), hmode, hever,
    hval.progress.fld.trans hset.progress.fld⟩

end Solution

end Sys2Proof.Machine
end

section
/-!
Steps and host sets of device time (R189, R192), the leap second and the oven (R190, R191). The last theorem settles O35.
-/

-- One body at a time: bodies that wait for the kernel side by side each hold a thread and its stack.
set_option Elab.async false

namespace Sys2Proof.Machine

/-! ## A host set applies (R192) -/

theorem taiPlus_sub (tai now : Nat) : taiPlus tai ((now : Int) - tai) = now := by
  rw [taiPlus]
  omega

/-- Host-set time, its change not yet made. -/
def State.hostHeld (s : State) (errUs : Nat) : State :=
  (s.pendOver.setFld F.TIM_STATUS_VERIFYING 0).setTim fun t =>
    { t with
      mode := .host, est0 := errUs * 1000, estAt := (s.pendOver.setFld F.TIM_STATUS_VERIFYING 0).mono, everValid := true, run := 0, fit := [],
      inside := 0 }

/-- A host set's change of device time is made. -/
def State.hostStepped (s : State) (d : Int) (errUs : Nat) : State := ((s.hostHeld errUs).setFld F.TIM_SET_CMD_RESULT 1).stepTime d

section HostSet

variable (s : State) (d : Int) (errUs : Nat)

theorem State.hostSet_eq : s.hostSet d errUs = (s.hostStepped d errUs).validated := rfl

theorem State.timStep_hostHeld : State.TimStep [5, 6] [R.TIM_STATUS] [.tim] s (s.hostHeld errUs) :=
  (((State.TimStep.refl _ _ _ s).add s.timStep_pendOver).add (.of_bit _ 5 0)).add (State.timStep_setTim _ _)

theorem State.hostHeld_tim : (s.hostHeld errUs).tim = { s.tim with
    pend := none, mode := .host, est0 := errUs * 1000, estAt := s.mono, everValid := true, run := 0, fit := [], inside := 0 } := by
  have hmono : (s.pendOver.setFld F.TIM_STATUS_VERIFYING 0).mono = s.mono := (State.setFld_mono _ _ _).trans (s.timStep_pendOver.progress.same .mono)
  rw [State.hostHeld, State.setTim_tim, State.setFld_tim, State.pendOver_tim, hmono]

theorem State.hostHeld_flag : (s.hostHeld errUs).flag F.TIM_STATUS_STEP_PEND = false := by
  rw [State.hostHeld, State.setTim_flag, (State.TimStep.of_bit _ 5 0).status 6 (by decide) (by decide), State.pendOver_flag]

theorem State.timStep_result (v : Nat) : State.TimStep [] [R.TIM_SET_CMD] [] s (s.setFld F.TIM_SET_CMD_RESULT v) :=
  .of_progress (s.progress_setFld F.TIM_SET_CMD_RESULT v)

theorem State.timStep_hostStepped : State.TimStep [5, 6] [R.TIM_STATUS, R.TIM_SET_CMD, R.TIM_TO_CFG, R.TIM_STEP] [.tim, .grx, .tai] s
    (s.hostStepped d errUs) :=
  (((State.TimStep.refl _ _ _ s).add (s.timStep_hostHeld errUs)).add (State.timStep_result _ 1)).add (State.timStep_stepTime _ d)

theorem State.hostStepped_tim : ∃ m e, (s.hostStepped d errUs).tim = { s.tim with
    pend := none, mode := .host, est0 := errUs * 1000, estAt := s.mono, everValid := true, run := 0, fit := [], inside := 0, outs := m
    lastEpoch := e } := by
  obtain ⟨m, e, htim⟩ := ((s.hostHeld errUs).setFld F.TIM_SET_CMD_RESULT 1).stepTime_tim d
  exact ⟨m, e, by rw [State.hostStepped, htim, State.setFld_tim, State.hostHeld_tim]⟩

theorem State.hostStepped_tai : (s.hostStepped d errUs).tai = taiPlus s.tai d := by
  have htai : ((s.hostHeld errUs).setFld F.TIM_SET_CMD_RESULT 1).tai = s.tai :=
    (State.setFld_tai _ _ _).trans ((s.timStep_hostHeld errUs).progress.same .tai)
  rw [State.hostStepped, State.stepTime_tai, htai]

theorem State.hostStepped_result : (s.hostStepped d errUs).fld F.TIM_SET_CMD_RESULT = 1 :=
  (State.timStep_stepTime _ d).progress.fld.trans (State.fld_setFld_fits _ (by decide))

theorem State.hostStepped_count : (s.hostStepped d errUs).fld F.TIM_STEP_COUNT = (s.fld F.TIM_STEP_COUNT + 1) % 256 := by
  rw [State.hostStepped, State.stepTime_count, (State.timStep_result _ 1).progress.fld, (s.timStep_hostHeld errUs).progress.fld]

theorem State.hostStepped_flag : (s.hostStepped d errUs).flag F.TIM_STATUS_STEP_PEND = false :=
  ((State.timStep_stepTime _ d).status 6 (by decide) (by decide)).trans
    (((State.timStep_result _ 1).status 6 (by decide) (by decide)).trans (s.hostHeld_flag errUs))

/-- What a host set that applies sets (R192). -/
theorem State.hostSet_sets {t : State} (ht : s.hostSet d errUs = t) : t.tai = taiPlus s.tai d ∧ t.timeValid = true ∧
    t.fld F.TIM_SET_CMD_RESULT = 1 ∧ t.fld F.TIM_QUAL_QUAL = 7 ∧ t.timEst = some (errUs * 1000) ∧ t.tim.pend = none ∧
    t.flag F.TIM_STATUS_STEP_PEND = false ∧ t.fld F.TIM_STEP_COUNT = (s.fld F.TIM_STEP_COUNT + 1) % 256 ∧ t.pend Ev.TIM_STEPPED = true := by
  have hstepped := s.timStep_hostStepped d errUs
  have hval := (s.hostStepped d errUs).timStep_validated
  have hvalid := (s.hostStepped d errUs).validated_valid
  obtain ⟨m, e, htim⟩ := s.hostStepped_tim d errUs
  obtain ⟨r, l, f, a, hkept⟩ := (s.hostStepped d errUs).validated_tim
  obtain ⟨r', hearlier⟩ := (s.hostStepped d errUs).timeBecomesValid_tim
  have hqual : (s.hostStepped d errUs).timeBecomesValid.timQual = 7 := by
    rw [State.timQual, hearlier, htim]
  rw [State.hostSet_eq] at ht
  rw [htim] at hkept
  have hmono : (s.hostStepped d errUs).validated.mono = s.mono := (hval.progress.same .mono).trans (hstepped.progress.same .mono)
  have hest : (s.hostStepped d errUs).validated.timEst = some (errUs * 1000) := by
    rw [State.timEst_host hvalid (by rw [hkept]) (by rw [hkept, hmono]), hkept]
  subst ht
  refine ⟨(hval.progress.same .tai).trans (s.hostStepped_tai d errUs), hvalid, hval.progress.fld.trans (s.hostStepped_result d errUs),
    (State.validated_qual _).trans hqual, hest, by rw [hkept],
    (hval.status 6 (by decide) (by decide)).trans (s.hostStepped_flag d errUs), hval.progress.fld.trans (s.hostStepped_count d errUs),
    hval.progress.pend _ (by decide) (State.stepTime_pend _ d)⟩

end HostSet

/-! ## `TIM_SET_CMD` (R192) -/

/-- `TIM_SET_CMD` as a host access sees it. -/
def timSetDesc : RegDesc :=
  ⟨R.TIM_SET_CMD, 1, none, [⟨F.TIM_SET_CMD_OP, .wo, .any⟩, ⟨F.TIM_SET_CMD_ERR_US, .rw, .any⟩], 0xCFFFFFF⟩

theorem descAt_timSet : Regs.descAt R.TIM_SET_CMD = some timSetDesc := by decide +kernel

/-- The word of SET with its error. -/
def setWord (errUs : Nat) : Word := F.TIM_SET_CMD_OP.put (F.TIM_SET_CMD_ERR_US.put 0 errUs) 1

/-- A host set is answered with its wait. -/
def State.setAnswered (s : State) : State := (s.setFld F.TIM_SET_CMD_RESULT 3).setFld F.TIM_STATUS_STEP_PEND 1

/-- A host set that waits. -/
def State.setDeferred (s : State) (now errUs : Nat) : State :=
  (s.setAnswered.setTim fun t => { t with pend := some (.set now s.mono errUs) }).raise Ev.TIM_STEP_DEFERRED 0

section SetCommand

variable {s : State} {errUs now : Nat}

theorem setWord_op : F.TIM_SET_CMD_OP.get (setWord errUs) = 1 := Fld.get_put_same _ _ 1 (by decide) (by decide)

theorem setWord_err (h : errUs < 2 ^ 24) : F.TIM_SET_CMD_ERR_US.get (setWord errUs) = errUs := by
  rw [setWord, Fld.get_put_other _ _ _ _ (by decide) (by decide) (by decide) (by decide), Fld.get_put_same _ _ _ (by decide) (by decide)]
  exact Nat.mod_eq_of_lt h

theorem State.hostReg_timSet (w : Word) : s.hostReg R.TIM_SET_CMD w = (s.setFld F.TIM_SET_CMD_ERR_US (F.TIM_SET_CMD_ERR_US.get w), true) :=
  (State.hostReg_own (d := timSetDesc) descAt_timSet (by decide) w).trans (s.regStore_unranged 0 _ w (by decide))

theorem exec_timSet (hw : s.works Blk.TIM) (herr : errUs < 2 ^ 24) :
    exec (.timSet errUs) s = .next (s.setFld F.TIM_SET_CMD_ERR_US errUs).timSet := by
  have hon : (s.setFld F.TIM_SET_CMD_ERR_US errUs).blkOn Blk.TIM = true := (s.progress_setFld F.TIM_SET_CMD_ERR_US errUs).flag.trans hw.2
  have hact : (decide (F.TIM_SET_CMD_OP.get (setWord errUs) = 1) && (s.setFld F.TIM_SET_CMD_ERR_US errUs).blkOn Blk.TIM) = true := by
    rw [setWord_op, hon]
    rfl
  refine (whileRunning_eq _ hw.1).trans (congrArg Host.Outcome.next ?_)
  change s.timSetCmd (setWord errUs) = _
  rw [State.timSetCmd, State.hostReg_timSet, setWord_err herr, thenIf, if_pos rfl]
  exact if_pos hact

theorem State.setPermitted_congr {regs : List Nat} {parts : List Part} {t : State} (h : State.Progress regs parts s t)
    (hlevel : (Blk.level Blk.TIM).addr ∉ regs := by decide) (hqual : R.TIM_QUAL ∉ regs := by decide) : t.setPermitted = s.setPermitted := by
  have hexp : t.expert Blk.TIM = s.expert Blk.TIM := h.flag hlevel
  rw [State.setPermitted, hexp, h.fld hqual, State.setPermitted]

theorem State.timSet_refused (h : s.fld F.TIM_SET_CMD_ERR_US = 0 ∨ s.setPermitted = false) : s.timSet = s.setFld F.TIM_SET_CMD_RESULT 2 := by
  refine if_pos ?_
  rcases h with h | h <;> simp [h]

/-- The time a host set asks for. -/
def State.askedTime (s : State) : Nat := s.fld F.TIM_SET_SEC_SEC * nsPerSec + s.fld F.TIM_SET_NS_NS

theorem State.timSet_eq : s.timSet =
    if s.fld F.TIM_SET_CMD_ERR_US = 0 || !s.setPermitted then s.setFld F.TIM_SET_CMD_RESULT 2
    else if s.pendOver.stepBlocked ((s.pendOver.askedTime : Int) - s.pendOver.tai)
    then s.pendOver.setDeferred s.pendOver.askedTime (s.fld F.TIM_SET_CMD_ERR_US)
    else s.pendOver.hostSet ((s.pendOver.askedTime : Int) - s.pendOver.tai) (s.fld F.TIM_SET_CMD_ERR_US) := rfl

/-- A host set is kept or applied as the fleet runs or not (R192). -/
theorem State.timSet_taken (herr : s.fld F.TIM_SET_CMD_ERR_US = errUs) (hne : 0 < errUs) (hp : s.setPermitted = true) : s.timSet =
    if s.stepBlocked ((s.askedTime : Int) - s.tai) then s.pendOver.setDeferred s.askedTime errUs
    else s.pendOver.hostSet ((s.askedTime : Int) - s.tai) errUs := by
  have hover := s.timStep_pendOver
  have hgo : ¬(decide (errUs = 0) || !s.setPermitted) = true := by simp [hne.ne', hp]
  have htai : s.pendOver.tai = s.tai := hover.progress.same .tai
  have hasked : s.pendOver.askedTime = s.askedTime := by
    rw [State.askedTime, hover.progress.fld, hover.progress.fld, State.askedTime]
  rw [State.timSet_eq, herr, if_neg hgo, hasked, htai, hover.stepBlocked]

theorem State.timStep_setAnswered : State.TimStep [6] [R.TIM_STATUS, R.TIM_SET_CMD] [] s s.setAnswered :=
  ((State.TimStep.refl _ _ _ s).add (s.timStep_result 3)).add (.of_bit _ 6 1)

theorem State.setAnswered_result : s.setAnswered.fld F.TIM_SET_CMD_RESULT = 3 :=
  (State.TimStep.of_bit _ 6 1).progress.fld.trans (s.fld_setFld_fits (by decide))

theorem State.setAnswered_flag : s.setAnswered.flag F.TIM_STATUS_STEP_PEND = true := State.flag_setFld_one _

/-- A permitted host set is taken: its error is stored, and what was pending is over. -/
def State.setTaken (s : State) (errUs : Nat) : State := (s.setFld F.TIM_SET_CMD_ERR_US errUs).pendOver

theorem State.timStep_errSet : State.TimStep [] [R.TIM_SET_CMD] [] s (s.setFld F.TIM_SET_CMD_ERR_US errUs) :=
  .of_progress (s.progress_setFld F.TIM_SET_CMD_ERR_US errUs)

theorem State.timStep_setTaken : State.TimStep [6] [R.TIM_STATUS, R.TIM_SET_CMD] [.tim] s (s.setTaken errUs) :=
  ((State.TimStep.refl _ _ _ s).add State.timStep_errSet).add (State.timStep_pendOver _)

theorem State.setTaken_tim : (s.setTaken errUs).tim = { s.tim with pend := none } := by rw [State.setTaken, State.pendOver_tim, State.setFld_tim]

theorem exec_timSet_taken (hw : s.works Blk.TIM) (hpos : 0 < errUs) (hlt : errUs < 2 ^ 24) (hp : s.setPermitted = true) :
    exec (.timSet errUs) s = .next (if s.stepBlocked ((s.askedTime : Int) - s.tai) then (s.setTaken errUs).setDeferred s.askedTime errUs
      else (s.setTaken errUs).hostSet ((s.askedTime : Int) - s.tai) errUs) := by
  have hset : State.TimStep [] [R.TIM_SET_CMD] [] s (s.setFld F.TIM_SET_CMD_ERR_US errUs) := State.timStep_errSet
  have hasked : (s.setFld F.TIM_SET_CMD_ERR_US errUs).askedTime = s.askedTime := by
    rw [State.askedTime, hset.progress.fld, hset.progress.fld, State.askedTime]
  have htai : (s.setFld F.TIM_SET_CMD_ERR_US errUs).tai = s.tai := hset.progress.same .tai
  rw [exec_timSet hw hlt, State.timSet_taken (s.fld_setFld_fits hlt) hpos ((State.setPermitted_congr hset.progress).trans hp), hasked, htai,
    hset.stepBlocked, State.setTaken]

/-- A host set refused leaves its result and its error (R192). -/
theorem exec_timSet_refused (hw : s.works Blk.TIM) (hlt : errUs < 2 ^ 24) (hbad : errUs = 0 ∨ s.setPermitted = false) :
    exec (.timSet errUs) s = .next ((s.setFld F.TIM_SET_CMD_ERR_US errUs).setFld F.TIM_SET_CMD_RESULT 2) := by
  have hset : State.TimStep [] [R.TIM_SET_CMD] [] s (s.setFld F.TIM_SET_CMD_ERR_US errUs) := State.timStep_errSet
  rw [exec_timSet hw hlt, State.timSet_refused]
  rwa [s.fld_setFld_fits hlt, State.setPermitted_congr hset.progress]

/-- What a host set that waits leaves (R192). -/
theorem State.setDeferred_sets {t : State} (ht : s.setDeferred now errUs = t) : t.tai = s.tai ∧ t.fld F.TIM_SET_CMD_RESULT = 3 ∧
    t.flag F.TIM_STATUS_STEP_PEND = true ∧ t.tim = { s.tim with pend := some (.set now s.mono errUs) } ∧
    t.pend Ev.TIM_STEP_DEFERRED = true := by
  have hans := s.timStep_setAnswered
  have hset := (s.setAnswered.timStep_setTim fun t => { t with pend := some (.set now s.mono errUs) }).add
    (State.timStep_raise _ Ev.TIM_STEP_DEFERRED 0)
  have htim : (s.setDeferred now errUs).tim = { s.setAnswered.tim with pend := some (.set now s.mono errUs) } := by
    rw [State.setDeferred, State.raise_tim _ _ (by decide), State.setTim_tim]
  have hkept : s.setAnswered.tim = s.tim := hans.progress.same .tim
  rw [hkept] at htim
  subst ht
  exact ⟨(hset.progress.same .tai).trans (hans.progress.same .tai), hset.progress.fld.trans s.setAnswered_result,
    (hset.status 6 (by decide) (by decide)).trans s.setAnswered_flag, htim, State.pend_raise _ _ _⟩

end SetCommand

/-! ## A pending change is tried (R189) -/

/-- A step is made. -/
def State.stepMade (s : State) (d : Int) : State := (s.pendOver.stepTime d).setTim fun t => { t with offset := 0 }

/-- A change that waits shows, with event 118 once. -/
def State.stepWaits (s : State) : State :=
  if s.flag F.TIM_STATUS_STEP_PEND then s else (s.setFld F.TIM_STATUS_STEP_PEND 1).raise Ev.TIM_STEP_DEFERRED 0

section Tried

variable {s : State} {p : TimPend} {at' now errUs : Nat}

theorem exec_stepApply (hs : s.running = true) (hp : s.tim.pend = some p) (he : s.tim.edge = some at')
    (hd : s.passed at' 500000000 = true) : exec .stepApply s = .next (s.pendTry p) := by
  refine (whileRunning_eq _ hs).trans (congrArg Host.Outcome.next ?_)
  simp only [hp, he, hd, if_true]

theorem State.pendTry_step : s.pendTry .step = if s.tim.offset.natAbs ≤ 1000 then s.pendOver
    else if s.stepBlocked (-s.tim.offset) then s.stepWaits else s.stepMade (-s.tim.offset) := by
  have hguard : (TimPend.step == .step && decide (s.tim.offset.natAbs ≤ 1000)) = decide (s.tim.offset.natAbs ≤ 1000) := Bool.true_and _
  rw [State.pendTry, hguard]
  simp only [decide_eq_true_eq]
  rfl

/-- A host set that waited applies advanced by the local clock (R192). -/
theorem State.pendTry_set {waited : Nat} (hb : s.stepBlocked (((now + (s.mono - waited) : Nat) : Int) - s.tai) = false) :
    s.pendTry (.set now waited errUs) = s.hostSet (((now + (s.mono - waited) : Nat) : Int) - s.tai) errUs := by
  have hguard : ¬(TimPend.set now waited errUs == .step && decide (s.tim.offset.natAbs ≤ 1000)) = true := by simp
  rw [State.pendTry, if_neg hguard]
  exact if_neg (ne_true_of_eq_false hb)

theorem State.stepBlocked_running {d : Int} (hd : 1000000 ≤ d.natAbs) (hon : s.blkOn Blk.AUT = true) (hrun : s.fleetState = Tense.RUN) :
    s.stepBlocked d = true := by
  simp [State.stepBlocked, hd, hon, hrun]

/-- What a step that waits leaves (R189). -/
theorem State.stepWaits_sets {t : State} (ht : s.stepWaits = t) : t.tai = s.tai ∧ t.tim = s.tim ∧ t.flag F.TIM_STATUS_STEP_PEND = true ∧
    (s.flag F.TIM_STATUS_STEP_PEND = false → t.pend Ev.TIM_STEP_DEFERRED = true) := by
  subst ht
  rw [State.stepWaits]
  split
  next h => exact ⟨rfl, rfl, h, fun hn => absurd h (ne_true_of_eq_false hn)⟩
  next =>
    have hset := (State.TimStep.of_bit s 6 1).add (State.timStep_raise _ Ev.TIM_STEP_DEFERRED 0)
    exact ⟨hset.progress.same .tai, hset.progress.same .tim,
      ((State.timStep_raise _ _ _).status 6 (by decide) (by decide)).trans s.flag_setFld_one, fun _ => State.pend_raise _ _ _⟩

/-- What a step that is made sets (R189). -/
theorem State.stepMade_sets {d : Int} {t : State} (ht : s.stepMade d = t) : t.tai = taiPlus s.tai d ∧ t.tim.offset = 0 ∧ t.tim.pend = none ∧
    t.flag F.TIM_STATUS_STEP_PEND = false ∧ t.fld F.TIM_STEP_COUNT = (s.fld F.TIM_STEP_COUNT + 1) % 256 ∧
    t.fld F.TIM_STEP_LAST_NS = encodeSigned 24 (clampInt (-8388608) 8388607 d) ∧ t.pend Ev.TIM_STEPPED = true := by
  have hover := s.timStep_pendOver
  have hstep := s.pendOver.timStep_stepTime d
  have hset := (s.pendOver.stepTime d).timStep_setTim fun t => { t with offset := 0 }
  obtain ⟨m, e, htim⟩ := s.pendOver.stepTime_tim d
  have htai : s.pendOver.tai = s.tai := hover.progress.same .tai
  have hmade : (s.stepMade d).tim = { s.tim with pend := none, outs := m, lastEpoch := e, offset := 0 } := by
    rw [State.stepMade, State.setTim_tim, htim, State.pendOver_tim]
  subst ht
  rw [hmade]
  refine ⟨(hset.progress.same .tai).trans ((s.pendOver.stepTime_tai d).trans (by rw [htai])), rfl, rfl,
    (hset.status 6 (by decide) (by decide)).trans ((hstep.status 6 (by decide) (by decide)).trans s.pendOver_flag), ?_,
    hset.progress.fld.trans (s.pendOver.stepTime_last d), hset.progress.pend _ (by decide) (s.pendOver.stepTime_pend d)⟩
  rw [← hover.progress.fld (f := F.TIM_STEP_COUNT)]
  exact hset.progress.fld.trans (s.pendOver.stepTime_count d)

theorem State.pendOver_frame : State.Frame [R.TIM_STATUS] [.tim] s s.pendOver :=
  ((State.Frame.refl _ _ s).add (s.setTim_frame _)).add (State.setFld_frame_at _ _ _ 0)

end Tried

/-! ## No solution in time, and the end of validity (R184, R186) -/

/-- Time is not valid any more. -/
def State.timeLost (s : State) : State :=
  ((s.setFld F.TIM_STATUS_VALID 0).setFld F.TIM_STATUS_VERIFYING 0).setTim fun t => { t with mode := .none, run := 0, fit := [], inside := 0 }

/-- PPS_OUT goes low, and event 113 says so. -/
def State.lossShown (s : State) : State := (s.emit (.pin .ppsOut false)).raise Ev.TIM_TIME_INVALID 0

section Loss

variable {s : State}

theorem exec_timeSolutionTimeout (hs : s.running = true) (hlate : ∀ e, s.tim.lastEpoch = some e → e < 100 * ((s.devClause - 12) / 100))
    (hm : s.tim.mode = .disciplined) : exec .timeSolutionTimeout s = .next (s.noSolution.holdover 4) := by
  have hmode : (s.noSolution.tim.mode == .disciplined) = true := by
    rw [State.noSolution_tim]
    exact beq_iff_eq.mpr hm
  have hmissed : (match s.tim.lastEpoch with | some e => decide (e < 100 * ((s.devClause - 12) / 100)) | none => true) = true := by
    cases h : s.tim.lastEpoch with
    | none => rfl
    | some e => exact decide_eq_true (hlate e h)
  exact (whileRunning_eq _ hs).trans (congrArg Host.Outcome.next ((if_pos hmissed).trans (if_pos hmode)))

theorem exec_timeInvalid {e : Nat} (hs : s.running = true) (he : s.timEst = some e) (hpast : s.fld F.TIM_DISC_INV_10US * 10000 < e) :
    exec .timeInvalid s = .next s.timeLost.lossShown.qualUpdate := by
  refine (whileRunning_eq _ hs).trans (congrArg Host.Outcome.next ?_)
  simp only [he]
  exact if_neg (Nat.not_le.mpr hpast)

section Parts

variable (s)

theorem State.timeLost_mode : s.timeLost.tim.mode = .none := by
  rw [State.timeLost, State.setTim_tim]

theorem State.timeLost_valid : s.timeLost.timeValid = false := by
  rw [State.timeLost, (State.timStep_setTim _ _).timeValid, (State.TimStep.of_bit _ 5 0).timeValid]
  exact s.flag_setFld_zero

theorem State.timStep_lossShown : State.TimStep [] [] [] s s.lossShown :=
  .of_progress (((State.Progress.refl _ _ s).add (s.progress_emit _)).add (State.progress_raise _ _ 0))

theorem State.lossShown_out : .pin .ppsOut false ∈ s.lossShown.out :=
  (State.progress_raise (s.emit (.pin .ppsOut false)) Ev.TIM_TIME_INVALID 0).out List.mem_cons_self

end Parts

/-- What the end of validity leaves (R184). -/
theorem State.timeLost_sets {t : State} (ht : s.timeLost.lossShown.qualUpdate = t) : t.timeValid = false ∧ t.tim.mode = .none ∧
    t.fld F.TIM_QUAL_QUAL = 0 ∧ t.flag F.TIM_STATUS_HOLDOVER = false ∧ t.pend Ev.TIM_TIME_INVALID = true ∧ .pin .ppsOut false ∈ t.out := by
  have hshown := s.timeLost.timStep_lossShown
  have hqual := s.timeLost.lossShown.timStep_qualUpdate
  have hmode : s.timeLost.lossShown.tim.mode = .none := (congrArg TimSt.mode (hshown.progress.same .tim)).trans s.timeLost_mode
  have hlevel : s.timeLost.lossShown.timQual = 0 := by
    rw [State.timQual, hmode]
  subst ht
  refine ⟨hqual.timeValid.trans (hshown.timeValid.trans s.timeLost_valid), (State.qualUpdate_mode _).trans hmode,
    (State.qualUpdate_qual _).trans hlevel, ?_,
    hqual.progress.pend _ (by decide) (State.pend_raise _ _ _), hqual.progress.out s.timeLost.lossShown_out⟩
  rw [State.qualUpdate_holdover, hmode]
  rfl

theorem State.clauseNow_of_not_valid (h : s.timeValid = false) : s.clauseNow = none := if_neg (ne_true_of_eq_false h)

end Loss

/-! ## The level in holdover (R186) -/

/-- The level of an estimate in holdover. -/
def heldLevel (e : Nat) : Nat := if e ≤ 100 then 3 else if e ≤ 1000 then 4 else if e ≤ 10000 then 5 else 6

theorem heldLevel_ne_locked (e : Nat) : heldLevel e ≠ Qual.LOCKED := by
  unfold heldLevel
  split_ifs <;> decide

theorem qualClass_heldLevel (e : Nat) : qualClass (heldLevel e) = if e ≤ 1000 then 7 else if e ≤ 10000 then 52 else 187 := by
  unfold heldLevel
  split_ifs <;> simp [qualClass] <;> omega

theorem State.timQual_holdover {s : State} {e : Nat} (hm : s.tim.mode = .holdover) (he : s.timEst = some e) : s.timQual = heldLevel e := by
  rw [State.timQual, hm, he]
  rfl

/-! ## The leap second (R191) -/

/-- The offset after the announced second. -/
def State.leapOffset (s : State) : Nat := if s.flag F.TIM_UTC_LEAP_DIR then s.fld F.TIM_UTC_OFFSET_S + 255 else s.fld F.TIM_UTC_OFFSET_S + 1

/-- The announced second is taken. -/
def State.leapTaken (s : State) : State := (s.setFld F.TIM_UTC_OFFSET_S s.leapOffset).setFld F.TIM_UTC_LEAP_PEND 0

/-- The offset after the announced second is kept, with event 120. -/
def State.leapKept (s : State) : State := s.leapTaken.utcKeep.raise Ev.TIM_UTC_CHANGE 0

section Leap

variable {s : State}

theorem exec_leapSecond (hs : s.running = true) (hp : s.flag F.TIM_UTC_LEAP_PEND = true) (hsec : s.fld F.TIM_LEAP_SEC ≤ s.tai / nsPerSec) :
    exec .leapSecond s = .next s.leapKept := by
  have hcond : (s.flag F.TIM_UTC_LEAP_PEND && decide (s.fld F.TIM_LEAP_SEC ≤ s.tai / nsPerSec)) = true := by
    rw [hp, decide_eq_true hsec]
    rfl
  exact (whileRunning_eq _ hs).trans (congrArg Host.Outcome.next (if_pos hcond))

theorem State.leapTaken_offset : s.leapTaken.fld F.TIM_UTC_OFFSET_S = s.leapOffset % 256 := by
  rw [State.leapTaken, State.fld_setFld_apart (f := F.TIM_UTC_LEAP_PEND) (g := F.TIM_UTC_OFFSET_S) _ _ (by decide) rfl (by decide) (by decide)
    (by decide) (by decide)]
  exact s.fld_setFld_same _ (by decide) (by decide) (by decide)

theorem State.progress_utcKeep (s : State) : State.Progress [] [.nand] s s.utcKeep := .of_frame s.utcKeep_frame (State.outKept_of_eq rfl)

theorem State.progress_leapTaken : State.Progress [R.TIM_UTC] [] s s.leapTaken :=
  ((State.Progress.refl _ _ s).add (s.progress_setFld F.TIM_UTC_OFFSET_S _)).add (State.progress_setFld _ F.TIM_UTC_LEAP_PEND 0)

theorem State.progress_leapKept : State.Progress [] [.nand] s.leapTaken s.leapKept :=
  ((State.Progress.refl _ _ _).add s.leapTaken.progress_utcKeep).add (State.progress_raise _ _ 0)

/-- What the announced second leaves (R191). -/
theorem State.leapKept_sets {t : State} (ht : s.leapKept = t) : t.fld F.TIM_UTC_OFFSET_S = s.leapOffset % 256 ∧
    t.flag F.TIM_UTC_LEAP_PEND = false ∧ t.nand.utc = t.reg R.TIM_UTC ∧ t.pend Ev.TIM_UTC_CHANGE = true ∧
    State.ReportFrame [R.TIM_UTC] [.nand] s t := by
  have hkept := s.progress_leapKept
  have hraise := State.progress_raise s.leapTaken.utcKeep Ev.TIM_UTC_CHANGE 0
  have hreg : s.leapKept.reg R.TIM_UTC = s.leapTaken.reg R.TIM_UTC := hkept.frame.1 0 _ (by decide) (by decide) (by decide)
  have hnand : s.leapKept.nand = s.leapTaken.utcKeep.nand := hraise.same .nand
  subst ht
  refine ⟨hkept.fld.trans s.leapTaken_offset, hkept.flag.trans (State.flag_setFld_zero _), ?_, State.pend_raise _ _ _,
    (((State.Progress.refl _ _ s).add s.progress_leapTaken).add hkept).frame⟩
  rw [hnand, hreg, State.utcKeep_utc]

end Leap

/-! ## The oven (R190) -/

/-- OCXO_READY shows. -/
def State.ovenReady (s : State) : State := s.setFld F.TIM_STATUS_OCXO_READY 1

section Oven

variable {s : State}

theorem State.progress_ovenReady : State.Progress [R.TIM_STATUS] [] s s.ovenReady := s.progress_setFld F.TIM_STATUS_OCXO_READY 1

theorem State.ovenReady_ready : s.ovenReady.flag F.TIM_STATUS_OCXO_READY = true := s.flag_setFld_one

theorem State.freqOn_of_ready (h : s.flag F.TIM_STATUS_OCXO_READY = true) : s.freqOn = s.flag F.TIM_OUT_FREQ_EN := by
  rw [State.freqOn, h, Bool.true_and]

/-- FREQ_OUT opens where it is enabled; PPS_OUT stays. -/
theorem State.frontOutputs_ready (h : s.flag F.TIM_STATUS_OCXO_READY = false) :
    s.frontOutputs State.ovenReady = if s.flag F.TIM_OUT_FREQ_EN then s.ovenReady.emit (.pin .freqOut true) else s.ovenReady := by
  have hoff : s.freqOn = false := by rw [State.freqOn, h, Bool.false_and]
  have hon : s.ovenReady.freqOn = s.flag F.TIM_OUT_FREQ_EN := by
    rw [State.freqOn_of_ready s.ovenReady_ready, s.progress_ovenReady.flag]
  have hpps : s.ovenReady.flag F.TIM_OUT_PPS_EN = s.flag F.TIM_OUT_PPS_EN := s.progress_ovenReady.flag
  rw [State.frontOutputs]
  have hemit : (s.ovenReady.emit (.pin .freqOut true)).flag F.TIM_OUT_PPS_EN = s.flag F.TIM_OUT_PPS_EN := hpps
  cases hf : s.flag F.TIM_OUT_FREQ_EN <;> simp [hoff, hon, hf, hpps, hemit]

theorem State.progress_frontOutputs_ready (h : s.flag F.TIM_STATUS_OCXO_READY = false) :
    State.Progress [] [] s.ovenReady (s.frontOutputs State.ovenReady) := by
  rw [State.frontOutputs_ready h]
  split
  · exact State.progress_emit _ _
  · exact .refl _ _ _

theorem exec_ocxoReady (hs : s.running = true) (h : s.flag F.TIM_STATUS_OCXO_READY = false) :
    exec .ocxoReady s = .next ((s.frontOutputs State.ovenReady).raise Ev.TIM_OCXO_READY 0) :=
  (whileRunning_eq _ hs).trans (congrArg Host.Outcome.next (if_neg (ne_true_of_eq_false h)))

/-- What the oven's readiness leaves (R190). -/
theorem State.ovenReady_sets (h : s.flag F.TIM_STATUS_OCXO_READY = false) {t : State}
    (ht : (s.frontOutputs State.ovenReady).raise Ev.TIM_OCXO_READY 0 = t) : t.flag F.TIM_STATUS_OCXO_READY = true ∧
    t.pend Ev.TIM_OCXO_READY = true ∧ t.freqOn = s.flag F.TIM_OUT_FREQ_EN ∧
    (s.flag F.TIM_OUT_FREQ_EN = true → .pin .freqOut true ∈ t.out) ∧ State.ReportFrame [R.TIM_STATUS] [] s t := by
  have hraise := State.progress_raise (s.frontOutputs State.ovenReady) Ev.TIM_OCXO_READY 0
  have hshown := (State.progress_frontOutputs_ready h).add hraise
  have hset := s.progress_ovenReady.add hshown
  have hready := hshown.flag.trans s.ovenReady_ready
  subst ht
  refine ⟨hready, State.pend_raise _ _ _, (State.freqOn_of_ready hready).trans hset.flag, fun hen => hraise.out ?_, hset.frame⟩
  rw [State.frontOutputs_ready h, if_pos hen]
  exact List.mem_cons_self

end Oven

/-- Settles O35: a solution and its absence by what TIM's next mode sets, changes of device time by the step that makes them, a host set by
what its error and the fleet permit; the level, the leap second and the oven by their own writes. -/
theorem timeKeeping : Obligations.TimeKeeping := by
  unfold Obligations.TimeKeeping
  refine ⟨fun s sol e hw hsol halarm hu href hm he hroom => ?disciplines, fun s sol hw hsol hm hv hbad => ?unusable,
    fun s sol hw hsol halarm hu hm hever hx hrun => ?firstSet, fun s epoch h => exec_timeSolutionRx_none h, fun s hs hlate hm hv => ?late,
    fun s e hs he hpast => ?invalid, fun s e hs he hm => ?level, fun s at' hs hp hedge hpass hbig hgo => ?made,
    fun s at' hs hp hedge hpass hbig hon hrun => ?waits, fun s at' hs hp hedge hpass hsmall => ?cancelled,
    fun s errUs now hw hpos hlt hperm hnow hgo => ?hostSets, fun s errUs hw hlt hbad => ?hostRefused,
    fun s errUs now hw hpos hlt hperm hnow hblock => ?hostWaits, fun s at' now p errUs hs hp hedge hle hpass hgo => ?hostApplies,
    fun s hs hp hsec => ⟨_, exec_leapSecond hs hp hsec, State.leapKept_sets rfl⟩, fun s hs h => ?oven⟩
  case disciplines =>
    have htaken := s.timStep_solTaken sol.epoch
    have hexp : (s.solTaken sol.epoch).expert Blk.TIM = s.expert Blk.TIM := htaken.progress.flag
    obtain ⟨hgnss, hreg, hmode, hoff, hin, htai, hgrx, hqueue, hpend⟩ :=
      State.usableSolution_disciplined_sets (s := s.solTaken sol.epoch) (e := e) (drift := sol.drift) hm (by rwa [hexp]) rfl
    have ht := exec_timeSolutionRx hw hsol
    rw [State.takeSolution_usable halarm hu (.inl href), ← he] at ht
    rw [hexp] at hqueue
    refine ⟨_, ht, hgnss, hreg, hmode, hoff, hin, htai, hgrx, hqueue, fun hstep => ?_⟩
    have hstep' : (s.solTaken sol.epoch).tim.pend = some .step := hstep
    rw [hpend, hstep']
    simp
  case unusable =>
    obtain ⟨cause, htake⟩ := State.takeSolution_unusable hm hbad
    have htaken := s.timStep_solTaken sol.epoch
    have ht := exec_timeSolutionRx hw hsol
    rw [htake] at ht
    exact ⟨_, ht, State.noSolution_holdover (s := s.solTaken sol.epoch) hm (htaken.timeValid.trans hv) cause rfl⟩
  case firstSet =>
    have htaken := s.timStep_solTaken sol.epoch
    have hexp : (s.solTaken sol.epoch).expert Blk.TIM = s.expert Blk.TIM := htaken.progress.flag
    have hcount : (s.solTaken sol.epoch).fld F.TIM_STEP_COUNT = s.fld F.TIM_STEP_COUNT := htaken.progress.fld
    obtain ⟨hvalid, htai, hmode, hset, hkept⟩ := State.usableSolution_first_sets (s := s.solTaken sol.epoch)
      (e := sol.offset - s.fld F.TIM_CAL_ANT_NS) (drift := sol.drift) hm hever (hexp.trans hx) hrun rfl
    have ht := exec_timeSolutionRx hw hsol
    rw [State.takeSolution_usable halarm hu (.inr hever)] at ht
    exact ⟨_, ht, hvalid, htai, hmode, hset, hkept.trans hcount⟩
  case late =>
    obtain ⟨hgnss, hshown, hmode, hest, hat, -, htai, -⟩ := State.noSolution_holdover hm hv 4 rfl
    exact ⟨_, exec_timeSolutionTimeout hs hlate hm, hgnss, hshown, hmode, hest, hat, htai⟩
  case invalid =>
    obtain ⟨hvalid, hset⟩ := State.timeLost_sets (s := s) rfl
    exact ⟨_, exec_timeInvalid hs he hpast, hvalid, State.clauseNow_of_not_valid hvalid, hset⟩
  case level =>
    have hq := State.timQual_holdover hm he
    obtain ⟨hprog, hchange⟩ := State.qualUpdate_unlocked (s := s) (by rw [hq]; exact heldLevel_ne_locked e)
    have hshown : s.qualUpdate.fld F.TIM_QUAL_QUAL = heldLevel e := s.qualUpdate_qual.trans hq
    rw [hq, qualClass_heldLevel] at hchange
    exact ⟨_, whileRunning_eq _ hs, hshown, fun hne => hchange (hshown ▸ hne), hprog.frame.mono (by decide) (by decide)⟩
  case made =>
    have ht := exec_stepApply hs hp hedge hpass
    rw [State.pendTry_step, if_neg (Nat.not_le.mpr hbig), hgo, if_neg Bool.false_ne_true] at ht
    exact ⟨_, ht, State.stepMade_sets rfl⟩
  case waits =>
    have ht := exec_stepApply hs hp hedge hpass
    rw [State.pendTry_step, if_neg (by omega), State.stepBlocked_running (by rwa [Int.natAbs_neg]) hon hrun, if_pos rfl] at ht
    exact ⟨_, ht, State.stepWaits_sets rfl⟩
  case cancelled =>
    have ht := exec_stepApply hs hp hedge hpass
    rw [State.pendTry_step, if_pos hsmall] at ht
    exact ⟨_, ht, by rw [State.pendOver_tim], s.pendOver_flag, State.pendOver_frame⟩
  case hostSets =>
    have htaken : State.TimStep [6] [R.TIM_STATUS, R.TIM_SET_CMD] [.tim] s (s.setTaken errUs) := State.timStep_setTaken
    have htai : (s.setTaken errUs).tai = s.tai := htaken.progress.same .tai
    have hcount : (s.setTaken errUs).fld F.TIM_STEP_COUNT = s.fld F.TIM_STEP_COUNT := htaken.progress.fld
    have ht := exec_timSet_taken hw hpos hlt hperm
    rw [show s.askedTime = now from hnow.symm, hgo, if_neg Bool.false_ne_true] at ht
    obtain ⟨hset, hrest⟩ := State.hostSet_sets (s.setTaken errUs) ((now : Int) - s.tai) errUs rfl
    rw [htai, taiPlus_sub] at hset
    rw [hcount] at hrest
    exact ⟨_, ht, hset, hrest⟩
  case hostRefused =>
    exact ⟨_, exec_timSet_refused hw hlt hbad, State.fld_setFld_fits _ (by decide),
      ((State.Frame.refl _ _ s).add (s.setFld_frame_at _ _ _)).add (State.setFld_frame_at _ _ _ _)⟩
  case hostWaits =>
    have htaken : State.TimStep [6] [R.TIM_STATUS, R.TIM_SET_CMD] [.tim] s (s.setTaken errUs) := State.timStep_setTaken
    have htai : (s.setTaken errUs).tai = s.tai := htaken.progress.same .tai
    have hmono : (s.setTaken errUs).mono = s.mono := htaken.progress.same .mono
    have ht := exec_timSet_taken hw hpos hlt hperm
    rw [show s.askedTime = now from hnow.symm, hblock, if_pos rfl] at ht
    obtain ⟨hset, hres, hflag, htim, hpend⟩ := State.setDeferred_sets (s := s.setTaken errUs) (now := now) (errUs := errUs) rfl
    rw [State.setTaken_tim, hmono] at htim
    exact ⟨_, ht, hset.trans htai, hres, hflag, htim, hpend⟩
  case hostApplies =>
    have ht := exec_stepApply hs hp hedge hpass
    rw [State.pendTry_set hgo] at ht
    obtain ⟨htai, hvalid, hres, hqual, hest, -⟩ := State.hostSet_sets s _ errUs rfl
    exact ⟨_, ht, htai.trans (taiPlus_sub _ _), hvalid, hres, hqual, hest⟩
  case oven => exact ⟨_, exec_ocxoReady hs h, State.ovenReady_sets h rfl⟩

end Sys2Proof.Machine
end

section
/-!
What a step of AIR leaves of the machines on the air (R225–R239): which machine it may change, and what of it. One lemma for each shared
operation; the families below chain them.
-/

namespace Sys2Proof.Machine

/-! ## A state gone on -/

/-- `t` is `s` gone on: registers but `regs` and the report registers, parts but `parts` and the report parts, and the role are as they
were, and every event still pends that did. Of BAR2 nothing is said: a ring may be any. -/
structure State.Advance (regs : List Nat) (parts : List Part) (s t : State) : Prop where
  regB : ∀ b a, a < 0x4000000 → a ∉ regs → reportReg a = false → t.regB b a = s.regB b a
  part : ∀ p, p ∉ parts → p ∉ reportParts → p.same s t
  role : t.ahn.role = s.ahn.role
  pend : ∀ n < 256, s.pend n = true → t.pend n = true

theorem State.Progress.advance {regs : List Nat} {parts : List Part} {s t : State} (h : State.Progress regs parts s t)
    (hrole : t.ahn.role = s.ahn.role) : State.Advance regs parts s t := ⟨h.frame.1, h.frame.2.2, hrole, h.pend⟩

/-- What is offered to a ring leaves no event behind. -/
theorem State.Offers.advance {s t : State} (h : s.Offers t) : State.Advance [] [] s t :=
  ⟨fun b a ha _ hr => h.1 b a ha (reportReg_of_plumbReg hr), fun p _ hp => h.2 p hp, congrArg AhnSt.role (h.2 .ahn (by decide)),
    fun n hn hs => by
      rw [State.pend, State.flag, State.fld, State.fldB, h.1 0 _ (pendFld_addr hn).1 (pendFld_addr hn).2.2]
      exact hs⟩

namespace State.Advance

variable {regs regs' : List Nat} {parts parts' : List Part} {s t u : State}

theorem refl (regs : List Nat) (parts : List Part) (s : State) : State.Advance regs parts s s :=
  ⟨fun _ _ _ _ _ => rfl, fun p _ _ => Part.same_refl p s, rfl, fun _ _ h => h⟩

theorem trans (h : State.Advance regs parts s t) (k : State.Advance regs parts t u) : State.Advance regs parts s u :=
  ⟨fun b a ha hr hq => (k.regB b a ha hr hq).trans (h.regB b a ha hr hq), fun p hp hq => Part.same_trans (h.part p hp hq) (k.part p hp hq),
    k.role.trans h.role, fun n hn hs => k.pend n hn (h.pend n hn hs)⟩

/-- The same steps, with more allowed. -/
theorem widen (h : State.Advance regs' parts' s t) (hr : ∀ a ∈ regs', a ∈ regs := by decide) (hp : ∀ p ∈ parts', p ∈ parts := by decide) :
    State.Advance regs parts s t :=
  ⟨fun b a ha hn => h.regB b a ha fun hm => hn (hr a hm), fun p hn => h.part p fun hm => hn (hp p hm), h.role, h.pend⟩

theorem foldl {α : Type} {f : State → α → State} (hf : ∀ s a, State.Advance regs parts s (f s a)) (l : List α) (s : State) :
    State.Advance regs parts s (l.foldl f s) := by
  induction l generalizing s with
  | nil => exact refl _ _ s
  | cons a l ih => exact (hf s a).trans (ih _)

theorem fldB (h : State.Advance regs parts s t) (b : Nat) {f : Fld} (hr : f.addr ∉ regs := by decide) (ha : f.addr < 0x4000000 := by decide)
    (hq : reportReg f.addr = false := by decide) : t.fldB b f = s.fldB b f := congrArg f.get (h.regB b f.addr ha hr hq)

theorem fld (h : State.Advance regs parts s t) {f : Fld} (hr : f.addr ∉ regs := by decide) (ha : f.addr < 0x4000000 := by decide)
    (hq : reportReg f.addr = false := by decide) : t.fld f = s.fld f := h.fldB 0 hr ha hq

theorem flagB (h : State.Advance regs parts s t) (b : Nat) {f : Fld} (hr : f.addr ∉ regs := by decide) (ha : f.addr < 0x4000000 := by decide)
    (hq : reportReg f.addr = false := by decide) : t.flagB b f = s.flagB b f := congrArg (· != 0) (h.fldB b hr ha hq)

theorem flag (h : State.Advance regs parts s t) {f : Fld} (hr : f.addr ∉ regs := by decide) (ha : f.addr < 0x4000000 := by decide)
    (hq : reportReg f.addr = false := by decide) : t.flag f = s.flag f := h.flagB 0 hr ha hq

theorem same (h : State.Advance regs parts s t) (p : Part) (hp : p ∉ parts := by decide) (hq : p ∉ reportParts := by decide) : p.same s t :=
  h.part p hp hq

theorem isStandby (h : State.Advance regs parts s t) : t.isStandby = s.isStandby := by simp only [State.isStandby, h.role]

theorem isActive (h : State.Advance regs parts s t) : t.isActive = s.isActive := by simp only [State.isActive, h.role]

end State.Advance

/-! ## Steps of AIR -/

/-- The registers the steps of AIR change: grants shown, DL_MCS and DL_PCT of modems, counters. -/
def airRegs : List Nat := R.AIR_MOD_WIDE :: R.AIR_MOD_STAT :: burstRegs

/-- The parts they change: AIR, the mirror, free values, and the interval SLV is granted. -/
def airParts : List Part := [.air, .ahn, .freeCtr, .slv]

/-- `t` is `s` after a step of AIR that touches no machine but `mi`, and no join counter. -/
structure State.MachStep (mi : Nat) (s t : State) : Prop where
  advance : State.Advance airRegs airParts s t
  others : ∀ k, k ≠ mi → t.airM k = s.airM k
  jctrs : t.air.jctrs = s.air.jctrs

/-- `t` is `s` after a step of AIR that touches no machine and no join counter. -/
structure State.MachsKept (s t : State) : Prop where
  advance : State.Advance airRegs airParts s t
  mach : t.air.mach = s.air.mach
  jctrs : t.air.jctrs = s.air.jctrs

theorem State.Advance.devClause {s t : State} (h : State.Advance airRegs airParts s t) : t.devClause = s.devClause := by
  have hsim : t.sim = s.sim := h.same .sim
  have htai : t.tai = s.tai := h.same .tai
  simp only [State.devClause, State.devClauseAt, hsim, htai]

theorem State.MachsKept.airM {s t : State} (h : s.MachsKept t) (k : Nat) : t.airM k = s.airM k := by rw [State.airM, h.mach, State.airM]

theorem State.MachsKept.step {s t : State} (h : s.MachsKept t) (mi : Nat) : State.MachStep mi s t := ⟨h.advance, fun k _ => h.airM k, h.jctrs⟩

theorem State.MachsKept.refl (s : State) : s.MachsKept s := ⟨.refl _ _ s, rfl, rfl⟩

theorem State.MachsKept.trans {s t u : State} (h : s.MachsKept t) (k : t.MachsKept u) : s.MachsKept u :=
  ⟨h.advance.trans k.advance, k.mach.trans h.mach, k.jctrs.trans h.jctrs⟩

theorem State.MachsKept.foldl {α : Type} {f : State → α → State} (hf : ∀ s a, State.MachsKept s (f s a)) (l : List α) (s : State) :
    s.MachsKept (l.foldl f s) := by
  induction l generalizing s with
  | nil => exact State.MachsKept.refl s
  | cons a l ih => exact (hf s a).trans (ih _)

theorem State.MachStep.refl (mi : Nat) (s : State) : State.MachStep mi s s := (State.MachsKept.refl s).step mi

theorem State.MachStep.trans {mi : Nat} {s t u : State} (h : State.MachStep mi s t) (k : State.MachStep mi t u) : State.MachStep mi s u :=
  ⟨h.advance.trans k.advance, fun j hj => (k.others j hj).trans (h.others j hj), k.jctrs.trans h.jctrs⟩

/-- An operation that leaves AIR alone. -/
theorem State.Advance.machsKept {regs : List Nat} {parts : List Part} {s t : State} (h : State.Advance regs parts s t)
    (hr : ∀ a ∈ regs, a ∈ airRegs := by decide) (hp : ∀ p ∈ parts, p ∈ airParts := by decide) (ha : .air ∉ parts := by decide) :
    s.MachsKept t :=
  have hair : t.air = s.air := h.same .air ha
  ⟨h.widen hr hp, congrArg AirSt.mach hair, congrArg AirSt.jctrs hair⟩

theorem State.machsKept_air (s : State) {v : AirSt} (hm : v.mach = s.air.mach) (hj : v.jctrs = s.air.jctrs) : s.MachsKept { s with air := v } :=
  ⟨((s.progress_air v).advance rfl).widen, hm, hj⟩

theorem State.machsKept_raise (s : State) (n a : Nat) (hn : n < 256 := by decide) : s.MachsKept (s.raise n a) :=
  ((s.progress_raise n a hn).advance (congrArg AhnSt.role (s.raise_ahn a hn))).machsKept

theorem State.machsKept_mirror (s : State) (k : Nat) (m : MirrorBody) (snap : Bool) : s.MachsKept (s.mirror k m snap) :=
  ((s.progress_mirror k m snap).advance (s.mirror_role k m snap)).machsKept

theorem State.Sends.machsKept {s t : State} (h : s.Sends t) : s.MachsKept t := by
  obtain ⟨_, _, _, _, ha⟩ := h.air
  exact ⟨(h.progress.advance (congrArg AhnSt.role (h.progress.same .ahn))).widen, by rw [ha], by rw [ha]⟩

theorem State.machsKept_nextFctr (s : State) : s.MachsKept s.nextFctr.2 := s.machsKept_air rfl rfl

theorem State.machsKept_dutyDefer (s : State) : s.MachsKept s.dutyDefer := by
  obtain ⟨⟨k, ha⟩, -, hp⟩ := s.dutyDefer_leaves
  exact ⟨(hp.advance (congrArg AhnSt.role (hp.same .ahn))).widen, by rw [ha], by rw [ha]⟩

/-- A normal frame is sent, waits, or is dropped. -/
theorem State.machsKept_airNormal (s : State) (m : Nat) (f : AirFrame) : s.MachsKept (s.airNormal m f) := by
  have hhold : ∀ (u : State) (w : AirWait), u.MachsKept (u.airHold w) := fun u w => u.machsKept_air rfl rfl
  have hturn : ∀ (u : State) (w : AirWait) (busy : Bool), u.MachsKept (u.airTurn w busy) := fun u w busy => by
    unfold State.airTurn
    dsimp only
    split
    · split
      · exact hhold u _
      · exact u.machsKept_dutyDefer.trans (hhold _ _)
    split
    · exact hhold u _
    split
    · unfold State.airBusy
      split
      · exact .refl u
      · exact u.sends_draw.machsKept.trans (hhold _ _)
    · exact (u.sends_airPut _ _ _ _).machsKept
  unfold State.airNormal
  dsimp only
  split
  · exact s.sends_draw.machsKept.trans (hturn _ _ _)
  · exact (s.sends_airWait _).machsKept

theorem State.machsKept_setFldB (s : State) (b : Nat) (f : Fld) (v : Nat) (ha : f.addr < 0x4000000 := by decide)
    (hr : f.addr ∈ airRegs := by decide) : s.MachsKept (s.setFldB b f v) := by
  have hframe : State.Frame airRegs [] s (s.setFldB b f v) := (s.setFldB_frame b v ha).mono (by simpa using hr) (by simp)
  exact ((State.Progress.of_frame (parts := []) hframe (State.outKept_of_eq (s.setFldB_out b f v)) (by simp)).advance rfl).machsKept (by simp)
    (by simp) (by simp)

/-! ## What AIR keeps for a machine -/

section Machine

variable (s : State) (mi : Nat) (m : AirMach)

/-- AIR keeps `m` for the machine. -/
def State.machSet : State := { s with air := { s.air with mach := s.air.mach.set AirMach.none mi m } }

/-- Its grant registers follow. -/
def State.machShown : State :=
  if (s.airM mi).obs == m.obs && (s.airM mi).rpt == m.rpt && (s.airM mi).mcsUl == m.mcsUl && (s.airM mi).wch == m.wch then s.machSet mi m
  else (s.machSet mi m).airGrantRegs mi m

theorem State.setAirM_eq : s.setAirM mi m = if (s.airM mi).mirrored == m.mirrored then s.machShown mi m else (s.machShown mi m).airMachMirror mi :=
  rfl

/-- Setting a machine sets it, whatever the registers and the mirror then show. -/
theorem State.setAirM_air : (s.setAirM mi m).air = { s.air with mach := s.air.mach.set AirMach.none mi m } := by
  have hshown : (s.machShown mi m).air = { s.air with mach := s.air.mach.set AirMach.none mi m } := by
    rw [State.machShown]
    split
    · rfl
    · simp only [State.airGrantRegs, State.setFldB_air, State.machSet]
  rw [State.setAirM_eq]
  split
  · exact hshown
  · exact (State.mirror_air _ _ _ _).trans hshown

@[simp] theorem State.airM_setAirM : (s.setAirM mi m).airM mi = m := by
  rw [State.airM, State.setAirM_air]
  exact SMap.get_set_same _ _ _ _

theorem State.machStep_setAirM : State.MachStep mi s (s.setAirM mi m) := by
  have h := s.bursts_setAirM mi m
  refine ⟨(h.progress.advance h.role).widen, fun k hk => ?_, by rw [State.setAirM_air]⟩
  rw [State.airM, State.setAirM_air]
  exact SMap.get_set_other _ _ _ _ hk

theorem State.setAirM_dataDn : (s.setAirM mi m).air.dataDn = s.air.dataDn := by rw [State.setAirM_air]

/-- A change of what no grant register shows leaves the registers. -/
theorem State.setAirM_frame (hobs : m.obs = (s.airM mi).obs) (hrpt : m.rpt = (s.airM mi).rpt) (hmcs : m.mcsUl = (s.airM mi).mcsUl)
    (hwch : m.wch = (s.airM mi).wch) : State.Frame [] [.air, .ahn, .out] s (s.setAirM mi m) := by
  have hset : State.Frame [] [.air, .ahn, .out] s (s.machSet mi m) := (s.air_frame _).mono (by decide) (by decide)
  have hshown : s.machShown mi m = s.machSet mi m := by
    rw [State.machShown, hobs, hrpt, hmcs, hwch]
    exact if_pos (by simp only [beq_self_eq_true, Bool.and_self])
  rw [State.setAirM_eq, hshown]
  split
  · exact hset
  · exact hset.add (State.mirror_frame _ _ _ _)

end Machine

end Sys2Proof.Machine
end

section
/-!
Standing grants and rates of one machine (R227–R229, R235): what placing, withdrawing and moving them changes of it, and what a good frame
heard from it does.
-/

namespace Sys2Proof.Machine

/-! ## What a change of grants leaves of a machine -/

/-- `b` is `a` with other grants, rate, resends and frames to send, and where a MOVE is sent, one that applies after `now`. -/
def AirMach.GrantsFrom (now : Nat) (a b : AirMach) : Prop :=
  ∃ obs rpt resend upPend move mcs run, b = { a with
    obs := obs, rpt := rpt, resend := resend, upPend := upPend, move := move, mcsUl := mcs, goodRun := run } ∧
    (move = a.move ∨ ∃ v, move = some v ∧ now < v.2)

theorem AirMach.GrantsFrom.refl (now : Nat) (a : AirMach) : a.GrantsFrom now a := ⟨_, _, _, _, _, _, _, rfl, .inl rfl⟩

theorem AirMach.GrantsFrom.trans {now : Nat} {a b c : AirMach} (h : a.GrantsFrom now b) (k : b.GrantsFrom now c) : a.GrantsFrom now c := by
  obtain ⟨_, _, _, _, _, _, _, rfl, hm⟩ := h
  obtain ⟨_, _, _, _, _, _, _, rfl, hn⟩ := k
  refine ⟨_, _, _, _, _, _, _, rfl, hn.elim (fun hn => ?_) .inr⟩
  rw [hn]
  exact hm

/-- `t` is `s` after steps that change grants, rate and MOVE of machine `mi` alone. -/
structure State.Regrants (mi : Nat) (s t : State) : Prop where
  step : State.MachStep mi s t
  own : (s.airM mi).GrantsFrom s.devClause (t.airM mi)

theorem State.MachsKept.regrants {s t : State} (h : s.MachsKept t) (mi : Nat) : State.Regrants mi s t :=
  ⟨h.step mi, by rw [h.airM]; exact .refl _ _⟩

theorem State.Regrants.refl (mi : Nat) (s : State) : State.Regrants mi s s := (State.MachsKept.refl s).regrants mi

theorem State.Regrants.trans {mi : Nat} {s t u : State} (h : State.Regrants mi s t) (k : State.Regrants mi t u) : State.Regrants mi s u :=
  ⟨h.step.trans k.step, h.own.trans (h.step.advance.devClause ▸ k.own)⟩

theorem State.regrants_setAirM {s : State} {mi : Nat} {m : AirMach} (h : (s.airM mi).GrantsFrom s.devClause m) :
    State.Regrants mi s (s.setAirM mi m) := ⟨s.machStep_setAirM mi m, by rw [s.airM_setAirM]; exact h⟩

/-! ## Grants are changed (R228) -/

section Regrant

variable (s : State) (mi : Nat)

theorem State.machsKept_slvGranted (k : Nat) : s.MachsKept (s.slvGranted mi k) := by
  have hset : s.MachsKept { s with slv := { s.slv with rates := s.slv.rates.set SlvRate.none mi { s.slvRate mi with granted := k } } } :=
    (((s.progress_setSlv fun v => { v with rates := s.slv.rates.set SlvRate.none mi { s.slvRate mi with granted := k } }).advance rfl)).machsKept
  unfold State.slvGranted State.setSlvRate
  dsimp only
  split
  · exact hset
  · exact hset.trans (State.machsKept_mirror _ _ _ _)

theorem State.machsKept_holdSlot (w : Nat) (g : Grant) : s.MachsKept (s.holdSlot w mi g) := by
  unfold State.holdSlot
  split
  · exact .refl s
  · exact s.machsKept_air rfl rfl

theorem State.machsKept_oldHeld (obs rpt : Grant) : s.MachsKept (s.oldHeld mi obs rpt) := by
  have hhold : ∀ (u : State) (c : Bool) (w : Nat) (g : Grant), u.MachsKept (if c then u else u.holdSlot w mi g) := fun u c w g => by
    split
    · exact .refl u
    · exact u.machsKept_holdSlot mi w g
  exact (hhold s _ _ _).trans (hhold _ _ _ _)

/-- The old slots are held, and the machine has the new grants. -/
def State.newGranted (obs rpt : Grant) : State :=
  (s.oldHeld mi obs rpt).setAirM mi { s.airM mi with obs := obs, rpt := rpt, resend := 3 }

/-- Grants that differ are changed, and SLV learns another interval. -/
theorem State.regrant_eq (obs rpt : Grant) : s.regrant mi obs rpt =
    if (s.airM mi).obs == obs && (s.airM mi).rpt == rpt then s
    else if (s.airM mi).obs.k == obs.k then s.newGranted mi obs rpt else (s.newGranted mi obs rpt).slvGranted mi obs.k := rfl

/-- After a change of grants the machine has them, is otherwise as it was but for the bursts that tell it, and no other is touched. -/
theorem State.regrant_leaves (obs rpt : Grant) : State.MachStep mi s (s.regrant mi obs rpt) ∧
    ∃ n, (s.regrant mi obs rpt).airM mi = { s.airM mi with obs := obs, rpt := rpt, resend := n } ∧ (n = (s.airM mi).resend ∨ n = 3) := by
  have hnew : State.MachStep mi s (s.newGranted mi obs rpt) := ((s.machsKept_oldHeld mi obs rpt).step mi).trans (State.machStep_setAirM _ mi _)
  have hm : (s.newGranted mi obs rpt).airM mi = { s.airM mi with obs := obs, rpt := rpt, resend := 3 } := State.airM_setAirM _ _ _
  rw [s.regrant_eq]
  split
  next hsame =>
    obtain ⟨ho, hr⟩ := Bool.and_eq_true_iff.mp hsame
    exact ⟨.refl mi s, (s.airM mi).resend, by rw [← eq_of_beq ho, ← eq_of_beq hr], .inl rfl⟩
  split
  · exact ⟨hnew, 3, hm, .inr rfl⟩
  · have hslv := (s.newGranted mi obs rpt).machsKept_slvGranted mi obs.k
    exact ⟨hnew.trans (hslv.step mi), 3, (hslv.airM mi).trans hm, .inr rfl⟩

theorem State.regrants_regrant (obs rpt : Grant) : State.Regrants mi s (s.regrant mi obs rpt) := by
  obtain ⟨hstep, n, hm, -⟩ := s.regrant_leaves mi obs rpt
  exact ⟨hstep, by rw [hm]; exact ⟨_, _, _, _, _, _, _, rfl, .inl rfl⟩⟩

theorem State.withdraw_leaves : State.MachStep mi s (s.withdraw mi) ∧
    ∃ n, (s.withdraw mi).airM mi = { s.airM mi with obs := Grant.none, rpt := Grant.none, resend := n } := by
  obtain ⟨hstep, n, hm, -⟩ := s.regrant_leaves mi Grant.none Grant.none
  exact ⟨hstep, n, hm⟩

theorem State.withdraw_dataDn : (s.withdraw mi).air.dataDn = s.air.dataDn := by
  have hhold : ∀ (u : State) (w : Nat) (g : Grant), (u.holdSlot w mi g).air.dataDn = u.air.dataDn := fun u w g => by
    unfold State.holdSlot
    split <;> rfl
  have hold : (s.oldHeld mi Grant.none Grant.none).air.dataDn = s.air.dataDn := by
    unfold State.oldHeld
    dsimp only
    split <;> split <;> simp only [hhold]
  have hnew : (s.newGranted mi Grant.none Grant.none).air.dataDn = s.air.dataDn := (State.setAirM_dataDn _ _ _).trans hold
  have hslv : ∀ (u : State) (k : Nat), (u.slvGranted mi k).air = u.air := fun u k => by
    unfold State.slvGranted State.setSlvRate
    dsimp only
    split
    · rfl
    · exact State.mirror_air _ _ _ _
  rw [State.withdraw, s.regrant_eq]
  split
  · rfl
  split
  · exact hnew
  · rw [hslv, hnew]

/-! ## A MOVE, and grants placed (R229, R234, R235) -/

/-- A DATA_DN payload waits for a burst. -/
def State.dataWaits (payload : List Byte) : State := { s with air := { s.air with dataDn := s.air.dataDn ++ [⟨mi, payload, false⟩] } }

theorem State.machsKept_dataWaits (payload : List Byte) : s.MachsKept (s.dataWaits mi payload) := s.machsKept_air rfl rfl

/-- The MOVE of a machine is noted, to apply at the second superframe start from now. -/
def State.moveNoted (w : Nat) : State :=
  s.setAirM mi { s.airM mi with move := some (w, (s.devClause / 1000 + 2) * 1000), upPend := max (s.airM mi).upPend 1 }

theorem State.sendMove_eq (w : Nat) : s.sendMove mi w = (s.moveNoted mi w).dataWaits mi
    (Bytes.ofNat 1 0 ++ [0#8] ++ Bytes.ofNat 1 1 ++ Bytes.ofNat 1 w ++ Bytes.ofNat 5 ((s.devClause / 1000 + 2) * 1000)) := rfl

theorem State.regrants_sendMove (w : Nat) : State.Regrants mi s (s.sendMove mi w) := by
  have hset : State.Regrants mi s (s.moveNoted mi w) := State.regrants_setAirM ⟨_, _, _, _, _, _, _, rfl, .inr ⟨_, rfl, by dsimp only; omega⟩⟩
  rw [s.sendMove_eq]
  exact hset.trans ((State.machsKept_dataWaits _ mi _).regrants mi)

theorem State.regrants_overload : State.Regrants mi s (s.raise Ev.AIR_UL_OVERLOAD 0) := (s.machsKept_raise _ _).regrants mi

theorem State.regrants_grantObs (k : Nat) : State.Regrants mi s (s.grantObs mi k) := by
  unfold State.grantObs
  dsimp only
  split
  · exact s.regrants_regrant mi _ _
  split
  · split
    · exact .refl mi s
    · exact s.regrants_sendMove mi _
  · split
    · exact (s.regrants_overload mi).trans (State.regrants_regrant _ mi _ _)
    · exact s.regrants_overload mi

theorem State.regrants_grantRpt : State.Regrants mi s (s.grantRpt mi) := by
  unfold State.grantRpt
  dsimp only
  split
  · exact .refl mi s
  split
  · exact s.regrants_regrant mi _ _
  · exact s.regrants_overload mi

theorem State.regrants_grantAll : State.Regrants mi s (s.grantAll mi) := by
  unfold State.grantAll
  dsimp only
  split
  · exact s.regrants_grantRpt mi
  · exact (s.regrants_grantRpt mi).trans (State.regrants_grantObs _ mi _)

/-! ## Rates (R235) -/

theorem State.machsKept_rateEvent (w : Nat) : s.MachsKept (s.rateEvent w) := by
  unfold State.rateEvent
  split
  · exact (s.machsKept_air (v := { s.air with rateEvent := s.air.rateEvent.set none w (some s.mono) }) rfl rfl).trans
      (State.machsKept_raise _ _ _)
  · exact .refl s

theorem State.regrants_setMcs (mcs : Nat) : State.Regrants mi s (s.setMcs mi mcs) := by
  have hset : State.Regrants mi s ((s.setAirM mi { s.airM mi with mcsUl := mcs }).rateEvent (s.airM mi).wch) :=
    (State.regrants_setAirM ⟨_, _, _, _, _, _, _, rfl, .inl rfl⟩).trans ((State.machsKept_rateEvent _ _).regrants mi)
  have hobs : ∀ (u : State) (c : Prop) [Decidable c] (k : Nat), State.Regrants mi u (if c then u else u.grantObs mi k) := fun u c _ k => by
    split
    · exact .refl mi u
    · exact u.regrants_grantObs mi k
  unfold State.setMcs
  dsimp only
  split
  · exact .refl mi s
  · exact (hset.trans (hobs _ _ _)).trans (State.regrants_grantRpt _ mi)

theorem State.machsKept_setDlMcs (w mcs : Nat) : s.MachsKept (s.setDlMcs w mcs) := by
  unfold State.setDlMcs
  split
  · exact .refl s
  · exact ((s.machsKept_setFldB _ F.AIR_MOD_WIDE_DL_MCS _).trans (State.machsKept_rateEvent _ _)).trans (State.machsKept_mirror _ _ _ _)

end Regrant

/-! ## A good frame of a machine (R216, R235) -/

/-- `b` is `a` heard at `now`: counts of reception, grants, rate and MOVE apart, as it was. -/
def AirMach.HeardFrom (now : Nat) (a b : AirMach) : Prop :=
  ∃ obs rpt resend upPend move mcs run snrs fails, b = { a with
    obs := obs, rpt := rpt, resend := resend, upPend := upPend, move := move, mcsUl := mcs, goodRun := run, snrs := snrs, crcFails := fails,
    lastHeard := now }

theorem AirMach.GrantsFrom.heard {now at' : Nat} {a b c : AirMach} (h : a.HeardFrom at' b) (k : b.GrantsFrom now c) : a.HeardFrom at' c := by
  obtain ⟨_, _, _, _, _, _, _, _, _, rfl⟩ := h
  obtain ⟨_, _, _, _, _, _, _, rfl, -⟩ := k
  exact ⟨_, _, _, _, _, _, _, _, _, rfl⟩

section Heard

variable (s : State) (mi : Nat)

/-- A machine is heard: it and nothing else of the machines changes, and of it what hearing it may change. -/
theorem State.airHeard_leaves (modem snr : Nat) : State.MachStep mi s (s.airHeard mi modem snr) ∧
    (s.airM mi).HeardFrom s.mono ((s.airHeard mi modem snr).airM mi) := by
  have hset : ∀ m, (s.airM mi).HeardFrom s.mono m → ∀ t, State.Regrants mi (s.setAirM mi m) t → State.MachStep mi s t ∧
      (s.airM mi).HeardFrom s.mono (t.airM mi) := fun m hm t ht =>
    ⟨(s.machStep_setAirM mi m).trans ht.step, AirMach.GrantsFrom.heard hm (s.airM_setAirM mi m ▸ ht.own)⟩
  unfold State.airHeard
  dsimp only
  split
  · exact hset _ ⟨_, _, _, _, _, _, _, _, _, rfl⟩ _ (.refl mi _)
  split
  · exact hset _ ⟨_, _, _, _, _, _, _, _, _, rfl⟩ _ (.refl mi _)
  split
  · exact hset _ ⟨_, _, _, _, _, _, _, _, _, rfl⟩ _ (State.regrants_setMcs _ mi _)
  split
  · refine hset _ ⟨_, _, _, _, _, _, _, _, _, rfl⟩ _ ((State.regrants_setAirM ?_).trans (State.regrants_setMcs _ mi _))
    rw [s.airM_setAirM]
    exact ⟨_, _, _, _, _, _, _, rfl, .inl rfl⟩
  · exact hset _ ⟨_, _, _, _, _, _, _, _, _, rfl⟩ _ (.refl mi _)

variable {s mi} {rx : AirRx}

/-- A frame that is good and not heard before is taken, and remembered for 2 s. -/
theorem State.airCheck_good (haddr : s.airAddressed rx = (s, true)) (hc : s.cmacGood rx = true) (hnew : s.airSeen (s.rxFrame rx) = false) :
    ∃ l, s.airCheck rx = ({ s with air := { s.air with recent := l } }, true) := by
  simp only [State.airCheck, haddr, hc, hnew, Bool.not_true, Bool.false_eq_true, if_false]
  exact ⟨_, rfl⟩

/-- A good frame of a registered machine, of its type and on its kind of channel, is heard. -/
theorem State.airFrom_good {ft : Nat} (haddr : s.airAddressed rx = (s, true)) (hc : s.cmacGood rx = true)
    (hnew : s.airSeen (s.rxFrame rx) = false) (hmi : s.miOfAddr (s.rxFrame rx).src = some mi) (hft : (s.rxFrame rx).ftype = ft)
    (hwide : s.wideRx rx = typeWide ft) : ∃ u, s.airFrom ft rx = (u, some mi) ∧ State.MachStep mi s u ∧
      (s.airM mi).HeardFrom s.mono (u.airM mi) := by
  obtain ⟨l, hl⟩ := State.airCheck_good haddr hc hnew
  have hkept : s.MachsKept { s with air := { s.air with recent := l } } := s.machsKept_air rfl rfl
  obtain ⟨hstep, hown⟩ := State.airHeard_leaves { s with air := { s.air with recent := l } } mi rx.modem rx.snr
  refine ⟨_, ?_, (hkept.step mi).trans hstep, hown⟩
  simp only [State.airFrom, hl, hmi]
  exact if_pos ⟨hft, hwide⟩

/-- What a frame is, is a matter of the image and the frame. -/
theorem State.Advance.rxFrame {regs : List Nat} {parts : List Part} {t : State} (h : State.Advance regs parts s t)
    (hp : Part.sim ∉ parts := by decide) : t.rxFrame rx = s.rxFrame rx := by
  have hsim : t.sim = s.sim := h.same .sim hp
  simp only [State.rxFrame, State.rxBody, State.wideRx, State.modemKind, State.modemRow, hsim]

end Heard

end Sys2Proof.Machine
end

section
/-!
Registers of RW fields that the host writes (R4, R311), and the grants it gives by them (R246).
-/

namespace Sys2Proof.Machine

/-! ## A register of RW fields -/

/-- The fields of a register are RW, lie in its word, and apart from each other. -/
abbrev RegDesc.laidOut (d : RegDesc) : Prop :=
  d.addr < 0x4000000 ∧ (∀ fd ∈ d.fields, fd.access = .rw ∧ fd.fld.addr = d.addr ∧ fd.fld.lo ≤ fd.fld.hi ∧ fd.fld.hi < 32) ∧
    d.fields.Pairwise fun x y => x.fld.hi < y.fld.lo ∨ y.fld.hi < x.fld.lo

/-- Each field takes what the word holds there. -/
def storeFields (b : Nat) (w : Word) (l : List FieldDesc) (s : State) : State := l.foldl (fun s fd => s.setFldB b fd.fld (fd.fld.get w)) s

theorem storeFields_cons (b : Nat) (w : Word) (fd : FieldDesc) (l : List FieldDesc) (s : State) :
    storeFields b w (fd :: l) s = storeFields b w l (s.setFldB b fd.fld (fd.fld.get w)) := rfl

section Stored

variable {a : Nat} (b : Nat) (w : Word)

theorem storeFields_frame {l : List FieldDesc} (ha : a < 0x4000000) (hl : ∀ fd ∈ l, fd.fld.addr = a) (s : State) :
    State.Frame [a] [] s (storeFields b w l s) ∧ (storeFields b w l s).out = s.out := by
  induction l generalizing s with
  | nil => exact ⟨.refl _ _ s, rfl⟩
  | cons fd l ih =>
    have haddr : fd.fld.addr = a := hl fd List.mem_cons_self
    obtain ⟨hf, ho⟩ := ih (fun x hx => hl x (List.mem_cons_of_mem _ hx)) (s.setFldB b fd.fld (fd.fld.get w))
    have hset := s.setFldB_frame b (f := fd.fld) (fd.fld.get w) (haddr ▸ ha)
    exact ⟨.trans (haddr ▸ hset) hf, ho⟩

/-- Fields stored later, apart from `f`, leave it. -/
theorem storeFields_apart {l : List FieldDesc} {f : Fld} (ha : a < 0x4000000) (hf : f.addr = a) (hle : f.lo ≤ f.hi)
    (hl : ∀ fd ∈ l, fd.fld.addr = a ∧ fd.fld.lo ≤ fd.fld.hi ∧ fd.fld.hi < 32) (hap : ∀ fd ∈ l, f.hi < fd.fld.lo ∨ fd.fld.hi < f.lo) (s : State) :
    (storeFields b w l s).fldB b f = s.fldB b f := by
  induction l generalizing s with
  | nil => rfl
  | cons fd l ih =>
    obtain ⟨haddr, hlo, hhi⟩ := hl fd List.mem_cons_self
    rw [storeFields_cons, ih (fun x hx => hl x (List.mem_cons_of_mem _ hx)) (fun x hx => hap x (List.mem_cons_of_mem _ hx))]
    exact s.fldB_setFldB_apart _ (haddr ▸ ha) (hf.trans haddr.symm) hlo hhi (hap fd List.mem_cons_self) hle

/-- Every field then reads what the word held. -/
theorem fldB_storeFields {l : List FieldDesc} (ha : a < 0x4000000)
    (hl : ∀ fd ∈ l, fd.fld.addr = a ∧ fd.fld.lo ≤ fd.fld.hi ∧ fd.fld.hi < 32)
    (hp : l.Pairwise fun x y => x.fld.hi < y.fld.lo ∨ y.fld.hi < x.fld.lo) (s : State) :
    ∀ fd ∈ l, (storeFields b w l s).fldB b fd.fld = fd.fld.get w := by
  induction l generalizing s with
  | nil => exact fun fd hfd => absurd hfd List.not_mem_nil
  | cons x l ih =>
    obtain ⟨hx, hp⟩ := List.pairwise_cons.mp hp
    obtain ⟨haddr, hlo, hhi⟩ := hl x List.mem_cons_self
    have hl' : ∀ fd ∈ l, fd.fld.addr = a ∧ fd.fld.lo ≤ fd.fld.hi ∧ fd.fld.hi < 32 := fun y hy => hl y (List.mem_cons_of_mem _ hy)
    intro fd hfd
    rw [storeFields_cons]
    rcases List.mem_cons.mp hfd with rfl | hfd
    · rw [storeFields_apart b w ha haddr hlo hl' hx]
      exact s.fldB_setFldB_get b w fd.fld (haddr ▸ ha) hlo hhi
    · exact ih hl' hp _ fd hfd

end Stored

section HostWrite

variable {s : State} {d : RegDesc} {w : Word}

/-- A mirrored register of RW fields that reports nothing, each field in its range, takes the word. -/
theorem State.hostReg_fields (hd : Regs.descAt d.addr = some d) (hm : mirroredReg d = true) (hlay : d.laidOut)
    (hq : ∀ a ∈ [d.addr], a ∉ ringCfgRegs ∧ reportReg a = false) (hst : s.isStandby = false)
    (hr : ∀ (b : Nat) (u : State), (∀ fd ∈ d.fields, u.fldB b fd.fld = fd.fld.get w) → ∀ fd ∈ d.fields, u.inRange b fd = true) :
    ∃ t, s.hostReg d.addr w = (t, true) ∧ State.Advance [d.addr] [.ahn] s t ∧ t.air = s.air ∧
      ∀ fd ∈ d.fields, t.fldB (s.bankOf d) fd.fld = fd.fld.get w := by
  obtain ⟨ha, hfields, hapart⟩ := hlay
  obtain ⟨hframe, hout⟩ := storeFields_frame (s.bankOf d) w ha (fun fd hfd => (hfields fd hfd).2.1) s
  have hread := fldB_storeFields (s.bankOf d) w ha (fun fd hfd => (hfields fd hfd).2) hapart s
  have hstore := State.regStore_allRw (fun fd hfd => (hfields fd hfd).1) rfl (hr _ _ hread)
  change s.regStore d 0 (s.bankOf d) w = (storeFields (s.bankOf d) w d.fields s, true) at hstore
  have hshow : s.hostReg d.addr w = s.regWrite d 0 (s.bankOf d) w := by rw [State.hostReg, hd]; simp only [Nat.sub_self, Nat.zero_div]
  have hair : (storeFields (s.bankOf d) w d.fields s).air = s.air := hframe.2.2 .air (by simp)
  have hrole : (storeFields (s.bankOf d) w d.fields s).ahn = s.ahn := hframe.2.2 .ahn (by simp)
  have hprog := State.Progress.of_frame (parts := []) hframe (State.outKept_of_eq hout) (by simp) hq
  generalize storeFields (s.bankOf d) w d.fields s = u at hread hstore hair hrole hprog
  have hstep := fun k m => (hprog.advance (congrArg AhnSt.role hrole)).widen (fun _ h => h) (by simp) |>.trans
    (((u.progress_mirror k m false).advance (u.mirror_role k m false)).widen (regs := [d.addr]) (by simp) (fun _ h => h))
  refine ⟨_, hshow.trans (State.regWrite_mirrored hm hst hstore), hstep _ _, (u.mirror_air _ _ _).trans hair, fun fd hfd => ?_⟩
  rw [State.fldB, State.mirror_regB]
  exact hread fd hfd

end HostWrite

/-! ## The host's grants (R246) -/

/-- `AIR_MACH_GRANT1` as a host access sees it. -/
def airGrant1Desc : RegDesc :=
  ⟨R.AIR_MACH_GRANT1, 1, some ⟨R.AIR_MACH_IDX, 10, 0⟩, [⟨F.AIR_MACH_GRANT1_LEN, .rw, .orZero F.AIR_MACH_GRANT0_K (.within 1 500)⟩,
    ⟨F.AIR_MACH_GRANT1_START, .rw, .within 0 2479⟩], 0x1FFFFF⟩

theorem descAt_airGrant1 : Regs.descAt R.AIR_MACH_GRANT1 = some airGrant1Desc := by decide +kernel

/-- `AIR_MACH_GRANT2` as a host access sees it. -/
def airGrant2Desc : RegDesc :=
  ⟨R.AIR_MACH_GRANT2, 1, some ⟨R.AIR_MACH_IDX, 10, 0⟩, [⟨F.AIR_MACH_GRANT2_RPT_SET, .rw, .any⟩,
    ⟨F.AIR_MACH_GRANT2_BI, .rw, .orZero F.AIR_MACH_GRANT2_RPT_SET (.oneOf [1, 3, 5, 7, 9, 11, 13, 15, 17, 19])⟩,
    ⟨F.AIR_MACH_GRANT2_HALF, .rw, .any⟩, ⟨F.AIR_MACH_GRANT2_LEN, .rw, .orZero F.AIR_MACH_GRANT2_RPT_SET (.within 1 500)⟩,
    ⟨F.AIR_MACH_GRANT2_START, .rw, .within 0 2479⟩], 0xFFFF0FFF⟩

theorem descAt_airGrant2 : Regs.descAt R.AIR_MACH_GRANT2 = some airGrant2Desc := by decide +kernel

section HostGrants

variable {s : State} {w : Word} (hst : s.isStandby = false)
include hst

/-- LEN and START in their ranges are stored. -/
theorem State.hostReg_grant1 (hlen : 1 ≤ F.AIR_MACH_GRANT1_LEN.get w) (hlen' : F.AIR_MACH_GRANT1_LEN.get w ≤ 500)
    (hstart : F.AIR_MACH_GRANT1_START.get w ≤ 2479) : ∃ t, s.hostReg R.AIR_MACH_GRANT1 w = (t, true) ∧
      State.Advance [R.AIR_MACH_GRANT1] [.ahn] s t ∧ t.air = s.air ∧ t.fldB s.airIdx F.AIR_MACH_GRANT1_LEN = F.AIR_MACH_GRANT1_LEN.get w ∧
      t.fldB s.airIdx F.AIR_MACH_GRANT1_START = F.AIR_MACH_GRANT1_START.get w := by
  obtain ⟨t, ht, hadv, hair, hread⟩ := State.hostReg_fields (s := s) (d := airGrant1Desc) (w := w) descAt_airGrant1 (by decide) (by decide)
    (by decide) hst fun b u hu => by
      simp only [airGrant1Desc, List.forall_mem_cons] at hu ⊢
      obtain ⟨hl, hs, -⟩ := hu
      simp [State.inRange, State.rangeHolds, hl, hs, hlen, hlen', hstart]
  simp only [airGrant1Desc, List.forall_mem_cons] at hread
  obtain ⟨hl, hs, -⟩ := hread
  exact ⟨t, ht, hadv, hair, hl, hs⟩

/-- RPT_SET, an odd BI, HALF, LEN and START in their ranges are stored. -/
theorem State.hostReg_grant2 (hodd : F.AIR_MACH_GRANT2_BI.get w % 2 = 1) (hbi : F.AIR_MACH_GRANT2_BI.get w ≤ 19)
    (hlen : 1 ≤ F.AIR_MACH_GRANT2_LEN.get w) (hlen' : F.AIR_MACH_GRANT2_LEN.get w ≤ 500) (hstart : F.AIR_MACH_GRANT2_START.get w ≤ 2479) :
    ∃ t, s.hostReg R.AIR_MACH_GRANT2 w = (t, true) ∧ State.Advance [R.AIR_MACH_GRANT2] [.ahn] s t ∧ t.air = s.air ∧
      t.fldB s.airIdx F.AIR_MACH_GRANT2_RPT_SET = F.AIR_MACH_GRANT2_RPT_SET.get w ∧
      t.fldB s.airIdx F.AIR_MACH_GRANT2_BI = F.AIR_MACH_GRANT2_BI.get w ∧ t.fldB s.airIdx F.AIR_MACH_GRANT2_HALF = F.AIR_MACH_GRANT2_HALF.get w ∧
      t.fldB s.airIdx F.AIR_MACH_GRANT2_LEN = F.AIR_MACH_GRANT2_LEN.get w ∧
      t.fldB s.airIdx F.AIR_MACH_GRANT2_START = F.AIR_MACH_GRANT2_START.get w := by
  have hof : [1, 3, 5, 7, 9, 11, 13, 15, 17, 19].contains (F.AIR_MACH_GRANT2_BI.get w) = true := by
    generalize F.AIR_MACH_GRANT2_BI.get w = n at hodd hbi
    interval_cases n <;> revert hodd <;> decide
  obtain ⟨t, ht, hadv, hair, hread⟩ := State.hostReg_fields (s := s) (d := airGrant2Desc) (w := w) descAt_airGrant2 (by decide) (by decide)
    (by decide) hst fun b u hu => by
      simp only [airGrant2Desc, List.forall_mem_cons] at hu ⊢
      obtain ⟨-, hb, -, hl, hs, -⟩ := hu
      simp only [State.inRange, State.rangeHolds, hb, hl, hs, hof, hlen, hlen', hstart]
      simp
  simp only [airGrant2Desc, List.forall_mem_cons] at hread
  obtain ⟨hr, hb, hh, hl, hs, -⟩ := hread
  exact ⟨t, ht, hadv, hair, hr, hb, hh, hl, hs⟩

end HostGrants

section HostGranted

variable {s : State} {w : Word} {mi : Nat} (hw : s.works Blk.AIR) (hx : s.expert Blk.AIR = true) (hst : s.isStandby = false) (hmi : mi = s.airIdx)
  (hstate : (s.airM mi).state = .awake ∨ (s.airM mi).state = .lost)

/-- The OBS grant the registers ask for: none at K = 0. -/
def State.obsAsked (s : State) (mi : Nat) (w : Word) : Grant :=
  if s.fldB mi F.AIR_MACH_GRANT0_K = 0 then Grant.none else
    ⟨s.fldB mi F.AIR_MACH_GRANT0_K, s.fldB mi F.AIR_MACH_GRANT0_OFS, s.fldB mi F.AIR_MACH_GRANT0_HALF, 0,
      F.AIR_MACH_GRANT1_START.get w, F.AIR_MACH_GRANT1_LEN.get w⟩

/-- The rate the host asks for is the machine's, on the channel it has. -/
def State.rateSet (s : State) (mi wch mcs : Nat) : State := s.setAirM mi { s.airM mi with wch := wch, mcsUl := mcs, resend := 3 }

include hw hx hst hmi hstate

/-- A machine that holds a place is given the OBS grant that lies in its channel's uplink region. -/
theorem exec_obsGrantApply (hwch : s.fldB mi F.AIR_MACH_GRANT0_WCH = (s.airM mi).wch) (hlen : 1 ≤ F.AIR_MACH_GRANT1_LEN.get w)
    (hlen' : F.AIR_MACH_GRANT1_LEN.get w ≤ 500) (hstart : F.AIR_MACH_GRANT1_START.get w ≤ 2479)
    (hin : s.inRegion (s.airM mi).wch (F.AIR_MACH_GRANT1_START.get w) (F.AIR_MACH_GRANT1_LEN.get w) = true) :
    ∃ u, s.MachsKept u ∧ exec (.obsGrantApply w) s =
      .next ((u.rateSet mi (s.airM mi).wch (s.fldB mi F.AIR_MACH_GRANT0_MCS_UL)).regrant mi (s.obsAsked mi w) (s.airM mi).rpt) := by
  obtain ⟨u, hu, hadv, hair, hl, hs⟩ := State.hostReg_grant1 hst hlen hlen' hstart
  rw [← hmi] at hl hs
  have hkept : s.MachsKept u := ⟨hadv.widen, congrArg AirSt.mach hair, congrArg AirSt.jctrs hair⟩
  have hm : u.airM mi = s.airM mi := hkept.airM mi
  have hidx : s.airIdx = mi := hmi.symm
  have hon : u.blkOn Blk.AIR = true := hadv.flag.trans hw.2
  have hplace : ((s.airM mi).state == .notJoined) = false ∧ ((s.airM mi).state == .asleep) = false := by
    rcases hstate with h | h <;> rw [h] <;> decide
  refine ⟨u, hkept, (whileRunning_eq _ hw.1).trans (congrArg Host.Outcome.next ?_)⟩
  simp only [State.grant1Write, hidx, hx, hwch, hin, hu, thenIf, hon, hm, hplace, hadv.fldB mi (f := F.AIR_MACH_GRANT0_WCH),
    hadv.fldB mi (f := F.AIR_MACH_GRANT0_K), hadv.fldB mi (f := F.AIR_MACH_GRANT0_OFS), hadv.fldB mi (f := F.AIR_MACH_GRANT0_HALF),
    hadv.fldB mi (f := F.AIR_MACH_GRANT0_MCS_UL), hl, hs, bne_self_eq_false, State.airM_setAirM, State.rateSet, State.obsAsked,
    Bool.not_true, Bool.and_false, Bool.or_self, Bool.false_eq_true, if_false, if_true]

/-- With RPT_SET the machine is given the RPT grant, and it is the host's. -/
theorem exec_rptGrantApply (hset : F.AIR_MACH_GRANT2_RPT_SET.get w = 1) (hodd : F.AIR_MACH_GRANT2_BI.get w % 2 = 1)
    (hbi : F.AIR_MACH_GRANT2_BI.get w ≤ 19) (hlen : 1 ≤ F.AIR_MACH_GRANT2_LEN.get w) (hlen' : F.AIR_MACH_GRANT2_LEN.get w ≤ 500)
    (hstart : F.AIR_MACH_GRANT2_START.get w ≤ 2479)
    (hin : s.inRegion (s.airM mi).wch (F.AIR_MACH_GRANT2_START.get w) (F.AIR_MACH_GRANT2_LEN.get w) = true) :
    ∃ u, s.MachsKept u ∧ exec (.rptGrantApply w) s = .next ((u.setAirM mi { s.airM mi with rptSet := true }).regrant mi (s.airM mi).obs
      ⟨1, 0, F.AIR_MACH_GRANT2_HALF.get w, F.AIR_MACH_GRANT2_BI.get w, F.AIR_MACH_GRANT2_START.get w, F.AIR_MACH_GRANT2_LEN.get w⟩) := by
  obtain ⟨u, hu, hadv, hair, hr, hb, hh, hl, hs⟩ := State.hostReg_grant2 hst hodd hbi hlen hlen' hstart
  rw [← hmi] at hr hb hh hl hs
  have hkept : s.MachsKept u := ⟨hadv.widen, congrArg AirSt.mach hair, congrArg AirSt.jctrs hair⟩
  have hidx : s.airIdx = mi := hmi.symm
  have hon : u.blkOn Blk.AIR = true := hadv.flag.trans hw.2
  have hplace : ((s.airM mi).state == .notJoined) = false ∧ ((s.airM mi).state == .asleep) = false := by
    rcases hstate with h | h <;> rw [h] <;> decide
  refine ⟨u, hkept, (whileRunning_eq _ hw.1).trans (congrArg Host.Outcome.next ?_)⟩
  simp only [State.grant2Write, hidx, hx, hin, hu, thenIf, hon, hkept.airM mi, hplace, State.flagB, hr, hset, hb, hh, hl, hs,
    Bool.not_true, Bool.and_false, Bool.or_self, Bool.false_eq_true, if_false, if_true]
  rfl

end HostGranted

/-- At basic level both writes are ignored. -/
theorem exec_hostGrant_basic {s : State} (w : Word) (hs : s.running = true) (hx : s.expert Blk.AIR = false) :
    exec (.obsGrantApply w) s = .next s ∧ exec (.rptGrantApply w) s = .next s := by
  refine ⟨(whileRunning_eq _ hs).trans (congrArg Host.Outcome.next ?_), (whileRunning_eq _ hs).trans (congrArg Host.Outcome.next ?_)⟩
  · simp only [State.grant1Write, hx, Bool.not_false, Bool.true_or, if_true]
  · simp only [State.grant2Write, hx, Bool.not_false, Bool.true_or, if_true]

end Sys2Proof.Machine
end

section
/-!
Awake machines (R228, R233–R236): reports, lost machines, superframe starts. The last theorem settles O24.
-/

namespace Sys2Proof.Machine

/-! ## Reports and lost machines (R233, R235) -/

section Reports

variable {s : State} {mi : Nat} (hw : s.works Blk.AIR)
include hw

/-- A good report is stored; it may lower the rate of its channel. -/
theorem exec_rptRx {rx : AirRx} (hrx : s.rxGood rx) (hwide : s.wideRx rx = true) (hnew : s.airSeen (s.rxFrame rx) = false)
    (hmi : s.miOfAddr (s.rxFrame rx).src = some mi) (hft : (s.rxFrame rx).ftype = Ft.RPT) (hlen : (s.rxFrame rx).payload.length = 8) :
    ∃ u t, exec (.rptRx rx) s = .next t ∧ State.MachStep mi s u ∧ (s.airM mi).HeardFrom s.mono (u.airM mi) ∧
      (u.setAirM mi { u.airM mi with
        dlSnr := Bytes.at' (s.rxFrame rx).payload 0 1, upPend := Bytes.at' (s.rxFrame rx).payload 2 2 }).MachsKept t := by
  have ⟨_, _, hc, _⟩ := hrx
  obtain ⟨u, hu, hstep, hown⟩ := State.airFrom_good (State.airAddressed_rxGood hrx) hc hnew hmi hft hwide
  have hframe : u.rxFrame rx = s.rxFrame rx := hstep.advance.rxFrame
  refine ⟨u, _, whileOn_eq _ hw.1 hw.2, hstep, hown, ?_⟩
  simp only [hu, hframe, hlen, bne_self_eq_false, Bool.false_eq_true, if_false]
  split
  · exact State.machsKept_setDlMcs _ _ _
  · exact .refl _

theorem exec_lostGrantsWithdraw (hst : s.isStandby = false) (hlost : (s.airM mi).state = .lost)
    (hpast : (s.airM mi).lostAt + 20000000000 ≤ s.mono) : exec (.lostGrantsWithdraw mi) s = .next (s.withdraw mi) :=
  (whileOn_eq _ hw.1 hw.2).trans (congrArg Host.Outcome.next (if_pos ⟨hlost, decide_eq_true hpast, hst⟩))

end Reports

/-! ## What a superframe start does to one machine (R234, R236) -/

section OneMachine

variable (s : State) (mi : Nat)

/-- A machine's MOVE, where it has one, applies later. -/
def State.movesLater : Prop := ∀ v, (s.airM mi).move = some v → s.devClause < v.2

theorem AirMach.GrantsFrom.later {now : Nat} {a b : AirMach} (h : a.GrantsFrom now b) (ha : ∀ v, a.move = some v → now < v.2) :
    ∀ v, b.move = some v → now < v.2 := by
  obtain ⟨_, _, _, _, _, _, _, rfl, hm | ⟨v, hm, hv⟩⟩ := h
  · exact fun v h => ha v (hm ▸ h)
  · intro u hu
    rw [hm] at hu
    exact Option.some.inj hu ▸ hv

theorem State.moveApply_later {s : State} {mi : Nat} (h : s.movesLater mi) : s.moveApply mi = s := by
  unfold State.moveApply
  dsimp only
  split
  next hm => exact if_pos (h _ hm)
  · rfl

/-- The machine's grants are withdrawn, and it is on channel `w`. -/
def State.movedTo (w : Nat) : State :=
  (s.withdraw mi).setAirM mi { (s.withdraw mi).airM mi with wch := w, move := none, resend := 3 }

theorem State.moveApply_eq {s : State} {mi w k : Nat} (hm : (s.airM mi).move = some (w, k)) : s.moveApply mi =
    if s.devClause < k then s else ((s.movedTo mi w).grantAll mi).raise Ev.AIR_CH_MOVE 0 := by
  simp only [State.moveApply, hm, State.movedTo]

theorem State.machStep_movedTo (w : Nat) : State.MachStep mi s (s.movedTo mi w) :=
  (s.withdraw_leaves mi).1.trans (State.machStep_setAirM _ mi _)

/-- After a move the machine has new grants on its new channel. -/
theorem State.regrants_moved (w : Nat) : State.Regrants mi (s.movedTo mi w) (((s.movedTo mi w).grantAll mi).raise Ev.AIR_CH_MOVE 0) :=
  (State.regrants_grantAll _ mi).trans ((State.machsKept_raise _ _ _).regrants mi)

theorem State.machStep_moveApply : State.MachStep mi s (s.moveApply mi) := by
  cases hm : (s.airM mi).move with
  | none =>
    rw [State.moveApply_later fun v hv => by simp [hm] at hv]
    exact .refl mi s
  | some v =>
    rw [State.moveApply_eq hm]
    split
    · exact .refl mi s
    · exact (s.machStep_movedTo mi _).trans (s.regrants_moved mi _).step

/-- A MOVE that is due applies. -/
theorem State.moveApply_due {s : State} {mi w k : Nat} (hm : (s.airM mi).move = some (w, k)) (hk : k ≤ s.devClause) :
    ((s.moveApply mi).airM mi).wch = w ∧ (s.moveApply mi).movesLater mi ∧ (s.moveApply mi).pend Ev.AIR_CH_MOVE = true := by
  have hstep := s.machStep_moveApply mi
  have hown := (s.regrants_moved mi w).own
  have hpend := State.pend_raise ((s.movedTo mi w).grantAll mi) Ev.AIR_CH_MOVE 0
  rw [State.moveApply_eq hm, if_neg (Nat.not_lt.mpr hk)] at hstep ⊢
  have hat : (s.movedTo mi w).airM mi = { (s.withdraw mi).airM mi with wch := w, move := none, resend := 3 } := State.airM_setAirM _ _ _
  have hnow : (s.movedTo mi w).devClause = s.devClause := (s.machStep_movedTo mi w).advance.devClause
  rw [hat, hnow] at hown
  refine ⟨?_, ?_, hpend⟩
  · obtain ⟨_, _, _, _, _, _, _, h, -⟩ := hown
    rw [h]
  · rw [State.movesLater, hstep.advance.devClause]
    exact hown.later (by simp)

/-- A machine asleep from now on. -/
def AirMach.fellAsleep (m : AirMach) : AirMach :=
  { m with state := .asleep, sleepSent := false, sleepAcked := false, polled := false, missed := 0, ontime := 0 }

theorem State.sleepApply_eq : s.sleepApply mi =
    if (s.airM mi).sleepAcked && (s.airM mi).state == .awake then (s.setAirM mi (s.airM mi).fellAsleep).raise Ev.AIR_SLEEP 0 else s := rfl

theorem State.machStep_sleepApply : State.MachStep mi s (s.sleepApply mi) := by
  rw [s.sleepApply_eq]
  split
  · exact (s.machStep_setAirM mi _).trans ((State.machsKept_raise _ _ _).step mi)
  · exact .refl mi s

/-- Sleep leaves channel and MOVE. -/
theorem State.sleepApply_wch : ((s.sleepApply mi).airM mi).wch = (s.airM mi).wch ∧ ((s.sleepApply mi).airM mi).move = (s.airM mi).move := by
  rw [s.sleepApply_eq]
  split
  · rw [(State.machsKept_raise _ _ _).airM, State.airM_setAirM]
    exact ⟨rfl, rfl⟩
  · exact ⟨rfl, rfl⟩

/-- A superframe start's work for one machine. -/
def State.superApply : State := (s.moveApply mi).sleepApply mi

theorem State.machStep_superApply : State.MachStep mi s (s.superApply mi) := (s.machStep_moveApply mi).trans (State.machStep_sleepApply _ mi)

end OneMachine

/-! ## The machines in their turn -/

/-- What a machine's own turn makes of it stays, as its later turns and the others' leave it. -/
theorem superApply_foldl {mi : Nat} {P Q : State → Prop} (hown : ∀ s, P s → Q (s.superApply mi)) (hagain : ∀ s, Q s → Q (s.superApply mi))
    (hP : ∀ s j, j ≠ mi → P s → P (s.superApply j)) (hQ : ∀ s j, j ≠ mi → Q s → Q (s.superApply j)) {l : List Nat} (hl : mi ∈ l) {s : State}
    (h : P s) : Q (l.foldl State.superApply s) := by
  have hstay : ∀ (l : List Nat) (s : State), Q s → Q (l.foldl State.superApply s) := fun l => by
    induction l with
    | nil => exact fun _ h => h
    | cons j l ih =>
      refine fun s h => ih _ ?_
      by_cases hj : j = mi
      · exact hj ▸ hagain s h
      · exact hQ s j hj h
  induction l generalizing s with
  | nil => exact absurd hl List.not_mem_nil
  | cons j l ih =>
    by_cases hj : j = mi
    · exact hstay l _ (hj ▸ hown s h)
    · exact ih ((List.mem_cons.mp hl).resolve_left fun h => hj h.symm) (hP s j hj h)

/-- Machine `mi` has moved to channel `w`. -/
def State.hasMoved (mi w : Nat) (s : State) : Prop := (s.airM mi).wch = w ∧ s.movesLater mi ∧ s.pend Ev.AIR_CH_MOVE = true

/-- Machine `mi` has fallen asleep. -/
def State.sleeps (mi : Nat) (s : State) : Prop :=
  (s.airM mi).state = .asleep ∧ (s.airM mi).missed = 0 ∧ (s.airM mi).ontime = 0 ∧ s.pend Ev.AIR_SLEEP = true

theorem State.superApply_foldl_moves {s : State} {mi w k : Nat} (hm : (s.airM mi).move = some (w, k)) (hk : k ≤ s.devClause) {l : List Nat}
    (hl : mi ∈ l) : State.hasMoved mi w (l.foldl State.superApply s) := by
  have hsleep : ∀ u : State, State.hasMoved mi w u → State.hasMoved mi w (u.sleepApply mi) := fun u ⟨hw, hlater, hp⟩ => by
    have hstep := u.machStep_sleepApply mi
    obtain ⟨hwch, hmove⟩ := u.sleepApply_wch mi
    refine ⟨hwch.trans hw, ?_, hstep.advance.pend _ (by decide) hp⟩
    rw [State.movesLater, hmove, hstep.advance.devClause]
    exact hlater
  refine superApply_foldl (mi := mi) (P := fun s => (s.airM mi).move = some (w, k) ∧ k ≤ s.devClause) (Q := State.hasMoved mi w)
    (fun u ⟨hm, hk⟩ => hsleep _ (State.moveApply_due hm hk)) (fun u hu => ?_) (fun u j hj ⟨hm, hk⟩ => ?_) (fun u j hj ⟨hw, hlater, hp⟩ => ?_) hl
    ⟨hm, hk⟩
  · rw [State.superApply, State.moveApply_later hu.2.1]
    exact hsleep u hu
  · rw [(u.machStep_superApply j).others mi hj.symm, (u.machStep_superApply j).advance.devClause]
    exact ⟨hm, hk⟩
  · have hstep := u.machStep_superApply j
    refine ⟨by rw [hstep.others mi hj.symm, hw], ?_, hstep.advance.pend _ (by decide) hp⟩
    rw [State.movesLater, hstep.others mi hj.symm, hstep.advance.devClause]
    exact hlater

theorem State.superApply_foldl_sleeps {s : State} {mi : Nat} (hm : (s.airM mi).move = none) (hack : (s.airM mi).sleepAcked = true)
    (hawake : (s.airM mi).state = .awake) {l : List Nat} (hl : mi ∈ l) : State.sleeps mi (l.foldl State.superApply s) := by
  have hstay : ∀ u : State, (u.airM mi).move = none → u.superApply mi = u.sleepApply mi := fun u hm => by
    rw [State.superApply, State.moveApply_later fun v hv => by simp [hm] at hv]
  refine And.right (superApply_foldl (mi := mi)
    (P := fun u => u.airM mi = s.airM mi) (Q := fun u => u.airM mi = (s.airM mi).fellAsleep ∧ State.sleeps mi u)
    (fun u hu => ?_) (fun u ⟨hu, hs⟩ => ?_) (fun u j hj hu => ?_) (fun u j hj ⟨hu, hstate, hmissed, hontime, hp⟩ => ?_) hl rfl)
  · have hat : (u.superApply mi).airM mi = (s.airM mi).fellAsleep := by
      rw [hstay u (hu ▸ hm), u.sleepApply_eq, hu, hack, hawake]
      exact ((State.machsKept_raise _ _ _).airM mi).trans (State.airM_setAirM _ _ _)
    refine ⟨hat, by rw [hat]; rfl, by rw [hat]; rfl, by rw [hat]; rfl, ?_⟩
    rw [hstay u (hu ▸ hm), u.sleepApply_eq, hu, hack, hawake]
    exact State.pend_raise _ _ _
  · have hsame : u.superApply mi = u := by
      rw [hstay u (by rw [hu]; exact hm), u.sleepApply_eq, hu]
      rfl
    rw [hsame]
    exact ⟨hu, hs⟩
  · exact ((u.machStep_superApply j).others mi hj.symm).trans hu
  · have hstep := u.machStep_superApply j
    have hmi := hstep.others mi hj.symm
    exact ⟨hmi.trans hu, by rw [hmi]; exact hstate, by rw [hmi]; exact hmissed, by rw [hmi]; exact hontime, hstep.advance.pend _ (by decide) hp⟩

/-! ## The superframe start -/

/-- DL_PCT of the superframe that ends is shown, and the count begins anew. -/
def State.pctShown (s : State) : State :=
  let t := s.wideUp.foldl (fun s w => s.setFldB (s.wideM w) F.AIR_MOD_STAT_DL_PCT (s.air.dlPct.get 0 (s.wideM w))) s
  { t with air := { t.air with dlPct := [] } }

theorem State.machsKept_pctShown (s : State) : s.MachsKept s.pctShown :=
  (State.MachsKept.foldl (fun s w => s.machsKept_setFldB (s.wideM w) F.AIR_MOD_STAT_DL_PCT _) _ s).trans (State.machsKept_air _ rfl rfl)

/-- One machine of an overloaded channel may be sent a MOVE (R235). -/
theorem State.regrants_moveOne (s : State) : s.moveOne = s ∨ ∃ j, State.Regrants j s s.moveOne := by
  unfold State.moveOne
  split
  · exact .inl rfl
  · split
    · exact .inr ⟨_, s.regrants_sendMove _ _⟩
    · exact .inl rfl

/-- After the machines' turns, rates are recomputed and a machine may be sent a MOVE: grants and MOVE apart, every machine stays. -/
def State.Settled (s t : State) : Prop := State.Advance airRegs airParts s t ∧ ∀ k, (s.airM k).GrantsFrom s.devClause (t.airM k)

theorem State.settled_moveOne (s : State) : s.Settled s.moveOne := by
  obtain h | ⟨j, h⟩ := s.regrants_moveOne
  · rw [h]
    exact ⟨.refl _ _ s, fun k => .refl _ _⟩
  · refine ⟨h.step.advance, fun k => ?_⟩
    by_cases hk : k = j
    · exact hk ▸ h.own
    · rw [h.step.others k hk]
      exact .refl _ _

theorem State.Settled.hasMoved {s t : State} (h : s.Settled t) {mi w : Nat} (hm : State.hasMoved mi w s) : State.hasMoved mi w t := by
  obtain ⟨hadv, hown⟩ := h
  obtain ⟨hw, hlater, hp⟩ := hm
  refine ⟨?_, ?_, hadv.pend _ (by decide) hp⟩
  · obtain ⟨_, _, _, _, _, _, _, hm, -⟩ := hown mi
    rw [hm]
    exact hw
  · rw [State.movesLater, hadv.devClause]
    exact (hown mi).later hlater

theorem State.Settled.sleeps {s t : State} (h : s.Settled t) {mi : Nat} (hm : State.sleeps mi s) : State.sleeps mi t := by
  obtain ⟨hadv, hown⟩ := h
  obtain ⟨hstate, hmissed, hontime, hp⟩ := hm
  obtain ⟨_, _, _, _, _, _, _, hm, -⟩ := hown mi
  rw [State.sleeps, hm]
  exact ⟨hstate, hmissed, hontime, hadv.pend _ (by decide) hp⟩

/-- After the machines' turns: at basic level an active module recomputes rates and may move a machine. -/
def State.superRates (s : State) : State :=
  if s.expert Blk.AIR || !s.isActive then s else (s.wideUp.foldl (fun s w => s.setDlMcs w (s.dlTarget w)) s).moveOne

theorem exec_superframeStart {s : State} (hw : s.works Blk.AIR) : exec .superframeStart s =
    .next (if s.pctShown.isStandby then s.pctShown else (s.pctShown.airMis.foldl State.superApply s.pctShown).superRates) :=
  whileOn_eq _ hw.1 hw.2

theorem State.settled_superRates (u : State) : u.Settled u.superRates := by
  unfold State.superRates
  split
  · exact ⟨.refl _ _ u, fun k => .refl _ _⟩
  · have hrates := State.MachsKept.foldl (fun s w => s.machsKept_setDlMcs w (s.dlTarget w)) u.wideUp u
    obtain ⟨hadv, hown⟩ := State.settled_moveOne (u.wideUp.foldl (fun s w => s.setDlMcs w (s.dlTarget w)) u)
    refine ⟨hrates.advance.trans hadv, fun k => ?_⟩
    rw [← hrates.airM k, ← hrates.advance.devClause]
    exact hown k

/-- A superframe start: DL_PCT, the machines in their turn, and then rates and a MOVE at basic level. -/
theorem exec_superframeStart_settled {s : State} (hw : s.works Blk.AIR) (hst : s.isStandby = false) : ∃ t, exec .superframeStart s = .next t ∧
    (s.airMis.foldl State.superApply s.pctShown).Settled t := by
  have hkept := s.machsKept_pctShown
  have hst' : s.pctShown.isStandby = false := hkept.advance.isStandby.trans hst
  have hmis : s.pctShown.airMis = s.airMis := by rw [State.airMis, hkept.mach, State.airMis]
  rw [exec_superframeStart hw, hst', if_neg Bool.false_ne_true, hmis]
  exact ⟨_, rfl, State.settled_superRates _⟩

/-! ## The obligation -/

/-- Settles O24: a report by what hearing a machine leaves, grants by their change, and a superframe start by the machines' own turns. -/
theorem airMachines : Obligations.AirMachines := by
  unfold Obligations.AirMachines
  refine ⟨fun s rx mi hw hrx hwide hnew hmi hft hlen => ?report, fun s mi hw hst hlost hpast => ?lost, fun s mi w k hw hst hm hk hmem => ?moves,
    fun s mi hw hst hm hack hawake hmem => ?sleeps, fun s w mi hw hx hst hmi hstate hwch hlen hlen' hstart hin => ?obs,
    fun s w mi hw hx hst hmi hstate hset hodd hbi hlen hlen' hstart hin => ?rpt,
    fun s w hs hx => (exec_hostGrant_basic w hs hx).1, fun s w hs hx => (exec_hostGrant_basic w hs hx).2⟩
  case report =>
    obtain ⟨u, t, ht, hstep, hheard, hkept⟩ := exec_rptRx hw hrx hwide hnew hmi hft hlen
    have hall := (hstep.trans (u.machStep_setAirM mi _)).trans (hkept.step mi)
    have hat := (hkept.airM mi).trans (u.airM_setAirM mi _)
    obtain ⟨_, _, _, _, _, _, _, _, _, hm⟩ := hheard
    rw [hm] at hat
    exact ⟨t, ht, congrArg AirMach.dlSnr hat, congrArg AirMach.upPend hat, congrArg AirMach.lastHeard hat, hall.others⟩
  case lost =>
    obtain ⟨hstep, n, hm⟩ := s.withdraw_leaves mi
    exact ⟨_, exec_lostGrantsWithdraw hw hst hlost hpast, congrArg AirMach.obs hm, congrArg AirMach.rpt hm,
      (congrArg AirMach.state hm).trans hlost, hstep.others⟩
  case moves =>
    obtain ⟨t, ht, hsettled⟩ := exec_superframeStart_settled hw hst
    have hkept := s.machsKept_pctShown
    obtain ⟨hwch, -, hpend⟩ := hsettled.hasMoved (State.superApply_foldl_moves (s := s.pctShown) ((congrArg AirMach.move (hkept.airM mi)).trans hm)
      (hkept.advance.devClause ▸ hk) hmem)
    exact ⟨t, ht, hwch, hpend⟩
  case sleeps =>
    obtain ⟨t, ht, hsettled⟩ := exec_superframeStart_settled hw hst
    have hat := s.machsKept_pctShown.airM mi
    exact ⟨t, ht, hsettled.sleeps (State.superApply_foldl_sleeps (s := s.pctShown) ((congrArg AirMach.move hat).trans hm)
      ((congrArg AirMach.sleepAcked hat).trans hack) ((congrArg AirMach.state hat).trans hawake) hmem)⟩
  case obs =>
    obtain ⟨u, hkept, ht⟩ := exec_obsGrantApply hw hx hst hmi hstate hwch hlen hlen' hstart hin
    obtain ⟨hstep, n, hm, hn⟩ := (u.rateSet mi (s.airM mi).wch (s.fldB mi F.AIR_MACH_GRANT0_MCS_UL)).regrant_leaves mi (s.obsAsked mi w)
      (s.airM mi).rpt
    have hat : (u.rateSet mi (s.airM mi).wch (s.fldB mi F.AIR_MACH_GRANT0_MCS_UL)).airM mi = _ := State.airM_setAirM _ _ _
    rw [hat] at hm hn
    have hall := ((hkept.step mi).trans (u.machStep_setAirM mi _)).trans hstep
    refine ⟨_, ht, ?_, ?_, ?_, ?_, hall.others⟩
    · rw [hm]
      rfl
    · rw [hm]
    · rw [hm]
    · rw [hm]
      exact hn.elim id id
  case rpt =>
    obtain ⟨u, hkept, ht⟩ := exec_rptGrantApply hw hx hst hmi hstate hset hodd hbi hlen hlen' hstart hin
    obtain ⟨hstep, n, hm, -⟩ := (u.setAirM mi { s.airM mi with rptSet := true }).regrant_leaves mi (s.airM mi).obs
      ⟨1, 0, F.AIR_MACH_GRANT2_HALF.get w, F.AIR_MACH_GRANT2_BI.get w, F.AIR_MACH_GRANT2_START.get w, F.AIR_MACH_GRANT2_LEN.get w⟩
    rw [State.airM_setAirM] at hm
    have hall := ((hkept.step mi).trans (u.machStep_setAirM mi _)).trans hstep
    exact ⟨_, ht, by rw [hm], by rw [hm], by rw [hm], hall.others⟩

end Sys2Proof.Machine
end

section
/-!
Sleeping machines (R236–R239, R247): commands, polls and missed polls. The last theorem settles O25.
-/

namespace Sys2Proof.Machine

/-! ## SLEEP, WAKE and GUARD (R236, R237, R246, R247) -/

section Commands

variable {s : State} {g mi k : Nat} (hw : s.works Blk.AIR)

/-- The port 0 message SLEEP with a guard, WAKE_SF, WAKE_BI and PARENT of a machine. -/
def State.sleepBody (s : State) (mi guard : Nat) : List Byte :=
  [0#8, 0#8, 2#8] ++ Bytes.ofNat 1 (s.fldB mi F.AIR_MACH_PARENT_WAKE_SF) ++ Bytes.ofNat 1 (s.fldB mi F.AIR_MACH_PARENT_WAKE_BI)
    ++ Bytes.ofNat 2 guard ++ Bytes.ofNat 2 (s.fldB mi F.AIR_MACH_PARENT_PARENT)

/-- SLEEP waits for a burst, and the machine's grants are withdrawn. -/
def State.sleepWaits (s : State) (mi guard : Nat) : State := (s.dataWaits mi (s.sleepBody mi guard)).withdraw mi

/-- A machine that SLEEP is sent to. -/
def AirMach.toSleep (m : AirMach) (guard : Nat) : AirMach := { m with guard := guard, sleepSent := true, upPend := max m.upPend 1 }

theorem State.cmdGuard_basic (hx : s.expert Blk.AIR = false) (g : Nat) : s.cmdGuard g = some (s.fld F.AIR_GUARD_MIN_100US) := by
  simp only [State.cmdGuard, hx, Bool.not_false, Bool.true_or, if_true]

theorem State.airData_awake (hm : s.machAwake mi = true) (payload : List Byte) : s.airData mi payload = s.dataWaits mi payload :=
  if_pos (eq_of_beq hm)

/-- SLEEP to an awake machine. -/
theorem State.airSleep_awake (hst : s.isStandby = false) (hmi : mi = s.airIdx) (hm : s.machAwake mi = true) (hg : s.cmdGuard g = some k) :
    s.airSleep g = (s.sleepWaits mi k).setAirM mi (((s.sleepWaits mi k).airM mi).toSleep k) := by
  subst hmi
  simp only [State.airSleep, hg, hm, hst, State.airData_awake hm, Bool.not_true, Bool.or_self, Bool.false_eq_true, if_false]
  rfl

include hw

theorem exec_machSleep : exec (.machSleep g) s = .next (s.airSleep g) := whileOn_eq _ hw.1 hw.2

/-- A guard out of its range changes nothing. -/
theorem exec_machSleep_none (hg : s.cmdGuard g = none) : exec (.machSleep g) s = .next s :=
  (exec_machSleep hw).trans (congrArg Host.Outcome.next (by simp only [State.airSleep, hg]))

theorem exec_machWake (hst : s.isStandby = false) (hmi : mi = s.airIdx) (hm : (s.airM mi).state = .asleep) :
    exec .machWake s = .next (s.setAirM mi { s.airM mi with wakeHeld := true }) := by
  subst hmi
  exact (whileOn_eq _ hw.1 hw.2).trans (congrArg Host.Outcome.next (if_pos ⟨hm, hst⟩))

theorem exec_machGuard (hst : s.isStandby = false) (hx : s.expert Blk.AIR = true) (hmi : mi = s.airIdx) (hg : s.cmdGuard g = some k) :
    exec (.machGuard g) s = .next (s.setAirM mi { s.airM mi with guard := k }) := by
  subst hmi
  refine (whileOn_eq _ hw.1 hw.2).trans (congrArg Host.Outcome.next ?_)
  simp only [State.airGuard, hg, hx, hst, Bool.not_false, Bool.and_self, if_true]

end Commands

/-! ## A poll (R237, R239) -/

section Poll

variable (s : State) (mi : Nat)

/-- Guard and count of polls on time after a poll, at basic level. -/
def State.guardAfter (late : Bool) : Nat × Nat :=
  if late then (min (2 * (s.airM mi).guard) (s.fld F.AIR_GUARD_MAX_100US), 0)
  else if (s.airM mi).ontime + 1 < 16 then ((s.airM mi).guard, (s.airM mi).ontime + 1)
  else (max (s.fld F.AIR_GUARD_MIN_100US) ((s.airM mi).guard / 2), 0)

/-- At basic level a poll moves the guard, and a late one is reported. -/
theorem State.pollGuard_basic (hx : s.expert Blk.AIR = false) (late : Bool) : State.MachStep mi s (s.pollGuard mi late) ∧
    (s.pollGuard mi late).airM mi = { s.airM mi with guard := (s.guardAfter mi late).1, ontime := (s.guardAfter mi late).2 } ∧
    (late = true → (s.pollGuard mi late).pend Ev.AIR_POLL_LATE = true) := by
  have hset : ∀ m, State.MachStep mi s (s.setAirM mi m) ∧ (s.setAirM mi m).airM mi = m := fun m => ⟨s.machStep_setAirM mi m, s.airM_setAirM mi m⟩
  have hraise : ∀ m n, n < 256 → State.MachStep mi s ((s.setAirM mi m).raise n 0) ∧ ((s.setAirM mi m).raise n 0).airM mi = m := fun m n hn => by
    have h := State.machsKept_raise (s.setAirM mi m) n 0 hn
    exact ⟨(hset m).1.trans (h.step mi), (h.airM mi).trans (hset m).2⟩
  simp only [State.pollGuard, hx, Bool.false_eq_true, if_false, State.guardAfter]
  cases late with
  | true =>
    obtain ⟨hstep, hm⟩ := hraise { s.airM mi with guard := min (2 * (s.airM mi).guard) (s.fld F.AIR_GUARD_MAX_100US), ontime := 0 }
      Ev.AIR_POLL_LATE (by decide)
    exact ⟨hstep, hm, fun _ => State.pend_raise _ _ _⟩
  | false =>
    simp only [Bool.false_eq_true, if_false, false_implies, and_true]
    split
    · exact hset _
    · split
      · exact hraise _ _ (by decide)
      · exact hset _

theorem State.machsKept_sendHeld (modem addr : Nat) (l : List (List Byte)) (s : State) : s.MachsKept (State.sendHeld modem addr s l) := by
  induction l generalizing s with
  | nil => exact .refl s
  | cons p l ih => exact (s.machsKept_nextFctr.trans (State.machsKept_airNormal _ _ _)).trans (ih _)

/-- An answered poll ends sleep where a WAKE is held. -/
def AirMach.wakes (m : AirMach) : Bool := m.state == .asleep && m.wakeHeld

/-- A machine whose poll is answered: `held` frames stay held, and a WAKE that was held has reached it. -/
def AirMach.answered (m : AirMach) (held : List (List Byte)) : AirMach :=
  if m.wakes then { m with heldFrames := held, state := .notJoined, wakeHeld := false } else { m with heldFrames := held }

theorem AirMach.answered_leaves (m : AirMach) (held : List (List Byte)) : (m.answered held).polled = m.polled ∧
    (m.answered held).lastHeard = m.lastHeard ∧ (m.answered held).guard = m.guard ∧ (m.answered held).ontime = m.ontime ∧
    (m.answered held).state = if m.wakes then .notJoined else m.state := by
  unfold AirMach.answered
  split <;> exact ⟨rfl, rfl, rfl, rfl, rfl⟩

/-- The answer to a poll: the response, the held frames, and the end of sleep. -/
theorem State.pollRsp_leaves (modem : Nat) : State.MachStep mi s (s.pollRsp mi modem) ∧
    (∃ held, (s.pollRsp mi modem).airM mi = (s.airM mi).answered held) ∧
    ((s.airM mi).wakes = true → (s.pollRsp mi modem).pend Ev.AIR_WAKE = true) := by
  have hwake : ∀ t : State, (State.MachStep mi s t ∧ ∃ held, t.airM mi = { s.airM mi with heldFrames := held }) →
      let u := if (s.airM mi).wakes then (t.setAirM mi { t.airM mi with state := .notJoined, wakeHeld := false }).raise Ev.AIR_WAKE 0 else t
      State.MachStep mi s u ∧ (∃ held, u.airM mi = (s.airM mi).answered held) ∧ ((s.airM mi).wakes = true → u.pend Ev.AIR_WAKE = true) := by
    rintro t ⟨hstep, held, hm⟩
    unfold AirMach.answered
    split
    · have hraise := State.machsKept_raise (t.setAirM mi { t.airM mi with state := .notJoined, wakeHeld := false }) Ev.AIR_WAKE 0
      refine ⟨(hstep.trans (t.machStep_setAirM mi _)).trans (hraise.step mi), ⟨held, ?_⟩, fun _ => State.pend_raise _ _ _⟩
      rw [hraise.airM, State.airM_setAirM, hm]
    · exact ⟨hstep, ⟨held, hm⟩, fun h => absurd h ‹_›⟩
  have hheld : ∀ (u v : State) (c : Prop) [Decidable c], s.MachsKept u → s.MachsKept v →
      let t := if c then u else v.setAirM mi { s.airM mi with heldFrames := [] }
      State.MachStep mi s t ∧ ∃ held, t.airM mi = { s.airM mi with heldFrames := held } := fun u v c _ hu hv => by
    by_cases hc : c
    · simp only [hc, if_true]
      exact ⟨hu.step mi, (s.airM mi).heldFrames, hu.airM mi⟩
    · simp only [hc, if_false]
      exact ⟨(hv.step mi).trans (v.machStep_setAirM mi _), [], v.airM_setAirM mi _⟩
  have hsent := fun f => s.machsKept_nextFctr.trans (State.machsKept_airNormal s.nextFctr.2 modem f)
  exact hwake _ (hheld _ _ _ ((hsent _).trans (.foldl (fun s _ => s.machsKept_dutyDefer) _ _))
    ((hsent _).trans (State.machsKept_sendHeld _ _ _ _)))

end Poll

section PollRx

theorem AirMach.HeardFrom.keeps {now : Nat} {a b : AirMach} (h : a.HeardFrom now b) : b.lastHeard = now ∧ b.state = a.state ∧
    b.guard = a.guard ∧ b.ontime = a.ontime ∧ b.wakeHeld = a.wakeHeld := by
  obtain ⟨_, _, _, _, _, _, _, _, _, rfl⟩ := h
  exact ⟨rfl, rfl, rfl, rfl, rfl⟩

variable {s : State} {rx : AirRx} {mi : Nat}

/-- A machine that has polled. -/
def State.polledBy (s : State) (mi : Nat) : State := s.setAirM mi { s.airM mi with polled := true }

/-- A poll of a sleeping machine moves its guard and is answered. -/
theorem exec_pollRx (hw : s.works Blk.AIR) (hact : s.isActive = true) (haddr : s.airAddressed rx = (s, true)) (hc : s.cmacGood rx = true)
    (hnew : s.airSeen (s.rxFrame rx) = false) (hmi : s.miOfAddr (s.rxFrame rx).src = some mi) (hft : (s.rxFrame rx).ftype = Ft.POLL)
    (hlen : (s.rxFrame rx).payload.length = 4) (hkind : s.modemKind rx.modem = Phy.NARROW) (hm : (s.airM mi).state = .asleep) :
    ∃ u, State.MachStep mi s u ∧ (s.airM mi).HeardFrom s.mono (u.airM mi) ∧
      exec (.pollRx rx) s = .next (((u.polledBy mi).pollGuard mi (s.rxFrame rx).late).pollRsp mi rx.modem) := by
  have hwide : s.wideRx rx = typeWide Ft.POLL := by
    rw [State.wideRx, hkind]
    decide
  obtain ⟨u, hu, hstep, hown⟩ := State.airFrom_good haddr hc hnew hmi hft hwide
  refine ⟨u, hstep, hown, (whileOn_eq _ hw.1 hw.2).trans (congrArg Host.Outcome.next ?_)⟩
  have hframe : u.rxFrame rx = s.rxFrame rx := hstep.advance.rxFrame
  have hsends : u.airTransmits = true := by
    rw [State.airTransmits, hstep.advance.isActive, hact, Bool.and_true]
    exact hstep.advance.flag.trans hw.2
  have hasleep : ((u.polledBy mi).airM mi).state = .asleep := by
    obtain ⟨-, hstate, -⟩ := hown.keeps
    rw [State.polledBy, State.airM_setAirM]
    exact hstate.trans hm
  have hframe' : (u.polledBy mi).rxFrame rx = s.rxFrame rx := (u.machStep_setAirM mi _).advance.rxFrame.trans hframe
  rw [State.polledBy] at hasleep hframe'
  simp only [hu, hframe, hframe', hlen, hsends, hasleep, bne_self_eq_false, Bool.not_true, Bool.or_self, Bool.false_eq_true, if_false, if_true,
    State.polledBy]

end PollRx

/-! ## A missed poll (R237) -/

section Missed

variable {s : State} {mi : Nat}

/-- A machine that missed a poll. -/
def State.missedMach (s : State) (mi : Nat) : AirMach :=
  { s.airM mi with
    missed := min 65535 ((s.airM mi).missed + 1),
    missEvent := if dueSince s (s.airM mi).missEvent (60 * nsPerSec) then some s.mono else (s.airM mi).missEvent }

/-- The missed poll is counted of the machine and in AIR_CNT4. -/
def State.missCounted (s : State) (mi : Nat) : State := (s.setAirM mi (s.missedMach mi)).bump (F.AIR_CNT_COUNT.nth 4)

theorem exec_pollMissed (hw : s.works Blk.AIR) (hst : s.isStandby = false) (hm : (s.airM mi).state = .asleep) (hdue : s.pollDue mi = true)
    (hno : (s.airM mi).polled = false) : exec (.pollMissed mi) s =
      .next (if dueSince s (s.airM mi).missEvent (60 * nsPerSec) then (s.missCounted mi).raise Ev.AIR_POLL_MISSED 0 else s.missCounted mi) := by
  refine (whileOn_eq _ hw.1 hw.2).trans (congrArg Host.Outcome.next ?_)
  simp only [hst, hm, hdue, hno, bne_self_eq_false, Bool.not_true, Bool.or_self, Bool.false_eq_true, if_false,
    State.missCounted, State.missedMach]

theorem State.missCounted_leaves (s : State) (mi : Nat) : (s.missCounted mi).air = (s.setAirM mi (s.missedMach mi)).air ∧
    (s.missCounted mi).fld (F.AIR_CNT_COUNT.nth 4) = min (s.fld (F.AIR_CNT_COUNT.nth 4) + 1) (2 ^ 32 - 1) ∧
    State.ReportFrame [R.AIR_CNT + 16] [.air, .ahn] s (s.missCounted mi) := by
  have hset := s.setAirM_frame mi (s.missedMach mi) rfl rfl rfl rfl
  refine ⟨State.bump_air _ _ _, ?_, ?_⟩
  · rw [State.missCounted, State.fld_bump_airCnt _ (by decide), hset.fld (by decide)]
  · have hshown : State.ReportFrame [R.AIR_CNT + 16] [.air, .ahn] s (s.setAirM mi (s.missedMach mi)) :=
      (hset.report_of (parts' := [.air, .ahn]) (by decide)).mono (by simp) (by simp)
    exact hshown.trans (by decide) ((State.bump_frame _ (F.AIR_CNT_COUNT.nth 4) 1 (by decide)).report.mono (by decide) (by simp))

end Missed

/-! ## The obligation -/

/-- Settles O25: commands by their one machine, a poll by its guard and its answer, a missed poll by its counts. -/
theorem airSleep : Obligations.AirSleep := by
  unfold Obligations.AirSleep
  refine ⟨fun s g mi k hw hst hmi hawake hg => ?sleep, fun s g hx => State.cmdGuard_basic hx g, fun s g hw hg => exec_machSleep_none hw hg,
    fun s mi hw hst hmi hm => ?wake, fun s g mi k hw hst hx hmi hg => ?guard,
    fun s rx mi hw hact hh hc hcm hf hnew hmi hft hlen hkind hx hm => ?poll, fun s mi hw hst hm hdue hno => ?missed⟩
  case sleep =>
    have hwait := s.machsKept_dataWaits mi (s.sleepBody mi k)
    obtain ⟨hdraw, n, hm⟩ := (s.dataWaits mi (s.sleepBody mi k)).withdraw_leaves mi
    have hall := ((hwait.step mi).trans hdraw).trans (State.machStep_setAirM _ mi (((s.sleepWaits mi k).airM mi).toSleep k))
    have hat := State.airM_setAirM (s.sleepWaits mi k) mi (((s.sleepWaits mi k).airM mi).toSleep k)
    have hdata : (s.sleepWaits mi k).air.dataDn = (s.dataWaits mi (s.sleepBody mi k)).air.dataDn := State.withdraw_dataDn _ mi
    rw [hwait.airM] at hm
    refine ⟨_, (exec_machSleep hw).trans (congrArg Host.Outcome.next (State.airSleep_awake hst hmi hawake hg)), ?_, ?_, ?_, ?_, ?_,
      (State.setAirM_dataDn _ _ _).trans hdata, hall.others⟩
    all_goals rw [hat, AirMach.toSleep]
    · rw [State.sleepWaits, hm]
    · rw [State.sleepWaits, hm]
    · rw [State.sleepWaits, hm]
      exact eq_of_beq hawake
  case wake =>
    exact ⟨_, exec_machWake hw hst hmi hm, s.airM_setAirM mi _, (s.machStep_setAirM mi _).others, s.setAirM_frame mi _ rfl rfl rfl rfl⟩
  case guard =>
    exact ⟨_, exec_machGuard hw hst hx hmi hg, s.airM_setAirM mi _, (s.machStep_setAirM mi _).others, s.setAirM_frame mi _ rfl rfl rfl rfl⟩
  case poll =>
    obtain ⟨u, hstep, hown, ht⟩ := exec_pollRx hw hact (State.airAddressed_good hh hc hf) hcm hnew hmi hft hlen hkind hm
    have hpolled : State.MachStep mi s (u.polledBy mi) := hstep.trans (u.machStep_setAirM mi _)
    have hat : (u.polledBy mi).airM mi = { u.airM mi with polled := true } := u.airM_setAirM mi _
    have hx' : (u.polledBy mi).expert Blk.AIR = false := hx ▸ hpolled.advance.flag
    obtain ⟨hheard, hstate, hguard, hontime, hwake⟩ := hown.keeps
    have hafter : (u.polledBy mi).guardAfter mi (s.rxFrame rx).late = s.guardAfter mi (s.rxFrame rx).late := by
      simp only [State.guardAfter, hat, hguard, hontime, hpolled.advance.fld (f := F.AIR_GUARD_MIN_100US),
        hpolled.advance.fld (f := F.AIR_GUARD_MAX_100US)]
    obtain ⟨hmoved, hv, hlate⟩ := (u.polledBy mi).pollGuard_basic mi hx' (s.rxFrame rx).late
    rw [hat, hafter] at hv
    generalize (u.polledBy mi).pollGuard mi (s.rxFrame rx).late = v at hmoved hv hlate ht
    obtain ⟨hrsp, ⟨held, hend⟩, hawake⟩ := v.pollRsp_leaves mi rx.modem
    have hwakes : (v.airM mi).wakes = (s.airM mi).wakeHeld := by simp only [hv, AirMach.wakes, hstate, hm, hwake, beq_self_eq_true, Bool.true_and]
    obtain ⟨hp, hl, hg, hon, hst⟩ := (v.airM mi).answered_leaves held
    rw [hwakes] at hawake hst
    refine ⟨_, ht, ?_, ?_, ?_, fun h => ?_, fun h hlt => ?_, fun h hge => ?_, hawake, ((hpolled.trans hmoved).trans hrsp).others⟩
    all_goals rw [hend]
    · rw [hp, hv]
    · rw [hl, hv]
      exact hheard
    · rw [hst, hv]
      simp only [hstate, hm]
    all_goals rw [hg, hon, hv, State.guardAfter, h]
    · exact ⟨rfl, rfl, hrsp.advance.pend _ (by decide) (hlate h)⟩
    · simp only [hlt, Bool.false_eq_true, if_false, if_true, and_self]
    · simp only [Nat.not_lt.mpr hge, Bool.false_eq_true, if_false, and_self]
  case missed =>
    obtain ⟨hair, hcount, hframe⟩ := s.missCounted_leaves mi
    have hat : (s.missCounted mi).airM mi = s.missedMach mi := by rw [State.airM, hair, ← State.airM, State.airM_setAirM]
    have hothers : ∀ j, j ≠ mi → (s.missCounted mi).airM j = s.airM j := fun j hj => by
      rw [State.airM, hair]
      exact (s.machStep_setAirM mi _).others j hj
    have hraise := State.machsKept_raise (s.missCounted mi) Ev.AIR_POLL_MISSED 0
    refine ⟨_, exec_pollMissed hw hst hm hdue hno, ?_⟩
    split
    next hd =>
      refine ⟨?_, (State.raise_fld _ _ (by decide) (by decide) (by decide)).trans hcount, fun _ => ⟨State.pend_raise _ _ _, ?_⟩,
        fun j hj => (hraise.airM j).trans (hothers j hj), hframe.trans (by decide) ((State.raise_frame _ 0 (by decide)).mono (by simp) (by simp))⟩
      · rw [hraise.airM, hat]
        rfl
      · rw [hraise.airM, hat, State.missedMach]
        exact if_pos hd
    next hd =>
      refine ⟨?_, hcount, fun hnone => absurd ?_ hd, hothers, hframe⟩
      · rw [hat]
        rfl
      · rw [hnone]
        rfl

end Sys2Proof.Machine
end

section
/-!
Steps of the Fleet Work Dispatcher that a machine's coming and going causes (R269, R275–R277): what they leave of the orders.
-/

namespace Sys2Proof.Machine

/-! ## Steps that leave the orders -/

/-- The registers these steps change: counters, and the states of bays. -/
def dspRegs : List Nat := [R.DSP_CNT + 4, R.DSP_CNT + 20, R.DMU_GRP_STAT]

/-- The parts they change: DSP, DMU, the mirror, free values. -/
def dspParts : List Part := [.dsp, .dmu, .ahn, .freeCtr]

/-- `t` is `s` after a step that leaves AIR and the orders alone. -/
structure State.OrdersKept (s t : State) : Prop where
  advance : State.Advance dspRegs dspParts s t
  orders : t.dsp.orders = s.dsp.orders

theorem State.OrdersKept.order {s t : State} (h : s.OrdersKept t) (i : Nat) : t.order i = s.order i := by
  rw [State.order, h.orders, State.order]

theorem State.OrdersKept.refl (s : State) : s.OrdersKept s := ⟨.refl _ _ s, rfl⟩

theorem State.OrdersKept.trans {s t u : State} (h : s.OrdersKept t) (k : t.OrdersKept u) : s.OrdersKept u :=
  ⟨h.advance.trans k.advance, k.orders.trans h.orders⟩

/-- An operation that leaves DSP alone. -/
theorem State.Advance.ordersKept {regs : List Nat} {parts : List Part} {s t : State} (h : State.Advance regs parts s t)
    (hr : ∀ a ∈ regs, a ∈ dspRegs := by decide) (hp : ∀ p ∈ parts, p ∈ dspParts := by decide) (hd : .dsp ∉ parts := by decide) :
    s.OrdersKept t :=
  have hdsp : t.dsp = s.dsp := h.same .dsp hd
  ⟨h.widen hr hp, congrArg DspSt.orders hdsp⟩

section Kept

variable (s : State)

theorem State.dsp_frame (v : DspSt) : State.Frame [] [.dsp] s { s with dsp := v } :=
  ⟨fun _ _ _ _ => rfl, fun _ => rfl, fun p hp => by cases p <;> simp_all [Part.same]⟩

theorem State.progress_setDsp (f : DspSt → DspSt) : State.Progress [] [.dsp] s (s.setDsp f) :=
  .of_frame (s.dsp_frame _) (State.outKept_of_eq rfl)

theorem State.dmu_frame (v : DmuSt) : State.Frame [] [.dmu] s { s with dmu := v } :=
  ⟨fun _ _ _ _ => rfl, fun _ => rfl, fun p hp => by cases p <;> simp_all [Part.same]⟩

theorem State.progress_setDmu (f : DmuSt → DmuSt) : State.Progress [] [.dmu] s (s.setDmu f) :=
  .of_frame (s.dmu_frame _) (State.outKept_of_eq rfl)

theorem State.ordersKept_setDsp {f : DspSt → DspSt} (h : (f s.dsp).orders = s.dsp.orders) : s.OrdersKept (s.setDsp f) :=
  ⟨((s.progress_setDsp f).advance rfl).widen, h⟩

theorem State.ordersKept_setDmu (f : DmuSt → DmuSt) : s.OrdersKept (s.setDmu f) := ((s.progress_setDmu f).advance rfl).ordersKept

theorem State.ordersKept_raise (n a : Nat) (hn : n < 256 := by decide) : s.OrdersKept (s.raise n a) :=
  ((s.progress_raise n a hn).advance (congrArg AhnSt.role (s.raise_ahn a hn))).ordersKept

theorem State.ordersKept_bump (f : Fld) (hf : f.addr ∈ dspRegs := by decide) (ha : f.addr < 0x4000000 := by decide)
    (hq : ∀ a ∈ [f.addr], a ∉ ringCfgRegs ∧ reportReg a = false := by decide) : s.OrdersKept (s.bump f) :=
  ((s.progress_bump f 1 ha hq).advance rfl).ordersKept (by simpa using hf)

theorem State.ordersKept_mirror (k : Nat) (m : MirrorBody) (snap : Bool) : s.OrdersKept (s.mirror k m snap) :=
  ((s.progress_mirror k m snap).advance (s.mirror_role k m snap)).ordersKept

theorem State.ordersKept_bayStat (b : Nat) (f : Fld) (v : Nat) (hf : f.addr = R.DMU_GRP_STAT := by decide) : s.OrdersKept (s.setFldB b f v) := by
  have hframe : State.Frame [R.DMU_GRP_STAT] [] s (s.setFldB b f v) := hf ▸ s.setFldB_frame b v (hf ▸ by decide)
  exact ((State.Progress.of_frame (parts := []) hframe (State.outKept_of_eq (s.setFldB_out b f v)) (by simp)).advance rfl).ordersKept

/-- What is traced leaves the orders. -/
theorem State.ordersKept_tracePut (src what who id when' why prio : Nat) : s.OrdersKept (s.tracePut src what who id when' why prio) := by
  have hseq : s.OrdersKept (s.setDsp fun d => { d with tseq := (d.tseq + 1) % 65536 }) := s.ordersKept_setDsp rfl
  unfold State.tracePut
  dsimp only
  generalize s.setDsp (fun d => { d with tseq := (d.tseq + 1) % 65536 }) = u at hseq
  have hput : ∀ p x, u.ringPut (u.fld F.DSP_TRACE_RING) Blk.DSP p = x → s.OrdersKept x.1 := fun p x hx =>
    hx ▸ hseq.trans (u.offers_ringPut (u.fld F.DSP_TRACE_RING) Blk.DSP p false).advance.ordersKept
  split
  next hr => exact hput _ _ hr
  next hr =>
    have hput := hput _ _ hr
    have hdrop := hput.trans (State.ordersKept_bump _ (dspCnt 5))
    split
    · exact hput
    split
    · exact hdrop.trans ((State.ordersKept_setDsp _ rfl).trans (State.ordersKept_raise _ _ _))
    · exact hdrop

theorem State.ordersKept_trace (what i : Nat) (who : Option Nat) (why : Nat) : s.OrdersKept (s.trace what i who why) := by
  have hdraw : s.OrdersKept s.draw.2 := (s.progress_draw.advance rfl).ordersKept
  unfold State.trace
  split
  · exact .refl s
  · dsimp only
    split
    · exact s.ordersKept_tracePut _ _ _ _ _ _ _
    · exact hdraw.trans (State.ordersKept_tracePut _ _ _ _ _ _ _ _)

/-- A session opens on a bay (R277): the bay's state, and the meters. -/
theorem State.ordersKept_sessionOpen (b order mi : Nat) : s.OrdersKept (s.sessionOpen b order mi) := by
  have hbay : ∀ (u : State) (c : Prop) [Decidable c], u.OrdersKept (if c then u else u.setBayFree b false) := fun u c _ => by
    unfold State.setBayFree
    split
    · exact .refl u
    split
    · exact .refl u
    · exact (u.ordersKept_bayStat b F.DMU_GRP_STAT_BAY_FREE _).trans (State.ordersKept_raise _ _ _)
  unfold State.sessionOpen
  split
  · exact .refl s
  · exact ((((s.ordersKept_setDmu _).trans (State.ordersKept_bayStat _ b F.DMU_GRP_STAT_SESSION 1)).trans (State.ordersKept_setDmu _ _)).trans
      (hbay _ _)).trans (State.ordersKept_mirror _ _ _ _)

end Kept

/-! ## Steps that set an order -/

section Orders

variable (s : State) (i : Nat)

theorem State.setOrder_orders (o : Order) : (s.setOrder i o).dsp.orders = s.dsp.orders.set Order.free i o := by
  rw [State.setOrder, State.mirror_dsp]
  rfl

theorem State.order_setOrder_same (o : Order) : (s.setOrder i o).order i = o := by
  rw [State.order, s.setOrder_orders]
  exact SMap.get_set_same _ _ _ _

theorem State.order_setOrder_other (o : Order) {j : Nat} (h : j ≠ i) : (s.setOrder i o).order j = s.order j := by
  rw [State.order, s.setOrder_orders]
  exact SMap.get_set_other _ _ _ _ h

theorem State.advance_setOrder (o : Order) : State.Advance [] [.dsp, .ahn] s (s.setOrder i o) :=
  ((s.progress_setDsp _).advance rfl).widen.trans ((State.progress_mirror _ _ _ _).advance (State.mirror_role _ _ _ _)).widen

/-- An order that is RETURNED is, with its reason, and no other is touched. -/
theorem State.orderReturn_leaves (why : Nat) : State.Advance dspRegs dspParts s (s.orderReturn i why) ∧
    (s.orderReturn i why).order i = { s.order i with state := Os.RETURNED, why := why % 256 } ∧
    ∀ j, j ≠ i → (s.orderReturn i why).order j = s.order j := by
  have hset := (s.advance_setOrder i { s.order i with state := Os.RETURNED, why := why % 256 }).widen (regs := dspRegs) (parts := dspParts)
  have hrest : (s.setOrder i { s.order i with state := Os.RETURNED, why := why % 256 }).OrdersKept (s.orderReturn i why) :=
    ((State.ordersKept_bump _ (dspCnt 1)).trans (State.ordersKept_trace _ _ _ _ _)).trans (State.ordersKept_raise _ _ _)
  exact ⟨hset.trans hrest.advance, (hrest.order i).trans (s.order_setOrder_same i _),
    fun j hj => (hrest.order j).trans (s.order_setOrder_other i _ hj)⟩

/-- What the turn of one element gives stays to the end of the list, if every turn keeps it. -/
theorem foldl_of_turn {α : Type} {P : State → Prop} {f : State → α → State} {a : α} (hown : ∀ s, P (f s a)) (hkeep : ∀ s b, P s → P (f s b))
    {l : List α} (ha : a ∈ l) (s : State) : P (l.foldl f s) := by
  have hstay : ∀ (l : List α) (s : State), P s → P (l.foldl f s) := fun l => by
    induction l with
    | nil => exact fun _ h => h
    | cons b l ih => exact fun s h => ih _ (hkeep s b h)
  induction l generalizing s with
  | nil => exact absurd ha List.not_mem_nil
  | cons b l ih =>
    rcases List.mem_cons.mp ha with rfl | ha
    · exact hstay l _ (hown s)
    · exact ih ha _

theorem SMap.get_mem {α : Type} (m : SMap α) (d : α) {k : Nat} (h : k ∈ m.keys) : (k, m.get d k) ∈ m := by
  induction m with
  | nil => exact absurd h List.not_mem_nil
  | cons e m ih =>
    obtain ⟨k', v⟩ := e
    by_cases hk : k = k'
    · rw [SMap.get, if_pos hk, hk]
      exact List.mem_cons_self
    · rw [SMap.get, if_neg hk]
      exact List.mem_cons_of_mem _ (ih ((List.mem_cons.mp h).resolve_left hk))

/-- A machine leaves (R276): of DSP's state, its orders in flight are RETURNED. -/
theorem State.dspDrop_leaves (mi : Nat) {why : Nat} (hwhy : why < 256) : State.Advance dspRegs dspParts s (s.dspDrop mi why) ∧
    (s.blkOn Blk.DSP = true → s.isStandby = false → ∀ i ∈ s.dsp.orders.keys, ((s.order i).state = Os.OFFERED ∨ (s.order i).state = Os.ACCEPTED) →
      (s.order i).assigned = some mi → ((s.dspDrop mi why).order i).state = Os.RETURNED ∧ ((s.dspDrop mi why).order i).why = why) := by
  constructor
  · unfold State.dspDrop
    split
    · exact .refl _ _ s
    · refine State.Advance.foldl (fun u j => ?_) _ s
      obtain ⟨h, -⟩ := u.orderReturn_leaves j why
      exact h
  · intro hon hst i hi hstate has
    rw [State.dspDrop, hon, hst, if_neg (by decide)]
    have hmem : i ∈ (s.dsp.orders.filter fun e => (e.2.state == Os.OFFERED || e.2.state == Os.ACCEPTED) && e.2.assigned == some mi).map Prod.fst :=
      List.mem_map_of_mem (f := Prod.fst) (a := (i, s.order i)) (List.mem_filter.mpr ⟨SMap.get_mem _ _ hi, by simpa [has] using hstate⟩)
    have hown : ∀ u : State, ((u.orderReturn i why).order i).state = Os.RETURNED ∧ ((u.orderReturn i why).order i).why = why := fun u => by
      obtain ⟨-, h, -⟩ := u.orderReturn_leaves i why
      rw [h]
      exact ⟨rfl, Nat.mod_eq_of_lt hwhy⟩
    refine foldl_of_turn (P := fun u => (u.order i).state = Os.RETURNED ∧ (u.order i).why = why) (f := fun u j => u.orderReturn j why) hown
      (fun u j hu => ?_) hmem s
    by_cases hj : i = j
    · exact hj ▸ hown u
    · obtain ⟨-, -, h⟩ := u.orderReturn_leaves j why
      rw [h i hj]
      exact hu

end Orders

/-! ## Orders of a machine that joins again -/

/-- `t` is `s` after orders were sent again to machines awake: no machine and no assignment has changed. -/
structure State.Resent (s t : State) : Prop where
  advance : State.Advance [] [.dsp, .ahn, .air] s t
  mach : t.air.mach = s.air.mach
  jctrs : t.air.jctrs = s.air.jctrs
  assigned : ∀ i, (t.order i).assigned = (s.order i).assigned

theorem State.Resent.refl (s : State) : s.Resent s := ⟨.refl _ _ s, rfl, rfl, fun _ => rfl⟩

theorem State.Resent.trans {s t u : State} (h : s.Resent t) (k : t.Resent u) : s.Resent u :=
  ⟨h.advance.trans k.advance, k.mach.trans h.mach, k.jctrs.trans h.jctrs, fun i => (k.assigned i).trans (h.assigned i)⟩

theorem State.Resent.airM {s t : State} (h : s.Resent t) (k : Nat) : t.airM k = s.airM k := by rw [State.airM, h.mach, State.airM]

/-- An order of an awake machine, set with its machine, is sent again. -/
theorem State.resent_sendOrder {s : State} {i mi : Nat} {o : Order} (hawake : s.machAwake mi = true) (has : o.assigned = some mi)
    (hsame : o.assigned = (s.order i).assigned) : s.Resent ((s.setOrder i o).sendOrder i) := by
  have hadv := s.advance_setOrder i o
  have hair : (s.setOrder i o).air = s.air := hadv.same .air
  have hm : ((s.setOrder i o).airM mi).state = .awake := by
    rw [State.airM, hair]
    exact eq_of_beq hawake
  have hset : s.Resent (s.setOrder i o) := by
    refine ⟨hadv.widen, by rw [hair], by rw [hair], fun j => ?_⟩
    by_cases hj : j = i
    · rw [hj, s.order_setOrder_same]
      exact hsame
    · rw [s.order_setOrder_other i o hj]
  refine hset.trans ?_
  rw [State.sendOrder, s.order_setOrder_same]
  simp only [has, State.airData, hm, if_true]
  exact ⟨((State.progress_air _ _).advance rfl).widen, rfl, rfl, fun _ => rfl⟩

theorem State.resent_dspRejoin {s : State} {mi : Nat} (hawake : s.machAwake mi = true) : s.Resent (s.dspRejoin mi) := by
  unfold State.dspRejoin
  split
  · exact .refl s
  next hon =>
    generalize hl : (s.ordersIn Os.OFFERED).filter (fun i => (s.order i).assigned == some mi) = l
    have hof : ∀ i ∈ l, (s.order i).assigned = some mi := fun i hi => by
      rw [← hl] at hi
      obtain ⟨-, has⟩ := List.mem_filter.mp hi
      exact eq_of_beq has
    clear hl hon
    induction l generalizing s with
    | nil => exact .refl s
    | cons i l ih =>
      have hone : s.Resent ((s.setOrder i { s.order i with offeredAt := s.mono }).sendOrder i) :=
        State.resent_sendOrder hawake (hof i List.mem_cons_self) rfl
      refine hone.trans (ih ?_ fun j hj => (hone.assigned j).trans (hof j (List.mem_cons_of_mem _ hj)))
      rw [State.machAwake, hone.airM]
      exact hawake

end Sys2Proof.Machine
end

section
/-!
Machines of the fleet (R225, R226, R233, R234, R247, R275, R276): joining, loss, DETACH, and messages on ports 0 and 1. The last theorem
settles O32.
-/

namespace Sys2Proof.Machine

/-! ## A request to join (R225, R226) -/

section Join

variable (s : State)

theorem State.machsKept_draw : s.MachsKept s.draw.2 := (s.progress_draw.advance rfl).machsKept

/-- A join is answered. -/
theorem State.machsKept_joinRsp (modem serial status : Nat) (mi : Option Nat) (wch : Nat) (relay : Bool) :
    s.MachsKept (s.joinRsp modem serial status mi wch relay) :=
  (s.machsKept_draw.trans (State.machsKept_nextFctr _)).trans (State.machsKept_airNormal _ _ _)

/-- A machine that joins has what it asked for and its channel, and no other is touched. -/
theorem State.joinAccept_leaves (mi modem caps wch : Nat) : State.MachStep mi s (s.joinAccept mi modem caps wch) ∧
    ((s.joinAccept mi modem caps wch).airM mi).state = .awake ∧ ((s.joinAccept mi modem caps wch).airM mi).caps = caps ∧
    ((s.joinAccept mi modem caps wch).airM mi).wch = wch ∧ ((s.joinAccept mi modem caps wch).airM mi).lastHeard = s.mono ∧
    (s.joinAccept mi modem caps wch).pend Ev.AIR_JOIN_OK = true := by
  obtain ⟨hdraw, -⟩ := s.withdraw_leaves mi
  have hfree := hdraw.trans ((s.withdraw mi).machsKept_draw.step mi)
  have hmono : (s.withdraw mi).draw.2.mono = s.mono := hfree.advance.same .mono
  have hwake : ∀ (u : State) (c : Prop) [Decidable c], u.MachsKept (if c then u.raise Ev.AIR_WAKE 0 else u) := fun u c _ => by
    split
    · exact u.machsKept_raise _ _
    · exact .refl u
  have hset : ∀ (m : AirMach) (c : Prop) [Decidable c], m.state = .awake → m.caps = caps → m.wch = wch → m.lastHeard = s.mono →
      let u := if c then ((s.withdraw mi).draw.2.setAirM mi m).raise Ev.AIR_WAKE 0 else (s.withdraw mi).draw.2.setAirM mi m
      let t := (u.grantAll mi).raise Ev.AIR_JOIN_OK mi
      State.MachStep mi s t ∧ (t.airM mi).state = .awake ∧ (t.airM mi).caps = caps ∧ (t.airM mi).wch = wch ∧ (t.airM mi).lastHeard = s.mono ∧
      t.pend Ev.AIR_JOIN_OK = true := fun m c _ hstate hcaps hwch hheard => by
    intro u t
    have hu : ((s.withdraw mi).draw.2.setAirM mi m).MachsKept u := hwake _ c
    have hgrants : State.Regrants mi u t := (u.regrants_grantAll mi).trans ((State.machsKept_raise _ _ _).regrants mi)
    obtain ⟨_, _, _, _, _, _, _, hown, -⟩ := hgrants.own
    rw [hu.airM, State.airM_setAirM] at hown
    rw [hown]
    exact ⟨((hfree.trans (State.machStep_setAirM _ mi m)).trans (hu.step mi)).trans hgrants.step, hstate, hcaps, hwch, hheard,
      State.pend_raise _ _ _⟩
  exact hset _ _ rfl rfl rfl hmono

end Join

section JoinReq

variable {s : State} {rx : AirRx} {mi : Nat}

/-- The frames of the last 2 s are noted. -/
def State.recentSet (s : State) (l : List (Nat × Nat × Nat)) : State := { s with air := { s.air with recent := l } }

theorem State.machsKept_recentSet (s : State) (l : List (Nat × Nat × Nat)) : s.MachsKept (s.recentSet l) := s.machsKept_air rfl rfl

theorem State.recentSet_miOfSerial (s : State) (l : List (Nat × Nat × Nat)) (serial : Nat) :
    (s.recentSet l).miOfSerial serial = s.miOfSerial serial := rfl

/-- A machine joins on a channel, is shown to the standby, and is answered. -/
def State.joined (s : State) (mi modem serial jctr caps wch : Nat) (relay : Bool) : State :=
  (((s.setJctr serial (jctr + 1)).joinAccept mi modem caps wch).airMachMirror mi).joinRsp modem serial 0 (some mi) wch relay

/-- After a join, AIR keeps the machine awake and the counter it is to pass next; the orders offered to it go out again. -/
theorem State.joined_leaves (s : State) (mi modem serial jctr caps wch : Nat) (relay : Bool) :
    let t := (s.joined mi modem serial jctr caps wch relay).dspRejoin mi
    (t.airM mi).state = .awake ∧ t.lastJctr serial = jctr + 1 ∧ (t.airM mi).caps = caps ∧ (t.airM mi).wch = wch ∧
    (t.airM mi).lastHeard = s.mono ∧ t.pend Ev.AIR_JOIN_OK = true ∧ ∀ k, k ≠ mi → t.airM k = s.airM k := by
  intro t
  obtain ⟨hstep, hstate, hcaps, hwch, hheard, hpend⟩ := (s.setJctr serial (jctr + 1)).joinAccept_leaves mi modem caps wch
  have hrest : ((s.setJctr serial (jctr + 1)).joinAccept mi modem caps wch).MachsKept (s.joined mi modem serial jctr caps wch relay) :=
    (State.machsKept_mirror _ _ _ _).trans (State.machsKept_joinRsp _ _ _ _ _ _ _)
  have hawake : (s.joined mi modem serial jctr caps wch relay).machAwake mi = true := by
    rw [State.machAwake, hrest.airM, hstate]
    rfl
  have hresent : (s.joined mi modem serial jctr caps wch relay).Resent t := State.resent_dspRejoin hawake
  have hm : t.airM mi = ((s.setJctr serial (jctr + 1)).joinAccept mi modem caps wch).airM mi := (hresent.airM mi).trans (hrest.airM mi)
  have hctr : t.air.jctrs = s.air.jctrs.set 0 serial (jctr + 1) := (hresent.jctrs.trans hrest.jctrs).trans hstep.jctrs
  refine ⟨by rw [hm, hstate], ?_, by rw [hm, hcaps], by rw [hm, hwch], by rw [hm, hheard]; rfl,
    hresent.advance.pend _ (by decide) (hrest.advance.pend _ (by decide) hpend), fun k hk => ?_⟩
  · rw [State.lastJctr, hctr]
    exact SMap.get_set_same _ _ _ _
  · exact ((hresent.airM k).trans (hrest.airM k)).trans (hstep.others k hk)

variable (hw : s.works Blk.AIR) (hact : s.isActive = true) (hrx : s.rxGood rx) (hnew : s.airSeen (s.rxFrame rx) = false)
  (hft : (s.rxFrame rx).ftype = Ft.JOIN_REQ) (hlen : (s.rxFrame rx).payload.length = 16) (hkind : s.modemKind rx.modem = Phy.NARROW)
include hw hact hrx hnew hkind

/-- A good frame of a control channel is taken, and read as before. -/
theorem State.joinReq_good : ∃ l, (s.recentSet l).airTransmits = true ∧ s.airCheck rx = (s.recentSet l, true) ∧
    (s.recentSet l).rxFrame rx = s.rxFrame rx ∧ (s.recentSet l).wideRx rx = false := by
  have ⟨_, _, hc, _⟩ := hrx
  obtain ⟨l, hl⟩ := State.airCheck_good (State.airAddressed_rxGood hrx) hc hnew
  refine ⟨l, ?_, hl, rfl, ?_⟩
  · rw [State.airTransmits, (s.machsKept_recentSet l).advance.isActive, hact, Bool.and_true]
    exact hw.2
  · rw [State.wideRx]
    exact beq_eq_false_iff_ne.mpr (by rw [show (s.recentSet l).modemKind rx.modem = s.modemKind rx.modem from rfl, hkind]; decide)

include hft hlen

theorem exec_joinReqRx_known {serial jctr caps wch : Nat} (hs : Bytes.at' (s.rxFrame rx).payload 0 8 = serial)
    (hj : Bytes.at' (s.rxFrame rx).payload 8 4 = jctr) (hcaps : Bytes.at' (s.rxFrame rx).payload 12 1 = caps)
    (hmi : s.miOfSerial serial = some mi) (hctr : s.lastJctr serial ≤ jctr) (hok : s.joinChannel mi caps (s.airM mi).bundleLen = (0, wch)) :
    ∃ l, exec (.joinReqRx rx) s = .next (((s.recentSet l).joined mi rx.modem serial jctr caps wch
      (s.flagB mi F.AIR_MACH_REG_RELAY && bitOf caps 0)).dspRejoin mi) := by
  obtain ⟨l, hsends, hcheck, hframe, hwide⟩ := State.joinReq_good hw hact hrx hnew hkind
  have hctr' : ¬ jctr < (s.recentSet l).lastJctr serial := Nat.not_lt.mpr hctr
  have hok' : (s.recentSet l).joinChannel mi caps ((s.recentSet l).airM mi).bundleLen = (0, wch) := hok
  refine ⟨l, (whileOn_eq _ hw.1 hw.2).trans (congrArg Host.Outcome.next ?_)⟩
  simp only [State.joinReq, hcheck, hsends, hframe, hwide, hft, hlen, hs, hj, hcaps, s.recentSet_miOfSerial, hmi, hctr', hok', bne_self_eq_false,
    Bool.not_true, Bool.or_self, Bool.false_eq_true, if_false, if_true]
  rfl

/-- An unknown serial is refused. -/
theorem exec_joinReqRx_unknown (hmi : s.miOfSerial (Bytes.at' (s.rxFrame rx).payload 0 8) = none) :
    ∃ l, exec (.joinReqRx rx) s = .next (((s.recentSet l).raise Ev.AIR_JOIN_REFUSED 0).joinRsp rx.modem
      (Bytes.at' (s.rxFrame rx).payload 0 8) 1 none 0 false) := by
  obtain ⟨l, hsends, hcheck, hframe, hwide⟩ := State.joinReq_good hw hact hrx hnew hkind
  refine ⟨l, (whileOn_eq _ hw.1 hw.2).trans (congrArg Host.Outcome.next ?_)⟩
  simp only [State.joinReq, hcheck, hsends, hframe, hwide, hft, hlen, s.recentSet_miOfSerial, hmi, bne_self_eq_false, Bool.not_true, Bool.or_self,
    Bool.false_eq_true, if_false]

end JoinReq

/-! ## Loss and DETACH (R233, R247, R276) -/

section Leaving

theorem State.machLost_leaves (s : State) (mi : Nat) : State.MachStep mi s (s.machLost mi) ∧
    (s.machLost mi).airM mi = { s.airM mi with state := .lost, lostAt := s.mono } ∧ (s.machLost mi).pend Ev.AIR_MACH_LOST = true := by
  have hraise := State.machsKept_raise (s.setAirM mi { s.airM mi with state := .lost, lostAt := s.mono }) Ev.AIR_MACH_LOST 0
  exact ⟨(s.machStep_setAirM mi _).trans (hraise.step mi), (hraise.airM mi).trans (s.airM_setAirM mi _), State.pend_raise _ _ _⟩

/-- A machine that must join again, as DETACH leaves it. -/
def AirMach.detached (m : AirMach) : AirMach :=
  { m with state := .notJoined, move := Option.none, sleepSent := false, sleepAcked := false, heldFrames := [] }

/-- The machine is detached, its grants withdrawn. -/
def State.machGone (s : State) (mi : Nat) : State := (s.withdraw mi).setAirM mi ((s.withdraw mi).airM mi).detached

variable {s : State} {mi : Nat} (hw : s.works Blk.AIR) (hst : s.isStandby = false)
include hw hst

theorem exec_machineLost (hawake : (s.airM mi).state = .awake) (hpast : (s.airM mi).lastHeard + 10000000000 ≤ s.mono) :
    exec (.machineLost mi) s = .next ((s.machLost mi).dspDrop mi 6) := by
  have hsilent : s.machSilent mi = true := by
    have hlong : s.passed (s.airM mi).lastHeard (10 * nsPerSec) = true := by
      rw [State.passed, decide_eq_true_iff]
      exact hpast
    rw [State.machSilent, hawake, hst, hlong]
    rfl
  exact (whileOn_eq _ hw.1 hw.2).trans (congrArg Host.Outcome.next (if_pos hsilent))

theorem exec_machDetach (hmi : mi = s.airIdx) (hm : (s.airM mi).state ≠ .notJoined) :
    exec .machDetach s = .next ((s.machGone mi).dspDrop mi 6) := by
  subst hmi
  have hdetach : s.airDetach = s.machGone s.airIdx := by
    simp only [State.airDetach, hst, Bool.false_or, beq_iff_eq, hm, if_false]
    rfl
  refine (whileOn_eq _ hw.1 hw.2).trans (congrArg Host.Outcome.next ?_)
  simp only [State.airDetaches, hdetach]
  rw [State.machGone, State.airM_setAirM]
  exact if_pos rfl

end Leaving

/-! ## Messages of a machine (R234, R275) -/

section Messages

variable {s : State} {rx : AirRx} {mi i : Nat} (hw : s.works Blk.AIR) (hst : s.isStandby = false) (hrx : s.rxGood rx)
  (hwide : s.wideRx rx = true) (hnew : s.airSeen (s.rxFrame rx) = false) (hmi : s.miOfAddr (s.rxFrame rx).src = some mi)
  (hft : (s.rxFrame rx).ftype = Ft.DATA_UP)

/-- ACCEPT of an order that was offered makes it ACCEPTED. -/
theorem State.orderAccept_order {s : State} {mi handle i : Nat} (h : s.orderWith mi handle Os.OFFERED Os.OFFERED = some i) :
    (s.orderAccept mi handle).order i = { s.order i with state := Os.ACCEPTED } := by
  have hset := s.order_setOrder_same i { s.order i with state := Os.ACCEPTED }
  have htrace := (s.setOrder i { s.order i with state := Os.ACCEPTED }).ordersKept_trace Tr.ACCEPT i (some mi) 0
  simp only [State.orderAccept, h]
  split
  · exact (((State.ordersKept_sessionOpen _ _ _ _).trans (State.ordersKept_raise _ _ _)).order i).trans ((htrace.order i).trans hset)
  · exact (htrace.order i).trans hset

/-- Which order a machine answers for is a matter of the orders. -/
theorem State.orderWith_of_orders {s t : State} (h : t.dsp.orders = s.dsp.orders) (mi handle st st' : Nat) :
    t.orderWith mi handle st st' = s.orderWith mi handle st st' := by
  have ho : ∀ i, t.order i = s.order i := fun i => by rw [State.order, h, State.order]
  simp only [State.orderWith, State.orderRef, ho]

include hw hst hrx hwide hnew hmi hft

/-- The acknowledgement of SLEEP is kept of a machine that SLEEP was sent to. -/
theorem exec_dataUpRx_sleepAck (hlen : 4 ≤ (s.rxFrame rx).payload.length) (hport : Bytes.at' (s.rxFrame rx).payload 0 1 = 0)
    (hack : Bytes.at' (s.rxFrame rx).payload 2 1 = 0x81) (hof : Bytes.at' (s.rxFrame rx).payload 3 1 = 2)
    (hsent : (s.airM mi).sleepSent = true) : ∃ u, State.MachStep mi s u ∧ (s.airM mi).HeardFrom s.mono (u.airM mi) ∧
      exec (.dataUpRx rx) s = .next (u.setAirM mi { u.airM mi with sleepAcked := true }) := by
  have ⟨_, _, hc, _⟩ := hrx
  obtain ⟨u, hu, hstep, hown⟩ := State.airFrom_good (State.airAddressed_rxGood hrx) hc hnew hmi hft hwide
  refine ⟨u, hstep, hown, (whileOn_eq _ hw.1 hw.2).trans (congrArg Host.Outcome.next ?_)⟩
  have hframe : u.rxFrame rx = s.rxFrame rx := hstep.advance.rxFrame
  have hshort : ¬ (s.rxFrame rx).payload.length < 2 := by omega
  have hsent' : (u.airM mi).sleepSent = true := by
    obtain ⟨_, _, _, _, _, _, _, _, _, hown⟩ := hown
    rw [hown]
    exact hsent
  simp only [hu, hframe, hstep.advance.isStandby, hst, hshort, hport, hack, hof, hsent', decide_false, Bool.or_self, Bool.false_eq_true, if_false,
    if_true, and_self]

/-- A message on port 1 is DSP's. -/
theorem exec_dataUpRx_order (hon : s.blkOn Blk.DSP = true) (hlen : 8 ≤ (s.rxFrame rx).payload.length)
    (hport : Bytes.at' (s.rxFrame rx).payload 0 1 = 1) : ∃ u, State.MachStep mi s u ∧
      exec (.dataUpRx rx) s = .next (u.orderMessage mi (s.rxFrame rx).payload) := by
  have ⟨_, _, hc, _⟩ := hrx
  obtain ⟨u, hu, hstep, -⟩ := State.airFrom_good (State.airAddressed_rxGood hrx) hc hnew hmi hft hwide
  refine ⟨u, hstep, (whileOn_eq _ hw.1 hw.2).trans (congrArg Host.Outcome.next ?_)⟩
  have hframe : u.rxFrame rx = s.rxFrame rx := hstep.advance.rxFrame
  have hshort : ¬ (s.rxFrame rx).payload.length < 2 := by omega
  have hon' : u.blkOn Blk.DSP = true := hstep.advance.flag.trans hon
  simp only [hu, hframe, hstep.advance.isStandby, hst, hshort, hport, hon', decide_false, Bool.or_self, Bool.false_eq_true, if_false, if_true,
    one_ne_zero]

end Messages

/-! ## The obligation -/

/-- Settles O32: a join by the machine it leaves, a loss and a DETACH by the machine and its orders, a message by whom it reaches. -/
theorem fleetMembership : Obligations.FleetMembership := by
  unfold Obligations.FleetMembership
  refine ⟨fun s rx mi hw hact hrx hnew hft hlen hkind hmi hctr hok => ?joins, fun s rx hw hact hrx hnew hft hlen hkind hmi => ?refused,
    fun s mi hw hst hawake hpast => ?lost, fun s mi hw hmi hst hm => ?detached,
    fun s rx mi hw hst hrx hwide hnew hmi hft hlen hport hack hof hsent => ?acks,
    fun s rx mi i hw hon hst hrx hwide hnew hmi hft hlen hport hmsg hi => ?accepts⟩
  case joins =>
    obtain ⟨l, ht⟩ := exec_joinReqRx_known hw hact hrx hnew hft hlen hkind rfl rfl rfl hmi hctr (Prod.ext hok rfl)
    obtain ⟨hstate, hjctr, hcaps, hwch, hheard, hpend, hothers⟩ := (s.recentSet l).joined_leaves mi rx.modem _ _ _ _ _
    exact ⟨_, ht, hstate, hjctr, hcaps, hwch, hheard, hpend, hothers⟩
  case refused =>
    obtain ⟨l, ht⟩ := exec_joinReqRx_unknown hw hact hrx hnew hft hlen hkind hmi
    have hrsp := fun serial => State.machsKept_joinRsp ((s.recentSet l).raise Ev.AIR_JOIN_REFUSED 0) rx.modem serial 1 none 0 false
    have hkept := fun serial => ((s.machsKept_recentSet l).trans (State.machsKept_raise _ Ev.AIR_JOIN_REFUSED 0)).trans (hrsp serial)
    exact ⟨_, ht, (hkept _).mach, (hrsp _).advance.pend _ (by decide) (State.pend_raise _ _ _)⟩
  case lost =>
    obtain ⟨hstep, hm, hpend⟩ := s.machLost_leaves mi
    obtain ⟨hadv, hdrop⟩ := (s.machLost mi).dspDrop_leaves mi (why := 6) (by decide)
    have hair : ((s.machLost mi).dspDrop mi 6).air = (s.machLost mi).air := hadv.same .air
    have hat : ∀ k, ((s.machLost mi).dspDrop mi 6).airM k = (s.machLost mi).airM k := fun k => by rw [State.airM, hair, State.airM]
    have hdsp : (s.machLost mi).dsp = s.dsp := hstep.advance.same .dsp
    refine ⟨_, exec_machineLost hw hst hawake hpast, (hat mi).trans hm, hadv.pend _ (by decide) hpend,
      fun k hk => (hat k).trans (hstep.others k hk), fun hon i hi hstate has => ?_⟩
    have ho : (s.machLost mi).order i = s.order i := by rw [State.order, hdsp, State.order]
    exact hdrop (hstep.advance.flag.trans hon) (hstep.advance.isStandby.trans hst) i (by rwa [hdsp]) (by rwa [ho]) (by rwa [ho])
  case detached =>
    obtain ⟨hdraw, n, hm'⟩ := s.withdraw_leaves mi
    have hat : (s.machGone mi).airM mi = ((s.withdraw mi).airM mi).detached := State.airM_setAirM _ _ _
    have hstep : State.MachStep mi s (s.machGone mi) := hdraw.trans (State.machStep_setAirM _ mi _)
    obtain ⟨hadv, -⟩ := (s.machGone mi).dspDrop_leaves mi (why := 6) (by decide)
    have hair : ((s.machGone mi).dspDrop mi 6).air = (s.machGone mi).air := hadv.same .air
    have hall : ∀ k, ((s.machGone mi).dspDrop mi 6).airM k = (s.machGone mi).airM k := fun k => by rw [State.airM, hair, State.airM]
    rw [hm'] at hat
    refine ⟨_, exec_machDetach hw hst hmi hm, ?_, ?_, ?_, ?_, fun k hk => (hall k).trans (hstep.others k hk)⟩
    all_goals rw [hall, hat]; rfl
  case acks =>
    obtain ⟨u, hstep, hown, ht⟩ := exec_dataUpRx_sleepAck hw hst hrx hwide hnew hmi hft hlen hport hack hof hsent
    obtain ⟨hheard, -⟩ := hown.keeps
    have hat := u.airM_setAirM mi { u.airM mi with sleepAcked := true }
    exact ⟨_, ht, by rw [hat], by rw [hat]; exact hheard, (hstep.trans (u.machStep_setAirM mi _)).others⟩
  case accepts =>
    obtain ⟨u, hstep, ht⟩ := exec_dataUpRx_order hw hst hrx hwide hnew hmi hft hon hlen hport
    have hdsp : u.dsp = s.dsp := hstep.advance.same .dsp
    have hi' := (State.orderWith_of_orders (congrArg DspSt.orders hdsp) mi _ 3 3).trans hi
    have hmsg' : u.orderMessage mi (s.rxFrame rx).payload = u.orderAccept mi (Bytes.at' (s.rxFrame rx).payload 4 4) := by
      simp only [State.orderMessage, hmsg, Nat.not_lt.mpr hlen, if_false, if_true]
    have ho : u.order i = s.order i := by rw [State.order, hdsp, State.order]
    exact ⟨_, ht, by rw [hmsg', State.orderAccept_order hi', ho]⟩

end Sys2Proof.Machine
end

section
/-!
A save restored while an output was held leaves PENDING at 65,535 and thresholds in the spill count, but the hold itself is not among what is
saved (R400, R401). The next pulse lets the spill count refill PENDING and find the output held anew: event 211, which where the host routes
it sends an MSI-X message (R340) over and above the pulse. The last theorem refutes O60, whose PULSE_EMIT clause has the pulse alone leave.
-/

namespace Sys2Proof.Machine

/-- Output 0 as a restored save leaves it: 65,535 pulses pend, and two thresholds of 1 J wait in the spill count. -/
def fullPulse : DmuPulse := { spill := 2 * (1000 * mj), pending := 65535, busy := 0, held := false }

/-- The module is active with DMU and output 0 enabled at a weight of 1 J, and the host is sent event 211 by vector 0. -/
def State.pulseFull : State :=
  let s := ((State.reset.setFld (Blk.en Blk.DMU) 1).setFldB 0 F.DMU_PO_CFG_EN 1).setFldB 0 F.DMU_PO_WEIGHT_WEIGHT_J 1
  let s := ((s.setFld F.HST_STATUS_MSIX_EN 1).setFld F.HST_STATUS_BME 1).setFld F.HST_STATUS_LINK_UP 1
  let s := (s.setFldB Ev.DMU_PULSE_HOLD F.EVT_ROUTE_HOST_EN 1).setFld (maskFld 0) 0
  { s with
    ahn := { s.ahn with role := .active }
    evt := { s.evt with fresh := [(0, true)] }
    dmu := { s.dmu with m := { s.dmu.m with pulses := [(0, fullPulse)] } } }

theorem pulseFull_ready : State.pulseFull.dmuClocks = true ∧ State.pulseFull.flagB 0 F.DMU_PO_CFG_EN = true ∧
    State.pulseFull.pulse 0 = fullPulse ∧ State.pulseFull.out = [] := by decide +kernel

/-- The pulse leaves, and then what the spill count gives. -/
def State.pulseSent (s : State) (n : Nat) : State :=
  ((((s.setPulse n { s.pulse n with
    pending := (s.pulse n).pending - 1, busy := s.mono + 2 * (s.fldB n F.DMU_PO_CFG_WIDTH_MS * nsPerMs) }).setFldB n F.DMU_PO_STAT_PULSES
      (s.fldB n F.DMU_PO_STAT_PULSES + 1)).emit (.pulse (.pulseOut n) (s.fldB n F.DMU_PO_CFG_WIDTH_MS * nsPerMs))).pulseSpill n)

/-- A pulse and a message leave. -/
theorem pulseSent_out : (State.pulseFull.pulseSent 0).out.length = 2 := by decide +kernel

/-- An output whose pulse is due emits it. -/
theorem exec_pulseEmit_due {s : State} {n : Nat} (hs : s.running = true) (hclocks : s.dmuClocks = true) (hen : s.flagB n F.DMU_PO_CFG_EN = true)
    (hpend : 0 < (s.pulse n).pending) (hrest : (s.pulse n).busy ≤ s.mono) : exec (.pulseEmit n) s = .next (s.pulseSent n) := by
  refine (whileRunning_eq _ hs).trans (congrArg Host.Outcome.next ?_)
  simp only [hclocks, hen, Nat.pos_iff_ne_zero.mp hpend, Nat.not_lt.mpr hrest, decide_false, Bool.not_true, Bool.or_self, Bool.false_eq_true,
    if_false, State.pulseSent]
  rfl

/-- Refutes O60: its PULSE_EMIT clause has nothing but the pulse leave, but a pulse of an output newly found held raises event 211, whose
message leaves too. -/
theorem not_accessMeterAndUpdateRows : ¬ Obligations.AccessMeterAndUpdateRows := by
  unfold Obligations.AccessMeterAndUpdateRows
  intro h
  obtain ⟨-, -, -, -, -, -, -, hPulse, -⟩ := h
  obtain ⟨hclocks, hen, hpulse, hout⟩ := pulseFull_ready
  have hpend : 0 < (State.pulseFull.pulse 0).pending := by rw [hpulse]; decide
  have hrest : (State.pulseFull.pulse 0).busy ≤ State.pulseFull.mono := by rw [hpulse]; exact Nat.zero_le _
  obtain ⟨t, ht, hsent⟩ := hPulse State.pulseFull 0 hclocks (by decide) hen hpend hrest
  have hdue : exec (.pulseEmit 0) State.pulseFull = .next (State.pulseFull.pulseSent 0) :=
    exec_pulseEmit_due rfl hclocks hen hpend hrest
  have hsame : State.pulseFull.pulseSent 0 = t := Host.Outcome.next.inj (hdue.symm.trans ht)
  have hlen := pulseSent_out
  rw [hsame, hsent, hout] at hlen
  exact absurd hlen (by decide)

end Sys2Proof.Machine
end
